-- ==== Sys2Proof/Word.lean ====
section
/-!
DEFINITION. The hub's word (R10: registers are 32 bits wide) and byte.
-/

namespace Sys2Proof

/-- A register or bus word (R10). -/
abbrev Word := BitVec 32

/-- The smallest addressable unit (R10). -/
abbrev Byte := BitVec 8

end Sys2Proof
end

