-- ==== Sys2Proof/Machine/Line.lean ====
section
/-!
DEFINITION. The line coding of a Wembe lane (R316 to R320, R324): scrambler, bit stuffing and delimiters, transmitter and
receiver; and the frames as bits, with `HCRC` and CRC (R320, R321, R323). Lists of bits are in line order.
-/

namespace Sys2Proof.Machine

/-! ### Bits and checks -/

/-- The `n` bits of a number, least significant first (R320). -/
def bitsLE (n v : Nat) : List Bool := (List.range n).map v.testBit

/-- The number whose bits, least significant first, are given. -/
def ofBits : List Bool → Nat
  | [] => 0
  | b :: t => b.toNat + 2 * ofBits t

/-- The bits of words, each least significant bit first (R320). -/
def wordsBits (ws : List Word) : List Bool := ws.flatMap fun w => bitsLE 32 w.toNat

/-- The first `n` words of a list of bits. -/
def bitsWords : Nat → List Bool → List Word
  | 0, _ => []
  | n + 1, l => wd (ofBits (l.take 32)) :: bitsWords n (l.drop 32)

/-- Bits through a CRC register that shifts right, with its polynomial reversed. -/
def crcRun (poly : Nat) : Nat → List Bool → Nat
  | c, [] => c
  | c, b :: l => if c.testBit 0 = b then crcRun poly (c / 2) l else crcRun poly ((c / 2) ^^^ poly) l

/-- `HCRC` over header bytes 0 to 14 (R321): x^8 + x^2 + x + 1 from 0, least significant bit first. -/
def crc8 (l : List Bool) : Nat := crcRun 0xE0 0 l

/-- CRC-32 of IEEE 802.3 of bits in sending order, as the Ethernet FCS (R320). -/
def crcOfBits (l : List Bool) : Nat := crcRun 0xEDB88320 0xFFFFFFFF l ^^^ 0xFFFFFFFF

/-! ### Frames (R320, R321) -/

/-- A frame (R321). -/
structure Frame where
  type : Nat := 0
  addr : Nat := 0
  src : Nat := 0
  dst : Nat := 0
  ttl : Nat := 0
  ver : Nat := 2
  pairId : Nat := 0
  arg : Word := 0#32
  payload : List Word := []
  deriving DecidableEq, Repr

/-- `LEN` (R321). -/
def Frame.len (f : Frame) : Nat := 4 * f.payload.length

/-- The header's bytes 0 to 14: words 0 to 2, and word 3 without `HCRC` (R321). -/
def Frame.headBits (f : Frame) : List Bool :=
  bitsLE 4 f.type ++ bitsLE 2 f.addr ++ bitsLE 6 f.src ++ bitsLE 6 f.dst ++ bitsLE 6 f.ttl ++ bitsLE 4 0 ++ bitsLE 4 f.ver ++
    bitsLE 12 f.len ++ bitsLE 4 0 ++ bitsLE 16 f.pairId ++ bitsLE 32 f.arg.toNat ++ bitsLE 24 0

/-- Header, payload and CRC as bits in sending order (R320, R321). -/
def Frame.content (f : Frame) : List Bool :=
  let head := f.headBits ++ bitsLE 8 (crc8 f.headBits)
  let body := head ++ wordsBits f.payload
  body ++ bitsLE 32 (crcOfBits body)

/-- The frame whose header and content are given, and its `LEN` (R321). -/
def Frame.ofContent (l : List Bool) : Frame × Nat :=
  let field (lo n : Nat) : Nat := ofBits ((l.drop lo).take n)
  let len := field 32 12
  ({ type := field 0 4, addr := field 4 2, src := field 6 6, dst := field 12 6, ttl := field 18 6, ver := field 28 4,
     pairId := field 48 16, arg := wd (field 64 32), payload := bitsWords (len / 4) (l.drop 128) }, len)

/-- The header is whole and passes `HCRC` (R321, R323). -/
def headGood (l : List Bool) : Bool := decide (128 ≤ l.length) && crc8 (l.take 120) = ofBits ((l.drop 120).take 8)

/-- `LEN` is a multiple of 4 up to 2 048 and agrees with the closing delimiter (R323). -/
def lenGood (l : List Bool) (len : Nat) : Bool :=
  len % 4 = 0 && decide (len ≤ 2048) && l.length = 160 + 8 * len

/-- The CRC over header and payload holds (R320). -/
def crcGood (l : List Bool) : Bool := crcOfBits (l.take (l.length - 32)) = ofBits (l.drop (l.length - 32))

/-! ### Scrambler, stuffing and delimiters: the transmitter (R316 to R319) -/

def dSOF : Nat := 0x06
def dEOF : Nat := 0x0A
def dABORT : Nat := 0x0C
def dIDLE : Nat := 0x00

/-- A delimiter: a 0, seventeen 1s and the type code (R318). -/
def delimBits (code : Nat) : List Bool := false :: List.replicate 17 true ++ bitsLE 6 code

/-- The next state of a scrambler or descrambler: the last 31 line bits, the newest at bit 0 (R316). -/
def scrNext (reg : Nat) (s : Bool) : Nat := (2 * reg + s.toNat) % 2 ^ 31

/-- A data bit scrambled, or a line bit descrambled: G(x) = 1 + x^28 + x^31 (R316). -/
def scrBit (reg : Nat) (b : Bool) : Bool := (b != reg.testBit 27) != reg.testBit 30

/-- A transmitter: the scrambler's state, all ones on entry to TRAIN, and the run of equal bits on the line (R316, R317). -/
structure LineTx where
  reg : Nat := 0x7FFFFFFF
  last : Bool := false
  run : Nat := 0
  deriving DecidableEq, Repr

/-- Data on the line: scrambled, and stuffed after 16 equal bits (R316, R317). -/
def LineTx.data : LineTx → List Bool → List Bool × LineTx
  | x, [] => ([], x)
  | x, d :: ds =>
    let s := scrBit x.reg d
    let run := if x.run ≠ 0 ∧ s = x.last then x.run + 1 else 1
    let reg := scrNext x.reg s
    if run = 16 then
      let y := LineTx.data { reg := reg, last := !s, run := 1 } ds
      (s :: (!s) :: y.1, y.2)
    else
      let y := LineTx.data { reg := reg, last := s, run := run } ds
      (s :: y.1, y.2)

/-- What the transmitter sends: data, a frame's own or not, and delimiters. -/
inductive Seg where
  | data (own : Bool) (bits : List Bool)
  | delim (code : Nat)
  deriving DecidableEq, Repr

/-- A piece on the line; the last type-code bit, a 0, begins the run that follows a delimiter (R317). -/
def LineTx.seg (x : LineTx) : Seg → List Bool × LineTx
  | .data _ l => x.data l
  | .delim c => (delimBits c, { x with last := false, run := 1 })

/-- Pieces on the line. -/
def LineTx.segs : LineTx → List Seg → List Bool × LineTx
  | x, [] => ([], x)
  | x, p :: ps =>
    let a := x.seg p
    let b := LineTx.segs a.2 ps
    (a.1 ++ b.1, b.2)

/-- A block between frames: an IDLE delimiter and `zeros` scrambled zeros (R319, R335). -/
def idleBlock (zeros : Nat) : List Seg := [.delim dIDLE, .data false (List.replicate zeros false)]

/-- The transmitter after `n` blocks. -/
def LineTx.blocks (zeros : Nat) : Nat → LineTx → LineTx
  | 0, x => x
  | n + 1, x => LineTx.blocks zeros n (x.segs (idleBlock zeros)).2

/-- After `n` IDLE blocks, of 40 zeros (R319). -/
def LineTx.idle (n : Nat) (x : LineTx) : LineTx := x.blocks 40 n

/-- After `n` training blocks, of 104 zeros (R335). -/
def LineTx.train (n : Nat) (x : LineTx) : LineTx := x.blocks 104 n

/-! ### The frame in progress on a lane (R324, R327) -/

/-- A frame on the line: RAW at its SOF, the transmitter there, its class, its content, the frames inserted in it, each
after so many of its content bits, and whether it ends with ABORT (R324, R330). -/
structure Air where
  start : Nat
  tx : LineTx
  cls : Nat
  content : List Bool
  cuts : List (Nat × List Bool) := []
  abort : Bool := false
  deriving DecidableEq, Repr

/-- The content from bit `pos` on, cut by the inserted frames. -/
def cutSegs (content : List Bool) (pos : Nat) : List (Nat × List Bool) → List Seg
  | [] => [.data true (content.drop pos)]
  | (c, x) :: t =>
    .data true ((content.drop pos).take (c - pos)) :: .delim dSOF :: .data false x :: .delim dEOF :: cutSegs content c t

/-- The frame from its SOF to its closing delimiter (R320, R324). -/
def Air.segs (a : Air) : List Seg :=
  .delim dSOF :: cutSegs a.content 0 a.cuts ++ [.delim (if a.abort then dABORT else dEOF)]

/-- Its line bits, and the transmitter after it. -/
def Air.line (a : Air) : List Bool × LineTx := a.tx.segs a.segs

/-- One bit of the line at 10.000 Gb/s, `n` times, in units of RAW (R320). -/
def uiU (n : Nat) : Nat := (n * 65536 + 9) / 10

/-- RAW at which its closing delimiter is out. -/
def Air.ends (a : Air) : Nat := a.start + uiU a.line.1.length

/-- The own data bits among the first `n` line bits. -/
def ownBits : Nat → LineTx → List Bool → Nat
  | _, _, [] => 0
  | n, x, d :: ds =>
    let y := x.data [d]
    if n < y.1.length then 0 else 1 + ownBits (n - y.1.length) y.2 ds

/-- The frame's own content bits among the first `n` line bits of its pieces. -/
def ownOf : Nat → LineTx → List Seg → Nat
  | _, _, [] => 0
  | n, x, p :: ps =>
    let y := x.seg p
    let own := match p with
      | .data true l => ownBits n x l
      | _ => 0
    if n < y.1.length then own else own + ownOf (n - y.1.length) y.2 ps

/-- The insertion point at RAW `r`: the next 32nd content bit, after the frames inserted already; none where the frame has
no more (R324). -/
def Air.cutAt (a : Air) (r : Nat) : Option Nat :=
  let own := ownOf ((r - a.start) * 10 / 65536) a.tx a.segs
  let p := max (max 32 ((own + 31) / 32 * 32)) (((a.cuts.map Prod.fst).getLast?).getD 0)
  if p ≤ a.content.length then some p else none

/-- Line bits from the frame's start to that of a frame to be inserted at point `p`, after those inserted already. -/
def Air.sofBits (a : Air) (p : Nat) : Nat := (a.tx.segs (.delim dSOF :: cutSegs (a.content.take p) 0 a.cuts)).1.length

/-- The frame with another inserted in it. -/
def Air.insert (a : Air) (p : Nat) (content : List Bool) : Air := { a with cuts := a.cuts ++ [(p, content)] }

/-! ### The receiver (R316 to R319, R324) -/

/-- A frame being received: its content so far, newest bit first, and how many bits, a violation inside it, and the line bits since its SOF and
since its header. -/
structure RxPart where
  bits : List Bool := []
  n : Nat := 0
  viol : Bool := false
  age : Nat := 0
  head : Nat := 0
  deriving DecidableEq, Repr

/-- A receiver: the descrambler, the run of equal bits, the delimiter being passed (bits left and type code), the frame being
received, the one inserted in it, and the frames still open of a nest that is discarded (R324). -/
structure LineRx where
  reg : Nat := 0
  last : Bool := false
  run : Nat := 0
  skip : Nat := 0
  code : Nat := 0
  outer : Option RxPart := none
  inner : Option RxPart := none
  lost : Nat := 0
  deriving DecidableEq, Repr

/-- A frame closed by a delimiter: its content, whether it was inserted, how it closed, its ages. -/
structure Caught where
  bits : List Bool
  inserted : Bool
  abort : Bool
  viol : Bool
  age : Nat
  head : Nat
  deriving DecidableEq, Repr

/-- A receiver with what a stretch of the line has brought: the violations counted and the last frame closed. -/
structure Ear where
  rx : LineRx
  viols : Nat := 0
  got : Option Caught := none
  deriving DecidableEq, Repr

/-- One line bit older. -/
def RxPart.older (p : RxPart) : RxPart := { p with age := p.age + 1, head := p.head + 1 }

/-- One content bit more. -/
def RxPart.push (p : RxPart) (d : Bool) : RxPart :=
  { p with bits := d :: p.bits, n := p.n + 1, head := if p.n < 128 then 0 else p.head }

def RxPart.caught (p : RxPart) (inserted abort : Bool) : Caught :=
  { bits := p.bits.reverse, inserted := inserted, abort := abort, viol := p.viol, age := p.age, head := p.head }

/-- A code violation, which discards the frame it is in (R319). -/
def Ear.violation (e : Ear) : Ear :=
  let mark (p : RxPart) : RxPart := { p with viol := true }
  { e with viols := e.viols + 1,
           rx := { e.rx with inner := e.rx.inner.map mark,
                             outer := if e.rx.inner.isSome then e.rx.outer else e.rx.outer.map mark } }

/-- A delimiter (R318, R324): a SOF opens a frame, or one inside it; a third discards both, and everything up to the outer
frame's closing delimiter is ignored; EOF and ABORT close the innermost. -/
def Ear.delim (e : Ear) (code : Nat) : Ear :=
  let x := e.rx
  if code = dSOF then
    if x.lost ≠ 0 then { e with rx := { x with lost := x.lost + 1 } }
    else match x.outer, x.inner with
      | none, _ => { e with rx := { x with outer := some {} } }
      | some _, none => { e with rx := { x with inner := some {} } }
      | some _, some _ => { e with rx := { x with outer := none, inner := none, lost := 3 } }
  else if code = dEOF || code = dABORT then
    if x.lost ≠ 0 then { e with rx := { x with lost := x.lost - 1 } }
    else match x.outer, x.inner with
      | _, some p => { e with rx := { x with inner := none }, got := some (p.caught true (code == dABORT)) }
      | some p, none => { e with rx := { x with outer := none }, got := some (p.caught false (code == dABORT)) }
      | none, none => e
  else if code = dIDLE then e
  else e.violation

/-- A 0 with seventeen 1s after it begins a delimiter. -/
def startsDelim (b : Bool) (rest : List Bool) : Bool := !b && decide (23 ≤ rest.length) && (rest.take 17).all id

/-- A line bit, `rest` the bits after it. -/
def Ear.bit (e : Ear) (b : Bool) (rest : List Bool) : Ear :=
  let x := { e.rx with outer := e.rx.outer.map RxPart.older, inner := e.rx.inner.map RxPart.older }
  let due := x.run = 16
  if x.skip = 1 then { e with rx := { x with skip := 0, last := b, run := 1 } }.delim x.code
  else if x.skip ≠ 0 then { e with rx := { x with skip := x.skip - 1 } }
  else if startsDelim b rest then
    let e := { e with rx := x }
    let e := if due && !x.last then e.violation else e
    { e with rx := { e.rx with skip := 23, code := ofBits ((rest.drop 17).take 6) } }
  else if due then
    let e := { e with rx := { x with last := b, run := 1 } }
    if b = x.last then e.violation else e
  else
    let d := scrBit x.reg b
    let y := { x with reg := scrNext x.reg b, run := if x.run ≠ 0 ∧ b = x.last then x.run + 1 else 1, last := b }
    { e with rx := match y.inner with
        | some p => { y with inner := some (p.push d) }
        | none => { y with outer := y.outer.map fun p => p.push d } }

/-- A stretch of the line, received. -/
def Ear.hear : Ear → List Bool → Ear
  | e, [] => e
  | e, b :: bs => (e.bit b bs).hear bs

/-! ### The Ethernet uplink (R339, R340) -/

/-- The six bytes of a MAC address from its two registers, bytes 0 and 1 in the second; of the bytes of a register the
lower-numbered lies lower (R346, log entry 9). -/
def macOf (lo hi : Word) : List Byte := bytesOf (hi.toNat % 65536) 2 ++ bytesOf lo.toNat 4

/-- The bits of bytes in sending order. -/
def bytesBits (l : List Byte) : List Bool := l.flatMap fun b => bitsLE 8 b.toNat

/-- The bytes of header and payload (R321). -/
def Frame.bytes (f : Frame) : List Byte :=
  let l := f.content
  (bitsWords (4 + f.payload.length) l).flatMap fun w => bytesOf w.toNat 4

/-- A MAC frame from destination to FCS (R340): `tag` is an 802.1Q tag control, if there is one. -/
def macFrame (dst src : List Byte) (tag : Option Nat) (ty : Nat) (body : List Byte) : List Byte :=
  let be (v : Nat) : List Byte := [byteAt v 1, byteAt v 0]
  let l := dst ++ src ++ (match tag with | some v => be 0x8100 ++ be v | none => []) ++ be ty ++ body ++
    List.replicate (46 - body.length) 0#8
  l ++ bytesOf (crcOfBits (bytesBits l)) 4

/-- The broadcast address, and the PTP address of R342. -/
def macAll : List Byte := List.replicate 6 0xFF#8
def macPtp : List Byte := [0x01#8, 0x1B#8, 0x19#8, 0#8, 0#8, 0#8]

/-- The MAC takes a frame: up to 2 086 bytes, a good FCS, and for `own`, broadcast or PTP (R339). -/
def macGood (own l : List Byte) : Bool :=
  let body := l.take (l.length - 4)
  let dst := l.take 6
  decide (18 ≤ l.length) && decide (l.length ≤ 2086) && crcOfBits (bytesBits body) = ofBytes (l.drop (l.length - 4)) &&
    (dst = own || dst = macAll || dst = macPtp)

/-- The payload of a MAC frame of EtherType `ty`, its tag taken off; none for another type. -/
def macBody (ty : Nat) (l : List Byte) : Option (List Byte) :=
  let be (k : Nat) : Nat := 256 * (l.getD k 0#8).toNat + (l.getD (k + 1) 0#8).toNat
  let n := if be 12 = 0x8100 then 16 else 12
  if be n = ty then some ((l.take (l.length - 4)).drop (n + 2)) else none

end Sys2Proof.Machine
end

