-- ==== Sys2Proof/Machine/Addr.lean ====
section
/-!
DEFINITION. The addresses of the registers (R35 and the register tables R42, R120, R146, R167, R168, R199,
R225, R226, R286, R287, R313, R346, R347, R368, R406 to R410, R430, R431, R465, R467), under the spec's names.
-/

namespace Sys2Proof.Machine.Addr

/-! R42 -/
def SYS_DOME_STAGE_SIZE : Nat := 0x40004100
def SYS_DOME_DATA_SIZE : Nat := 0x40004104
def SYS_DOME_MIRROR_SIZE : Nat := 0x40004108
def SYS_DOME_CAPTURE_SIZE : Nat := 0x4000410C
def SYS_DOME_JOURNAL_SIZE : Nat := 0x40004110
def SYS_DOME_STAGE_BASE : Nat := 0x40004120
def SYS_DOME_DATA_BASE : Nat := 0x40004124
def SYS_DOME_MIRROR_BASE : Nat := 0x40004128
def SYS_DOME_CAPTURE_BASE : Nat := 0x4000412C
def SYS_DOME_JOURNAL_BASE : Nat := 0x40004130
def CLK_SPREAD_CFG : Nat := 0x49000000
def CLK_THROTTLE_NOW : Nat := 0x49000004
def CLK_THROTTLE_MAX : Nat := 0x49000008
def CLK_CROSS_STUCK_CNT : Nat := 0x49000010
/-! R467 -/
def FE_CFG (n c : Nat) : Nat := 0x41001000 + 0x10000 * n + 0x4 * c
def FE_AUX (n c : Nat) : Nat := 0x41001080 + 0x10000 * n + 0x4 * c
def FE_CLAMP_NOW (n : Nat) : Nat := 0x41001100 + 0x10000 * n
def FE_CLAMP (n : Nat) : Nat := 0x41001104 + 0x10000 * n
def FE_OVR (n : Nat) : Nat := 0x41001108 + 0x10000 * n
def FE_BREAK_NOW (n : Nat) : Nat := 0x4100110C + 0x10000 * n
def FE_BREAK (n : Nat) : Nat := 0x41001110 + 0x10000 * n
def FE_CHG_RESET (n : Nat) : Nat := 0x41001114 + 0x10000 * n
def FE_CHG_RESET_ACT (n : Nat) : Nat := 0x41001118 + 0x10000 * n
def FE_CHG_CS (n c : Nat) : Nat := 0x41001180 + 0x10000 * n + 0x4 * c
def EXC_CFG (n : Nat) : Nat := 0x41002000 + 0x10000 * n
def EXC_REV (n : Nat) : Nat := 0x41002004 + 0x10000 * n
def EXC_STATUS (n : Nat) : Nat := 0x41002008 + 0x10000 * n
def EXC_CTRL (n : Nat) : Nat := 0x4100200C + 0x10000 * n
def EXC_SENSE (n : Nat) : Nat := 0x41002010 + 0x10000 * n
def EXC_FORCE (n : Nat) : Nat := 0x41002014 + 0x10000 * n
def EXC_CURRENT (n : Nat) : Nat := 0x41002018 + 0x10000 * n
def EXC_LIMIT_CNT (n : Nat) : Nat := 0x4100201C + 0x10000 * n
/-! R120 -/
def SPIRE_STATUS (n : Nat) : Nat := 0x41000000 + 0x10000 * n
def SCHED_CTRL (n : Nat) : Nat := 0x41000004 + 0x10000 * n
def SCHED_STATUS (n : Nat) : Nat := 0x41000008 + 0x10000 * n
def SLOT_TBL (n i : Nat) : Nat := 0x41000100 + 0x10000 * n + 0x4 * i
def APT_CFG (n c : Nat) : Nat := 0x41000200 + 0x10000 * n + 0x4 * c
def ROT_CFG (n : Nat) : Nat := 0x41000300 + 0x10000 * n
def ROT_STATUS (n : Nat) : Nat := 0x41000304 + 0x10000 * n
def SLICE_MAP (n : Nat) : Nat := 0x41000308 + 0x10000 * n
def SWAP_TOL (n : Nat) : Nat := 0x4100030C + 0x10000 * n
def SWAP_RESULT (n : Nat) : Nat := 0x41000310 + 0x10000 * n
def SWAP_CNT (n : Nat) : Nat := 0x41000314 + 0x10000 * n
def SWAP_ABORT_CNT (n : Nat) : Nat := 0x41000318 + 0x10000 * n
def INJ_REQ (n : Nat) : Nat := 0x41000400 + 0x10000 * n
def INJ_QUEUE (n : Nat) : Nat := 0x41000404 + 0x10000 * n
def INJ_BUSY_CNT (n : Nat) : Nat := 0x41000408 + 0x10000 * n
def INJ_RES (n m : Nat) : Nat := 0x41000440 + 0x10000 * n + 0x4 * m
def INJ_TIME (n m : Nat) : Nat := 0x41000480 + 0x10000 * n + 0x4 * m
/-! R146 -/
def FI_STATUS (n : Nat) : Nat := 0x42000000 + 0x10000 * n
def FI_EPOCH0 (n : Nat) : Nat := 0x42000010 + 0x10000 * n
def FI_EPOCH1 (n : Nat) : Nat := 0x42000014 + 0x10000 * n
def FI_EPOCH2 (n : Nat) : Nat := 0x42000018 + 0x10000 * n
def FI_CTRL (n : Nat) : Nat := 0x42000020 + 0x10000 * n
def FI_COMMIT_STATUS (n : Nat) : Nat := 0x42000024 + 0x10000 * n
def FI_HOLE_CNT (n : Nat) : Nat := 0x42000040 + 0x10000 * n
def FI_ABSENT_CNT (n : Nat) : Nat := 0x42000044 + 0x10000 * n
def FI_OVR_CNT (n : Nat) : Nat := 0x42000048 + 0x10000 * n
def FCH_CFG (n c : Nat) : Nat := 0x42001000 + 0x10000 * n + 0x40 * c
def FCH_LEN1 (n c : Nat) : Nat := 0x42001004 + 0x10000 * n + 0x40 * c
def FCH_LEN2 (n c : Nat) : Nat := 0x42001008 + 0x10000 * n + 0x40 * c
def FCH_LEN3 (n c : Nat) : Nat := 0x4200100C + 0x10000 * n + 0x40 * c
def FCH_DECIM (n c : Nat) : Nat := 0x42001010 + 0x10000 * n + 0x40 * c
def FCH_DELAY (n c : Nat) : Nat := 0x42001014 + 0x10000 * n + 0x40 * c
def USER_OFS (n c : Nat) : Nat := 0x42001018 + 0x10000 * n + 0x40 * c
def USER_GAIN (n c : Nat) : Nat := 0x4200101C + 0x10000 * n + 0x40 * c
def FCH_GDELAY (n c : Nat) : Nat := 0x42001020 + 0x10000 * n + 0x40 * c
def FCH_STATUS (n c : Nat) : Nat := 0x42001024 + 0x10000 * n + 0x40 * c
/-! R167 -/
def TRIM_OFS (n c : Nat) : Nat := 0x41003000 + 0x10000 * n + 0x8 * c
def TRIM_GAIN (n c : Nat) : Nat := 0x41003004 + 0x10000 * n + 0x8 * c
def TRIM_KEY (n c : Nat) : Nat := 0x41003100 + 0x10000 * n + 0x4 * c
def TRIM_IRTD (n c : Nat) : Nat := 0x41003180 + 0x10000 * n + 0x4 * c
def SNS_TRIM_OFS (n : Nat) : Nat := 0x41003200 + 0x10000 * n
def SNS_TRIM_GAIN (n : Nat) : Nat := 0x41003204 + 0x10000 * n
def VREF_CAL (n : Nat) : Nat := 0x41003208 + 0x10000 * n
def CINJ_CAL (n : Nat) : Nat := 0x4100320C + 0x10000 * n
def TEMP_NOW (n : Nat) : Nat := 0x41003210 + 0x10000 * n
def TEMP_LAST_TRIM (n : Nat) : Nat := 0x41003214 + 0x10000 * n
def TRIM_STATUS (n : Nat) : Nat := 0x41003218 + 0x10000 * n
def TRIM_FAIL_MASK (n : Nat) : Nat := 0x4100321C + 0x10000 * n
def TRIM_CNT (n : Nat) : Nat := 0x41003220 + 0x10000 * n
/-- The reserved words 0x3224 to 0x323F of a spire, read-only and 0 (R167). -/
def TRIM_RSVD (n k : Nat) : Nat := 0x41003224 + 0x10000 * n + 0x4 * k
def SLICE_COEF (n j k : Nat) : Nat := 0x41003400 + 0x10000 * n + 0x80 * j + 0x4 * k
def FE_TABLE (n c e : Nat) : Nat := 0x41003800 + 0x10000 * n + 0x40 * c + 0x4 * e
/-! R168 -/
def CALC_STATUS : Nat := 0x4B000000
def CALC_TRIM_CFG : Nat := 0x4B000004
def CALC_TRIM_PEND : Nat := 0x4B000008
def CALC_TRIM_FORCED_CNT : Nat := 0x4B00000C
def CALC_DIE_TEMP : Nat := 0x4B000010
def CALC_BOOT_FAIL : Nat := 0x4B000014
def CALC_SAVE_STATUS : Nat := 0x4B000018
/-! R199 -/
def LAN_STATUS : Nat := 0x46000000
def LAN_CFG : Nat := 0x46000004
def TIME_NOW0 : Nat := 0x46000010
def TIME_NOW1 : Nat := 0x46000014
def TIME_NOW2 : Nat := 0x46000018
def RAW_NOW0 : Nat := 0x46000020
def RAW_NOW1 : Nat := 0x46000024
def RAW_NOW2 : Nat := 0x46000028
def OFFSET0 : Nat := 0x46000030
def OFFSET1 : Nat := 0x46000034
def OFFSET2 : Nat := 0x46000038
def ANCHOR0 : Nat := 0x46000040
def ANCHOR1 : Nat := 0x46000044
def ANCHOR2 : Nat := 0x46000048
def RATE_LO : Nat := 0x46000050
def RATE_HI : Nat := 0x46000054
def SERVO_RATE_LO : Nat := 0x46000060
def SERVO_RATE_HI : Nat := 0x46000064
def SERVO_STEP_LO : Nat := 0x46000068
def SERVO_STEP_HI : Nat := 0x4600006C
def SERVO_SET0 : Nat := 0x46000070
def SERVO_SET1 : Nat := 0x46000074
def SERVO_SET2 : Nat := 0x46000078
def SERVO_CTRL : Nat := 0x4600007C
def SERVO_STATUS : Nat := 0x46000080
def TIME_SRC : Nat := 0x46000090
def TIME_STATE : Nat := 0x46000094
def LOCK_CFG : Nat := 0x46000098
def HOLD_MAX : Nat := 0x4600009C
def MEAS_OFFSET : Nat := 0x460000A0
def MEAS_DELAY : Nat := 0x460000A4
def ASYM (l : Nat) : Nat := 0x460000A8 + 0x4 * l
def GRID_STATUS : Nat := 0x460000C0
def GRID_CTRL : Nat := 0x460000C4
def GRID_ERR : Nat := 0x460000C8
def GRID_ERR_MAX : Nat := 0x460000CC
def GRID_FREQ : Nat := 0x460000D0
def GRID_PHASE : Nat := 0x460000D4
def TRIG_IN_CFG (i : Nat) : Nat := 0x46000100 + 0x20 * i
def TRIG_IN_TS0 (i : Nat) : Nat := 0x46000104 + 0x20 * i
def TRIG_IN_TS1 (i : Nat) : Nat := 0x46000108 + 0x20 * i
def TRIG_IN_TS2 (i : Nat) : Nat := 0x4600010C + 0x20 * i
def TRIG_IN_INFO (i : Nat) : Nat := 0x46000110 + 0x20 * i
def TRIG_IN_EDGE_CNT (i : Nat) : Nat := 0x46000114 + 0x20 * i
def TRIG_IN_OVF_CNT (i : Nat) : Nat := 0x46000118 + 0x20 * i
def TRIG_OUT_CFG (p : Nat) : Nat := 0x46000200 + 0x4 * p
def PPS_OUT_CFG : Nat := 0x46000210
def ALM_TGT0 (a : Nat) : Nat := 0x46001000 + 0x40 * a
def ALM_TGT1 (a : Nat) : Nat := 0x46001004 + 0x40 * a
def ALM_TGT2 (a : Nat) : Nat := 0x46001008 + 0x40 * a
def ALM_PER (a : Nat) : Nat := 0x4600100C + 0x40 * a
def ALM_PER_FRAC (a : Nat) : Nat := 0x46001010 + 0x40 * a
def ALM_ACTION (a : Nat) : Nat := 0x46001014 + 0x40 * a
def ALM_CAPMASK (a : Nat) : Nat := 0x46001018 + 0x40 * a
def ALM_CTRL (a : Nat) : Nat := 0x4600101C + 0x40 * a
def ALM_STATUS (a : Nat) : Nat := 0x46001020 + 0x40 * a
def ALM_FIRE_CNT (a : Nat) : Nat := 0x46001024 + 0x40 * a
/-! R225 -/
def TUR_STATUS (t : Nat) : Nat := 0x43000000 + 0x100000 * t
def TUR_ISSUE_CNT (t : Nat) : Nat := 0x43000010 + 0x100000 * t
def TUR_IDLE_CNT (t : Nat) : Nat := 0x43000014 + 0x100000 * t
def TUR_STALL_CNT (t : Nat) : Nat := 0x43000018 + 0x100000 * t
def TUR_TAGS (t : Nat) : Nat := 0x4300001C + 0x100000 * t
def TUR_BACKLOG (t : Nat) : Nat := 0x43000020 + 0x100000 * t
def TUR_BACKLOG_MAX (t : Nat) : Nat := 0x43000024 + 0x100000 * t
def TUR_LOAD_DECL (t : Nat) : Nat := 0x43000028 + 0x100000 * t
def CTX_G (t l k : Nat) : Nat := 0x43040000 + 0x100000 * t + 0x400 * l + 0x4 * k
def CTX_W_LO (t l j : Nat) : Nat := 0x43040040 + 0x100000 * t + 0x400 * l + 0x10 * j
def CTX_W_MID (t l j : Nat) : Nat := 0x43040044 + 0x100000 * t + 0x400 * l + 0x10 * j
def CTX_W_HI (t l j : Nat) : Nat := 0x43040048 + 0x100000 * t + 0x400 * l + 0x10 * j
def CTX_PC (t l : Nat) : Nat := 0x43040080 + 0x100000 * t + 0x400 * l
def CTX_STATUS (t l : Nat) : Nat := 0x43040084 + 0x100000 * t + 0x400 * l
def CTX_FAULT (t l : Nat) : Nat := 0x43040088 + 0x100000 * t + 0x400 * l
def CTX_CFG (t l : Nat) : Nat := 0x4304008C + 0x100000 * t + 0x400 * l
def CTX_ENTRY (t l : Nat) : Nat := 0x43040090 + 0x100000 * t + 0x400 * l
def CTX_ACT (t l : Nat) : Nat := 0x43040094 + 0x100000 * t + 0x400 * l
def CTX_BUDGET (t l : Nat) : Nat := 0x43040098 + 0x100000 * t + 0x400 * l
def CTX_RATE (t l : Nat) : Nat := 0x4304009C + 0x100000 * t + 0x400 * l
def CTX_SLOTS_MAX (t l : Nat) : Nat := 0x430400A0 + 0x100000 * t + 0x400 * l
def CTX_ACT_CNT (t l : Nat) : Nat := 0x430400A4 + 0x100000 * t + 0x400 * l
def CTX_PEND (t l : Nat) : Nat := 0x430400A8 + 0x100000 * t + 0x400 * l
def CTX_FAULT_CNT (t l : Nat) : Nat := 0x430400AC + 0x100000 * t + 0x400 * l
def CTX_CTRL (t l : Nat) : Nat := 0x430400B0 + 0x100000 * t + 0x400 * l
def CTX_PORT (t l p : Nat) : Nat := 0x43040100 + 0x100000 * t + 0x400 * l + 0x4 * p
def CTX_PORT_LIM (t l p : Nat) : Nat := 0x43040200 + 0x100000 * t + 0x400 * l + 0x4 * p
def CTX_PORT_FILL (t l p : Nat) : Nat := 0x43040300 + 0x100000 * t + 0x400 * l + 0x4 * p
/-! R226 -/
def SYS_PLAN_STATUS : Nat := 0x40004200
def SYS_PLAN_ID : Nat := 0x40004204
def SYS_PLAN_REV : Nat := 0x40004208
def SYS_PLAN_SIGNED : Nat := 0x4000420C
/-! R286 -/
def CAPE_STATUS : Nat := 0x44000000
def CAPE_OVF_CNT : Nat := 0x44000004
def CAPE_SPAN_CFG : Nat := 0x44000010
def CAPE_SPAN_TX_CNT : Nat := 0x44000014
def CAPE_SPAN_RX_CNT : Nat := 0x44000018
def CAPE_SPAN_DUP_CNT : Nat := 0x4400001C
def CAPE_SPAN_HOLD_CNT : Nat := 0x44000020
def CAPE_LOG_HEAD : Nat := 0x44000024
def CAPE_LOG_CFG : Nat := 0x44000028
def CAPE_REASON_CNT (r : Nat) : Nat := 0x44000040 + 0x4 * r
def CAP_CFG (u : Nat) : Nat := 0x44000100 + 0x80 * u
def CAP_TRIG (u : Nat) : Nat := 0x44000104 + 0x80 * u
def CAP_PRE (u : Nat) : Nat := 0x44000108 + 0x80 * u
def CAP_POST (u : Nat) : Nat := 0x4400010C + 0x80 * u
def CAP_LATE (u : Nat) : Nat := 0x44000110 + 0x80 * u
def CAP_BASE (u : Nat) : Nat := 0x44000114 + 0x80 * u
def CAP_SIZE (u : Nat) : Nat := 0x44000118 + 0x80 * u
def CAP_STREAM (u : Nat) : Nat := 0x4400011C + 0x80 * u
def CAP_MEAS_THR (u : Nat) : Nat := 0x44000120 + 0x80 * u
def CAP_MEAS_HYST (u : Nat) : Nat := 0x44000124 + 0x80 * u
def CAP_CTRL (u : Nat) : Nat := 0x44000128 + 0x80 * u
def CAP_RESULT (u : Nat) : Nat := 0x4400012C + 0x80 * u
def CAP_STATE (u : Nat) : Nat := 0x44000130 + 0x80 * u
def CAP_SEQ (u : Nat) : Nat := 0x44000134 + 0x80 * u
def CAP_SLOTS (u : Nat) : Nat := 0x44000138 + 0x80 * u
def CAP_MISSED (u : Nat) : Nat := 0x4400013C + 0x80 * u
def CAP_CHAN (u i : Nat) : Nat := 0x44000140 + 0x80 * u + 0x4 * i
def CAPE_LOG_TIME0 (e : Nat) : Nat := 0x44002000 + 0x10 * e
def CAPE_LOG_TIME1 (e : Nat) : Nat := 0x44002004 + 0x10 * e
def CAPE_LOG_TIME2 (e : Nat) : Nat := 0x44002008 + 0x10 * e
def CAPE_LOG_INFO (e : Nat) : Nat := 0x4400200C + 0x10 * e
/-! R287 -/
def SEN_CFG (n c : Nat) : Nat := 0x42002000 + 0x10000 * n + 0x20 * c
def SEN_THR (n c : Nat) : Nat := 0x42002004 + 0x10000 * n + 0x20 * c
def SEN_PDT (n c : Nat) : Nat := 0x42002008 + 0x10000 * n + 0x20 * c
def SEN_HDT (n c : Nat) : Nat := 0x4200200C + 0x10000 * n + 0x20 * c
def SEN_HLT (n c : Nat) : Nat := 0x42002010 + 0x10000 * n + 0x20 * c
def SEN_NOISE (n c : Nat) : Nat := 0x42002014 + 0x10000 * n + 0x20 * c
def SEN_HIT_CNT (n c : Nat) : Nat := 0x42002018 + 0x10000 * n + 0x20 * c
def SEN_STATE (n c : Nat) : Nat := 0x4200201C + 0x10000 * n + 0x20 * c
def SEN_LOST_CNT (n : Nat) : Nat := 0x42002400 + 0x10000 * n
/-! R313 -/
def LED_STATUS : Nat := 0x45000000
def LED_CFG : Nat := 0x45000004
def LED_CTRL : Nat := 0x45000008
def LED_COMMIT_STATUS : Nat := 0x4500000C
def LED_EPOCH : Nat := 0x45000010
def LED_POISON_CNT : Nat := 0x45000014
def LED_GAP_CNT : Nat := 0x45000018
def LED_ACK_IGN_CNT : Nat := 0x4500001C
def LED_DISCARD_CNT : Nat := 0x45000020
def LED_EVT_DROP_CNT : Nat := 0x45000024
def LED_Q_CFG (q : Nat) : Nat := 0x45001000 + 0x40 * q
def LED_Q_TIME (q : Nat) : Nat := 0x45001004 + 0x40 * q
def LED_Q_WR (q : Nat) : Nat := 0x45001008 + 0x40 * q
def LED_Q_SEND (q : Nat) : Nat := 0x4500100C + 0x40 * q
def LED_Q_MARK (q : Nat) : Nat := 0x45001010 + 0x40 * q
def LED_Q_STATUS (q : Nat) : Nat := 0x45001014 + 0x40 * q
def LED_Q_REWIND_CNT (q : Nat) : Nat := 0x45001018 + 0x40 * q
def LED_Q_EVICT_CNT (q : Nat) : Nat := 0x4500101C + 0x40 * q
def LED_Q_FILL_MAX (q : Nat) : Nat := 0x45001020 + 0x40 * q
def LED_STREAM (s : Nat) : Nat := 0x45004000 + 0x4 * s
def LED_S_PROD_LO (s : Nat) : Nat := 0x45008000 + 0x10 * s
def LED_S_PROD_HI (s : Nat) : Nat := 0x45008004 + 0x10 * s
def LED_S_ACK_LO (s : Nat) : Nat := 0x45008008 + 0x10 * s
def LED_S_ACK_HI (s : Nat) : Nat := 0x4500800C + 0x10 * s
/-! R346 -/
def LANE_CFG (l : Nat) : Nat := 0x47000000 + 0x10000 * l
def LANE_STATUS (l : Nat) : Nat := 0x47000004 + 0x10000 * l
def LANE_CTRL (l : Nat) : Nat := 0x47000008 + 0x10000 * l
def LANE_FEAT (l : Nat) : Nat := 0x4700000C + 0x10000 * l
def PEER_CAP (l k : Nat) : Nat := 0x47000010 + 0x10000 * l + 0x4 * k
def CRED_TX (l : Nat) : Nat := 0x47000040 + 0x10000 * l
def CRED_ADV (l : Nat) : Nat := 0x47000044 + 0x10000 * l
def CNT_CRC (l : Nat) : Nat := 0x47000050 + 0x10000 * l
def CNT_MALF (l : Nat) : Nat := 0x47000054 + 0x10000 * l
def CNT_ABORT (l : Nat) : Nat := 0x47000058 + 0x10000 * l
def CNT_CODE (l : Nat) : Nat := 0x4700005C + 0x10000 * l
def CNT_DOWN (l : Nat) : Nat := 0x47000060 + 0x10000 * l
def CNT_TRAIN_FAIL (l : Nat) : Nat := 0x47000064 + 0x10000 * l
def FRAMES_TX (l : Nat) : Nat := 0x47000068 + 0x10000 * l
def FRAMES_RX (l : Nat) : Nat := 0x4700006C + 0x10000 * l
def CNT_DISCARD (l : Nat) : Nat := 0x47000070 + 0x10000 * l
def TS_T1 (l k : Nat) : Nat := 0x47000080 + 0x10000 * l + 0x4 * k
def TS_T2 (l k : Nat) : Nat := 0x47000090 + 0x10000 * l + 0x4 * k
def TS_T3 (l k : Nat) : Nat := 0x470000A0 + 0x10000 * l + 0x4 * k
def TS_T4 (l k : Nat) : Nat := 0x470000B0 + 0x10000 * l + 0x4 * k
def TS_SEQ (l : Nat) : Nat := 0x470000BC + 0x10000 * l
def LANE_MEAS_DELAY (l : Nat) : Nat := 0x470000C0 + 0x10000 * l
def LANE_MEAS_OFFSET (l : Nat) : Nat := 0x470000C4 + 0x10000 * l
def MOD_STATUS (l : Nat) : Nat := 0x47000100 + 0x10000 * l
def MOD_ACC (l : Nat) : Nat := 0x47000104 + 0x10000 * l
def MOD_RES (l : Nat) : Nat := 0x47000108 + 0x10000 * l
def DDM_TEMP (l : Nat) : Nat := 0x47000110 + 0x10000 * l
def DDM_VCC (l : Nat) : Nat := 0x47000114 + 0x10000 * l
def DDM_BIAS (l : Nat) : Nat := 0x47000118 + 0x10000 * l
def DDM_TXPWR (l : Nat) : Nat := 0x4700011C + 0x10000 * l
def DDM_RXPWR (l : Nat) : Nat := 0x47000120 + 0x10000 * l
def EYE_PT (l : Nat) : Nat := 0x47000200 + 0x10000 * l
def EYE_CTRL (l : Nat) : Nat := 0x47000204 + 0x10000 * l
def EYE_STATUS (l : Nat) : Nat := 0x47000208 + 0x10000 * l
def EYE_CNT_LO (l : Nat) : Nat := 0x47000210 + 0x10000 * l
def EYE_CNT_HI (l : Nat) : Nat := 0x47000214 + 0x10000 * l
def ETH_CFG (l : Nat) : Nat := 0x47000300 + 0x10000 * l
def ETH_SRC_LO (l : Nat) : Nat := 0x47000304 + 0x10000 * l
def ETH_SRC_HI (l : Nat) : Nat := 0x47000308 + 0x10000 * l
def ETH_DST_LO (l : Nat) : Nat := 0x4700030C + 0x10000 * l
def ETH_DST_HI (l : Nat) : Nat := 0x47000310 + 0x10000 * l
def PTP_CFG (l : Nat) : Nat := 0x47000314 + 0x10000 * l
def CNT_PAUSE (l : Nat) : Nat := 0x47000318 + 0x10000 * l
def CNT_ETH_DROP (l : Nat) : Nat := 0x4700031C + 0x10000 * l
def CNT_PTP_IGN (l : Nat) : Nat := 0x47000320 + 0x10000 * l
/-! R347 -/
def SPAN_CFG : Nat := 0x47040000
def SEG_DOWN_LO : Nat := 0x47040004
def SEG_DOWN_HI : Nat := 0x47040008
def GH_STATUS : Nat := 0x4704000C
def CNT_UNREACH : Nat := 0x47040010
def CNT_TTL : Nat := 0x47040014
def CNT_HEAL : Nat := 0x47040018
/-! R368 -/
def SEL_CFG : Nat := 0x48000000
def SEL_WARDEN : Nat := 0x48000004
def SEL_TIMING : Nat := 0x48000008
def SEL_FAULT_MASK : Nat := 0x4800000C
def SEL_STATUS : Nat := 0x48000010
def SEL_EPOCH : Nat := 0x48000014
def SEL_LEASE_END0 : Nat := 0x48000018
def SEL_LEASE_END1 : Nat := 0x4800001C
def SEL_LEASE_END2 : Nat := 0x48000020
def SEL_TAKEOVER_CNT : Nat := 0x48000024
def SEL_HB_MISS_CNT : Nat := 0x48000028
def SEL_DENY_CNT : Nat := 0x4800002C
def SEL_MIRROR_REPL_CNT : Nat := 0x48000030
def SEL_MIRROR_LOST_CNT : Nat := 0x48000034
def SEL_WTBL_PAIR (p : Nat) : Nat := 0x48001000 + 0x10 * p
def SEL_WTBL_EPOCH (p : Nat) : Nat := 0x48001004 + 0x10 * p
def SEL_WTBL_END_NS (p : Nat) : Nat := 0x48001008 + 0x10 * p
def SEL_WTBL_END_SEC (p : Nat) : Nat := 0x4800100C + 0x10 * p
/-! R406 -/
def MB_DATA (ch : Nat) : Nat := 0x40000000 + 0x10 * ch
def MB_PEEK (ch : Nat) : Nat := 0x40000004 + 0x10 * ch
def MB_STATUS (ch : Nat) : Nat := 0x40000008 + 0x10 * ch
def MB_LASTREAD (ch : Nat) : Nat := 0x4000000C + 0x10 * ch
def DB_MSG_LO (m : Nat) : Nat := 0x40000800 + 0x20 * m
def DB_MSG_HI (m : Nat) : Nat := 0x40000804 + 0x20 * m
def DB_ACK_LO (m : Nat) : Nat := 0x40000808 + 0x20 * m
def DB_ACK_HI (m : Nat) : Nat := 0x4000080C + 0x20 * m
def DB_ABT_LO (m : Nat) : Nat := 0x40000810 + 0x20 * m
def DB_ABT_HI (m : Nat) : Nat := 0x40000814 + 0x20 * m
def DB_MASK (m : Nat) : Nat := 0x40000818 + 0x20 * m
def RESET_EPOCH (m : Nat) : Nat := 0x4000081C + 0x20 * m
def CP_MASTER_RESET : Nat := 0x40000C00
def CMD_INFLIGHT_LO : Nat := 0x40000C08
def CMD_INFLIGHT_HI : Nat := 0x40000C0C
/-! R407 -/
def LOCK (l : Nat) : Nat := 0x40001000 + 0x4 * l
def LOCK_PEEK (l : Nat) : Nat := 0x40001080 + 0x4 * l
def LOCK_FORCE : Nat := 0x40001100
/-! R408 -/
def ELOG_STATUS : Nat := 0x40002000
def ELOG_HEAD : Nat := 0x40002004
def ELOG_FREE : Nat := 0x40002008
def ELOG_LOST : Nat := 0x4000200C
def FIRST_ERR : Nat := 0x40002010
def FIRST_DETAIL : Nat := 0x40002014
def FIRST_TIME (k : Nat) : Nat := 0x40002018 + 0x4 * k
def ELOG_CLASS_CNT (k : Nat) : Nat := 0x40002040 + 0x4 * k
def ELOG_OVF_CNT (k : Nat) : Nat := 0x400020C0 + 0x4 * k
def ELOG_ENTRY (e w : Nat) : Nat := 0x40002800 + 0x20 * e + 0x4 * w
/-! R409 -/
def BIND (ch : Nat) : Nat := 0x40003000 + 0x4 * ch
def BIND_LOCK : Nat := 0x40003100
/-! R410 -/
def SYS_CHIP_ID : Nat := 0x40004000
def SYS_STEPPING : Nat := 0x40004004
def SYS_FW_VER : Nat := 0x40004008
def SYS_DIE_ID_LO : Nat := 0x40004010
def SYS_DIE_ID_HI : Nat := 0x40004014
def SYS_BOOT_STATUS : Nat := 0x40004020
def SYS_BOOT_CTRL : Nat := 0x40004024
def SYS_LOCKSTEP_CNT : Nat := 0x40004028
def SYS_WDOG_CNT : Nat := 0x4000402C
def SYS_OTP_STATUS : Nat := 0x40004030
def SYS_OTP_CTRL : Nat := 0x40004034
def SYS_OTP_OWNER (k : Nat) : Nat := 0x40004040 + 0x4 * k
def SYS_OTP_STAGE (k : Nat) : Nat := 0x40004060 + 0x4 * k
def SYS_MGMT_CFG : Nat := 0x40004080
def SYS_SPI_ERR_CNT : Nat := 0x40004084
/-! R430 -/
def SYS_MODE : Nat := 0x40004300
def SYS_START_TIME0 : Nat := 0x40004304
def SYS_START_TIME1 : Nat := 0x40004308
def SYS_START_TIME2 : Nat := 0x4000430C
def SYS_STOP_TIME0 : Nat := 0x40004310
def SYS_STOP_TIME1 : Nat := 0x40004314
def SYS_STOP_TIME2 : Nat := 0x40004318
def SYS_CMD_REJECT : Nat := 0x4000431C
def SYS_RESET_CAUSE : Nat := 0x40004320
def SYS_MODE_CNT : Nat := 0x40004324
/-! R431 -/
def SAG_STATUS : Nat := 0x49000100
def SAG_MAX : Nat := 0x49000104
def SAG_TRIP_CNT (k : Nat) : Nat := 0x49000108 + 0x4 * k
def SAG_L3_TIME : Nat := 0x49000114
def SAG_LAST0 : Nat := 0x49000118
def SAG_LAST1 : Nat := 0x4900011C
def SAG_LAST2 : Nat := 0x49000120
def INRUSH_CFG : Nat := 0x49000130
def INRUSH_PEND : Nat := 0x49000134
/-! R465 -/
def TP_STATUS : Nat := 0x4A000000
def TP_ARM : Nat := 0x4A000004
def TP_USE_CNT : Nat := 0x4A000008
def TP_XDELAY : Nat := 0x4A000010
def TP_STARVE : Nat := 0x4A000014
def TP_ACKHOLD : Nat := 0x4A000018
def TP_DROP : Nat := 0x4A00001C
def TP_DROP_CNT : Nat := 0x4A000020
def TP_PAR_ADDR : Nat := 0x4A000024
def TP_PAR_CTRL : Nat := 0x4A000028
def TP_TJIT : Nat := 0x4A00002C
def TP_SAG : Nat := 0x4A000030
def TP_SKEW : Nat := 0x4A000034
def TP_SWAPFAIL : Nat := 0x4A000038

end Sys2Proof.Machine.Addr
end

