-- ==== Sys2Proof/Machine/RegTable.lean ====
section
/-!
DEFINITION. The register tables of the spec as data: where each register or array of registers lies, its access
code (R13), its reset value (R16), and which of its bits a write sets (`wm`), a written 1 clears (`w1c`) and a read
clears (`rc`). Bits in none of the masks keep what the hub put there, and reserved bits read 0 (R12).
-/

namespace Sys2Proof.Machine

/-- Access codes of R13; `roW1c` is a register of read-only fields with some W1C bits. -/
inductive Access where
  | rw | ro | wo | w1c | w1s | rc | rl | roW1c
  deriving DecidableEq, Repr

/-- One row of a register table: the first address, the array dimensions as (count, stride) from the widest stride
to the narrowest, the access code, the reset value at an address, and the masks. -/
structure RegRow where
  base : Nat
  dims : List (Nat × Nat)
  acc : Access
  reset : Nat → Word
  wm : Word := 0#32
  w1c : Word := 0#32
  rc : Word := 0#32

def systemRowsA : List RegRow := [
  { base := Addr.SYS_DOME_STAGE_SIZE, dims := [], acc := .rw, reset := fun _ => 0x10#32, wm := 0x3FF#32 },
  { base := Addr.SYS_DOME_DATA_SIZE, dims := [], acc := .rw, reset := fun _ => 0x1E#32, wm := 0x3FF#32 },
  { base := Addr.SYS_DOME_MIRROR_SIZE, dims := [], acc := .rw, reset := fun _ => 0x10#32, wm := 0x3FF#32 },
  { base := Addr.SYS_DOME_CAPTURE_SIZE, dims := [], acc := .rw, reset := fun _ => 0x40#32, wm := 0x3FF#32 },
  { base := Addr.SYS_DOME_JOURNAL_SIZE, dims := [], acc := .ro, reset := fun _ => 0x180#32 },
  { base := Addr.SYS_DOME_STAGE_BASE, dims := [], acc := .ro, reset := fun _ => 0x20000#32 },
  { base := Addr.SYS_DOME_DATA_BASE, dims := [], acc := .ro, reset := fun _ => 0x120000#32 },
  { base := Addr.SYS_DOME_MIRROR_BASE, dims := [], acc := .ro, reset := fun _ => 0x300000#32 },
  { base := Addr.SYS_DOME_CAPTURE_BASE, dims := [], acc := .ro, reset := fun _ => 0x400000#32 },
  { base := Addr.SYS_DOME_JOURNAL_BASE, dims := [], acc := .ro, reset := fun _ => 0x800000#32 },
  { base := Addr.SYS_PLAN_STATUS, dims := [], acc := .ro, reset := fun _ => 0x0#32 },
  { base := Addr.SYS_PLAN_ID, dims := [], acc := .ro, reset := fun _ => 0x0#32 },
  { base := Addr.SYS_PLAN_REV, dims := [], acc := .ro, reset := fun _ => 0x0#32 },
  { base := Addr.SYS_PLAN_SIGNED, dims := [], acc := .ro, reset := fun _ => 0x0#32 },
  { base := Addr.SYS_CHIP_ID, dims := [], acc := .ro, reset := fun _ => 0x51200001#32 },
  { base := Addr.SYS_STEPPING, dims := [], acc := .ro, reset := fun _ => 0xB0#32 },
  { base := Addr.SYS_FW_VER, dims := [], acc := .ro, reset := fun _ => 0x0#32 },
  { base := Addr.SYS_DIE_ID_LO, dims := [], acc := .ro, reset := fun _ => 0x0#32 },
  { base := Addr.SYS_DIE_ID_HI, dims := [], acc := .ro, reset := fun _ => 0x0#32 },
  { base := Addr.SYS_BOOT_STATUS, dims := [], acc := .ro, reset := fun _ => 0x0#32 },
  { base := Addr.SYS_BOOT_CTRL, dims := [], acc := .wo, reset := fun _ => 0x0#32 },
  { base := Addr.SYS_LOCKSTEP_CNT, dims := [], acc := .ro, reset := fun _ => 0x0#32 },
  { base := Addr.SYS_WDOG_CNT, dims := [], acc := .ro, reset := fun _ => 0x0#32 },
  { base := Addr.SYS_OTP_STATUS, dims := [], acc := .ro, reset := fun _ => 0x0#32 },
  { base := Addr.SYS_OTP_CTRL, dims := [], acc := .wo, reset := fun _ => 0x0#32 },
  { base := Addr.SYS_OTP_OWNER 0, dims := [(8, 0x4)], acc := .ro, reset := fun _ => 0x0#32 },
  { base := Addr.SYS_OTP_STAGE 0, dims := [(8, 0x4)], acc := .wo, reset := fun _ => 0x0#32 },
  { base := Addr.SYS_MGMT_CFG, dims := [], acc := .rw, reset := fun _ => 0xF#32, wm := 0x1FFF#32 },
  { base := Addr.SYS_SPI_ERR_CNT, dims := [], acc := .rc, reset := fun _ => 0x0#32, rc := 0xFFFF#32 },
  { base := Addr.SYS_MODE, dims := [], acc := .ro, reset := fun _ => 0x0#32 }]

def systemRowsB : List RegRow := [
  { base := Addr.SYS_START_TIME0, dims := [], acc := .ro, reset := fun _ => 0x0#32 },
  { base := Addr.SYS_START_TIME1, dims := [], acc := .ro, reset := fun _ => 0x0#32 },
  { base := Addr.SYS_START_TIME2, dims := [], acc := .ro, reset := fun _ => 0x0#32 },
  { base := Addr.SYS_STOP_TIME0, dims := [], acc := .ro, reset := fun _ => 0x0#32 },
  { base := Addr.SYS_STOP_TIME1, dims := [], acc := .ro, reset := fun _ => 0x0#32 },
  { base := Addr.SYS_STOP_TIME2, dims := [], acc := .ro, reset := fun _ => 0x0#32 },
  { base := Addr.SYS_CMD_REJECT, dims := [], acc := .rc, reset := fun _ => 0x0#32, rc := 0xFFFF#32 },
  { base := Addr.SYS_RESET_CAUSE, dims := [], acc := .ro, reset := fun _ => 0x0#32 },
  { base := Addr.SYS_MODE_CNT, dims := [], acc := .ro, reset := fun _ => 0x0#32 }]

def systemRows : List RegRow := systemRowsA ++ systemRowsB

def clockRows : List RegRow := [
  { base := Addr.CLK_SPREAD_CFG, dims := [], acc := .rw, reset := fun _ => 0x1#32, wm := 0x1#32 },
  { base := Addr.CLK_THROTTLE_NOW, dims := [], acc := .ro, reset := fun _ => 0x0#32 },
  { base := Addr.CLK_THROTTLE_MAX, dims := [], acc := .rw, reset := fun _ => 0x0#32, wm := 0xFFFFFFFF#32 },
  { base := Addr.CLK_CROSS_STUCK_CNT, dims := [], acc := .rc, reset := fun _ => 0x0#32, rc := 0xFFFF#32 },
  { base := Addr.SAG_STATUS, dims := [], acc := .ro, reset := fun _ => 0x0#32 },
  { base := Addr.SAG_MAX, dims := [], acc := .rc, reset := fun _ => 0x0#32, rc := 0x3#32 },
  { base := Addr.SAG_TRIP_CNT 0, dims := [(3, 0x4)], acc := .rc, reset := fun _ => 0x0#32, rc := 0xFFFF#32 },
  { base := Addr.SAG_L3_TIME, dims := [], acc := .ro, reset := fun _ => 0x0#32 },
  { base := Addr.SAG_LAST0, dims := [], acc := .ro, reset := fun _ => 0x0#32 },
  { base := Addr.SAG_LAST1, dims := [], acc := .ro, reset := fun _ => 0x0#32 },
  { base := Addr.SAG_LAST2, dims := [], acc := .ro, reset := fun _ => 0x0#32 },
  { base := Addr.INRUSH_CFG, dims := [], acc := .rw, reset := fun _ => 0x64#32, wm := 0x3FFF#32 },
  { base := Addr.INRUSH_PEND, dims := [], acc := .ro, reset := fun _ => 0x0#32 }]

def spireRowsA : List RegRow := [
  { base := Addr.FE_CFG 0 0, dims := [(16, 0x10000), (32, 0x4)], acc := .rw, reset := fun _ => 0x0#32, wm := 0x7FFFF#32 },
  { base := Addr.FE_AUX 0 0, dims := [(16, 0x10000), (32, 0x4)], acc := .rw, reset := fun _ => 0x280FA00#32, wm := 0xFFFFFFFF#32 },
  { base := Addr.FE_CLAMP_NOW 0, dims := [(16, 0x10000)], acc := .ro, reset := fun _ => 0x0#32 },
  { base := Addr.FE_CLAMP 0, dims := [(16, 0x10000)], acc := .w1c, reset := fun _ => 0x0#32, w1c := 0xFFFFFFFF#32 },
  { base := Addr.FE_OVR 0, dims := [(16, 0x10000)], acc := .w1c, reset := fun _ => 0x0#32, w1c := 0xFFFFFFFF#32 },
  { base := Addr.FE_BREAK_NOW 0, dims := [(16, 0x10000)], acc := .ro, reset := fun _ => 0x0#32 },
  { base := Addr.FE_BREAK 0, dims := [(16, 0x10000)], acc := .w1c, reset := fun _ => 0x0#32, w1c := 0xFFFFFFFF#32 },
  { base := Addr.FE_CHG_RESET 0, dims := [(16, 0x10000)], acc := .w1s, reset := fun _ => 0x0#32 },
  { base := Addr.FE_CHG_RESET_ACT 0, dims := [(16, 0x10000)], acc := .ro, reset := fun _ => 0x0#32 },
  { base := Addr.FE_CHG_CS 0 0, dims := [(16, 0x10000), (32, 0x4)], acc := .ro, reset := fun _ => 0xFFFF#32 },
  { base := Addr.EXC_CFG 0, dims := [(16, 0x10000)], acc := .rw, reset := fun _ => 0x0#32, wm := 0x3F#32 },
  { base := Addr.EXC_REV 0, dims := [(16, 0x10000)], acc := .rw, reset := fun _ => 0x2000001#32, wm := 0xFFFFFFFF#32 },
  { base := Addr.EXC_STATUS 0, dims := [(16, 0x10000)], acc := .roW1c, reset := fun _ => 0x0#32, w1c := 0x38#32 },
  { base := Addr.EXC_CTRL 0, dims := [(16, 0x10000)], acc := .wo, reset := fun _ => 0x0#32 },
  { base := Addr.EXC_SENSE 0, dims := [(16, 0x10000)], acc := .ro, reset := fun _ => 0x0#32 },
  { base := Addr.EXC_FORCE 0, dims := [(16, 0x10000)], acc := .ro, reset := fun _ => 0x0#32 },
  { base := Addr.EXC_CURRENT 0, dims := [(16, 0x10000)], acc := .ro, reset := fun _ => 0x0#32 },
  { base := Addr.EXC_LIMIT_CNT 0, dims := [(16, 0x10000)], acc := .rc, reset := fun _ => 0x0#32, rc := 0xFFFF#32 },
  { base := Addr.SPIRE_STATUS 0, dims := [(16, 0x10000)], acc := .roW1c, reset := fun _ => 0x1#32, w1c := 0x10#32 },
  { base := Addr.SCHED_CTRL 0, dims := [(16, 0x10000)], acc := .wo, reset := fun _ => 0x0#32 },
  { base := Addr.SCHED_STATUS 0, dims := [(16, 0x10000)], acc := .ro, reset := fun _ => 0x3F00#32 },
  { base := Addr.SLOT_TBL 0 0, dims := [(16, 0x10000), (32, 0x4)], acc := .rw, reset := fun a => 0x40#32 + BitVec.ofNat 32 (4 * ((a / 4) % 8) + (a / 32) % 4), wm := 0x7F#32 },
  { base := Addr.APT_CFG 0 0, dims := [(16, 0x10000), (32, 0x4)], acc := .rw, reset := fun _ => 0x0#32, wm := 0x1FF#32 },
  { base := Addr.ROT_CFG 0, dims := [(16, 0x10000)], acc := .rw, reset := fun _ => 0xA0301#32, wm := 0xFF0F01#32 },
  { base := Addr.ROT_STATUS 0, dims := [(16, 0x10000)], acc := .ro, reset := fun _ => 0x5#32 },
  { base := Addr.SLICE_MAP 0, dims := [(16, 0x10000)], acc := .ro, reset := fun _ => 0x543210#32 },
  { base := Addr.SWAP_TOL 0, dims := [(16, 0x10000)], acc := .rw, reset := fun _ => 0x200008#32, wm := 0xFF00FF#32 },
  { base := Addr.SWAP_RESULT 0, dims := [(16, 0x10000)], acc := .ro, reset := fun _ => 0x7000000#32 },
  { base := Addr.SWAP_CNT 0, dims := [(16, 0x10000)], acc := .ro, reset := fun _ => 0x0#32 },
  { base := Addr.SWAP_ABORT_CNT 0, dims := [(16, 0x10000)], acc := .rc, reset := fun _ => 0x0#32, rc := 0xFFFF#32 }]

def spireRowsB : List RegRow := [
  { base := Addr.INJ_REQ 0, dims := [(16, 0x10000)], acc := .wo, reset := fun _ => 0x0#32 },
  { base := Addr.INJ_QUEUE 0, dims := [(16, 0x10000)], acc := .ro, reset := fun _ => 0x0#32 },
  { base := Addr.INJ_BUSY_CNT 0, dims := [(16, 0x10000)], acc := .rc, reset := fun _ => 0x0#32, rc := 0xFFFF#32 },
  { base := Addr.INJ_RES 0 0, dims := [(16, 0x10000), (9, 0x4)], acc := .ro, reset := fun _ => 0x0#32 },
  { base := Addr.INJ_TIME 0 0, dims := [(16, 0x10000), (9, 0x4)], acc := .ro, reset := fun _ => 0x0#32 },
  { base := Addr.TRIM_OFS 0 0, dims := [(16, 0x10000), (32, 0x8)], acc := .rw, reset := fun _ => 0x0#32, wm := 0xFFFFFFFF#32 },
  { base := Addr.TRIM_GAIN 0 0, dims := [(16, 0x10000), (32, 0x8)], acc := .rw, reset := fun _ => 0x40000000#32, wm := 0xFFFFFFFF#32 },
  { base := Addr.TRIM_KEY 0 0, dims := [(16, 0x10000), (32, 0x4)], acc := .rw, reset := fun _ => 0x0#32, wm := 0x8001E1FF#32 },
  { base := Addr.TRIM_IRTD 0 0, dims := [(16, 0x10000), (32, 0x4)], acc := .rw, reset := fun _ => 0x40000000#32, wm := 0xFFFFFFFF#32 },
  { base := Addr.SNS_TRIM_OFS 0, dims := [(16, 0x10000)], acc := .rw, reset := fun _ => 0x0#32, wm := 0xFFFFFFFF#32 },
  { base := Addr.SNS_TRIM_GAIN 0, dims := [(16, 0x10000)], acc := .rw, reset := fun _ => 0x40000000#32, wm := 0xFFFFFFFF#32 },
  { base := Addr.VREF_CAL 0, dims := [(16, 0x10000)], acc := .rw, reset := fun _ => 0x0#32, wm := 0xFFFF#32 },
  { base := Addr.CINJ_CAL 0, dims := [(16, 0x10000)], acc := .rw, reset := fun _ => 0xA0000#32, wm := 0xFFFFFFFF#32 },
  { base := Addr.TEMP_NOW 0, dims := [(16, 0x10000)], acc := .ro, reset := fun _ => 0x0#32 },
  { base := Addr.TEMP_LAST_TRIM 0, dims := [(16, 0x10000)], acc := .rw, reset := fun _ => 0x0#32, wm := 0xFFFF#32 },
  { base := Addr.TRIM_STATUS 0, dims := [(16, 0x10000)], acc := .ro, reset := fun _ => 0x0#32 },
  { base := Addr.TRIM_FAIL_MASK 0, dims := [(16, 0x10000)], acc := .ro, reset := fun _ => 0x0#32 },
  { base := Addr.TRIM_CNT 0, dims := [(16, 0x10000)], acc := .ro, reset := fun _ => 0x0#32 },
  { base := Addr.TRIM_RSVD 0 0, dims := [(16, 0x10000), (7, 0x4)], acc := .ro, reset := fun _ => 0x0#32 },
  { base := Addr.SLICE_COEF 0 0 0, dims := [(16, 0x10000), (6, 0x80), (32, 0x4)], acc := .rw, reset := fun _ => 0x0#32, wm := 0xFFFFFFFF#32 },
  { base := Addr.FE_TABLE 0 0 0, dims := [(16, 0x10000), (32, 0x40), (16, 0x4)], acc := .rw, reset := fun _ => 0x0#32, wm := 0xFFFFFFFF#32 }]

def spireRows : List RegRow := spireRowsA ++ spireRowsB

def filterRows : List RegRow := [
  { base := Addr.FI_STATUS 0, dims := [(16, 0x10000)], acc := .roW1c, reset := fun _ => 0x0#32, w1c := 0x6#32 },
  { base := Addr.FI_EPOCH0 0, dims := [(16, 0x10000)], acc := .ro, reset := fun _ => 0x0#32 },
  { base := Addr.FI_EPOCH1 0, dims := [(16, 0x10000)], acc := .ro, reset := fun _ => 0x0#32 },
  { base := Addr.FI_EPOCH2 0, dims := [(16, 0x10000)], acc := .ro, reset := fun _ => 0x0#32 },
  { base := Addr.FI_CTRL 0, dims := [(16, 0x10000)], acc := .wo, reset := fun _ => 0x0#32 },
  { base := Addr.FI_COMMIT_STATUS 0, dims := [(16, 0x10000)], acc := .ro, reset := fun _ => 0x0#32 },
  { base := Addr.FI_HOLE_CNT 0, dims := [(16, 0x10000)], acc := .rc, reset := fun _ => 0x0#32, rc := 0xFFFFFFFF#32 },
  { base := Addr.FI_ABSENT_CNT 0, dims := [(16, 0x10000)], acc := .rc, reset := fun _ => 0x0#32, rc := 0xFFFFFFFF#32 },
  { base := Addr.FI_OVR_CNT 0, dims := [(16, 0x10000)], acc := .rc, reset := fun _ => 0x0#32, rc := 0xFFFFFFFF#32 },
  { base := Addr.FCH_CFG 0 0, dims := [(16, 0x10000), (32, 0x40)], acc := .rw, reset := fun _ => 0x35#32, wm := 0x3FFF7F#32 },
  { base := Addr.FCH_LEN1 0 0, dims := [(16, 0x10000), (32, 0x40)], acc := .rw, reset := fun _ => 0x30D4#32, wm := 0xFFFFF#32 },
  { base := Addr.FCH_LEN2 0 0, dims := [(16, 0x10000), (32, 0x40)], acc := .rw, reset := fun _ => 0x30D4#32, wm := 0xFFFFF#32 },
  { base := Addr.FCH_LEN3 0 0, dims := [(16, 0x10000), (32, 0x40)], acc := .rw, reset := fun _ => 0x30D4#32, wm := 0xFFFFF#32 },
  { base := Addr.FCH_DECIM 0 0, dims := [(16, 0x10000), (32, 0x40)], acc := .rw, reset := fun _ => 0x30D4#32, wm := 0xFFFFF#32 },
  { base := Addr.FCH_DELAY 0 0, dims := [(16, 0x10000), (32, 0x40)], acc := .rw, reset := fun _ => 0xEC0000#32, wm := 0xFFFFFF#32 },
  { base := Addr.USER_OFS 0 0, dims := [(16, 0x10000), (32, 0x40)], acc := .rw, reset := fun _ => 0x0#32, wm := 0xFFFFFFFF#32 },
  { base := Addr.USER_GAIN 0 0, dims := [(16, 0x10000), (32, 0x40)], acc := .rw, reset := fun _ => 0x40000000#32, wm := 0xFFFFFFFF#32 },
  { base := Addr.FCH_GDELAY 0 0, dims := [(16, 0x10000), (32, 0x40)], acc := .ro, reset := fun _ => 0x9279#32 },
  { base := Addr.FCH_STATUS 0 0, dims := [(16, 0x10000), (32, 0x40)], acc := .ro, reset := fun _ => 0x1#32 },
  { base := Addr.SEN_CFG 0 0, dims := [(16, 0x10000), (32, 0x20)], acc := .rw, reset := fun _ => 0x4060#32, wm := 0xFFFF#32 },
  { base := Addr.SEN_THR 0 0, dims := [(16, 0x10000), (32, 0x20)], acc := .rw, reset := fun _ => 0x2000#32, wm := 0xFFFFFF#32 },
  { base := Addr.SEN_PDT 0 0, dims := [(16, 0x10000), (32, 0x20)], acc := .rw, reset := fun _ => 0x9C4#32, wm := 0xFFFFF#32 },
  { base := Addr.SEN_HDT 0 0, dims := [(16, 0x10000), (32, 0x20)], acc := .rw, reset := fun _ => 0x2710#32, wm := 0xFFFFF#32 },
  { base := Addr.SEN_HLT 0 0, dims := [(16, 0x10000), (32, 0x20)], acc := .rw, reset := fun _ => 0x30D4#32, wm := 0xFFFFF#32 },
  { base := Addr.SEN_NOISE 0 0, dims := [(16, 0x10000), (32, 0x20)], acc := .ro, reset := fun _ => 0x0#32 },
  { base := Addr.SEN_HIT_CNT 0 0, dims := [(16, 0x10000), (32, 0x20)], acc := .ro, reset := fun _ => 0x0#32 },
  { base := Addr.SEN_STATE 0 0, dims := [(16, 0x10000), (32, 0x20)], acc := .ro, reset := fun _ => 0x0#32 },
  { base := Addr.SEN_LOST_CNT 0, dims := [(16, 0x10000)], acc := .rc, reset := fun _ => 0x0#32, rc := 0xFFFF#32 }]

def calibrationRows : List RegRow := [
  { base := Addr.CALC_STATUS, dims := [], acc := .ro, reset := fun _ => 0x0#32 },
  { base := Addr.CALC_TRIM_CFG, dims := [], acc := .rw, reset := fun _ => 0xCB040#32, wm := 0xFFFFF#32 },
  { base := Addr.CALC_TRIM_PEND, dims := [], acc := .ro, reset := fun _ => 0x0#32 },
  { base := Addr.CALC_TRIM_FORCED_CNT, dims := [], acc := .rc, reset := fun _ => 0x0#32, rc := 0xFFFF#32 },
  { base := Addr.CALC_DIE_TEMP, dims := [], acc := .ro, reset := fun _ => 0x0#32 },
  { base := Addr.CALC_BOOT_FAIL, dims := [], acc := .ro, reset := fun _ => 0x0#32 },
  { base := Addr.CALC_SAVE_STATUS, dims := [], acc := .ro, reset := fun _ => 0x0#32 }]

def lanternRowsA : List RegRow := [
  { base := Addr.LAN_STATUS, dims := [], acc := .roW1c, reset := fun _ => 0x0#32, w1c := 0x2#32 },
  { base := Addr.LAN_CFG, dims := [], acc := .rw, reset := fun _ => 0x0#32, wm := 0x3#32 },
  { base := Addr.TIME_NOW0, dims := [], acc := .ro, reset := fun _ => 0x0#32 },
  { base := Addr.TIME_NOW1, dims := [], acc := .ro, reset := fun _ => 0x0#32 },
  { base := Addr.TIME_NOW2, dims := [], acc := .ro, reset := fun _ => 0x0#32 },
  { base := Addr.RAW_NOW0, dims := [], acc := .ro, reset := fun _ => 0x0#32 },
  { base := Addr.RAW_NOW1, dims := [], acc := .ro, reset := fun _ => 0x0#32 },
  { base := Addr.RAW_NOW2, dims := [], acc := .ro, reset := fun _ => 0x0#32 },
  { base := Addr.OFFSET0, dims := [], acc := .ro, reset := fun _ => 0x0#32 },
  { base := Addr.OFFSET1, dims := [], acc := .ro, reset := fun _ => 0x0#32 },
  { base := Addr.OFFSET2, dims := [], acc := .ro, reset := fun _ => 0x0#32 },
  { base := Addr.ANCHOR0, dims := [], acc := .ro, reset := fun _ => 0x0#32 },
  { base := Addr.ANCHOR1, dims := [], acc := .ro, reset := fun _ => 0x0#32 },
  { base := Addr.ANCHOR2, dims := [], acc := .ro, reset := fun _ => 0x0#32 },
  { base := Addr.RATE_LO, dims := [], acc := .ro, reset := fun _ => 0x0#32 },
  { base := Addr.RATE_HI, dims := [], acc := .ro, reset := fun _ => 0x0#32 },
  { base := Addr.SERVO_RATE_LO, dims := [], acc := .rw, reset := fun _ => 0x0#32, wm := 0xFFFFFFFF#32 },
  { base := Addr.SERVO_RATE_HI, dims := [], acc := .rw, reset := fun _ => 0x0#32, wm := 0xFF#32 },
  { base := Addr.SERVO_STEP_LO, dims := [], acc := .rw, reset := fun _ => 0x0#32, wm := 0xFFFFFFFF#32 },
  { base := Addr.SERVO_STEP_HI, dims := [], acc := .rw, reset := fun _ => 0x0#32, wm := 0xFFFFFFFF#32 },
  { base := Addr.SERVO_SET0, dims := [], acc := .rw, reset := fun _ => 0x0#32, wm := 0xFFFFFFFF#32 },
  { base := Addr.SERVO_SET1, dims := [], acc := .rw, reset := fun _ => 0x0#32, wm := 0xFFFFFFFF#32 },
  { base := Addr.SERVO_SET2, dims := [], acc := .rw, reset := fun _ => 0x0#32, wm := 0xFFFFFFFF#32 },
  { base := Addr.SERVO_CTRL, dims := [], acc := .wo, reset := fun _ => 0x0#32 },
  { base := Addr.SERVO_STATUS, dims := [], acc := .ro, reset := fun _ => 0x0#32 },
  { base := Addr.TIME_SRC, dims := [], acc := .rw, reset := fun _ => 0x0#32, wm := 0x3#32 },
  { base := Addr.TIME_STATE, dims := [], acc := .ro, reset := fun _ => 0x10#32 },
  { base := Addr.LOCK_CFG, dims := [], acc := .rw, reset := fun _ => 0x1000C8#32, wm := 0xFFFFFF#32 },
  { base := Addr.HOLD_MAX, dims := [], acc := .rw, reset := fun _ => 0x12C#32, wm := 0xFFFF#32 },
  { base := Addr.MEAS_OFFSET, dims := [], acc := .ro, reset := fun _ => 0x0#32 }]

def lanternRowsB : List RegRow := [
  { base := Addr.MEAS_DELAY, dims := [], acc := .ro, reset := fun _ => 0x0#32 },
  { base := Addr.ASYM 0, dims := [(4, 0x4)], acc := .rw, reset := fun _ => 0x0#32, wm := 0xFFFFFFFF#32 },
  { base := Addr.GRID_STATUS, dims := [], acc := .roW1c, reset := fun _ => 0x0#32, w1c := 0x2#32 },
  { base := Addr.GRID_CTRL, dims := [], acc := .wo, reset := fun _ => 0x0#32 },
  { base := Addr.GRID_ERR, dims := [], acc := .ro, reset := fun _ => 0x0#32 },
  { base := Addr.GRID_ERR_MAX, dims := [], acc := .rc, reset := fun _ => 0x0#32, rc := 0xFFFF#32 },
  { base := Addr.GRID_FREQ, dims := [], acc := .ro, reset := fun _ => 0x0#32 },
  { base := Addr.GRID_PHASE, dims := [], acc := .ro, reset := fun _ => 0x0#32 },
  { base := Addr.TRIG_IN_CFG 0, dims := [(5, 0x20)], acc := .rw, reset := fun _ => 0x2#32, wm := 0x7#32 },
  { base := Addr.TRIG_IN_TS0 0, dims := [(5, 0x20)], acc := .ro, reset := fun _ => 0x0#32 },
  { base := Addr.TRIG_IN_TS1 0, dims := [(5, 0x20)], acc := .ro, reset := fun _ => 0x0#32 },
  { base := Addr.TRIG_IN_TS2 0, dims := [(5, 0x20)], acc := .ro, reset := fun _ => 0x0#32 },
  { base := Addr.TRIG_IN_INFO 0, dims := [(5, 0x20)], acc := .ro, reset := fun _ => 0x0#32 },
  { base := Addr.TRIG_IN_EDGE_CNT 0, dims := [(5, 0x20)], acc := .ro, reset := fun _ => 0x0#32 },
  { base := Addr.TRIG_IN_OVF_CNT 0, dims := [(5, 0x20)], acc := .rc, reset := fun _ => 0x0#32, rc := 0xFFFF#32 },
  { base := Addr.TRIG_OUT_CFG 0, dims := [(4, 0x4)], acc := .rw, reset := fun _ => 0x6400#32, wm := 0xFFFFFF3F#32 },
  { base := Addr.PPS_OUT_CFG, dims := [], acc := .rw, reset := fun _ => 0x186A001#32, wm := 0xFFFFFF03#32 },
  { base := Addr.ALM_TGT0 0, dims := [(16, 0x40)], acc := .rw, reset := fun _ => 0x0#32, wm := 0xFFFFFFFF#32 },
  { base := Addr.ALM_TGT1 0, dims := [(16, 0x40)], acc := .rw, reset := fun _ => 0x0#32, wm := 0xFFFFFFFF#32 },
  { base := Addr.ALM_TGT2 0, dims := [(16, 0x40)], acc := .rw, reset := fun _ => 0x0#32, wm := 0xFFFFFFFF#32 },
  { base := Addr.ALM_PER 0, dims := [(16, 0x40)], acc := .rw, reset := fun _ => 0x0#32, wm := 0xFFFFFFFF#32 },
  { base := Addr.ALM_PER_FRAC 0, dims := [(16, 0x40)], acc := .rw, reset := fun _ => 0x0#32, wm := 0xFFFF#32 },
  { base := Addr.ALM_ACTION 0, dims := [(16, 0x40)], acc := .rw, reset := fun _ => 0x0#32, wm := 0xF#32 },
  { base := Addr.ALM_CAPMASK 0, dims := [(16, 0x40)], acc := .rw, reset := fun _ => 0x0#32, wm := 0xFFFFFFFF#32 },
  { base := Addr.ALM_CTRL 0, dims := [(16, 0x40)], acc := .wo, reset := fun _ => 0x0#32 },
  { base := Addr.ALM_STATUS 0, dims := [(16, 0x40)], acc := .roW1c, reset := fun _ => 0x0#32, w1c := 0x200#32 },
  { base := Addr.ALM_FIRE_CNT 0, dims := [(16, 0x40)], acc := .ro, reset := fun _ => 0x0#32 }]

def lanternRows : List RegRow := lanternRowsA ++ lanternRowsB

def turretRows : List RegRow := [
  { base := Addr.TUR_STATUS 0, dims := [(4, 0x100000)], acc := .ro, reset := fun _ => 0x0#32 },
  { base := Addr.TUR_ISSUE_CNT 0, dims := [(4, 0x100000)], acc := .ro, reset := fun _ => 0x0#32 },
  { base := Addr.TUR_IDLE_CNT 0, dims := [(4, 0x100000)], acc := .ro, reset := fun _ => 0x0#32 },
  { base := Addr.TUR_STALL_CNT 0, dims := [(4, 0x100000)], acc := .ro, reset := fun _ => 0x0#32 },
  { base := Addr.TUR_TAGS 0, dims := [(4, 0x100000)], acc := .ro, reset := fun _ => 0x0#32 },
  { base := Addr.TUR_BACKLOG 0, dims := [(4, 0x100000)], acc := .ro, reset := fun _ => 0x0#32 },
  { base := Addr.TUR_BACKLOG_MAX 0, dims := [(4, 0x100000)], acc := .rc, reset := fun _ => 0x0#32, rc := 0xFFFFFF#32 },
  { base := Addr.TUR_LOAD_DECL 0, dims := [(4, 0x100000)], acc := .ro, reset := fun _ => 0x0#32 },
  { base := Addr.CTX_G 0 0 0, dims := [(4, 0x100000), (64, 0x400), (16, 0x4)], acc := .rw, reset := fun _ => 0x0#32, wm := 0xFFFFFFFF#32 },
  { base := Addr.CTX_W_LO 0 0 0, dims := [(4, 0x100000), (64, 0x400), (4, 0x10)], acc := .rw, reset := fun _ => 0x0#32, wm := 0xFFFFFFFF#32 },
  { base := Addr.CTX_W_MID 0 0 0, dims := [(4, 0x100000), (64, 0x400), (4, 0x10)], acc := .rw, reset := fun _ => 0x0#32, wm := 0xFFFFFFFF#32 },
  { base := Addr.CTX_W_HI 0 0 0, dims := [(4, 0x100000), (64, 0x400), (4, 0x10)], acc := .rw, reset := fun _ => 0x0#32, wm := 0xFFFF#32 },
  { base := Addr.CTX_PC 0 0, dims := [(4, 0x100000), (64, 0x400)], acc := .rw, reset := fun _ => 0x0#32, wm := 0x3FFF#32 },
  { base := Addr.CTX_STATUS 0 0, dims := [(4, 0x100000), (64, 0x400)], acc := .ro, reset := fun _ => 0x0#32 },
  { base := Addr.CTX_FAULT 0 0, dims := [(4, 0x100000), (64, 0x400)], acc := .ro, reset := fun _ => 0x0#32 },
  { base := Addr.CTX_CFG 0 0, dims := [(4, 0x100000), (64, 0x400)], acc := .rw, reset := fun _ => 0x1#32, wm := 0x1#32 },
  { base := Addr.CTX_ENTRY 0 0, dims := [(4, 0x100000), (64, 0x400)], acc := .rw, reset := fun _ => 0x0#32, wm := 0x3FFF#32 },
  { base := Addr.CTX_ACT 0 0, dims := [(4, 0x100000), (64, 0x400)], acc := .rw, reset := fun _ => 0x0#32, wm := 0x1FFFFFF#32 },
  { base := Addr.CTX_BUDGET 0 0, dims := [(4, 0x100000), (64, 0x400)], acc := .ro, reset := fun _ => 0x0#32 },
  { base := Addr.CTX_RATE 0 0, dims := [(4, 0x100000), (64, 0x400)], acc := .ro, reset := fun _ => 0x0#32 },
  { base := Addr.CTX_SLOTS_MAX 0 0, dims := [(4, 0x100000), (64, 0x400)], acc := .rc, reset := fun _ => 0x0#32, rc := 0xFFFFFF#32 },
  { base := Addr.CTX_ACT_CNT 0 0, dims := [(4, 0x100000), (64, 0x400)], acc := .ro, reset := fun _ => 0x0#32 },
  { base := Addr.CTX_PEND 0 0, dims := [(4, 0x100000), (64, 0x400)], acc := .ro, reset := fun _ => 0x0#32 },
  { base := Addr.CTX_FAULT_CNT 0 0, dims := [(4, 0x100000), (64, 0x400)], acc := .rc, reset := fun _ => 0x0#32, rc := 0xFFFF#32 },
  { base := Addr.CTX_CTRL 0 0, dims := [(4, 0x100000), (64, 0x400)], acc := .wo, reset := fun _ => 0x0#32 },
  { base := Addr.CTX_PORT 0 0 0, dims := [(4, 0x100000), (64, 0x400), (64, 0x4)], acc := .rw, reset := fun _ => 0x0#32, wm := 0xFFFFF#32 },
  { base := Addr.CTX_PORT_LIM 0 0 0, dims := [(4, 0x100000), (64, 0x400), (64, 0x4)], acc := .ro, reset := fun _ => 0x0#32 },
  { base := Addr.CTX_PORT_FILL 0 0 0, dims := [(4, 0x100000), (64, 0x400), (64, 0x4)], acc := .ro, reset := fun _ => 0x0#32 }]

def captureRowsA : List RegRow := [
  { base := Addr.CAPE_STATUS, dims := [], acc := .ro, reset := fun _ => 0x0#32 },
  { base := Addr.CAPE_OVF_CNT, dims := [], acc := .rc, reset := fun _ => 0x0#32, rc := 0xFFFF#32 },
  { base := Addr.CAPE_SPAN_CFG, dims := [], acc := .rw, reset := fun _ => 0x640003#32, wm := 0xFFFF0003#32 },
  { base := Addr.CAPE_SPAN_TX_CNT, dims := [], acc := .ro, reset := fun _ => 0x0#32 },
  { base := Addr.CAPE_SPAN_RX_CNT, dims := [], acc := .ro, reset := fun _ => 0x0#32 },
  { base := Addr.CAPE_SPAN_DUP_CNT, dims := [], acc := .rc, reset := fun _ => 0x0#32, rc := 0xFFFF#32 },
  { base := Addr.CAPE_SPAN_HOLD_CNT, dims := [], acc := .rc, reset := fun _ => 0x0#32, rc := 0xFFFF#32 },
  { base := Addr.CAPE_LOG_HEAD, dims := [], acc := .ro, reset := fun _ => 0x0#32 },
  { base := Addr.CAPE_LOG_CFG, dims := [], acc := .rw, reset := fun _ => 0x0#32, wm := 0x1#32 },
  { base := Addr.CAPE_REASON_CNT 0, dims := [(7, 0x4)], acc := .ro, reset := fun _ => 0x0#32 },
  { base := Addr.CAP_CFG 0, dims := [(32, 0x80)], acc := .rw, reset := fun _ => 0x8200#32, wm := 0xFFFFFF#32 },
  { base := Addr.CAP_TRIG 0, dims := [(32, 0x80)], acc := .rw, reset := fun _ => 0x0#32, wm := 0xFFFF001F#32 },
  { base := Addr.CAP_PRE 0, dims := [(32, 0x80)], acc := .rw, reset := fun _ => 0x0#32, wm := 0xFFFFFF#32 },
  { base := Addr.CAP_POST 0, dims := [(32, 0x80)], acc := .rw, reset := fun _ => 0x1#32, wm := 0xFFFFFF#32 },
  { base := Addr.CAP_LATE 0, dims := [(32, 0x80)], acc := .rw, reset := fun _ => 0x0#32, wm := 0xFFFFFF#32 },
  { base := Addr.CAP_BASE 0, dims := [(32, 0x80)], acc := .rw, reset := fun _ => 0x400000#32, wm := 0xFFFFFFC0#32 },
  { base := Addr.CAP_SIZE 0, dims := [(32, 0x80)], acc := .rw, reset := fun _ => 0x0#32, wm := 0xFFFFFFC0#32 },
  { base := Addr.CAP_STREAM 0, dims := [(32, 0x80)], acc := .rw, reset := fun _ => 0x0#32, wm := 0x3FF#32 },
  { base := Addr.CAP_MEAS_THR 0, dims := [(32, 0x80)], acc := .rw, reset := fun _ => 0x0#32, wm := 0xFFFFFFFF#32 },
  { base := Addr.CAP_MEAS_HYST 0, dims := [(32, 0x80)], acc := .rw, reset := fun _ => 0x0#32, wm := 0xFFFFFFFF#32 },
  { base := Addr.CAP_CTRL 0, dims := [(32, 0x80)], acc := .wo, reset := fun _ => 0x0#32 },
  { base := Addr.CAP_RESULT 0, dims := [(32, 0x80)], acc := .ro, reset := fun _ => 0x0#32 },
  { base := Addr.CAP_STATE 0, dims := [(32, 0x80)], acc := .ro, reset := fun _ => 0x0#32 },
  { base := Addr.CAP_SEQ 0, dims := [(32, 0x80)], acc := .ro, reset := fun _ => 0x0#32 },
  { base := Addr.CAP_SLOTS 0, dims := [(32, 0x80)], acc := .ro, reset := fun _ => 0x0#32 },
  { base := Addr.CAP_MISSED 0, dims := [(32, 0x80)], acc := .ro, reset := fun _ => 0x0#32 },
  { base := Addr.CAP_CHAN 0 0, dims := [(32, 0x80), (16, 0x4)], acc := .rw, reset := fun _ => 0x0#32, wm := 0x3FF03FF#32 },
  { base := Addr.CAPE_LOG_TIME0 0, dims := [(256, 0x10)], acc := .ro, reset := fun _ => 0x0#32 },
  { base := Addr.CAPE_LOG_TIME1 0, dims := [(256, 0x10)], acc := .ro, reset := fun _ => 0x0#32 },
  { base := Addr.CAPE_LOG_TIME2 0, dims := [(256, 0x10)], acc := .ro, reset := fun _ => 0x0#32 }]

def captureRowsB : List RegRow := [
  { base := Addr.CAPE_LOG_INFO 0, dims := [(256, 0x10)], acc := .ro, reset := fun _ => 0x0#32 }]

def captureRows : List RegRow := captureRowsA ++ captureRowsB

def ledgerRows : List RegRow := [
  { base := Addr.LED_STATUS, dims := [], acc := .ro, reset := fun _ => 0x1#32 },
  { base := Addr.LED_CFG, dims := [], acc := .rw, reset := fun _ => 0x3E80000#32, wm := 0xFFFF07FF#32 },
  { base := Addr.LED_CTRL, dims := [], acc := .wo, reset := fun _ => 0x0#32 },
  { base := Addr.LED_COMMIT_STATUS, dims := [], acc := .ro, reset := fun _ => 0x0#32 },
  { base := Addr.LED_EPOCH, dims := [], acc := .ro, reset := fun _ => 0x0#32 },
  { base := Addr.LED_POISON_CNT, dims := [], acc := .rc, reset := fun _ => 0x0#32, rc := 0xFFFF#32 },
  { base := Addr.LED_GAP_CNT, dims := [], acc := .ro, reset := fun _ => 0x0#32 },
  { base := Addr.LED_ACK_IGN_CNT, dims := [], acc := .rc, reset := fun _ => 0x0#32, rc := 0xFFFF#32 },
  { base := Addr.LED_DISCARD_CNT, dims := [], acc := .rc, reset := fun _ => 0x0#32, rc := 0xFFFFFFFF#32 },
  { base := Addr.LED_EVT_DROP_CNT, dims := [], acc := .rc, reset := fun _ => 0x0#32, rc := 0xFFFF#32 },
  { base := Addr.LED_Q_CFG 0, dims := [(64, 0x40)], acc := .rw, reset := fun a => if a = Addr.LED_Q_CFG 0 then 0x60000#32 else 0#32, wm := 0x3FFFFF#32 },
  { base := Addr.LED_Q_TIME 0, dims := [(64, 0x40)], acc := .rw, reset := fun _ => 0x1403E8#32, wm := 0x3FFFFFF#32 },
  { base := Addr.LED_Q_WR 0, dims := [(64, 0x40)], acc := .ro, reset := fun _ => 0x0#32 },
  { base := Addr.LED_Q_SEND 0, dims := [(64, 0x40)], acc := .ro, reset := fun _ => 0x0#32 },
  { base := Addr.LED_Q_MARK 0, dims := [(64, 0x40)], acc := .ro, reset := fun _ => 0x0#32 },
  { base := Addr.LED_Q_STATUS 0, dims := [(64, 0x40)], acc := .roW1c, reset := fun _ => 0x1#32, w1c := 0x4#32 },
  { base := Addr.LED_Q_REWIND_CNT 0, dims := [(64, 0x40)], acc := .ro, reset := fun _ => 0x0#32 },
  { base := Addr.LED_Q_EVICT_CNT 0, dims := [(64, 0x40)], acc := .ro, reset := fun _ => 0x0#32 },
  { base := Addr.LED_Q_FILL_MAX 0, dims := [(64, 0x40)], acc := .rc, reset := fun _ => 0x0#32, rc := 0x3FFFFF#32 },
  { base := Addr.LED_STREAM 0, dims := [(1024, 0x4)], acc := .rw, reset := fun _ => 0x0#32, wm := 0x7F#32 },
  { base := Addr.LED_S_PROD_LO 0, dims := [(1024, 0x10)], acc := .ro, reset := fun _ => 0x0#32 },
  { base := Addr.LED_S_PROD_HI 0, dims := [(1024, 0x10)], acc := .ro, reset := fun _ => 0x0#32 },
  { base := Addr.LED_S_ACK_LO 0, dims := [(1024, 0x10)], acc := .ro, reset := fun _ => 0x0#32 },
  { base := Addr.LED_S_ACK_HI 0, dims := [(1024, 0x10)], acc := .ro, reset := fun _ => 0x0#32 }]

def laneRowsA : List RegRow := [
  { base := Addr.LANE_CFG 0, dims := [(4, 0x10000)], acc := .rw, reset := fun a => BitVec.ofNat 32 (2 * ((a / 0x10000) % 4)), wm := 0x7F#32 },
  { base := Addr.LANE_STATUS 0, dims := [(4, 0x10000)], acc := .roW1c, reset := fun _ => 0x0#32, w1c := 0x200#32 },
  { base := Addr.LANE_CTRL 0, dims := [(4, 0x10000)], acc := .wo, reset := fun _ => 0x0#32 },
  { base := Addr.LANE_FEAT 0, dims := [(4, 0x10000)], acc := .ro, reset := fun _ => 0x0#32 },
  { base := Addr.PEER_CAP 0 0, dims := [(4, 0x10000), (9, 0x4)], acc := .ro, reset := fun _ => 0x0#32 },
  { base := Addr.CRED_TX 0, dims := [(4, 0x10000)], acc := .ro, reset := fun _ => 0x0#32 },
  { base := Addr.CRED_ADV 0, dims := [(4, 0x10000)], acc := .rw, reset := fun _ => 0x40FF4020#32, wm := 0xFFFFFFFF#32 },
  { base := Addr.CNT_CRC 0, dims := [(4, 0x10000)], acc := .rc, reset := fun _ => 0x0#32, rc := 0xFFFF#32 },
  { base := Addr.CNT_MALF 0, dims := [(4, 0x10000)], acc := .rc, reset := fun _ => 0x0#32, rc := 0xFFFF#32 },
  { base := Addr.CNT_ABORT 0, dims := [(4, 0x10000)], acc := .rc, reset := fun _ => 0x0#32, rc := 0xFFFF#32 },
  { base := Addr.CNT_CODE 0, dims := [(4, 0x10000)], acc := .rc, reset := fun _ => 0x0#32, rc := 0xFFFF#32 },
  { base := Addr.CNT_DOWN 0, dims := [(4, 0x10000)], acc := .ro, reset := fun _ => 0x0#32 },
  { base := Addr.CNT_TRAIN_FAIL 0, dims := [(4, 0x10000)], acc := .rc, reset := fun _ => 0x0#32, rc := 0xFFFF#32 },
  { base := Addr.FRAMES_TX 0, dims := [(4, 0x10000)], acc := .ro, reset := fun _ => 0x0#32 },
  { base := Addr.FRAMES_RX 0, dims := [(4, 0x10000)], acc := .ro, reset := fun _ => 0x0#32 },
  { base := Addr.CNT_DISCARD 0, dims := [(4, 0x10000)], acc := .rc, reset := fun _ => 0x0#32, rc := 0xFFFF#32 },
  { base := Addr.TS_T1 0 0, dims := [(4, 0x10000), (3, 0x4)], acc := .ro, reset := fun _ => 0x0#32 },
  { base := Addr.TS_T2 0 0, dims := [(4, 0x10000), (3, 0x4)], acc := .ro, reset := fun _ => 0x0#32 },
  { base := Addr.TS_T3 0 0, dims := [(4, 0x10000), (3, 0x4)], acc := .ro, reset := fun _ => 0x0#32 },
  { base := Addr.TS_T4 0 0, dims := [(4, 0x10000), (3, 0x4)], acc := .ro, reset := fun _ => 0x0#32 },
  { base := Addr.TS_SEQ 0, dims := [(4, 0x10000)], acc := .ro, reset := fun _ => 0x0#32 },
  { base := Addr.LANE_MEAS_DELAY 0, dims := [(4, 0x10000)], acc := .ro, reset := fun _ => 0x0#32 },
  { base := Addr.LANE_MEAS_OFFSET 0, dims := [(4, 0x10000)], acc := .ro, reset := fun _ => 0x0#32 },
  { base := Addr.MOD_STATUS 0, dims := [(4, 0x10000)], acc := .ro, reset := fun _ => 0x0#32 },
  { base := Addr.MOD_ACC 0, dims := [(4, 0x10000)], acc := .rw, reset := fun _ => 0x0#32, wm := 0xFF03FF#32 },
  { base := Addr.MOD_RES 0, dims := [(4, 0x10000)], acc := .ro, reset := fun _ => 0x0#32 },
  { base := Addr.DDM_TEMP 0, dims := [(4, 0x10000)], acc := .ro, reset := fun _ => 0x0#32 },
  { base := Addr.DDM_VCC 0, dims := [(4, 0x10000)], acc := .ro, reset := fun _ => 0x0#32 },
  { base := Addr.DDM_BIAS 0, dims := [(4, 0x10000)], acc := .ro, reset := fun _ => 0x0#32 },
  { base := Addr.DDM_TXPWR 0, dims := [(4, 0x10000)], acc := .ro, reset := fun _ => 0x0#32 }]

def laneRowsB : List RegRow := [
  { base := Addr.DDM_RXPWR 0, dims := [(4, 0x10000)], acc := .ro, reset := fun _ => 0x0#32 },
  { base := Addr.EYE_PT 0, dims := [(4, 0x10000)], acc := .rw, reset := fun _ => 0xA4000#32, wm := 0x3F7FFF#32 },
  { base := Addr.EYE_CTRL 0, dims := [(4, 0x10000)], acc := .wo, reset := fun _ => 0x0#32 },
  { base := Addr.EYE_STATUS 0, dims := [(4, 0x10000)], acc := .ro, reset := fun _ => 0x0#32 },
  { base := Addr.EYE_CNT_LO 0, dims := [(4, 0x10000)], acc := .ro, reset := fun _ => 0x0#32 },
  { base := Addr.EYE_CNT_HI 0, dims := [(4, 0x10000)], acc := .ro, reset := fun _ => 0x0#32 },
  { base := Addr.ETH_CFG 0, dims := [(4, 0x10000)], acc := .rw, reset := fun _ => 0x88B5#32, wm := 0xFFFFFFFF#32 },
  { base := Addr.ETH_SRC_LO 0, dims := [(4, 0x10000)], acc := .rw, reset := fun _ => 0x0#32, wm := 0xFFFFFFFF#32 },
  { base := Addr.ETH_SRC_HI 0, dims := [(4, 0x10000)], acc := .rw, reset := fun _ => 0x0#32, wm := 0xFFFF#32 },
  { base := Addr.ETH_DST_LO 0, dims := [(4, 0x10000)], acc := .rw, reset := fun _ => 0xFFFFFFFF#32, wm := 0xFFFFFFFF#32 },
  { base := Addr.ETH_DST_HI 0, dims := [(4, 0x10000)], acc := .rw, reset := fun _ => 0xFFFF#32, wm := 0xFFFF#32 },
  { base := Addr.PTP_CFG 0, dims := [(4, 0x10000)], acc := .rw, reset := fun _ => 0x0#32, wm := 0xFF#32 },
  { base := Addr.CNT_PAUSE 0, dims := [(4, 0x10000)], acc := .ro, reset := fun _ => 0x0#32 },
  { base := Addr.CNT_ETH_DROP 0, dims := [(4, 0x10000)], acc := .rc, reset := fun _ => 0x0#32, rc := 0xFFFF#32 },
  { base := Addr.CNT_PTP_IGN 0, dims := [(4, 0x10000)], acc := .rc, reset := fun _ => 0x0#32, rc := 0xFFFF#32 }]

def laneRows : List RegRow := laneRowsA ++ laneRowsB

def gatehouseRows : List RegRow := [
  { base := Addr.SPAN_CFG, dims := [], acc := .rw, reset := fun _ => 0x40#32, wm := 0x7FFFF#32 },
  { base := Addr.SEG_DOWN_LO, dims := [], acc := .ro, reset := fun _ => 0x0#32 },
  { base := Addr.SEG_DOWN_HI, dims := [], acc := .ro, reset := fun _ => 0x0#32 },
  { base := Addr.GH_STATUS, dims := [], acc := .ro, reset := fun _ => 0x1#32 },
  { base := Addr.CNT_UNREACH, dims := [], acc := .rc, reset := fun _ => 0x0#32, rc := 0xFFFF#32 },
  { base := Addr.CNT_TTL, dims := [], acc := .rc, reset := fun _ => 0x0#32, rc := 0xFFFF#32 },
  { base := Addr.CNT_HEAL, dims := [], acc := .ro, reset := fun _ => 0x0#32 }]

def selailRows : List RegRow := [
  { base := Addr.SEL_CFG, dims := [], acc := .rw, reset := fun _ => 0x200000#32, wm := 0x3FFFFF#32 },
  { base := Addr.SEL_WARDEN, dims := [], acc := .rw, reset := fun _ => 0x0#32, wm := 0x3F3F#32 },
  { base := Addr.SEL_TIMING, dims := [], acc := .rw, reset := fun _ => 0x1F40A3C#32, wm := 0xFFFF3FFF#32 },
  { base := Addr.SEL_FAULT_MASK, dims := [], acc := .rw, reset := fun _ => 0x3#32, wm := 0x3#32 },
  { base := Addr.SEL_STATUS, dims := [], acc := .ro, reset := fun _ => 0x0#32 },
  { base := Addr.SEL_EPOCH, dims := [], acc := .ro, reset := fun _ => 0x0#32 },
  { base := Addr.SEL_LEASE_END0, dims := [], acc := .ro, reset := fun _ => 0x0#32 },
  { base := Addr.SEL_LEASE_END1, dims := [], acc := .ro, reset := fun _ => 0x0#32 },
  { base := Addr.SEL_LEASE_END2, dims := [], acc := .ro, reset := fun _ => 0x0#32 },
  { base := Addr.SEL_TAKEOVER_CNT, dims := [], acc := .ro, reset := fun _ => 0x0#32 },
  { base := Addr.SEL_HB_MISS_CNT, dims := [], acc := .rc, reset := fun _ => 0x0#32, rc := 0xFFFF#32 },
  { base := Addr.SEL_DENY_CNT, dims := [], acc := .rc, reset := fun _ => 0x0#32, rc := 0xFFFF#32 },
  { base := Addr.SEL_MIRROR_REPL_CNT, dims := [], acc := .rc, reset := fun _ => 0x0#32, rc := 0xFFFF#32 },
  { base := Addr.SEL_MIRROR_LOST_CNT, dims := [], acc := .rc, reset := fun _ => 0x0#32, rc := 0xFFFF#32 },
  { base := Addr.SEL_WTBL_PAIR 0, dims := [(32, 0x10)], acc := .ro, reset := fun _ => 0x0#32 },
  { base := Addr.SEL_WTBL_EPOCH 0, dims := [(32, 0x10)], acc := .ro, reset := fun _ => 0x0#32 },
  { base := Addr.SEL_WTBL_END_NS 0, dims := [(32, 0x10)], acc := .ro, reset := fun _ => 0x0#32 },
  { base := Addr.SEL_WTBL_END_SEC 0, dims := [(32, 0x10)], acc := .ro, reset := fun _ => 0x0#32 }]

def mailboxRows : List RegRow := [
  { base := Addr.MB_DATA 0, dims := [(64, 0x10)], acc := .rw, reset := fun _ => 0x0#32, wm := 0xFFFFFFFF#32 },
  { base := Addr.MB_PEEK 0, dims := [(64, 0x10)], acc := .ro, reset := fun _ => 0x0#32 },
  { base := Addr.MB_STATUS 0, dims := [(64, 0x10)], acc := .roW1c, reset := fun _ => 0x0#32, w1c := 0x2#32 },
  { base := Addr.MB_LASTREAD 0, dims := [(64, 0x10)], acc := .ro, reset := fun _ => 0x0#32 },
  { base := Addr.DB_MSG_LO 0, dims := [(9, 0x20)], acc := .w1c, reset := fun _ => 0x0#32, w1c := 0xFFFFFFFF#32 },
  { base := Addr.DB_MSG_HI 0, dims := [(9, 0x20)], acc := .w1c, reset := fun _ => 0x0#32, w1c := 0xFFFFFFFF#32 },
  { base := Addr.DB_ACK_LO 0, dims := [(9, 0x20)], acc := .w1c, reset := fun _ => 0x0#32, w1c := 0xFFFFFFFF#32 },
  { base := Addr.DB_ACK_HI 0, dims := [(9, 0x20)], acc := .w1c, reset := fun _ => 0x0#32, w1c := 0xFFFFFFFF#32 },
  { base := Addr.DB_ABT_LO 0, dims := [(9, 0x20)], acc := .w1c, reset := fun _ => 0x0#32, w1c := 0xFFFFFFFF#32 },
  { base := Addr.DB_ABT_HI 0, dims := [(9, 0x20)], acc := .w1c, reset := fun _ => 0x0#32, w1c := 0xFFFFFFFF#32 },
  { base := Addr.DB_MASK 0, dims := [(9, 0x20)], acc := .rw, reset := fun _ => 0x0#32, wm := 0x7#32 },
  { base := Addr.RESET_EPOCH 0, dims := [(9, 0x20)], acc := .ro, reset := fun _ => 0x0#32 },
  { base := Addr.CP_MASTER_RESET, dims := [], acc := .wo, reset := fun _ => 0x0#32 },
  { base := Addr.CMD_INFLIGHT_LO, dims := [], acc := .ro, reset := fun _ => 0x0#32 },
  { base := Addr.CMD_INFLIGHT_HI, dims := [], acc := .ro, reset := fun _ => 0x0#32 }]

def lockRows : List RegRow := [
  { base := Addr.LOCK 0, dims := [(32, 0x4)], acc := .rl, reset := fun _ => 0x0#32 },
  { base := Addr.LOCK_PEEK 0, dims := [(32, 0x4)], acc := .ro, reset := fun _ => 0x0#32 },
  { base := Addr.LOCK_FORCE, dims := [], acc := .wo, reset := fun _ => 0x0#32 }]

def errorLogRows : List RegRow := [
  { base := Addr.ELOG_STATUS, dims := [], acc := .ro, reset := fun _ => 0x0#32 },
  { base := Addr.ELOG_HEAD, dims := [], acc := .ro, reset := fun _ => 0x0#32 },
  { base := Addr.ELOG_FREE, dims := [], acc := .wo, reset := fun _ => 0x0#32 },
  { base := Addr.ELOG_LOST, dims := [], acc := .w1c, reset := fun _ => 0x0#32, w1c := 0xFFFFFFFF#32 },
  { base := Addr.FIRST_ERR, dims := [], acc := .roW1c, reset := fun _ => 0x0#32, w1c := 0x80000000#32 },
  { base := Addr.FIRST_DETAIL, dims := [], acc := .ro, reset := fun _ => 0x0#32 },
  { base := Addr.FIRST_TIME 0, dims := [(3, 0x4)], acc := .ro, reset := fun _ => 0x0#32 },
  { base := Addr.ELOG_CLASS_CNT 0, dims := [(32, 0x4)], acc := .ro, reset := fun _ => 0x0#32 },
  { base := Addr.ELOG_OVF_CNT 0, dims := [(32, 0x4)], acc := .rc, reset := fun _ => 0x0#32, rc := 0xFFFF#32 },
  { base := Addr.ELOG_ENTRY 0 0, dims := [(64, 0x20), (8, 0x4)], acc := .ro, reset := fun _ => 0x0#32 }]

def bindingRows : List RegRow := [
  { base := Addr.BIND 0, dims := [(64, 0x4)], acc := .rw, reset := fun _ => 0x0#32, wm := 0xFFFF#32 },
  { base := Addr.BIND_LOCK, dims := [], acc := .w1s, reset := fun _ => 0x0#32 }]

def testRows : List RegRow := [
  { base := Addr.TP_STATUS, dims := [], acc := .ro, reset := fun _ => 0x0#32 },
  { base := Addr.TP_ARM, dims := [], acc := .wo, reset := fun _ => 0x0#32 },
  { base := Addr.TP_USE_CNT, dims := [], acc := .ro, reset := fun _ => 0x0#32 },
  { base := Addr.TP_XDELAY, dims := [], acc := .rw, reset := fun _ => 0x0#32, wm := 0x1FFFF#32 },
  { base := Addr.TP_STARVE, dims := [], acc := .rw, reset := fun _ => 0x0#32, wm := 0xFFFF0FFF#32 },
  { base := Addr.TP_ACKHOLD, dims := [], acc := .rw, reset := fun _ => 0x0#32, wm := 0x3FFFF#32 },
  { base := Addr.TP_DROP, dims := [], acc := .rw, reset := fun _ => 0x0#32, wm := 0x1FFFFFF#32 },
  { base := Addr.TP_DROP_CNT, dims := [], acc := .rc, reset := fun _ => 0x0#32, rc := 0xFFFFFFFF#32 },
  { base := Addr.TP_PAR_ADDR, dims := [], acc := .rw, reset := fun _ => 0x0#32, wm := 0x1FFFFF8#32 },
  { base := Addr.TP_PAR_CTRL, dims := [], acc := .wo, reset := fun _ => 0x0#32 },
  { base := Addr.TP_TJIT, dims := [], acc := .rw, reset := fun _ => 0x0#32, wm := 0x1FFF#32 },
  { base := Addr.TP_SAG, dims := [], acc := .rw, reset := fun _ => 0x0#32, wm := 0x7#32 },
  { base := Addr.TP_SKEW, dims := [], acc := .rw, reset := fun _ => 0x0#32, wm := 0xFFFFFFFF#32 },
  { base := Addr.TP_SWAPFAIL, dims := [], acc := .rw, reset := fun _ => 0x0#32, wm := 0x7FFFF#32 }]

/-- The blocks of the address map that hold registers (R35): first address, last address, rows. -/
def regBlocks : List (Nat × Nat × List RegRow) := [
  (0x40004000, 0x40004FFF, systemRows),
  (0x49000000, 0x4900FFFF, clockRows),
  (0x41000000, 0x410FFFFF, spireRows),
  (0x42000000, 0x420FFFFF, filterRows),
  (0x4B000000, 0x4B00FFFF, calibrationRows),
  (0x46000000, 0x460FFFFF, lanternRows),
  (0x43000000, 0x433FFFFF, turretRows),
  (0x44000000, 0x440FFFFF, captureRows),
  (0x45000000, 0x450FFFFF, ledgerRows),
  (0x47000000, 0x4703FFFF, laneRows),
  (0x47040000, 0x4704FFFF, gatehouseRows),
  (0x48000000, 0x4800FFFF, selailRows),
  (0x40000000, 0x40000FFF, mailboxRows),
  (0x40001000, 0x40001FFF, lockRows),
  (0x40002000, 0x40002FFF, errorLogRows),
  (0x40003000, 0x40003FFF, bindingRows),
  (0x4A000000, 0x4A00FFFF, testRows)]

/-- Whether offset `o` from a row's base falls on an element of its array. -/
def onRow : Nat → List (Nat × Nat) → Bool
  | o, [] => o == 0
  | o, (n, s) :: ds => o / s < n && onRow (o % s) ds

/-- The register table row of address `a`, none where no register lies (R11, R35). -/
def findRow (a : Nat) : Option RegRow :=
  (regBlocks.find? fun b => b.1 ≤ a && a ≤ b.2.1).bind fun b =>
    b.2.2.find? fun r => r.base ≤ a && onRow (a - r.base) r.dims

/-- The reset value of the register at `a` (R16); 0 where no register lies. -/
def resetValue (a : Nat) : Word :=
  match findRow a with
  | some r => r.reset a
  | none => 0#32

end Sys2Proof.Machine
end

