-- ==== Sys2Proof/Machine/SMap.lean ====
section
/-!
DEFINITION. Sparse tables: lists of (key, value) pairs sorted by key, read with a default for the keys not listed.
All large arrays of the hub (registers, channels, contexts, queues, streams) are kept in this form.
-/

namespace Sys2Proof.Machine

/-- A sparse table keyed by natural numbers. -/
abbrev SMap (α : Type) := List (Nat × α)

/-- The value listed for key `k`, if any. -/
def SMap.find {α : Type} : SMap α → Nat → Option α
  | [], _ => none
  | (j, v) :: t, k => if k = j then some v else SMap.find t k

/-- The value at key `k`, `d` where none is listed. -/
def SMap.get {α : Type} (d : α) (m : SMap α) (k : Nat) : α := (SMap.find m k).getD d

/-- `m` with value `v` at key `k`; the keys stay sorted. -/
def SMap.put {α : Type} : SMap α → Nat → α → SMap α
  | [], k, v => [(k, v)]
  | (j, w) :: t, k, v =>
    if k = j then (k, v) :: t else if k < j then (k, v) :: (j, w) :: t else (j, w) :: SMap.put t k v

theorem SMap.find_put {α : Type} (m : SMap α) (k k' : Nat) (v : α) :
    SMap.find (SMap.put m k v) k' = if k' = k then some v else SMap.find m k' := by
  induction m with
  | nil => simp [SMap.put, SMap.find]
  | cons p t ih =>
    obtain ⟨j, w⟩ := p
    simp only [SMap.put]
    by_cases h1 : k = j
    · subst h1; by_cases h2 : k' = k <;> simp [SMap.find, h2]
    · simp only [h1, if_false]
      by_cases h3 : k < j
      · simp only [h3, if_true]
        by_cases h2 : k' = k <;> simp [SMap.find, h2]
      · simp only [h3, if_false, SMap.find, ih]
        by_cases h4 : k' = j
        · have : ¬ k' = k := fun e => h1 (e ▸ h4)
          subst h4
          simp [this]
        · simp [h4]

theorem SMap.get_put {α : Type} (d : α) (m : SMap α) (k k' : Nat) (v : α) :
    SMap.get d (SMap.put m k v) k' = if k' = k then v else SMap.get d m k' := by
  simp only [SMap.get, SMap.find_put]
  by_cases h : k' = k <;> simp [h]

@[simp] theorem SMap.get_put_same {α : Type} (d : α) (m : SMap α) (k : Nat) (v : α) :
    SMap.get d (SMap.put m k v) k = v := by simp [SMap.get_put]

@[simp] theorem SMap.get_nil {α : Type} (d : α) (k : Nat) : SMap.get d ([] : SMap α) k = d := rfl

end Sys2Proof.Machine
end

