-- ==== Sys2Proof/Machine/Hub.lean ====
section
/-!
DEFINITION. The state of the hub as plain data: the registers, the Dome, and every piece of state the chapters give a
block that no register holds. All times are instants (units of 2^-16 ns since the PTP epoch of R5); frames are the
frame numbers F of R179; indices of channels, contexts, queues and streams are natural numbers.
-/

namespace Sys2Proof.Machine

/-! ### Control plane (R377 to R401) -/

/-- An error-log entry or a queued report (R390, R403). -/
structure LogEntry where
  cls : Nat
  code : Nat
  master : Nat
  detail : Word
  count : Nat := 1
  first : Nat := 0
  last : Nat := 0
  deriving DecidableEq, Repr

/-- The error log: 64 entries held oldest first, the index of the oldest, the entries written, the queue (R391, R392). -/
structure ErrorLog where
  entries : List LogEntry := []
  head : Nat := 0
  written : Nat := 0
  queue : List LogEntry := []
  deriving DecidableEq, Repr

/-- The SPI bridge (R394 to R396). -/
structure SpiPort where
  busy : Bool := false
  rdy : Bool := false
  addr : Nat := 0
  result : Word := 0
  status : Nat := 0
  seq : Nat := 0
  /-- `SPI_STAT` as the last frame returned it, and its data phase. -/
  stat : Word := 0
  data : Word := 0
  deriving DecidableEq, Repr

/-- A kept RESP frame of the management bridge (R400); `sent` is RAW at its sending. -/
structure KeptResp where
  src : Nat
  tag : Nat
  up : Bool
  sent : Nat
  payload : List Word
  bulk : Bool := false
  deriving DecidableEq, Repr

/-- Control-plane state that is no register. -/
structure Control where
  elog : ErrorLog := {}
  spi : SpiPort := {}
  resps : List KeptResp := []
  /-- The word the last read returned to each master. -/
  readData : SMap Word := []
  /-- Whether the last access of each master was performed (R395: OK or ERANGE). -/
  readOk : SMap Bool := []
  /-- Reads abandoned by a bridge that have not completed: master and address (R30). -/
  abandoned : List (Nat × Nat) := []
  /-- The channel a command was last taken from (R385). -/
  cmdLast : Nat := 63
  /-- Responses waiting for a full response channel: command channel and word (R385). -/
  waiting : List (Nat × Word) := []
  /-- Contexts with a toggle event in its acknowledge phase, and whether another event has merged behind it (R32). -/
  toggles : SMap Bool := []
  /-- The context that holds each lock within its Turret (R254). -/
  lockCtx : SMap Nat := []
  /-- Belfry is in its restart after a Belfry reset (R381: the receiver is held). -/
  belfryHeld : Bool := false
  /-- Reports of a Belfry reset the firmware writes after restart: class and detail (R370). -/
  restartLog : List (Nat × Word) := []
  deriving DecidableEq, Repr

/-! ### Lantern (R170 to R198) -/

/-- Kinds of servo commit (R174). -/
inductive ServoKind where
  | rate | step | set
  deriving DecidableEq, Repr

/-- A staged servo commit (R174). -/
structure ServoStaged where
  kind : ServoKind
  rate : Int
  step : Int
  set : Nat
  rc : Nat
  deriving DecidableEq, Repr

/-- The values an armed alarm was armed with (R191). -/
structure AlarmLatch where
  target : Nat := 0
  per : Nat := 0
  action : Nat := 0
  capmask : Word := 0
  deriving DecidableEq, Repr

/-- An edge stored by a trigger input's timestamp unit (R178). -/
structure TrigStamp where
  time : Nat
  rise : Bool
  tstate : Nat
  deriving DecidableEq, Repr

/-- The parameters of corrected time (R173): `OFFSET` as an instant, `ANCHOR`, `RATE`. -/
structure Clock where
  offset : Nat := 0
  anchor : Nat := 0
  rate : Int := 0
  deriving DecidableEq, Repr

/-- A measurement the servo has not used yet (R185, R189): θ in ps, and the parameters of corrected time at its instant. -/
structure Meas where
  theta : Int
  clock : Clock
  deriving DecidableEq, Repr

/-- Lantern state that is no register. -/
structure Lantern where
  /-- `REF_FREQ` in force, and one written since, for the next hub reset (R171). -/
  refFreq : Nat := 0
  refNext : Option Nat := none
  staged : Option ServoStaged := none
  meas : Option Meas := none
  /-- RAW at the last measurement used (R186). -/
  measAt : Nat := 0
  /-- The snapshot banks of R176: T and RAW, by master. -/
  snaps : SMap (Nat × Nat) := []
  alarms : SMap AlarmLatch := []
  fifos : SMap (List TrigStamp) := []
  /-- Consecutive measurements within LOCK_THRESH, and beyond 8 times it while LOCKED (R186). -/
  good : Nat := 0
  bad : Nat := 0
  /-- RAW at which the hold timer started (R186). -/
  holdStart : Nat := 0
  /-- The servo's frequency estimate in units of 2^-48 (R185). -/
  freqEst : Int := 0
  /-- The HOPS heard on each lane in the last 125 ms with their instants, newest first (R334), and the state heard last (R188). -/
  laneHops : SMap (List (Nat × Nat)) := []
  laneState : SMap Nat := []
  /-- Instant of the last grid-fault log entry (R181: at most one a second). -/
  gridLogged : Option Nat := none
  deriving DecidableEq, Repr

/-! ### Spires and front ends (chapters 2, 3, 5) -/

/-- Excitation driver states (the table of R466). -/
inductive ExcState where
  | off | on | limit | tripped | hiz
  deriving DecidableEq, Repr

/-- Where an input ball stands against a detector's limits (R51, R72). -/
inductive BallLevel where
  | inside | above | below
  deriving DecidableEq, Repr

/-- Charge reset states (R61). -/
inductive ChgState where
  | track | reset | settle
  deriving DecidableEq, Repr

/-- Break detection methods (R76, R299). -/
inductive BreakMethod where
  | excitation | probe | charge
  deriving DecidableEq, Repr

/-- A requester of an injected conversion (R108): a master, a probe ball read, a charge test. -/
inductive InjWho where
  | ext (m : Nat)
  | probe (c : Nat)
  | ctest (c : Nat)
  deriving DecidableEq, Repr

/-- An entry of an injection queue (R108, R109): the frame at whose instant its sample is held, the first one after it
was queued, and the codes its conversions have given, each with its frame. -/
structure InjEntry where
  who : InjWho
  node : Nat
  hold : Nat := 0
  codes : List (Nat × Int) := []
  deriving DecidableEq, Repr

/-- A present raw sample of a channel or of the sense path (R121, R122): index, code after demodulation, marks, and the
excitation and configuration epochs it was held in (R66, R467). -/
structure RawSample where
  idx : Int
  code : Int
  ovr : Bool := false
  susp : Bool := false
  brk : Bool := false
  rst : Bool := false
  exc : Nat := 0
  cfg : Nat := 0
  deriving DecidableEq, Repr

/-- A code on its way through the spire-to-filter FIFO (R27, R98): the frame it was held in, its local channel and
capacitor, none for a reading of the excitation sense, and RAW at which it leaves while TP_XDELAY holds the crossing (R463). -/
structure FifoCode where
  slot : Nat
  frame : Nat
  code : Int
  entry : Option (Nat × Bool) := none
  leaves : Nat := 0
  deriving DecidableEq, Repr

/-- What decides the marks and the correction of a channel's samples (R60, R77, R162, R467): its settings in `FE_CFG` and
their epoch, the marks RESET and BREAK, the over-range direction of its detectors, RTD compliance, the hold of R361, and the
trim in force. -/
structure ChanMarks where
  cfg : Word := 0#32
  cfgEpoch : Nat := 0
  rst : Bool := false
  brk : Bool := false
  overRange : Option Int := none
  rtdOver : Bool := false
  hold : Bool := false
  ofs : Word := 0#32
  gain : Word := 0x40000000#32
  irtd : Word := 0x40000000#32
  deriving DecidableEq, Repr

/-- What decides the marks and the presence of a spire's samples (R65, R66, R68, R73, R79, R122, R135): the driver's state
and its changes counted, reversed polarity, the blank frames and the end of those that R79 leaves out, the channels that
conduct or did within 16 frames, no sampling (a trim or a spire reset), twice the level, and the sense trim. -/
structure SpireMarks where
  exc : ExcState := .off
  epoch : Nat := 0
  reversed : Bool := false
  blankFrom : Nat := 0
  blankEnd : Nat := 0
  quietEnd : Nat := 0
  clamped : Nat := 0
  off : Bool := false
  level2 : Int := 5
  snsOfs : Word := 0#32
  snsGain : Word := 0x40000000#32
  deriving DecidableEq, Repr

/-- An output of a channel (R140 to R144). -/
structure Output where
  k : Nat
  value : Word
  flags : Nat
  instant : Nat
  fmt : Nat
  lsb : Int
  deriving DecidableEq, Repr

/-- Sentry detector states (R281). -/
inductive SenState where
  | quiet | hit | lockout
  deriving DecidableEq, Repr

/-- The hit in progress of a Sentry detector (R281, R282); times are raw indices. -/
structure SenHit where
  start : Int := 0
  startTime : Nat := 0
  lastCross : Int := 0
  counts : Nat := 0
  peak : Nat := 0
  peakAt : Int := 0
  flags : Nat := 0
  deriving DecidableEq, Repr

/-- A Sentry detector (R280, R281). -/
structure Sentry where
  st : SenState := .quiet
  /-- Baseline B and noise N in 1/65536 code; none until the first sample. -/
  base : Option Int := none
  noise : Int := 0
  hit : SenHit := {}
  /-- The last fast-tap sample: its index (none before the first), |x - B| in 1/65536 code, flags, and whether it and the
  one before cross. -/
  tapIdx : Option Int := none
  dev : Nat := 0
  tapFlags : Nat := 0
  cross : Bool := false
  prev : Bool := false
  /-- A mirrored baseline and noise waiting for QUIET (R363). -/
  loaded : Option (Int × Int) := none
  deriving DecidableEq, Repr

/-- A channel's state beyond its registers. -/
structure Chan where
  raw : List RawSample := []
  /-- What decided the marks of samples, by the instant from which it held, newest first; empty while nothing has changed. -/
  marks : List (Nat × ChanMarks) := []
  nextK : Nat := 0
  /-- Grid position minus output index (R468). -/
  jShift : Int := 0
  /-- First raw index after the last clearing of the paths (R132), or after the epoch (R133), and its frame. -/
  cIdx : Option Int := none
  cFrame : Nat := 0
  /-- Instant of the last output (R468). -/
  lastInstant : Option Nat := none
  chg : ChgState := .track
  chgReq : Bool := false
  ctestDue : Bool := false
  /-- The frame whose instant of R110 last queued a charge test, and the first of the two frames of the last test (R86). -/
  ctestLast : Option Nat := none
  ctestAt : Option Nat := none
  lowTests : Nat := 0
  cmP : BallLevel := .inside
  cmN : BallLevel := .inside
  rtdOver : Bool := false
  rail : BallLevel := .inside
  clP : BallLevel := .inside
  clN : BallLevel := .inside
  /-- The breaks declared and not cleared, by method, with the onset bound of each in ns (R77, R78). -/
  brks : List (BreakMethod × Nat) := []
  /-- For each break cleared: the first index held after it, and the outputs still to carry UNSETTLED (R78). -/
  repairs : List (Int × Nat) := []
  /-- Ball reads of the probe: instant, ball (true = P), code (R81, R82); and t_0.1V of the P and of the N ball. -/
  probe : List (Nat × Bool × Int) := []
  t01P : Option Nat := none
  t01N : Option Nat := none
  cfgEpoch : Nat := 0
  sen : Sentry := {}
  outs : List Output := []
  /-- CHARGE samples stay missing until XSW_TIME after a promotion (R361). -/
  xswHold : Bool := false
  deriving DecidableEq, Repr

/-- A checked slot table commit awaiting its frame boundary (R103): the pending slots and apertures. -/
structure SchedStaged where
  slots : List Word
  apts : List Word
  deriving DecidableEq, Repr

/-- A spire's state beyond its registers. -/
structure Spire where
  exc : ExcState := .off
  staged : Option SchedStaged := none
  injQ : List InjEntry := []
  injWait : List InjEntry := []
  fifo : List FifoCode := []
  sense : List RawSample := []
  marks : List (Nat × SpireMarks) := []
  /-- The last readings of the sense and the force pair, newest first, with their frames (R79). -/
  senseRd : List (Nat × Int) := []
  forceRd : List (Nat × Int) := []
  /-- Sum and number of the reference readings of the present average (R107), and of the millisecond's temperature
  readings (R147). -/
  refSum : Int := 0
  refCount : Nat := 0
  tempSum : Int := 0
  tempCount : Nat := 0
  excEpoch : Nat := 0
  /-- Instant of the last scheduled reversal, and the instant at which its blanking ends (R67, R68). -/
  blankFrom : Nat := 0
  blankEnd : Nat := 0
  /-- End of the time that R79 leaves out: `EXC_BLANK` frames after a reversal, 8 after an enable. -/
  quietEnd : Nat := 0
  /-- The comparison of R114: its first frame, the pairs that remain, the sum of d and the largest |d| in 1/16 code. -/
  cmpFrom : Nat := 0
  cmpPairs : Nat := 0
  cmpSum : Int := 0
  cmpPeak : Nat := 0
  /-- Channels that stopped conducting less than 16 frames ago (R73). -/
  clampTail : Nat := 0
  /-- Instant the last trim of the spire ended (R76). -/
  trimEnd : Option Nat := none
  trimNow : Bool := false
  /-- Instant at which the trim request became pending (R157). -/
  trimAt : Nat := 0
  /-- REF_DRIFT became set while a trim was ISSUED or ACTIVE (R155). -/
  refMissed : Bool := false
  /-- In its reset, and the first frame of it (R425). -/
  inReset : Bool := false
  resetFrame : Nat := 0
  calRunning : Bool := false
  deriving DecidableEq, Repr

/-- A filter island's state beyond its registers: the staged configuration (address, value), the hit FIFO, and the
hits lost and not yet logged (R283), each as channel and start time. -/
structure Filt where
  staged : Option (List (Nat × Word)) := none
  hits : List (Nat × Nat) := []
  lost : List (Nat × Nat) := []
  deriving DecidableEq, Repr

/-! ### Turrets (chapters 7, 8) -/

/-- Context states (R215, encoded as CTX_STATUS.STATE). -/
inductive CtxState where
  | unused | idle | wait | ready | halted
  deriving DecidableEq, Repr

/-- The destination of an outstanding access. -/
inductive Dest where
  | g (k : Nat)
  | w (k : Nat)
  deriving DecidableEq, Repr

/-- Measurement operations with their fields (R242 to R247). -/
inductive MeasOp where
  | xing (form n edges : Nat)
  | peakt (form n : Nat) (reset : Bool)
  | rflow (mode : Nat)
  deriving DecidableEq, Repr

/-- An outstanding access of a context; each holds one tag (R219). -/
inductive DomeAccess where
  | load (dst : Dest) (addr size : Nat) (pc : Nat)
  | store (addr size val : Nat)
  | meas (op : MeasOp) (dst : Nat) (rec : Nat) (v idx : Word) (pc : Nat)
  deriving DecidableEq, Repr

/-- An element of an input port's buffer: value word, flag byte, index (R217). -/
structure PortElem where
  value : Word
  flags : Nat
  k : Nat
  deriving DecidableEq, Repr

/-- An output port's stream state (R216, R239, R240, R291): format of the first EMIT since the context left IDLE, the
epoch and period the Ledger took from it, the last instant, the rate bucket (none: full) and when it was brought up to
date, intervals to be declared missing before the next element (first and last instant, reason), and the instant of a halt or
reset since the last element. -/
structure OutPort where
  fmt : Option Nat := none
  epochS : Nat := 0
  period : Nat := 0
  lastInst : Option Nat := none
  tokens : Option Nat := none
  refilled : Nat := 0
  gaps : List (Nat × Nat × Nat) := []
  halted : Option Nat := none
  lsb : Nat := 0
  deriving DecidableEq, Repr

/-- An input port's buffer (R217): elements written since it was emptied, elements waiting, the index of the latest
element to land and of the latest to arrive, landed or discarded. The elements lie in STAGE. -/
structure PortBuf where
  wr : Nat := 0
  fill : Nat := 0
  kref : Nat := 0
  seen : Option Nat := none
  /-- First and last instant discarded since the last element landed (R25). -/
  lost : Option (Nat × Nat) := none
  deriving DecidableEq, Repr

/-- A context's state beyond its window registers. -/
structure Ctx where
  st : CtxState := .unused
  slots : Nat := 0
  waitt : Option Nat := none
  stalled : Bool := false
  acc : List DomeAccess := []
  /-- TIME requests whose replies have not arrived, oldest first: the first register of the triple, and T. -/
  timeReqs : List (Nat × Nat) := []
  bufs : SMap PortBuf := []
  ports : SMap OutPort := []
  /-- Indices of trigger elements whose output instant is not wholly written yet (R213). -/
  trig : List Nat := []
  /-- BLOCK activation: elements signalled since the last activation (R212). -/
  blk : Nat := 0
  /-- Instant of the last ALARM or MAILBOX activation, and one pending behind it (R214). -/
  lastAct : Option Nat := none
  paced : Bool := false
  /-- The stop frame of a STOP or ABORT that met the context READY: it finishes its present activation (R418). -/
  stopAt : Option Nat := none
  deriving DecidableEq, Repr

/-! ### Ledger (chapter 10) -/

/-- Stream kinds (R290). -/
inductive Kind where
  | plain | derived | event | record | streamcap | gap | desc
  deriving DecidableEq, Repr

/-- What a producer hands to the Ledger (R295): an element of a stream with its sequence (none: counted by the stream),
instant, format, flag byte and payload bytes; `starts`/`ends` mark records (R292). -/
structure LedElem where
  stream : Nat
  kind : Kind
  seq : Option Nat := none
  inst : Nat := 0
  fmt : Nat := 0
  flags : Nat := 0
  value : Word := 0
  bytes : List Byte := []
  starts : Bool := false
  ends : Bool := false
  /-- Stream epoch, period, LSB exponent and source channel of the stream at this element (R291, R296, R468). -/
  epochS : Nat := 0
  period : Nat := 0
  lsb : Nat := 0
  chan : Nat := 0x3FF
  /-- Ranges to be declared missing before this element: first, last, reason (R25, R216). -/
  gaps : List (Nat × Nat × Nat) := []
  deriving DecidableEq, Repr

/-- What a packet holds of one record or stream-through capture: where its bytes begin, its trigger time, and whether they start and
end it (R292, R310). -/
structure CapSeg where
  ofs : Nat
  time : Nat
  starts : Bool
  ends : Bool
  deriving DecidableEq, Repr

/-- A packet in a journal queue, or an open one (R292, R297). `last` is its last sequence, `from` the FROM word of R294;
`reason`, `merged` and the last instant belong to GAP records. -/
structure Packet where
  stream : Nat
  kind : Kind
  fmt : Nat := 0
  seq : Nat
  last : Nat
  count : Nat
  fromSeq : Nat := 0
  pflags : Nat := 0
  time : Nat := 0
  timeLast : Nat := 0
  tstate : Nat := 0
  reason : Nat := 0
  merged : Nat := 0
  epochS : Nat := 0
  period : Nat := 0
  /-- Payload bytes before padding, and flag bytes of the S32 and F32 forms. -/
  body : List Byte := []
  flagBlock : List Byte := []
  /-- The records or captures its bytes belong to. -/
  caps : List CapSeg := []
  /-- Offset in the queue in 8-byte words, length in words (R301). -/
  off : Nat := 0
  words : Nat := 0
  sentAt : Option Nat := none
  sent : Bool := false
  opened : Nat := 0
  /-- Trigger time of the element's record or event, for R310. -/
  instFirst : Nat := 0
  deriving DecidableEq, Repr

/-- A journal queue: its packets oldest first from M, how many of them lie before S, and W, S, M in words (R301). -/
structure Queue where
  pkts : List Packet := []
  sentN : Nat := 0
  deriving DecidableEq, Repr

/-- A stream: open packet, counters, epoch and period (R290, R291, R296). -/
structure Stream where
  opn : Option Packet := none
  prod : Nat := 0
  ack : Nat := 0
  first : Bool := true
  /-- The sequence after the last packet or GAP of the stream (R294). -/
  nextFrom : Nat := 0
  lastK : Option Nat := none
  epochS : Nat := 0
  period : Nat := 0
  lsb : Nat := 0
  chan : Nat := 0x3FF
  fmt : Nat := 0
  descDue : Bool := true
  descEpoch : Option (Nat × Nat) := none
  /-- Mirrored NEXT, next produced and t_m (R309, R310). -/
  mirNext : Nat := 0
  mirProd : Nat := 0
  /-- The rate bucket, and when it was brought up to date (R293). -/
  bucket : Nat := 0
  bucketAt : Nat := 0
  deriving DecidableEq, Repr

/-- A packet as sent, handed to the Gatehouse (R292, R304): the lane it leaves by and its hops there (R329). -/
structure SentPacket where
  header : List Word
  payload : List Byte
  lane : Nat := 0
  ttl : Nat := 0
  deriving DecidableEq, Repr

/-- Ledger state that is neither a register nor a queue's or stream's own. -/
structure Ledger where
  inQ : List LedElem := []
  /-- Packets handed to the Gatehouse and not yet framed, oldest first (R304). -/
  out : List SentPacket := []
  /-- The round-robin position of each priority, and the last packet sent. -/
  rr : SMap Nat := []
  lastSent : Option SentPacket := none
  /-- t_p of the last promotion: elements before it carry TWIN (R310). -/
  takeover : Option Nat := none
  /-- Mirrored t_m (R309). -/
  tm : Option Nat := none
  /-- ACK and NACK entries held by TP_ACKHOLD: queue, stream, NEXT, nack, EPOCH, arrival (R463). -/
  held : List (Nat × Nat × Nat × Bool × Nat) := []
  deriving DecidableEq, Repr

/-! ### Capture engine (chapter 9) -/

/-- A trigger at a unit: RAW of its arrival, trigger time, source code and detail (R269). -/
structure CapTrig where
  arrived : Nat
  time : Nat
  src : Nat
  detail : Nat
  deriving DecidableEq, Repr

/-- Where a record stands: awaiting measurement, complete, or handed to the Ledger up to a sequence (R265, R267, R276). -/
inductive RecState where
  | closed
  | complete
  | delivering (lastSeq : Nat)
  deriving DecidableEq, Repr

/-- A closed record (R262); `holes` lists the set positions and list entries stored with HOLE, and whether no sample
was present. -/
structure CapRec where
  slot : Nat
  seq : Nat := 0
  st : RecState := .closed
  trig : CapTrig
  tstate : Nat
  firstTime : Nat
  ts : Nat
  preN : Nat
  count : Nat
  areaN : Nat
  firstOfs : Nat
  status : Nat
  missed : Nat
  desc : Nat
  holes : List (Nat × Nat × Bool) := []
  deriving DecidableEq, Repr

/-- A capture unit's state beyond its registers (R265): its waiting triggers, the index of the next set and of the
first since arm, the open trigger, s0 and PRE_N, the sets stored with holes, and its records. -/
structure CapUnit where
  queue : List CapTrig := []
  next : Int := 0
  first : Int := 0
  trig : Option CapTrig := none
  tstate : Nat := 0
  s0 : Int := 0
  preN : Nat := 0
  missed : Nat := 0
  holes : List (Int × Nat × Bool) := []
  recs : List CapRec := []
  tokens : Option Nat := none
  refilled : Nat := 0
  deriving DecidableEq, Repr

/-- A span trigger frame's content (R271). -/
structure SpanMsg where
  pos : Nat
  id : Nat
  seq : Nat
  time : Nat
  src : Nat
  deriving DecidableEq, Repr

/-- Capture engine state that is no register: units, records awaiting measurement as (unit, slot), the span trigger
sequence and last origination by ID, the frames accepted with their instants, and the frames to be sent. -/
structure Cape where
  units : SMap CapUnit := []
  /-- The unit whose FIFO was served last (R273). -/
  served : Nat := 31
  measQ : List (Nat × Nat) := []
  spanSeq : SMap Nat := []
  spanLast : SMap Nat := []
  accepted : List (Nat × Nat × Nat × Nat) := []
  spanOut : List SpanMsg := []
  deriving DecidableEq, Repr

/-! ### System (chapters 7, 13, 14) and pins -/

/-- The modes of R411. -/
inductive Mode where
  | boot | idle | armed | run | shadow | service
  deriving DecidableEq, Repr

/-- The kinds of HUB_RESET (R424). -/
inductive ResetKind where
  | hub | belfry | spire (n : Nat) | lane (l : Nat)
  deriving DecidableEq, Repr

/-- A HUB_RESET taken from channel `ch`, and RAW at which its response was posted (R424). -/
structure ResetReq where
  kind : ResetKind
  ch : Nat
  posted : Option Nat := none
  deriving DecidableEq, Repr

/-- The instruction of the TAP (R405): those of IEEE 1149.1 that a locked hub offers, or another. -/
inductive TapInstr where
  | bypass | samplePreload | extest | idcode | other
  deriving DecidableEq, Repr

/-- A MIRROR_MAP entry of the loaded plan (R206). -/
inductive MirrorEntry where
  | context (c gMask wMask qMask : Nat)
  | histogram (addr len : Nat)
  | thresholds (first count : Nat)
  | capture (mask : Nat)
  deriving DecidableEq, Repr

/-- One write of a loaded plan's SETUP section: address and value (R202); kept for TURRET_RESET (R215). -/
abbrev SetupWrite := Nat × Word

/-- The loaded plan, as far as the machine goes on using it. -/
structure Plan where
  setup : List SetupWrite := []
  /-- Declared elements per second of the streams of BUDGET (R207). -/
  rates : List (Nat × Nat) := []
  mirror : List MirrorEntry := []
  /-- Contexts with an activation kind, and the bases of the input buffers in STAGE as (context, port, base) (R217). -/
  used : List Nat := []
  stage : List (Nat × Nat × Nat) := []
  deriving DecidableEq, Repr

/-- System state that is no register. -/
structure Sys where
  /-- The stop frame scheduled (R418). -/
  stopAt : Option Nat := none
  /-- The mode that waits for its frame boundary, and the boundary's instant (R412). -/
  modeNext : Option (Mode × Nat) := none
  /-- A START through alarm 15 begins a SERVICE plan (R419). -/
  serviceStart : Bool := false
  /-- HUB_RESETs that await their response or their 1 ms (R424). -/
  resets : List ResetReq := []
  plan : Plan := {}
  /-- Code memory words, by 16384 t + word, and COUNT by Turret (R204). -/
  code : SMap Word := []
  count : SMap Nat := []
  /-- The firmware store holds a verified image (R369, R374), and the image; the plan load buffer (R208); Belfry's working
  memory (R369), bytes by offset below 256 KiB, which only its firmware uses. -/
  fwOk : Bool := false
  fwStore : List Byte := []
  planBuf : List Byte := []
  work : SMap Byte := []
  /-- An image is being verified (R374, R426): its source as BOOT_STATUS codes it, and the configuration it carries. -/
  verify : Option (Nat × List SetupWrite) := none
  /-- OTP: owner hash words, debug lock (R404). They survive every reset. -/
  otpOwner : List Word := [0#32, 0#32, 0#32, 0#32, 0#32, 0#32, 0#32, 0#32]
  otpLock : Bool := false
  /-- OTP sequence: the master that wrote 0x4F50, and RAW of that write; the staged words. -/
  otpStep : Option Nat := none
  otpAt : Nat := 0
  otpStage : SMap Word := []
  /-- Which OTP programming is running: hash words, or the debug lock; RAW at its start. -/
  otpRun : Option (Option (List Word)) := none
  otpRunAt : Nat := 0
  /-- Turrets in reset (R425), and Turrets whose clock runs (R429). -/
  turHeld : List Nat := []
  ungated : List Nat := []
  /-- By Turret, the cycles it still waits before its next issue slot under TP_TJIT (R463). -/
  jit : SMap Nat := []
  /-- RAW of the last inrush event (R429). -/
  inrushAt : Option Nat := none
  /-- A run is in progress: RUN, SHADOW or SERVICE with a plan, from its start frame to its stop (R290). -/
  epoch : Nat := 0
  /-- A CAL_SAVE or CAL_RESTORE awaiting its boundary: channel (R164, R165), and the values to restore. -/
  calSave : Option Nat := none
  calRestore : Option Nat := none
  calImage : List (Nat × Word) := []
  /-- The instant the last trim started (R157). -/
  trimLast : Option Nat := none
  /-- Spire and frame of the last slice swap (R115). -/
  swapAt : Option (Nat × Nat) := none
  pllLocked : Bool := false
  /-- Released from power-on reset. -/
  powered : Bool := false
  /-- Configuration carried in the firmware image: register writes of R470. -/
  image : List SetupWrite := []
  deriving DecidableEq, Repr

/-- Output pins, and input pins that hold a level (R197, R198, R343, R350, R359, R371). A pulse is kept as RAW at its
active edge, while it lasts. -/
structure Pins where
  trigOut : SMap Nat := []
  ppsOut : Option Nat := none
  excOut : SMap Bool := []
  bootSel : Nat := 0
  arbGrantIn : Bool := false
  /-- The instruction in the TAP (R405). -/
  tap : TapInstr := .idcode
  deriving DecidableEq, Repr

/-! ### Lanes and the Gatehouse (chapter 11) -/

/-- A frame waiting for a lane: the lane it came in on if it is forwarded, and the instant it began to wait (R327). -/
structure TxFrame where
  frame : Frame
  fromLane : Option Nat := none
  since : Nat := 0
  deriving DecidableEq, Repr

/-- The parameters of a running EYE_SCAN (R345): command channel, voltages, phases, dwell, result address, points done. -/
structure EyeScan where
  ch : Nat
  vs : List Int
  ps : List Nat
  dwell : Nat
  addr : Nat
  done : Nat := 0
  deriving DecidableEq, Repr

/-- A lane's state beyond its registers. -/
structure Lane where
  /-- `LANE_CFG` in force (R315). -/
  cfg : Word := 0#32
  /-- Consecutive failures, and RAW at the start of the 100 ms hold of TX_DISABLE, while it lasts (R335). -/
  fails : Nat := 0
  holdTx : Option Nat := none
  /-- Own and partner's NONCE, the NONCE last echoed (none before any), and whether the partner has echoed ours (R336). -/
  nonce : Word := 0#32
  peerNonce : Option Word := none
  echoed : Option Word := none
  heardEcho : Bool := false
  /-- Credits held, freed since EXCHANGE, and the partner's counts last heard, by class (R325, R326). -/
  creds : List Nat := [0, 0, 0, 0]
  freed : List Nat := [0, 0, 0, 0]
  heard : List Nat := [0, 0, 0, 0]
  /-- The parameters of corrected time at the t2 of the last SYNC (R189). -/
  t2Clock : Clock := {}
  /-- Credits advertised, as applied at the last EXCHANGE. -/
  adv : Word := 0#32
  txq : List TxFrame := []
  /-- By class: whose turn it is, true for forwarded frames (R327). -/
  turn : List Bool := [false, false, false, false]
  /-- The last frame started; on the line, the transmitter before it, and the frame as it leaves (R316 to R320, R324). -/
  sent : Option Frame := none
  tx : LineTx := {}
  air : Option Air := none
  /-- On an Ethernet lane: the last MAC frame, to its FCS, and RAW at which the next may start (R339, R340). -/
  mac : Option (Nat × List Byte) := none
  /-- The receiver (R316 to R319, R324), and the line bits from the SOF of the last frame heard to its end (R177). -/
  rx : LineRx := {}
  rxAge : Nat := 0
  /-- The lane has been ACTIVE; RAW of its last entry; it is ACTIVE again and not yet reported up (R331, R364). -/
  wasActive : Bool := false
  activeAt : Nat := 0
  /-- RAW at the entry to the present stage, and since when AUTO has tried the present protocol (R335, R339). -/
  stageAt : Nat := 0
  protoAt : Nat := 0
  /-- RAW at the SOF of the last LINK sent (R326). -/
  linkAt : Option Nat := none
  /-- Instant at which the last BULK frame started (R327). -/
  bulkAt : Nat := 0
  upPending : Bool := false
  /-- Sequence of the next SYNC; whether the RESP to the last one has arrived (R333). -/
  syncSeq : Nat := 0
  respGot : Bool := false
  /-- Instant of the last SYNC received. -/
  syncAt : Option Nat := none
  /-- End of the pause in force (R341). -/
  pause : Option Nat := none
  /-- The module declares internally calibrated diagnostics (R343). -/
  ddm : Bool := false
  eyeScan : Option EyeScan := none
  /-- Resetting (R425): DISABLED for 1 ms from `stageAt`. -/
  inReset : Bool := false
  deriving DecidableEq, Repr

/-- Gatehouse state: the newest report of each end of each segment, by 2 × segment + end (0: its west end), as sequence and
`UP`; and the hub's own RING sequence (R331). -/
structure Gate where
  reports : SMap (Nat × Bool) := []
  ringSeq : Nat := 0
  deriving DecidableEq, Repr

/-- A PTP server heard in Announce messages (R342): its dataset in comparison order, ending in its identity, whether its
timescale is arbitrary, when it was last heard and its announce interval. -/
structure PtpServer where
  dataset : List Nat
  arb : Bool
  heard : Nat
  interval : Nat
  deriving DecidableEq, Repr

/-- The PTP client (R342): servers heard, the chosen server's identity, the Sync waiting for its Follow_Up (sequence, t2,
correction), t1 and t2 in force, the parameters of corrected time at each t2, the last Delay_Req (sequence, t3), and whether one
waits for the lane (R341). Corrections in 2^-16 ns. -/
structure Ptp where
  servers : List PtpServer := []
  chosen : Option Nat := none
  logged : List Nat := []
  sync : Option (Nat × Nat × Int) := none
  syncClock : Clock := {}
  t12 : Option (Int × Nat) := none
  t2Clock : Clock := {}
  req : Option (Nat × Nat) := none
  reqSeq : Nat := 0
  reqDue : Bool := false
  deriving DecidableEq, Repr

/-- The supply-sag machine (R427): RAW at the entry to the present level, and the time spent at level 3 in 2^-16 ns, with
RAW at which the present stay there began. -/
structure Sag where
  since : Nat := 0
  l3 : Nat := 0
  l3At : Option Nat := none
  deriving DecidableEq, Repr

/-! ### Selail (chapter 12) -/

/-- A claim the warden holds (R356): pair, claimant's position, its epoch, `REVERT`. -/
structure HeldClaim where
  pair : Nat
  pos : Nat
  epoch : Nat
  revert : Bool
  deriving DecidableEq, Repr

/-- A planned handover (R366): whether this hub is to become active, F_h once chosen, confirmations, the grant's epoch and
whether the final LEDGER_M set has been sent. -/
structure Handover where
  claimant : Bool
  fh : Option Nat := none
  confirmed : Bool := false
  peerConfirmed : Bool := false
  granted : Option Nat := none
  closed : Bool := false
  deriving DecidableEq, Repr

/-- A copy of context registers (R252, R365): g, w and q by number. -/
structure CtxCopy where
  g : List (Nat × Word) := []
  w : List (Nat × Nat) := []
  q : List (Nat × Bool) := []
  deriving DecidableEq, Repr

/-- Selail state that is no register. -/
structure Selail where
  /-- CONTEXT copies received and waiting for their context's activation boundary (R363). -/
  copies : SMap CtxCopy := []
  /-- CONTEXT copies waiting for a ring fallback slot, and RAW of each context's last slot (R362). -/
  waiting : SMap CtxCopy := []
  slotAt : SMap Nat := []
  /-- Next sequence by MSG (R365). -/
  seqs : SMap Nat := []
  /-- The warden's last lease end, the standby's last t_r + 4 ms, and as a standby the own last promise (R353, R354). -/
  leaseWarden : Option Nat := none
  leasePeer : Option Nat := none
  promise : Option Nat := none
  /-- A grant held while CLAIMING: its arrival and epoch (R356). -/
  grant : Option (Nat × Nat) := none
  /-- Consecutive misses; the last heartbeat from the peer, and from an ACTIVE peer (R355, R356). -/
  misses : Nat := 0
  lastHb : Option Nat := none
  lastActHb : Option Nat := none
  peerEpoch : Nat := 0
  hand : Option Handover := none
  retry : Bool := false
  /-- RAW at which a handover was last abandoned, and since which HEALTH has been seen at 0b11111 (R366). -/
  abandonedAt : Nat := 0
  healthySince : Option Nat := none
  /-- The frame of the last fencing (R357), and t_p of the last promotion (R361). -/
  fenceFrame : Nat := 0
  promotedAt : Nat := 0
  /-- Claims held at the warden, and the 4.05 ms after its hub reset (R356). -/
  claims : List HeldClaim := []
  holdStart : Bool := true
  /-- The reported fault has been logged (R358). -/
  faulted : Bool := false
  /-- The LEDGER_M set being received. -/
  setM : Option (Nat × List (Nat × Nat × Nat)) := none
  /-- The HISTOGRAM set being received: its period, and the DATA address and value of each word (R363). -/
  hist : Option (Nat × List (Nat × Nat)) := none
  /-- The sequence of the last HISTOGRAM frame heard, and whether the present set has a frame missing. -/
  histSeq : Option Nat := none
  histBad : Bool := false
  histPeriod : Nat := 0
  /-- Write position in the CAPTURE ring of the MIRROR region. -/
  capPos : Nat := 0
  /-- Part expected next of each unit's CAPTURE record, its sequence and bytes; 256: a part of it is missing (R363). -/
  capParts : SMap (Nat × Nat × List Word) := []
  /-- The role to be sent in the next HEARTBEAT after SET_PREFERRED (R420). -/
  tellRole : Bool := false
  /-- RAW at the entry to IDLE, or to STANDBY in IDLE (R356). -/
  idleAt : Nat := 0
  /-- From which instants on the hub stood by or acted (true: STANDBY, CLAIMING or FENCED), newest first (R122). -/
  standbyLog : List (Nat × Bool) := []
  /-- The offers of the two hubs have no version in common (R367). -/
  noVer : Bool := false
  /-- Lease ends of the warden's entries (none: no holder), and a holder's lease cut for a handover: claimant, epoch, F_h. -/
  wEnd : SMap Nat := []
  wCut : SMap (Nat × Nat × Nat) := []
  deriving DecidableEq, Repr

/-- Everything of the block but RAW and the command queue. -/
structure Hub where
  regs : SMap Word := []
  /-- Active copies of the registers that have a pending copy (R103, R131, R300) and of FE_CFG and FE_AUX (R467). -/
  act : SMap Word := []
  dome : List Host.Cell := []
  domeEpoch : Nat := 0
  badParity : List Nat := []
  free : Nat := 0
  ctl : Control := {}
  lan : Lantern := {}
  spires : SMap Spire := []
  chans : SMap Chan := []
  filts : SMap Filt := []
  stageIn : List (Nat × Nat × PortElem) := []
  ctxs : SMap Ctx := []
  led : Ledger := {}
  queues : SMap Queue := []
  streams : SMap Stream := []
  sys : Sys := {}
  pins : Pins := {}
  cape : Cape := {}
  sel : Selail := {}
  lanes : SMap Lane := []
  gate : Gate := {}
  ptp : Ptp := {}
  sag : Sag := {}
  /-- The master and RAW of the first word of a TP_ARM sequence (R459). -/
  tpStep : Option (Nat × Nat) := none
  /-- RAW of the last write of 0 to TP_ARM (R461, R462). -/
  tpOffAt : Option Nat := none
  /-- RAW at which TP_STARVE was last enabled (R463). -/
  starveAt : Nat := 0
  deriving DecidableEq, Repr

end Sys2Proof.Machine
end

