-- ==== Sys2Proof/Machine/Flags.lean ====
section
/-!
DEFINITION. The flag byte of a sample (R142) and the flags that raw samples give a window. The hub has no condition
flags (R230): the predicates of a context are written by the instructions that R230 names.
-/

namespace Sys2Proof.Machine

/-- The bits of the flag byte (R142). -/
def flOVR : Nat := 1
def flSUSPECT : Nat := 2
def flUNSETTLED : Nat := 4
def flHOLE : Nat := 8
def flTWIN : Nat := 16
def flBREAK : Nat := 32
def flPOISON : Nat := 64
def flABSENT : Nat := 128

/-- The raw marks of samples as flag bits: OVR, SUSPECT, UNSETTLED (a sample marked RESET) and BREAK (R142). -/
def markFlags (w : List RawSample) : Nat :=
  (if w.any (·.ovr) then flOVR else 0) + (if w.any (·.susp) then flSUSPECT else 0) +
    (if w.any (·.rst) then flUNSETTLED else 0) + (if w.any (·.brk) then flBREAK else 0)

end Sys2Proof.Machine
end

