-- ==== Sys2Proof/Machine/Fp.lean ====
section
/-!
DEFINITION. IEEE 754 binary32 and binary64 arithmetic, exact and then rounded once to nearest, ties to even, as the
correction and curve stages and the formatting stage use it (R92, R135 to R140, R234, R243).
-/

namespace Sys2Proof.Machine

/-- A floating-point value: not a number, an infinity, or ±m × 2^e. -/
inductive FP where
  | nan
  | inf (neg : Bool)
  | fin (neg : Bool) (m : Nat) (e : Int)
  deriving DecidableEq, Repr

/-- A format: precision, least exponent of the last place, greatest exponent of the last place. -/
structure FpFmt where
  p : Nat
  emin : Int
  emax : Int

def b32 : FpFmt := ⟨24, -149, 104⟩
def b64 : FpFmt := ⟨53, -1074, 971⟩

/-- `n / d` rounded to the nearest integer, ties to even. -/
def rne (n d : Nat) : Nat :=
  let q := n / d
  let r := n % d
  if 2 * r < d then q else if d < 2 * r then q + 1 else q + q % 2

/-- `2^i` for a natural exponent part of an integer. -/
def pow2 (i : Int) : Nat := 2 ^ i.toNat

/-- ±(n / d) rounded to a format; beyond the largest finite value it is infinite. -/
def roundFrac (f : FpFmt) (neg : Bool) (n d : Nat) : FP :=
  if n = 0 then .fin neg 0 f.emin
  else
    let g : Int := (n.log2 : Int) - (d.log2 : Int) - f.p
    let e0 : Int := if f.emin ≤ g then g else f.emin
    -- one step up where the quotient would need more than p bits
    let q0 := (n * pow2 (-e0)) / (d * pow2 e0)
    let e : Int := if 2 ^ f.p ≤ q0 then e0 + 1 else e0
    let m := rne (n * pow2 (-e)) (d * pow2 e)
    let (m, e) := if m = 2 ^ f.p then (2 ^ (f.p - 1), e + 1) else (m, e)
    if f.emax < e then .inf neg else .fin neg m e

/-- An exact fraction rounded to a format. -/
def ofFrac (f : FpFmt) (n : Int) (d : Nat) : FP := roundFrac f (decide (n < 0)) n.natAbs d

/-- The fraction of a finite value: numerator and denominator. -/
def FP.frac : FP → Int × Nat
  | .fin neg m e => ((if neg then -1 else 1) * (m * pow2 e : Nat), pow2 (-e))
  | _ => (0, 1)

def FP.isNan : FP → Bool
  | .nan => true
  | _ => false

def FP.isFin : FP → Bool
  | .fin _ _ _ => true
  | _ => false

def FP.neg : FP → Bool
  | .nan => false
  | .inf s => s
  | .fin s _ _ => s

def FP.isZero : FP → Bool
  | .fin _ 0 _ => true
  | _ => false

/-- The same value rounded to another format. -/
def FP.cvt (f : FpFmt) : FP → FP
  | .nan => .nan
  | .inf s => .inf s
  | .fin s m e => roundFrac f s (m * pow2 e) (pow2 (-e))

def FP.negate : FP → FP
  | .nan => .nan
  | .inf s => .inf (!s)
  | .fin s m e => .fin (!s) m e

/-- Sum, rounded to a format; an exact zero sum of unlike signs is +0. -/
def FP.add (f : FpFmt) : FP → FP → FP
  | .nan, _ => .nan
  | _, .nan => .nan
  | .inf s, .inf t => if s = t then .inf s else .nan
  | .inf s, _ => .inf s
  | _, .inf t => .inf t
  | a@(.fin s _ _), b@(.fin t _ _) =>
    let (n1, d1) := a.frac
    let (n2, d2) := b.frac
    let n := n1 * d2 + n2 * d1
    if n = 0 then .fin (s && t) 0 f.emin else ofFrac f n (d1 * d2)

def FP.sub (f : FpFmt) (a b : FP) : FP := FP.add f a b.negate

def FP.mul (f : FpFmt) : FP → FP → FP
  | .nan, _ => .nan
  | _, .nan => .nan
  | .inf s, b => if b.isZero then .nan else .inf (s != b.neg)
  | a, .inf t => if a.isZero then .nan else .inf (a.neg != t)
  | .fin s m e, .fin t k g => roundFrac f (s != t) (m * k * pow2 (e + g)) (pow2 (-(e + g)))

def FP.div (f : FpFmt) : FP → FP → FP
  | .nan, _ => .nan
  | _, .nan => .nan
  | .inf _, .inf _ => .nan
  | .inf s, b => .inf (s != b.neg)
  | .fin s _ _, .inf t => .fin (s != t) 0 f.emin
  | .fin s m e, .fin t k g =>
    if k = 0 then (if m = 0 then .nan else .inf (s != t))
    else roundFrac f (s != t) (m * pow2 (e - g)) (k * pow2 (g - e))

/-- Fused multiply-add a × b + c, rounded once. -/
def FP.fma (f : FpFmt) (a b c : FP) : FP :=
  match a, b, c with
  | .fin _ _ _, .fin _ _ _, .fin t _ _ =>
    let (n1, d1) := a.frac
    let (n2, d2) := b.frac
    let (n3, d3) := c.frac
    let n := n1 * n2 * d3 + n3 * (d1 * d2)
    if n = 0 then .fin ((a.neg != b.neg) && t) 0 f.emin else ofFrac f n (d1 * d2 * d3)
  | _, _, _ => FP.add f (FP.mul f a b) c

/-- Value comparison a < b of values that are not NaN. -/
def FP.lt : FP → FP → Bool
  | .nan, _ => false
  | _, .nan => false
  | .inf s, .inf t => s && !t
  | .inf s, _ => s
  | _, .inf t => !t
  | a@(.fin _ _ _), b@(.fin _ _ _) =>
    decide (a.frac.1 * (b.frac.2 : Int) < b.frac.1 * (a.frac.2 : Int))

def FP.abs : FP → FP
  | .nan => .nan
  | .inf _ => .inf false
  | .fin _ m e => .fin false m e

/-- The value times 2^k, exactly. -/
def FP.scale (k : Int) : FP → FP
  | .fin s m e => .fin s m (e + k)
  | x => x

/-- The binary32 a word holds. -/
def f32Of (w : Word) : FP :=
  let s := w.getLsbD 31
  let e := bitsOf w 23 8
  let m := bitsOf w 0 23
  if e = 255 then (if m = 0 then .inf s else .nan)
  else if e = 0 then .fin s m (-149)
  else .fin s (m + 2 ^ 23) ((e : Int) - 150)

/-- The word of a value rounded to binary32; NaN is 0x7FC0_0000. -/
def f32Word (x : FP) : Word :=
  match x.cvt b32 with
  | .nan => 0x7FC00000#32
  | .inf s => if s then 0xFF800000#32 else 0x7F800000#32
  | .fin s m e =>
    let sg := if s then 2 ^ 31 else 0
    if m < 2 ^ 23 then
      -- normalise a short significand, where the exponent allows
      let sh : Nat := min (23 - m.log2) (e + 149).toNat
      let m' := m * 2 ^ sh
      if m = 0 ∨ m' < 2 ^ 23 then wd (sg + m') else wd (sg + ((e - sh + 150).toNat) * 2 ^ 23 + (m' - 2 ^ 23))
    else wd (sg + (e + 150).toNat * 2 ^ 23 + (m - 2 ^ 23))

/-- `v × 2^-lsb` rounded to the nearest integer, ties to even (R140). -/
def FP.toIntRne (v : FP) (lsb : Int) : Int :=
  match v with
  | .fin s m e =>
    let q : Int := rne (m * pow2 (e - lsb)) (pow2 (lsb - e))
    if s then -q else q
  | _ => 0

/-- The integer square root by bisection between `lo` and `hi`, on `fuel` steps. -/
def isqrtIn (n : Nat) : Nat → Nat → Nat → Nat
  | 0, lo, _ => lo
  | fuel + 1, lo, hi =>
    let m := (lo + hi + 1) / 2
    if m * m ≤ n then isqrtIn n fuel m hi else isqrtIn n fuel lo (m - 1)

/-- floor(√n). -/
def isqrt (n : Nat) : Nat := isqrtIn n (n.log2 / 2 + 2) 0 (2 ^ (n.log2 / 2 + 1))

/-- The square root in binary64 of a value that is not negative, rounded to nearest. -/
def FP.sqrt (x : FP) : FP :=
  match x with
  | .fin false m e =>
    if m = 0 then x
    else
      -- an even exponent and at least 57 significant bits in the root
      let k : Int := if (e - 120) % 2 = 0 then 120 else 121
      let n := m * 2 ^ k.toNat
      let q := isqrt n
      let sticky : Nat := if q * q = n then 0 else 1
      roundFrac b64 false ((4 * q + sticky) * pow2 ((e - k) / 2)) (4 * pow2 (-((e - k) / 2)))
  | .inf false => x
  | _ => .nan

/-- The 64 bits of a value rounded to binary64. -/
def f64Bits (x : FP) : Nat :=
  match x.cvt b64 with
  | .nan => 0x7FF8000000000000
  | .inf s => if s then 0xFFF0000000000000 else 0x7FF0000000000000
  | .fin s m e =>
    let sg := if s then 2 ^ 63 else 0
    if m = 0 then sg
    else
      let sh : Nat := min (52 - m.log2) (e + 1074).toNat
      let m' := m * 2 ^ sh
      if m' < 2 ^ 52 then sg + m' else sg + (e - sh + 1075).toNat * 2 ^ 52 + (m' - 2 ^ 52)

/-- The largest finite binary32 (R140). -/
def f32Max : FP := .fin false (2 ^ 24 - 1) 104

/-- An integer as a value in binary64. -/
def ofInt64 (i : Int) : FP := ofFrac b64 i 1

end Sys2Proof.Machine
end

