-- ==== Sys2Proof/Config.lean ====
section
/-!
DEFINITION. What the spec leaves open: opaque free values and uninterpreted standard functions. None has a body, so
nothing in Lean can compute or prove a value of it; each is named in the assumption log.
-/

namespace Sys2Proof.Config

/-- The byte read at a Dome address whose contents are undefined, in the given epoch of undefinedness (log 5). -/
opaque freeByte : Nat → Nat → Byte

/-- A free word, for the given draw of the free-value counter (log 4). -/
opaque freeWord : Nat → Word

/-- A free integer, for the given draw of the free-value counter (log 4). -/
opaque freeInt : Nat → Int

/-- Which of its two neighbours the normalisation of a moving sum that does not divide takes, up or down, by the sum and the
length (R124, log 6). -/
opaque roundUp : Int → Nat → Bool

/-- The reference function E of thermocouple curve `k` at n/d degrees Celsius, in volts, as a numerator and a denominator less
one (R53, log 7). -/
opaque tcEmf (k : Nat) (n : Int) (d : Nat) : Int × Nat

/-- The value a standard curve gives for a binary32 input in its domain (R89, log 7). -/
opaque curveValue : Nat → Word → Word

/-- The result in 1/16 code that a slice with the given coefficients had before its correction, by the corrected result in 1/16
code (R163: the meaning of the coefficients is internal; log 49). -/
opaque sliceRaw : List Word → Int → Int

/-- The corrected result in 1/16 code of a slice with the given coefficients, by the result before correction in units of
2^-24 code (R163, log 49). -/
opaque sliceCorrect : List Word → Int → Int

/-- The firmware key hash fixed in the ROM (R374, log 7). -/
opaque romKeyHash : List Byte

end Sys2Proof.Config
end

