-- ==== Sys2Proof/Machine/Ops.lean ====
section
/-!
DEFINITION. The named operations over registers, tables, free values, time and the Dome that every meaning uses.
-/

namespace Sys2Proof.Machine

/-! ### Registers -/

/-- The register at address `a` (R10, R16: its reset value until something writes it). -/
def Hub.rd (h : Hub) (a : Nat) : Word := (SMap.find h.regs a).getD (resetValue a)

/-- `h` with the register at `a` holding `v`. -/
def Hub.wr (h : Hub) (a : Nat) (v : Word) : Hub := { h with regs := SMap.put h.regs a v }

/-- The field of `n` bits from bit `lo` of the register at `a`. -/
def Hub.fld (h : Hub) (a lo n : Nat) : Nat := bitsOf (h.rd a) lo n

/-- Bit `i` of the register at `a`. -/
def Hub.bit (h : Hub) (a i : Nat) : Bool := (h.rd a).getLsbD i

/-- `h` with a field of the register at `a` set. -/
def Hub.setFld (h : Hub) (a lo n v : Nat) : Hub := h.wr a (putBits (h.rd a) lo n v)

/-- `h` with bit `i` of the register at `a` set to `b`. -/
def Hub.setBit (h : Hub) (a i : Nat) (b : Bool) : Hub := h.wr a (putBit (h.rd a) i b)

/-- A counter field of `n` bits at bit `lo` that saturates (R15 counters). -/
def Hub.incSat (h : Hub) (a lo n k : Nat) : Hub := h.setFld a lo n (min (h.fld a lo n + k) (2 ^ n - 1))

/-- A counter field of `n` bits at bit `lo` that wraps. -/
def Hub.incWrap (h : Hub) (a lo n k : Nat) : Hub := h.setFld a lo n (h.fld a lo n + k)

/-- The active copy of a register that has a pending copy (R103, R131, R300), or of FE_CFG, FE_AUX (R467). -/
def Hub.active (h : Hub) (a : Nat) : Word := (SMap.find h.act a).getD (resetValue a)

/-- A field of an active copy. -/
def Hub.afld (h : Hub) (a lo n : Nat) : Nat := bitsOf (h.active a) lo n

/-- `h` with the active copy of the register at `a` set. -/
def Hub.setActive (h : Hub) (a : Nat) (v : Word) : Hub := { h with act := SMap.put h.act a v }

/-- Three words into three registers from `a` up (times of R6). -/
def Hub.wr3 (h : Hub) (a : Nat) (w0 w1 w2 : Word) : Hub := ((h.wr a w0).wr (a + 4) w1).wr (a + 8) w2

/-! ### Free values (log entry 4) -/

/-- Draws a free word. -/
def Hub.drawWord (h : Hub) : Word × Hub := (Config.freeWord h.free, { h with free := h.free + 1 })

/-- Draws a free integer between `lo` and `hi` (`lo` where the range is empty). -/
def Hub.drawInt (h : Hub) (lo hi : Int) : Int × Hub :=
  (max lo (min hi (Config.freeInt h.free)), { h with free := h.free + 1 })

/-- `num / den` where the spec states no rounding: exact where it divides, else one of the two neighbouring integers,
free (log entry 6). -/
def Hub.drawQuotient (h : Hub) (num : Int) (den : Nat) : Int × Hub :=
  if num % (den : Int) = 0 then (num / (den : Int), h)
  else h.drawInt (num / (den : Int)) (num / (den : Int) + 1)

/-! ### Tables -/

def Hub.spire (h : Hub) (n : Nat) : Spire := SMap.get {} h.spires n
def Hub.setSpire (h : Hub) (n : Nat) (s : Spire) : Hub := { h with spires := SMap.put h.spires n s }
def Hub.modSpire (h : Hub) (n : Nat) (f : Spire → Spire) : Hub := h.setSpire n (f (h.spire n))
def Hub.filt (h : Hub) (n : Nat) : Filt := SMap.get {} h.filts n
def Hub.setFilt (h : Hub) (n : Nat) (s : Filt) : Hub := { h with filts := SMap.put h.filts n s }

/-- Channel state by channel number (R1: spire × 32 + local channel). -/
def Hub.chan (h : Hub) (g : Nat) : Chan := SMap.get {} h.chans g
def Hub.setChan (h : Hub) (g : Nat) (s : Chan) : Hub := { h with chans := SMap.put h.chans g s }
def Hub.modChan (h : Hub) (g : Nat) (f : Chan → Chan) : Hub := h.setChan g (f (h.chan g))

/-- The channel number of local channel `c` of spire `n` (R1). -/
def chNo (n c : Nat) : Nat := 32 * n + c

/-- Context state by context number (R2: Turret × 64 + local context). -/
def Hub.ctx (h : Hub) (c : Nat) : Ctx := SMap.get {} h.ctxs c
def Hub.setCtx (h : Hub) (c : Nat) (s : Ctx) : Hub := { h with ctxs := SMap.put h.ctxs c s }
def Hub.modCtx (h : Hub) (c : Nat) (f : Ctx → Ctx) : Hub := h.setCtx c (f (h.ctx c))
def Hub.queue (h : Hub) (q : Nat) : Queue := SMap.get {} h.queues q
def Hub.setQueue (h : Hub) (q : Nat) (s : Queue) : Hub := { h with queues := SMap.put h.queues q s }
def Hub.stream (h : Hub) (s : Nat) : Stream := SMap.get {} h.streams s
def Hub.setStream (h : Hub) (s : Nat) (t : Stream) : Hub := { h with streams := SMap.put h.streams s t }
def Hub.modStream (h : Hub) (s : Nat) (f : Stream → Stream) : Hub := h.setStream s (f (h.stream s))

/-- Applies a function for each number below `n`, in order. -/
def forN {α : Type} (n : Nat) (f : Nat → α → α) (a : α) : α := (List.range n).foldl (fun a i => f i a) a

/-- Applies a function for each element of a list, in order. -/
def forIn' {α β : Type} (l : List β) (f : β → α → α) (a : α) : α := l.foldl (fun a b => f b a) a

/-- A rate bucket (R240) of `rate` elements a second at `now`: `level` (in 2^-16 ns of a second per element, none when
full) as it stood at `at0`. The level after refilling, and whether it holds an element. -/
def bucketLevel (rate : Nat) (level : Option Nat) (at0 now : Nat) : Nat :=
  let u := 65536000000000
  let cap := max 1 ((rate + 99) / 100) * u
  match level with
  | none => cap
  | some l => min cap (l + rate * (now - at0))

/-- An element taken from a bucket, if it holds one. -/
def bucketTake (rate : Nat) (level : Option Nat) (at0 now : Nat) : Option Nat :=
  let l := bucketLevel rate level at0 now
  if 65536000000000 ≤ l then some (l - 65536000000000) else none

/-! ### Keaxia time (R5 to R7) -/

/-- Units of 2^-16 ns in a nanosecond and in a second. -/
def nsU : Nat := 65536
def secU : Nat := 65536000000000
/-- Units in a millisecond. -/
def msU : Nat := 1000000 * nsU

/-- The range of instants: 2^48 seconds (R5). -/
def kxMod : Nat := 2 ^ 48 * secU

/-- The 96-bit Keaxia time of an instant (R5). -/
def kxOf (t : Nat) : Nat :=
  ((t / secU) % 2 ^ 48) * 2 ^ 48 + ((t / nsU) % 1000000000) * 2 ^ 16 + t % nsU

/-- Word `k` of an instant's Keaxia time (R6). -/
def kxWord (t k : Nat) : Word := wd (kxOf t / 2 ^ (32 * k))

/-- The 96-bit value of three words (R6). -/
def kx96 (w0 w1 w2 : Word) : Nat := w0.toNat + 2 ^ 32 * w1.toNat + 2 ^ 64 * w2.toNat

/-- The `NS` field of three time words (R5). -/
def kxNs (w0 w1 w2 : Word) : Nat := (kx96 w0 w1 w2 / 2 ^ 16) % 2 ^ 32

/-- Whether three words are a valid Keaxia time (R7). -/
def kxValid (w0 w1 w2 : Word) : Bool := kxNs w0 w1 w2 ≤ 999999999

/-- The instant of three time words (R5). -/
def instOf (w0 w1 w2 : Word) : Nat :=
  (kx96 w0 w1 w2 / 2 ^ 48) * secU + kxNs w0 w1 w2 * nsU + kx96 w0 w1 w2 % 2 ^ 16

/-- The instant three registers from `a` up hold. -/
def Hub.instAt (h : Hub) (a : Nat) : Nat := instOf (h.rd a) (h.rd (a + 4)) (h.rd (a + 8))

/-- Writes an instant into three registers from `a` up (R6). -/
def Hub.wrInst (h : Hub) (a t : Nat) : Hub := h.wr3 a (kxWord t 0) (kxWord t 1) (kxWord t 2)

/-- Corrected time of `RATE`, signed 40-bit (R173). -/
def Hub.rate (h : Hub) : Int :=
  signed 40 ((h.rd Addr.RATE_LO).toNat + 2 ^ 32 * (h.fld Addr.RATE_HI 0 8))

/-- `ANCHOR`, 80 bits (R173). -/
def Hub.anchor (h : Hub) : Nat :=
  (h.rd Addr.ANCHOR0).toNat + 2 ^ 32 * (h.rd Addr.ANCHOR1).toNat + 2 ^ 64 * h.fld Addr.ANCHOR2 0 16

/-- L(r) of R173; the floor rounds towards minus infinity. -/
def Clock.l (k : Clock) (r : Nat) : Int := (r : Int) + (((r : Int) - (k.anchor : Int)) * k.rate) / (2 ^ 48 : Int)

/-- Corrected time at RAW value `r` by the parameters `k` (R173). -/
def Clock.time (k : Clock) (r : Nat) : Nat := (((k.offset : Int) + k.l r) % (kxMod : Int)).toNat

/-- The parameters of corrected time in force (R173). -/
def Hub.clock (h : Hub) : Clock := { offset := h.instAt Addr.OFFSET0, anchor := h.anchor, rate := h.rate }

/-- L(r) with the parameters in force. -/
def Hub.lOf (h : Hub) (r : Nat) : Int := h.clock.l r

/-- Corrected time T at RAW value `r` (R173). -/
def Hub.timeAt (h : Hub) (r : Nat) : Nat := h.clock.time r

/-- A frame's length, 80 ns (R179). -/
def frameU : Nat := 80 * nsU

/-- The frame number F at an instant (R179). -/
def frameOf (t : Nat) : Nat := t / frameU

/-- The next frame instant after `t` (R179). -/
def nextFrame (t : Nat) : Nat := (t / frameU + 1) * frameU

/-! ### The Dome (R35, R36, R40) -/

/-- The size of the Dome: 32 MiB (R35). -/
def domeSize : Nat := 0x2000000

/-- The byte at Dome address `a`; a byte nothing has written is undefined and reads free (log entry 5). -/
def Hub.domeByte (h : Hub) (a : Nat) : Byte := (SMap.find h.dome a).getD (Config.freeByte h.domeEpoch a)

/-- The `n` bytes at `a`, least significant first (R10). -/
def Hub.domeRead (h : Hub) (a n : Nat) : Nat := ofBytes ((List.range n).map fun i => h.domeByte (a + i))

/-- The word at `a`. -/
def Hub.domeWord (h : Hub) (a : Nat) : Word := wd (h.domeRead a 4)

/-- Writes one byte; a write rewrites the parity of its 64-bit word (R36). Outside the Dome nothing is written. -/
def Hub.domeByteWrite (h : Hub) (a : Nat) (b : Byte) : Hub :=
  if a < domeSize then
    { h with dome := SMap.put h.dome a b, badParity := h.badParity.filter (· != a / 8) }
  else h

/-- Writes bytes from `a` up. -/
def Hub.domeBytes (h : Hub) (a : Nat) : List Byte → Hub
  | [] => h
  | b :: t => Hub.domeBytes (h.domeByteWrite a b) (a + 1) t

/-- Writes the low `n` bytes of `v` at `a`, least significant first (R10). -/
def Hub.domeWrite (h : Hub) (a n v : Nat) : Hub := h.domeBytes a (bytesOf v n)

/-- Whether the stored parity of the 64-bit word holding `a` is wrong (R303, R463). -/
def Hub.poisoned (h : Hub) (a : Nat) : Bool := h.badParity.contains (a / 8)

/-- Makes every byte at or above `lo` undefined (R42, R425). -/
def Hub.domeUndefine (h : Hub) (lo : Nat) : Hub :=
  { h with dome := h.dome.filter (fun c => c.1 < lo), domeEpoch := h.domeEpoch + 1,
           badParity := h.badParity.filter (fun w => 8 * w < lo) }

/-- The canonical form of the Dome's cells: addresses strictly rising and inside the Dome. An unlisted byte reads free, so
no listed value can equal it by rule. -/
def Memory.wf : List Host.Cell → Bool
  | [] => true
  | (a, _) :: t => decide (a < domeSize) && (match t with | [] => true | (a', _) :: _ => decide (a < a')) && Memory.wf t

/-- The regions of the Dome (R40). -/
inductive Region where
  | system | stage | data | mirror | capture | journal
  deriving DecidableEq, Repr

/-- The region of a Dome address (R40, R41); none outside the Dome. -/
def Hub.region (h : Hub) (a : Nat) : Option Region :=
  if domeSize ≤ a then none
  else if a < (h.rd Addr.SYS_DOME_STAGE_BASE).toNat then some .system
  else if a < (h.rd Addr.SYS_DOME_DATA_BASE).toNat then some .stage
  else if a < (h.rd Addr.SYS_DOME_MIRROR_BASE).toNat then some .data
  else if a < (h.rd Addr.SYS_DOME_CAPTURE_BASE).toNat then some .mirror
  else if a < (h.rd Addr.SYS_DOME_JOURNAL_BASE).toNat then some .capture
  else some .journal

/-! ### Masters and status codes (R8, R9) -/

/-- Master IDs of R8. -/
def belfry : Nat := 0
def spi : Nat := 5
def uplink : Nat := 6
def twin : Nat := 7
def jtag : Nat := 8

/-- The master ID of Turret `t` (R8). -/
def turretId (t : Nat) : Nat := t + 1

/-- Status codes of R9. -/
def OK : Nat := 0
def ESTATE : Nat := 1
def EBUSY : Nat := 2
def ERANGE : Nat := 3
def EBOUND : Nat := 4
def ELOCKED : Nat := 5
def EVERSION : Nat := 6
def ESIG : Nat := 7
def ESIZE : Nat := 8
def EBUDGET : Nat := 9
def EABORT : Nat := 10
def EPOISON : Nat := 11
def ETIME : Nat := 12
def EUNKNOWN : Nat := 13

/-! ### Modes (R411) -/

/-- The code of a mode (R411). -/
def Mode.code : Mode → Nat
  | .boot => 0 | .idle => 1 | .armed => 2 | .run => 3 | .shadow => 4 | .service => 5

/-- The present mode; codes 6 and 7 are never shown (R411). -/
def Hub.mode (h : Hub) : Mode :=
  match h.fld Addr.SYS_MODE 0 3 with
  | 1 => .idle | 2 => .armed | 3 => .run | 4 => .shadow | 5 => .service | _ => .boot

/-- A plan runs in SERVICE (R419). -/
def Hub.servicePlan (h : Hub) : Bool := h.bit Addr.SYS_MODE 8

/-- A run is in progress (R290): RUN, SHADOW, or SERVICE with a plan running. -/
def Hub.running (h : Hub) : Bool :=
  h.mode = .run || h.mode = .shadow || (h.mode = .service && h.servicePlan)

/-- ARMED, RUN, SHADOW, or SERVICE while a plan runs: where time is never stepped (R175). -/
def Hub.timeFixed (h : Hub) : Bool := h.mode = .armed || h.running

/-- Some change of mode waits for its frame boundary (R412, R430). -/
def Hub.modePends (h : Hub) : Bool := h.sys.stopAt.isSome || h.sys.modeNext.isSome

/-- Enters a mode (R412, R430): MODE, PREV, PEND as long as a change still waits, MODE_CNT. -/
def Hub.setMode (h : Hub) (m : Mode) (service : Bool := false) : Hub :=
  let w := putBit (((0#32 : Word) |> (putBits · 0 3 m.code)) |> (putBits · 4 3 h.mode.code)) 3 h.modePends
  (h.wr Addr.SYS_MODE (putBit w 8 service)).incWrap Addr.SYS_MODE_CNT 0 32 1

/-- The mode changes to `m` at the next frame boundary; RAW is `r` (R412, R430). -/
def Hub.changeMode (h : Hub) (r : Nat) (m : Mode) : Hub :=
  { h with sys.modeNext := some (m, nextFrame (h.timeAt r)) }.setBit Addr.SYS_MODE 3 true

/-- A plan is loaded (R226). -/
def Hub.planLoaded (h : Hub) : Bool := h.bit Addr.SYS_PLAN_STATUS 0

/-! ### The error log (R390 to R392) -/

/-- Merges a report into an entry of its class (R391). -/
def LogEntry.merge (e : LogEntry) (t : Nat) : LogEntry := { e with count := min (e.count + 1) 4095, last := t }

/-- Applies `f` to the last element of class `k` of a list, if there is one. -/
def mergeLast (k t : Nat) : List LogEntry → Option (List LogEntry)
  | [] => none
  | e :: es =>
    match mergeLast k t es with
    | some es' => some (e :: es')
    | none => if e.cls = k then some (e.merge t :: es) else none

/-- A report is counted by its class, and copied into FIRST_ERR where that is free (R391). -/
def Hub.logCount (h : Hub) (t cls code master : Nat) (detail : Word) : Hub :=
  let h := h.incWrap (Addr.ELOG_CLASS_CNT cls) 0 32 1
  if h.bit Addr.FIRST_ERR 31 then h else
    ((h.wr Addr.FIRST_ERR (wd (cls % 32 + 256 * (code % 256) + 65536 * (master % 16) + 2 ^ 31))).wr
      Addr.FIRST_DETAIL detail).wrInst (Addr.FIRST_TIME 0) t

/-- A counted report is taken, merged, queued or lost (R391). -/
def Hub.logFile (h : Hub) (e : LogEntry) : Hub :=
  let lg := h.ctl.elog
  let full := 64 ≤ lg.entries.length
  if !full && lg.queue.isEmpty then { h with ctl.elog.queue := [e] }
  else match mergeLast e.cls e.first lg.queue with
    | some q => { h with ctl.elog.queue := q }
    | none => match mergeLast e.cls e.first lg.entries with
      | some es => { h with ctl.elog.entries := es }
      | none =>
        if !full && lg.queue.length < 8 then { h with ctl.elog.queue := lg.queue ++ [e] }
        else (h.incSat (Addr.ELOG_OVF_CNT e.cls) 0 16 1).setBit Addr.ELOG_LOST e.cls true

/-- A report taken by the error log (R391). `t` is the Keaxia time of the report; master 15 is the hub's own detection
(R390). -/
def Hub.reportAt (h : Hub) (t cls code master : Nat) (detail : Word) : Hub :=
  (h.logCount t cls code master detail).logFile
    { cls := cls, code := code, master := master, detail := detail, first := t, last := t }

/-- A report at the present time, RAW being `r`. -/
def Hub.report (h : Hub) (r cls code master : Nat) (detail : Word) : Hub :=
  h.reportAt (h.timeAt r) cls code master detail

/-- A register write that has no effect and is logged with a status: class REFUSED_WRITE, detail the address (R390). -/
def Hub.refuse (h : Hub) (r m a status : Nat) : Hub := h.report r 1 status m (wd a)

/-- An access not performed: class ACCESS, detail the address (R390). -/
def Hub.deny (h : Hub) (r m a : Nat) (status : Nat := 0) : Hub := h.report r 0 status m (wd a)

/-- Frees the `n` oldest entries (R392). -/
def Hub.elogFree (h : Hub) (n : Nat) : Hub :=
  let lg := h.ctl.elog
  let k := min n lg.entries.length
  { h with ctl.elog := { lg with entries := lg.entries.drop k, head := (lg.head + k) % 64 } }

/-- The eight words of an entry (R403). -/
def LogEntry.words (e : LogEntry) : List Word :=
  [wd (e.cls % 32 + 256 * (e.code % 256) + 65536 * (e.master % 16) + 2 ^ 20 * (e.count % 4096)), e.detail,
   kxWord e.first 0, kxWord e.first 1, kxWord e.first 2, kxWord e.last 0, kxWord e.last 1, kxWord e.last 2]

end Sys2Proof.Machine
end

