-- ==== Sys2Proof/Machine/Route.lean ====
section
/-!
DEFINITION. The lanes as they stand, the positions and segments of the ring, and the way a frame takes round it (R314, R315,
R328, R329, R335).
-/

namespace Sys2Proof.Machine

/-! ### Lanes -/

def sDISABLED : Nat := 0
def sDETECT : Nat := 1
def sTRAIN : Nat := 2
def sLOCK : Nat := 3
def sEXCHANGE : Nat := 4
def sACTIVE : Nat := 5
def sINCOMPAT : Nat := 6

def rSPANE : Nat := 0
def rSPANW : Nat := 1
def rTWIN : Nat := 2
def rUPLINK : Nat := 3

def Hub.lane (h : Hub) (l : Nat) : Lane := SMap.get {} h.lanes l
def Hub.setLane (h : Hub) (l : Nat) (x : Lane) : Hub := { h with lanes := SMap.put h.lanes l x }
def Hub.modLane (h : Hub) (l : Nat) (f : Lane → Lane) : Hub := h.setLane l (f (h.lane l))

def Hub.stageOf (h : Hub) (l : Nat) : Nat := h.fld (Addr.LANE_STATUS l) 0 3
def Hub.protoNow (h : Hub) (l : Nat) : Nat := h.fld (Addr.LANE_STATUS l) 3 2

/-- A lane's configured role (R314): 0 SPAN_E, 1 SPAN_W, 2 TWIN, 3 UPLINK. -/
def Hub.laneRole (h : Hub) (l : Nat) : Nat := h.fld (Addr.LANE_CFG l) 1 2
def Hub.laneEn (h : Hub) (l : Nat) : Bool := h.bit (Addr.LANE_CFG l) 0

/-- The role in force (R315). -/
def Hub.liveRole (h : Hub) (l : Nat) : Nat := bitsOf (h.lane l).cfg 1 2
def Hub.optical (h : Hub) (l : Nat) : Bool := !(h.lane l).cfg.getLsbD 5

/-- The lane is an uplink running Ethernet (R339). -/
def Hub.isEth (h : Hub) (l : Nat) : Bool := h.liveRole l = rUPLINK && h.protoNow l != 0

/-- The ACTIVE lane in a role. -/
def Hub.activeLane (h : Hub) (role : Nat) : Option Nat :=
  (List.range 4).find? fun l => h.laneEn l && h.liveRole l = role && h.stageOf l = sACTIVE

def Hub.hubPos (h : Hub) : Nat := h.fld Addr.SPAN_CFG 0 6
def Hub.spanSize (h : Hub) : Nat := max 1 (h.fld Addr.SPAN_CFG 6 7)
def Hub.gwPos (h : Hub) : Nat := h.fld Addr.SPAN_CFG 13 6
def Hub.isGateway (h : Hub) : Bool := h.hubPos = h.gwPos

/-! ### The ring (R328, R329) -/

/-- Segment `i` is down. -/
def Hub.segDown (h : Hub) (i : Nat) : Bool := if i < 32 then h.bit Addr.SEG_DOWN_LO i else h.bit Addr.SEG_DOWN_HI (i - 32)

/-- The segments of `n` hops east or west from the hub. -/
def Hub.segsTo (h : Hub) (east : Bool) (n : Nat) : List Nat :=
  (List.range n).map fun i => if east then (h.hubPos + i) % h.spanSize else (h.hubPos + h.spanSize - 1 - i % h.spanSize) % h.spanSize

/-- The lane role that leads east or west. -/
def wayRole (east : Bool) : Nat := if east then rSPANE else rSPANW

/-- The way `n` hops long is open: its own lane ACTIVE and no segment of it down. -/
def Hub.wayOpen (h : Hub) (east : Bool) (n : Nat) : Bool :=
  (h.activeLane (wayRole east)).isSome && (h.segsTo east n).all fun i => !h.segDown i

/-- The way to a position and its hops: the shorter, east when equal, else the other; none where both are blocked. -/
def Hub.wayTo (h : Hub) (tgt : Nat) : Option (Bool × Nat) :=
  let e := (tgt + h.spanSize - h.hubPos % h.spanSize) % h.spanSize
  let w := h.spanSize - e
  let first : Bool × Nat := if e ≤ w then (true, e) else (false, w)
  let second : Bool × Nat := if e ≤ w then (false, w) else (true, e)
  if h.wayOpen first.1 first.2 then some first else if h.wayOpen second.1 second.2 then some second else none

/-- The lane and hops by which the hub's own Ledger frames leave (R329); none where both ways are blocked. -/
def Hub.ledgerLane (h : Hub) : Option (Nat × Nat) :=
  if h.isGateway then (h.activeLane rUPLINK).map fun l => (l, 0)
  else match h.wayTo h.gwPos with
    | some (east, n) => (h.activeLane (wayRole east)).map fun l => (l, n)
    | none => none

/-- `ETH_SRC` is 0: the hub sends nothing on the Ethernet uplink (R340). -/
def Hub.noSource (h : Hub) (l : Nat) : Bool := h.rd (Addr.ETH_SRC_LO l) = 0#32 && h.fld (Addr.ETH_SRC_HI l) 0 16 = 0

/-- The hub's own Ledger frames wait in the journal: at the gateway while its Ethernet uplink has no source address (R340), and
while it has no ACTIVE uplink at all (log entry 56). -/
def Hub.ledgerWaits (h : Hub) : Bool :=
  h.isGateway && (match h.activeLane rUPLINK with
    | some l => h.isEth l && h.noSource l
    | none => true)

end Sys2Proof.Machine
end

