-- ==== Sys2Proof/Machine/Ledger.lean ====
section
/-!
DEFINITION. The Ledger (chapter 10): element arrival, packets, journal queues, eviction, sending, acknowledgement,
layout commits, takeover.
-/

namespace Sys2Proof.Machine

/-! ### Streams and their registers -/

/-- Code of a stream kind (R290). -/
def Kind.code : Kind → Nat
  | .plain => 0 | .derived => 1 | .event => 2 | .record => 3 | .streamcap => 4 | .gap => 5 | .desc => 6

/-- The kind the plan's bindings gave a stream (R313, `LED_STREAM.KIND`). -/
def Hub.streamKind (h : Hub) (s : Nat) : Kind :=
  match h.fld (Addr.LED_STREAM s) 7 3 with
  | 0 => .plain | 1 => .derived | 2 => .event | 3 => .record | 4 => .streamcap | 5 => .gap | _ => .desc

/-- The queue a stream is written to, in the committed layout (R300). -/
def Hub.streamQueue (h : Hub) (s : Nat) : Nat := h.afld (Addr.LED_STREAM s) 0 6

/-- The stream is enabled in the committed configuration. -/
def Hub.streamOn (h : Hub) (s : Nat) : Bool := (h.active (Addr.LED_STREAM s)).getLsbD 6

/-- The stream delivers: enabled, or the EVENT stream, which counts as enabled while `EVT_EN` = 1 (R300). -/
def Hub.streamLive (h : Hub) (s : Nat) : Bool := h.streamOn s || (h.bit Addr.LED_CFG 10 && h.fld Addr.LED_CFG 0 10 = s)

/-- A queue's length in 8-byte words in the committed layout (R300, R301); 0 = disabled. -/
def Hub.queueCap (h : Hub) (q : Nat) : Nat := h.afld (Addr.LED_Q_CFG q) 10 10 * 8192

/-- Dome byte address of word `o` of a queue (R300). -/
def Hub.queueAddr (h : Hub) (q o : Nat) : Nat :=
  (h.rd Addr.SYS_DOME_JOURNAL_BASE).toNat + h.afld (Addr.LED_Q_CFG q) 0 10 * 65536 + o * 8

/-- A pointer moved on by `n` words: offset in [21:0], lap in bit 22 (R301). -/
def ptrAdd (cap p n : Nat) : Nat :=
  let o := p % 2 ^ 22 + n
  let lap := p / 2 ^ 22 % 2
  if o < cap then lap * 2 ^ 22 + o else (1 - lap) * 2 ^ 22 + (o - cap)

/-- Words from pointer `a` to pointer `b` in queue order (R301). -/
def ptrDist (cap a b : Nat) : Nat :=
  if a / 2 ^ 22 % 2 = b / 2 ^ 22 % 2 then b % 2 ^ 22 - a % 2 ^ 22 else cap + b % 2 ^ 22 - a % 2 ^ 22

/-- W of a queue (R301). -/
def Hub.wPtr (h : Hub) (q : Nat) : Nat := (h.rd (Addr.LED_Q_WR q)).toNat % 2 ^ 23

/-- The pointer to packet `i` of a queue, W where there is none. -/
def Hub.pktPtr (h : Hub) (q i : Nat) : Nat :=
  match (h.queue q).pkts[i]? with
  | some p => p.off
  | none => h.wPtr q

/-- M and S of a queue (R301). -/
def Hub.mPtr (h : Hub) (q : Nat) : Nat := h.pktPtr q 0
def Hub.sPtr (h : Hub) (q : Nat) : Nat := h.pktPtr q (h.queue q).sentN

/-- W − M in words. -/
def Hub.queueUsed (h : Hub) (q : Nat) : Nat :=
  if (h.queue q).pkts.isEmpty then 0 else
    let d := ptrDist (h.queueCap q) (h.mPtr q) (h.wPtr q)
    if d = 0 then h.queueCap q else d

/-- Every queue is empty (`LED_STATUS.DRAINED`). -/
def Hub.drained (h : Hub) : Bool := h.queues.all fun q => q.2.pkts.isEmpty

/-- The Selail states of `SEL_STATUS.STATE` that deliver: unpaired or ACTIVE (R305, R309). -/
def Hub.paired (h : Hub) : Bool := h.bit Addr.SEL_CFG 16
def Hub.selState (h : Hub) : Nat := h.fld Addr.SEL_STATUS 0 3
def Hub.activeRole (h : Hub) : Bool := !h.paired || h.selState = 3
def Hub.standby (h : Hub) : Bool := h.paired && h.selState != 3

/-! ### Packets (R292 to R298) -/

/-- Header and payload bytes of a packet as sealed: EPOCH, REPLAY and TWIN are written at sending (R292). -/
def Hub.headerWords (h : Hub) (p : Packet) (epoch : Word) : List Word :=
  [wd (p.stream % 1024 + 1024 * p.kind.code + 8192 * p.fmt + 65536 * p.count),
   wd p.seq, wd (p.seq / 2 ^ 32 % 65536 + 65536 * p.pflags),
   kxWord p.time 0, kxWord p.time 1, kxWord p.time 2,
   wd (h.fld Addr.SEL_CFG 0 16 + 65536 * p.tstate + 2 ^ 18 * (if h.paired && h.bit Addr.SEL_CFG 17 then 1 else 0)
     + 2 ^ 19 * h.fld Addr.SPAN_CFG 0 6 + 2 ^ 28 * 2),
   epoch]

/-- Bytes padded with zeros to a multiple of 8 (R293). -/
def pad8 (l : List Byte) : List Byte := l ++ List.replicate ((8 - l.length % 8) % 8) 0#8

/-- The bytes of words, each least significant byte first. -/
def wordBytes (l : List Word) : List Byte := l.flatMap fun w => bytesOf w.toNat 4

/-- The payload of a packet (R293, R294, R297). -/
def Packet.payload (p : Packet) : List Byte :=
  match p.kind with
  | .gap => wordBytes [wd p.last, wd (p.last / 2 ^ 32 % 65536 + 65536 * p.reason + 2 ^ 24 * p.merged),
      kxWord p.timeLast 0, kxWord p.timeLast 1, kxWord p.timeLast 2, 0#32, 0#32, 0#32]
  | .derived => pad8 (bytesOf (p.fromSeq % 2 ^ 48) 8 ++ p.body ++ p.flagBlock)
  | _ => pad8 (p.body ++ p.flagBlock)

/-- Words of 8 bytes a packet takes in its queue. -/
def Packet.len8 (p : Packet) : Nat := (32 + p.payload.length) / 8

/-- The largest COUNT of a packet (R293). -/
def maxCount (k : Kind) (fmt : Nat) : Nat :=
  match k with
  | .plain => if fmt = 0 then 504 else 403
  | .derived => if fmt = 0 then 502 else 401
  | .event => 42
  | .record | .streamcap => 2016
  | .gap | .desc => 0

/-- Writes a packet's header and payload into its queue at its offset, wrapping at the queue's end (R300). -/
def Hub.journalBytes (h : Hub) (q : Nat) (p : Packet) : Hub :=
  let bytes := wordBytes (h.headerWords p 0#32) ++ p.payload
  let cap := h.queueCap q
  let o := p.off % 2 ^ 22
  let n1 := min bytes.length ((cap - o) * 8)
  ((h.domeBytes (h.queueAddr q o) (bytes.take n1)).domeBytes (h.queueAddr q 0) (bytes.drop n1))

/-- Appends a packet at W (R301): bytes, pointers, FILL_MAX. The caller has made room. -/
def Hub.journalAppend (h : Hub) (q : Nat) (p : Packet) : Hub :=
  let p := { p with off := h.wPtr q, words := p.len8 }
  let h := h.journalBytes q p
  let h := h.setQueue q { h.queue q with pkts := (h.queue q).pkts ++ [p] }
  let h := h.wr (Addr.LED_Q_WR q) (wd (ptrAdd (h.queueCap q) (h.wPtr q) p.words))
  let h := if h.fld (Addr.LED_Q_FILL_MAX q) 0 22 < h.queueUsed q then h.setFld (Addr.LED_Q_FILL_MAX q) 0 22 (h.queueUsed q) else h
  h.modStream p.stream fun s => { s with nextFrom := max s.nextFrom (p.last + 1) }

/-- Releases the packets at M that their streams' acknowledged NEXT has passed (R301); `fuel` bounds the packets. -/
def Hub.release (q : Nat) : Nat → Hub → Hub
  | 0, h => h
  | fuel + 1, h =>
    match (h.queue q).pkts with
    | p :: ps =>
      if p.last < (h.stream p.stream).ack then
        Hub.release q fuel (h.setQueue q { pkts := ps, sentN := (h.queue q).sentN - 1 })
      else h
    | [] => h

/-- Releases what can be released on a queue. -/
def Hub.releaseQueue (h : Hub) (q : Nat) : Hub := h.release q (h.queue q).pkts.length

/-- A lost range of one stream (R302): first and last sequence, the instants of both or the times of the loss, the epoch and
period of the first, reasons already merged. -/
structure LostRange where
  stream : Nat
  first : Nat
  last : Nat
  time : Nat
  timeLast : Nat
  epochS : Nat
  period : Nat
  merged : Nat
  deriving DecidableEq, Repr

/-- The first sequence a packet stands for (R294). -/
def Packet.firstSeq (p : Packet) : Nat := match p.kind with | .derived => min p.fromSeq p.seq | _ => p.seq

/-- The times of R297 for sequences `a` to `b` lost with a packet at time `t`: their instants for PLAIN and DERIVED, the time of
the loss else. -/
def Packet.lossTimes (p : Packet) (t a b : Nat) : Nat × Nat :=
  if p.period = 0 then (t, t) else (p.epochS + a * p.period, p.epochS + b * p.period)

/-- What is lost with a packet at time `t` (R302): an evicted GAP passes on its range, its times and its reason. -/
def Packet.loss (p : Packet) (t : Nat) : LostRange :=
  let a := p.firstSeq
  let (t0, t1) := match p.kind with
    | .gap => (p.time, p.timeLast)
    | _ => p.lossTimes t a p.last
  { stream := p.stream, first := a, last := p.last, time := t0, timeLast := t1, epochS := p.epochS, period := p.period,
    merged := match p.kind with | .gap => p.merged ||| 2 ^ (p.reason - 1) | _ => 0 }

/-- Two lost ranges of one stream as one. -/
def LostRange.join (x y : LostRange) : LostRange :=
  let lo := if y.first < x.first then y else x
  let hi := if x.last < y.last then y else x
  { lo with last := hi.last, timeLast := hi.timeLast, merged := x.merged ||| y.merged }

/-- Adds a loss to the lost ranges: one range a stream (R302). -/
def addLost (x : LostRange) : List LostRange → List LostRange
  | [] => [x]
  | r :: rs => if r.stream = x.stream then r.join x :: rs else r :: addLost x rs

/-- The EVICTED reason of R298 does not repeat itself in MERGED. -/
def mergedBits (m reason : Nat) : Nat := (m % 256) &&& (255 - 2 ^ (reason - 1))

/-- Evicts the packet at M (R302); what is acknowledged behind it is released (R301). -/
def Hub.evictOne (h : Hub) (q : Nat) : Hub :=
  let qu := h.queue q
  let h := h.setQueue q { pkts := qu.pkts.drop 1, sentN := qu.sentN - 1 }
  ((h.incWrap (Addr.LED_Q_EVICT_CNT q) 0 32 1).setBit (Addr.LED_Q_STATUS q) 2 true).releaseQueue q

/-- Whether a lost range extends an unsent EVICTED GAP of its stream in place (R302): its index in the queue. -/
def Hub.extendable (h : Hub) (q : Nat) (r : LostRange) : Option Nat :=
  (h.queue q).pkts.findIdx? fun p =>
    !p.sent && p.kind = .gap && p.stream = r.stream && p.reason = 1 && p.last + 1 = r.first

/-- Evicts at time `t` until `need` words and the GAPs the evictions require fit (R302); `fuel` bounds the packets held. -/
def Hub.evictFor (h : Hub) (t q need : Nat) : Nat → List LostRange → Hub × List LostRange
  | 0, ls => (h, ls)
  | fuel + 1, ls =>
    let gaps := (ls.filter fun r => (h.extendable q r).isNone).length
    if h.queueUsed q + need + 8 * gaps ≤ h.queueCap q then (h, ls)
    else match (h.queue q).pkts[0]? with
      | none => (h, ls)
      | some p => Hub.evictFor (h.evictOne q) t q need fuel (addLost (p.loss t) ls)

/-- Reported time state (R187). -/
def Hub.tstate (h : Hub) : Nat := h.fld Addr.TIME_STATE 2 2

/-- The GAP record of a lost range (R297, R302). -/
def LostRange.gap (r : LostRange) (tstate : Nat) : Packet :=
  { stream := r.stream, kind := .gap, seq := r.first, last := r.last, count := 0, time := r.time, timeLast := r.timeLast,
    reason := 1, merged := mergedBits r.merged 1, epochS := r.epochS, period := r.period, tstate := tstate,
    instFirst := r.time }

/-- Writes the EVICTED GAP of a lost range, extending the stream's unsent one where R302 says so. -/
def Hub.evictGap (q : Nat) (r : LostRange) (h : Hub) : Hub :=
  match h.extendable q r with
  | some i =>
    match (h.queue q).pkts[i]? with
    | some p =>
      let p := { p with last := r.last, timeLast := r.timeLast, merged := mergedBits (p.merged ||| r.merged) 1 }
      (h.setQueue q { h.queue q with pkts := (h.queue q).pkts.set i p }).journalBytes q p
    | none => h
  | none => (h.journalAppend q (r.gap h.tstate)).incWrap Addr.LED_GAP_CNT 0 32 1

/-- Writes a sealed packet (or GAP) into queue `q` at time `t`: what is acknowledged is released first (R304), then as much is
evicted as R302 says. A packet larger than its queue is lost. -/
def Hub.journalWrite (h : Hub) (t q : Nat) (p : Packet) : Hub :=
  let h := h.releaseQueue q
  let (h, lost) := h.evictFor t q p.len8 ((h.queue q).pkts.length + 1) []
  let h := forIn' lost (Hub.evictGap q) h
  if h.queueUsed q + p.len8 ≤ h.queueCap q then (h.journalAppend q p).releaseQueue q else h

/-- A GAP record of stream `s` (R297). -/
def Hub.gapOf (h : Hub) (s first last time timeLast reason : Nat) : Packet :=
  let st := h.stream s
  { stream := s, kind := .gap, seq := first, last := last, count := 0, time := time, timeLast := timeLast, reason := reason,
    epochS := st.epochS, period := st.period, pflags := if st.first then 2 ^ 5 else 0, tstate := h.tstate, instFirst := time }

/-- Writes a GAP record on a stream's queue at time `t` (R297). -/
def Hub.gapWrite (h : Hub) (t stream first last time timeLast reason : Nat) : Hub :=
  let g := h.gapOf stream first last time timeLast reason
  let h := h.modStream stream fun t => { t with first := false }
  (h.journalWrite t (h.streamQueue stream) g).incWrap Addr.LED_GAP_CNT 0 32 1

/-- Seals a stream's open packet at time `t`, if it has one (R295). -/
def Hub.seal (h : Hub) (t s : Nat) : Hub :=
  match (h.stream s).opn with
  | none => h
  | some p =>
    let p := { p with tstate := h.tstate,
                      pflags := p.pflags ||| (if (h.stream s).first then 2 ^ 5 else 0) }
    let h := h.modStream s fun t => { t with opn := none, first := false }
    h.journalWrite t (h.streamQueue s) p

/-- Opens a packet with an element; `t` is the present time (R295). -/
def openWith (st : Stream) (e : LedElem) (seq t : Nat) : Packet :=
  { stream := e.stream, kind := e.kind, fmt := e.fmt, seq := seq, last := seq, count := 0,
    fromSeq := if st.first then seq else st.nextFrom, time := e.inst, epochS := e.epochS, period := e.period,
    opened := t, instFirst := e.inst }

/-- Appends one word element to the open packet (R293). -/
def Packet.addWord (p : Packet) (e : LedElem) (seq : Nat) : Packet :=
  { p with count := p.count + 1, last := seq, body := p.body ++ bytesOf e.value.toNat 4,
           flagBlock := if e.fmt = 0 then [] else p.flagBlock ++ [BitVec.ofNat 8 e.flags] }

/-- Inserts a range where it belongs by its first sequence. -/
def insertGap (g : Nat × Nat × Nat) : List (Nat × Nat × Nat) → List (Nat × Nat × Nat)
  | [] => [g]
  | x :: xs => if x.1 < g.1 then x :: insertGap g xs else g :: x :: xs

/-- Declares missing, as GAP records, what of the ranges lies from the stream's next sequence up to `hi` (R25, R216,
R297); the present time is `t`, the stream's epoch `e`, its period `p`. -/
def Hub.declareGaps (h : Hub) (t s e p hi : Nat) (gaps : List (Nat × Nat × Nat)) : Hub :=
  forIn' (gaps.foldr insertGap []) (fun g h =>
    let a := max g.1 (h.stream s).prod
    let b := min (g.2.1 + 1) hi
    if a < b then
      let h := (h.seal t s).modStream s fun x => { x with epochS := e, period := p }
      (h.gapWrite t s a (b - 1) (e + a * p) (e + (b - 1) * p) g.2.2).modStream s fun x => { x with prod := b }
    else h) h

/-- Places a PLAIN, DERIVED or EVENT element in its stream's open packet (R295); `t` is the present time. -/
def Hub.placeOne (h : Hub) (t : Nat) (e : LedElem) : Hub :=
  let st := h.stream e.stream
  let seq := e.seq.getD st.prod
  let h := h.declareGaps t e.stream e.epochS e.period seq e.gaps
  let st := h.stream e.stream
  let must : Bool := match st.opn with
    | none => false
    | some p =>
      maxCount e.kind p.fmt ≤ p.count || p.fmt ≠ e.fmt || p.epochS ≠ e.epochS || p.period ≠ e.period ||
      ((e.kind = .derived || e.kind = .plain) && seq ≠ p.last + 1)
  let h := if must then h.seal t e.stream else h
  let st := h.stream e.stream
  let p := st.opn.getD (openWith st e seq t)
  let p := match e.kind with
    | .event => { p with count := p.count + 1, last := seq, body := p.body ++ e.bytes }
    | _ => p.addWord e seq
  h.modStream e.stream fun s =>
    { s with opn := some p, prod := seq + 1, lastK := some seq, epochS := e.epochS, period := e.period, lsb := e.lsb,
             chan := e.chan, fmt := e.fmt }

/-- The captures of a packet after bytes more, from byte `ofs` on, of the one triggered at `t`. -/
def addSeg (ofs t : Nat) (starts ends : Bool) (l : List CapSeg) : List CapSeg :=
  if starts then l ++ [{ ofs := ofs, time := t, starts := true, ends := ends }]
  else match l.getLast? with
    | some x => l.dropLast ++ [{ x with ends := ends }]
    | none => [{ ofs := ofs, time := t, starts := false, ends := ends }]

/-- `PFLAGS.REC_START` and `REC_END` of a packet that holds these captures (R292). -/
def recFlags (l : List CapSeg) : Nat := (if l.any CapSeg.starts then 2 ^ 3 else 0) + (if l.any CapSeg.ends then 2 ^ 4 else 0)

/-- Places the bytes of a record or stream-through capture, splitting at 2 016 bytes a packet (R293, R295); `fuel`
bounds the packets. -/
def Hub.placeBytes (t : Nat) (e : LedElem) : Nat → List Byte → Bool → Hub → Hub
  | 0, _, _, h => h
  | fuel + 1, bytes, start, h =>
    let st := h.stream e.stream
    let seq := st.prod
    let h := match st.opn with
      | some p => if (start && e.kind = Kind.record) || p.count = 2016 then h.seal t e.stream else h
      | none => h
    let st := h.stream e.stream
    let p := st.opn.getD (openWith st e seq t)
    let n := min (2016 - p.count) bytes.length
    let rest := bytes.drop n
    let caps := addSeg p.count e.inst start (e.ends && rest.isEmpty) p.caps
    let p := { p with count := p.count + n, last := seq + n - 1, body := p.body ++ bytes.take n, caps := caps,
                      pflags := p.pflags ||| recFlags caps }
    let h := h.modStream e.stream fun s => { s with opn := some p, prod := seq + n }
    if rest.isEmpty then (if e.ends && e.kind = .record then h.seal t e.stream else h)
    else Hub.placeBytes t e fuel rest false h

/-- An active hub that has accepted a handover seals content packets at once (R366). -/
def Hub.sealsAtOnce (h : Hub) : Bool := h.sel.hand.any fun x => !x.claimant && x.fh.isSome

/-- An element is placed in its stream's open packet (R295, R366). -/
def Hub.placeElem (h : Hub) (t : Nat) (e : LedElem) : Hub :=
  match e.kind with
  | .record | .streamcap =>
    if e.bytes.isEmpty then h
    else
      let h := Hub.placeBytes t e (e.bytes.length + 2) e.bytes e.starts h
      if h.sealsAtOnce then h.seal t e.stream else h
  | .event => if h.sealsAtOnce then (h.placeOne t e).seal t e.stream else h.placeOne t e
  | _ => h.placeOne t e

/-- Hands an element to the Ledger (the FIFO crossing of R26). -/
def Hub.toLedger (h : Hub) (e : LedElem) : Hub := { h with led.inQ := h.led.inQ ++ [e] }

/-- An event record of type `ty` (R299): one element of the EVENT stream, or counted as dropped. -/
def Hub.eventRecord (h : Hub) (ty time : Nat) (body : List Word) : Hub :=
  let s := h.fld Addr.LED_CFG 0 10
  if !h.bit Addr.LED_CFG 10 || !h.running || h.queueCap (h.streamQueue s) = 0 then h.incSat Addr.LED_EVT_DROP_CNT 0 16 1
  else h.toLedger
    { stream := s, kind := .event, inst := time,
      bytes := wordBytes ((wd ty :: [kxWord time 0, kxWord time 1, kxWord time 2]) ++ (body ++ List.replicate 8 0#32).take 8) }

/-- LEDGER_ELEMENT_ARRIVE (R295): the oldest element reaches the Ledger. -/
def ledgerElementArrive (r : Nat) (h : Hub) : Hub :=
  match h.led.inQ with
  | [] => h
  | e :: es => ({ h with led.inQ := es }).placeElem (h.timeAt r) e

/-- The elements of one stream still on their way are placed (R26: what crossed earlier arrives earlier). -/
def Hub.drainStream (h : Hub) (t s : Nat) : Hub :=
  forIn' (h.led.inQ.filter (·.stream = s)) (fun e h => h.placeElem t e) { h with led.inQ := h.led.inQ.filter (·.stream ≠ s) }

/-- Every element still on its way is placed. -/
def Hub.drainLedger (h : Hub) (t : Nat) : Hub :=
  forIn' h.led.inQ (fun e h => h.placeElem t e) { h with led.inQ := [] }

/-- The SEAL time of a stream's queue in units of 2^-16 ns (R295, R313). -/
def Hub.sealTime (h : Hub) (s : Nat) : Nat := h.afld (Addr.LED_Q_TIME (h.streamQueue s)) 0 16 * 1000 * nsU

/-- PACKET_SEAL_TIMEOUT (R295 event 4). -/
def packetSealTimeout (r s : Nat) (h : Hub) : Hub :=
  match (h.stream s).opn with
  | some p => if p.opened + h.sealTime s ≤ h.timeAt r then h.seal (h.timeAt r) s else h
  | none => h

/-! ### Sending (R303, R304, R296) -/

/-- The bytes of a queue from word `o`, `n` words, wrapping. -/
def Hub.queueBytes (h : Hub) (q o n : Nat) : List Byte :=
  (List.range n).flatMap fun i =>
    let w := (o + i) % (h.queueCap q)
    (List.range 8).map fun b => h.domeByte (h.queueAddr q w + b)

/-- Whether a word of a queue from word `o`, `n` words, fails parity (R303). -/
def Hub.queuePoisoned (h : Hub) (q o n : Nat) : Bool :=
  (List.range n).any fun i => h.poisoned (h.queueAddr q ((o + i) % (h.queueCap q)))

/-- Words of bytes. -/
def bytesWords : List Byte → List Word
  | a :: b :: c :: d :: t => wd (ofBytes [a, b, c, d]) :: bytesWords t
  | _ => []

/-- Sets a flag bit in element `j`'s flag byte of a payload (R293, R303, R310): in the low byte of its F24F8 word, or in
the flag block. -/
def setElemFlag (p : Packet) (payload : List Byte) (bit j : Nat) : List Byte :=
  let base := match p.kind with | .derived => 8 | _ => 0
  let i := if p.fmt = 0 then base + 4 * j else base + 4 * p.count + j
  payload.modify i fun b => b ||| BitVec.ofNat 8 (2 ^ bit)

/-- A DESC packet of stream `s`, described by `st` (R296); `ep` and `per` are those of the next packet sent. -/
def Hub.descPacket (h : Hub) (t s : Nat) (st : Stream) (ep per : Nat) : SentPacket :=
  let p : Packet := { stream := s, kind := .desc, seq := st.prod, last := st.prod, count := 0, time := t, tstate := h.tstate }
  { header := h.headerWords p (h.rd Addr.LED_EPOCH),
    payload := wordBytes [wd ((h.streamKind s).code + 8 * st.fmt + 256 * (st.lsb % 256) + 65536 * st.chan),
      kxWord ep 0, kxWord ep 1, kxWord ep 2, wd per, wd (per / 2 ^ 32), h.rd Addr.SYS_PLAN_ID, h.rd Addr.SYS_PLAN_REV] }

/-- Hands a packet to the Gatehouse, for the lane it leaves by; where both ways are blocked it is discarded and counted (R329). -/
def Hub.sendOut (h : Hub) (p : SentPacket) : Hub :=
  match h.ledgerLane with
  | some (l, n) => { h with led.out := h.led.out ++ [{ p with lane := l, ttl := n }], led.lastSent := some p }
  | none => h.incSat Addr.CNT_UNREACH 0 16 1

/-- The hub sends Ledger packets (`LED_STATUS.DELIVER`, R309): not in BOOT, and ACTIVE or unpaired. -/
def Hub.delivers (h : Hub) : Bool := h.mode != .boot && h.mode != .shadow && h.activeRole

/-- A queue starved by the test block (R463). -/
def Hub.queueStarved (h : Hub) (q : Nat) : Bool :=
  h.bit Addr.TP_STARVE 11 && h.bit Addr.TP_STARVE 0 && h.fld Addr.TP_STARVE 5 6 = q

/-- A queue has a packet to send. -/
def Hub.queueReady (h : Hub) (q : Nat) : Bool :=
  decide ((h.queue q).sentN < (h.queue q).pkts.length) && !h.queueStarved q

/-- `PRIO` of a queue (R304). -/
def Hub.queuePrio (h : Hub) (q : Nat) : Nat := h.afld (Addr.LED_Q_CFG q) 20 2

/-- The next queue to serve: PRIO 3 highest first, round-robin within one priority (R304). -/
def Hub.nextQueue (h : Hub) : Option Nat :=
  [3, 2, 1, 0].findSome? fun pr =>
    ((List.range 64).map fun i => (SMap.get 0 h.led.rr pr + i) % 64).find? fun q => h.queueReady q && h.queuePrio q = pr

/-- The range a GAP POISON stands for (R303): after the preceding packet of the stream in the queue, up to the
following one. -/
def Hub.poisonRange (h : Hub) (q i : Nat) (p : Packet) : Nat × Nat :=
  let ps := (h.queue q).pkts
  let before := (ps.take i).filter fun x => x.stream = p.stream
  let after := (ps.drop (i + 1)).find? fun x => x.stream = p.stream
  let first := match before.getLast? with
    | some x => x.last + 1
    | none => p.firstSeq
  let last := match after with
    | some x => x.seq - 1
    | none => match (h.stream p.stream).opn with
      | some o => o.seq - 1
      | none => (h.stream p.stream).prod - 1
  (first, last)

/-- The packet at S of queue `q` as sent at time `t`: read back from the journal, checked for parity, EPOCH, REPLAY and TWIN written
(R292, R303, R310). -/
def Hub.readPacket (h : Hub) (t q i : Nat) (p : Packet) : SentPacket × Hub :=
  let o := p.off % 2 ^ 22
  let epoch := h.rd Addr.LED_EPOCH
  if h.queuePoisoned q o 4 then
    let (a, b) := h.poisonRange q i p
    let (t0, t1) := p.lossTimes t a b
    let g : Packet := { stream := p.stream, kind := .gap, seq := a, last := b, count := 0, time := t0,
                        timeLast := t1, reason := 5, tstate := p.tstate, pflags := if p.sent then 2 else 0 }
    ({ header := h.headerWords g epoch, payload := g.payload }, h.incSat Addr.LED_POISON_CNT 0 16 1)
  else
    let hdr := bytesWords (h.queueBytes q o 4)
    let pay := h.queueBytes q (o + 4) (p.words - 4)
    let bad := h.queuePoisoned q (o + 4) (p.words - 4)
    let elems := p.kind = .plain || p.kind = .derived
    let pay := if bad && elems then forN p.count (fun j l => setElemFlag p l 6 j) pay else pay
    let old (j : Nat) : Bool := match h.led.takeover with
      | some tp => decide (p.time + j * p.period < tp)
      | none => false
    let tw := elems && (List.range p.count).any old
    let pay := if tw then forN p.count (fun j l => if old j then setElemFlag p l 4 j else l) pay else pay
    let fl : Nat := (if bad then 1 else 0) + (if p.sent then 2 else 0) + (if tw then 4 else 0)
    let hdr := (hdr.modify 2 fun w => w ||| wd (65536 * fl)).set 7 epoch
    ({ header := hdr, payload := pay }, if bad then h.incSat Addr.LED_POISON_CNT 0 16 1 else h)

/-- Whether a DESC goes before packet `p` of its stream (R296): due, or another epoch or period than last sent. -/
def Hub.descFirst (h : Hub) (p : Packet) : Bool :=
  let st := h.stream p.stream
  st.descDue || st.descEpoch != some (p.epochS, p.period)

/-- PACKET_SEND (R304): a queue's packet at S is sent, with a DESC first where R296 requires one. -/
def packetSend (r : Nat) (h : Hub) : Hub :=
  if !h.delivers || h.ledgerWaits then h else
  match h.nextQueue with
  | none => h
  | some q =>
    let i := (h.queue q).sentN
    match (h.queue q).pkts[i]? with
    | none => h
    | some p =>
      let t := h.timeAt r
      let h := if h.descFirst p then
          (h.sendOut (h.descPacket t p.stream (h.stream p.stream) p.epochS p.period)).modStream p.stream fun s =>
            { s with descDue := false, descEpoch := some (p.epochS, p.period) }
        else h
      let (sp, h) := h.readPacket t q i p
      let h := h.sendOut sp
      let h := h.setQueue q { pkts := (h.queue q).pkts.set i { p with sent := true, sentAt := some t }, sentN := i + 1 }
      { h with led.rr := SMap.put h.led.rr (h.queuePrio q) ((q + 1) % 64) }

/-- The next packet of a stream that is sent: the first unsent one in a queue, else the open one. -/
def Hub.nextPacket (h : Hub) (s : Nat) : Option Packet :=
  match (h.queues.flatMap fun q => q.2.pkts.drop q.2.sentN).find? (·.stream = s) with
  | some p => some p
  | none => (h.stream s).opn

/-- A stream with no packet waiting as a DESC describes it (R296). Of a derived stream that has had no element the spec states
neither format, LSB exponent, epoch nor period: they are free (log entry 56). -/
def Hub.described (h : Hub) (s : Nat) : Stream × Hub :=
  let st := h.stream s
  if h.streamKind s = .derived && st.period = 0 then
    let (f, h) := h.drawWord
    let (a, h) := h.drawWord
    let (b, h) := h.drawWord
    let (c, h) := h.drawWord
    let (p, h) := h.drawWord
    let (q, h) := h.drawWord
    ({ st with fmt := bitsOf f 0 2, lsb := bitsOf f 8 8, epochS := instOf a b c, period := p.toNat + 2 ^ 32 * q.toNat }, h)
  else (st, h)

/-- A DESC of stream `s` with nothing before it (R296): its epoch and period are those of the stream's next packet. -/
def Hub.descSend (h : Hub) (t s : Nat) : Hub :=
  match h.nextPacket s with
  | some p => h.sendOut (h.descPacket t s (h.stream s) p.epochS p.period)
  | none =>
    let (st, h) := h.described s
    h.sendOut (h.descPacket t s st st.epochS st.period)

/-- DESC_PERIODIC (R296): a DESC on every delivering stream. -/
def descPeriodic (r : Nat) (h : Hub) : Hub :=
  if !h.delivers || h.ledgerWaits then h
  else forN 1024 (fun s h => if h.streamLive s then h.descSend (h.timeAt r) s else h) h

/-! ### Acknowledgement (R305 to R307) -/

/-- Releases on every queue. -/
def Hub.releaseAll (h : Hub) : Hub := forIn' (h.queues.map Prod.fst) (fun q h => h.releaseQueue q) h

/-- Acknowledges every sequence of a stream below `next`; NEXT never falls and never passes the next sequence to be
produced (R305). -/
def Hub.acknowledge (h : Hub) (s next : Nat) : Hub :=
  let st := h.stream s
  let n := min next st.prod
  if st.ack < n then (h.setStream s { st with ack := n }).releaseAll else h

/-- Rewinds a queue: S := M, and a DESC before each stream's first packet to be sent again (R296, R301). -/
def Hub.rewind (h : Hub) (q : Nat) : Hub :=
  let ss := ((h.queue q).pkts.filter (·.sent)).map (·.stream)
  forIn' ss (fun s h => h.modStream s fun t => { t with descDue := true }) (h.setQueue q { h.queue q with sentN := 0 })

/-- The packet of stream `s` holds NEXT: it lies in its range. Of a derived stream the first packet that ends at or after NEXT holds
it, for NEXT may lie in what that packet declares not produced (R294, R306). -/
def Packet.holds (derived : Bool) (s next : Nat) (p : Packet) : Bool :=
  p.stream = s && decide (next ≤ p.last) && (derived || decide (p.firstSeq ≤ next))

/-- The packet that ends first, of those given by queue and index. -/
def firstEnding : List (Nat × Nat × Packet) → Option (Nat × Nat × Packet)
  | [] => none
  | x :: xs => match firstEnding xs with
    | some y => if y.2.2.last < x.2.2.last then some y else some x
    | none => some x

/-- The queue and index of the packet holding NEXT of a stream (R306). -/
def Hub.holding (h : Hub) (s next : Nat) : Option (Nat × Nat) :=
  let held := h.queues.flatMap fun q => ((List.range q.2.pkts.length).zip q.2.pkts).map fun x => (q.1, x)
  (firstEnding (held.filter fun x => x.2.2.holds (h.streamKind s = .derived) s next)).map fun x => (x.1, x.2.1)

/-- Applies one ACK or NACK entry that passed the checks (R305, R306). -/
def Hub.applyEntry (h : Hub) (nack : Bool) (s next : Nat) : Hub :=
  let h := h.acknowledge s next
  if !nack then h else
  match h.holding s next with
  | some (q, i) =>
    if i < (h.queue q).sentN then (h.rewind q).incWrap (Addr.LED_Q_REWIND_CNT q) 16 16 1 else h
  | none => h

/-- An acknowledgement message (R305). -/
structure AckMsg where
  ver : Nat := 2
  pairId : Nat
  epoch : Nat
  entries : List (Nat × Nat)
  deriving DecidableEq, Repr

/-- Whether the hub applies an entry (R305). -/
def Hub.ackTaken (h : Hub) (m : AckMsg) (s : Nat) : Bool :=
  h.activeRole && m.ver = 2 && m.pairId = h.fld Addr.SEL_CFG 0 16 && h.planLoaded && h.streamLive s &&
    decide (m.epoch ≤ (h.rd Addr.LED_EPOCH).toNat)

/-- Whether TP_ACKHOLD delays entries of a stream's queue (R463). -/
def Hub.ackHeld (h : Hub) (s : Nat) : Bool :=
  h.bit Addr.TP_ACKHOLD 17 && (h.bit Addr.TP_ACKHOLD 16 || h.fld Addr.TP_ACKHOLD 10 6 = h.streamQueue s)

/-- One entry of an arriving message: ignored and counted, held, or applied (R305, R463). -/
def Hub.ackEntry (r : Nat) (nack : Bool) (m : AckMsg) (e : Nat × Nat) (h : Hub) : Hub :=
  if !h.ackTaken m e.1 then h.incSat Addr.LED_ACK_IGN_CNT 0 16 1
  else if h.ackHeld e.1 then
    { h with led.held := h.led.held ++ [(h.streamQueue e.1, e.1, e.2, nack, h.timeAt r)] }
  else h.applyEntry nack e.1 e.2

/-- ACK (R305) and NACK (R306). -/
def ackMessage (r : Nat) (nack : Bool) (m : AckMsg) (h : Hub) : Hub := forIn' m.entries (Hub.ackEntry r nack m) h

/-- ACKHOLD_RELEASE (R463): the oldest held entry is applied, HOLD ms after its arrival. -/
def ackholdRelease (r : Nat) (h : Hub) : Hub :=
  match h.led.held with
  | (_, s, next, nack, at_) :: es =>
    if at_ + h.fld Addr.TP_ACKHOLD 0 10 * 1000000 * nsU ≤ h.timeAt r then
      ({ h with led.held := es }).applyEntry nack s next
    else h
  | [] => h

/-- Applies every held entry at once (R461). -/
def Hub.applyHeld (h : Hub) : Hub :=
  forIn' h.led.held (fun e h => h.applyEntry e.2.2.2.1 e.2.1 e.2.2.1) { h with led.held := [] }

/-- ACK_TIMEOUT (R307): the packet at M unacknowledged for ACK_TIMEOUT ms after it was last sent. -/
def ackTimeout (r q : Nat) (h : Hub) : Hub :=
  match (h.queue q).pkts[0]? with
  | some p =>
    match p.sentAt with
    | some at_ =>
      if 0 < (h.queue q).sentN && decide (at_ + h.afld (Addr.LED_Q_TIME q) 16 10 * 1000000 * nsU < h.timeAt r) then
        (h.rewind q).incWrap (Addr.LED_Q_REWIND_CNT q) 0 16 1
      else h
    | none => h
  | none => h

/-! ### Layout (R289, R300) -/

/-- Queues are emptied: their unreleased packets, and the open ones of the streams `opn`, are discarded, counted and logged,
one entry for each stream affected (R289, R300). -/
def Hub.discardQueues (r : Nat) (qs opn : List Nat) (h : Hub) : Hub :=
  let ss := (qs.flatMap fun q => (h.queue q).pkts.map (·.stream)) ++ opn
  let h := forIn' qs (fun q h => (h.setQueue q {}).wr (Addr.LED_Q_WR q) 0#32) h
  let h := h.incSat Addr.LED_DISCARD_CNT 0 32 ss.length
  forIn' ss.eraseDups (fun s h => h.report r 19 0 15 (wd s)) h

/-- QUEUE_LAYOUT_RESET (R300): JOURNAL's size changed; queue 0 takes all of it. -/
def Hub.queueLayoutReset (r : Nat) (h : Hub) : Hub :=
  let h := h.discardQueues r (h.queues.map Prod.fst) []
  let size := h.fld Addr.SYS_DOME_JOURNAL_SIZE 0 10
  let cfg (q : Nat) : Word := if q = 0 then wd (size * 1024) else 0#32
  let h := forN 64 (fun q h => (h.wr (Addr.LED_Q_CFG q) (cfg q)).setActive (Addr.LED_Q_CFG q) (cfg q)) h
  forN 1024 (fun s h =>
    (h.setFld (Addr.LED_STREAM s) 0 6 0).setActive (Addr.LED_STREAM s) (putBits (h.active (Addr.LED_STREAM s)) 0 6 0)) h

/-- First queue that runs past JOURNAL or overlaps an earlier one (R300). -/
def Hub.layoutFault (h : Hub) : Option Nat :=
  let base (q : Nat) := h.fld (Addr.LED_Q_CFG q) 0 10
  let size (q : Nat) := h.fld (Addr.LED_Q_CFG q) 10 10
  (List.range 64).find? fun q =>
    size q != 0 && (decide (h.fld Addr.SYS_DOME_JOURNAL_SIZE 0 10 < base q + size q) ||
      (List.range q).any fun p => size p != 0 && decide (base q < base p + size p) && decide (base p < base q + size q))

/-- First enabled stream bound to a disabled queue; the EVENT stream counts while EVT_EN = 1 (R300). -/
def Hub.bindingFault (h : Hub) : Option Nat :=
  (List.range 1024).find? fun s =>
    (h.bit (Addr.LED_STREAM s) 6 || (h.bit Addr.LED_CFG 10 && h.fld Addr.LED_CFG 0 10 = s)) &&
      h.fld (Addr.LED_Q_CFG (h.fld (Addr.LED_STREAM s) 0 6)) 10 10 = 0

/-- First queue whose timing fields are out of range: a reserved encoding (R300, R313). -/
def Hub.timingFault (h : Hub) : Option Nat :=
  (List.range 64).find? fun q =>
    h.fld (Addr.LED_Q_TIME q) 0 16 = 0 || decide (h.fld (Addr.LED_Q_TIME q) 16 10 < 2) || decide (1000 < h.fld (Addr.LED_Q_TIME q) 16 10)

/-- The commit of the queue and stream layout (R300): checked, then applied at once. -/
def Hub.ledCommit (r : Nat) (h : Hub) : Hub :=
  let status (st q s : Nat) : Word := wd (st + 256 * q + 16384 * s)
  match h.timingFault with
  | some q => h.wr Addr.LED_COMMIT_STATUS (status ERANGE q 0)
  | none =>
  match h.layoutFault with
  | some q => h.wr Addr.LED_COMMIT_STATUS (status ESIZE q 0)
  | none =>
  match h.bindingFault with
  | some s => h.wr Addr.LED_COMMIT_STATUS (status ESTATE (h.fld (Addr.LED_STREAM s) 0 6) s)
  | none =>
    let changed (h : Hub) (q : Nat) : Bool := h.fld (Addr.LED_Q_CFG q) 0 20 != h.afld (Addr.LED_Q_CFG q) 0 20
    let h := h.discardQueues r ((List.range 64).filter (changed h)) []
    let h := forN 64 (fun q h =>
      (h.setActive (Addr.LED_Q_CFG q) (h.rd (Addr.LED_Q_CFG q))).setActive (Addr.LED_Q_TIME q) (h.rd (Addr.LED_Q_TIME q))) h
    let h := forN 1024 (fun s h => h.setActive (Addr.LED_STREAM s) (h.rd (Addr.LED_STREAM s))) h
    h.wr Addr.LED_COMMIT_STATUS (status OK 0 0)

/-! ### Run start and takeover (R290, R310, R417) -/

/-- A stream at a start: sequences from 0, FIRST and DESC due, and nothing that describes it of an earlier run (R290, R292, R296,
R417). -/
def Stream.start (s : Stream) : Stream :=
  { s with opn := none, prod := 0, ack := 0, first := true, nextFrom := 0, lastK := none, epochS := 0, period := 0, lsb := 0,
           chan := 0x3FF, fmt := 0, descDue := true, descEpoch := none, mirNext := 0, mirProd := 0 }

/-- Every stream starts (R417). -/
def Hub.startStreams (h : Hub) : Hub :=
  { h with streams := h.streams.map (fun p => (p.1, p.2.start)), led.takeover := none, led.tm := none }

/-- The time of an event record (R299). -/
def eventTime (l : List Byte) : Nat :=
  let ws := bytesWords (l.take 16)
  instOf (ws.getD 1 0#32) (ws.getD 2 0#32) (ws.getD 3 0#32)

/-- Keeps of an EVENT packet the records whose time is after `tm` (R310). -/
def eventsAfter (tm : Nat) : Nat → List Byte → List Byte
  | 0, _ => []
  | fuel + 1, l =>
    match l with
    | [] => []
    | _ => (if tm < eventTime l then l.take 48 else []) ++ eventsAfter tm fuel (l.drop 48)

/-- The captures of a packet with their bytes. -/
def cutCaps (body : List Byte) : List CapSeg → List (CapSeg × List Byte)
  | [] => []
  | [s] => [(s, body.drop s.ofs)]
  | s :: t :: l => (s, (body.drop s.ofs).take (t.ofs - s.ofs)) :: cutCaps body (t :: l)

/-- Captures laid one behind the other from byte `n` on. -/
def joinCaps : Nat → List (CapSeg × List Byte) → List CapSeg
  | _, [] => []
  | n, (s, b) :: l => { s with ofs := n } :: joinCaps (n + b.length) l

/-- Of a packet of records or captures what was triggered after `tm` (R310). -/
def Packet.capsAfter (tm : Nat) (p : Packet) : Option Packet :=
  match (cutCaps p.body p.caps).filter fun x => decide (tm < x.1.time) with
  | [] => none
  | x :: xs =>
    let b := (x :: xs).flatMap Prod.snd
    let caps := joinCaps 0 (x :: xs)
    some { p with body := b, caps := caps, count := b.length, time := x.1.time, instFirst := x.1.time,
                  pflags := (p.pflags &&& 0xFFE7) ||| recFlags caps }

/-- Of a packet of events what happened after `tm` (R310). -/
def Packet.eventsFrom (tm : Nat) (p : Packet) : Option Packet :=
  let b := eventsAfter tm (p.count + 1) p.body
  if b.isEmpty then none else some { p with body := b, count := b.length / 48, time := eventTime b, instFirst := eventTime b }

/-- A packet of a content stream renumbered from `n` on (R310): what is kept of it, if anything. A GAP of the hub's own keeps
its length, if its loss came after t_m. -/
def Packet.renumber (tm n : Nat) (p : Packet) : Option Packet :=
  let len := p.last - p.seq
  let p := { p with seq := n, pflags := p.pflags &&& 0xFFDF, sent := false, sentAt := none }
  match p.kind with
  | .event => (p.eventsFrom tm).map fun p => { p with last := n + p.count - 1 }
  | .gap => if tm < p.timeLast then some { p with last := n + len } else none
  | _ => (p.capsAfter tm).map fun p => { p with last := n + p.count - 1 }

/-- Renumbers the packets of stream `s` in a list from `n` on; the next free number. -/
def renumberAll (s tm : Nat) : Nat → List Packet → List Packet × Nat
  | n, [] => ([], n)
  | n, p :: ps =>
    if p.stream = s then
      match p.renumber tm n with
      | some p' => let (l, k) := renumberAll s tm (p'.last + 1) ps; (p' :: l, k)
      | none => renumberAll s tm n ps
    else let (l, k) := renumberAll s tm n ps; (p :: l, k)

/-- Queue `q` written again from M on with the packets given, all to be sent (R310). -/
def Hub.rewriteQueue (h : Hub) (t q : Nat) (l : List Packet) : Hub :=
  let m := h.mPtr q
  let h := (h.setQueue q {}).wr (Addr.LED_Q_WR q) (wd m)
  forIn' l (fun p h => h.journalWrite t q p) h

/-- Sequences of a PLAIN or DERIVED stream the journal holds: in a packet, or in a GAP that is neither EVICTED nor REPLAY_LOST
(R310). -/
def Packet.heldFrom (s : Nat) (p : Packet) : Bool := p.stream = s && !(p.kind = .gap && (p.reason = 1 || p.reason = 6))

/-- LEDGER_TAKEOVER (R310) on one stream at t_p = `t`. The GAP TAKEOVER goes before the stream's own content, whose packets are
numbered anew; it is FIRST where nothing of the run is known to have been delivered. -/
def Hub.takeoverStream (t : Nat) (s : Nat) (h : Hub) : Hub :=
  let st := h.stream s
  let q := h.streamQueue s
  match h.streamKind s with
  | .plain | .derived =>
    let held := (h.queues.flatMap fun x => x.2.pkts).filter fun p => p.heldFrom s && decide (st.mirNext ≤ p.last)
    let first := (held.map Packet.firstSeq).foldl min (match st.opn with | some p => p.firstSeq | none => st.prod)
    let h := h.setStream s { st with ack := max st.ack st.mirNext, descDue := true }
    let h := h.releaseAll
    if st.mirNext < first then
      h.gapWrite t s st.mirNext (first - 1) (st.epochS + st.mirNext * st.period) (st.epochS + (first - 1) * st.period) 6
    else h
  | _ =>
    let n := st.mirProd + 2 ^ 32
    let tm := h.led.tm.getD 0
    let ps := (h.queue q).pkts
    let before := ps.takeWhile (·.stream ≠ s)
    let (l, k) := renumberAll s tm n (ps.drop before.length)
    let (opn, k) := match st.opn with
      | some p => match p.renumber tm k with
        | some p' => (some p', p'.last + 1)
        | none => (none, k)
      | none => (none, k)
    let g := { h.gapOf s st.mirNext (n - 1) t t 4 with pflags := if st.mirNext = 0 then 2 ^ 5 else 0 }
    let h := h.setStream s { st with opn := opn, prod := k, ack := st.mirNext, nextFrom := n, first := false, descDue := true }
    (h.rewriteQueue t q (before ++ g :: l)).incWrap Addr.LED_GAP_CNT 0 32 1

/-- LEDGER_TAKEOVER (R310): the new claim epoch, S := M on every queue, then every stream of the plan. -/
def Hub.ledgerTakeover (h : Hub) (tp epoch : Nat) : Hub :=
  let h := h.wr Addr.LED_EPOCH (wd epoch)
  let h := { h with queues := h.queues.map (fun p => (p.1, { p.2 with sentN := 0 })), led.takeover := some tp }
  forN 1024 (fun s h => if h.streamLive s then Hub.takeoverStream tp s h else h) h

end Sys2Proof.Machine
end

