-- ==== Sys2Proof/Machine/Marks.lean ====
section
/-!
DEFINITION. What holds of a spire and a channel in the frame in which a sample is held: the settings, marks and trims that
decide what the sample is (R60, R65 to R68, R72, R73, R77, R78, R86, R122, R162, R163, R467). A code arrives some frames after
its sample was held, so each change is recorded with the instant from which it holds (log entry 53).
-/

namespace Sys2Proof.Machine

/-! ### Frames -/

/-- The first frame whose instant is not before `t` (R179). -/
def frameCeil (t : Nat) : Nat := (t + frameU - 1) / frameU

/-- The first frame whose instant lies after `t` (R179). -/
def frameAfter (t : Nat) : Nat := frameOf t + 1

/-- The first of the instants e + j × p, for a whole number j, that is not before the instant of frame `f`. -/
def dueAt (e p f : Nat) : Nat := f * frameU + (((e : Int) - ((f * frameU : Nat) : Int)) % (p : Int)).toNat

/-- One of the instants e + j × p, for a whole number j, lies in frame `f`. -/
def dueInFrame (e p f : Nat) : Bool :=
  decide (e < (f + 1) * frameU) && decide (0 < p) && decide (dueAt e p f < (f + 1) * frameU)

/-- The epoch instant E of a filter island (R121). -/
def Hub.epoch (h : Hub) (n : Nat) : Nat := h.instAt (Addr.FI_EPOCH0 n)

/-! ### Channel settings in force -/

/-- `FE_CFG.MODE` in force (R45, R467). -/
def Hub.feMode (h : Hub) (n c : Nat) : Nat := h.afld (Addr.FE_CFG n c) 0 3

/-- Mode codes of R45. -/
def mOFF : Nat := 0
def mVDIFF : Nat := 1
def mBRIDGE : Nat := 2
def mCHARGE : Nat := 3
def mRTD : Nat := 4
def mTC : Nat := 5

/-! ### Trims (R135, R156, R161, R167) -/

/-- The configuration differs from the one the trim was measured at (R155, R156). -/
def Hub.keyDiffers (h : Hub) (n c : Nat) : Bool :=
  let key := h.rd (Addr.TRIM_KEY n c)
  let cfg := h.active (Addr.FE_CFG n c)
  !key.getLsbD 31 || bitsOf key 0 9 ≠ bitsOf cfg 0 9 || bitsOf key 13 4 ≠ bitsOf cfg 13 4

/-- The entry of the front-end table for a configuration (R167). -/
def tableEntry (cfg : Word) : Nat := if bitsOf cfg 0 3 = mCHARGE then 8 + bitsOf cfg 6 3 else bitsOf cfg 3 3

/-- O_t and G_t that a front-end table entry stands for (R167). -/
def tableTrim (w : Word) : Word × Word :=
  (wdInt (signed 16 (bitsOf w 0 16) * 2 ^ 12), wdInt (0x40000000 + signed 16 (bitsOf w 16 16) * 2 ^ 10))

/-- O_t and G_t in force (R135, R156). -/
def Hub.trimInForce (h : Hub) (n c : Nat) : Word × Word :=
  if h.keyDiffers n c then
    tableTrim (h.rd (Addr.FE_TABLE n c (tableEntry (h.active (Addr.FE_CFG n c)))))
  else (h.rd (Addr.TRIM_OFS n c), h.rd (Addr.TRIM_GAIN n c))

/-! ### The state of the detectors and the driver -/

/-- The direction of an over-range: the P ball governs where both trip (R51, R72). -/
def direction (p q : BallLevel) : Option Int :=
  match p, q with
  | .above, _ => some 32767
  | .below, _ => some (-32768)
  | .inside, .above => some 32767
  | .inside, .below => some (-32768)
  | .inside, .inside => none

/-- The saturated code that a channel's detectors put in place of its codes (R51, R57, R72): the clamps before the common-mode
detector, that before the charge amplifier's rail detector. -/
def Chan.overRange (x : Chan) (charge : Bool) : Option Int :=
  (direction x.clP x.clN).or ((direction x.cmP x.cmN).or (if charge then direction x.rail .inside else none))

/-- Twice the set level in volts (R62). -/
def Hub.level2 (h : Hub) (n : Nat) : Int :=
  match h.fld (Addr.EXC_CFG n) 0 2 with
  | 0 => 5 | 1 => 10 | _ => 20

/-- What holds of channel `c` of spire `n` now. -/
def Hub.chanMarks (h : Hub) (n c : Nat) : ChanMarks :=
  let x := h.chan (chNo n c)
  let t := h.trimInForce n c
  { cfg := h.active (Addr.FE_CFG n c), cfgEpoch := x.cfgEpoch, rst := x.chg != .track, brk := !x.brks.isEmpty,
    overRange := x.overRange (h.feMode n c = mCHARGE), rtdOver := x.rtdOver, hold := x.xswHold, ofs := t.1, gain := t.2,
    irtd := h.rd (Addr.TRIM_IRTD n c) }

/-- What holds of spire `n` now. -/
def Hub.spireMarks (h : Hub) (n : Nat) : SpireMarks :=
  let s := h.spire n
  { exc := s.exc, epoch := s.excEpoch, reversed := h.bit (Addr.EXC_STATUS n) 1, blankFrom := s.blankFrom, blankEnd := s.blankEnd,
    quietEnd := s.quietEnd, clamped := (h.rd (Addr.FE_CLAMP_NOW n)).toNat ||| s.clampTail,
    off := s.inReset || h.bit (Addr.SPIRE_STATUS n) 2, level2 := h.level2 n, snsOfs := h.rd (Addr.SNS_TRIM_OFS n),
    snsGain := h.rd (Addr.SNS_TRIM_GAIN n) }

/-! ### Recording and looking up -/

/-- The fields in which `new` differs from `old` go over to `e`, the others stay. -/
def ChanMarks.patch (old new e : ChanMarks) : ChanMarks :=
  { cfg := if old.cfg = new.cfg then e.cfg else new.cfg
    cfgEpoch := if old.cfgEpoch = new.cfgEpoch then e.cfgEpoch else new.cfgEpoch
    rst := if old.rst = new.rst then e.rst else new.rst
    brk := if old.brk = new.brk then e.brk else new.brk
    overRange := if old.overRange = new.overRange then e.overRange else new.overRange
    rtdOver := if old.rtdOver = new.rtdOver then e.rtdOver else new.rtdOver
    hold := if old.hold = new.hold then e.hold else new.hold
    ofs := if old.ofs = new.ofs then e.ofs else new.ofs
    gain := if old.gain = new.gain then e.gain else new.gain
    irtd := if old.irtd = new.irtd then e.irtd else new.irtd }

/-- The same for a spire. -/
def SpireMarks.patch (old new e : SpireMarks) : SpireMarks :=
  { exc := if old.exc = new.exc then e.exc else new.exc
    epoch := if old.epoch = new.epoch then e.epoch else new.epoch
    reversed := if old.reversed = new.reversed then e.reversed else new.reversed
    blankFrom := if old.blankFrom = new.blankFrom then e.blankFrom else new.blankFrom
    blankEnd := if old.blankEnd = new.blankEnd then e.blankEnd else new.blankEnd
    quietEnd := if old.quietEnd = new.quietEnd then e.quietEnd else new.quietEnd
    clamped := if old.clamped = new.clamped then e.clamped else new.clamped
    off := if old.off = new.off then e.off else new.off
    level2 := if old.level2 = new.level2 then e.level2 else new.level2
    snsOfs := if old.snsOfs = new.snsOfs then e.snsOfs else new.snsOfs
    snsGain := if old.snsGain = new.snsGain then e.snsGain else new.snsGain }

/-- A log, newest first, of values by the instant from which they hold, with a change from `old` to `new` at instant `t`.
`patch` makes the change in a value recorded for a later instant, so that rows which come out of the order of their instants
leave each change in its place. -/
def markChange {α : Type} [DecidableEq α] (patch : α → α → α → α) (l : List (Nat × α)) (old new : α) (t : Nat) :
    List (Nat × α) :=
  if old = new then l else
    let l := if l.isEmpty then [(0, old)] else l
    let (later, before) := l.partition fun p => decide (t < p.1)
    later.map (fun p => (p.1, patch old new p.2)) ++
      match before with
      | [] => [(t, new)]
      | p :: _ => (t, patch old new p.2) :: before

/-- The value that held at instant `t`; `now` where nothing has changed. -/
def markAt {α : Type} (l : List (Nat × α)) (now : α) (t : Nat) : α := ((l.find? fun p => decide (p.1 ≤ t)).map (·.2)).getD now

/-- Records that what `h0` held of a channel has changed, from instant `t` on. -/
def Hub.noteChan (h h0 : Hub) (n c t : Nat) : Hub :=
  let l := markChange ChanMarks.patch (h.chan (chNo n c)).marks (h0.chanMarks n c) (h.chanMarks n c) t
  if l = (h.chan (chNo n c)).marks then h else h.modChan (chNo n c) fun x => { x with marks := l }

/-- The same of a spire. -/
def Hub.noteSpire (h h0 : Hub) (n t : Nat) : Hub :=
  let l := markChange SpireMarks.patch (h.spire n).marks (h0.spireMarks n) (h.spireMarks n) t
  if l = (h.spire n).marks then h else h.modSpire n fun s => { s with marks := l }

/-- The same of the hub's part in its pair: STANDBY or acting (R122). -/
def Hub.noteTwin (h h0 : Hub) (t : Nat) : Hub :=
  let l := markChange (fun _ new _ => new) h.sel.standbyLog h0.standby h.standby t
  if l = h.sel.standbyLog then h else { h with sel.standbyLog := l }

/-- What held of a channel at instant `t`. -/
def Hub.chanAt (h : Hub) (n c t : Nat) : ChanMarks := markAt (h.chan (chNo n c)).marks (h.chanMarks n c) t

/-- What held of a spire at instant `t`. -/
def Hub.spireAt (h : Hub) (n t : Nat) : SpireMarks := markAt (h.spire n).marks (h.spireMarks n) t

/-- Whether the hub stood by at instant `t`. -/
def Hub.standbyAt (h : Hub) (t : Nat) : Bool := markAt h.sel.standbyLog h.standby t

/-! ### What follows for a sample held at an instant -/

/-- The fine delay d_c in force, in units of 2^-16 ns: `FDELAY` × 312.5 ps (R95). -/
def Hub.fineDelay (h : Hub) (n c : Nat) : Nat := bitsOf (h.active (Addr.APT_CFG n c)) 0 8 * 20480

/-- The instant at which a channel's sample of frame `f` is held; that of capacitor B of a wide channel 40 ns later (R95, R96). -/
def Hub.heldAt (h : Hub) (n c f : Nat) (capB : Bool) : Nat :=
  f * frameU + h.fineDelay n c + (if capB then 40 * nsU else 0)

/-- The mode of a channel at instant `t` (R467). -/
def Hub.modeAt (h : Hub) (n c t : Nat) : Nat := bitsOf (h.chanAt n c t).cfg 0 3

/-- The samples of a channel held at instant `t` are missing whatever its slices convert: a trim or a reset of the spire, a
channel that is OFF, the CHARGE channels of a hub that stands by or holds them back (R122, R351, R361). -/
def Hub.missingAt (h : Hub) (n c t : Nat) : Bool :=
  (h.spireAt n t).off || h.modeAt n c t = mOFF ||
    (h.modeAt n c t = mCHARGE && (h.standbyAt t || (h.chanAt n c t).hold))

/-- Clamps mark the samples of channel `c` held at instant `t` SUSPECT (R73); `c` = 32 for the sense readings. -/
def Hub.clampSuspect (h : Hub) (n c t : Nat) : Bool :=
  let m := (h.spireAt n t).clamped % 2 ^ 32
  decide (m ≠ 0) && (List.range 32).any fun d => d != c && m.testBit d

/-- The polarity at instant `t` (R68). -/
def Hub.polarity (h : Hub) (n t : Nat) : Int := if (h.spireAt n t).reversed then -1 else 1

end Sys2Proof.Machine
end

