-- ==== Sys2Proof/Machine/FrontEnd.lean ====
section
/-!
DEFINITION. Front ends and excitation (chapter 2): detectors, clamps, charge resets, the excitation driver, reversal,
wire-break detection, and the injection queue and its results (R108 to R113).
-/

namespace Sys2Proof.Machine

/-! ### Channel settings in force -/

/-- The channel is wide in the active schedule (R96, R103). -/
def Hub.wide (h : Hub) (n c : Nat) : Bool := (h.active (Addr.APT_CFG n c)).getLsbD 8

/-- `CDELAY` in force (R121). -/
def Hub.cdelay (h : Hub) (n c : Nat) : Nat := h.afld (Addr.FCH_DELAY n c) 0 16

/-- The frame number of a filter island's epoch E (R121). -/
def Hub.epochFrame (h : Hub) (n : Nat) : Int := (frameOf (h.instAt (Addr.FI_EPOCH0 n)) : Nat)

/-- The first raw index of frame `f` of a channel (R121). -/
def Hub.idxOf (h : Hub) (n c f : Nat) : Int :=
  let j : Int := (f : Int) - h.epochFrame n
  (if h.wide n c then 2 * j else j) - (h.cdelay n c : Int)

/-- The first raw index of a channel whose sample is held after instant `t` (R95, R96, R121). -/
def Hub.idxAfter (h : Hub) (n c t : Nat) : Int :=
  let d := h.fineDelay n c
  if h.wide n c then
    ((if d ≤ t then (t - d) / (40 * nsU) + 1 else 0 : Nat) : Int) - 2 * h.epochFrame n - (h.cdelay n c : Int)
  else ((if d ≤ t then (t - d) / frameU + 1 else 0 : Nat) : Int) - h.epochFrame n - (h.cdelay n c : Int)

/-- Number of stages S of the active filter (R123, R125). -/
def Hub.stages (h : Hub) (n c : Nat) : Nat :=
  let p := h.afld (Addr.FCH_CFG n c) 0 4
  if p = 0 then h.afld (Addr.FCH_CFG n c) 4 2 else if p ≤ 6 then 3 else 1

/-- Clears a channel's paths at frame `f` (R132): indices before it are missing. -/
def Hub.clearPaths (h : Hub) (n c f : Nat) : Hub :=
  h.modChan (chNo n c) fun x => { x with raw := [], cIdx := some (h.idxOf n c f), cFrame := f }

/-- A reserved encoding in a value for FE_CFG (R46). -/
def feCfgReserved (v : Word) : Bool := decide (6 ≤ bitsOf v 0 3) || bitsOf v 9 2 = 3 || bitsOf v 11 2 = 3

/-- A write to FE_CFG or FE_AUX after the access checks (R46, R467). -/
def feCfgStore (r m : Nat) (a : Nat) (aux : Bool) (v : Word) (h : Hub) : Hub :=
  if !aux && feCfgReserved v then h.refuse r m a ERANGE
  else h.wr a (if aux then v else v &&& 0x7FFFF#32)

/-! ### Detectors and clamps (R51, R52, R57, R72, R73) -/

/-- COMMON_MODE_TRIP (R51): where the two balls of a channel stand against ±5.2 V. -/
def commonModeTrip (r n c : Nat) (p q : BallLevel) (h : Hub) : Hub :=
  (h.modChan (chNo n c) fun x => { x with cmP := p, cmN := q }).noteChan h n c (h.timeAt r)

/-- RTD_COMPLIANCE_EXCEEDED (R52): the P ball above +4.5 V, or back below. -/
def rtdCompliance (r n c : Nat) (exceeds : Bool) (h : Hub) : Hub :=
  (h.modChan (chNo n c) fun x => { x with rtdOver := exceeds }).noteChan h n c (h.timeAt r)

/-- CHARGE_RAIL_REACHED (R57): the amplifier at its ±4.5 V rail detector, or back inside. -/
def chargeRail (r n c : Nat) (l : BallLevel) (h : Hub) : Hub :=
  (h.modChan (chNo n c) fun x => { x with rail := l }).noteChan h n c (h.timeAt r)

/-- CLAMP_CONDUCT (R72, R73): the two ball clamps of a channel as sampled in frame `f`. -/
def clampConduct (n c f : Nat) (p q : BallLevel) (h : Hub) : Hub :=
  let on := p != .inside || q != .inside
  let was := h.bit (Addr.FE_CLAMP_NOW n) c
  let h' := h.modChan (chNo n c) fun x => { x with clP := p, clN := q }
  let h' := h'.setBit (Addr.FE_CLAMP_NOW n) c on
  let h' := if on then h'.setBit (Addr.FE_CLAMP n) c true
    else if was then h'.modSpire n fun s => { s with clampTail := s.clampTail ||| 2 ^ c } else h'
  (h'.noteChan h n c (f * frameU)).noteSpire h n (f * frameU)

/-- CLAMP_SUSPECT_END (R73): 16 frames after channel `c` stopped conducting, from frame `f` on. -/
def clampSuspectEnd (n c f : Nat) (h : Hub) : Hub :=
  (h.modSpire n fun s => { s with clampTail := s.clampTail &&& (2 ^ 32 - 1 - 2 ^ c) }).noteSpire h n (f * frameU)

/-! ### Injection queue (R108 to R113) -/

/-- Shows the queue in `INJ_QUEUE` and `SPIRE_STATUS.INJ_CLOSED` (R120). -/
def Hub.syncInj (h : Hub) (n : Nat) : Hub :=
  let q := (h.spire n).injQ
  let ext := (q.filter fun e => match e.who with | .ext _ => true | _ => false).length
  (h.setFld (Addr.INJ_QUEUE n) 0 3 q.length).setFld (Addr.INJ_QUEUE n) 3 2 ext

/-- External entries pending. -/
def Hub.injExt (h : Hub) (n : Nat) : Nat := h.fld (Addr.INJ_QUEUE n) 3 2

/-- Closes the queue with its reason: 1 = HOUSE_SWAP, 2 = TRIM (R120). -/
def Hub.injClose (h : Hub) (n why : Nat) : Hub :=
  ((h.setBit (Addr.INJ_QUEUE n) 5 true).setFld (Addr.INJ_QUEUE n) 6 2 why).setBit (Addr.SPIRE_STATUS n) 3 true

/-- An entry queued at instant `t`: its sample is held at the first frame instant after it (R109). -/
def InjEntry.queuedAt (t : Nat) (e : InjEntry) : InjEntry := { e with hold := frameAfter t, codes := [] }

/-- A request is of a kind that a hub standing by does not make (R87). -/
def Hub.injIdle (h : Hub) (who : InjWho) : Bool :=
  h.standby && (match who with | .ext _ => false | _ => true)

/-- Lets waiting internal requests into the queue while there is room (R112). -/
def Hub.injAdmit (h : Hub) (t n : Nat) : Hub :=
  let s := h.spire n
  if h.fld (Addr.INJ_QUEUE n) 6 2 = 2 then h else
    let k := 4 - s.injQ.length
    (h.setSpire n { s with injQ := s.injQ ++ (s.injWait.take k).map (InjEntry.queuedAt t), injWait := s.injWait.drop k }).syncInj n

/-- Reopens the queue; internal requests that waited enter first (R112, R117, R119). -/
def Hub.injOpen (h : Hub) (t n : Nat) : Hub :=
  (((h.setBit (Addr.INJ_QUEUE n) 5 false).setFld (Addr.INJ_QUEUE n) 6 2 0).setBit (Addr.SPIRE_STATUS n) 3 false).injAdmit t n

/-- INTERNAL_INJ_REQUEST (R112): enters the queue, or waits for room or for the trim's end. -/
def internalInj (t n : Nat) (who : InjWho) (node : Nat) (h : Hub) : Hub :=
  let s := h.spire n
  let e : InjEntry := { who := who, node := node }
  if h.injIdle who then h
  else if h.fld (Addr.INJ_QUEUE n) 6 2 = 2 || decide (4 ≤ s.injQ.length) then h.setSpire n { s with injWait := s.injWait ++ [e] }
  else (h.setSpire n { s with injQ := s.injQ ++ [e.queuedAt t] }).syncInj n

/-- INJ_REQ (R111): a spot conversion requested by master `m` at instant `t`. -/
def injReq (t n m : Nat) (v : Word) (h : Hub) : Hub :=
  let node := bitsOf v 0 7
  let res := Addr.INJ_RES n m
  if 0x4A ≤ node then (h.setFld res 16 8 ERANGE).setBit res 24 true
  else if h.bit res 25 then h.incSat (Addr.INJ_BUSY_CNT n) 0 16 1
  else if h.bit (Addr.INJ_QUEUE n) 5 || decide (4 ≤ (h.spire n).injQ.length) || decide (2 ≤ h.injExt n) then
    ((h.setFld res 16 8 EBUSY).setBit res 24 true).incSat (Addr.INJ_BUSY_CNT n) 0 16 1
  else
    let h := (h.setBit res 25 true).setBit res 24 false
    (h.modSpire n fun s => { s with injQ := s.injQ ++ [{ who := .ext m, node := node : InjEntry }.queuedAt t] }).syncInj n

/-- The conversions an entry takes: two for a charge test (R110). -/
def InjEntry.needs (e : InjEntry) : Nat := match e.who with | .ctest _ => 2 | _ => 1

/-- An entry converts in an injection slot of frame `f`: it was queued before the frame's instant, has conversions to come,
and has had none in this frame (R109, R110). -/
def InjEntry.converts (e : InjEntry) (f : Nat) : Bool :=
  decide (e.hold ≤ f) && decide (e.codes.length < e.needs) && e.codes.all fun p => p.1 ≠ f

/-- The oldest entry that converts in frame `f` takes a code (R106, R108). -/
def injTake (f : Nat) (code : Int) : List InjEntry → List InjEntry
  | [] => []
  | e :: t => if e.converts f then { e with codes := e.codes ++ [(f, code)] } :: t else e :: injTake f code t

/-- The code of an injection slot of frame `f` (R106, R109). A charge test's first conversion fixes the two frames of the test
(R86). -/
def injConvert (n f : Nat) (code : Int) (h : Hub) : Hub :=
  let q := (h.spire n).injQ
  let h' := h.modSpire n fun s => { s with injQ := injTake f code s.injQ }
  match q.find? fun e => e.converts f with
  | some e =>
    match e.who, e.codes with
    | .ctest c, [] => h'.modChan (chNo n c) fun x => { x with ctestAt := some f }
    | _, _ => h'
  | none => h

/-- The first entry, in order of arrival, that a test picks and whose conversions are done; and the queue without it. -/
def injDone (p : InjEntry → Bool) : List InjEntry → Option (InjEntry × List InjEntry)
  | [] => none
  | e :: t =>
    if p e && decide (e.needs ≤ e.codes.length) then some (e, t)
    else (injDone p t).map fun x => (x.1, e :: x.2)

/-- The queue of spire `n` as entries leave it at instant `t`: waiting requests move up (R112). -/
def Hub.injLeave (h : Hub) (t n : Nat) (q : List InjEntry) : Hub :=
  ((h.modSpire n fun s => { s with injQ := q }).syncInj n).injAdmit t n

/-- A hub that stands by drops the probe reads and charge tests it has queued (R87). -/
def Hub.injQuit (h : Hub) (n : Nat) : Hub :=
  let s := h.spire n
  if (s.injQ ++ s.injWait).any fun e => h.injIdle e.who then
    (h.setSpire n { s with injQ := s.injQ.filter (fun e => !h.injIdle e.who),
                           injWait := s.injWait.filter (fun e => !h.injIdle e.who) }).syncInj n
  else h

/-- The instant at which an entry's sample was held (R97, R109). -/
def InjEntry.heldAt (e : InjEntry) : Nat := e.hold * frameU

/-- INJ_COMPLETE (R109, R111): the oldest external entry that has converted is posted. Probe reads and charge tests are taken
up by PROBE_BALL_READ and CHARGE_TEST_COMPLETE. -/
def injComplete (t n : Nat) (h : Hub) : Hub :=
  match injDone (fun e => match e.who with | .ext _ => true | _ => false) (h.spire n).injQ with
  | some (e, q) =>
    match e.who with
    | .ext m =>
      let code := (e.codes.map Prod.snd).headD 0
      let h := h.wr (Addr.INJ_RES n m)
        (wd (unsigned 16 code + 2 ^ 24 + (if code = 32767 ∨ code = -32768 then 2 ^ 26 else 0)))
      (h.wr (Addr.INJ_TIME n m) (wd (e.heldAt / nsU % 1000000000))).injLeave t n q
    | _ => h
  | none => h

/-! ### Charge resets (R59 to R61) -/

/-- A reset request (R59, R61): merged while a reset runs. A channel in another mode has no reset switch in use, and a request
for it has no effect, which R59 does not state (log entry 54). -/
def chargeRequest (n c : Nat) (h : Hub) : Hub :=
  if h.feMode n c = mCHARGE && (h.chan (chNo n c)).chg = .track then
    (h.modChan (chNo n c) fun x => { x with chgReq := true }).setBit (Addr.FE_CHG_RESET n) c true
  else h

/-- FE_CHG_RESET_WRITE (R59): a 1 in a channel's bit requests a manual reset. -/
def feChgResetStore (n : Nat) (v : Word) (h : Hub) : Hub :=
  forN 32 (fun c h => if v.getLsbD c then chargeRequest n c h else h) h

/-- CHARGE_RESET_AUTO (R59): |code| reaches 26 542 under AUTO. -/
def chargeResetAuto (n c : Nat) (code : Int) (h : Hub) : Hub :=
  if h.afld (Addr.FE_CFG n c) 9 2 = 1 && decide (26542 ≤ code.natAbs) then chargeRequest n c h else h

/-- CHARGE_RESET_PERIODIC (R59): under PERIODIC, a whole multiple of RST_PER from the stream epoch lies in frame `f`. -/
def chargeResetPeriodic (n c f : Nat) (h : Hub) : Hub :=
  if h.afld (Addr.FE_CFG n c) 9 2 = 2 && dueInFrame (h.epoch n) (h.afld (Addr.FE_AUX n c) 6 16 * msU) f then chargeRequest n c h
  else h

/-- CHARGE_RESET_START (R60): at the boundary of frame `f`, the next after a request, the switch closes. -/
def chargeResetStart (n c f : Nat) (h : Hub) : Hub :=
  let x := h.chan (chNo n c)
  if x.chg = .track && x.chgReq then
    (((h.setChan (chNo n c) { x with chg := .reset, chgReq := false }).setBit (Addr.FE_CHG_RESET n) c false).setBit
      (Addr.FE_CHG_RESET_ACT n) c true).noteChan h n c (f * frameU)
  else h

/-- CHARGE_RESET_SWITCH_OPEN (R60): after 2 frames the switch opens. -/
def chargeResetOpen (n c : Nat) (h : Hub) : Hub :=
  let x := h.chan (chNo n c)
  if x.chg = .reset then h.setChan (chNo n c) { x with chg := .settle } else h

/-- CHARGE_RESET_SETTLED (R60, R61): 2 frames later, at frame `f`, the channel tracks; a deferred charge test is queued. -/
def chargeResetSettled (r n c : Nat) (h : Hub) : Hub :=
  let x := h.chan (chNo n c)
  let t := h.timeAt r
  if x.chg = .settle then
    let h' := ((h.setChan (chNo n c) { x with chg := .track, ctestDue := false }).setBit (Addr.FE_CHG_RESET_ACT n) c false).noteChan
      h n c (frameOf t * frameU)
    if x.ctestDue then internalInj t n (.ctest c) 0 h' else h'
  else h

/-! ### Wire breaks (R76 to R82) -/

/-- The code of a method in an event record (R299). -/
def BreakMethod.code : BreakMethod → Nat
  | .excitation => 0
  | .probe => 1
  | .charge => 2

/-- BREAK_DECLARE (R77): bits set, samples marked from this frame on, an event record. `bound` is the onset bound in ns. A
method that has declared a break on the channel and not cleared it declares no other. -/
def declareBreak (r n c : Nat) (m : BreakMethod) (bound : Nat) (h : Hub) : Hub :=
  let x := h.chan (chNo n c)
  if x.brks.any (fun b => b.1 = m) then h else
    let t := h.timeAt r
    -- a trim between onset and detection, which it delays by up to 5 frames more, widens the bound (R76)
    let w := match (h.spire n).trimEnd with
      | some e => if t ≤ e + (bound + 400) * nsU then 400400 else 0
      | none => 0
    let h' := h.setChan (chNo n c) { x with brks := x.brks ++ [(m, bound + w)] }
    let h' := (h'.setBit (Addr.FE_BREAK_NOW n) c true).setBit (Addr.FE_BREAK n) c true
    (h'.noteChan h n c (frameOf t * frameU)).eventRecord 1 t [wd (chNo n c + 1024 * m.code), wd (bound + w)]

/-- BREAK_CLEAR (R78): the condition of a method absent for 100 ms. Samples held after the clear carry no BREAK, and the bit in
FE_BREAK_NOW goes, once no other method's break is left (log entry 54). -/
def breakClear (r n c : Nat) (m : BreakMethod) (h : Hub) : Hub :=
  let x := h.chan (chNo n c)
  match x.brks.find? (fun b => b.1 = m) with
  | none => h
  | some b =>
    let t := h.timeAt r
    let rest := x.brks.filter fun b => b.1 ≠ m
    let h' := h.setChan (chNo n c) { x with brks := rest, repairs := x.repairs ++ [(h.idxAfter n c t, h.stages n c)] }
    ((h'.setBit (Addr.FE_BREAK_NOW n) c (!rest.isEmpty)).noteChan h n c (t + 1)).eventRecord 2 t
      [wd (chNo n c + 1024 * m.code), wd b.2]

/-- The node of a ball of a local channel (R113). -/
def ballNode (c : Nat) (pBall : Bool) : Nat := if pBall then 2 * c else 2 * c + 1

/-- A ball of a probed channel has been read, its sample held at instant `t` (R81, R82). One code is 5 V / 32 768; the current
flows into the ball, so a broken wire moves it up. The onset bound counts to the detection time that the event record carries
(R76, R77). -/
def probeRead (r n c t : Nat) (pBall : Bool) (code : Int) (h : Hub) : Hub :=
  let x := h.chan (chNo n c)
  let recent := x.probe.filter fun p => decide (t ≤ p.1 + 100 * msU)
  let same := recent.filter fun p => p.2.1 = pBall
  let cnt : Int := (same.length : Nat)
  let sum : Int := same.foldl (fun a p => a + p.2.2) 0
  -- (code − mean) × 5 / 32768 volts, times cnt
  let move := (code * cnt - sum) * 5
  let over01 := decide (0 < cnt) && decide (32768 * cnt < 10 * move)
  let t01 := if over01 then some ((if pBall then x.t01P else x.t01N).getD t) else none
  let h := h.setChan (chNo n c) { x with probe := (t, pBall, code) :: recent, t01P := if pBall then t01 else x.t01P,
                                         t01N := if pBall then x.t01N else t01 }
  if decide (0 < cnt) && decide (32768 * cnt ≤ move) then
    let (b, h) := h.drawQuotient ((h.timeAt r - t01.getD t : Nat) * 10 : Nat) (9 * nsU)
    declareBreak r n c .probe b.toNat h
  else h

/-- PROBE_BALL_READ (R81, R82): the injected conversion of a ball of a probed channel has come in. -/
def probeBallRead (r n c : Nat) (pBall : Bool) (h : Hub) : Hub :=
  let m := h.feMode n c
  match injDone (fun e => e.who = .probe c && e.node = ballNode c pBall) (h.spire n).injQ with
  | none => h
  | some (e, q) =>
    let h := h.injLeave (h.timeAt r) n q
    if !(h.active (Addr.FE_CFG n c)).getLsbD 17 || h.standby || !(m = mVDIFF || m = mBRIDGE || m = mTC) then h
    else probeRead r n c e.heldAt pBall ((e.codes.map Prod.snd).headD 0) h

/-- Cf in pF (R56). -/
def cfPf : Nat → Nat
  | 0 => 10 | 1 => 22 | 2 => 47 | 3 => 100 | 4 => 220 | 5 => 470 | 6 => 1000 | _ => 2200

/-- The instant of R110 in frame `f`: epoch + j ms + c × 31.25 µs. -/
def Hub.ctestInFrame (h : Hub) (n c f : Nat) : Bool := dueInFrame (h.epoch n + c * (31250 * nsU)) msU f

/-- CHARGE_TEST_DUE (R110, R61, R87): at its instant in the present frame the test is queued, or deferred to the first frame in
TRACK. -/
def chargeTestDue (r n c : Nat) (h : Hub) : Hub :=
  let t := h.timeAt r
  let f := frameOf t
  let x := h.chan (chNo n c)
  if h.feMode n c = mCHARGE && (h.active (Addr.FE_CFG n c)).getLsbD 18 && !h.standby && h.ctestInFrame n c f &&
      x.ctestLast ≠ some f then
    let h := h.setChan (chNo n c) { x with ctestLast := some f, ctestDue := x.chg ≠ .track }
    if x.chg = .track then internalInj t n (.ctest c) 0 h else h
  else h

/-- A charge test's result (R85): Cs = Cf × (ΔVout / ΔV − 1) with ΔV = 10 mV, written in pF; two low tests in a row declare a
break. The comparison is exact; the rounding of the pF written is not stated (log entry 6). -/
def chargeTestResult (r n c : Nat) (code0 code1 : Int) (h : Hub) : Hub :=
  let cf : Int := (cfPf (h.afld (Addr.FE_CFG n c) 6 3) : Nat)
  -- Cs in units of 1/32768 pF
  let num := cf * (500 * (code1 - code0) - 32768)
  let (cs, h) := h.drawQuotient num 32768
  let (shown, h) := if 0 ≤ cs ∧ cs ≤ 0xFFFE then (cs, h) else h.drawInt 0 0xFFFF
  let h := h.wr (Addr.FE_CHG_CS n c) (wd (unsigned 16 shown))
  if num < (h.afld (Addr.FE_AUX n c) 22 10 * 10 * 32768 : Nat) then
    let k := (h.chan (chNo n c)).lowTests + 1
    let h := h.modChan (chNo n c) fun x => { x with lowTests := k }
    if 2 ≤ k then declareBreak r n c .charge 2000000 h else h
  else h.modChan (chNo n c) fun x => { x with lowTests := 0 }

/-- CHARGE_TEST_COMPLETE (R85, R87): both conversions of a channel's test have come in. -/
def chargeTestComplete (r n c : Nat) (h : Hub) : Hub :=
  match injDone (fun e => e.who = .ctest c) (h.spire n).injQ with
  | none => h
  | some (e, q) =>
    let h := h.injLeave (h.timeAt r) n q
    match e.codes with
    | [a, b] => if h.standby then h else chargeTestResult r n c a.2 b.2 h
    | _ => h

/-! ### Excitation (R62 to R70, R466) -/

/-- An excitation change (R66). -/
def Hub.excChange (h : Hub) (n : Nat) : Hub := h.modSpire n fun s => { s with excEpoch := s.excEpoch + 1 }

/-- The driver enters a state: ON, LIMIT and HIZ are shown and the outputs follow (R466, R467). -/
def Hub.setExc (h : Hub) (n : Nat) (x : ExcState) : Hub :=
  let on := x = .on || x = .limit
  let h := h.modSpire n fun s => { s with exc := x }
  let h := ((h.setBit (Addr.EXC_STATUS n) 0 on).setBit (Addr.EXC_STATUS n) 2 (x = .limit)).setBit (Addr.EXC_STATUS n) 7 (x = .hiz)
  let h := { h with pins.excOut := SMap.put h.pins.excOut n on }
  h.excChange n

/-- The time that R79 leaves out after a reversal at instant `t`. -/
def Hub.quietReversal (h : Hub) (n t : Nat) : Hub :=
  h.modSpire n fun s => { s with quietEnd := max s.quietEnd (t + h.fld (Addr.EXC_REV n) 21 11 * frameU) }

/-- The driver is enabled at instant `t`: 8 frames are left out by R79. A fallback to local sense ends with the enable that
follows, which R80 does not state (log entry 54). -/
def Hub.excEnableAt (h : Hub) (n t : Nat) : Hub :=
  ((h.setBit (Addr.EXC_STATUS n) 6 false).setExc n .on).modSpire n fun s => { s with quietEnd := max s.quietEnd (t + 8 * frameU) }

/-- A driver leaves HIZ at the boundary of frame `f`: the hub acts (the table of R466). -/
def Hub.excActivate (h : Hub) (n f : Nat) : Hub :=
  if (h.spire n).exc = .hiz then
    (if h.bit (Addr.EXC_CFG n) 2 then h.excEnableAt n (f * frameU) else h.setExc n .off).noteSpire h n (f * frameU)
  else h

/-- A write to EXC_CFG after the access checks (R66, R429, R466): a reserved LEVEL is refused; EN 0 to 1 waits for an
inrush slot; EN 1 to 0 turns the outputs off. -/
def excCfgStore (r m n : Nat) (v : Word) (h : Hub) : Hub :=
  if bitsOf v 0 2 = 3 then h.refuse r m (Addr.EXC_CFG n) ERANGE else
    let h0 := h
    let old := h.rd (Addr.EXC_CFG n)
    let h := h.wr (Addr.EXC_CFG n) (v &&& 0x3F#32)
    let h := if bitsOf old 0 2 ≠ bitsOf v 0 2 then h.excChange n else h
    let st := (h.spire n).exc
    let h := if !old.getLsbD 2 && v.getLsbD 2 then
        let h := h.excChange n
        if st = .hiz then h else h.setBit Addr.INRUSH_PEND n true
      else if old.getLsbD 2 && !v.getLsbD 2 then
        let h := h.setBit Addr.INRUSH_PEND n false
        if st = .on || st = .limit || st = .tripped then h.setExc n .off else h.excChange n
      else h
    h.noteSpire h0 n (h0.timeAt r)

/-- An inrush slot is free: `INRUSH_CFG.GAP` has passed since the last event that draws current in a step (R429). -/
def Hub.inrushFree (h : Hub) (r : Nat) : Bool :=
  h.sys.inrushAt.all fun s => decide (s + h.fld Addr.INRUSH_CFG 0 14 * 1000 * nsU ≤ r)

/-- INRUSH_EXC_ENABLE (R429): in the next free slot, in spire order, a waiting enable reaches its driver, at instant `t`. -/
def inrushExcEnable (r n t : Nat) (h : Hub) : Hub :=
  let pend := h.fld Addr.INRUSH_PEND 0 16
  let st := (h.spire n).exc
  if pend.testBit n && decide (pend % 2 ^ n = 0) && h.bit (Addr.EXC_CFG n) 2 && (st = .off || st = .tripped) &&
      h.inrushFree r then
    ({ h.setBit Addr.INRUSH_PEND n false with sys.inrushAt := some r }.excEnableAt n t).noteSpire h n t
  else h

/-- EXC_LIMIT_ENTER (R62, R466): the driver's own current reaches the limit, 120 mA or more. -/
def excLimitEnter (r n uA : Nat) (h : Hub) : Hub :=
  if (h.spire n).exc = .on && decide (120000 ≤ uA) then
    (((h.wr (Addr.EXC_CURRENT n) (wd (uA % 2 ^ 18))).setExc n .limit).incSat (Addr.EXC_LIMIT_CNT n) 0 16 1).noteSpire h n
      (h.timeAt r)
  else h

/-- EXC_LIMIT_EXIT: below the limit for 16 frames. -/
def excLimitExit (r n uA : Nat) (h : Hub) : Hub :=
  if (h.spire n).exc = .limit && decide (uA < 135000) then
    ((h.wr (Addr.EXC_CURRENT n) (wd uA)).setExc n .on).noteSpire h n (h.timeAt r)
  else h

/-- EXC_TRIP: 100 ms in LIMIT. -/
def excTrip (r n : Nat) (h : Hub) : Hub :=
  if (h.spire n).exc = .limit then
    (((h.setExc n .tripped).setBit (Addr.EXC_STATUS n) 3 true).noteSpire h n (h.timeAt r)).report r 13 0 15 (wd n)
  else h

/-- A write to EXC_STATUS after the access checks: W1C bits; TRIP written 1 in TRIPPED with EN = 1 restarts the driver,
in its inrush slot (R429, R466). -/
def excStatusStore (n : Nat) (v keep : Word) (h : Hub) : Hub :=
  let h := h.wr (Addr.EXC_STATUS n) ((h.rd (Addr.EXC_STATUS n) &&& ~~~(v &&& 0x38#32)) ||| (keep &&& 0x38#32))
  if v.getLsbD 3 && (h.spire n).exc = .tripped && h.bit (Addr.EXC_CFG n) 2 then h.setBit Addr.INRUSH_PEND n true else h

/-- A write to EXC_CTRL after the access checks (R69): an unscheduled reversal, an excitation change (R66). -/
def excCtrlStore (r m n : Nat) (v : Word) (h : Hub) : Hub :=
  if !v.getLsbD 0 then h
  else if h.bit (Addr.EXC_CFG n) 5 then h.refuse r m (Addr.EXC_CTRL n) ESTATE
  else
    let t := h.timeAt r
    (((h.setBit (Addr.EXC_STATUS n) 1 (!h.bit (Addr.EXC_STATUS n) 1)).excChange n).quietReversal n t).noteSpire h n t

/-- The reversal period of a spire (R67): `REV_K` output periods of local channel `REV_REF`, of ratio × T each. -/
def Hub.revPeriod (h : Hub) (n : Nat) (outPeriod : Nat → Nat) : Nat :=
  h.fld (Addr.EXC_REV n) 0 16 * outPeriod (h.fld (Addr.EXC_REV n) 16 5)

/-- EXC_REVERSAL (R67, R68, R70): a reversal instant, epoch + j × `period`, lies in frame `f`; from it on the polarity is
swapped and `EXC_BLANK` frames are blanked. Where the period is shorter than a frame, the next instant after the last one. -/
def excReversal (n f period : Nat) (h : Hub) : Hub :=
  let s := h.spire n
  let t := dueAt (h.epoch n) period f
  let t := if s.blankFrom = t && s.blankEnd ≠ 0 then t + period else t
  if h.bit (Addr.EXC_CFG n) 5 && dueInFrame (h.epoch n) period f && decide (t < (f + 1) * frameU) then
    (((h.setBit (Addr.EXC_STATUS n) 1 (!h.bit (Addr.EXC_STATUS n) 1)).modSpire n fun s =>
      { s with blankFrom := t, blankEnd := t + h.fld (Addr.EXC_REV n) 21 11 * frameU }).quietReversal n t).noteSpire h n t
  else h

/-- The sense reading is below 50 % of the set level: reading × 5/32768 / 0.45 < level / 2 (R79). -/
def senseLow (level2 s : Int) : Bool := decide (s * 2000 < level2 * 32768 * 45)

/-- Force minus sense exceeds 2.2 V (R79). -/
def forceHigh (s f : Int) : Bool := decide (22 * 32768 * 45 < (f - s) * 5000)

/-- The reading of frame `f` in a list of readings. -/
def readingOf (l : List (Nat × Int)) (f : Nat) : Option Int := (l.find? fun p => p.1 = f).map (·.2)

/-- What R79 sees in frame `f`: sense low while the driver is on, and force minus sense high; none where a reading is missing or
the frame is not evaluated. ON is read as `EXC_STATUS.ON`, the states ON and LIMIT (log entry 54). -/
def Hub.senseCheck (h : Hub) (n f : Nat) : Option (Bool × Bool) :=
  let t := f * frameU
  let m := h.spireAt n t
  let s := h.spire n
  if t < m.blankEnd || t < m.quietEnd then none
  else match readingOf s.senseRd f, readingOf s.forceRd f with
    | some a, some b =>
      let p := h.polarity n t
      some ((m.exc = .on || m.exc = .limit) && senseLow m.level2 (p * a), forceHigh (p * a) (p * b))
    | _, _ => none

/-- EXC_SENSE_BREAK (R79, R80): the readings of the last 3 consecutive frames. Sense low in all of them and force minus sense
not high in all is taken for a force-side break, anything else for a sense break, which R80 does not state (log entry 54). -/
def excSenseBreak (r n : Nat) (h : Hub) : Hub :=
  match (h.spire n).senseRd with
  | [] => h
  | (f, _) :: _ =>
    match h.senseCheck n f, h.senseCheck n (f - 1), h.senseCheck n (f - 2) with
    | some a, some b, some c =>
      if f < 2 || [a, b, c].any (fun x => !(x.1 || x.2)) then h else
        let sense := [a, b, c].all (·.2) || [a, b, c].any (fun x => !x.1)
        let h' := if sense then h.setBit (Addr.EXC_STATUS n) 4 true else h.setBit (Addr.EXC_STATUS n) 5 true
        let h' := if sense && h.bit (Addr.EXC_CFG n) 3 && !h.bit (Addr.EXC_STATUS n) 6 then
            ((h'.setBit (Addr.EXC_STATUS n) 6 true).excChange n).noteSpire h n (h.timeAt r)
          else h'
        forN 32 (fun c h => if h.feMode n c = mBRIDGE then declareBreak r n c .excitation 320 h else h) h'
    | _, _, _ => h

end Sys2Proof.Machine
end

