-- ==== Sys2Proof/Machine/FiltCfg.lean ====
section
/-!
DEFINITION. The configuration of a channel's filter, its windows and its fast tap (R121 to R130, R144, R145).
-/

namespace Sys2Proof.Machine

/-- A channel's effective filter: stage lengths without the grid stage, ratio, GRID, wide (R123, R125, R145). -/
structure FiltCfg where
  lens : List Nat
  ratio : Nat
  gridSet : Bool
  wide : Bool
  cdelay : Nat
  deriving DecidableEq, Repr

/-- Li = R of a preset on a normal channel (R125); none for CUSTOM and the reserved codes. -/
def presetLen : Nat → Option Nat
  | 1 => some 25 | 2 => some 125 | 3 => some 1250 | 4 => some 6250 | 5 => some 12500 | 6 => some 125000
  | 9 => some 75 | 10 => some 375 | 11 => some 3750 | 12 => some 18750 | 13 => some 37500 | 14 => some 375000
  | _ => none

/-- The effective filter that register contents `get` select (R123, R125). -/
def filtCfgOf (get : Nat → Word) (wide : Bool) (n c : Nat) : FiltCfg :=
  let cfg := get (Addr.FCH_CFG n c)
  let preset := bitsOf cfg 0 4
  let cd := bitsOf (get (Addr.FCH_DELAY n c)) 0 16
  let len (a : Nat) := bitsOf (get a) 0 20
  let (ls, r) : List Nat × Nat := match presetLen preset with
    | some l =>
      let l := if wide then 2 * l else l
      (List.replicate (if preset ≤ 6 then 3 else 1) l, l)
    | none =>
      ([len (Addr.FCH_LEN1 n c), len (Addr.FCH_LEN2 n c), len (Addr.FCH_LEN3 n c)].take (bitsOf cfg 4 2),
       len (Addr.FCH_DECIM n c))
  { lens := ls, ratio := r, gridSet := cfg.getLsbD 6, wide := wide, cdelay := cd }

/-- The filter in force on a channel. -/
def Hub.filtCfg (h : Hub) (n c : Nat) : FiltCfg := filtCfgOf h.active (h.wide n c) n c

/-- N - 1 without the grid stage (R123). -/
def FiltCfg.span0 (f : FiltCfg) : Nat := f.lens.sum - f.lens.length

/-- Whether the two-sample grid stage is appended (R145). -/
def FiltCfg.gridStage (f : FiltCfg) : Bool := f.gridSet && f.span0 % 2 = 1

/-- All stage lengths, the grid stage included. -/
def FiltCfg.allLens (f : FiltCfg) : List Nat := if f.gridStage then f.lens ++ [2] else f.lens

/-- N - 1, the group delay in half raw periods (R123, R146). -/
def FiltCfg.span (f : FiltCfg) : Nat := f.allLens.sum - f.allLens.length

/-- The raw period T in units of 2^-16 ns (R121). -/
def FiltCfg.period (f : FiltCfg) : Nat := if f.wide then 40 * nsU else 80 * nsU

/-- The phase offset φ (R144). -/
def FiltCfg.phase (f : FiltCfg) : Nat := (f.span % 2) * (f.period / 2)

/-- The fast tap exists (R124). -/
def FiltCfg.tap (f : FiltCfg) : Bool := match f.lens with
  | l :: _ => decide (l ≤ 256)
  | [] => false

/-- Length of stage 1. -/
def FiltCfg.len1 (f : FiltCfg) : Nat := f.lens.headD 1

/-- First raw index of the window of grid position `j` (R123, R468). -/
def FiltCfg.winStart (f : FiltCfg) (j : Int) : Int := j * (f.ratio : Nat) - ((f.span / 2 : Nat) : Int)

/-- The instant of grid position `j` on epoch `e` (R144, R468). One that would lie before time zero is taken as time zero (log
entry 56). -/
def FiltCfg.instant (f : FiltCfg) (e : Nat) (j : Int) : Nat :=
  ((e : Int) + j * ((f.ratio * f.period : Nat) : Int) + ((f.phase : Nat) : Int)).toNat

/-- The number of ways to write `m` as a sum of k + 1 naturals: (m + 1) × … × (m + k) / k!. -/
def rising (m : Nat) : Nat → Nat
  | 0 => 1
  | k + 1 => rising m k * (m + k + 1) / (k + 1)

/-- The number of ways to write `j` as a sum of `s` naturals, one below each length, by inclusion and exclusion. -/
def boxWays : List Nat → Nat → Int → Int
  | [], s, j => if j < 0 then 0 else (rising j.toNat (s - 1) : Nat)
  | l :: ls, s, j => boxWays ls s j - boxWays ls s (j - (l : Nat))

/-- The impulse response h(j) of the cascade (R123). -/
def FiltCfg.weight (f : FiltCfg) (j : Int) : Int := boxWays f.allLens f.allLens.length j

/-- The full weight Π Li (R129). -/
def FiltCfg.fullWeight (f : FiltCfg) : Nat := f.allLens.foldl (· * ·) 1

/-- The raw instant of index `i` on epoch `e` (R121). -/
def FiltCfg.rawInstant (f : FiltCfg) (e : Nat) (i : Int) : Nat := ((e : Int) + i * ((f.period : Nat) : Int)).toNat

/-- The frame, counted from the epoch, in which index `i` is held (R121). -/
def FiltCfg.frameOfIdx (f : FiltCfg) (i : Int) : Int :=
  if f.wide then (i + (f.cdelay : Nat)) / 2 else i + (f.cdelay : Nat)

/-- The present samples of a window `a` to `b`. -/
def windowOf (raw : List RawSample) (a b : Int) : List RawSample := raw.filter fun s => decide (a ≤ s.idx) && decide (s.idx ≤ b)

/-- Value and weight sums of a window starting at `a`, in the wrapping registers of R128 and R129. -/
def FiltCfg.sums (f : FiltCfg) (a : Int) (w : List RawSample) : Int × Nat :=
  let v := w.foldl (fun x s => x + f.weight (s.idx - a) * s.code) 0
  let g := w.foldl (fun x s => x + f.weight (s.idx - a)) 0
  (signed 80 (unsigned 80 v), unsigned 64 g)

/-- A sum divided by a length, exact where it divides, else one of the two neighbours (R124; log entry 6). -/
def tapRound (num : Int) (l : Nat) : Int :=
  if num % (l : Int) = 0 then num / (l : Int) else num / (l : Int) + (if Config.roundUp num l then 1 else 0)

/-- The fast tap at raw index `i`: the mean in 1/256 code, a missing sample counting as 0, and its flags (R124, R129). A mean of
+32 768 codes, which reversed samples of -32 768 give, is outside signed 24 bits and is kept as it is (log entry 56). -/
def Hub.fastTap (h : Hub) (n c : Nat) (i : Int) : Int × Nat :=
  let l := (h.filtCfg n c).len1
  let w := windowOf (h.chan (chNo n c)).raw (i - (l : Nat) + 1) i
  (tapRound (256 * w.foldl (fun x s => x + s.code) 0) l,
   if w.isEmpty then flHOLE + flABSENT else markFlags w + (if w.length < l then flHOLE else 0))

/-- The lengths and ratio that FCH_LEN1 to FCH_LEN3, FCH_DECIM and STAGES read back where the `PRESET` written to FCH_CFG
selects a preset (R125, R146). -/
def Hub.presetReads (h : Hub) (n c : Nat) : Option (List Nat × Nat) :=
  let f := filtCfgOf h.rd (h.wide n c) n c
  (presetLen (h.fld (Addr.FCH_CFG n c) 0 4)).map fun _ => (f.lens, f.ratio)

/-- `FCH_STATUS` (R146). -/
def Hub.fchStatus (h : Hub) (n c : Nat) : Word :=
  let f := h.filtCfg n c
  wd (f.span % 2 + (if f.tap then 2 else 0) + (if f.gridStage then 4 else 0) + (if f.wide then 8 else 0))

end Sys2Proof.Machine
end

