-- ==== Sys2Proof/Machine/Sentry.lean ====
section
/-!
DEFINITION. Sentry, the hit detector on each channel's fast tap (R280 to R283), and the hit FIFO to the capture engine.
Baseline and noise are held in 1/65536 code (log entry 6).
-/

namespace Sys2Proof.Machine

/-- Sixteen times the present threshold in 1/65536 code (R280). -/
def Hub.senThr16 (h : Hub) (n c : Nat) : Nat :=
  let fixed := h.fld (Addr.SEN_THR n c) 0 24 * 256 * 16
  if h.bit (Addr.SEN_CFG n c) 1 then
    max fixed ((h.chan (chNo n c)).sen.noise.toNat * h.fld (Addr.SEN_CFG n c) 8 8)
  else fixed

/-- Changes a channel's detector. -/
def Hub.modSen (h : Hub) (g : Nat) (f : Sentry → Sentry) : Hub := h.modChan g fun x => { x with sen := f x.sen }

/-- The detector returns to QUIET with no baseline (R281: EN set to 0, or a configuration change of R132). -/
def Hub.senQuiet (h : Hub) (n c : Nat) : Hub :=
  (h.modSen (chNo n c) fun s =>
    { s with st := .quiet, base := none, noise := 0, cross := false, prev := false, tapIdx := none }).setFld
    (Addr.SEN_NOISE n c) 0 24 0

/-- A hit goes on with a sample: its flags, and the crossing and peak that the sample brings (R281, R282). -/
def SenHit.sample (t : SenHit) (starts : Bool) (i : Int) (dev fl pdt : Nat) : SenHit :=
  let t := if starts then { t with counts := t.counts + 1, lastCross := i } else t
  let t := if t.peak < dev ∧ i - t.peakAt ≤ (pdt : Int) then { t with peak := dev, peakAt := i } else t
  { t with flags := t.flags ||| fl }

/-- A crossing in QUIET starts a hit (R281, R283, R269); the hit goes to the capture engine's FIFO of 64 entries, or is lost and
counted. -/
def Hub.senStart (h : Hub) (n c : Nat) : Hub :=
  let g := chNo n c
  let s := (h.chan g).sen
  let f := h.filtCfg n c
  let i := s.tapIdx.getD 0
  if s.st = .quiet && h.bit (Addr.SEN_CFG n c) 0 && s.cross && !s.prev then
    -- the centre of the window of stage 1
    let t := (((2 * (h.epoch n : Int)) + (2 * i - ((f.len1 : Int) - 1)) * (f.period : Nat)) / 2).toNat
    let hit : SenHit := { start := i, startTime := t, lastCross := i, counts := 1, peak := s.dev,
                          peakAt := i, flags := s.tapFlags }
    let h := h.modSen g fun s => { s with st := .hit, hit := hit }
    let h := h.incWrap (Addr.SEN_HIT_CNT n c) 0 32 1
    let q := h.filt n
    if q.hits.length < 64 then h.setFilt n { q with hits := q.hits ++ [(g, t)] }
    else (h.setFilt n { q with lost := q.lost ++ [(g, t)] }).incSat (Addr.SEN_LOST_CNT n) 0 16 1
  else h

/-- A hit ends with its summary (R281, R282). -/
def Hub.senEnd (h : Hub) (n c : Nat) (long : Bool) : Hub :=
  let g := chNo n c
  let t := (h.chan g).sen.hit
  let h := h.modSen g fun s => { s with st := .lockout }
  if h.bit (Addr.SEN_CFG n c) 2 then
    let (pk, h) := h.drawQuotient (t.peak : Nat) 256
    h.eventRecord 5 t.startTime
      [wd (g + (if long then 1024 else 0) + 2048 * (t.flags % 256)), kxWord t.startTime 0, kxWord t.startTime 1,
       kxWord t.startTime 2, wdInt pk, wdInt (t.peakAt - t.start), wdInt (t.lastCross - t.start),
       wd (min t.counts 65535)]
  else h

/-- The index of the detector's last sample, 0 before the first. -/
def Sentry.at (s : Sentry) : Int := s.tapIdx.getD 0

/-- A hit ends at its last sample: HDT without a crossing, or 2^20 samples, whichever came first (R281). -/
def Hub.senFinish (h : Hub) (n c : Nat) : Hub :=
  let s := (h.chan (chNo n c)).sen
  let quiet : Int := s.hit.lastCross + (h.fld (Addr.SEN_HDT n c) 0 20 : Nat)
  let long : Int := s.hit.start + 2 ^ 20
  if s.st = .hit && decide (min quiet long ≤ s.at) then h.senEnd n c (decide (long < quiet)) else h

/-- HLT after the hit the detector is QUIET again (R281). -/
def Hub.senUnlock (h : Hub) (n c : Nat) : Hub :=
  let s := (h.chan (chNo n c)).sen
  let e := s.hit.lastCross + (h.fld (Addr.SEN_HDT n c) 0 20 : Nat)
  if s.st = .lockout && decide ((h.fld (Addr.SEN_HLT n c) 0 20 : Int) ≤ s.at - e) then
    h.modSen (chNo n c) fun s => { s with st := .quiet }
  else h

/-- What the last sample brings about, before the next one comes (R281). -/
def Hub.senTurn (h : Hub) (n c : Nat) : Hub := ((h.senStart n c).senFinish n c).senUnlock n c

/-- The fast-tap sample at raw index `i` reaches the detector (R280, R281): the crossing test against B and N as they
stand, the updates of QUIET, and crossings and peaks of HIT. An ABSENT sample is no crossing sample and updates nothing. What the
sample before has brought about comes first. -/
def Hub.senSample (h : Hub) (n c : Nat) (i : Int) : Hub :=
  let g := chNo n c
  let h := h.senTurn n c
  let (x, fl) := h.fastTap n c i
  if fl.testBit 7 then
    h.modSen g fun s => { s with tapIdx := some i, dev := 0, tapFlags := fl, prev := s.cross, cross := false,
                                 hit := if s.st = .hit then { s.hit with flags := s.hit.flags ||| fl } else s.hit }
  else
    let s := (h.chan g).sen
    -- mirrored values load at a QUIET sample (R363)
    let (b, nz) : Int × Int := match s.st, s.loaded with
      | .quiet, some p => p
      | _, _ => (s.base.getD (256 * x), s.noise)
    let s := { s with base := some b, noise := nz, loaded := if s.st = .quiet then none else s.loaded }
    let h := h.setChan g { h.chan g with sen := s }
    let d := 256 * x - b
    let cross := decide (h.senThr16 n c ≤ 16 * d.natAbs)
    let starts := cross && !s.cross
    let k := 2 ^ h.fld (Addr.SEN_CFG n c) 3 5
    let s := { s with tapIdx := some i, dev := d.natAbs, tapFlags := fl, prev := s.cross, cross := cross }
    let (s, h) : Sentry × Hub := match s.st with
      | .quiet =>
        if starts && h.bit (Addr.SEN_CFG n c) 0 then (s, h) else
          let (db, h) := h.drawQuotient d k
          let (dn, h) := h.drawQuotient ((d.natAbs : Int) - nz) k
          ({ s with base := some (b + db), noise := nz + dn }, h)
      | .hit => ({ s with hit := s.hit.sample starts i d.natAbs fl (h.fld (Addr.SEN_PDT n c) 0 20) }, h)
      | .lockout => (s, h)
    let h := h.setFld (Addr.SEN_NOISE n c) 0 24 (s.noise.toNat / 256)
    h.setChan g { h.chan g with sen := s }

/-- The raw indices after the detector's last sample and before `i`, whose samples are missing, reach it (R124, R280). Once a
whole window of stage 1 has passed, each brings the same ABSENT sample, and the last stands for the rest. -/
def Hub.senMissing (h : Hub) (n c : Nat) (i : Int) : Hub :=
  match (h.chan (chNo n c)).sen.tapIdx with
  | none => h
  | some k =>
    let gap := (i - 1 - k).toNat
    let l := (h.filtCfg n c).len1 + 1
    let h := forN (min gap l) (fun j h => h.senSample n c (k + 1 + (j : Int))) h
    if l < gap then h.senSample n c (i - 1) else h

/-- A present raw sample of index `i` has arrived: the detector takes the fast tap at every index up to it (R124, R280). -/
def Hub.senArrive (h : Hub) (n c : Nat) (i : Int) : Hub :=
  if (h.filtCfg n c).tap then (h.senMissing n c i).senSample n c i else h

/-- The first frame from `f` to `last` whose samples of a channel are not known to be missing; the frame after `last` where
there is none. -/
def Hub.missingUntil (h : Hub) (n c f last : Nat) : Nat :=
  let starts := ((h.chan (chNo n c)).marks.map Prod.fst ++ (h.spire n).marks.map Prod.fst ++ h.sel.standbyLog.map Prod.fst).map
    (· / frameU)
  (f :: starts).foldl (fun b p => if f ≤ p && p < b && !h.missingAt n c (p * frameU) then p else b) (last + 1)

/-- Before frame `last` ends, the detector takes the fast tap of the indices that no sample will come for: a trim, a reset, or
what else makes samples missing (R122, R124). -/
def Hub.senHole (h : Hub) (n c last : Nat) : Hub :=
  let cfg := h.filtCfg n c
  match (h.chan (chNo n c)).sen.tapIdx with
  | none => h
  | some k =>
    let f := (h.epochFrame n + cfg.frameOfIdx (k + 1)).toNat
    let g := h.missingUntil n c f last
    if cfg.tap && decide (f < g) then h.senMissing n c (h.idxOf n c g) else h

/-- SENTRY_HIT_START (R281, R283, R269): a crossing in QUIET starts a hit. -/
def sentryHitStart (n c : Nat) (h : Hub) : Hub := h.senStart n c

/-- SENTRY_HIT_END (R281): HDT without a crossing. -/
def sentryHitEnd (r n c : Nat) (h : Hub) : Hub :=
  let h := h.senHole n c (frameOf (h.timeAt r))
  let s := (h.chan (chNo n c)).sen
  if decide ((h.fld (Addr.SEN_HDT n c) 0 20 : Int) ≤ s.at - s.hit.lastCross) then h.senFinish n c else h

/-- SENTRY_HIT_LONG (R281): a hit of 2^20 samples. -/
def sentryHitLong (r n c : Nat) (h : Hub) : Hub :=
  let h := h.senHole n c (frameOf (h.timeAt r))
  let s := (h.chan (chNo n c)).sen
  if decide ((2 ^ 20 : Int) ≤ s.at - s.hit.start) then h.senFinish n c else h

/-- SENTRY_LOCKOUT_END (R281): HLT after the hit. -/
def sentryLockoutEnd (r n c : Nat) (h : Hub) : Hub := (h.senHole n c (frameOf (h.timeAt r))).senUnlock n c

/-- A write to SEN_CFG, SEN_PDT or SEN_HDT after the access checks (R281, R287). -/
def senCfgStore (r m n c : Nat) (v : Word) (h : Hub) : Hub :=
  if bitsOf v 3 5 < 4 ∨ 20 < bitsOf v 3 5 then h.refuse r m (Addr.SEN_CFG n c) ERANGE
  else
    let h := h.wr (Addr.SEN_CFG n c) (v &&& 0xFFFF#32)
    if v.getLsbD 0 then h else h.senQuiet n c

/-- A write to SEN_PDT or SEN_HDT: 0 is refused (R287). -/
def senTimeStore (r m a : Nat) (v : Word) (h : Hub) : Hub :=
  if bitsOf v 0 20 = 0 then h.refuse r m a ERANGE else h.wr a (v &&& 0xFFFFF#32)

/-- `SEN_STATE` (R287). -/
def Hub.senState (h : Hub) (n c : Nat) : Word :=
  let code : Nat := match (h.chan (chNo n c)).sen.st with
    | .quiet => 0 | .hit => 1 | .lockout => 2
  wd (code + 256 * (h.senThr16 n c / 4096 % 2 ^ 24))

end Sys2Proof.Machine
end

