-- ==== Sys2Proof/Machine/Filter.lean ====
section
/-!
DEFINITION. The filter islands (chapter 4): arrival of codes, windows with holes, correction, ratiometry, curves
(R88 to R93), formatting, outputs, and configuration commits (R131, R132, R468).
-/

namespace Sys2Proof.Machine

/-! ### Arrival of a code (R100, R121, R122) -/

/-- The channel and capacitor of a slot of the active table: none where the slot converts Sn_VREF (R100). -/
def Hub.slotEntry (h : Hub) (n i : Nat) : Option (Nat × Bool) :=
  let e := h.active (Addr.SLOT_TBL n i)
  if e.getLsbD 6 then some (bitsOf e 0 5, e.getLsbD 5) else none

/-- The first of the two frames of the charge test that takes up frame `f` of a channel, if one does (R86): the frame of the
test's first conversion, and, until that has come in, the one whose instant its entry waits for (R109, R110). -/
def Hub.testFrame (h : Hub) (n c f : Nat) : Option Nat :=
  let due := ((h.spire n).injQ.find? fun e => e.who = .ctest c && e.codes.isEmpty).map (·.hold)
  ((h.chan (chNo n c)).ctestAt.toList ++ due.toList).find? fun k => f = k || f = k + 1

/-- The last raw sample of a channel before index `i`. -/
def Hub.lastBefore (h : Hub) (n c : Nat) (i : Int) : Option RawSample :=
  (h.chan (chNo n c)).raw.find? fun s => decide (s.idx < i)

/-- The code and OVR mark of a channel's raw sample of frame `f` (R51, R52, R57, R72, R74). -/
def ChanMarks.code (m : ChanMarks) (code : Int) : Int × Bool :=
  match m.overRange with
  | some s => (s, true)
  | none => (code, code = 32767 || code = -32768 || (bitsOf m.cfg 0 3 = mRTD && m.rtdOver))

/-- The sample a channel's code gives, held in frame `f` at instant `t` with index `i`: marks, replacements and polarity (R57, R60,
R65, R68, R72 to R77, R86), by what held at that instant. A sample blanked after a reversal carries the OVR of the sample it takes and of its
own frame's detectors, and its own frame's other marks; a test or a reversal with no sample before it leaves the code (log
entry 54). -/
def Hub.rawSample (h : Hub) (n c f t : Nat) (i : Int) (code : Int) : RawSample :=
  let m := h.chanAt n c t
  let sp := h.spireAt n t
  let bridge := bitsOf m.cfg 0 3 = mBRIDGE
  let (v, o) := m.code code
  let susp := h.clampSuspect n c t || (bridge && (sp.exc = .limit || sp.exc = .tripped))
  let base : RawSample :=
    { idx := i, code := if bridge then h.polarity n t * v else v, ovr := o, susp := susp, brk := m.brk,
      rst := m.rst, exc := if bridge then sp.epoch else 0, cfg := m.cfgEpoch }
  match if bitsOf m.cfg 0 3 = mCHARGE then h.testFrame n c f else none with
  | some k =>
    let before := h.lastBefore n c (h.idxOf n c k)
    { base with code := (before.map (·.code)).getD v, ovr := false, susp := false, brk := false, rst := false }
  | none =>
    if bridge && decide (t < sp.blankEnd) then
      match h.lastBefore n c (h.idxAfter n c (sp.blankFrom - 1)) with
      | some last => { base with code := last.code, ovr := last.ovr || m.overRange.isSome }
      | none => base
    else base

/-- A sense reading of frame `f` (R68, R73, R137): replaced after a reversal as a channel's samples are. -/
def Hub.senseSample (h : Hub) (n f : Nat) (code : Int) : RawSample :=
  let t := f * frameU
  let sp := h.spireAt n t
  let sat := code = 32767 || code = -32768
  let base : RawSample :=
    { idx := (f : Nat), code := h.polarity n t * code, ovr := sat, susp := h.clampSuspect n 32 t, exc := sp.epoch }
  if t < sp.blankEnd then
    match (h.spire n).sense.find? fun s => decide (s.idx.toNat * frameU < sp.blankFrom) with
    | some last => { base with code := last.code, ovr := last.ovr }
    | none => base
  else base

/-- A code leaves the spire-to-filter FIFO: it becomes a present raw sample, or a sense reading. A sample of a frame before the
last clearing of the paths counts as missing (R132). -/
def Hub.deliverCode (n : Nat) (e : FifoCode) (h : Hub) : Hub :=
  match e.entry with
  | none => let s := h.senseSample n e.frame e.code; h.modSpire n fun p => { p with sense := s :: p.sense }
  | some (c, capB) =>
    let x := h.chan (chNo n c)
    if x.cIdx.isSome && decide (e.frame < x.cFrame) then h
    else
      let s := h.rawSample n c e.frame (h.heldAt n c e.frame capB)
        (h.idxOf n c e.frame + (if h.wide n c && capB then 1 else 0)) e.code
      let h := h.setChan (chNo n c) { x with raw := s :: x.raw }
      let h := if s.ovr then h.setBit (Addr.FE_OVR n) c true else h
      h.senArrive n c s.idx

/-- The transfers of spire `n` to its island are held by TP_XDELAY (R463, R464). -/
def Hub.spireHeld (h : Hub) (n : Nat) : Bool := h.bit Addr.TP_XDELAY 16 && h.fld Addr.TP_XDELAY 0 8 = n

/-- The codes of a spire's FIFO that have waited as TP_XDELAY has them wait go to its filter island. -/
def Hub.drainFifo (h : Hub) (r n : Nat) : Hub :=
  let held := h.spireHeld n
  let (stay, go) := (h.spire n).fifo.partition fun e => held && decide (r < e.leaves)
  if go.isEmpty then h else forIn' go (Hub.deliverCode n) (h.modSpire n fun s => { s with fifo := stay })

/-! ### Correction (R135 to R138, R156) -/

/-- A signed integer times 2^e, exactly. -/
def fpInt (i : Int) (e : Int) : FP := .fin (decide (i < 0)) i.natAbs e

/-- A Q2.30 word as a value (R135, R136). -/
def q230 (w : Word) : FP := fpInt w.toInt (-30)

/-- Nominal RTD current in µA (the current-step table of chapter 2). -/
def iexcUa : Nat → Nat
  | 0 => 10 | 1 => 20 | 2 => 50 | 3 => 100 | 4 => 150 | 5 => 200 | 6 => 250 | 7 => 300
  | 8 => 400 | 9 => 500 | 10 => 600 | 11 => 750 | 12 => 1000 | 13 => 1250 | 14 => 1500 | _ => 2000

/-- One code in the input unit, rounded once to binary64 (R49, R135, R48). -/
def ChanMarks.codeUnit (x : ChanMarks) : FP :=
  let gain := bitsOf x.cfg 3 3
  let mode := bitsOf x.cfg 0 3
  if mode = mCHARGE then ofFrac b64 (5 * cfPf (bitsOf x.cfg 6 3) : Nat) (32768 * 10 ^ 12)
  else if mode = mRTD then
    let s := x.irtd.toInt
    let i := iexcUa (bitsOf x.cfg 13 4)
    if s = 0 then .inf false
    else ofFrac b64 (5 * 2 ^ 30 * 10 ^ 6 * (if s < 0 then -1 else 1)) (32768 * 2 ^ gain * i * s.natAbs)
  else ofFrac b64 5 (32768 * 2 ^ gain)

/-- (m − O_t) × G_t × q in binary64 (R135). -/
def trimStage (m : FP) (o g : Word) (q : FP) : FP :=
  FP.mul b64 (FP.mul b64 (FP.sub b64 m (fpInt o.toInt (-16))) (q230 g)) q

/-- The USER stage (R136). -/
def Hub.userStage (h : Hub) (n c : Nat) (x : FP) : FP :=
  let y := FP.mul b64 (FP.sub b64 x (f32Of (h.active (Addr.USER_OFS n c)))) (q230 (h.active (Addr.USER_GAIN n c)))
  FP.mul b64 y (fpInt 1 (signed 6 (h.afld (Addr.FCH_CFG n c) 16 6)))

/-- The present sense readings of the window, as samples of the channel's own indices (R137). -/
def Hub.senseWindow (h : Hub) (n c : Nat) (w : List RawSample) : List RawSample :=
  let f := h.filtCfg n c
  let e := h.epochFrame n
  w.filterMap fun s =>
    ((h.spire n).sense.find? fun r => r.idx = e + f.frameOfIdx s.idx).map fun r => { r with idx := s.idx }

/-! ### Curves (R88 to R93) -/

/-- Ends of the valid output range of a standard curve, in °C (R88). -/
def curveRange : Nat → Option (Int × Int)
  | 1 => some (-210, 1200) | 2 => some (-200, 1372) | 3 => some (-200, 1300) | 4 => some (-200, 400)
  | 5 => some (-200, 1000) | 6 => some (-50, 1768) | 7 => some (250, 1820)
  | 16 => some (-200, 850) | 17 => some (-200, 850)
  | _ => none

/-- A user curve's number (R88). -/
def isUserCurve (k : Nat) : Bool := decide (32 ≤ k) && decide (k ≤ 47)

/-- A reserved curve number (R88). -/
def curveReserved (k : Nat) : Bool := k != 0 && (curveRange k).isNone && !isUserCurve k

/-- First address of user curve `k` of island `n` (R91). -/
def userCurveBase (n k : Nat) : Nat := 0x42000000 + n * 0x10000 + 0x8000 + (k - 32) * 0x800

/-- R(T) / R0 of IEC 60751 at T = n/d °C, as a fraction (R89). -/
def ptRatio (n : Int) (d : Nat) : Int × Nat :=
  let base := 10 ^ 15 * (d : Int) ^ 4 + 3908300000000 * n * (d : Int) ^ 3 - 577500000 * n ^ 2 * (d : Int) ^ 2
  (if n < 0 then base - 4183 * (n - 100 * (d : Int)) * n ^ 3 else base, 10 ^ 15 * d ^ 4)

/-- The function of the standard that standard curve `k` inverts, at n/d °C: ohms or volts, as a fraction (R53, R88, R89). -/
def curveAt (k : Nat) (n : Int) (d : Nat) : Int × Nat :=
  if k = 16 ∨ k = 17 then
    let r := ptRatio n d
    ((if k = 16 then 100 else 1000) * r.1, r.2)
  else
    let e := Config.tcEmf k n d
    (e.1, e.2 + 1)

/-- a ≤ b for fractions. -/
def fracLe (a b : Int × Nat) : Bool := decide (a.1 * (b.2 : Nat) ≤ b.1 * (a.2 : Nat))

/-- The temperature, in 1/65536 °C rounded down, at which the standard's function reaches `x`, by bisection on `fuel` steps. -/
def curveSearch (k : Nat) (x : Int × Nat) : Nat → Int → Int → Int
  | 0, lo, _ => lo
  | fuel + 1, lo, hi =>
    let m := (lo + hi) / 2
    if fracLe (curveAt k m 65536) x then curveSearch k x fuel m hi else curveSearch k x fuel lo m

/-- A temperature in the range `lo` to `hi` is within 0.01 °C of the one at which the standard's function is `x` (R89). -/
def curveNear (k : Nat) (lo hi : Int) (x : Int × Nat) (v : FP) : Bool :=
  let (n, d) := v.frac
  v.isFin && decide (lo * (d : Int) ≤ n) && decide (n ≤ hi * (d : Int)) &&
    fracLe (curveAt k (max (100 * n - d) (lo * 100 * d)) (100 * d)) x &&
    fracLe x (curveAt k (min (100 * n + d) (hi * 100 * d)) (100 * d))

/-- A standard curve (R53, R89, R90): the ends of its domain give the ends of its range with OVR; inside, a free value within
0.01 °C of the inverse of the standard's function, which the bisection replaces where the free value is not (log entry 7). -/
def stdCurve (k : Nat) (x : FP) : FP × Bool :=
  match curveRange k with
  | none => (x, false)
  | some (lo, hi) =>
    let below : Bool := match x with | .inf s => s | _ => !fracLe (curveAt k lo 1) x.frac
    let above : Bool := match x with | .inf s => !s | _ => fracLe (curveAt k hi 1) x.frac
    if below then (fpInt lo 0, true)
    else if above then (fpInt hi 0, true)
    else
      let v := f32Of (Config.curveValue k (f32Word x))
      (if curveNear k lo hi x.frac v then v
       else ofFrac b32 (curveSearch k x.frac 28 (lo * 65536) (hi * 65536)) 65536, false)

/-- A value and a fraction added, rounded once to binary32. -/
def FP.addFrac (x : FP) (q : Int × Nat) : FP :=
  match x with
  | .fin .. => let (n, d) := x.frac; ofFrac b32 (n * (q.2 : Nat) + q.1 * (d : Nat)) (d * q.2)
  | _ => x

/-- A user curve (R92, R90) on words of the curve's page: X_MIN, X_STEP and the coefficients. -/
def userCurve (get : Nat → Word) (base : Nat) (x : FP) : FP × Bool :=
  let xmin := f32Of (get base)
  let step := f32Of (get (base + 4))
  let c (i j : Nat) : FP := f32Of (get (base + 0x10 + 16 * i + 4 * j))
  let poly (i : Nat) (u : FP) : FP :=
    FP.fma b32 u (FP.fma b32 u (FP.fma b32 u (c i 3) (c i 2)) (c i 1)) (c i 0)
  let (nx, dx) := x.frac
  let (n0, d0) := xmin.frac
  let (ns, ds) := step.frac
  -- (x − X_MIN) and X_STEP over a common denominator
  let a : Int := (nx * d0 - n0 * dx) * (ds : Nat)
  let b : Int := ns * (dx * d0 : Nat)
  let den := dx * d0 * ds
  let below : Bool := match x with | .inf s => s | _ => decide (a < 0)
  let above : Bool := match x with | .inf s => !s | _ => decide (64 * b ≤ a)
  if below then (poly 0 (.fin false 0 0), true)
  else if above then (poly 63 (step.cvt b32), true)
  else
    let i := (a / b).toNat
    (poly i (ofFrac b32 (a - (i : Int) * b) den), false)

/-- A value as the curve stage takes it: binary32, and an infinity beyond the largest finite one (R90). -/
def curveInput (x : FP) : FP := if FP.lt f32Max x.abs then .inf x.neg else x.cvt b32

/-- The curve stage (R90, R139); the result and whether it carries OVR. -/
def Hub.curveValue (h : Hub) (n k : Nat) (x : FP) : FP × Bool :=
  let x := curveInput x
  match x with
  | .nan => (.nan, true)
  | _ => if isUserCurve k then userCurve h.rd (userCurveBase n k) x else stdCurve k x

/-- A finite binary32 word. -/
def finite32 (w : Word) : Bool := (f32Of w).isFin

/-- The conditions of R93 on a curve's words. -/
def userCurveOk (get : Nat → Word) (base : Nat) : Bool :=
  let xmin := f32Of (get base)
  let step := f32Of (get (base + 4))
  let (n0, d0) := xmin.frac
  let (ns, ds) := step.frac
  let (nm, dm) := f32Max.frac
  xmin.isFin && step.isFin && decide (0 < ns) &&
    decide ((n0 * (ds : Nat) + 64 * ns * (d0 : Nat)) * (dm : Nat) ≤ nm * (d0 * ds : Nat)) &&
    (List.range 256).all fun i => finite32 (get (base + 0x10 + 4 * i))

/-- A write to a word of a user curve after the access checks (R91, R93). A reserved `Y_UNIT` is refused with ERANGE, as a
reserved field is elsewhere; R91 states no outcome (log entry 54). -/
def userCurveStore (r m a : Nat) (v : Word) (h : Hub) : Hub :=
  let n := (a - 0x42000000) / 0x10000
  let k := 32 + (a % 0x10000 - 0x8000) / 0x800
  let base := userCurveBase n k
  let o := a - base
  if o = 0xC ∨ 0x410 ≤ o then h
  else
    let v := if o = 8 then v &&& 0x7#32 else v
    let h' := h.wr a v
    if o = 8 ∧ bitsOf v 1 2 ≥ 2 then h.refuse r m a ERANGE
    else if h'.bit (base + 8) 0 && !userCurveOk h'.rd base then h.refuse r m a ERANGE
    else h'

/-! ### Formatting (R140, R75) -/

/-- Output word of a value in a format, whether it was limited, and the value word's flag position (R140). `rawOvr` is
an OVR from raw samples: the value takes the limit in the direction of its sign. -/
def formatValue (fmt : Nat) (lsb : Int) (rawOvr : Bool) (v : FP) : Word × Bool :=
  let lim : Int := if fmt = 0 then 8388607 else 2147483647
  match v with
  | .nan => (0#32, true)
  | .inf s => if fmt = 2 then (f32Word (if s then f32Max.negate else f32Max), true)
              else (wdInt (if s then -lim - 1 else lim), true)
  | .fin s m _ =>
    if m = 0 then (if fmt = 2 && s && !rawOvr then 0x80000000#32 else 0#32, rawOvr)
    else if fmt = 2 then
      if rawOvr || FP.lt f32Max v.abs then (f32Word (if s then f32Max.negate else f32Max), true) else (f32Word v, false)
    else
      let q := v.toIntRne lsb
      if rawOvr then (wdInt (if s then -lim - 1 else lim), true)
      else if lim < q then (wdInt lim, true)
      else if q < -lim - 1 then (wdInt (-lim - 1), true)
      else (wdInt q, false)

/-- The value word with its flag byte where the format holds it (R141). -/
def packWord (fmt : Nat) (w : Word) (flags : Nat) : Word := if fmt = 0 then (w <<< 8) ||| wd (flags % 256) else w

/-- The value an output word stands for (R140). -/
def outputValue (o : Output) : FP :=
  if o.fmt = 2 then f32Of o.value
  else if o.fmt = 0 then fpInt (o.value.toInt / 256) o.lsb
  else fpInt o.value.toInt o.lsb

/-! ### Outputs (R123, R129, R139, R142 to R144) -/

/-- Feeds an element of a source to every input port with a buffer in STAGE (R213, R217); `kind` 1 is a channel, 2 a derived
stream. -/
def Hub.feedPorts (h : Hub) (kind src : Nat) (e : PortElem) : Hub :=
  forIn' h.sys.plan.stage (fun x h =>
    let b := h.rd (Addr.CTX_PORT (x.1 / 64) (x.1 % 64) x.2.1)
    if bitsOf b 0 2 = kind ∧ bitsOf b 2 10 = src then { h with stageIn := h.stageIn ++ [(x.1, x.2.1, e)] } else h) h

/-- The cold junction of a TC output at instant `t`: temperature in °C and whether it fell back (R54, R55). A cold-junction
channel that has no output yet falls back too, which R55 does not state (log entry 54). -/
def Hub.coldJunction (h : Hub) (n c t : Nat) : FP × Bool :=
  let spireT := fpInt (signed 16 (h.fld (Addr.TEMP_NOW n) 0 16)) (-4)
  let aux := h.active (Addr.FE_AUX n c)
  if aux.getLsbD 5 then
    match (h.chan (chNo n (bitsOf aux 0 5))).outs.find? fun o => decide (o.instant ≤ t) with
    | some o => if o.flags &&& (1 + 8 + 32 + 128) = 0 then (outputValue o, false) else (spireT, true)
    | none => (spireT, true)
  else (spireT, false)

/-- The sense value s of a window, in volts at the bridge (R137), by what held of the spire when the last index was held. -/
def SpireMarks.senseVolts (p : SpireMarks) (f : FiltCfg) (a : Int) (w : List RawSample) : FP :=
  let (v, g) := f.sums a w
  if g = 0 then FP.fin false 0 0 else trimStage (ofFrac b64 v g) p.snsOfs p.snsGain (ofFrac b64 100 294912)

/-- The curve stage of a channel's output (R53, R139). The cold-junction term is added for a TC channel whose curve is a
thermocouple's; the sum is rounded to binary32. The spec states neither point (log entry 54). -/
def Hub.curveStage (h : Hub) (n c t k : Nat) (tc : Bool) (y : FP) : (FP × Bool) × Bool :=
  if k = 0 then ((y, false), false)
  else if tc && decide (1 ≤ k) && decide (k ≤ 7) then
    let (cj, fell) := h.coldJunction n c t
    (h.curveValue n k ((curveInput y).addFrac (curveAt k cj.frac.1 cj.frac.2)), fell)
  else (h.curveValue n k y, false)

/-- Value and flags of a window before formatting: the value, the flags and whether OVR comes from raw samples; the
island's SENSE_LOW is set in the hub returned. `tb` is the instant at which the last index b_k is held, whose settings and trims
apply (R162, R467). m_k is the exact quotient of the two sums rounded once to binary64; R129 does not say whether the sums are
rounded first (log entry 56). BRIDGE is divided by the sense after USER, as R137 orders the stages; the table of R45 has V/V enter TRIM
already (log entry 54). -/
def Hub.outputCore (h : Hub) (n c tb : Nat) (a : Int) (t : Nat) (w : List RawSample) : FP × Nat × Bool × Hub :=
  let f := h.filtCfg n c
  let x := h.chanAt n c tb
  let p := h.spireAt n tb
  let mode := bitsOf x.cfg 0 3
  let (vs, ws) := f.sums a w
  let y := h.userStage n c (trimStage (ofFrac b64 vs ws) x.ofs x.gain x.codeUnit)
  let sw := if mode = mBRIDGE then h.senseWindow n c w else []
  let s := p.senseVolts f a sw
  -- 10 % of the set level (R138)
  let low := mode = mBRIDGE && FP.lt s.abs (ofFrac b64 p.level2 20)
  let y := if low then .fin false 0 0 else if mode = mBRIDGE then FP.div b64 y s else y
  let ((y, exceeds), fell) := h.curveStage n c t (h.afld (Addr.FCH_CFG n c) 10 6) (mode = mTC) y
  let marks := markFlags w ||| markFlags sw
  let exc := mode = mBRIDGE && w.any (fun s => w.any fun s' => s.exc ≠ s'.exc)
  let cfg := w.any fun s => w.any fun s' => s.cfg ≠ s'.cfg
  let fail := h.bit Addr.CALC_BOOT_FAIL n || h.bit (Addr.TRIM_FAIL_MASK n) c
  let flags := marks ||| (if exceeds then 1 else 0) ||| (if low || fell || fail then 2 else 0) |||
    (if exc || cfg then 4 else 0) ||| (if ws < f.fullWeight then 8 else 0)
  (y, flags, marks.testBit 0, if low then h.setBit (Addr.FI_STATUS n) 2 true else h)

/-- The instant at which the sample of raw index `i` is held (R95, R96, R121). -/
def Hub.idxHeld (h : Hub) (n c : Nat) (i : Int) : Nat :=
  let f := h.filtCfg n c
  (h.epochFrame n * (frameU : Int) + (i + (f.cdelay : Int)) * (f.period : Int)).toNat + h.fineDelay n c

/-- A code of channel `c` held up to raw index `b` is still on its way through the FIFO. -/
def Hub.codeWaits (h : Hub) (n c : Nat) (b : Int) : Bool :=
  (h.spire n).fifo.any fun e => (match e.entry with | some (d, _) => d = c | none => h.feMode n c = mBRIDGE) &&
    decide (h.idxOf n c e.frame ≤ b)

/-- The next output of channel `c` of spire `n`, once at `now` the instant of its last index has come (R123, R129, R130,
R139 to R144). -/
def Hub.outputBy (h : Hub) (now n c : Nat) : Hub :=
  let g := chNo n c
  let f := h.filtCfg n c
  let x := h.chan g
  let e := h.epoch n
  let j : Int := (x.nextK : Int) + x.jShift
  let a := f.winStart j
  let b := a + (f.span : Nat)
  if !h.running || decide (now < f.rawInstant e (b + (f.cdelay : Nat))) || h.codeWaits n c b then h else
    let t := f.instant e j
    let w := windowOf x.raw a b
    let fmt := h.afld (Addr.FCH_CFG n c) 8 2
    let lsb := signed 8 (h.afld (Addr.FCH_DELAY n c) 16 8)
    let repair := x.repairs.any fun p => decide (p.1 ≤ a)
    let early := (x.cIdx.map fun i => decide (a < i)).getD false
    let (word, flags, h) : Word × Nat × Hub :=
      if w.isEmpty then (0#32, 8 + 128, h)
      else
        let (v, fl, ro, h) := h.outputCore n c (h.idxHeld n c b) a t w
        let (q, lim) := formatValue fmt lsb ro v
        (q, fl ||| (if lim then 1 else 0) ||| (if repair || early then 4 else 0), h)
    let word := packWord fmt word flags
    let h := h.modChan g fun x =>
      { x with nextK := x.nextK + 1, lastInstant := some t,
               outs := { k := x.nextK, value := word, flags := flags, instant := t, fmt := fmt, lsb := lsb } :: x.outs,
               repairs := (x.repairs.map fun p => if p.1 ≤ a then (p.1, p.2 - 1) else p).filter fun p => p.2 ≠ 0 }
    let h := if flags.testBit 3 then h.incSat (Addr.FI_HOLE_CNT n) 0 32 1 else h
    let h := if flags.testBit 7 then h.incSat (Addr.FI_ABSENT_CNT n) 0 32 1 else h
    let h := if flags.testBit 0 then h.incSat (Addr.FI_OVR_CNT n) 0 32 1 else h
    let es := f.instant e x.jShift
    let h := if h.streamOn g && h.streamKind g = .plain then
        h.toLedger { stream := g, kind := .plain, seq := some x.nextK, inst := t, fmt := fmt, flags := flags, value := word,
                     epochS := es, period := f.ratio * f.period, lsb := unsigned 8 lsb, chan := g }
      else h
    h.feedPorts 1 g { value := word, flags := flags, k := x.nextK }

/-- FILTER_OUTPUT: the codes that have come through reach the island, and the channel's next output is made. -/
def filterOutput (r n c : Nat) (h : Hub) : Hub := (h.drainFifo r n).outputBy (h.timeAt r) n c

/-- Every output of a channel due before instant `t`; `fuel` bounds them (R418). -/
def Hub.outputsBefore (n c t : Nat) : Nat → Hub → Hub
  | 0, h => h
  | fuel + 1, h =>
    let k := (h.chan (chNo n c)).nextK
    let h := h.outputBy (t - 1) n c
    if (h.chan (chNo n c)).nextK = k then h else Hub.outputsBefore n c t fuel h

/-! ### Commits (R131, R132, R468) -/

/-- A fault of the check of R131: status and reason. -/
def filtFault (h : Hub) (n c : Nat) : Option (Nat × Nat) :=
  let cfg := h.rd (Addr.FCH_CFG n c)
  let f := filtCfgOf h.rd (h.wide n c) n c
  let preset := bitsOf cfg 0 4
  let badPreset := preset ≠ 0 && (presetLen preset).isNone
  let k := bitsOf cfg 10 6
  if preset = 0 && bitsOf cfg 4 2 ≠ 0 && f.lens.any (fun l => l = 0 || decide (524288 < l)) then some (ESIZE, 1)
  else if preset = 0 && f.ratio = 0 then some (ERANGE, 3)
  else if preset = 0 && f.lens.any (fun l => decide (f.ratio < l)) then some (ESIZE, 2)
  else if h.wide n c && preset = 14 then some (ESIZE, 6)
  else if badPreset || bitsOf cfg 4 2 = 0 || bitsOf cfg 8 2 = 3 || curveReserved k then some (ERANGE, 4)
  else if isUserCurve k && !h.bit (userCurveBase n k + 8) 0 then some (ESTATE, 5)
  else none

/-- The registers of channel `c` that have a pending copy (R131). -/
def filtRegs (n c : Nat) : List Nat :=
  [Addr.FCH_CFG n c, Addr.FCH_LEN1 n c, Addr.FCH_LEN2 n c, Addr.FCH_LEN3 n c, Addr.FCH_DECIM n c, Addr.FCH_DELAY n c,
   Addr.USER_OFS n c, Addr.USER_GAIN n c]

/-- FILTER_COMMIT (R131): a write of 1 to FI_CTRL.COMMIT after the access checks. -/
def filterCommit (n : Nat) (h : Hub) : Hub :=
  if h.bit (Addr.FI_STATUS n) 0 then h.setFld (Addr.FI_COMMIT_STATUS n) 0 8 EBUSY
  else match (List.range 32).findSome? fun c => (filtFault h n c).map fun q => (c, q) with
    | some (c, st, why) => h.wr (Addr.FI_COMMIT_STATUS n) (wd (st + 256 * c + 65536 * why))
    | none =>
      let snap := (List.range 32).flatMap fun c => (filtRegs n c).map fun a => (a, h.rd a)
      ((h.wr (Addr.FI_COMMIT_STATUS n) 0#32).setBit (Addr.FI_STATUS n) 0 true).setFilt n
        { h.filt n with staged := some snap }

/-- What describes the stream of a channel (R144, R296): epoch, period, format, LSB exponent and number of the channel. -/
def Hub.describePlain (h : Hub) (n c : Nat) : Hub :=
  let g := chNo n c
  if h.streamOn g && h.streamKind g = .plain then
    let f := h.filtCfg n c
    h.modStream g fun s =>
      { s with epochS := f.instant (h.epoch n) (h.chan g).jShift, period := f.ratio * f.period, chan := g,
               fmt := h.afld (Addr.FCH_CFG n c) 8 2, lsb := h.afld (Addr.FCH_DELAY n c) 16 8 }
  else h

/-- R468: the stream of a running channel goes on with its index after a change from filter `old` at frame `f`. A channel that has
had no output yet has no t_last; j1 is 0 then (log entry 56). -/
def Hub.rateChange (h : Hub) (n c f : Nat) (old : FiltCfg) : Hub :=
  let new := h.filtCfg n c
  let g := chNo n c
  let x := h.chan g
  if !h.running || (old.ratio * old.period = new.ratio * new.period && old.phase = new.phase) then h
  else
    let e := h.epoch n
    let p : Int := ((new.ratio * new.period : Nat) : Int)
    let j1 : Int := match x.lastInstant with
      | some t => max 0 (((t : Int) - (e : Nat) - (new.phase : Nat)) / p + 1)
      | none => 0
    let h := h.setChan g { x with jShift := j1 - (x.nextK : Int) }
    if h.streamOn g then (h.seal (f * frameU) g).modStream g fun s => { s with descDue := true } else h

/-- FE_CFG_TAKE_EFFECT (R467): at frame `f` the settings written apply. A MODE change clears the channel's paths and sends its
detector to QUIET (R132, R281). -/
def feCfgTakeEffect (n c f : Nat) (h : Hub) : Hub :=
  let old := h.active (Addr.FE_CFG n c)
  let new := h.rd (Addr.FE_CFG n c)
  let h' := (h.setActive (Addr.FE_CFG n c) new).setActive (Addr.FE_AUX n c) (h.rd (Addr.FE_AUX n c))
  let h' := if bitsOf old 0 3 ≠ bitsOf new 0 3 then (h'.clearPaths n c f).senQuiet n c else h'
  let h' := if bitsOf old 3 6 ≠ bitsOf new 3 6 || bitsOf old 13 4 ≠ bitsOf new 13 4 then
      h'.modChan (chNo n c) fun x => { x with cfgEpoch := x.cfgEpoch + 1 }
    else h'
  h'.noteChan h n c (f * frameU)

/-- What a change from filter `old` at frame `f` does to a channel (R132, R281, R468). -/
def Hub.filtChanged (h : Hub) (n c f : Nat) (old : FiltCfg) : Hub :=
  let new := h.filtCfg n c
  if old = new then h
  else
    let h := ((h.clearPaths n c f).senQuiet n c).rateChange n c f old
    if h.running then h.describePlain n c else h

/-- FILTER_COMMIT_APPLY (R132): at frame boundary `f` a committed configuration takes effect. -/
def filterCommitApply (n f : Nat) (h : Hub) : Hub :=
  match (h.filt n).staged with
  | none => h
  | some regs =>
    let olds := (List.range 32).map fun c => (c, h.filtCfg n c)
    let h := forIn' regs (fun p h => h.setActive p.1 p.2) h
    let h := (h.setFilt n { h.filt n with staged := none }).setBit (Addr.FI_STATUS n) 0 false
    forIn' olds (fun p h => h.filtChanged n p.1 f p.2) h

end Sys2Proof.Machine
end

