-- ==== Sys2Proof/Machine/Spire.lean ====
section
/-!
DEFINITION. The spires (chapter 3): the slot table check, conversions, the reference check, trim requests (R155), and
the rotation of the spare slice (R114 to R118).
-/

namespace Sys2Proof.Machine

/-! ### The slot table (R101 to R103); times in units of 0.3125 ns -/

/-- Whether a conversion at clock `s` meets the timing of R101 or R102 for aperture `d`. -/
def slotTiming (wide capB : Bool) (d s : Nat) : Bool :=
  if wide then
    let s := if capB then (s + 4) % 8 else s
    let t := if d + 48 ≤ 32 * s then 32 * s else 32 * s + 256
    decide (t ≤ d + 224)
  else decide (d + 48 ≤ 256 + 32 * s)

/-- A channel whose FE_CFG is written as OFF (R103). -/
def Hub.offPending (h : Hub) (n c : Nat) : Bool := h.fld (Addr.FE_CFG n c) 0 3 = mOFF

/-- The valid entries of the pending table before entry `i` that name channel `c`: index and capacitor. -/
def Hub.earlierSlots (h : Hub) (n c i : Nat) : List (Nat × Bool) :=
  (List.range i).filterMap fun j =>
    let e := h.rd (Addr.SLOT_TBL n j)
    if e.getLsbD 6 && bitsOf e 0 5 = c then some (j, e.getLsbD 5) else none

/-- The fault that becomes evident at entry `i` of the pending table: channel and reason (R103, R120). Of several at one entry
CAP is named before SETTLE, SETTLE before DUP, DUP before PAIR; R103 orders entries only (log entry 20). -/
def Hub.slotFault (h : Hub) (n i : Nat) : Option (Nat × Nat) :=
  let e := h.rd (Addr.SLOT_TBL n i)
  let c := bitsOf e 0 5
  let cap := e.getLsbD 5
  let wide := h.bit (Addr.APT_CFG n c) 8
  if !e.getLsbD 6 then none
  else if cap && !wide then some (c, 5)
  else if !slotTiming wide cap (h.fld (Addr.APT_CFG n c) 0 8) (i % 8) then some (c, 3)
  else if h.offPending n c then none
  else
    let before := h.earlierSlots n c i
    if before.any (fun p => p.2 = cap) then some (c, 1)
    else match before with
      | [] => none
      | (j, _) :: _ =>
        let (a, b) := if cap then (j, i) else (i, j)
        if a / 8 = b / 8 ∨ b % 8 ≠ (a % 8 + 4) % 8 then some (c, 4) else none

/-- A fault that only the whole table shows: a required entry missing, or a wide channel with Marrow-SC (R103). -/
def Hub.tableFault (h : Hub) (n : Nat) : Option (Nat × Nat) :=
  let missing := (List.range 32).find? fun c =>
    !h.offPending n c &&
      (let l := h.earlierSlots n c 32
       if h.bit (Addr.APT_CFG n c) 8 then l.length ≠ 2 else l.length ≠ 1)
  match missing with
  | some c => some (c, 2)
  | none =>
    ((List.range 32).find? fun c => h.bit (Addr.APT_CFG n c) 8 && h.afld (Addr.FCH_CFG n c) 0 4 = 14).map fun c => (c, 6)

/-- The result of the check of R103: entry, channel, reason of the first fault. -/
def Hub.schedFault (h : Hub) (n : Nat) : Option (Nat × Nat × Nat) :=
  match (List.range 32).findSome? fun i => (h.slotFault n i).map fun q => (i, q) with
  | some q => some q
  | none => (h.tableFault n).map fun q => (0x3F, q)

/-- SCHED_COMMIT (R103): a write of 1 to SCHED_CTRL.COMMIT after the access checks. -/
def schedCommit (n : Nat) (h : Hub) : Hub :=
  if h.bit (Addr.SPIRE_STATUS n) 1 then h.setFld (Addr.SCHED_STATUS n) 0 8 EBUSY
  else match h.schedFault n with
    | some (e, c, why) => h.wr (Addr.SCHED_STATUS n) (wd (ESIZE + 256 * e + 65536 * c + 2 ^ 24 * why))
    | none =>
      let st : SchedStaged :=
        { slots := (List.range 32).map fun i => h.rd (Addr.SLOT_TBL n i)
          apts := (List.range 32).map fun c => h.rd (Addr.APT_CFG n c) }
      ((h.wr (Addr.SCHED_STATUS n) 0x3F00#32).setBit (Addr.SPIRE_STATUS n) 1 true).modSpire n fun s =>
        { s with staged := some st }

/-- SCHED_COMMIT_APPLY (R103, R132): at frame boundary `f` the checked table and delays take effect together. -/
def schedCommitApply (n f : Nat) (h : Hub) : Hub :=
  match (h.spire n).staged with
  | none => h
  | some st =>
    let olds := (List.range 32).map fun c => (c, h.filtCfg n c)
    let h := forN 32 (fun i h => (h.setActive (Addr.SLOT_TBL n i) (st.slots.getD i 0#32)).setActive (Addr.APT_CFG n i)
      (st.apts.getD i 0#32)) h
    let h := h.modSpire n fun s => { s with staged := none }
    let h := (h.setBit (Addr.SPIRE_STATUS n) 1 false).setBit (Addr.SPIRE_STATUS n) 0 true
    forIn' olds (fun p h => h.filtChanged n p.1 f p.2) h

/-! ### Conversions (R95 to R100, R106, R27) -/

/-- The physical slice that serves a column (R98, R99); column 4 is H. -/
def Hub.sliceOf (h : Hub) (n col : Nat) : Nat := h.fld (Addr.SLICE_MAP n) (4 * col) 3

/-- The coefficients of a physical slice (R152, R167). -/
def Hub.sliceCoef (h : Hub) (n sl : Nat) : List Word := (List.range 32).map fun k => h.rd (Addr.SLICE_COEF n sl k)

/-- A corrected result in 1/16 code of physical slice `sl`, as it comes out while TP_SKEW names the slice: offset and scaled before
the slice's correction (R463). What the correction does with the coefficients is internal (R163; log entry 49). -/
def Hub.skew16 (h : Hub) (n sl : Nat) (x : Int) : Int :=
  let w := h.rd Addr.TP_SKEW
  if w.getLsbD 7 && bitsOf w 0 4 = n && bitsOf w 4 3 = sl then
    let k := h.sliceCoef n sl
    Config.sliceCorrect k ((Config.sliceRaw k x + signed 8 (bitsOf w 8 8)) * (2 ^ 20 + signed 16 (bitsOf w 16 16)))
  else x

/-- A code as the slice of a column delivers it under TP_SKEW (R463); the rounding to a code is not stated (log entry 6). -/
def Hub.skewed (h : Hub) (n col : Nat) (code : Int) : Int × Hub :=
  let y := h.skew16 n (h.sliceOf n col) (16 * code)
  if y = 16 * code then (code, h)
  else
    let (v, h) := h.drawQuotient y 16
    (clampInt (-32768) 32767 v, h)

/-- The spire is sampling: out of BOOT, out of reset and not in a trim (R122). -/
def Hub.sampling (h : Hub) (n : Nat) : Bool :=
  h.mode != .boot && !(h.spire n).inReset && !h.bit (Addr.SPIRE_STATUS n) 2

/-- The further wait of a transfer out of spire `n` under TP_XDELAY, in units of 2^-16 ns: `CYC` cycles of the filter island's
clock of 400 MHz, throttled (R21, R463). -/
def Hub.xdelay (h : Hub) : Nat := h.fld Addr.TP_XDELAY 8 8 * (5 * nsU / 2) * 8 / (8 - h.fld Addr.CLK_THROTTLE_NOW 0 2)

/-- A code enters the spire-to-filter FIFO of 64 entries a slice, or is lost (R27, R98). Under TP_XDELAY each transfer out of a
slice's FIFO waits, one after the other (R463); otherwise the code goes on at once. -/
def Hub.pushCode (h : Hub) (r n : Nat) (e : FifoCode) : Hub :=
  let h := h.drainFifo r n
  if h.spireHeld n then
    let q := (h.spire n).fifo.filter fun x => x.slot / 8 = e.slot / 8
    if 64 ≤ q.length then (h.setBit (Addr.FI_STATUS n) 1 true).report r 14 0 15 (wd n)
    else
      let start := q.foldl (fun t x => max t x.leaves) r
      h.modSpire n fun s => { s with fifo := s.fifo ++ [{ e with leaves := start + h.xdelay }] }
  else Hub.deliverCode n e h

/-- The frame in which a slot converts the sample of frame `f` (R101, R102, R106): the next, but for injected conversions and
the early clocks of a wide channel. -/
def Hub.convFrame (h : Hub) (n slot f : Nat) : Nat :=
  if 36 ≤ slot then f
  else match (if slot < 32 then h.slotEntry n slot else none) with
    | none => f + 1
    | some (c, capB) =>
      if !h.wide n c then f + 1
      else
        let s := if capB then (slot % 8 + 4) % 8 else slot % 8
        let t := if bitsOf (h.active (Addr.APT_CFG n c)) 0 8 + 48 ≤ 32 * s then 32 * s else 32 * s + 256
        f + (t + (if capB then 128 else 0)) / 256

/-- A result in 1/16 code is saturated (R114). DESIGN CHOICE (log entry 56): the result before rounding lies at or beyond full scale;
one that only rounds to full scale is none. -/
def saturated16 (x : Int) : Bool := decide (16 * 32767 ≤ x) || decide (x ≤ -16 * 32768)

/-- While the incoming slice shadows a column, a slot of it yields a pair of results in 1/16 code (R114): outgoing, incoming. -/
def Hub.comparePair (h : Hub) (n slot f : Nat) (pair : Int × Int) : Hub :=
  let g := h.convFrame n slot f
  let s := h.spire n
  if h.fld (Addr.ROT_STATUS n) 6 3 = 2 && h.fld (Addr.ROT_STATUS n) 3 3 = slot / 8 && decide (s.cmpFrom ≤ g) &&
      decide (g < s.cmpFrom + 256) then
    let o := h.skew16 n (h.sliceOf n (slot / 8)) pair.1
    let i := h.skew16 n (h.fld (Addr.SLICE_MAP n) 20 3) pair.2
    if saturated16 o || saturated16 i then h
    else h.modSpire n fun s => { s with cmpPairs := s.cmpPairs + 1, cmpSum := s.cmpSum + (i - o),
                                        cmpPeak := max s.cmpPeak (i - o).natAbs }
  else h

/-- The code of a house slot for the sample of frame `f` (R79, R106, R107, R147): the excitation sense and force, the reference,
in even frames the temperature sensor, whose code is in units of 0.0625 °C (log entry 54), and injected conversions. What the
diagnostic multiplexer scans in odd frames is kept nowhere. -/
def Hub.houseCode (h : Hub) (r n slot f : Nat) (code : Int) : Hub :=
  match slot with
  | 32 =>
    let h := (h.wr (Addr.EXC_SENSE n) (wd (unsigned 16 code))).modSpire n fun s =>
      { s with senseRd := ((f, code) :: s.senseRd).take 8 }
    h.pushCode r n { slot := slot, frame := f, code := code }
  | 33 => (h.wr (Addr.EXC_FORCE n) (wd (unsigned 16 code))).modSpire n fun s =>
      { s with forceRd := ((f, code) :: s.forceRd).take 8 }
  | 34 => h.modSpire n fun s => { s with refSum := s.refSum + code, refCount := s.refCount + 1 }
  | 35 => if f % 2 = 0 then h.modSpire n fun s => { s with tempSum := s.tempSum + code, tempCount := s.tempCount + 1 } else h
  | _ => injConvert n f code h

/-- The channels' samples of frame `f` enter the filters: a run is on, and the frame lies before its stop frame (R411, R418). -/
def Hub.acquires (h : Hub) (f : Nat) : Bool := h.running && h.sys.stopAt.all fun t => decide (f * frameU < t)

/-- RAW_CODE_CONVERT (R98, R100, R106, R114): the code of slot `slot` (0 to 31 the table, 32 to 39 the house column) for the
sample held in frame `f` (for an injected conversion, converted in it). `pair` is what the column's present slice and an
incoming one give for the slot, in 1/16 code, while one shadows it. -/
def rawCodeConvert (r n slot f : Nat) (code : Int) (pair : Option (Int × Int)) (h : Hub) : Hub :=
  if h.mode = .boot || (h.spireAt n (f * frameU)).off || decide (frameOf (h.timeAt r) < f) then h else
    let h := match pair with
      | some p => h.comparePair n slot f p
      | none => h
    let (code, h) := h.skewed n (slot / 8) code
    if 32 ≤ slot then h.houseCode r n slot f code
    else match h.slotEntry n slot with
      | none => h
      | some (c, capB) =>
        if !h.acquires f || h.missingAt n c (h.heldAt n c f capB) then h
        else h.pushCode r n { slot := slot, frame := f, code := code, entry := some (c, capB) }

/-! ### Trim requests (R155, R159) -/

/-- States and reasons of `TRIM_STATUS` (R155, R167). -/
def trimNONE : Nat := 0
def trimPENDING : Nat := 1
def trimISSUED : Nat := 2
def trimACTIVE : Nat := 3

def Hub.trimState (h : Hub) (n : Nat) : Nat := h.fld (Addr.TRIM_STATUS n) 0 2

/-- A condition of R155 arises on spire `n`, with its reason code. -/
def trimRequest (r n reason : Nat) (h : Hub) : Hub :=
  let st := h.trimState n
  if st = trimNONE then
    ((h.wr (Addr.TRIM_STATUS n) (wd (trimPENDING + 4 * reason))).setBit Addr.CALC_TRIM_PEND n true).modSpire n fun s =>
      { s with trimAt := h.timeAt r }
  else if reason = 4 then
    if st = trimPENDING then h.setFld (Addr.TRIM_STATUS n) 2 3 4
    else if st = trimACTIVE then h.modSpire n fun s => { s with trimNow := true }
    else h
  else if reason = 2 ∧ st ≠ trimPENDING then h.modSpire n fun s => { s with refMissed := true }
  else h

/-- The nominal code of Sn_VREF, 2.500 V at ±5.0 V full scale, in 1/16 code (R113, the table of chapter 15). -/
def vrefNominal : Int := 262144

/-- REF_CHECK_AVERAGE (R107): the readings of 4 096 frames have come in; their average against the calibration value, in 1/16
code. Readings that a reset leaves out are not replaced: the average waits for 4 096. `VREF_CAL`, of 16 bits, holds the
difference from the nominal 2.500 V, code 16 384, whose 1/16 codes end in 16 zero bits (log entry 54). -/
def refCheckAverage (r n : Nat) (h : Hub) : Hub :=
  let s := h.spire n
  if !h.sampling n || decide (s.refCount < 4096) then h
  else
    let h := h.setSpire n { s with refSum := 0, refCount := 0 }
    let cal : Int := vrefNominal + signed 16 (h.fld (Addr.VREF_CAL n) 0 16)
    if 64 * s.refCount < (16 * s.refSum - cal * (s.refCount : Int)).natAbs then
      let was := h.bit (Addr.SPIRE_STATUS n) 4
      let h := (h.setBit (Addr.SPIRE_STATUS n) 4 true).report r 11 0 15 (wd n)
      if was then h else trimRequest r n 2 h
    else h

/-! ### Rotation (R114 to R118, R151 to R153) -/

/-- States of `ROT_STATUS.STATE` (R120). -/
def rotCAL : Nat := 0
def rotPARKED : Nat := 1
def rotSHADOW : Nat := 2
def rotVERDICT : Nat := 3
def rotDRAIN : Nat := 4
def rotGAPWAIT : Nat := 5
def rotSTALLED : Nat := 6

def Hub.rotState (h : Hub) (n : Nat) : Nat := h.fld (Addr.ROT_STATUS n) 6 3
def Hub.setRot (h : Hub) (n s : Nat) : Hub := h.setFld (Addr.ROT_STATUS n) 6 3 s
/-- The physical spare slice, as `SLICE_MAP.SPARE` has it; a spire reset restores `ROT_STATUS` but not the map (R425). -/
def Hub.spare (h : Hub) (n : Nat) : Nat := h.fld (Addr.SLICE_MAP n) 20 3
def Hub.target (h : Hub) (n : Nat) : Nat := h.fld (Addr.ROT_STATUS n) 3 3

/-- A comparison window opens at the frame boundary after instant `t` (R114, R115). -/
def Hub.startCompare (h : Hub) (t n : Nat) : Hub :=
  (h.setRot n rotSHADOW).modSpire n fun s => { s with cmpFrom := frameAfter t, cmpPairs := 0, cmpSum := 0, cmpPeak := 0 }

/-- SPARE_CAL_START (R118): Belfry starts the first spare calibration after boot calibration; a slice that failed twice is never
used (R150). -/
def spareCalStart (n : Nat) (h : Hub) : Hub :=
  if h.bit Addr.CALC_STATUS 0 && h.rotState n = rotCAL && !h.bit (Addr.ROT_STATUS n) (9 + h.spare n) then h.modSpire n fun s => { s with calRunning := true } else h

/-- An abort of the incoming slice (R115, R116, R153), logged in class `cls`: 9 by Belfry, 10 as the hub's own detection (R390; log
entry 56). -/
def Hub.swapAbort (h : Hub) (r n cls : Nat) : Hub :=
  let k := h.fld (Addr.ROT_STATUS n) 15 4 + 1
  let sl := h.spare n
  let h :=
    if k < h.fld (Addr.ROT_CFG n) 8 4 then
      (((h.setFld (Addr.ROT_STATUS n) 15 4 k).setRot n rotCAL).incSat (Addr.SWAP_ABORT_CNT n) 0 16 1).modSpire n fun s =>
        { s with calRunning := true }
    else
      ((h.setBit (Addr.ROT_STATUS n) (9 + sl) true).setRot n rotSTALLED).setBit (Addr.SPIRE_STATUS n) 5 true
  h.report r cls 0 (if cls = 9 then belfry else 15) (wd (n + 256 * sl))

/-- Limits of Solve (R153): the offset and non-linearity in 1/16 code, the gain in Q2.30. -/
def solveOk (ofs gain inl : Int) : Bool :=
  decide (ofs.natAbs ≤ 4096) && decide (97 * 2 ^ 30 ≤ 100 * gain) && decide (100 * gain ≤ 103 * 2 ^ 30) &&
    decide (inl.natAbs ≤ 64)

/-- SLICE_CAL_COMPLETE (R152, R153, R115): Solve gives offset, gain, non-linearity and the 32 coefficients. -/
def sliceCalComplete (r n : Nat) (ofs gain inl : Int) (coef : List Word) (h : Hub) : Hub :=
  if h.rotState n = rotCAL && (h.spire n).calRunning && !h.bit (Addr.SPIRE_STATUS n) 2 then
    let h := h.modSpire n fun s => { s with calRunning := false }
    if solveOk ofs gain inl then
      let sl := h.spare n
      let h := forN 32 (fun k h => h.wr (Addr.SLICE_COEF n sl k) (coef.getD k 0#32)) h
      if h.bit (Addr.ROT_CFG n) 0 then h.startCompare (h.timeAt r) n else h.setRot n rotPARKED
    else h.swapAbort r n 9
  else h

/-- A write to ROT_CFG after the access checks (R115, R120); ROT_ENABLE is the write that sets ROT_EN. -/
def rotCfgStore (r m n : Nat) (v : Word) (h : Hub) : Hub :=
  if bitsOf v 8 4 = 0 ∨ bitsOf v 16 8 = 0 then h.refuse r m (Addr.ROT_CFG n) ERANGE
  else
    let h := h.wr (Addr.ROT_CFG n) (v &&& 0x00FF0F01#32)
    if v.getLsbD 0 && h.rotState n = rotPARKED then h.startCompare (h.timeAt r) n else h

/-- SWAP_COMPARE_DONE (R114): the 256 frames of the window are over. A mean that does not fit 16 bits is written modulo 2^16,
which R114 does not state (log entry 54). -/
def swapCompareDone (r n : Nat) (h : Hub) : Hub :=
  let s := h.spire n
  if h.rotState n = rotSHADOW && !h.bit (Addr.SPIRE_STATUS n) 2 && decide (s.cmpFrom + 256 ≤ frameOf (h.timeAt r)) then
    let (mean, h) := if s.cmpPairs = 0 then h.drawInt (-32768) 32767 else h.drawQuotient s.cmpSum s.cmpPairs
    let (pk, h) := h.drawQuotient (s.cmpPeak : Nat) 16
    let v : Nat :=
      if s.cmpPairs < 1024 then 3
      else if h.fld (Addr.SWAP_TOL n) 0 8 * s.cmpPairs < s.cmpSum.natAbs then 1
      else if h.fld (Addr.SWAP_TOL n) 16 8 * 16 < s.cmpPeak then 2
      else 0
    (h.wr (Addr.SWAP_RESULT n)
      (wd (unsigned 16 mean + 65536 * min pk.toNat 255 + 2 ^ 24 * v + 2 ^ 28 * h.target n))).setRot n rotVERDICT
  else h

/-- The verdict TP_SWAPFAIL forces on spire `n`, and the hub with the bit used up (R463). -/
def Hub.forcedVerdict (h : Hub) (n : Nat) : Option Nat × Hub :=
  let w := h.rd Addr.TP_SWAPFAIL
  if w.getLsbD 18 && w.getLsbD n then
    let w' := putBit w n false
    (some (bitsOf w 16 2), h.wr Addr.TP_SWAPFAIL (if bitsOf w' 0 16 = 0 then putBit w' 18 false else w'))
  else (none, h)

/-- SWAP_VERDICT (R115): two frames after the window closed. -/
def swapVerdict (r n : Nat) (h : Hub) : Hub :=
  if h.rotState n = rotVERDICT && !h.bit (Addr.SPIRE_STATUS n) 2 then
    let (forced, h) := h.forcedVerdict n
    let h := match forced with
      | some v => h.setFld (Addr.SWAP_RESULT n) 24 3 v
      | none => h
    match h.fld (Addr.SWAP_RESULT n) 24 3 with
    | 0 => (h.setFld (Addr.ROT_STATUS n) 15 4 0).setRot n (if h.target n = 4 then rotDRAIN else rotGAPWAIT)
    | 3 => h.startCompare (h.timeAt r) n
    | _ => h.swapAbort r n 10
  else h

/-- Closes the queue to external requests for a house-column swap, unless a trim has closed it (R112, R115). -/
def Hub.closeForSwap (h : Hub) (n : Nat) : Hub :=
  if h.fld (Addr.INJ_QUEUE n) 6 2 = 2 then h else h.injClose n 1

/-- DRAIN_QUEUE_CLOSE (R115): at a frame boundary with no external entry pending. -/
def drainQueueClose (n : Nat) (h : Hub) : Hub :=
  if h.rotState n = rotDRAIN && h.injExt n = 0 then (h.closeForSwap n).setRot n rotGAPWAIT else h

/-- DRAIN_FORCED (R115): CAL_DEFER_MAX in DRAIN. -/
def drainForced (n : Nat) (h : Hub) : Hub :=
  if h.rotState n = rotDRAIN then (h.closeForSwap n).setBit (Addr.ROT_STATUS n) 19 true else h

/-- A swap is due on a spire: GAP_WAIT with no trim issued or active (R115). -/
def Hub.swapDue (h : Hub) (n : Nat) : Bool :=
  h.rotState n = rotGAPWAIT && h.trimState n != trimISSUED && h.trimState n != trimACTIVE

/-- SLICE_SWAP (R115, R99): at the frame boundary the incoming slice takes the column over. `FORCED` goes with it, which R115
does not state (log entry 54). -/
def sliceSwap (r n : Nat) (h : Hub) : Hub :=
  let f := frameOf (h.timeAt r)
  let recent := match h.sys.swapAt with
    | some (k, g) => k != n && decide (f ≤ g + 64)
    | none => false
  if h.swapDue n && !recent && (List.range n).all (fun k => !h.swapDue k) then
    let t := h.target n
    let inc := h.spare n
    let out := h.sliceOf n t
    let h := (h.setFld (Addr.SLICE_MAP n) (4 * t) 3 inc).setFld (Addr.SLICE_MAP n) 20 3 out
    let h := ((h.setFld (Addr.ROT_STATUS n) 0 3 out).setFld (Addr.ROT_STATUS n) 3 3 ((t + 1) % 5)).setRot n rotCAL
    let h := (h.setBit (Addr.ROT_STATUS n) 19 false).incWrap (Addr.SWAP_CNT n) 0 32 1
    let h := h.modSpire n fun s => { s with calRunning := true }
    let h := { h with sys.swapAt := some (n, f) }
    if h.fld (Addr.INJ_QUEUE n) 6 2 = 1 then h.injOpen (h.timeAt r) n else h
  else h

end Sys2Proof.Machine
end

