-- ==== Sys2Proof/Machine/Calib.lean ====
section
/-!
DEFINITION. Calibration and trim (chapter 5): temperatures, the trim scheduler (R155 to R162), and the calibration
store (R163 to R166).
-/

namespace Sys2Proof.Machine

/-! ### Conditions (R147, R155) -/

/-- The TEMP condition (R155). -/
def Hub.tempCond (h : Hub) (n : Nat) : Bool :=
  let d := signed 16 (h.fld (Addr.TEMP_NOW n) 0 16) - signed 16 (h.fld (Addr.TEMP_LAST_TRIM n) 0 16)
  h.bit Addr.CALC_TRIM_CFG 19 && decide (h.fld Addr.CALC_TRIM_CFG 0 9 ≤ d.natAbs)

/-- The CONFIG condition (R155). -/
def Hub.configCond (h : Hub) (n : Nat) : Bool :=
  (List.range 32).any fun c =>
    let key := h.rd (Addr.TRIM_KEY n c)
    let cfg := h.rd (Addr.FE_CFG n c)
    bitsOf key 0 9 ≠ bitsOf cfg 0 9 || bitsOf key 13 4 ≠ bitsOf cfg 13 4 || (!key.getLsbD 31 && bitsOf cfg 0 3 ≠ mOFF)

/-- TEMP_UPDATE (R147, R155): the mean of the millisecond's readings, where there are any; then the conditions of R155. Of several
that hold, TEMP is recorded before REF, REF before CONFIG; a REF that arose during a trim is met again while `REF_DRIFT` is
still set (log entry 56). -/
def tempUpdate (r n : Nat) (h : Hub) : Hub :=
  let s := h.spire n
  let h := if s.tempCount = 0 then h else
    let q : Int := rne s.tempSum.natAbs s.tempCount
    (h.setSpire n { s with tempSum := 0, tempCount := 0 }).setFld (Addr.TEMP_NOW n) 0 16
      (unsigned 16 (if s.tempSum < 0 then -q else q))
  if h.mode = .boot ∨ h.trimState n ≠ trimNONE then h
  else
    let again := (h.spire n).refMissed && h.bit (Addr.SPIRE_STATUS n) 4
    let h := h.modSpire n fun s => { s with refMissed := false }
    if h.tempCond n then trimRequest r n 1 h
    else if again then trimRequest r n 2 h
    else if h.configCond n then trimRequest r n 3 h
    else h

/-- DIE_TEMP_READ (R168): a reading of the die-centre sensor, once the PLL has locked. -/
def dieTempRead (v : Word) (h : Hub) : Hub :=
  if h.sys.pllLocked then h.wr Addr.CALC_DIE_TEMP (v &&& 0xFFFF#32) else h

/-! ### The scheduler (R157 to R159) -/

/-- TRIM_HOLD_MAX_REACHED (R157): a pending request has waited HOLD_MAX. -/
def trimHoldMaxReached (r n : Nat) (h : Hub) : Hub :=
  if h.trimState n = trimPENDING &&
      decide ((h.spire n).trimAt + h.fld Addr.CALC_TRIM_CFG 9 10 * secU ≤ h.timeAt r) then h.setBit (Addr.TRIM_STATUS n) 5 true else h

/-- Own time state of R186: 0 FREE, 1 LOCKED, 2 HOLDOVER. -/
def Hub.timeState (h : Hub) : Nat := h.fld Addr.TIME_STATE 0 2

/-- A request is eligible (R157). -/
def Hub.trimEligible (h : Hub) (n : Nat) : Bool :=
  h.trimState n = trimPENDING &&
    (h.fld (Addr.TRIM_STATUS n) 2 3 = 4 || !h.bit Addr.CALC_STATUS 1 || h.bit (Addr.TRIM_STATUS n) 5) &&
    (!(h.paired && h.timeState = 0) || h.fld (Addr.TRIM_STATUS n) 2 3 = 4 || h.bit (Addr.TRIM_STATUS n) 5)

/-- The twin window of R158 is open at instant `t`. -/
def Hub.trimWindow (h : Hub) (t : Nat) : Bool :=
  if h.paired && h.timeState ≠ 0 then
    let p := t % (100000000 * nsU)
    if h.bit Addr.SEL_CFG 17 then decide (50000000 * nsU ≤ p) && decide (p < 90000000 * nsU)
    else decide (p < 40000000 * nsU)
  else true

/-- The spacing of R157 has passed at instant `t`. -/
def Hub.trimSpaced (h : Hub) (t : Nat) : Bool :=
  match h.sys.trimLast with
  | none => true
  | some s => decide (s + (if h.mode = .run || h.mode = .shadow then 100000000 else 1000000) * nsU ≤ t)

/-- The oldest eligible request, the lowest spire number first among equals (R157). -/
def Hub.trimChoice (h : Hub) : Option Nat :=
  (List.range 16).foldl (fun b n =>
    if h.trimEligible n then match b with
      | none => some n
      | some k => if (h.spire n).trimAt < (h.spire k).trimAt then some n else b
    else b) none

/-- The issue of a trim (R119 step 1, R157, R158, R159). -/
def Hub.trimIssue (h : Hub) (r n : Nat) : Hub :=
  let free := h.paired && h.timeState = 0
  let forced := h.fld (Addr.TRIM_STATUS n) 2 3 ≠ 4 && h.bit (Addr.TRIM_STATUS n) 5 && (h.bit Addr.CALC_STATUS 1 || free)
  let h := (h.setFld (Addr.TRIM_STATUS n) 0 2 trimISSUED).setFld Addr.CALC_STATUS 3 5 n
  let h := h.setFld (Addr.TEMP_LAST_TRIM n) 0 16 (h.fld (Addr.TEMP_NOW n) 0 16)
  let h := h.injClose n 2
  let h := if forced then h.incSat Addr.CALC_TRIM_FORCED_CNT 0 16 1 else h
  if free then h.report r 12 0 belfry (wd n) else h

/-- TRIM_EVALUATION (R157): Belfry, unless it is held in its restart, issues the chosen request when no trim is issued or
active, the spacing has passed and the twin window is open. -/
def trimEvaluation (r : Nat) (h : Hub) : Hub :=
  let t := h.timeAt r
  let busy := (List.range 16).any fun n => h.trimState n = trimISSUED || h.trimState n = trimACTIVE
  if busy || h.ctl.belfryHeld || !h.trimSpaced t || !h.trimWindow t then h
  else match h.trimChoice with
    | some n => h.trimIssue r n
    | none => h

/-- TRIM_START (R119 steps 2 and 3, R115): the pending entries have completed; the trim starts at the frame boundary. -/
def trimStart (r n : Nat) (h : Hub) : Hub :=
  if h.trimState n = trimISSUED && (h.spire n).injQ.isEmpty then
    let t := h.timeAt r
    let h' := (h.setFld (Addr.TRIM_STATUS n) 0 2 trimACTIVE).setBit (Addr.SPIRE_STATUS n) 2 true
    let h' := { h' with sys.trimLast := some t }.noteSpire h n (frameOf t * frameU)
    if h.rotState n = rotVERDICT then h'.setRot n rotSHADOW else h'
  else h

/-- The front-end table entry written from trim values (R161). -/
def tableWord (o g : Word) : Word :=
  let q (v : Int) (d : Nat) : Int := let m : Int := rne v.natAbs d; clampInt (-32768) 32767 (if v < 0 then -m else m)
  wd (unsigned 16 (q o.toInt 4096) + 65536 * unsigned 16 (q (g.toInt - 0x40000000) 1024))

/-- The key of a configuration: MODE, GAIN, CF and IEXC, valid (R167). -/
def keyOf (cfg : Word) : Word := (cfg &&& 0x1E1FF#32) ||| 0x80000000#32

/-- A channel's measured offset and gain are inside the limits of R161. -/
def trimOk (o g : Word) : Bool :=
  decide (o.toInt.natAbs ≤ 2 ^ 27) && decide (0x3CCCCCCD ≤ g.toInt) && decide (g.toInt ≤ 0x43333333)

/-- The spire and channel of a calibration register's address (R167). -/
def calChannel (a : Nat) : Nat × Nat :=
  let o := a % 0x10000
  ((a - 0x41000000) / 0x10000, if o < 0x3100 then (o - 0x3000) / 8 else if o < 0x3800 then o % 0x80 / 4 else (o - 0x3800) / 0x40)

/-- Records that the calibration register at address `a` has changed since `h0`, in force from frame `f` on (R163). -/
def Hub.noteCal (h h0 : Hub) (f a : Nat) : Hub :=
  let (n, c) := calChannel a
  (h.noteChan h0 n c (f * frameU)).noteSpire h0 n (f * frameU)

/-- A calibration value written at address `a`, in force from frame `f` on (R161, R165). -/
def Hub.calWrite (h : Hub) (f a : Nat) (v : Word) : Hub := (h.wr a v).noteCal h f a

/-- One channel at a trim's end, frame `f` (R161): offset, gain and RTD scale measured. -/
def Hub.trimChannel (r n f c : Nat) (v : Word × Word × Word) (h : Hub) : Hub :=
  let cfg := h.active (Addr.FE_CFG n c)
  if trimOk v.1 v.2.1 then
    let h := ((h.calWrite f (Addr.TRIM_OFS n c) v.1).calWrite f (Addr.TRIM_GAIN n c) v.2.1).calWrite f (Addr.TRIM_IRTD n c) v.2.2
    let h := h.calWrite f (Addr.FE_TABLE n c (tableEntry cfg)) (tableWord v.1 v.2.1)
    (h.calWrite f (Addr.TRIM_KEY n c) (keyOf cfg)).setBit (Addr.TRIM_FAIL_MASK n) c false
  else (h.setBit (Addr.TRIM_FAIL_MASK n) c true).report r 9 0 belfry (wd (n + 65536 * c))

/-- The results of a trim: 32 channels, the sense path, and the reference check. -/
structure TrimResult where
  chans : List (Word × Word × Word)
  snsOfs : Word
  snsGain : Word
  vref : Word
  deriving DecidableEq, Repr

/-- The queue after a trim (R117, R119): one closed for a house-column swap stays closed to external requests until the swap. -/
def Hub.trimReopen (h : Hub) (t n : Nat) : Hub :=
  let waits := (h.rotState n = rotGAPWAIT && h.target n = 4) || (h.rotState n = rotDRAIN && h.bit (Addr.ROT_STATUS n) 19)
  if waits then (h.injClose n 1).injAdmit t n else h.injOpen t n

/-- The 5 000 frames of the trim in progress are over at instant `t` (R160). -/
def Hub.trimOver (h : Hub) (t : Nat) : Bool := h.sys.trimLast.all fun s => decide (frameOf s + 5000 ≤ frameOf t)

/-- TRIM_END (R160, R161, R115, R119 step 4, R155): after 5 000 frames, at the boundary of a frame. The average of R107 starts anew with
the value recorded. -/
def trimEnd (r n : Nat) (v : TrimResult) (h : Hub) : Hub :=
  if h.trimState n = trimACTIVE && h.trimOver (h.timeAt r) then
    let t := h.timeAt r
    let f := frameOf t
    let h := forN 32 (fun c h => Hub.trimChannel r n f c (v.chans.getD c (0#32, 0#32, 0#32)) h) h
    let h := ((h.calWrite f (Addr.SNS_TRIM_OFS n) v.snsOfs).calWrite f (Addr.SNS_TRIM_GAIN n) v.snsGain).wr (Addr.VREF_CAL n)
      (v.vref &&& 0xFFFF#32)
    let h := if h.rd (Addr.TRIM_FAIL_MASK n) = 0#32 then h.setBit Addr.CALC_BOOT_FAIL n false else h
    let now := (h.spire n).trimNow
    let h := h.modSpire n fun s =>
      { s with trimNow := false, trimEnd := some t, trimAt := if now then t else s.trimAt, refSum := 0, refCount := 0 }
    let h := if now then h.wr (Addr.TRIM_STATUS n) (wd (trimPENDING + 4 * 4))
      else (h.wr (Addr.TRIM_STATUS n) 0#32).setBit Addr.CALC_TRIM_PEND n false
    let h := ((h.incWrap (Addr.TRIM_CNT n) 0 32 1).setBit (Addr.SPIRE_STATUS n) 2 false).noteSpire h n (f * frameU)
    let h := h.setFld Addr.CALC_STATUS 3 5 0x1F
    -- an abandoned comparison starts again (R115)
    let h := if h.rotState n = rotSHADOW then (h.startCompare t n).modSpire n fun s => { s with cmpFrom := f } else h
    trimEvaluation r (h.trimReopen t n)
  else h

/-- A write to CALC.TRIM_CFG after the access checks (R169). -/
def trimCfgStore (r m : Nat) (v : Word) (h : Hub) : Hub :=
  let d := bitsOf v 0 9
  let m' := bitsOf v 9 10
  if h.mode = .boot then h.refuse r m Addr.CALC_TRIM_CFG ESTATE
  else if d < 8 ∨ 320 < d ∨ m' < 1 ∨ 600 < m' then h.refuse r m Addr.CALC_TRIM_CFG ERANGE
  else h.wr Addr.CALC_TRIM_CFG (v &&& 0xFFFFF#32)

/-! ### The calibration store (R163 to R166) -/

/-- CRC-32 of IEEE 802.3 of bytes. -/
def crc32 (l : List Byte) : Word := wd (crcOfBits (l.flatMap fun b => bitsLE 8 b.toNat))

/-- The registers of a spire record with their record offsets (R166, R167): address and offset. -/
def calRegs (n : Nat) : List (Nat × Nat) :=
  ((List.range 16).map fun i => (Addr.SNS_TRIM_OFS n + 4 * i, 4 * i)) ++
  ((List.range 32).flatMap fun c =>
    [(Addr.TRIM_OFS n c, 0x40 + 16 * c), (Addr.TRIM_GAIN n c, 0x44 + 16 * c), (Addr.TRIM_KEY n c, 0x48 + 16 * c),
     (Addr.TRIM_IRTD n c, 0x4C + 16 * c)]) ++
  ((List.range 192).map fun k => (Addr.SLICE_COEF n (k / 32) (k % 32), 0x240 + 4 * k)) ++
  ((List.range 512).map fun k => (Addr.FE_TABLE n (k / 16) (k % 16), 0x540 + 4 * k))

/-- The words of a spire record in order of offset (R166); offsets not named hold 0. -/
def Hub.calRecord (h : Hub) (n : Nat) : List Word :=
  ((calRegs n).map fun p => h.rd p.1) ++ List.replicate 48 0#32

/-- The save block (R166) at instant `t`. -/
def Hub.saveBlock (h : Hub) (t : Nat) : List Byte :=
  let head := [0x4C41434B#32, 1#32, h.rd Addr.SYS_DIE_ID_LO, h.rd Addr.SYS_DIE_ID_HI, h.rd Addr.SYS_STEPPING,
    h.rd Addr.SYS_FW_VER, kxWord t 0, kxWord t 1, kxWord t 2, h.rd Addr.CALC_DIE_TEMP] ++ List.replicate 53 0#32
  let a := wordBytes head
  let b := wordBytes ((List.range 16).flatMap h.calRecord)
  a ++ bytesOf (crc32 (a ++ b)).toNat 4 ++ b

/-- The address of the save block (R164). -/
def saveBase : Nat := 0x10000

/-- The first check of R165 that the save block fails, after the mode. -/
def Hub.restoreFault (h : Hub) : Option Nat :=
  let bytes (o n : Nat) := (List.range n).map fun i => h.domeByte (saveBase + o + i)
  if h.domeWord saveBase ≠ 0x4C41434B#32 then some ESIG
  else if h.domeWord (saveBase + 4) ≠ 1#32 then some EVERSION
  else if h.domeWord (saveBase + 8) ≠ h.rd Addr.SYS_DIE_ID_LO ∨ h.domeWord (saveBase + 12) ≠ h.rd Addr.SYS_DIE_ID_HI then some ESIG
  else if crc32 (bytes 0 0xFC ++ bytes 0x100 0xE000) ≠ h.domeWord (saveBase + 0xFC) then some ESIG
  else none

/-- The bits of a calibration register, by its record offset, that are not reserved (R167). -/
def calMask (o : Nat) : Word :=
  if o = 8 ∨ o = 0x14 then 0xFFFF#32
  else if 0x40 ≤ o ∧ o < 0x240 ∧ o % 16 = 8 then 0x8001E1FF#32
  else 0xFFFFFFFF#32

/-- The values the save block restores (R165): every writable calibration register but the read-only ones. -/
def Hub.restoreValues (h : Hub) : List (Nat × Word) :=
  (List.range 16).flatMap fun n =>
    ((calRegs n).filter fun p =>
      p.2 < 0x10 || p.2 = 0x14 || 0x40 ≤ p.2).map fun p =>
        (p.1, h.domeWord (saveBase + 0x100 + 0xE00 * n + p.2) &&& calMask p.2)

/-- The restored values take effect at the boundary of frame `f` (R165): the present spare keeps its coefficients, pending
requests are cleared. -/
def Hub.applyRestore (h : Hub) (f : Nat) (vals : List (Nat × Word)) : Hub :=
  let spareRegs := (List.range 16).flatMap fun n => (List.range 32).map fun k => Addr.SLICE_COEF n (h.spare n) k
  let h := forIn' vals (fun p h => if spareRegs.contains p.1 then h else h.calWrite f p.1 p.2) h
  forN 16 (fun n h =>
    if h.trimState n = trimPENDING then (h.wr (Addr.TRIM_STATUS n) 0#32).setBit Addr.CALC_TRIM_PEND n false else h) h

end Sys2Proof.Machine
end

