-- ==== Sys2Proof/Machine/Lantern.lean ====
section
/-!
DEFINITION. The Lantern (chapter 6) but for the firing of alarms: the PLL, servo commits, time sources and lock states,
trigger inputs, the grid, arming, PPS_OUT and TRIG_OUT.
-/

namespace Sys2Proof.Machine

/-! ### PLL and REFCLK (R170 to R172) -/

/-- The worse of two time states in the order LOCKED, HOLDOVER, FREE (R187). -/
def worseState (a b : Nat) : Nat := if a = 0 ∨ b = 0 then 0 else max a b

/-- PPS_OUT may be driven (R198): enabled, and the reported state is not FREE or FREE is allowed. -/
def Hub.ppsDriven (h : Hub) : Bool :=
  h.bit Addr.PPS_OUT_CFG 0 && (h.fld Addr.TIME_STATE 2 2 ≠ 0 || h.bit Addr.PPS_OUT_CFG 1)

/-- A pulse on PPS_OUT ends where the pin is no longer driven (R198). -/
def Hub.ppsGate (h : Hub) : Hub := if h.ppsDriven then h else { h with pins.ppsOut := none }

/-- Shows the reported state (R187): a hub on span time takes its upstream neighbour's state into account. -/
def Hub.showReported (h : Hub) : Hub :=
  let own := h.timeState
  let up := if h.fld Addr.TIME_SRC 0 2 = 1 then SMap.get 1 h.lan.laneState (h.fld Addr.TIME_STATE 10 2) else 1
  (h.setFld Addr.TIME_STATE 2 2 (worseState own up)).ppsGate

/-- Enters a time state (R186). -/
def Hub.setTimeState (h : Hub) (r s : Nat) : Hub :=
  let h := if s = 2 && h.timeState ≠ 2 then { h with lan.holdStart := r } else h
  ({ h with lan.good := 0, lan.bad := 0 }.setFld Addr.TIME_STATE 0 2 s).showReported

/-- The firmware runs: the stage of the boot ROM that is last (R410, R426). -/
def Hub.inFirmware (h : Hub) : Bool := h.fld Addr.SYS_BOOT_STATUS 0 4 = 5

/-- PLL_LOCK (R170, R426): once the firmware has set the REFCLK input, the PLL locks; the first lock in BOOT starts RAW (which
the step sets to 0). -/
def Hub.pllReady (h : Hub) : Bool := h.mode = .boot && !h.sys.pllLocked && h.inFirmware

def pllLock (h : Hub) : Hub :=
  if h.pllReady then { h with sys.pllLocked := true }.setBit Addr.LAN_STATUS 0 true else h

/-- A write to LAN_CFG after the access checks (R171): REF_FREQ is in force at once before the PLL locks in BOOT, else from the
next hub reset on. -/
def lanCfgStore (v : Word) (h : Hub) : Hub :=
  let h := h.wr Addr.LAN_CFG (v &&& 3#32)
  if h.mode = .boot && !h.sys.pllLocked then { h with lan.refFreq := bitsOf v 0 2, lan.refNext := none }
  else { h with lan.refNext := some (bitsOf v 0 2) }

/-- REFCLK_LOSS (R172): 1 µs without an edge. -/
def refclkLoss (r : Nat) (h : Hub) : Hub :=
  let h := ((h.setBit Addr.LAN_STATUS 0 false).setBit Addr.LAN_STATUS 1 true).setBit Addr.LAN_STATUS 2 true
  let h := h.setTimeState r 0
  h.report r 15 0 15 (h.rd Addr.TIME_STATE)

/-- REFCLK_RETURN (R172): the PLL relocks. -/
def refclkReturn (h : Hub) : Hub :=
  if h.bit Addr.LAN_STATUS 2 then
    (h.setBit Addr.LAN_STATUS 2 false).setBit Addr.LAN_STATUS 0 h.sys.pllLocked
  else h

/-! ### Servo commits (R174, R175) -/

/-- The staged rate, step and absolute time. -/
def Hub.servoRate (h : Hub) : Int := signed 40 ((h.rd Addr.SERVO_RATE_LO).toNat + 2 ^ 32 * h.fld Addr.SERVO_RATE_HI 0 8)
def Hub.servoStep (h : Hub) : Int := signed 64 (pair64 (h.rd Addr.SERVO_STEP_LO) (h.rd Addr.SERVO_STEP_HI))

/-- 500 ppm and 50 ppm in units of 2^-48 (R175, R185). -/
def ppm500 : Int := 140737488355
def ppm50 : Int := 14073748835

/-- The status of a servo commit of a kind: the first condition of R175 that holds. -/
def Hub.servoStatus (h : Hub) (kind : Nat) : Nat :=
  if kind = 3 then EUNKNOWN
  else if (kind = 1 ∨ kind = 2) ∧ h.timeFixed then ESTATE
  else if ppm500 < h.servoRate.natAbs then ERANGE
  else if !kxValid (h.rd Addr.SERVO_SET0) (h.rd Addr.SERVO_SET1) (h.rd Addr.SERVO_SET2) then ERANGE
  else if h.lan.staged.isSome then EBUSY
  else OK

/-- The first whole nanosecond of RAW at least 4 ns after `r` (R174). -/
def commitAt (r : Nat) : Nat := (r + 4 * nsU + (nsU - 1)) / nsU * nsU

/-- Stages a commit: STATUS reads OK and PEND 1 (R174, R199). It takes the rate, step and time of the write to `SERVO_CTRL`; a write
to a staging register before r_c does not reach it (log entry 56). -/
def Hub.stageServo (h : Hub) (r : Nat) (k : ServoKind) (rate step : Int) (set : Nat) : Hub :=
  { h with lan.staged := some { kind := k, rate := rate, step := step, set := set, rc := commitAt r } }.wr
    Addr.SERVO_STATUS (wd (OK + 256))

/-- A write to SERVO_CTRL after the access checks (R174, R175). -/
def servoCtrlStore (r : Nat) (v : Word) (h : Hub) : Hub :=
  let kind := bitsOf v 0 2
  let st := h.servoStatus kind
  let h := h.setFld Addr.SERVO_STATUS 0 8 st
  if st ≠ OK then h
  else
    let k : ServoKind := match kind with | 0 => .rate | 1 => .step | _ => .set
    h.stageServo r k h.servoRate h.servoStep (h.instAt Addr.SERVO_SET0)

/-! ### Sources and lock states (R184 to R188) -/

/-- An UPLINK lane is enabled (R184). -/
def Hub.uplinkEnabled (h : Hub) : Bool := (List.range 4).any fun l => h.laneEn l && h.laneRole l = 3

/-- TIME_SOURCE's effect, or its refusal (R184, R186). A measurement of the old source that the servo has not used is dropped. -/
def Hub.timeSource (h : Hub) (r src : Nat) : Nat × Hub :=
  if src = 2 && !h.uplinkEnabled then (ESTATE, h)
  else
    let old := h.fld Addr.TIME_SRC 0 2
    let h := h.wr Addr.TIME_SRC (wd src)
    let h := match src with
      | 1 => h.wr Addr.LOCK_CFG (wd (200 + 16 * 65536))
      | 2 => h.wr Addr.LOCK_CFG (wd (10000 + 16 * 65536))
      | 3 => h.wr Addr.LOCK_CFG (wd (2000 + 16 * 65536))
      | _ => h
    let h := if old ≠ src then { h with lan.meas := none }.setTimeState r (if src = 0 then 0 else 2) else h
    (OK, h.showReported)

/-- Counts a measurement towards R186. -/
def Hub.lockEvent (h : Hub) (r : Nat) (theta : Int) : Hub :=
  let th : Nat := 10 * h.fld Addr.LOCK_CFG 0 16
  let near := decide (theta.natAbs ≤ th)
  match h.timeState with
  | 0 =>
    let g := if near then h.lan.good + 1 else 0
    if h.fld Addr.LOCK_CFG 16 8 ≤ g then h.setTimeState r 1 else { h with lan.good := g }
  | 1 =>
    let b := if 8 * th < theta.natAbs then h.lan.bad + 1 else 0
    if 4 ≤ b then
      let h := h.setTimeState r 0
      h.report r 15 0 belfry (h.rd Addr.TIME_STATE)
    else { h with lan.bad := b }
  | _ => h.setTimeState r (if near then 1 else 0)

/-- A measurement for the servo: θ in `MEAS_OFFSET`, saturated (R199), and kept until SERVO_MEASUREMENT uses it. -/
def Hub.measured (h : Hub) (theta : Int) (k : Clock) : Hub :=
  { h with lan.meas := some { theta := theta, clock := k } }.wr Addr.MEAS_OFFSET
    (wdInt (clampInt (-(2 ^ 31)) (2 ^ 31 - 1) theta))

/-- SERVO_MEASUREMENT (R185, R186, R189): Belfry uses the last exchange's θ, or that of a PPS_IN edge, after removing what
its own commits have changed in corrected time since the instant of the measurement. It waits while Belfry is in reset (R18)
and while a commit awaits r_c. The gains of the proportional-integral law are not stated: estimate and slew are free within
their limits (log entry 8). -/
def servoMeasurement (r : Nat) (h : Hub) : Hub :=
  match h.lan.meas with
  | none => h
  | some m =>
  if h.fld Addr.TIME_SRC 0 2 = 0 || h.ctl.belfryHeld || h.lan.staged.isSome then h
  else
    let (theta, h) := h.drawQuotient (m.theta * nsU + ((h.timeAt r : Int) - m.clock.time r) * 1000) nsU
    let h := { h with lan.meas := none, lan.measAt := r }
    let h :=
      if !h.timeFixed && decide (1000000 < theta.natAbs) then
        -- one STEP commit removes the offset; ps to 2^-16 ns
        let (st, h) := h.drawQuotient (-theta * 65536) 1000
        h.stageServo r .step h.rate st 0
      else
        let (est, h) := h.drawInt (-ppm500) ppm500
        let (slew, h) := h.drawInt (-ppm50) ppm50
        { h with lan.freqEst := est }.stageServo r .rate (clampInt (-ppm500) ppm500 (est + slew)) 0 0
    h.lockEvent r theta

/-- The measurement interval of a source in 2^-16 ns (R184); a PTP server's Sync interval is no state of the hub. -/
def measInterval (src : Nat) : Nat := match src with | 1 => 62500000 * nsU | 3 => secU | _ => 0

/-- TIME_HOLDOVER_ENTER (R186): three intervals without a valid measurement. -/
def timeHoldoverEnter (r : Nat) (h : Hub) : Hub :=
  if h.timeState = 1 && decide (h.lan.measAt + 3 * measInterval (h.fld Addr.TIME_SRC 0 2) ≤ r) then h.setTimeState r 2 else h

/-- HOLDOVER_TIMEOUT (R186): the hold timer reaches HOLD_MAX. -/
def holdoverTimeout (r : Nat) (h : Hub) : Hub :=
  if h.timeState = 2 && decide (h.lan.holdStart + h.fld Addr.HOLD_MAX 0 16 * secU ≤ r) then
    let h := h.setTimeState r 0
    h.report r 15 0 belfry (h.rd Addr.TIME_STATE)
  else h

/-- `TIME_STATE` as read: with the whole seconds of the present HOLDOVER. -/
def Hub.timeStateWord (h : Hub) (r : Nat) : Word :=
  putBits (h.rd Addr.TIME_STATE) 12 20 (if h.timeState = 2 then min ((r - h.lan.holdStart) / secU) 0xFFFFF else 0)

/-! ### Snapshots and trigger inputs (R176, R178) -/

/-- RAW as a capture within the present nanosecond finds it: the fraction is interpolated, and free (R170, log entry 27). -/
def Hub.capture (h : Hub) (r : Nat) : Nat × Hub :=
  let (x, h) := h.drawInt 0 65535
  (r + x.toNat, h)

/-- TIME_NOW_READ (R176): latches T and RAW into master `m`'s bank. -/
def Hub.snapshot (h : Hub) (r m : Nat) : Hub :=
  let (r, h) := h.capture r
  { h with lan.snaps := SMap.put h.lan.snaps m (h.timeAt r, r) }

/-- The offset of a PPS_IN edge stamped `t`, a multiple of 125 ps, from the nearest whole second, in ps (R184). -/
def ppsOffset (t : Nat) : Int :=
  let e := t % secU
  (((if 2 * e < secU then (e : Int) else (e : Int) - secU) / 0x2000) * 125 : Int)

/-- A rising edge of PPS_IN is the servo's measurement where the source is PPS (R184, R189): a rising edge only, and one that
`TRIG_IN_CFG[4]` enables and selects (log entry 56). -/
def Hub.ppsMeasure (h : Hub) (i : Nat) (rise : Bool) (t : Nat) : Hub :=
  if i = 4 && rise && h.fld Addr.TIME_SRC 0 2 = 3 then h.measured (ppsOffset t) h.clock else h

/-- A selected edge of input `i` at the present time (R178); none where the edge is not selected. Timestamps have
125 ps resolution; the rounding is not stated (log entry 6). -/
def Hub.trigEdge (h : Hub) (r i : Nat) (rise : Bool) : Option Nat × Hub :=
  let e := h.fld (Addr.TRIG_IN_CFG i) 1 2
  if h.bit (Addr.TRIG_IN_CFG i) 0 && (if rise then e.testBit 0 else e.testBit 1) then
    let (r, h) := h.capture r
    let (q, h) := h.drawQuotient (h.timeAt r : Nat) 0x2000
    let t := q.toNat * 0x2000
    let h := h.ppsMeasure i rise t
    let h := h.incWrap (Addr.TRIG_IN_EDGE_CNT i) 0 32 1
    let q := SMap.get [] h.lan.fifos i
    if q.length < 16 then
      let q := q ++ [{ time := t, rise := rise, tstate := h.fld Addr.TIME_STATE 2 2 }]
      (some t, { h with lan.fifos := SMap.put h.lan.fifos i q })
    else (some t, h.incSat (Addr.TRIG_IN_OVF_CNT i) 0 16 1)
  else (none, h)

/-- A read of TRIG_IN_TS0 (R178): pops the FIFO head. -/
def Hub.trigPop (h : Hub) (i : Nat) : Word × Hub :=
  match SMap.get [] h.lan.fifos i with
  | [] => (0#32, h.setBit (Addr.TRIG_IN_INFO i) 0 false)
  | s :: q =>
    let h := { h with lan.fifos := SMap.put h.lan.fifos i q }
    let h := (h.wr (Addr.TRIG_IN_TS1 i) (kxWord s.time 1)).wr (Addr.TRIG_IN_TS2 i) (kxWord s.time 2)
    (kxWord s.time 0, h.wr (Addr.TRIG_IN_INFO i) (wd (1 + 2 * s.rise.toNat + 4 * s.tstate + 256 * q.length)))

/-! ### The grid (R181, R182) -/

/-- Starts grid alignment (R182). -/
def Hub.align (h : Hub) : Hub := (h.setBit Addr.GRID_STATUS 0 false).setBit Addr.GRID_STATUS 2 true

/-- GRID_PHASE_MEASURE (R181): the edge error `e` in ps; the loop moves the interpolator by at most 4 steps, by a law
that is not stated (log entry 8). An error that does not fit `GRID_ERR` is written modulo 2^16, and the second of the log's limit
is one of corrected time (log entry 56). -/
def gridPhaseMeasure (r : Nat) (e : Int) (h : Hub) : Hub :=
  if !h.sys.pllLocked then h else
    let h := h.wr Addr.GRID_ERR (wd (unsigned 16 e))
    let h := h.setFld Addr.GRID_ERR_MAX 0 16 (max (h.fld Addr.GRID_ERR_MAX 0 16) (min e.natAbs 0xFFFF))
    let (st, h) := h.drawInt (-4) 4
    let h := h.setFld Addr.GRID_PHASE 0 10 (unsigned 10 ((h.fld Addr.GRID_PHASE 0 10 : Nat) + st))
    if 1000 < e.natAbs then
      let h := h.setBit Addr.GRID_STATUS 1 true
      let t := h.timeAt r
      let recent := match h.lan.gridLogged with
        | some g => decide (t < g + secU)
        | none => false
      if recent then h else { h with lan.gridLogged := some t }.report r 16 0 15 (wd e.natAbs)
    else h

/-- A write to GRID_CTRL after the access checks (R182). -/
def gridCtrlStore (r m : Nat) (v : Word) (h : Hub) : Hub :=
  if !v.getLsbD 0 then h
  else if h.mode = .boot || h.mode = .idle || (h.mode = .service && !h.servicePlan) then h.align
  else h.refuse r m Addr.GRID_CTRL ESTATE

/-- GRID_ALIGN_COMPLETE (R182): the interpolator is set directly, to a position the spec does not state (log entry 8). -/
def gridAlignComplete (h : Hub) : Hub :=
  if h.bit Addr.GRID_STATUS 2 then
    let (p, h) := h.drawInt 0 1023
    ((h.setFld Addr.GRID_PHASE 0 10 p.toNat).setBit Addr.GRID_STATUS 2 false).setBit Addr.GRID_STATUS 0 true
  else h

/-! ### Arming alarms (R191, R194) -/

/-- The status of an arm (R191). -/
def Hub.armStatus (h : Hub) (r a : Nat) (w0 w1 w2 : Word) (per : Nat) : Nat :=
  if !kxValid w0 w1 w2 then ERANGE
  else if instOf w0 w1 w2 < h.timeAt r + 100 * nsU then ETIME
  else if per ≠ 0 ∧ per < 1000 * nsU then ERANGE
  else if per ≠ 0 ∧ (List.range 4).any (fun p =>
      h.fld (Addr.TRIG_OUT_CFG p) 1 4 = a && decide (per ≤ h.fld (Addr.TRIG_OUT_CFG p) 8 24 * nsU)) then ERANGE
  else OK

/-- Arms alarm `a` or refuses (R191). -/
def Hub.armAlarm (h : Hub) (r a : Nat) (w0 w1 w2 : Word) (per action : Nat) (mask : Word) : Nat × Hub :=
  let st := h.armStatus r a w0 w1 w2 per
  let h := h.setFld (Addr.ALM_STATUS a) 0 8 st
  if st ≠ OK then (st, h)
  else
    let h := (h.setBit (Addr.ALM_STATUS a) 8 true).setFld (Addr.ALM_STATUS a) 10 22 0
    let l : AlarmLatch := { target := instOf w0 w1 w2, per := per, action := action, capmask := mask }
    (OK, { h with lan.alarms := SMap.put h.lan.alarms a l })

/-- An alarm is armed. -/
def Hub.armed (h : Hub) (a : Nat) : Bool := h.bit (Addr.ALM_STATUS a) 8

/-- Disarms an alarm. -/
def Hub.disarm (h : Hub) (a : Nat) : Hub := h.setBit (Addr.ALM_STATUS a) 8 false

/-- The period registers of an alarm in 2^-16 ns. -/
def Hub.almPeriod (h : Hub) (a : Nat) : Nat := (h.rd (Addr.ALM_PER a)).toNat * nsU + h.fld (Addr.ALM_PER_FRAC a) 0 16

/-- A write to ALM_CTRL after the access checks (R191). -/
def almCtrlStore (r m a : Nat) (v : Word) (h : Hub) : Hub :=
  if v.getLsbD 0 && v.getLsbD 1 then h.refuse r m (Addr.ALM_CTRL a) ERANGE
  else if v.getLsbD 0 then
    (h.armAlarm r a (h.rd (Addr.ALM_TGT0 a)) (h.rd (Addr.ALM_TGT1 a)) (h.rd (Addr.ALM_TGT2 a)) (h.almPeriod a)
      (h.fld (Addr.ALM_ACTION a) 0 4) (h.rd (Addr.ALM_CAPMASK a))).2
  else if v.getLsbD 1 then h.disarm a
  else h

/-! ### Output pins (R197, R198) -/

/-- TRIG_OUT pins that show alarm `a` go active (R197). -/
def Hub.trigOutFire (h : Hub) (r a : Nat) : Hub :=
  forN 4 (fun p h =>
    if h.bit (Addr.TRIG_OUT_CFG p) 0 && h.fld (Addr.TRIG_OUT_CFG p) 1 4 = a then
      { h with pins.trigOut := SMap.put h.pins.trigOut p r } else h) h

/-- The level of TRIG_OUT[p] (R197, R199): POL 1 is active low. -/
def Hub.trigOutLevel (h : Hub) (p : Nat) : Bool :=
  (SMap.find h.pins.trigOut p).isSome != h.bit (Addr.TRIG_OUT_CFG p) 5

/-- TRIG_OUT[p] returns to its inactive level. -/
def Hub.trigOutOff (h : Hub) (p : Nat) : Hub :=
  { h with pins.trigOut := h.pins.trigOut.filter fun x => x.1 != p }

/-- TRIG_OUT_PULSE_END (R197): WIDTH ns after the active edge. -/
def trigOutPulseEnd (r p : Nat) (h : Hub) : Hub :=
  match SMap.find h.pins.trigOut p with
  | some s => if s + h.fld (Addr.TRIG_OUT_CFG p) 8 24 * nsU ≤ r then h.trigOutOff p else h
  | none => h

/-- A write to TRIG_OUT_CFG after the access checks (R197, R199). -/
def trigOutCfgStore (r m p : Nat) (v : Word) (h : Hub) : Hub :=
  if bitsOf v 8 24 < 8 then h.refuse r m (Addr.TRIG_OUT_CFG p) ERANGE
  else
    let h := h.wr (Addr.TRIG_OUT_CFG p) (v &&& 0xFFFFFF3F#32)
    if v.getLsbD 0 then h else h.trigOutOff p

/-- `r` is the first Lantern cycle of a second of T. -/
def Hub.secondAt (h : Hub) (r : Nat) : Bool :=
  h.timeAt r % secU = 0 || decide (nsU ≤ r) && h.timeAt r / secU != h.timeAt (r - nsU) / secU

/-- PPS_OUT_PULSE (R198): at a whole second. -/
def ppsOutPulse (r : Nat) (h : Hub) : Hub :=
  if h.ppsDriven && h.secondAt r then { h with pins.ppsOut := some r } else h

/-- PPS_OUT_PULSE_END (R198): WIDTH µs after the rise. -/
def ppsOutPulseEnd (r : Nat) (h : Hub) : Hub :=
  match h.pins.ppsOut with
  | some s => if s + h.fld Addr.PPS_OUT_CFG 8 24 * (1000 * nsU) ≤ r then { h with pins.ppsOut := none } else h
  | none => h

end Sys2Proof.Machine
end

