-- ==== Sys2Proof/Machine/Cape.lean ====
section
/-!
DEFINITION. The capture engine (chapter 9): units and their states, sample sets, triggers, span triggers, slots and the
trigger log.
-/

namespace Sys2Proof.Machine

def Hub.unit (h : Hub) (u : Nat) : CapUnit := SMap.get {} h.cape.units u
def Hub.setUnit (h : Hub) (u : Nat) (x : CapUnit) : Hub := { h with cape.units := SMap.put h.cape.units u x }
def Hub.modUnit (h : Hub) (u : Nat) (f : CapUnit → CapUnit) : Hub := h.setUnit u (f (h.unit u))

/-! ### Configuration (R256 to R261) -/

/-- States of `CAP_STATE` (R265, R286). -/
def capDISARMED : Nat := 0
def capARMED : Nat := 1
def capPENDING : Nat := 2
def capRECORDING : Nat := 3
def capSTREAMING : Nat := 4
def capCLOSING : Nat := 5
def capFULL : Nat := 6

def Hub.capState (h : Hub) (u : Nat) : Nat := h.fld (Addr.CAP_STATE u) 0 3
def Hub.setCap (h : Hub) (u s : Nat) : Hub := h.setFld (Addr.CAP_STATE u) 0 3 s
def Hub.capSlot (h : Hub) (u : Nat) : Nat := h.fld (Addr.CAP_STATE u) 3 5
def Hub.capStream (h : Hub) (u : Nat) : Bool := h.bit (Addr.CAP_CFG u) 0
def Hub.capTap (h : Hub) (u : Nat) : Nat := h.fld (Addr.CAP_CFG u) 1 2
def Hub.capFmt (h : Hub) (u : Nat) : Nat := h.fld (Addr.CAP_CFG u) 3 2
def Hub.boxK (h : Hub) (u : Nat) : Nat := h.fld (Addr.CAP_CFG u) 5 4
def Hub.nch (h : Hub) (u : Nat) : Nat := h.fld (Addr.CAP_CFG u) 9 6
def Hub.capPre (h : Hub) (u : Nat) : Nat := h.fld (Addr.CAP_PRE u) 0 24
def Hub.capPost (h : Hub) (u : Nat) : Nat := h.fld (Addr.CAP_POST u) 0 24
def Hub.capLate (h : Hub) (u : Nat) : Nat := h.fld (Addr.CAP_LATE u) 0 24
def Hub.capBase (h : Hub) (u : Nat) : Nat := (h.rd (Addr.CAP_BASE u)).toNat
def Hub.capSize (h : Hub) (u : Nat) : Nat := (h.rd (Addr.CAP_SIZE u)).toNat

/-- Entry `i` of a unit's channel list (R286). -/
def Hub.capChan (h : Hub) (u i : Nat) : Nat := h.fld (Addr.CAP_CHAN u (i / 2)) (16 * (i % 2)) 10

/-- A unit's channel list (R256). -/
def Hub.capChans (h : Hub) (u : Nat) : List Nat := (List.range (h.nch u)).map (h.capChan u)

/-- Bytes of a sample in a format (R256). -/
def fmtBytes : Nat → Nat
  | 0 => 2 | 1 => 4 | _ => 8

/-- Bytes of a sample set. -/
def Hub.setBytes (h : Hub) (u : Nat) : Nat := h.nch u * fmtBytes (h.capFmt u)

/-- AREA_N (R261, R275). -/
def Hub.areaN (h : Hub) (u : Nat) : Nat := h.capPre u + h.capLate u + (if h.capStream u then 0 else h.capPost u)

/-- REC (R261). -/
def Hub.recBytes (h : Hub) (u : Nat) : Nat := 64 * ((128 + 80 * h.nch u + h.areaN u * h.setBytes u + 8 + 63) / 64)

/-- NREC (R261); a stream-through unit has one area. -/
def Hub.nrec (h : Hub) (u : Nat) : Nat :=
  if h.capStream u then (if 128 + h.areaN u * h.setBytes u ≤ h.capSize u then 1 else 0)
  else min 32 (h.capSize u / h.recBytes u)

/-- The address of slot `s` (R261). -/
def Hub.slotAddr (h : Hub) (u s : Nat) : Nat := h.capBase u + (if h.capStream u then 0 else s * h.recBytes u)

/-- The address of the sample area of slot `s` (R262, R275). -/
def Hub.areaAddr (h : Hub) (u s : Nat) : Nat := h.slotAddr u s + 128 + (if h.capStream u then 0 else 80 * h.nch u)

/-- The filter configuration of channel number `g`. -/
def Hub.chanCfg (h : Hub) (g : Nat) : FiltCfg := h.filtCfg (g / 32) (g % 32)

/-- The configuration meets R256 and R257; `shift` is what R468 has put between a channel's output index and its grid
position, which a plan starts from 0. -/
def Hub.capConfigOk (h : Hub) (u : Nat) (shift : Nat → Int) : Bool :=
  let tap := h.capTap u
  let fmt := h.capFmt u
  let cs := h.capChans u
  let same {β : Type} [DecidableEq β] (f : Nat → β) : Bool := cs.all fun g => f g = f (cs.headD 0)
  decide (1 ≤ h.nch u) && decide (h.nch u ≤ 32) && decide (h.boxK u ≤ 8) && cs.all (fun g => decide (g < 512)) &&
    (h.capStream u || h.capPost u ≠ 0) &&
    (match tap with
      | 0 => fmt < 2
      | 1 => fmt = 1 && cs.all fun g => (h.chanCfg g).tap
      | 2 => fmt = 2 && h.boxK u = 0
      | _ => false) &&
    (if tap = 2 then
      same (fun g => ((h.chanCfg g).ratio * (h.chanCfg g).period, (h.chanCfg g).phase, h.epoch (g / 32), shift g))
     else same (fun g => (h.chanCfg g).wide))

/-- The allocation meets R260. -/
def Hub.capPlaced (h : Hub) (u : Nat) : Bool :=
  let b := h.capBase u
  let e := b + h.capSize u
  h.capSize u = 0 || decide ((h.rd Addr.SYS_DOME_CAPTURE_BASE).toNat ≤ b) && decide (e ≤ (h.rd Addr.SYS_DOME_JOURNAL_BASE).toNat) &&
    (List.range 32).all (fun v =>
      v = u || h.capSize v = 0 || decide (e ≤ h.capBase v) || decide (h.capBase v + h.capSize v ≤ b))

/-! ### The trigger log (R284) -/

/-- Reasons of the trigger log. -/
def TAKEN : Nat := 0
def BUSY : Nat := 1
def MISSED_REARM : Nat := 2
def MISSED_FULL : Nat := 3
def TOO_LATE : Nat := 4
def HIT_LOST : Nat := 5
def TRUNC : Nat := 6

/-- A trigger outcome is counted and, but for TAKEN without LOG_TAKEN, logged (R284). -/
def Hub.trigLog (h : Hub) (u : Nat) (t : CapTrig) (reason : Nat) : Hub :=
  let h := h.incWrap (Addr.CAPE_REASON_CNT reason) 0 32 1
  if reason = TAKEN && !h.bit Addr.CAPE_LOG_CFG 0 then h
  else
    let e := h.fld Addr.CAPE_LOG_HEAD 0 8
    let h := h.wr3 (Addr.CAPE_LOG_TIME0 e) (kxWord t.time 0) (kxWord t.time 1) (kxWord t.time 2)
    let h := h.wr (Addr.CAPE_LOG_INFO e) (wd (u % 32 + 32 * (t.src % 16) + 512 * (t.detail % 1024) + 2 ^ 19 * reason))
    (h.setFld Addr.CAPE_LOG_HEAD 0 8 (e + 1)).incWrap Addr.CAPE_LOG_HEAD 8 24 1

/-- A trigger not taken while the unit is not DISARMED (R286: CAP_MISSED). -/
def Hub.trigMissed (h : Hub) (u : Nat) (t : CapTrig) (reason : Nat) : Hub :=
  (h.trigLog u t reason).incWrap (Addr.CAP_MISSED u) 0 32 1

/-! ### Slots and arming (R263 to R267) -/

/-- `SLOT_POL` = RECYCLE (R267). -/
def Hub.recycles (h : Hub) (u : Nat) : Bool := h.bit (Addr.CAP_CFG u) 17

/-- The slot to arm: the next slot without a record from `start` up, wrapping, or the oldest complete one under RECYCLE,
delivered or not (R265, R267). -/
def Hub.pickSlot (h : Hub) (u start : Nat) : Option Nat :=
  let n := h.nrec u
  let recs := (h.unit u).recs
  match (List.range n).find? fun i => recs.all fun r => r.slot ≠ (start + i) % n with
  | some i => some ((start + i) % n)
  | none =>
    if h.capStream u then some 0
    else if h.recycles u then (recs.find? fun r => r.st ≠ .closed).map (·.slot)
    else none

/-- The index of the first set whose samples all come after the present instant `t` (R265). -/
def Hub.firstSet (h : Hub) (u t : Nat) : Int :=
  if h.capTap u = 2 then (h.capChans u).foldl (fun m g => max m ((h.chan g).nextK : Int)) 0
  else
    let last := (h.capChans u).map fun g =>
      ((t : Int) - (h.epoch (g / 32) : Nat)) / ((h.chanCfg g).period : Nat) - ((h.chanCfg g).cdelay : Nat)
    let m := last.foldl max (last.headD 0)
    m / (2 ^ h.boxK u : Nat) + 1

/-- Arms a slot (R263, R265): marked invalid, no sets since arm. -/
def Hub.armSlot (h : Hub) (u s t : Nat) : Hub :=
  let g := h.firstSet u t
  let h := h.modUnit u fun x =>
    { x with next := g, first := g, trig := none, holes := [], missed := 0, recs := x.recs.filter fun r => r.slot ≠ s }
  let h := (h.setFld (Addr.CAP_STATE u) 3 5 s).setCap u capARMED
  let h := h.setBit (Addr.CAP_SLOTS u) s false
  if h.capStream u then h
  else (h.domeWrite (h.slotAddr u s) 4 0xFFFFFFFF).domeWrite (h.slotAddr u s + h.recBytes u - 8) 4 0xFFFFFFFF

/-- Arms the unit in a slot from `start` up, or leaves it FULL (R265). -/
def Hub.armOrFull (h : Hub) (u start t : Nat) : Hub :=
  match h.pickSlot u start with
  | some s => h.armSlot u s t
  | none => h.setCap u capFULL

/-- Whether master `m`, with context `x` when it is a Turret, owns the unit. -/
def Hub.owns (h : Hub) (u m x : Nat) : Bool :=
  h.fld (Addr.CAP_STATE u) 8 4 = m && (!(decide (1 ≤ m) && decide (m ≤ 4)) || h.fld (Addr.CAP_STATE u) 12 8 = x)

/-- ARM by a master or a context (R251, R257, R260, R261, R264, R265): the status and the hub. -/
def Hub.capArm (h : Hub) (r u m x : Nat) : Nat × Hub :=
  if !(h.mode = .run || h.mode = .shadow || h.mode = .service) then (ESTATE, h)
  else if h.capState u ≠ capDISARMED then (if h.owns u m x then ESTATE else EBUSY, h)
  else if !h.capConfigOk u (fun g => (h.chan g).jShift) then (ESTATE, h)
  else if !h.capPlaced u || h.nrec u = 0 then (ESIZE, h)
  else
    let h := (h.setFld (Addr.CAP_STATE u) 8 4 m).setFld (Addr.CAP_STATE u) 12 8 (if 1 ≤ m ∧ m ≤ 4 then x else 0)
    let h := h.setFld (Addr.CAP_STATE u) 20 6 (h.nrec u)
    (OK, h.armOrFull u 0 (h.timeAt r))

/-! ### Sample sets (R256 to R259, R273) -/

/-- The instant of set `g` (R259). -/
def Hub.setInstant (h : Hub) (u : Nat) (g : Int) : Nat :=
  let c := h.capChan u 0
  let f := h.chanCfg c
  let e := h.epoch (c / 32)
  if h.capTap u = 2 then f.instant e (g + (h.chan c).jShift)
  else
    let k : Int := (2 ^ h.boxK u : Nat)
    ((e : Int) + (2 * g * k + k - 1) * ((f.period / 2 : Nat) : Int)).toNat

/-- Ts in 2^-16 ns (R256). -/
def Hub.setPeriod (h : Hub) (u : Nat) : Nat :=
  let f := h.chanCfg (h.capChan u 0)
  if h.capTap u = 2 then f.ratio * f.period else f.period * 2 ^ h.boxK u

/-- The sample of raw index `i` is known at instant `t` to be present or missing: it or a later one has come, or no code can come
any more. The last slot of the next frame converts at 70 ns of it and its code leaves 140 ns later (R98, R100, R102), within four
frames of the sample's own. -/
def Hub.sampleKnown (h : Hub) (c : Nat) (i : Int) (t : Nat) : Bool :=
  ((h.chan c).raw.head?.any fun s => decide (i ≤ s.idx)) ||
    decide ((frameOf (h.idxHeld (c / 32) (c % 32) i) + 4) * frameU ≤ t)

/-- Every sample of set `g` has reached the unit's FIFO at instant `t`, present or missing (R273): the instant of its last
raw sample has come, its code with it if it has one, and no code of the channel up to it is still on its way from the spire
(R27). -/
def Hub.setReady (h : Hub) (u : Nat) (g : Int) (t : Nat) : Bool :=
  (h.capChans u).all fun c =>
    if h.capTap u = 2 then decide (g < ((h.chan c).nextK : Int))
    else
      let f := h.chanCfg c
      let i : Int := (g + 1) * (2 ^ h.boxK u : Nat) - 1
      decide (f.rawInstant (h.epoch (c / 32)) (i + (f.cdelay : Nat)) ≤ t) && h.sampleKnown c i t &&
        (h.spire (c / 32)).fifo.all fun x =>
          x.entry.all fun e => e.1 ≠ c % 32 || decide (i < h.idxOf (c / 32) (c % 32) x.frame)

/-- Unit states that take sample sets (R265). -/
def Hub.capTakes (h : Hub) (u : Nat) : Bool :=
  let st := h.capState u
  st = capARMED || st = capPENDING || st = capRECORDING || st = capSTREAMING

/-- A unit's FIFO holds a complete set (R273): those from the next one to be stored up to the last arrived. -/
def Hub.setWaits (h : Hub) (u t : Nat) : Bool := h.capTakes u && h.setReady u (h.unit u).next t

/-- The FIFOs are served round-robin (R273): none between the unit served last and `u` holds a complete set. -/
def Hub.capTurn (h : Hub) (u t : Nat) : Bool :=
  (List.range ((u + 31 - h.cape.served) % 32)).all fun i => !h.setWaits ((h.cape.served + 1 + i) % 32) t

/-- Sets that a unit's FIFO of 4 KiB holds (R273). -/
def Hub.fifoSets (h : Hub) (u : Nat) : Nat := 4096 / max 1 (h.setBytes u)

/-- A set of the open record has found the FIFO full (R274): it arrived with as many sets waiting before it as fit. -/
def Hub.setLostFull (h : Hub) (u t : Nat) : Bool :=
  let x := h.unit u
  let g := x.next + (h.fifoSets u : Nat)
  (h.capState u = capRECORDING || h.capState u = capSTREAMING) && h.setReady u g t &&
    ((h.capStream u && h.capPost u = 0) || decide (g < x.s0 + (h.capPost u : Nat)))

/-- num / den rounded to the nearest integer, ties to even. -/
def rneInt (n : Int) (d : Nat) : Int := let q : Int := rne n.natAbs d; if n < 0 then -q else q

/-- A channel's sample of set `g`: its bytes, whether the group has a missing sample, whether it has none (R258). -/
def Hub.sampleOf (h : Hub) (u c : Nat) (g : Int) : List Byte × Bool × Bool :=
  let k := 2 ^ h.boxK u
  let idx := (List.range k).map fun j => g * (k : Nat) + (j : Nat)
  match h.capTap u with
  | 2 =>
    match (h.chan c).outs.find? fun o => (o.k : Int) = g with
    | some o => (bytesOf o.value.toNat 4 ++ bytesOf (o.flags + 256 * (o.k % 2 ^ 24)) 4, o.flags.testBit 3, o.flags.testBit 7)
    | none => (bytesOf 0 4 ++ bytesOf (136 + 256 * unsigned 24 g) 4, true, true)
  | 1 =>
    let taps := idx.map fun i => h.fastTap (c / 32) (c % 32) i
    let live := taps.filter fun t => !t.2.testBit 7
    let fl := taps.foldl (fun a t => a ||| t.2) 0
    if live.isEmpty then (bytesOf 136 4, true, true)
    else
      let v := rneInt (live.foldl (fun a t => a + t.1) 0) live.length
      (bytesOf (unsigned 24 v * 256 + fl) 4, fl.testBit 3, false)
  | _ =>
    let ss := idx.filterMap fun i => (h.chan c).raw.find? fun s => s.idx = i
    let sum := ss.foldl (fun a s => a + s.code) 0
    let hole := decide (ss.length < k)
    if h.capFmt u = 0 then
      (bytesOf (if ss.isEmpty then 0 else unsigned 16 (rneInt sum ss.length)) 2, hole, ss.isEmpty)
    else if ss.isEmpty then (bytesOf 136 4, true, true)
    else
      let fl := markFlags ss + (if hole then 8 else 0)
      (bytesOf (unsigned 24 (rneInt (256 * sum) ss.length) * 256 + fl) 4, hole, false)

/-- The area position of set `g` (R262). -/
def Hub.areaPos (h : Hub) (u : Nat) (g : Int) : Nat := ((g - (h.unit u).first) % ((max 1 (h.areaN u) : Nat) : Int)).toNat

/-- The bytes of set `g` as they stand in the area. -/
def Hub.areaSet (h : Hub) (u : Nat) (g : Int) : List Byte :=
  let a := h.areaAddr u (h.capSlot u) + h.areaPos u g * h.setBytes u
  (List.range (h.setBytes u)).map fun i => h.domeByte (a + i)

/-- The oldest set still in the area. -/
def Hub.oldestSet (h : Hub) (u : Nat) : Int := max (h.unit u).first ((h.unit u).next - (h.areaN u : Nat))

/-! ### Records (R262, R268, R275) -/

/-- `DESC` of a record (R262). -/
def Hub.capDesc (h : Hub) (u tstate : Nat) : Nat :=
  u + 32 * (if h.capStream u then 1 else 0) + 64 * h.capTap u + 256 * h.capFmt u + 1024 * h.boxK u + 2 ^ 14 * h.nch u +
    2 ^ 20 * tstate + 2 ^ 22 * h.fld Addr.SPAN_CFG 0 6

/-- The first 128 bytes of a record (R262). -/
def CapRec.header (x : CapRec) (chans : List Nat) : List Byte :=
  let t := x.trig
  let half (i : Nat) : Nat := chans.getD i 0xFFFF
  wordBytes ([wd x.seq, wd x.desc, kxWord t.time 0, kxWord t.time 1, kxWord t.time 2, wd (t.src + 16 * t.detail),
    kxWord x.firstTime 0, kxWord x.firstTime 1, kxWord x.firstTime 2, wd x.ts, wd (x.ts / 2 ^ 32), wd x.preN, wd x.count,
    wd x.areaN, wd x.firstOfs, wd x.status] ++ (List.range 16).map fun i => wd (half (2 * i) + 65536 * half (2 * i + 1)))

/-- The record of the open trigger, with `count` sets and closing status bits (R262). -/
def Hub.recordOf (h : Hub) (u count status : Nat) : CapRec :=
  let x := h.unit u
  let g0 := x.s0 - (x.preN : Nat)
  let holes := x.holes.filterMap fun p =>
    if g0 ≤ p.1 ∧ p.1 < g0 + (count : Nat) then some ((p.1 - g0).toNat, p.2) else none
  { slot := h.capSlot u, seq := (h.rd (Addr.CAP_SEQ u)).toNat + (x.recs.filter (fun q => q.st = .closed)).length,
    trig := x.trig.getD ⟨0, 0, 0, 0⟩, tstate := x.tstate, firstTime := h.setInstant u g0, ts := h.setPeriod u,
    preN := x.preN, count := count, areaN := h.areaN u, firstOfs := h.areaPos u g0,
    status := (if x.preN < h.capPre u then 1 else 0) + status, missed := x.missed, desc := h.capDesc u x.tstate,
    holes := holes }

/-- An element of the unit's stream-through stream (R275). -/
def Hub.streamBytes (h : Hub) (u : Nat) (b : List Byte) (starts ends : Bool) : Hub :=
  h.toLedger { stream := h.fld (Addr.CAP_STREAM u) 0 10, kind := .streamcap,
               inst := ((h.unit u).trig.map (·.time)).getD 0, bytes := b, starts := starts, ends := ends }

/-- Closes the open record with status bits: queued for measurement, or the trailer sent (R265, R275). -/
def Hub.closeRecord (h : Hub) (u status : Nat) : Hub :=
  let x := h.unit u
  let n := (x.next - (x.s0 - (x.preN : Nat))).toNat
  let full := x.preN + h.capPost u
  let count := if h.capStream u && h.capPost u = 0 then n else min n full
  let rec' := h.recordOf u count status
  let h := if status.testBit 1 then h.incSat Addr.CAPE_OVF_CNT 0 16 1 else h
  if h.capStream u then
    let h := h.streamBytes u (wordBytes [wd rec'.seq, wd rec'.status, wd count, 0#32]) false true
    ((h.incWrap (Addr.CAP_SEQ u) 0 32 1).modUnit u fun x => { x with trig := none }).setCap u capCLOSING
  else
    let h := h.modUnit u fun x => { x with trig := none, recs := x.recs ++ [rec'] }
    { h with cape.measQ := h.cape.measQ ++ [(u, rec'.slot)] }.setCap u capCLOSING

/-- Whether the last post-trigger set is stored (R265). -/
def Hub.postDone (h : Hub) (u : Nat) : Bool :=
  let x := h.unit u
  (!h.capStream u || h.capPost u ≠ 0) && decide (x.s0 + (h.capPost u : Nat) ≤ x.next)

/-- The trigger's s0 is found: PRE_N is fixed and the record is open (R265, R268); a stream-through unit sends the header and what
its area holds of the record (R275). -/
def Hub.openRecord (h : Hub) (u : Nat) (s0 : Int) : Hub :=
  let pre := min (h.capPre u) (s0 - h.oldestSet u).toNat
  let h := h.modUnit u fun x => { x with s0 := s0, preN := pre }
  if h.capStream u then
    let h := h.setCap u capSTREAMING
    let (w, h) := h.drawWord
    let rec' := { h.recordOf u 0 0 with count := w.toNat }
    let h := h.streamBytes u (rec'.header (h.capChans u)) true false
    let h := h.domeBytes (h.slotAddr u 0) (rec'.header (h.capChans u))
    let g0 := s0 - (pre : Nat)
    let last := if h.capPost u = 0 then (h.unit u).next else min (h.unit u).next (s0 + (h.capPost u : Nat))
    forN (last - g0).toNat (fun j h => h.streamBytes u (h.areaSet u (g0 + (j : Nat))) false false) h
  else h.setCap u capRECORDING

/-- A record whose last post-trigger set is stored closes (R265). -/
def Hub.closeDone (h : Hub) (u : Nat) : Hub :=
  if (h.capState u = capRECORDING || h.capState u = capSTREAMING) && h.postDone u then h.closeRecord u 0 else h

/-- Set `g` of the open trigger is its s0, and opens the record: the unit is PENDING, and the set's instant is at or after the
trigger time (R265, R268). -/
def Hub.opensAt (h : Hub) (u : Nat) (g : Int) : Bool :=
  h.capState u = capPENDING && (h.unit u).trig.any fun t => decide (t.time ≤ h.setInstant u g)

/-- The first set stored since arm whose instant is at or after `t` (R268), searched from the newest down. -/
def Hub.findS0 (h : Hub) (u t : Nat) : Nat → Int → Int
  | 0, g => g
  | fuel + 1, g =>
    if (h.unit u).first ≤ g - 1 ∧ t ≤ h.setInstant u (g - 1) then Hub.findS0 h u t fuel (g - 1) else g

/-- Set `g` of the unit goes to its place in the area, and the holes among its samples are noted (R262, R273). -/
def Hub.storeSet (h : Hub) (u : Nat) (g : Int) (parts : List (List Byte × Bool × Bool)) : Hub :=
  let holes := (List.range parts.length).filterMap fun i =>
    let p := parts.getD i ([], false, false)
    if p.2.1 then some (g, i, p.2.2) else none
  let h := if h.areaN u = 0 then h else
    h.domeBytes (h.areaAddr u (h.capSlot u) + h.areaPos u g * h.setBytes u) (parts.flatMap (·.1))
  let old := g + 1 - (h.areaN u : Nat)
  h.modUnit u fun x => { x with next := g + 1, holes := (x.holes.filter fun p => decide (old ≤ p.1)) ++ holes }

/-- CAPTURE_SET_STORED (R273, R274, R265): in its turn, a unit's next complete set is stored, or the record is closed because a
later set has found the FIFO full. Before a record is open the sets wait (log entry 55). A set that is s0 finds the whole reach of
the area before it (R270), and a stream-through unit sends it as it is stored (R275). -/
def captureSetStored (r u : Nat) (h : Hub) : Hub :=
  let t := h.timeAt r
  if !h.setWaits u t || !h.capTurn u t then h
  else if h.setLostFull u t then { h with cape.served := u }.closeRecord u 2
  else
    let g := (h.unit u).next
    let h := { h with cape.served := u }
    let parts := (h.capChans u).map fun c => h.sampleOf u c g
    let h := if h.opensAt u g then h.openRecord u g else h
    let h := h.storeSet u g parts
    let h := if h.capState u = capSTREAMING then h.streamBytes u (parts.flatMap (·.1)) false false else h
    h.closeDone u

/-- CAPTURE_REARM (R265): 1 000 Dome cycles after the close. -/
def captureRearm (r u : Nat) (h : Hub) : Hub :=
  if h.capState u = capCLOSING then
    if h.bit (Addr.CAP_CFG u) 15 then h.armOrFull u (h.capSlot u + 1) (h.timeAt r) else h.setCap u capDISARMED
  else h

/-! ### Triggers (R266, R268 to R272) -/

/-- A trigger reaches a unit (R269). -/
def Hub.addTrig (h : Hub) (u : Nat) (t : CapTrig) : Hub := h.modUnit u fun x => { x with queue := x.queue ++ [t] }

/-- A trigger to every unit that `sel` names. -/
def Hub.addTrigs (h : Hub) (sel : Nat → Bool) (t : CapTrig) : Hub :=
  forN 32 (fun u h => if sel u then h.addTrig u t else h) h

/-- The hits in the islands' FIFOs reach the units that list their channels (R269, R283). -/
def Hub.takeHits (h : Hub) (r : Nat) : Hub :=
  forN 16 (fun n h =>
    let q := (h.filt n).hits
    let h := if q.isEmpty then h else h.setFilt n { h.filt n with hits := [] }
    forIn' q (fun p h =>
      h.addTrigs (fun u => h.bit (Addr.CAP_TRIG u) 4 && (h.capChans u).contains p.1)
        { arrived := r, time := p.2, src := 0, detail := p.1 }) h) h

/-- A span trigger originates when a unit with SPAN_OUT takes a trigger that is not SPAN (R271). -/
def Hub.spanOriginate (h : Hub) (r u : Nat) (t : CapTrig) : Hub :=
  if h.bit (Addr.CAP_CFG u) 19 && t.src ≠ 3 && h.bit Addr.CAPE_SPAN_CFG 1 && h.activeRole then
    let id := h.fld (Addr.CAP_CFG u) 20 4
    let now := h.timeAt r
    let held := match SMap.find h.cape.spanLast id with
      | some l => decide (now < l + h.fld Addr.CAPE_SPAN_CFG 16 16 * 1000 * nsU)
      | none => false
    if held then h.incSat Addr.CAPE_SPAN_HOLD_CNT 0 16 1
    else
      let seq := SMap.get 0 h.cape.spanSeq id
      let pos := h.fld Addr.SPAN_CFG 0 6
      let m : SpanMsg := { pos := pos, id := id, seq := seq, time := t.time, src := t.src }
      let h := { h with cape.spanSeq := SMap.put h.cape.spanSeq id ((seq + 1) % 256),
                        cape.spanLast := SMap.put h.cape.spanLast id now, cape.spanOut := h.cape.spanOut ++ [m] }
      let h := h.incWrap Addr.CAPE_SPAN_TX_CNT 0 32 1
      h.addTrigs (fun v => v != u && h.bit (Addr.CAP_TRIG v) (16 + id))
        { arrived := r, time := t.time, src := 3, detail := pos + 64 * id }
  else h

/-- A unit handles one trigger (R265, R268). -/
def Hub.handleTrig (h : Hub) (r u : Nat) (t : CapTrig) : Hub :=
  let st := h.capState u
  if st = capDISARMED then h
  else if st = capARMED then
    let x := h.unit u
    let take (h : Hub) : Hub :=
      ((h.trigLog u t TAKEN).modUnit u fun x =>
        { x with trig := some t, tstate := h.fld Addr.TIME_STATE 2 2, missed := 0 }).spanOriginate r u t
    if x.next ≤ x.first ∨ h.setInstant u (x.next - 1) < t.time then (take h).setCap u capPENDING
    else
      let s0 := h.findS0 u t.time (x.next - x.first).toNat (x.next - 1)
      if s0 < h.oldestSet u then h.trigMissed u t TOO_LATE
      else ((take h).openRecord u s0).closeDone u
  else if st = capCLOSING then h.trigMissed u t MISSED_REARM
  else if st = capFULL then h.trigMissed u t MISSED_FULL
  else (h.trigMissed u t BUSY).modUnit u fun x => { x with missed := x.missed + 1 }

/-- Whether trigger `a` goes before `b`: earlier arrival; in one cycle the earlier time, then the order of R266. -/
def CapTrig.before (a b : CapTrig) : Bool :=
  decide (a.arrived < b.arrived) || (a.arrived = b.arrived &&
    (decide (a.time < b.time) || (a.time = b.time && decide (a.src < b.src))))

/-- The trigger a unit handles next. -/
def firstTrig : List CapTrig → Option CapTrig
  | [] => none
  | t :: ts => match firstTrig ts with
    | some b => if b.before t then some b else some t
    | none => some t

/-- CAPTURE_TRIGGER (R266, R268): unit `u` handles its earliest trigger; the others of that cycle are logged BUSY. -/
def captureTrigger (r u : Nat) (h : Hub) : Hub :=
  let h := h.takeHits r
  match firstTrig (h.unit u).queue with
  | none => h
  | some t =>
    let others := ((h.unit u).queue.erase t).filter fun x => x.arrived = t.arrived
    let h := h.modUnit u fun x => { x with queue := (x.queue.erase t).filter fun y => y.arrived ≠ t.arrived }
    let off := h.capState u = capDISARMED
    let h := h.handleTrig r u t
    if off then h
    else forIn' others (fun o h => (h.trigMissed u o BUSY).modUnit u fun x =>
      if x.trig.isSome then { x with missed := x.missed + 1 } else x) h

/-- HIT_LOST_LOG (R283): a lost hit is logged once the FIFO has room. -/
def hitLostLog (n : Nat) (h : Hub) : Hub :=
  let q := h.filt n
  match q.lost with
  | (g, t) :: rest =>
    if q.hits.length < 64 then
      -- the log's unit field of a hit that reached no unit is not stated
      let (u, h) := h.drawInt 0 31
      (h.setFilt n { q with lost := rest }).trigLog u.toNat { arrived := 0, time := t, src := 0, detail := g } HIT_LOST
    else h
  | [] => h

/-- TRIG_IN_EDGE (R178, R269): an edge is timestamped, and triggers the units that enable the pin. -/
def trigInEdge (r i : Nat) (rise : Bool) (h : Hub) : Hub :=
  match h.trigEdge r i rise with
  | (some t, h) =>
    if i < 4 then h.addTrigs (fun u => h.bit (Addr.CAP_TRIG u) i) { arrived := r, time := t, src := 1, detail := i } else h
  | (none, h) => h

/-- SPAN_TRIG (R272): a received span trigger, or a duplicate within 10 ms. -/
def spanTrig (r : Nat) (m : SpanMsg) (h : Hub) : Hub :=
  if !h.bit Addr.CAPE_SPAN_CFG 0 then h
  else
    let now := h.timeAt r
    let recent := h.cape.accepted.filter fun a => decide (now < a.2.2.2 + 10000000 * nsU)
    if recent.any fun a => a.1 = m.pos && a.2.1 = m.id && a.2.2.1 = m.seq then h.incSat Addr.CAPE_SPAN_DUP_CNT 0 16 1
    else
      let h := { h with cape.accepted := (m.pos, m.id, m.seq, now) :: recent }.incWrap Addr.CAPE_SPAN_RX_CNT 0 32 1
      h.addTrigs (fun u => h.bit (Addr.CAP_TRIG u) (16 + m.id % 16))
        { arrived := r, time := m.time, src := 3, detail := m.pos % 64 + 64 * (m.id % 16) }

/-! ### DISARM, FIRE, RELEASE (R251, R264, R265, R267) -/

/-- The unit goes to DISARMED (R265): an open record closes with TRUNC, a pending trigger is logged TRUNC. -/
def Hub.capIdle (h : Hub) (u : Nat) : Hub :=
  let st := h.capState u
  let h :=
    if st = capRECORDING || st = capSTREAMING then h.closeRecord u 4
    else if st = capPENDING then
      match (h.unit u).trig with
      | some t => (h.trigLog u t TRUNC).modUnit u fun x => { x with trig := none }
      | none => h
    else h
  if st = capDISARMED then h else h.setCap u capDISARMED

/-- DISARM (R251, R264). -/
def Hub.capDisarm (h : Hub) (u m x : Nat) : Nat × Hub :=
  if h.capState u = capDISARMED then (ESTATE, h)
  else if !h.owns u m x && m ≠ belfry then (EBUSY, h)
  else (OK, h.capIdle u)

/-- FIRE (R251): a trigger with its time, source and detail. -/
def Hub.capFire (h : Hub) (r u time src detail : Nat) : Nat × Hub :=
  if h.capState u = capDISARMED then (ESTATE, h)
  else (OK, h.addTrig u { arrived := r, time := time, src := src, detail := detail })

/-- A slot's record goes: a FULL unit is armed as from DISARMED (R265, R267). -/
def Hub.freeSlot (h : Hub) (r u s : Nat) : Hub :=
  let h := (h.modUnit u fun x => { x with recs := x.recs.filter fun q => q.slot ≠ s }).setBit (Addr.CAP_SLOTS u) s false
  if h.capState u = capFULL then h.armOrFull u 0 (h.timeAt r) else h

/-- RELEASE of a slot (R267). -/
def Hub.capRelease (h : Hub) (r u s : Nat) : Nat × Hub :=
  if !h.bit (Addr.CAP_CFG u) 17 && !h.bit (Addr.CAP_CFG u) 16 &&
      (h.unit u).recs.any (fun q => q.slot = s && q.st = .complete) then (OK, h.freeSlot r u s)
  else (ESTATE, h)

/-- A write to CAP_CTRL after the access checks (R264). -/
def capCtrlStore (r m u : Nat) (v : Word) (h : Hub) : Hub :=
  let (st, h) : Nat × Hub := match bitsOf v 0 4 with
    | 1 => h.capArm r u m 0
    | 2 => h.capDisarm u m 0
    | 4 => h.capFire r u (h.timeAt r) 5 m
    | 8 => h.capRelease r u (bitsOf v 8 5)
    | _ => (ERANGE, h)
  h.wr (Addr.CAP_RESULT u) (wd (st + 256 * m))

/-- Slots of delivered records whose last packet the Ledger has released are freed under HOLD (R267). -/
def Hub.freeDelivered (h : Hub) (r : Nat) : Hub :=
  forIn' ((h.cape.units.map Prod.fst).filter fun u => !h.recycles u) (fun u h =>
    let s := h.fld (Addr.CAP_STREAM u) 0 10
    let st := h.stream s
    let q := h.queue (h.streamQueue s)
    let gone (last : Nat) : Bool :=
      decide (last < st.prod) && st.opn.all (fun p => decide (last < p.seq)) &&
        q.pkts.all (fun p => p.stream ≠ s || p.kind ≠ .record || decide (last < p.seq) || decide (p.last < last))
    forIn' (h.unit u).recs (fun x h => match x.st with
      | .delivering last => if gone last then h.freeSlot r u x.slot else h
      | _ => h) h) h

/-- RECORD_DELIVER (R276): the unit's oldest complete record is handed to the Ledger when the stream's rate bucket holds
an element; a hub in STANDBY delivers none. -/
def recordDeliver (r u : Nat) (h : Hub) : Hub :=
  let x := h.unit u
  let s := h.fld (Addr.CAP_STREAM u) 0 10
  let now := h.timeAt r
  let rate := ((h.sys.plan.rates.find? fun p => p.1 = s).map Prod.snd).getD 0
  if !h.bit (Addr.CAP_CFG u) 16 || h.capStream u || !h.activeRole then h
  else match x.recs.find? (fun q => q.st = .complete && (h.led.takeover.isNone || decide (h.led.tm.getD 0 < q.trig.time))), bucketTake rate x.tokens x.refilled now with
    | some q, some lvl =>
      let n := h.recBytes u
      let bytes := (List.range n).map fun i => h.domeByte (h.slotAddr u q.slot + i)
      let waiting := (h.led.inQ.filter fun e => e.stream = s).foldl (fun a e => a + e.bytes.length) 0
      let last := (h.stream s).prod + waiting + n - 1
      let h := h.modUnit u fun x =>
        { x with tokens := some lvl, refilled := now,
                 recs := x.recs.map fun p => if p.slot = q.slot then { p with st := .delivering last } else p }
      h.toLedger { stream := s, kind := .record, inst := q.trig.time, bytes := bytes, starts := true, ends := true }
    | _, _ => h

/-- `CAPE_STATUS` (R286); more than 63 records awaiting measurement read as 63, which the spec does not state (log entry 55). -/
def Hub.capeStatus (h : Hub) : Word :=
  let n (f : Nat → Bool) : Nat := ((List.range 32).filter f).length
  wd (n (fun u => h.capState u ≠ capDISARMED) + 64 * n (fun u => h.capState u = capRECORDING || h.capState u = capSTREAMING) +
    4096 * min 63 h.cape.measQ.length)

/-- Every unit goes to DISARMED (R265: STOP, ABORT). -/
def Hub.capStop (h : Hub) : Hub := forN 32 (fun u h => h.capIdle u) h

/-- Every unit goes to DISARMED and loses its records (R265: LOAD_PLAN, hub reset). -/
def Hub.capClear (h : Hub) : Hub :=
  let h := forN 32 (fun u h =>
    if h.capState u = capDISARMED && (h.unit u).recs.isEmpty then h
    else (h.setCap u capDISARMED).wr (Addr.CAP_SLOTS u) 0#32) h
  { h with cape.units := [], cape.measQ := [] }

end Sys2Proof.Machine
end

