-- ==== Sys2Proof/Machine/Measure.lean ====
section
/-!
DEFINITION. Record measurements (R277 to R279), in binary64 in the order of the samples.
-/

namespace Sys2Proof.Machine

/-- A stored sample as the measurement unit reads it: index in the record, value, flag byte, present (R278). -/
structure MeasSample where
  idx : Nat
  x : FP
  flags : Nat
  present : Bool
  deriving DecidableEq, Repr

/-- Sample `j` of list entry `i` of a record, read back from the Dome (R277, R278). -/
def Hub.recSample (h : Hub) (u : Nat) (q : CapRec) (i j : Nat) : MeasSample :=
  let w := fmtBytes (h.capFmt u)
  let a := h.areaAddr u q.slot + ((q.firstOfs + j) % max 1 q.areaN * h.nch u + i) * w
  match h.capFmt u with
  | 0 =>
    let hole := q.holes.find? fun p => p.1 = j && p.2.1 = i
    { idx := j, x := fpInt (signed 16 (h.domeRead a 2)) 0, flags := if hole.isSome then 8 else 0,
      present := !((hole.map (·.2.2)).getD false) }
  | 1 =>
    let v := h.domeWord a
    { idx := j, x := fpInt (v.toInt / 256) 0, flags := bitsOf v 0 8, present := !v.getLsbD 7 }
  | _ =>
    let v := h.domeWord a
    let fl := h.domeRead (a + 4) 1
    let c := h.capChan u i
    let fmt := h.afld (Addr.FCH_CFG (c / 32) (c % 32)) 8 2
    let x := if fmt = 0 then fpInt (v.toInt / 256) 0 else if fmt = 2 then f32Of v else fpInt v.toInt 0
    { idx := j, x := x, flags := fl, present := !fl.testBit 7 }

/-- The mean of values in binary64. -/
def fpMean (l : List FP) : FP := FP.div b64 (l.foldl (FP.add b64) (.fin false 0 0)) (ofInt64 l.length)

/-- The sample with the largest value under `lt`, the earliest on ties. -/
def firstBest (lt : FP → FP → Bool) (val : MeasSample → FP) : List MeasSample → Option MeasSample
  | [] => none
  | s :: t => match firstBest lt val t with
    | some b => if lt (val s) (val b) then some b else some s
    | none => some s

/-- floor of a finite value. -/
def FP.floor (x : FP) : Int :=
  match x with
  | .fin s m e => let n : Int := if s then -(m : Int) else m; (n * (pow2 e : Nat)) / (pow2 (-e) : Nat)
  | _ => 0

/-- The state of the XING procedure run over a record (R244, R278): side, previous sample, crossings. -/
structure CrossState where
  side : Option Bool := none
  prev : Option (FP × Nat) := none
  first : Option Int := none
  last : Int := 0
  n : Nat := 0
  deriving DecidableEq, Repr

/-- One sample of the XING procedure of R244 with level `b`, hysteresis `hy` and RISE edges. -/
def crossStep (b hy : FP) (st : CrossState) (s : MeasSample) : CrossState :=
  if !s.present then { st with prev := none }
  else
    let up := !FP.lt s.x (FP.add b64 b hy)
    let down := !FP.lt (FP.sub b64 b hy) s.x
    let (side, rise) : Bool × Bool := match st.side with
      | none => (!FP.lt s.x b, false)
      | some false => (up, up)
      | some true => (!down, false)
    let st := { st with side := some side }
    let st :=
      if rise then
        let pos : Int := match st.prev with
          | some (p, k) =>
            if s.idx = k + 1 then
              let q := FP.div b64 (FP.mul b64 (ofInt64 256) (FP.sub b64 b p)) (FP.sub b64 s.x p)
              (k : Int) * 256 + clampInt 0 255 q.floor
            else (s.idx : Int) * 256
          | none => (s.idx : Int) * 256
        { st with first := some (st.first.getD pos), last := pos, n := st.n + 1 }
      else st
    { st with prev := some (s.x, s.idx) }

/-- Bytes of a value as binary32 and as binary64. -/
def f32Bytes (x : FP) : List Byte := bytesOf (f32Word x).toNat 4
def f64Bytes (x : FP) : List Byte := bytesOf (f64Bits x) 8

/-- The measurement block of one channel (R278, R279): its 80 bytes, MFLAGS, and whether NOBASE applies. -/
def measureBlock (thr hy : FP) (basePre : Bool) (ts : Nat) (pre post : List MeasSample) : List Byte × Nat × Bool :=
  let live := post.filter (·.present)
  let fl := post.foldl (fun a s => a ||| s.flags) 0
  let preLive := pre.filter (·.present)
  let noBase := basePre && preLive.isEmpty
  if live.isEmpty then (bytesOf (fl % 256 + 1024) 4 ++ List.replicate 76 0#8, fl % 256 + 1024, noBase)
  else
    let b := if basePre && !noBase then fpMean (preLive.map (·.x)) else .fin false 0 0
    let d (s : MeasSample) : FP := FP.sub b64 s.x b
    let mx := (firstBest FP.lt (·.x) live).getD ⟨0, .nan, 0, true⟩
    let mn := (firstBest (fun a c => FP.lt c a) (·.x) live).getD ⟨0, .nan, 0, true⟩
    let pk := (firstBest FP.lt (fun s => (d s).abs) live).getD ⟨0, .nan, 0, true⟩
    let sq := (live.map fun s => FP.mul b64 (d s) (d s)).foldl (FP.add b64) (.fin false 0 0)
    let n := ofInt64 live.length
    let hit (s : MeasSample) : Bool := !FP.lt (d s).abs thr
    let exceeds (s : MeasSample) : Bool := !FP.lt (d s) thr
    let hits := live.filter hit
    let counts := (live.foldl (fun (a : Nat × Bool) s => (if exceeds s && !a.2 then a.1 + 1 else a.1, exceeds s)) (0, false)).1
    let noHit := hits.isEmpty
    let firstHit := (hits.head?.map (·.idx)).getD 0
    let lastHit := (hits.getLast?.map (·.idx)).getD 0
    let cr := post.foldl (crossStep b hy) {}
    let noCross := decide (cr.n < 2)
    let tsec := ofFrac b64 ts 65536000000000
    let per := if noCross then .fin false 0 0 else
      FP.div b64 (FP.div b64 (ofInt64 (cr.last - cr.first.getD 0)) (ofInt64 (cr.n - 1))) (ofInt64 256)
    let freq := if noCross then .fin false 0 0 else FP.div b64 (ofInt64 1) (FP.mul b64 per tsec)
    let flags := fl % 256 + (if noHit then 256 else 0) + (if noCross then 512 else 0)
    let w (i : Int) : List Byte := bytesOf (unsigned 32 i) 4
    (bytesOf flags 4 ++ w live.length ++ f32Bytes b ++ f32Bytes mx.x ++ f32Bytes mn.x ++ f32Bytes (d pk) ++
      f32Bytes (FP.sub b64 mx.x mn.x) ++ f32Bytes (fpMean (live.map (·.x))) ++ f32Bytes (FP.sqrt (FP.div b64 sq n)) ++
      w mx.idx ++ w mn.idx ++ w pk.idx ++ w (if noHit then 0 else counts) ++
      w (if noHit then 0 else (lastHit : Int) - firstHit) ++ w (if noHit then 0 else (pk.idx : Int) - firstHit) ++
      f32Bytes per ++ f32Bytes freq ++ List.replicate 4 0#8 ++ f64Bytes (FP.mul b64 sq tsec), flags, noBase)

/-- The bytes written over a closed record: header, blocks, then `MISSED` after `SEQ_B` (R262, R277, R279). -/
def Hub.measureRecord (h : Hub) (u : Nat) (q : CapRec) : CapRec × List (List Byte) :=
  let thr := f32Of (h.rd (Addr.CAP_MEAS_THR u))
  let hy := f32Of (h.rd (Addr.CAP_MEAS_HYST u))
  let blocks := (List.range (h.nch u)).map fun i =>
    measureBlock thr hy (h.bit (Addr.CAP_CFG u) 18) q.ts ((List.range q.preN).map (h.recSample u q i))
      ((List.range (q.count - q.preN)).map fun j => h.recSample u q i (q.preN + j))
  let fl := blocks.foldl (fun a b => a ||| b.2.1) 0
  let status := q.status + (if fl.testBit 3 then 8 else 0) + (if blocks.any (·.2.2) then 16 else 0) +
    (if fl.testBit 0 then 32 else 0)
  ({ q with status := status }, blocks.map (·.1))

/-- RECORD_MEASURED (R277): the oldest closed record is measured; the slot becomes complete, and under RECYCLE a FULL unit is
armed in it (R265, R267). -/
def recordMeasured (r : Nat) (h : Hub) : Hub :=
  match h.cape.measQ with
  | [] => h
  | (u, s) :: rest =>
    let h := { h with cape.measQ := rest }
    match (h.unit u).recs.find? fun q => q.slot = s && q.st = .closed with
    | none => h
    | some q =>
      let q := { q with seq := (h.rd (Addr.CAP_SEQ u)).toNat }
      let (q, blocks) := h.measureRecord u q
      let a := h.slotAddr u s
      let h := h.domeBytes a (q.header (h.capChans u))
      let h := h.domeBytes (a + 128) blocks.flatten
      let h := h.domeWrite (a + h.recBytes u - 4) 4 q.missed
      let h := h.domeWrite (a + h.recBytes u - 8) 4 q.seq
      let h := (h.incWrap (Addr.CAP_SEQ u) 0 32 1).setBit (Addr.CAP_SLOTS u) s true
      let h := h.modUnit u fun x => { x with recs := x.recs.map fun p => if p.slot = s then { q with st := .complete } else p }
      if h.capState u = capFULL && h.recycles u then h.armOrFull u 0 (h.timeAt r) else h

end Sys2Proof.Machine
end

