-- ==== Sys2Proof/Machine/Context.lean ====
section
/-!
DEFINITION. Contexts of the Turrets: registers, input buffers in STAGE, the state machine of R215, activation, faults
and the locks a context holds (R211 to R222, R254). Context `c` lives in Turret `c / 64` (R2).
-/

namespace Sys2Proof.Machine

/-! ### Registers of a context (R211, R225) -/

/-- `gk` of context `c`. -/
def Hub.g (h : Hub) (c k : Nat) : Word := h.rd (Addr.CTX_G (c / 64) (c % 64) k)
def Hub.setG (h : Hub) (c k : Nat) (v : Word) : Hub := h.wr (Addr.CTX_G (c / 64) (c % 64) k) v

/-- `wj` of context `c`, 80 bits. -/
def Hub.w (h : Hub) (c j : Nat) : BitVec 80 :=
  BitVec.ofNat 80 ((h.rd (Addr.CTX_W_LO (c / 64) (c % 64) j)).toNat + 2 ^ 32 * (h.rd (Addr.CTX_W_MID (c / 64) (c % 64) j)).toNat +
    2 ^ 64 * (h.rd (Addr.CTX_W_HI (c / 64) (c % 64) j)).toNat)
def Hub.setW (h : Hub) (c j : Nat) (v : BitVec 80) : Hub :=
  ((h.wr (Addr.CTX_W_LO (c / 64) (c % 64) j) (wd v.toNat)).wr (Addr.CTX_W_MID (c / 64) (c % 64) j)
    (wd (v.toNat / 2 ^ 32))).wr (Addr.CTX_W_HI (c / 64) (c % 64) j) (wd (v.toNat / 2 ^ 64))

/-- Predicate `qn`, held in CTX_STATUS.Q. -/
def Hub.q (h : Hub) (c n : Nat) : Bool := h.bit (Addr.CTX_STATUS (c / 64) (c % 64)) (4 + n)
def Hub.setQ (h : Hub) (c n : Nat) (b : Bool) : Hub := h.setBit (Addr.CTX_STATUS (c / 64) (c % 64)) (4 + n) b

/-- The program counter, a word index. -/
def Hub.pc (h : Hub) (c : Nat) : Nat := h.fld (Addr.CTX_PC (c / 64) (c % 64)) 0 14
def Hub.setPc (h : Hub) (c n : Nat) : Hub := h.wr (Addr.CTX_PC (c / 64) (c % 64)) (wd (n % 2 ^ 14))

/-- `COUNT` of the context's Turret (R204). -/
def Hub.codeCount (h : Hub) (c : Nat) : Nat := SMap.get 0 h.sys.count (c / 64)

/-- Activation kind, source and element count (R212). -/
def Hub.actKind (h : Hub) (c : Nat) : Nat := h.fld (Addr.CTX_ACT (c / 64) (c % 64)) 0 3
def Hub.actSrc (h : Hub) (c : Nat) : Nat := h.fld (Addr.CTX_ACT (c / 64) (c % 64)) 3 6
def Hub.actCount (h : Hub) (c : Nat) : Nat := h.fld (Addr.CTX_ACT (c / 64) (c % 64)) 9 16

/-- Binding of port `p`: kind and source (R217, R218). -/
def Hub.portKind (h : Hub) (c p : Nat) : Nat := h.fld (Addr.CTX_PORT (c / 64) (c % 64) p) 0 2
def Hub.portSrc (h : Hub) (c p : Nat) : Nat := h.fld (Addr.CTX_PORT (c / 64) (c % 64) p) 2 10

/-- Capacity of an input port's buffer in elements (R217). -/
def Hub.portCap (h : Hub) (c p : Nat) : Nat := (h.fld (Addr.CTX_PORT (c / 64) (c % 64) p) 12 8 + 1) * 256

/-- Port `p` is a bound input (R238), a bound output (R239). -/
def Hub.isInput (h : Hub) (c p : Nat) : Bool := decide (p < 32) && (h.portKind c p = 1 || h.portKind c p = 2)
def Hub.isOutput (h : Hub) (c p : Nat) : Bool := decide (32 ≤ p) && h.portKind c p = 3

/-! ### Pending registers and tags (R219, R220) -/

/-- The destination of an access, if it has one. -/
def DomeAccess.dest : DomeAccess → Option Dest
  | .load d _ _ _ => some d
  | .store _ _ _ => none
  | .meas _ d _ _ _ _ => some (.g d)

/-- The predicate a measurement writes. -/
def DomeAccess.pred : DomeAccess → Option Nat
  | .meas (.xing _ n _) _ _ _ _ _ => some n
  | .meas (.peakt _ n _) _ _ _ _ _ => some n
  | _ => none

/-- Bytes of a measurement record (R244 to R246). -/
def MeasOp.bytes : MeasOp → Nat
  | .xing _ _ _ => 32
  | .peakt _ _ _ => 16
  | .rflow _ => 0x4140

/-- First and last 64-bit word an access touches. -/
def DomeAccess.range : DomeAccess → Nat × Nat
  | .load _ a n _ => (a / 8, (a + n - 1) / 8)
  | .store a n _ => (a / 8, (a + n - 1) / 8)
  | .meas op _ a _ _ _ => (a / 8, (a + op.bytes - 1) / 8)

/-- Whether two accesses touch one 64-bit word. -/
def DomeAccess.clash (x y : DomeAccess) : Bool := decide (x.range.1 ≤ y.range.2) && decide (y.range.1 ≤ x.range.2)

/-- A register of the context waits for a delivery. -/
def Ctx.pending (x : Ctx) (d : Dest) : Bool :=
  x.acc.any (fun a => a.dest = some d) ||
    (match d with
     | .g k => x.timeReqs.any fun t => decide (t.1 ≤ k) && decide (k ≤ t.1 + 2)
     | .w _ => false)

/-- A predicate of the context waits for a measurement. -/
def Ctx.pendingQ (x : Ctx) (n : Nat) : Bool := x.acc.any fun a => a.pred = some n

/-- Tags in use by a Turret (R219). -/
def Hub.tagsUsed (h : Hub) (t : Nat) : Nat := ((List.range 64).map fun l => (h.ctx (64 * t + l)).acc.length).sum

/-- No tag is free for context `c` (R219). -/
def Hub.noTag (h : Hub) (c : Nat) : Bool := decide (8 ≤ (h.ctx c).acc.length) || decide (32 ≤ h.tagsUsed (c / 64))

/-! ### Locks of a context (R254, R387) -/

def Hub.lockHeld (h : Hub) (l : Nat) : Bool := h.bit (Addr.LOCK_PEEK l) 31
def Hub.lockOwner (h : Hub) (l : Nat) : Nat := h.fld (Addr.LOCK_PEEK l) 0 4

/-- Frees lock `l`. -/
def Hub.lockFree (h : Hub) (l : Nat) : Hub :=
  { h.wr (Addr.LOCK_PEEK l) 0#32 with ctl.lockCtx := h.ctl.lockCtx.filter fun p => p.1 ≠ l }

/-- The context that holds lock `l` within its Turret. -/
def Hub.lockCtx (h : Hub) (l : Nat) : Option Nat := SMap.find h.ctl.lockCtx l

/-- The Turret releases the locks of context `c`, one LOCK entry for each (R254, R390). -/
def Hub.releaseLocks (h : Hub) (r c : Nat) : Hub :=
  forN 32 (fun l h =>
    if h.lockCtx l = some c then (h.lockFree l).report r 5 0 (turretId (c / 64)) (wd (l + 256 * c)) else h) h

/-! ### What a halt or reset leaves missing (R216) -/

/-- From instant `t` on the derived streams of the context miss elements (R216). -/
def Ctx.openGaps (x : Ctx) (outs : List Nat) (t : Nat) : Ctx :=
  { x with ports := outs.foldl (fun m p =>
      let o := SMap.get {} m p
      SMap.put m p { o with halted := some (match o.halted with | some u => min t u | none => t) }) x.ports }

/-- The bound output ports of a context. -/
def Hub.outPorts (h : Hub) (c : Nat) : List Nat := (List.range 64).filter (h.isOutput c)

/-! ### Activation (R212 to R215, R363) -/

/-- A waiting CONTEXT copy is written into the context's registers at its activation boundary (R363). -/
def Hub.applyCopy (h : Hub) (c : Nat) : Hub :=
  match SMap.find h.sel.copies c with
  | none => h
  | some k =>
    let h := { h with sel.copies := h.sel.copies.filter fun p => p.1 ≠ c }
    let h := forIn' k.g (fun p h => if p.1 < 16 then h.setG c p.1 p.2 else h) h
    let h := forIn' k.w (fun p h => if p.1 < 4 then h.setW c p.1 (BitVec.ofNat 80 p.2) else h) h
    forIn' k.q (fun p h => if p.1 < 4 then h.setQ c p.1 p.2 else h) h

/-- An activation starts at CTX_ENTRY with no slots used (R215). -/
def Hub.startAct (h : Hub) (c : Nat) : Hub :=
  let h := h.applyCopy c
  let h := h.setPc c (h.fld (Addr.CTX_ENTRY (c / 64) (c % 64)) 0 14)
  (h.modCtx c fun x => { x with st := .ready, slots := 0, stalled := false }).incWrap (Addr.CTX_ACT_CNT (c / 64) (c % 64)) 0 32 1

/-- An activation of context `c` (R214, R215); one that finishes its last before a stop takes no more (R418). -/
def Hub.activate (h : Hub) (c : Nat) : Hub :=
  match (h.ctx c).st with
  | .wait => h.startAct c
  | .ready => if (h.ctx c).stopAt.isSome then h else h.incSat (Addr.CTX_PEND (c / 64) (c % 64)) 0 16 1
  | _ => h

/-- 1 / CTX_RATE seconds have passed since the last ALARM or MAILBOX activation (R214). -/
def Hub.paceOver (h : Hub) (r c : Nat) : Bool :=
  match (h.ctx c).lastAct with
  | none => true
  | some t => decide (secU ≤ (h.timeAt r - t) * (h.rd (Addr.CTX_RATE (c / 64) (c % 64))).toNat)

/-- An ALARM or MAILBOX activation reaches the Turret: taken, or pending until the interval is over (R214). -/
def Hub.paceAct (h : Hub) (r c : Nat) : Hub :=
  if h.paceOver r c then (h.modCtx c fun x => { x with lastAct := some (h.timeAt r), paced := false }).activate c
  else h.modCtx c fun x => { x with paced := true }

/-- A toggle event towards context `c` (R32): delivered, or merged behind the one in its acknowledge phase. -/
def Hub.toggleAct (h : Hub) (r c : Nat) : Hub :=
  match SMap.find h.ctl.toggles c with
  | some _ => { h with ctl.toggles := SMap.put h.ctl.toggles c true }
  | none => { h with ctl.toggles := SMap.put h.ctl.toggles c false }.paceAct r c

/-- TOGGLE_ACK_COMPLETE (R32): one merged event is delivered, if any is pending. -/
def toggleAckComplete (r c : Nat) (h : Hub) : Hub :=
  match SMap.find h.ctl.toggles c with
  | some true => { h with ctl.toggles := SMap.put h.ctl.toggles c false }.paceAct r c
  | some false => { h with ctl.toggles := h.ctl.toggles.filter fun p => p.1 ≠ c }
  | none => h

/-- ACTIVATION_PACING_RELEASE (R214). -/
def activationPacingRelease (r c : Nat) (h : Hub) : Hub :=
  if (h.ctx c).paced && h.paceOver r c then
    (h.modCtx c fun x => { x with lastAct := some (h.timeAt r), paced := false }).activate c
  else h

/-- An alarm fires with its TURRET action (R193, R212): its contexts are activated. -/
def Hub.alarmActs (h : Hub) (r a : Nat) : Hub :=
  forIn' h.sys.plan.used (fun c h => if h.actKind c = 3 && h.actSrc c = a then h.toggleAct r c else h) h

/-- A MSG doorbell of Turret `t` enabled in DB_MASK (R383): the contexts of the channel are activated. -/
def Hub.mailActs (h : Hub) (r t ch : Nat) : Hub :=
  if h.bit (Addr.DB_MASK (turretId t)) 0 && !h.sys.turHeld.contains t then
    forIn' h.sys.plan.used (fun c h =>
      if c / 64 = t && h.actKind c = 4 && h.actSrc c = ch then h.toggleAct r c else h) h
  else h

/-! ### Input buffers in STAGE (R213, R217, R25) -/

def Ctx.buf (x : Ctx) (p : Nat) : PortBuf := SMap.get {} x.bufs p

/-- Dome address of an input port's buffer. -/
def Hub.stageBase (h : Hub) (c p : Nat) : Option Nat :=
  (h.sys.plan.stage.find? fun b => b.1 = c && b.2.1 = p).map (·.2.2)

/-- Dome address of the element written `i`-th since the buffer was emptied. -/
def Hub.elemAddr (h : Hub) (c p base i : Nat) : Nat := base + 8 * (i % h.portCap c p)

/-- The two words of the element `i` places behind the oldest of an input port (R217, R238). -/
def Hub.portElem (h : Hub) (c p i : Nat) : Word × Word :=
  let b := (h.ctx c).buf p
  match h.stageBase c p with
  | some base =>
    let a := h.elemAddr c p base (b.wr - b.fill + i)
    (h.domeWord a, h.domeWord (a + 4))
  | none => (0#32, 0#32)

/-- Period and stream epoch of the channel or derived stream an input port is fed from (R144, R213, R291). -/
def Hub.portClock (h : Hub) (c p : Nat) : Nat × Nat :=
  let g := h.portSrc c p
  if h.portKind c p = 2 then ((h.stream g).period, (h.stream g).epochS)
  else
    let f := h.filtCfg (g / 32) (g % 32)
    (f.ratio * f.period, f.instant (h.epoch (g / 32)) (h.chan g).jShift)

/-- The instant of index `k` of an input port's source (R144). -/
def Hub.portInstant (h : Hub) (c p k : Nat) : Nat := (h.portClock c p).2 + k * (h.portClock c p).1

/-- Two input ports are fed from the same spire at the same rate and epoch (R213). -/
def Hub.samePace (h : Hub) (c p q : Nat) : Bool :=
  h.portKind c p = 1 && h.portKind c q = 1 && h.portSrc c p / 32 = h.portSrc c q / 32 && h.portClock c p = h.portClock c q

/-- All elements of output instant `k` that accompany port `p` have arrived (R213). -/
def Hub.instantDone (h : Hub) (c p k : Nat) : Bool :=
  (List.range 32).all fun q => !h.samePace c p q ||
    (match ((h.ctx c).buf q).seen with
     | some s => decide (k ≤ s)
     | none => false)

/-- Signals trigger elements whose instant is wholly written (R212, R213); `fuel` bounds them. -/
def Hub.signalTrig (h : Hub) (c : Nat) : Nat → Hub
  | 0 => h
  | fuel + 1 =>
    match (h.ctx c).trig with
    | k :: ks =>
      if h.instantDone c (h.actSrc c) k then
        let h := h.modCtx c fun x => { x with trig := ks }
        let n := (h.ctx c).blk + 1
        let h := if h.actKind c = 2 && decide (n < h.actCount c) then h.modCtx c fun x => { x with blk := n }
          else (h.modCtx c fun x => { x with blk := 0 }).activate c
        Hub.signalTrig h c fuel
      else h
    | [] => h

/-- Unread elements in a Turret's input buffers (R225). -/
def Hub.backlog (h : Hub) (t : Nat) : Nat :=
  min (((List.range 64).map fun l => ((h.ctx (64 * t + l)).bufs.map fun b => b.2.fill).sum).sum) (2 ^ 24 - 1)

/-- What buffer `p` has discarded becomes an interval to be declared missing on the output ports `outs` (R25). -/
def Ctx.keepLost (x : Ctx) (outs : List Nat) (p : Nat) : Ctx :=
  let b := x.buf p
  match b.lost with
  | none => x
  | some (i, j) =>
    { x with bufs := SMap.put x.bufs p { b with lost := none },
             ports := outs.foldl (fun m q => let o := SMap.get {} m q; SMap.put m q { o with gaps := o.gaps ++ [(i, j, 3)] }) x.ports }

/-- An element reaches input port `p` of context `c`: it lands, or is discarded at a full buffer (R25, R217). -/
def Hub.arrive (h : Hub) (c p : Nat) (e : PortElem) : Hub :=
  let x := h.ctx c
  let b := x.buf p
  match h.stageBase c p with
  | none => h
  | some base =>
    let full := decide (h.portCap c p ≤ b.fill)
    let t := h.portInstant c p e.k
    let h :=
      if full then
        let b := { b with kref := e.k, seen := some e.k, lost := some ((b.lost.map Prod.fst).getD t, t) }
        h.setCtx c { x with bufs := SMap.put x.bufs p b }
      else
        let a := h.elemAddr c p base b.wr
        let x := x.keepLost (h.outPorts c) p
        let h := (h.domeWrite a 4 e.value.toNat).domeWrite (a + 4) 4 (e.flags % 256 + 256 * (e.k % 2 ^ 24))
        let trig := if (h.actKind c = 1 || h.actKind c = 2) && h.actSrc c = p then x.trig ++ [e.k] else x.trig
        h.setCtx c { x with bufs := SMap.put x.bufs p { wr := b.wr + 1, fill := b.fill + 1, kref := e.k, seen := some e.k, lost := none },
                            trig := trig }
    let h := h.signalTrig c ((h.ctx c).trig.length)
    let m := Addr.TUR_BACKLOG_MAX (c / 64)
    if h.fld m 0 24 < h.backlog (c / 64) then h.setFld m 0 24 (h.backlog (c / 64)) else h

/-- STAGE_ELEMENT_ARRIVE (R217): the oldest element on its way to STAGE. -/
def stageElementArrive (h : Hub) : Hub :=
  match h.stageIn with
  | [] => h
  | (c, p, e) :: es => { h with stageIn := es }.arrive c p e

/-- The instant of the oldest element that waits in the input buffers of a context, `t` where none is older (R217). -/
def Hub.oldestWaiting (h : Hub) (c t : Nat) : Nat :=
  (h.ctx c).bufs.foldl (fun m b =>
    let low := (h.portElem c b.1 0).2.toNat / 256
    let k := b.2.kref - (b.2.kref + 2 ^ 24 - low) % 2 ^ 24
    if b.2.fill = 0 then m else min m (h.portInstant c b.1 k)) t

/-- The elements a HALTED context leaves unread are missing too (R18, R216): its GAPs begin no later than the oldest of them. -/
def Hub.dropBacklog (h : Hub) (t c : Nat) : Hub :=
  if (h.ctx c).st = .halted then h.modCtx c fun x => x.openGaps (h.outPorts c) (h.oldestWaiting c t) else h

/-- Empties the input buffers of a context (R215); what they had discarded is still to be declared on its output ports
`outs` (R25), and the index of the latest element stays (R239). -/
def Ctx.emptied (x : Ctx) (outs : List Nat) : Ctx :=
  let x := x.bufs.foldl (fun x b => x.keepLost outs b.1) x
  { x with bufs := x.bufs.map (fun b => (b.1, { b.2 with fill := 0 })), trig := [], blk := 0 }

/-- The sequences of a derived stream of epoch `e` and period `p` between two instants, both ends outward (R25, R298): none
before the stream's first EMIT. -/
def seqsBetween (e p : Nat) (g : Nat × Nat × Nat) : List (Nat × Nat × Nat) :=
  if p = 0 then [] else [((g.1 - e) / p, (g.2.1 - e + p - 1) / p, g.2.2)]

/-- The sequences an output port has to declare missing before sequence `hi`, its stream having epoch `e` and period `p`: its
intervals, and what follows a halt or reset since the last element (R25, R216). -/
def OutPort.missing (o : OutPort) (e p hi : Nat) : List (Nat × Nat × Nat) :=
  o.gaps.flatMap (seqsBetween e p) ++
    match o.halted with
    | some t => if p = 0 ∨ hi = 0 then [] else [((t - e + p - 1) / p, hi - 1, 2)]
    | none => []

/-! ### The end of a run (R215, R418, R429) -/

/-- A context of Turret `t` still finishes the activation in which a stop met it (R418). -/
def Hub.finishing (h : Hub) (t : Nat) : Bool := h.ctxs.any fun x => x.1 / 64 = t && x.2.stopAt.isSome

/-- Outside a run and its preparation, the clock of a Turret whose contexts are all UNUSED or IDLE is gated (R429). -/
def Hub.gateTurret (h : Hub) (t : Nat) : Hub :=
  if h.timeFixed || h.modePends || h.sys.serviceStart || h.finishing t then h
  else { h with sys.ungated := h.sys.ungated.filter (· != t) }

/-- Context `c` goes to IDLE after stop frame `t` (R215, R418): GAPs of discarded inputs and of a halt or reset are written, up to
the last sequence before the stop (R25, R216), and its derived streams are sealed. -/
def Hub.ctxEnd (h : Hub) (r t c : Nat) : Hub :=
  let now := h.timeAt r
  let outs := h.outPorts c
  let h := (h.dropBacklog t c).modCtx c fun x =>
    { x with st := .idle, waitt := none, stalled := false, paced := false, stopAt := none }.emptied outs
  let h := forIn' outs (fun p h =>
    let o := SMap.get {} (h.ctx c).ports p
    let s := h.portSrc c p
    let hi := if o.period = 0 then 0 else (t - o.epochS + o.period - 1) / o.period
    let h := (h.drainStream now s).declareGaps now s o.epochS o.period hi (o.missing o.epochS o.period hi)
    (h.seal now s).modCtx c fun x => { x with ports := SMap.put x.ports p { o with gaps := [], halted := none } }) h
  ((h.wr (Addr.CTX_PEND (c / 64) (c % 64)) 0#32).releaseLocks r c).gateTurret (c / 64)

/-- STOP or ABORT (R215, R418) at stop frame `t`: a WAIT or HALTED context goes to IDLE, where a context of a Turret in reset is
already; a READY one on a running clock finishes its present activation first. -/
def Hub.ctxStop (h : Hub) (r t c : Nat) : Hub :=
  match (h.ctx c).st with
  | .unused => h
  | .ready =>
    if h.sys.ungated.contains (c / 64) then
      (h.modCtx c fun x => { x with paced := false, stopAt := some t }).wr (Addr.CTX_PEND (c / 64) (c % 64)) 0#32
    else h.ctxEnd r t c
  | _ => h.ctxEnd r t c

/-- Every context stops at stop frame `t`. -/
def Hub.ctxStopAll (h : Hub) (r t : Nat) : Hub := forIn' (h.ctxs.map Prod.fst) (fun c h => h.ctxStop r t c) h

/-- A context that still finishes an activation is ended at once: a new run or a reset of its Turret finds it IDLE. -/
def Hub.ctxFinish (r c : Nat) (h : Hub) : Hub :=
  match (h.ctx c).stopAt with
  | some t => h.ctxEnd r t c
  | none => h

/-! ### Halting and faults (R215, R222) -/

/-- The context enters HALTED (R215): GAPs from now on, locks released; one that a stop has met goes on to IDLE (R418). -/
def Hub.haltCtx (h : Hub) (r c : Nat) : Hub :=
  let h := (h.modCtx c fun x =>
    { x with st := .halted, waitt := none, stalled := false }.openGaps (h.outPorts c) (h.timeAt r)).releaseLocks r c
  match (h.ctx c).stopAt with
  | some t => h.ctxEnd r t c
  | none => h

/-- A fault of context `c` at word `pc` (R222): recorded; then q3 under CONTINUE, or HALTED with an event record and an
error-log entry. `hard` faults halt whatever the policy. A fault that arrives outside READY is only recorded. -/
def Hub.ctxFault (h : Hub) (r c code pc : Nat) (hard : Bool) : Hub :=
  let t := c / 64
  let l := c % 64
  let h := (h.wr (Addr.CTX_FAULT t l) (wd (code + 256 * pc))).incSat (Addr.CTX_FAULT_CNT t l) 0 16 1
  let body : Word := wd (c + 256 * code + 65536 * pc)
  if hard || h.bit (Addr.CTX_CFG t l) 0 then
    if (h.ctx c).st = .ready then
      ((h.haltCtx r c).eventRecord 4 (h.timeAt r) [body]).report r 20 code (turretId t) body
    else h
  else h.setQ c 3 true

/-! ### CTX_CTRL (R215) -/

/-- CTX_CTRL.HALT (R215): halts a READY context at its next instruction boundary, which is before the next instruction
the model issues; a WAITT ends (R249). -/
def ctxCtrlHalt (r c : Nat) (h : Hub) : Hub := if (h.ctx c).st = .ready then h.haltCtx r c else h

/-- CTX_CTRL.RESTART (R215): a HALTED context goes to WAIT in RUN and SHADOW, else to IDLE. -/
def ctxCtrlRestart (r c : Nat) (h : Hub) : Hub :=
  if (h.ctx c).st = .halted then
    let on := h.mode = .run || h.mode = .shadow
    let h := (h.setFld (Addr.CTX_FAULT (c / 64) (c % 64)) 0 8 0).wr (Addr.CTX_PEND (c / 64) (c % 64)) 0#32
    let outs := h.outPorts c
    let h := (h.dropBacklog (h.timeAt r) c).modCtx c fun x => { x with st := if on then .wait else .idle }.emptied outs
    if on then h.applyCopy c else h.releaseLocks r c
  else h

/-- A write to CTX_CTRL: both bits act, RESTART first. -/
def ctxCtrlStore (r c : Nat) (v : Word) (h : Hub) : Hub :=
  let h := if v.getLsbD 0 then ctxCtrlRestart r c h else h
  if v.getLsbD 1 then ctxCtrlHalt r c h else h

/-- The coordinated start (R215, R240): IDLE contexts go to WAIT, their output ports as new; every input buffer is empty. -/
def Hub.ctxStartAll (h : Hub) : Hub :=
  forIn' (h.ctxs.map Prod.fst) (fun c h =>
    if (h.ctx c).st = .idle then
      (h.modCtx c fun x => { x with st := .wait, bufs := [], trig := [], blk := 0, ports := [], lastAct := none, paced := false }).applyCopy c
    else if (h.ctx c).st = .unused then h.modCtx c fun x => { x with bufs := [] }
    else h) h

/-! ### Views of R225 -/

/-- CTX_STATUS as read. -/
def CtxState.code : CtxState → Nat
  | .unused => 0 | .idle => 1 | .wait => 2 | .ready => 3 | .halted => 4

def Hub.ctxStatus (h : Hub) (c : Nat) : Word :=
  let x := h.ctx c
  putBits (putBits (putBits (h.rd (Addr.CTX_STATUS (c / 64) (c % 64))) 0 3 x.st.code) 3 1 (x.stalled && x.st = .ready).toNat) 8 4
    (min x.acc.length 8)

/-- TUR_STATUS as read. -/
def Hub.turStatus (h : Hub) (t : Nat) : Word :=
  let n (p : CtxState → Bool) : Nat := ((List.range 64).filter fun l => p (h.ctx (64 * t + l)).st).length
  wd (n (· != .unused) + 128 * n (· = .ready) + 16384 * n (· = .halted))

end Sys2Proof.Machine
end

