-- ==== Sys2Proof/Machine/Mail.lean ====
section
/-!
DEFINITION. Mailboxes, doorbells, the binding table, master resets, locks and the error-log registers of the control
plane (R375 to R392, R406 to R409).
-/

namespace Sys2Proof.Machine

/-! ### Bindings (R375, R376, R409) -/

def Hub.mbSender (h : Hub) (ch : Nat) : Nat := h.fld (Addr.BIND ch) 0 4
def Hub.mbReceiver (h : Hub) (ch : Nat) : Nat := h.fld (Addr.BIND ch) 4 4
def Hub.mbResp (h : Hub) (ch : Nat) : Nat := h.fld (Addr.BIND ch) 8 6
def Hub.mbValid (h : Hub) (ch : Nat) : Bool := h.bit (Addr.BIND ch) 14
def Hub.mbAckDb (h : Hub) (ch : Nat) : Bool := h.bit (Addr.BIND ch) 15
def Hub.mbFull (h : Hub) (ch : Nat) : Bool := h.bit (Addr.MB_STATUS ch) 0

/-- A binding word (R409). -/
def bindWord (snd rcv resp : Nat) (ack : Bool) : Word := wd (snd + 16 * rcv + 256 * resp + 2 ^ 14 + (if ack then 2 ^ 15 else 0))

/-- The firmware's bindings of channels 0 to 7 (R375). -/
def Hub.bindCommands (h : Hub) : Hub :=
  forIn' [(0, spi), (2, uplink), (4, jtag), (6, twin)] (fun p h =>
    (h.wr (Addr.BIND p.1) (bindWord p.2 belfry (p.1 + 1) true)).wr (Addr.BIND (p.1 + 1)) (bindWord belfry p.2 0 true)) h

/-- The status of a write to a binding entry, OK where it is performed (R375, R376). -/
def Hub.bindStatus (h : Hub) (m ch : Nat) (v : Word) : Nat :=
  if h.bit Addr.BIND_LOCK 0 then ELOCKED
  else if ch < 8 && m ≠ belfry then ELOCKED
  else if h.mbFull ch then EBUSY
  else if v.getLsbD 14 && (bitsOf v 0 4 = bitsOf v 4 4 || decide (8 < bitsOf v 0 4) || decide (8 < bitsOf v 4 4)) then ERANGE
  else OK

/-- The master is held in reset (R381): Belfry restarting, or a Turret in reset. -/
def Hub.masterHeld (h : Hub) (m : Nat) : Bool :=
  (m = belfry && h.ctl.belfryHeld) || (decide (1 ≤ m) && decide (m ≤ 4) && h.sys.turHeld.contains (m - 1))

/-- BIND_WRITE (R376); HELD follows the receiver now bound (R381). -/
def bindStore (r m ch : Nat) (v : Word) (h : Hub) : Hub :=
  if (1 ≤ m ∧ m ≤ 4) ∨ m = twin then
    if ch < 8 then h.refuse r m (Addr.BIND ch) ELOCKED else h.deny r m (Addr.BIND ch)
  else
    let st := h.bindStatus m ch v
    if st = OK then
      (h.wr (Addr.BIND ch) (v &&& 0xFFFF#32)).setBit (Addr.MB_STATUS ch) 2 (v.getLsbD 14 && h.masterHeld (bitsOf v 4 4))
    else h.refuse r m (Addr.BIND ch) st

/-- BIND_LOCK (R376). -/
def bindLockStore (v : Word) (h : Hub) : Hub := if v.getLsbD 0 then h.setBit Addr.BIND_LOCK 0 true else h

/-! ### Doorbells (R383) -/

/-- Address of the doorbell word of kind `k` (0 MSG, 1 ACK, 2 ABORT) of master `m` that holds channel `ch`. -/
def dbAddr (k m ch : Nat) : Nat := Addr.DB_MSG_LO m + 8 * k + 4 * (ch / 32)

def Hub.dbSet (h : Hub) (k m ch : Nat) (b : Bool) : Hub := h.setBit (dbAddr k m ch) (ch % 32) b
def Hub.dbGet (h : Hub) (k m ch : Nat) : Bool := h.bit (dbAddr k m ch) (ch % 32)

/-- A doorbell of master `m` is pending and enabled in DB_MASK (R383). -/
def Hub.dbPending (h : Hub) (m : Nat) : Bool :=
  [0, 1, 2].any fun k => h.bit (Addr.DB_MASK m) k && (h.rd (dbAddr k m 0) != 0#32 || h.rd (dbAddr k m 32) != 0#32)

/-- IRQ_N is driven low (R371, R383): an enabled doorbell of SPI, or the boot ROM in HALTED. -/
def Hub.irq (h : Hub) : Bool := h.dbPending spi || h.fld Addr.SYS_BOOT_STATUS 0 4 = 6

/-- Rings the receiver's MSG doorbell (R377); an enabled one reaches a Turret as an activation (R383). -/
def Hub.ringMsg (h : Hub) (r m ch : Nat) : Hub :=
  let h := h.dbSet 0 m ch true
  if 1 ≤ m ∧ m ≤ 4 then h.mailActs r (m - 1) ch else h

/-! ### Posts and takes (R377, R378) -/

/-- `CMD_INFLIGHT` of a channel (R386). -/
def Hub.inflight (h : Hub) (ch : Nat) : Bool := h.bit (Addr.CMD_INFLIGHT_LO + 4 * (ch / 32)) (ch % 32)
def Hub.setInflight (h : Hub) (ch : Nat) (b : Bool) : Hub := h.setBit (Addr.CMD_INFLIGHT_LO + 4 * (ch / 32)) (ch % 32) b

/-- A post by Belfry on channel `ch` answers the channels whose RESP_CH it is (R386). -/
def Hub.postAnswers (h : Hub) (m ch : Nat) : Hub :=
  if m = belfry then
    forN 64 (fun k h => if h.inflight k && h.mbValid k && h.mbReceiver k = belfry && h.mbResp k = ch then h.setInflight k false else h) h
  else h

/-- A post by master `m` (R377): the status and the hub. -/
def Hub.mbPost (h : Hub) (r ch m : Nat) (v : Word) : Nat × Hub :=
  if !h.mbValid ch || h.mbSender ch ≠ m then (EBOUND, h.report r 4 EBOUND m (wd ch))
  else if h.mbFull ch then (EBUSY, h.setFld (Addr.MB_STATUS ch) 8 8 EBUSY)
  else
    let st : Word := wd (1 + (if h.masterHeld (h.mbReceiver ch) then 4 else 0) + 65536 * h.fld (Addr.RESET_EPOCH m) 0 8)
    (OK, (((h.wr (Addr.MB_PEEK ch) v).wr (Addr.MB_STATUS ch) st).ringMsg r (h.mbReceiver ch) ch).postAnswers m ch)

/-- A read of MB_DATA by master `m` (R378): the word and the hub. A word that Belfry takes is in flight (R386). -/
def Hub.mbTake (h : Hub) (ch m : Nat) : Word × Hub :=
  if h.mbValid ch && h.mbReceiver ch = m && h.mbFull ch then
    let v := h.rd (Addr.MB_PEEK ch)
    let h := (h.setBit (Addr.MB_STATUS ch) 0 false).wr (Addr.MB_LASTREAD ch) v
    let h := if m = belfry then (h.dbSet 0 m ch false).setInflight ch true else h.dbSet 0 m ch false
    (v, if h.mbAckDb ch then h.dbSet 1 (h.mbSender ch) ch true else h)
  else (0#32, h)

/-! ### Locks (R387 to R389) -/

/-- A read of LOCK[l] by master `m` (R387): the word and the hub. -/
def Hub.lockRead (h : Hub) (l m : Nat) : Word × Hub :=
  if h.lockHeld l then (wd (2 ^ 31 + h.lockOwner l), h) else (0#32, h.wr (Addr.LOCK_PEEK l) (wd (2 ^ 31 + m)))

/-- A write of LOCK[l] by master `m` (R387). -/
def lockStore (r m l : Nat) (v : Word) (h : Hub) : Hub :=
  if h.lockHeld l && h.lockOwner l = m && v.toNat = m then h.lockFree l
  else h.report r 5 0 m (wd (l + 256 * 255))

/-- A lock released without an owner write (R389). -/
def Hub.lockBreak (h : Hub) (r m l : Nat) : Hub := (h.lockFree l).report r 5 0 m (wd (l + 256 * 255))

/-- LOCK_FORCE (R389). -/
def lockForceStore (r m : Nat) (v : Word) (h : Hub) : Hub :=
  if m = belfry ∨ m = jtag then
    if h.lockHeld (bitsOf v 0 5) then h.lockBreak r m (bitsOf v 0 5) else h
  else h.deny r m Addr.LOCK_FORCE

/-! ### Master resets (R380 to R382, R389) -/

/-- What a reset of master `m` does to the channels it receives on (R381). -/
def Hub.discardWord (h : Hub) (r ch : Nat) : Hub :=
  if h.mbFull ch then
    let h := ((h.setBit (Addr.MB_STATUS ch) 0 false).setBit (Addr.MB_STATUS ch) 1 true).dbSet 2 (h.mbSender ch) ch true
    h.report r 4 EABORT 15 (wd ch)
  else h

/-- A master reset (R380): RESET_EPOCH, words received discarded, own ACK and ABORT doorbells cleared, locks released. -/
def Hub.masterReset (h : Hub) (r m : Nat) : Hub :=
  let h := h.incWrap (Addr.RESET_EPOCH m) 0 8 1
  let h := forN 64 (fun ch h => if h.mbValid ch && h.mbReceiver ch = m then h.discardWord r ch else h) h
  let h := forIn' [1, 2] (fun k h => (h.wr (dbAddr k m 0) 0#32).wr (dbAddr k m 32) 0#32) h
  forN 32 (fun l h => if h.lockHeld l && h.lockOwner l = m then h.lockBreak r 15 l else h) h

/-- The receiver enters (`b` true) or leaves a held reset: HELD of its channels (R381). -/
def Hub.showHeld (h : Hub) (m : Nat) (b : Bool) : Hub :=
  forN 64 (fun ch h => if h.mbValid ch && h.mbReceiver ch = m then h.setBit (Addr.MB_STATUS ch) 2 b else h) h

/-- MASTER_RESET: a write to CP_MASTER_RESET (R380). -/
def masterResetStore (r m : Nat) (v : Word) (h : Hub) : Hub :=
  if (m = spi ∨ m = uplink ∨ m = jtag) ∧ v.toNat = m then h.masterReset r m
  else h.deny r m Addr.CP_MASTER_RESET

/-- A write to a doorbell register `a` of master `x` by master `m` (R383): W1C, which Belfry and JTAG may write too, or DB_MASK,
which is the master's own. Enabling MSG of a Turret lets its pending bits through. -/
def doorbellStore (r m x a : Nat) (v : Word) (h : Hub) : Hub :=
  if m ≠ x ∧ (a = Addr.DB_MASK x ∨ m ≠ belfry ∧ m ≠ jtag) then h.deny r m a
  else if a = Addr.DB_MASK x then
    let rise := v.getLsbD 0 && !h.bit a 0 && decide (1 ≤ x) && decide (x ≤ 4)
    let h := h.wr a (v &&& 7#32)
    if rise then forN 64 (fun ch h => if h.dbGet 0 x ch then h.mailActs r (x - 1) ch else h) h else h
  else h.wr a (h.rd a &&& ~~~v)

/-! ### Responses (R384 to R386) -/

/-- A response word (R384). -/
def respWord (status tag result : Nat) : Word := wd (2 ^ 24 * (status % 256) + 65536 * (tag % 256) + result % 65536)

/-- The response to a HUB_RESET from channel `ch` is posted at RAW `r`: its 1 ms begins (R424). -/
def Hub.startResets (h : Hub) (r ch : Nat) : Hub :=
  { h with sys.resets := h.sys.resets.map fun x => if x.ch = ch && x.posted.isNone then { x with posted := some r } else x }

/-- A response word goes out on the channel's RESP_CH, or waits while that channel is FULL (R385, R386). -/
def Hub.postResponse (h : Hub) (r ch : Nat) (w : Word) : Hub :=
  if h.mbFull (h.mbResp ch) && h.mbValid (h.mbResp ch) then { h with ctl.waiting := h.ctl.waiting ++ [(ch, w)] }
  else ((h.mbPost r (h.mbResp ch) belfry w).2.setInflight ch false).startResets r ch

/-- The response to the command taken from channel `ch`; its TAG stands in MB_LASTREAD (R385, R386). -/
def Hub.respond (h : Hub) (r ch status result : Nat) : Hub :=
  h.postResponse r ch (respWord status (h.fld (Addr.MB_LASTREAD ch) 16 8) result)

/-- RESPONSE_POST (R385): the oldest response waiting for channel `ch`'s RESP_CH, once that is no longer FULL. -/
def responsePost (r ch : Nat) (h : Hub) : Hub :=
  match h.ctl.waiting.find? fun p => p.1 = ch with
  | some p =>
    if h.mbFull (h.mbResp ch) || h.ctl.belfryHeld then h
    else { h with ctl.waiting := h.ctl.waiting.filter fun q => q.1 != ch }.postResponse r ch p.2
  | none => h

/-! ### Error-log registers (R391, R392, R408) -/

/-- ELOG_QUEUE_WRITE (R391): a queued report becomes an entry. -/
def elogQueueWrite (h : Hub) : Hub :=
  let lg := h.ctl.elog
  match lg.queue with
  | [] => h
  | e :: q =>
    if lg.entries.length < 64 then
      { h with ctl.elog := { lg with entries := lg.entries ++ [e], queue := q, written := lg.written + 1 } }
    else h

/-- ELOG_FREE (R392); a count outside 1 to 64 is out of range. -/
def elogFreeStore (r m : Nat) (v : Word) (h : Hub) : Hub :=
  let n := bitsOf v 0 7
  if n = 0 ∨ 64 < n then h.refuse r m Addr.ELOG_FREE ERANGE else h.elogFree n

/-- Views of R408. -/
def Hub.elogStatus (h : Hub) : Word :=
  let lg := h.ctl.elog
  wd (lg.entries.length + 128 * lg.queue.length + (if 64 ≤ lg.entries.length then 2048 else 0))
def Hub.elogHead (h : Hub) : Word := wd (h.ctl.elog.head + 256 * h.ctl.elog.written)
def Hub.elogEntry (h : Hub) (e w : Nat) : Word :=
  let lg := h.ctl.elog
  match lg.entries[(e + 64 - lg.head) % 64]? with
  | some x => x.words.getD w 0#32
  | none => 0#32

end Sys2Proof.Machine
end

