-- ==== Sys2Proof/Machine/Turret.lean ====
section
/-!
DEFINITION. The issue of Amixel instructions (R211, R215, R219 to R222, R231) and what each does, but for ALARM, MIRROR
and the measurement unit.
-/

namespace Sys2Proof.Machine

/-! ### Issue -/

/-- What an issued instruction does: the hub, where the PC goes if not to the next word, and a fault, with whether it
halts whatever the policy. -/
structure Fx where
  hub : Hub
  jump : Option Nat := none
  fault : Option (Nat × Bool) := none

/-- Registers and predicates an instruction reads or writes, and whether it needs a tag. -/
structure Uses where
  g : List Nat := []
  w : List Nat := []
  q : List Nat := []
  tag : Bool := false

/-- A pending register, or the want of a tag, stalls the instruction (R219, R220). -/
def Hub.stalls (h : Hub) (c : Nat) (u : Uses) : Bool :=
  u.g.any (fun k => (h.ctx c).pending (.g k)) || u.w.any (fun k => (h.ctx c).pending (.w k)) ||
    u.q.any (h.ctx c).pendingQ || (u.tag && h.noTag c)

/-- TP_TJIT is enabled and selects Turret `t` (R463). -/
def Hub.jitters (h : Hub) (t : Nat) : Bool := h.bit Addr.TP_TJIT 12 && h.bit Addr.TP_TJIT t

/-- Turret `t` waits under TP_TJIT before its next issue slot (R463). -/
def Hub.jitWaits (h : Hub) (t : Nat) : Bool := h.jitters t && decide (0 < SMap.get 0 h.sys.jit t)

/-- Draws the waits of `k` issue slots of Turret `t`, each of 0 to `MAX` cycles, as free values (R463). -/
def Hub.jitter (h : Hub) (t k : Nat) : Hub :=
  if h.jitters t then
    forN k (fun _ h =>
      let (x, h) := h.drawWord
      { h with sys.jit := SMap.put h.sys.jit t (SMap.get 0 h.sys.jit t + x.toNat % (h.fld Addr.TP_TJIT 4 8 + 1)) }) h
  else h

/-- Counts an issued instruction of `k` slots (R215, R225, R231), after which as many waits of TP_TJIT pass (R463). -/
def Hub.countIssue (h : Hub) (c k : Nat) : Hub :=
  let h := h.incWrap (Addr.TUR_ISSUE_CNT (c / 64)) 0 32 1
  let n := (h.ctx c).slots + k
  let h := (h.modCtx c fun x => { x with slots := n, stalled := false }).jitter (c / 64) k
  let a := Addr.CTX_SLOTS_MAX (c / 64) (c % 64)
  if h.fld a 0 24 < n then h.setFld a 0 24 n else h

/-- The context can issue: READY, not waiting for a time, its Turret out of reset, clocked (R429) and not made to wait (R463). -/
def Hub.canIssue (h : Hub) (c : Nat) : Bool :=
  (h.ctx c).st = .ready && (h.ctx c).waitt.isNone && !h.sys.turHeld.contains (c / 64) && h.sys.ungated.contains (c / 64) &&
    !h.jitWaits (c / 64)

/-- Finishes an instruction issued at word `pc`. -/
def Fx.done (x : Fx) (r c pc : Nat) : Hub :=
  match x.fault with
  | none => x.hub.setPc c (x.jump.getD (pc + 1))
  | some (code, hard) =>
    let h := x.hub.ctxFault r c code pc hard
    if (h.ctx c).st = .ready then h.setPc c (pc + 1) else h

/-- Context `c` comes to an instruction of `k` slots (R211, R215, R222): beyond COUNT or the budget it halts; on a
pending register or without a tag it stalls; else it issues. -/
def Hub.issue (h : Hub) (r c k : Nat) (u : Uses) (f : Hub → Fx) : Hub :=
  if !h.canIssue c then h
  else
    let pc := h.pc c
    if h.codeCount c ≤ pc then h.ctxFault r c ERANGE pc true
    else if h.fld (Addr.CTX_BUDGET (c / 64) (c % 64)) 0 24 < (h.ctx c).slots + k then h.ctxFault r c EBUDGET pc true
    else if h.stalls c u then h.modCtx c fun x => { x with stalled := true }
    else (f (h.countIssue c k)).done r c pc

/-- An instruction that writes `gd` from registers, without faults. -/
def Hub.issueG (h : Hub) (r c d : Nat) (srcs : List Nat) (f : Hub → Word) : Hub :=
  h.issue r c 1 { g := d :: srcs } fun h => { hub := h.setG c d (f h) }

/-- UNDEFINED_WORD_ISSUE (R228): EUNKNOWN, or ERANGE beyond COUNT; the context halts. -/
def undefinedWordIssue (r c : Nat) (h : Hub) : Hub :=
  if !h.canIssue c then h
  else if h.codeCount c ≤ h.pc c then h.ctxFault r c ERANGE (h.pc c) true
  else h.ctxFault r c EUNKNOWN (h.pc c) true

/-! ### Arithmetic and logic (R232, R233) -/

/-- The high half of a product (R232). -/
def mulHigh (uns : Bool) (a b : Word) : Word :=
  if uns then wd (a.toNat * b.toNat / 2 ^ 32) else wdInt ((a.toInt * b.toInt) / (2 ^ 32 : Nat))

/-- Number of leading zero bits (R232). -/
def clz (a : Word) : Nat := if a = 0#32 then 32 else 31 - a.toNat.log2

def minWord (uns : Bool) (a b : Word) : Word :=
  if uns then (if a.toNat ≤ b.toNat then a else b) else if a.toInt ≤ b.toInt then a else b

def maxWord (uns : Bool) (a b : Word) : Word :=
  if uns then (if a.toNat ≤ b.toNat then b else a) else if a.toInt ≤ b.toInt then b else a

/-- The absolute value; of 0x8000_0000 it is 0x8000_0000 (R232). -/
def absWord (a : Word) : Word := if a.toInt < 0 then -a else a

/-- A shift amount: an immediate, or gb[4:0] (R232). -/
inductive ShiftBy where
  | imm (s : Fin 32)
  | reg (b : Fin 16)
  deriving DecidableEq, Repr

def ShiftBy.srcs : ShiftBy → List Nat
  | .imm _ => []
  | .reg b => [b.val]

def Hub.shiftBy (h : Hub) (c : Nat) : ShiftBy → Nat
  | .imm s => s.val
  | .reg b => bitsOf (h.g c b.val) 0 5

/-! ### Wide registers (R234) -/

/-- The value of a g operand read by a form: S32, F24, U32. -/
def formVal (form : Nat) (v : Word) : Int :=
  match form with
  | 0 => v.toInt
  | 1 => v.toInt / 256
  | _ => v.toNat

def wacc (r c d a form : Nat) (h : Hub) : Hub :=
  h.issue r c 1 { g := [a], w := [d] } fun h => { hub := h.setW c d (h.w c d + BitVec.ofInt 80 (formVal form (h.g c a))) }

def wsq (r c d a form : Nat) (h : Hub) : Hub :=
  h.issue r c 2 { g := [a], w := [d] } fun h =>
    { hub := h.setW c d (h.w c d + BitVec.ofInt 80 (formVal form (h.g c a) * formVal form (h.g c a))) }

def wsub (r c d a b : Nat) (h : Hub) : Hub :=
  h.issue r c 1 { w := [d, a, b] } fun h => { hub := h.setW c d (h.w c a - h.w c b) }

/-- The amount of WSHR: an immediate, or gb[6:0]. -/
inductive WideBy where
  | imm (s : Fin 128)
  | reg (b : Fin 16)
  deriving DecidableEq, Repr

def WideBy.srcs : WideBy → List Nat
  | .imm _ => []
  | .reg b => [b.val]

def Hub.wideBy (h : Hub) (c : Nat) : WideBy → Nat
  | .imm s => s.val
  | .reg b => bitsOf (h.g c b.val) 0 7

def wshr (r c d a : Nat) (s : WideBy) (h : Hub) : Hub :=
  h.issue r c 1 { g := s.srcs, w := [d, a] } fun h =>
    { hub := h.setW c d (BitVec.ofInt 80 ((h.w c a).toInt / (2 ^ h.wideBy c s : Nat))) }

/-- The value WRD gives in a mode, none where it faults with ERANGE. -/
def wrdValue (mode k : Nat) (w : BitVec 80) : Option Word :=
  let v : Int := w.toInt / (2 ^ k : Nat)
  match mode with
  | 0 => some (wdInt v)
  | 1 => some (wdInt (clampInt (-2147483648) 2147483647 v))
  | 2 => some (f32Word (ofFrac b32 w.toInt (2 ^ k)))
  | _ => if w.toInt < 0 then none else some (wd (min (isqrt v.toNat) 0xFFFFFFFF))

def wrdSlots (mode : Nat) : Nat := match mode with
  | 0 | 1 => 1
  | 2 => 2
  | _ => 4

def wrd (r c d a mode k : Nat) (h : Hub) : Hub :=
  h.issue r c (wrdSlots mode) { g := [d], w := [a] } fun h =>
    match wrdValue mode k (h.w c a) with
    | some v => { hub := h.setG c d v }
    | none => { hub := h, fault := some (ERANGE, false) }

def wclr (r c d : Nat) (h : Hub) : Hub := h.issue r c 1 { w := [d] } fun h => { hub := h.setW c d 0#80 }

/-! ### Compare and branch (R235, R236) -/

/-- The second operand of CMP. -/
inductive CmpWith where
  | reg (b : Fin 16)
  | imm (v : BitVec 13)
  deriving DecidableEq, Repr

def CmpWith.srcs : CmpWith → List Nat
  | .reg b => [b.val]
  | .imm _ => []

def Hub.cmpWith (h : Hub) (c : Nat) : CmpWith → Word
  | .reg b => h.g c b.val
  | .imm v => v.signExtend 32

/-- The relations of R235. -/
def relation (rel : Nat) (a b : Word) : Bool :=
  match rel with
  | 0 => a = b
  | 1 => a ≠ b
  | 2 => decide (a.toInt < b.toInt)
  | 3 => decide (b.toInt ≤ a.toInt)
  | 4 => decide (a.toNat < b.toNat)
  | 5 => decide (b.toNat ≤ a.toNat)
  | 6 => a &&& b ≠ 0#32
  | 7 => a &&& b = 0#32
  | 8 => false
  | _ => true

/-- How CMP combines the relation with the predicate: SET, AND, OR. -/
def combine (comb : Nat) (q rl : Bool) : Bool :=
  match comb with
  | 0 => rl
  | 1 => q && rl
  | _ => q || rl

def cmp (r c n comb rel a : Nat) (o : CmpWith) (h : Hub) : Hub :=
  h.issue r c 1 { g := a :: o.srcs, q := [n] } fun h =>
    { hub := h.setQ c n (combine comb (h.q c n) (relation rel (h.g c a) (h.cmpWith c o))) }

/-- A branch from word `pc` by a signed offset; a target outside 0 to COUNT − 1 faults and halts (R236). -/
def Hub.branchTo (h0 h : Hub) (c pc : Nat) (off : BitVec 22) : Fx :=
  let t : Int := (pc : Int) + off.toInt
  if t < 0 ∨ (h.codeCount c : Int) ≤ t then { hub := h0, fault := some (ERANGE, true) }
  else { hub := h, jump := some t.toNat }

def br (r c : Nat) (off : BitVec 22) (h : Hub) : Hub := h.issue r c 1 {} fun h => h.branchTo h c (h.pc c) off

def brq (r c n : Nat) (sense clr : Bool) (off : BitVec 22) (h : Hub) : Hub :=
  h.issue r c 1 { q := [n] } fun h =>
    let h' := if clr then h.setQ c n false else h
    if h.q c n != sense then h.branchTo h' c (h.pc c) off else { hub := h' }

def call (r c l : Nat) (off : BitVec 22) (h : Hub) : Hub :=
  h.issue r c 1 { g := [l] } fun h => h.branchTo (h.setG c l (wd (h.pc c + 1))) c (h.pc c) off

def ret (r c l : Nat) (h : Hub) : Hub :=
  h.issue r c 1 { g := [l] } fun h =>
    let t := bitsOf (h.g c l) 0 14
    if h.codeCount c ≤ t then { hub := h, fault := some (ERANGE, true) } else { hub := h, jump := some t }

def loop (r c l : Nat) (off : BitVec 22) (h : Hub) : Hub :=
  h.issue r c 1 { g := [l] } fun h =>
    let v := h.g c l - 1#32
    let h' := h.setG c l v
    if v = 0#32 then { hub := h' } else h.branchTo h' c (h.pc c) off

/-! ### Memory (R36, R37, R219 to R221, R237) -/

/-- Bytes of a size code: W, H, B. -/
def sizeBytes : Nat → Nat
  | 0 => 4
  | 1 => 2
  | _ => 1

/-- Turrets may read the region (R37). -/
def turretReads : Option Region → Bool
  | none => false
  | some .journal => false
  | some _ => true

/-- Turrets may write the region (R37). -/
def turretWrites : Option Region → Bool
  | some .data => true
  | some .capture => true
  | _ => false

/-- The address of a memory instruction. -/
def Hub.memAddr (h : Hub) (c a : Nat) (imm : BitVec 14) : Nat := (h.g c a + imm.signExtend 32).toNat

/-- Appends an access to the outstanding ones of a context. -/
def Hub.addAcc (h : Hub) (c : Nat) (a : DomeAccess) : Hub := h.modCtx c fun x => { x with acc := x.acc ++ [a] }

/-- A load of `n` bytes (R221: one that is not performed writes 0 and faults with ERANGE). -/
def Hub.loadFx (h : Hub) (r c : Nat) (d : Dest) (a n : Nat) : Fx :=
  if a % n = 0 && turretReads (h.region a) then { hub := h.addAcc c (.load d a n (h.pc c)) }
  else
    let h := match d with
      | .g k => h.setG c k 0#32
      | .w k => h.setW c k 0#80
    { hub := h.deny r (turretId (c / 64)) a, fault := some (ERANGE, false) }

/-- A store of `n` bytes. -/
def Hub.storeFx (h : Hub) (r c a n v : Nat) : Fx :=
  if a % n = 0 && turretWrites (h.region a) then { hub := h.addAcc c (.store a n v) }
  else { hub := h.deny r (turretId (c / 64)) a, fault := some (ERANGE, false) }

def ld (r c size d a : Nat) (imm : BitVec 14) (h : Hub) : Hub :=
  h.issue r c 1 { g := [d, a], tag := true } fun h => h.loadFx r c (.g d) (h.memAddr c a imm) (sizeBytes size)

def st (r c size d a : Nat) (imm : BitVec 14) (h : Hub) : Hub :=
  h.issue r c 1 { g := [d, a], tag := true } fun h =>
    h.storeFx r c (h.memAddr c a imm) (sizeBytes size) ((h.g c d).toNat % 2 ^ (8 * sizeBytes size))

def ldw (r c n a : Nat) (imm : BitVec 14) (h : Hub) : Hub :=
  h.issue r c 1 { g := [a], w := [n], tag := true } fun h => h.loadFx r c (.w n) (h.memAddr c a imm) 8

def stw (r c n a : Nat) (imm : BitVec 14) (h : Hub) : Hub :=
  h.issue r c 1 { g := [a], w := [n], tag := true } fun h =>
    h.storeFx r c (h.memAddr c a imm) 8 ((h.w c n).toNat % 2 ^ 64)

/-- Access `k` of a context, if no earlier one of the context touches its words (R220). -/
def Ctx.ready (x : Ctx) (k : Nat) : Option DomeAccess :=
  match x.acc[k]? with
  | some a => if (x.acc.take k).any a.clash then none else some a
  | none => none

/-- Access `k` is complete: its tag is free, stalls are tried again (R219). -/
def Hub.dropAcc (h : Hub) (c k : Nat) : Hub := h.modCtx c fun x => { x with acc := x.acc.eraseIdx k, stalled := false }

/-- The value a load delivers to a g register (R237). -/
def loadWord (n v : Nat) : Word := if n = 2 then wdInt (signed 16 v) else wd v

/-- LOAD_COMPLETE (R220, R221): access `k` of context `c`, a load, delivers. -/
def loadComplete (r c k : Nat) (h : Hub) : Hub :=
  match (h.ctx c).ready k with
  | some (.load d a n pc) =>
    let v := h.domeRead a n
    let bad := h.poisoned a
    let h := h.dropAcc c k
    let h := match d with
      | .g j => h.setG c j (loadWord n v)
      | .w j => h.setW c j (BitVec.ofInt 80 (signed 64 v))
    if bad then h.ctxFault r c EPOISON pc false else h
  | _ => h

/-- STORE_ACCEPTED (R219, R220): access `k` of context `c`, a store, reaches the Dome. -/
def storeAccepted (c k : Nat) (h : Hub) : Hub :=
  match (h.ctx c).ready k with
  | some (.store a n v) => (h.domeWrite a n v).dropAcc c k
  | _ => h

/-! ### Stream ports (R238 to R241) -/

/-- A port named directly or by gr[5:0]. -/
inductive PortSel where
  | direct (p : Fin 64)
  | indirect (gr : Fin 16)
  deriving DecidableEq, Repr

def PortSel.srcs : PortSel → List Nat
  | .direct _ => []
  | .indirect gr => [gr.val]

def Hub.portOf (h : Hub) (c : Nat) : PortSel → Nat
  | .direct p => p.val
  | .indirect gr => bitsOf (h.g c gr.val) 0 6

/-- Delivers an element to the pair at `d`. -/
def Hub.setPair (h : Hub) (c d : Nat) (v : Word × Word) : Hub := (h.setG c d v.1).setG c (d + 1) v.2

/-- TAKE of `n` elements (R238). -/
def take (r c d : Nat) (p : PortSel) (n : Nat) (h : Hub) : Hub :=
  h.issue r c 1 { g := d :: (d + 1) :: p.srcs } fun h =>
    let q := h.portOf c p
    let b := (h.ctx c).buf q
    if !h.isInput c q then { hub := h, fault := some (ESTATE, false) }
    else if b.fill < n then { hub := h, fault := some (ESIZE, false) }
    else
      let v := h.portElem c q (n - 1)
      { hub := (h.modCtx c fun x => { x with bufs := SMap.put x.bufs q { b with fill := b.fill - n } }).setPair c d v }

/-- PEEK at the element `i` places behind the oldest (R238). -/
def peek (r c d : Nat) (p : PortSel) (i : Nat) (h : Hub) : Hub :=
  h.issue r c 1 { g := d :: (d + 1) :: p.srcs } fun h =>
    let q := h.portOf c p
    if !h.isInput c q then { hub := h, fault := some (ESTATE, false) }
    else if ((h.ctx c).buf q).fill < i + 1 then { hub := h, fault := some (ESIZE, false) }
    else { hub := h.setPair c d (h.portElem c q i) }

/-- Where EMIT finds its ports: port and time port, direct or both in gr. -/
inductive EmitSel where
  | direct (p : Fin 64) (tp : Fin 32)
  | indirect (gr : Fin 16)
  deriving DecidableEq, Repr

def EmitSel.srcs : EmitSel → List Nat
  | .direct _ _ => []
  | .indirect gr => [gr.val]

def Hub.emitPorts (h : Hub) (c : Nat) : EmitSel → Nat × Nat
  | .direct p tp => (p.val, tp.val)
  | .indirect gr => (bitsOf (h.g c gr.val) 0 6, bitsOf (h.g c gr.val) 8 5)

/-- K of R239: congruent to `k` modulo 2^24 and nearest to `ref`. -/
def indexNear (ref k : Nat) : Int := (ref : Int) + signed 24 (unsigned 24 ((k : Int) - ref))

/-- Queues an element of derived stream `s` for the Ledger and for the ports fed from it. -/
def Hub.emitElem (h : Hub) (e : LedElem) (k : Nat) : Hub :=
  let h := if h.streamOn e.stream then h.toLedger e else h
  h.feedPorts 2 e.stream { value := e.value, flags := e.flags, k := k }

/-- EMIT (R239, R240, R291). Intervals that end after the element stay to be declared before a later one (R25). -/
def emit (r c d fmt : Nat) (sel : EmitSel) (h : Hub) : Hub :=
  h.issue r c 1 { g := d :: (d + 1) :: sel.srcs } fun h =>
    let (p, tp) := h.emitPorts c sel
    let o := SMap.get {} (h.ctx c).ports p
    let info := h.g c (d + 1)
    let fl := bitsOf info 0 8 &&& 0xAF
    let v := if fmt = 0 then ((h.g c d) &&& 0xFFFFFF00#32) ||| wd fl else h.g c d
    let k := indexNear ((h.ctx c).buf tp).kref (bitsOf info 8 24)
    let fresh := o.fmt.isNone
    let (per, ep) := if fresh then h.portClock c tp else (o.period, o.epochS)
    let inst := ((ep : Int) + k * (per : Nat)).toNat
    let now := h.timeAt r
    let fault (s : Nat) : Fx := { hub := h, fault := some (s, false) }
    if !h.isOutput c p then fault ESTATE
    else if h.portKind c tp ≠ 1 then fault ESTATE
    else if (o.fmt.map (· != fmt)).getD false then fault ESTATE
    else if fmt = 2 && !(f32Of v).isFin then fault ERANGE
    else if (o.lastInst.map fun t => decide (inst ≤ t)).getD false then fault ETIME
    else match bucketTake (h.rd (Addr.CTX_PORT_LIM (c / 64) (c % 64) p)).toNat o.tokens o.refilled now with
      | none => fault ESIZE
      | some left =>
        let (x, h) := h.drawWord
        let lsb := if fresh then bitsOf x 0 8 else o.lsb
        let seq := unsigned 48 k
        let o' : OutPort :=
          { fmt := some fmt, epochS := ep, period := per, lastInst := some inst, tokens := some left, refilled := now,
            gaps := o.gaps.filter fun g => decide (inst < g.2.1), halted := none, lsb := lsb }
        let h := h.modCtx c fun x => { x with ports := SMap.put x.ports p o' }
        { hub := h.emitElem { stream := h.portSrc c p, kind := .derived, seq := some seq, inst := inst, fmt := fmt, flags := fl,
                              value := v, epochS := ep, period := per, lsb := lsb, gaps := o.missing ep per seq } seq }

/-- SEAL (R241). -/
def sealPort (r c : Nat) (p : PortSel) (h : Hub) : Hub :=
  h.issue r c 2 { g := p.srcs } fun h =>
    let q := h.portOf c p
    if !h.isOutput c q then { hub := h, fault := some (ESTATE, false) }
    else { hub := (h.drainStream (h.timeAt r) (h.portSrc c q)).seal (h.timeAt r) (h.portSrc c q) }

/-! ### CURVE (R243) -/

def curve (r c d a num island m : Nat) (h : Hub) : Hub :=
  h.issue r c 4 { g := [d, a], q := [m] } fun h =>
    let v := h.g c a
    if curveReserved num then { hub := h, fault := some (ERANGE, false) }
    else if isUserCurve num && !h.bit (userCurveBase island num + 8) 0 then { hub := h, fault := some (ESTATE, false) }
    else if !(f32Of v).isFin then { hub := h, fault := some (ERANGE, false) }
    else if num = 0 then { hub := (h.setG c d v).setQ c m false }
    else
      let (y, out) := h.curveValue island num (f32Of v)
      { hub := (h.setG c d (f32Word y)).setQ c m out }

/-! ### Cycles that issue nothing (R225) -/

/-- Edges of 8 that a throttle step delivers (R21, R427). -/
def stepEdges : Nat → Nat
  | 0 => 8 | 1 => 7 | 2 => 6 | _ => 4

/-- The edge at cycle `k` of 500 MHz reaches the Turrets: of every 8 the last ones are withheld, which the spec leaves open
(R21, log entry 2). -/
def Hub.turretEdge (h : Hub) (k : Nat) : Bool := decide (k % 8 < stepEdges (h.fld Addr.CLK_THROTTLE_NOW 2 2))

/-- A cycle of Turret `t` in which nothing issues: idle with no context READY, stalled with READY ones that all wait, one cycle
of which is over (R225, R463). -/
def Hub.quietCycle (t : Nat) (h : Hub) : Hub :=
  if h.sys.turHeld.contains t || !h.sys.ungated.contains t then h
  else
    let ready := (List.range 64).filter fun l => (h.ctx (64 * t + l)).st = .ready
    if ready.isEmpty then h.incWrap (Addr.TUR_IDLE_CNT t) 0 32 1
    else if h.jitWaits t then
      { h with sys.jit := SMap.put h.sys.jit t (SMap.get 0 h.sys.jit t - 1) }.incWrap (Addr.TUR_STALL_CNT t) 0 32 1
    else if ready.all fun l => (h.ctx (64 * t + l)).stalled || (h.ctx (64 * t + l)).waitt.isSome then
      h.incWrap (Addr.TUR_STALL_CNT t) 0 32 1
    else h

/-- A nanosecond passes, RAW being `r` (R19, R22): every second one ends a cycle of the Turrets. -/
def Hub.turretClock (h : Hub) (r : Nat) : Hub :=
  let ns := r / nsU
  if ns % 2 = 0 && h.turretEdge (ns / 2) then forN 4 Hub.quietCycle h else h

/-! ### Time (R248, R249) -/

def time (r c d : Nat) (h : Hub) : Hub :=
  h.issue r c 1 { g := [d, d + 1, d + 2] } fun h =>
    { hub := h.modCtx c fun x => { x with timeReqs := x.timeReqs ++ [(d, h.timeAt r)] } }

/-- TIME_REPLY (R248): the oldest request of the context is answered with the time at which it crossed. -/
def timeReply (c : Nat) (h : Hub) : Hub :=
  match (h.ctx c).timeReqs with
  | [] => h
  | (d, t) :: ts =>
    let h := h.modCtx c fun x => { x with timeReqs := ts, stalled := false }
    ((h.setG c d (kxWord t 0)).setG c (d + 1) (kxWord t 1)).setG c (d + 2) (kxWord t 2)

def waitt (r c a : Nat) (h : Hub) : Hub :=
  h.issue r c 1 { g := [a, a + 1, a + 2] } fun h =>
    let w0 := h.g c a; let w1 := h.g c (a + 1); let w2 := h.g c (a + 2)
    if !kxValid w0 w1 w2 then { hub := h, fault := some (ERANGE, false) }
    else if instOf w0 w1 w2 ≤ h.timeAt r then { hub := h, fault := some (ETIME, false) }
    else { hub := h.modCtx c fun x => { x with waitt := some (instOf w0 w1 w2) } }

/-- WAITT_RESUME (R224, R249): at or after the target. -/
def waittResume (r c : Nat) (h : Hub) : Hub :=
  match (h.ctx c).waitt with
  | some t => if t ≤ h.timeAt r then h.modCtx c fun x => { x with waitt := none } else h
  | none => h

/-! ### Capture (R251) -/

/-- A capture unit named directly or by ga[4:0]. -/
inductive UnitSel where
  | direct (u : Fin 32)
  | indirect (a : Fin 16)
  deriving DecidableEq, Repr

def UnitSel.srcs : UnitSel → List Nat
  | .direct _ => []
  | .indirect a => [a.val]

def Hub.unitOf (h : Hub) (c : Nat) : UnitSel → Nat
  | .direct u => u.val
  | .indirect a => bitsOf (h.g c a.val) 0 5

/-- The outcome of a request: its hub, or a fault with the hub as it was. -/
def Fx.ofStatus (h : Hub) (x : Nat × Hub) : Fx := if x.1 = OK then { hub := x.2 } else { hub := h, fault := some (x.1, false) }

def armUnit (r c : Nat) (u : UnitSel) (h : Hub) : Hub :=
  h.issue r c 1 { g := u.srcs } fun h => Fx.ofStatus h (h.capArm r (h.unitOf c u) (turretId (c / 64)) c)

def disarmUnit (r c : Nat) (u : UnitSel) (h : Hub) : Hub :=
  h.issue r c 1 { g := u.srcs } fun h => Fx.ofStatus h (h.capDisarm (h.unitOf c u) (turretId (c / 64)) c)

/-- FIRE, with the triple `timed` where TIMED is set. -/
def fireUnit (r c : Nat) (u : UnitSel) (timed : Option Nat) (h : Hub) : Hub :=
  h.issue r c 1 { g := u.srcs ++ (match timed with | some b => [b, b + 1, b + 2] | none => []) } fun h =>
    let n := h.unitOf c u
    let now := h.timeAt r
    if h.capState n = capDISARMED then { hub := h, fault := some (ESTATE, false) }
    else match timed with
      | none => Fx.ofStatus h (h.capFire r n now 4 c)
      | some b =>
        let w0 := h.g c b; let w1 := h.g c (b + 1); let w2 := h.g c (b + 2)
        if !kxValid w0 w1 w2 then { hub := h, fault := some (ERANGE, false) }
        else if now < instOf w0 w1 w2 then { hub := h, fault := some (ETIME, false) }
        else Fx.ofStatus h (h.capFire r n (instOf w0 w1 w2) 4 c)

/-! ### Control plane (R253, R254) -/

def post (r c a ch : Nat) (h : Hub) : Hub :=
  h.issue r c 1 { g := [a] } fun h =>
    let (st, h') := h.mbPost r ch (turretId (c / 64)) (h.g c a)
    if st = OK then { hub := h' } else { hub := h', fault := some (st, false) }

def takemb (r c d ch : Nat) (h : Hub) : Hub :=
  h.issue r c 1 { g := [d] } fun h =>
    let m := turretId (c / 64)
    if !h.mbValid ch || h.mbReceiver ch ≠ m then { hub := h, fault := some (EBOUND, false) }
    else if !h.mbFull ch then { hub := h, fault := some (ESTATE, false) }
    else
      let (v, h) := h.mbTake ch m
      { hub := h.setG c d v }

def locka (r c l : Nat) (h : Hub) : Hub :=
  h.issue r c 1 {} fun h =>
    match h.lockCtx l with
    | some x =>
      if x = c then { hub := h }
      else if x / 64 = c / 64 then { hub := h, fault := some (EBUSY, false) }
      else { hub := (h.lockRead l (turretId (c / 64))).2, fault := some (EBUSY, false) }
    | none =>
      let (v, h') := h.lockRead l (turretId (c / 64))
      if v = 0#32 then { hub := { h' with ctl.lockCtx := SMap.put h'.ctl.lockCtx l c } }
      else { hub := h', fault := some (EBUSY, false) }

/-- LOCKR completes only after every earlier store of its context (R220, R254): until then it stalls. -/
def lockr (r c l : Nat) (h : Hub) : Hub :=
  if h.canIssue c && (h.ctx c).acc.any (fun a => match a with | .store _ _ _ => true | _ => false) then
    h.modCtx c fun x => { x with stalled := true }
  else h.issue r c 1 {} fun h =>
    if h.lockCtx l = some c then { hub := h.lockFree l } else { hub := h, fault := some (ESTATE, false) }

/-! ### Flow (R255) -/

/-- YIELD (R215): to WAIT, or on to a pending activation; to IDLE where a stop has met the activation (R418). -/
def yieldI (r c : Nat) (h : Hub) : Hub :=
  h.issue r c 1 {} fun h =>
    let a := Addr.CTX_PEND (c / 64) (c % 64)
    if (h.ctx c).stopAt.isSome then { hub := h.ctxFinish r c }
    else if h.fld a 0 16 = 0 then { hub := (h.modCtx c fun x => { x with st := .wait }).applyCopy c }
    else
      let h := (h.setFld a 0 16 (h.fld a 0 16 - 1)).startAct c
      { hub := h, jump := some (h.pc c) }

def haltI (r c : Nat) (h : Hub) : Hub := h.issue r c 1 {} fun h => { hub := h.haltCtx r c }

def nopI (r c : Nat) (h : Hub) : Hub := h.issue r c 1 {} fun h => { hub := h }

end Sys2Proof.Machine
end

