-- ==== Sys2Proof/Machine/MeasUnit.lean ====
section
/-!
DEFINITION. The Turrets' measurement unit: XING, PEAKT and RFLOW and their records in the Dome (R242 to R247).
-/

namespace Sys2Proof.Machine

/-- The record is 8-byte aligned and lies wholly in one region Turrets may write (R242). -/
def Hub.recordOk (h : Hub) (a n : Nat) : Bool :=
  a % 8 = 0 && turretWrites (h.region a) && h.region a = h.region (a + n - 1)

/-- A measurement instruction with record address `gb`, value `ga` and, where it has one, the word after it. -/
def measure (r c k d a b : Nat) (pair : Bool) (q : List Nat) (op : MeasOp) (h : Hub) : Hub :=
  h.issue r c k { g := d :: b :: a :: (if pair then [a + 1] else []), q := q, tag := true } fun h =>
    let ra := (h.g c b).toNat
    if !h.recordOk ra op.bytes then { hub := h, fault := some (ERANGE, false) }
    else { hub := h.addAcc c (.meas op d ra (h.g c a) (if pair then h.g c (a + 1) else 0#32) (h.pc c)) }

def xing (r c d a b form n edges : Nat) (h : Hub) : Hub := measure r c 3 d a b true [n] (.xing form n edges) h
def peakt (r c d a b form n : Nat) (reset : Bool) (h : Hub) : Hub := measure r c 2 d a b true [n] (.peakt form n reset) h
def rflow (r c d a b mode : Nat) (h : Hub) : Hub := measure r c 4 d a b false [] (.rflow mode) h

/-- XING on the record at `a` (R244): `gd`, `qn` and the hub. The condition of `gd`, `LAST_X and XVALID = 1`, is read as `LAST_X`
holding a crossing, which is what `XVALID` says (log entry 55). A line between equal values has no crossing: there the
position is free (log entry 4). -/
def xingUnit (h : Hub) (a form edges : Nat) (v idx : Word) : Word × Bool × Hub :=
  let x := formVal form v
  let k := bitsOf idx 8 24
  let pinfo := h.domeWord (a + 12)
  if idx.getLsbD 7 then (0#32, false, h.domeWrite (a + 12) 4 (putBit pinfo 24 false).toNat)
  else
    let level := (h.domeWord a).toInt
    let hyst : Int := (h.domeWord (a + 4)).toNat
    let prev := (h.domeWord (a + 8)).toInt
    let side := pinfo.getLsbD 25
    let rise := pinfo.getLsbD 26 && !side && decide (level + hyst ≤ x)
    let fall := pinfo.getLsbD 26 && side && decide (x ≤ level - hyst)
    let side' := if !pinfo.getLsbD 26 then decide (level ≤ x) else if rise then true else if fall then false else side
    let hit := (rise && edges.testBit 0) || (fall && edges.testBit 1)
    let lastX := h.domeWord (a + 16)
    let cnt := h.domeWord (a + 20)
    let (frac, h) : Int × Hub :=
      if x = prev then h.drawInt 0 255 else (clampInt 0 255 (Int.fdiv (256 * (level - prev)) (x - prev)), h)
    let pIdx := bitsOf pinfo 0 24
    let pos : Word :=
      if pinfo.getLsbD 24 && k = (pIdx + 1) % 2 ^ 24 then wdInt ((pIdx : Int) * 256 + frac) else wd (k * 256)
    let gd := if hit && pinfo.getLsbD 27 then pos - lastX else 0#32
    let p' := putBit (putBit (putBit (putBits pinfo 0 24 k) 24 true) 25 side') 26 true
    let p' := if hit then putBit p' 27 true else p'
    let h := ((h.domeWrite (a + 8) 4 (wdInt x).toNat).domeWrite (a + 12) 4 p'.toNat)
    let h := if hit then (h.domeWrite (a + 16) 4 pos.toNat).domeWrite (a + 20) 4 (cnt + 1#32).toNat else h
    (gd, hit, h)

/-- PEAKT on the record at `a` (R245). -/
def peaktUnit (h : Hub) (a form : Nat) (reset : Bool) (v idx : Word) : Word × Bool × Hub :=
  let x := formVal form v
  let k := bitsOf idx 8 24
  let mx := h.domeWord a
  let maxi := h.domeWord (a + 4)
  let mn := h.domeWord (a + 8)
  let mini := h.domeWord (a + 12)
  let valid := maxi.getLsbD 24
  let clear (w : Word) : Word := if reset then putBit w 24 false else w
  if idx.getLsbD 7 then
    (if valid then mx - mn else 0#32, false, if reset then h.domeWrite (a + 4) 4 (clear maxi).toNat else h)
  else
    let up := !valid || decide (mx.toInt < x)
    let down := !valid || decide (x < mn.toInt)
    let mx' := if up then wdInt x else mx
    let mn' := if down then wdInt x else mn
    let maxi' := putBit (if up then putBits maxi 0 24 k else maxi) 24 true
    let mini' := if down then putBits mini 0 24 k else mini
    (mx' - mn', up || down,
      (((h.domeWrite a 4 mx'.toNat).domeWrite (a + 4) 4 (clear maxi').toNat).domeWrite (a + 8) 4 mn'.toNat).domeWrite (a + 12) 4
        mini'.toNat)

/-! ### RFLOW (R246, R247) -/

/-- The working state of RFLOW: turning points oldest first, units added, OVF, and the hub with the bins and counters. -/
structure Rain where
  hub : Hub
  base : Nat
  lo : Int
  shift : Nat
  stack : List Int
  added : Nat := 0
  ovf : Bool := false

/-- count(u, v, n) of R247. -/
def Rain.count (x : Rain) (u v : Int) (n : Nat) : Rain :=
  let r0 := (u - v).natAbs / 2 ^ x.shift
  let m0 : Int := (u + v - 2 * x.lo) / (2 ^ (x.shift + 1) : Nat)
  let r := min r0 63
  let m := (clampInt 0 63 m0).toNat
  let a := x.base + 0x140 + 4 * (64 * r + m)
  let h := x.hub.domeWrite a 4 (min ((x.hub.domeWord a).toNat + n) 0xFFFFFFFF)
  let h := h.domeWrite (x.base + 0x14) 4 ((h.domeWord (x.base + 0x14)).toNat + n)
  let h := if 63 < r0 ∨ m0 < 0 ∨ 63 < m0 then h.domeWrite (x.base + 0x18) 4 ((h.domeWord (x.base + 0x18)).toNat + 1) else h
  { x with hub := h, added := x.added + n }

/-- The stack becomes `l`, which differs from what it was from entry `i` on: those words go to the record, and words at and above the
new DEPTH stay there as they are (R246, R247). -/
def Rain.store (x : Rain) (i : Nat) (l : List Int) : Rain :=
  { x with stack := l, hub := x.hub.domeBytes (x.base + 0x20 + 4 * i) ((l.drop i).flatMap fun p => bytesOf (wdInt p).toNat 4) }

/-- The closing loop of push(p) of R247; `fuel` bounds the points. -/
def Rain.close : Nat → Rain → Rain
  | 0, x => x
  | fuel + 1, x =>
    match x.stack.reverse with
    | c :: b :: a :: rest =>
      if (c - b).natAbs < (b - a).natAbs then x
      else if rest.isEmpty then Rain.close fuel ((x.count a b 1).store 0 [b, c])
      else Rain.close fuel ((x.count a b 2).store rest.length (c :: rest).reverse)
    | _ => x

/-- push(p) of R247. -/
def Rain.push (x : Rain) (p : Int) : Rain :=
  let x := match decide (64 ≤ x.stack.length), x.stack with
    | true, a :: b :: rest => { (x.count a b 1).store 0 (b :: rest) with ovf := true }
    | _, _ => x
  Rain.close 65 (x.store x.stack.length (x.stack ++ [p]))

/-- The residue counted as half cycles. -/
def Rain.residue : List Int → Rain → Rain
  | a :: b :: t, x => Rain.residue (b :: t) (x.count a b 1)
  | _, x => x

/-- Directions of R246. -/
def dirNONE : Nat := 0
def dirRISING : Nat := 1
def dirFALLING : Nat := 2

/-- RFLOW on the record at `a` with input `x` (R247): `gd` and the hub, or a fault that changes nothing. A SAMPLE with
HAVE set on an empty stack compares with a turning point the record does not hold: there it is free (log entry 4). -/
def rflowUnit (h : Hub) (a mode : Nat) (x : Int) : Option (Word × Hub) :=
  let state := h.domeWord (a + 12)
  let dir := bitsOf state 0 2
  let have_ := state.getLsbD 2
  let depth := bitsOf state 3 7
  let shift := bitsOf (h.domeWord (a + 4)) 0 5
  let hyst : Int := (h.domeWord (a + 8)).toNat
  if 24 < shift ∨ 64 < depth ∨ dir = 3 then none
  else
    let cand := (h.domeWord (a + 16)).toInt
    let stack := (List.range depth).map fun i => (h.domeWord (a + 0x20 + 4 * i)).toInt
    let (t, h) : Int × Hub := match stack.getLast? with
      | some t => (t, h)
      | none => if mode = 0 && have_ && dir = dirNONE then h.drawInt (-2147483648) 2147483647 else (0, h)
    let s : Rain := { hub := h, base := a, lo := (h.domeWord a).toInt, shift := shift, stack := stack }
    let (s, dir, have_, cand, keepOvf) : Rain × Nat × Bool × Int × Bool :=
      match mode with
      | 0 =>
        if !have_ then (s.push x, dir, true, cand, true)
        else if dir = dirNONE then
          if hyst < ((x - t).natAbs : Int) then (s, if t < x then dirRISING else dirFALLING, true, x, true)
          else (s, dir, true, cand, true)
        else if dir = dirRISING then
          if cand < x then (s, dir, true, x, true)
          else if hyst < cand - x then (s.push cand, dirFALLING, true, x, true)
          else (s, dir, true, cand, true)
        else
          if x < cand then (s, dir, true, x, true)
          else if hyst < x - cand then (s.push cand, dirRISING, true, x, true)
          else (s, dir, true, cand, true)
      | 1 =>
        let s := if dir ≠ dirNONE then s.push cand else s
        ({ s.residue s.stack with stack := [] }, dirNONE, false, cand, true)
      | _ => ({ s with stack := [] }, dirNONE, false, cand, false)
    let st := putBits (putBit (putBits state 0 2 dir) 2 have_) 3 7 s.stack.length
    let st := putBit st 10 (keepOvf && (state.getLsbD 10 || s.ovf))
    some (wd s.added, (s.hub.domeWrite (a + 12) 4 st.toNat).domeWrite (a + 16) 4 (wdInt cand).toNat)

/-- MEASUREMENT_COMPLETE (R242): access `k` of context `c`, a measurement, is one operation on its record. -/
def measurementComplete (r c k : Nat) (h : Hub) : Hub :=
  match (h.ctx c).ready k with
  | some (.meas op d a v idx pc) =>
    let h := h.dropAcc c k
    match op with
    | .xing form n edges =>
      let (g, q, h) := xingUnit h a form edges v idx
      (h.setG c d g).setQ c n q
    | .peakt form n reset =>
      let (g, q, h) := peaktUnit h a form reset v idx
      (h.setG c d g).setQ c n q
    | .rflow mode =>
      match rflowUnit h a mode v.toInt with
      | some (g, h) => h.setG c d g
      | none => h.ctxFault r c ERANGE pc false
  | _ => h

end Sys2Proof.Machine
end

