-- ==== Sys2Proof/Machine/Amixel.lean ====
section
/-!
DEFINITION. The Amixel instruction set: the instructions, the decoding of a 32-bit word (R226 to R229 and the entries
R232 to R255), an encoder, and the word a context comes to (R211).
-/

namespace Sys2Proof.Machine

/-- Where an immediate and a register are the two forms of a relation's operand, see `CmpWith`; `d` is the destination,
`a` and `b` the sources, a pair is named by half its even register (R229), a triple by its first register. -/
inductive Amixel where
  | add (d a b : Fin 16) | sub (d a b : Fin 16) | mul (d a b : Fin 16)
  | mulh (uns : Bool) (d a b : Fin 16)
  | and_ (d a b : Fin 16) | or_ (d a b : Fin 16) | xor_ (d a b : Fin 16)
  | shl (d a : Fin 16) (s : ShiftBy) | shr (d a : Fin 16) (s : ShiftBy) | sar (d a : Fin 16) (s : ShiftBy)
  | min_ (uns : Bool) (d a b : Fin 16) | max_ (uns : Bool) (d a b : Fin 16)
  | abs_ (d a : Fin 16) | clz (d a : Fin 16)
  | addi (d a : Fin 16) (imm : BitVec 14) | lui (d : Fin 16) (imm : BitVec 18)
  | andi (d a : Fin 16) (imm : BitVec 14) | ori (d a : Fin 16) (imm : BitVec 14)
  | wacc (d : Fin 4) (a : Fin 16) (form : Fin 3) | wsq (d : Fin 4) (a : Fin 16) (form : Fin 3)
  | wsub (d a b : Fin 4) | wshr (d a : Fin 4) (s : WideBy)
  | wrd (d : Fin 16) (a : Fin 4) (mode : Fin 4) (k : Fin 128) | wclr (d : Fin 4)
  | cmp (q : Fin 4) (comb : Fin 3) (rel : Fin 10) (a : Fin 16) (o : CmpWith)
  | br (off : BitVec 22) | brq (q : Fin 4) (sense clr : Bool) (off : BitVec 22)
  | call (l : Fin 16) (off : BitVec 22) | ret (l : Fin 16) | loop (l : Fin 16) (off : BitVec 22)
  | ld (size : Fin 3) (d a : Fin 16) (imm : BitVec 14) | st (size : Fin 3) (d a : Fin 16) (imm : BitVec 14)
  | ldw (n : Fin 4) (a : Fin 16) (imm : BitVec 14) | stw (n : Fin 4) (a : Fin 16) (imm : BitVec 14)
  | take (d : Fin 8) (p : PortSel) (less : Fin 256) | peek (d : Fin 8) (p : PortSel) (i : Fin 256)
  | emit (d : Fin 8) (fmt : Fin 3) (p : EmitSel) | seal_ (p : PortSel)
  | curve (d a : Fin 16) (num : Fin 64) (island : Fin 16) (m : Fin 4)
  | xing (d : Fin 16) (a : Fin 8) (b : Fin 16) (form : Fin 2) (q : Fin 4) (edges : Fin 3)
  | peakt (d : Fin 16) (a : Fin 8) (b : Fin 16) (form : Fin 2) (q : Fin 4) (reset : Bool)
  | rflow (d a b : Fin 16) (mode : Fin 3)
  | time (d : Fin 14) | waitt (a : Fin 14) | alarmArm (a : Fin 14) (n : Fin 16) | alarmDisarm (n : Fin 16)
  | armUnit (u : UnitSel) | disarmUnit (u : UnitSel) | fireUnit (u : UnitSel) (timed : Option (Fin 14))
  | mirror | post (a : Fin 16) (ch : Fin 64) | takemb (d : Fin 16) (ch : Fin 64)
  | locka (l : Fin 32) | lockr (l : Fin 32) | yield_ | halt | nop
  deriving DecidableEq, Repr

/-! ### Decoding -/

/-- The register in bits [lo+3:lo]. -/
def regAt (w : Word) (lo : Nat) : Fin 16 := Fin.ofNat 16 (bitsOf w lo 4)

/-- The wide register or predicate in bits [lo+1:lo]. -/
def wideAt (w : Word) (lo : Nat) : Fin 4 := Fin.ofNat 4 (bitsOf w lo 2)

/-- A pair operand: none for an odd register (R229). -/
def pairAt (w : Word) (lo : Nat) : Option (Fin 8) :=
  if bitsOf w lo 4 % 2 = 0 then some (Fin.ofNat 8 (bitsOf w lo 4 / 2)) else none

/-- A triple operand: none above 13 (R229). -/
def tripleAt (w : Word) (lo : Nat) : Option (Fin 14) :=
  if bitsOf w lo 4 ≤ 13 then some (Fin.ofNat 14 (bitsOf w lo 4)) else none

/-- A two-bit selector of which 0b11 is reserved. -/
def threeAt (w : Word) (lo : Nat) : Option (Fin 3) :=
  if bitsOf w lo 2 < 3 then some (Fin.ofNat 3 (bitsOf w lo 2)) else none

/-- The field must be 0 (R228). -/
def zeroAt (w : Word) (lo n : Nat) : Option Unit := if bitsOf w lo n = 0 then some () else none

/-- An immediate or offset of `n` bits at the word's foot. -/
def immAt (w : Word) (n : Nat) : BitVec n := BitVec.ofNat n w.toNat

/-- Format A with func = 0 and three registers (R232). -/
def decodeRRR (w : Word) (f : Fin 16 → Fin 16 → Fin 16 → Amixel) : Option Amixel := do
  zeroAt w 0 14
  pure (f (regAt w 22) (regAt w 18) (regAt w 14))

/-- Format A with func[0] = unsigned (R232). -/
def decodeURRR (w : Word) (f : Bool → Fin 16 → Fin 16 → Fin 16 → Amixel) : Option Amixel := do
  zeroAt w 1 13
  pure (f (bitOf w 0) (regAt w 22) (regAt w 18) (regAt w 14))

/-- Format A with b = 0 and func = 0 (R232). -/
def decodeRR (w : Word) (f : Fin 16 → Fin 16 → Amixel) : Option Amixel := do
  zeroAt w 0 18
  pure (f (regAt w 22) (regAt w 18))

/-- The shifts: func[5] = 1 gives s = func[4:0] and b = 0, else s = gb[4:0] and func[4:0] = 0 (R232). -/
def decodeShift (w : Word) (f : Fin 16 → Fin 16 → ShiftBy → Amixel) : Option Amixel := do
  zeroAt w 6 8
  let s ← if bitOf w 5 then do
      zeroAt w 14 4
      pure (ShiftBy.imm (Fin.ofNat 32 (bitsOf w 0 5)))
    else do
      zeroAt w 0 5
      pure (ShiftBy.reg (regAt w 14))
  pure (f (regAt w 22) (regAt w 18) s)

/-- Format I with x = 0 (R233). -/
def decodeImm (w : Word) (f : Fin 16 → Fin 16 → BitVec 14 → Amixel) : Option Amixel := do
  zeroAt w 14 4
  pure (f (regAt w 22) (regAt w 18) (immAt w 14))

/-- The ALU and immediate instructions (R232, R233). -/
def decodeAlu (w : Word) : Option Amixel :=
  match bitsOf w 26 6 with
  | 0x01 => decodeRRR w .add
  | 0x02 => decodeRRR w .sub
  | 0x03 => decodeRRR w .mul
  | 0x04 => decodeURRR w .mulh
  | 0x05 => decodeRRR w .and_
  | 0x06 => decodeRRR w .or_
  | 0x07 => decodeRRR w .xor_
  | 0x08 => decodeShift w .shl
  | 0x09 => decodeShift w .shr
  | 0x0A => decodeShift w .sar
  | 0x0B => decodeURRR w .min_
  | 0x0C => decodeURRR w .max_
  | 0x0D => decodeRR w .abs_
  | 0x0E => decodeRR w .clz
  | 0x0F => decodeImm w .addi
  | 0x10 => do
    zeroAt w 18 4
    pure (.lui (regAt w 22) (immAt w 18))
  | 0x11 => decodeImm w .andi
  | 0x12 => decodeImm w .ori
  | _ => none

/-- WACC and WSQ: wd, ga and the form f[1:0] (R234). -/
def decodeAcc (w : Word) (f : Fin 4 → Fin 16 → Fin 3 → Amixel) : Option Amixel := do
  zeroAt w 22 2
  zeroAt w 2 16
  let form ← threeAt w 0
  pure (f (wideAt w 24) (regAt w 18) form)

/-- The wide instructions (R234). -/
def decodeWide (w : Word) : Option Amixel :=
  match bitsOf w 26 6 with
  | 0x13 => decodeAcc w .wacc
  | 0x14 => decodeAcc w .wsq
  | 0x15 => do
    zeroAt w 14 8
    zeroAt w 0 12
    pure (.wsub (wideAt w 24) (wideAt w 22) (wideAt w 12))
  | 0x16 => do
    zeroAt w 18 4
    zeroAt w 8 6
    let s ← if bitOf w 7 then do
        zeroAt w 0 7
        pure (WideBy.reg (regAt w 14))
      else do
        zeroAt w 14 4
        pure (WideBy.imm (Fin.ofNat 128 (bitsOf w 0 7)))
    pure (.wshr (wideAt w 24) (wideAt w 22) s)
  | 0x17 => do
    zeroAt w 24 2
    zeroAt w 10 8
    zeroAt w 7 1
    pure (.wrd (regAt w 18) (wideAt w 22) (wideAt w 8) (Fin.ofNat 128 (bitsOf w 0 7)))
  | 0x18 => do
    zeroAt w 0 24
    pure (.wclr (wideAt w 24))
  | _ => none

/-- CMP and the branches (R235, R236). -/
def decodeFlow (w : Word) : Option Amixel :=
  match bitsOf w 26 6 with
  | 0x19 => do
    let comb ← threeAt w 24
    let rel ← if bitsOf w 0 4 < 10 then some (Fin.ofNat 10 (bitsOf w 0 4)) else none
    let o ← if bitOf w 4 then pure (CmpWith.imm (BitVec.ofNat 13 (bitsOf w 5 13)))
      else do
        zeroAt w 5 9
        pure (CmpWith.reg (regAt w 14))
    pure (.cmp (wideAt w 22) comb rel (regAt w 18) o)
  | 0x1A => do
    zeroAt w 22 4
    pure (.br (immAt w 22))
  | 0x1B => some (.brq (wideAt w 22) (bitOf w 24) (bitOf w 25) (immAt w 22))
  | 0x1C => some (.call (regAt w 22) (immAt w 22))
  | 0x1D => do
    zeroAt w 0 22
    pure (.ret (regAt w 22))
  | 0x1E => some (.loop (regAt w 22) (immAt w 22))
  | _ => none

/-- LD and ST: size x[15:14], x[17:16] = 0 (R237). -/
def decodeSized (w : Word) (f : Fin 3 → Fin 16 → Fin 16 → BitVec 14 → Amixel) : Option Amixel := do
  zeroAt w 16 2
  let size ← threeAt w 14
  pure (f size (regAt w 22) (regAt w 18) (immAt w 14))

/-- LDW and STW: d[25:24] = 0, n = d[23:22], x = 0 (R237). -/
def decodeWideMem (w : Word) (f : Fin 4 → Fin 16 → BitVec 14 → Amixel) : Option Amixel := do
  zeroAt w 24 2
  zeroAt w 14 4
  pure (f (wideAt w 22) (regAt w 18) (immAt w 14))

/-- The memory instructions (R237). -/
def decodeMem (w : Word) : Option Amixel :=
  match bitsOf w 26 6 with
  | 0x1F => decodeSized w .ld
  | 0x20 => decodeSized w .st
  | 0x21 => decodeWideMem w .ldw
  | 0x22 => decodeWideMem w .stw
  | _ => none

/-- The port of format S: direct with gr = 0, or through gr with the port field 0. -/
def portSelAt (w : Word) : Option PortSel :=
  if bitOf w 15 then do
    zeroAt w 16 6
    pure (.indirect (regAt w 11))
  else do
    zeroAt w 11 4
    pure (.direct (Fin.ofNat 64 (bitsOf w 16 6)))

/-- The ports of EMIT: with IND the port and cf[7:3] are 0 (R239). -/
def emitSelAt (w : Word) : Option EmitSel :=
  if bitOf w 15 then do
    zeroAt w 16 6
    zeroAt w 3 5
    pure (.indirect (regAt w 11))
  else do
    zeroAt w 11 4
    pure (.direct (Fin.ofNat 64 (bitsOf w 16 6)) (Fin.ofNat 32 (bitsOf w 3 5)))

/-- TAKE and PEEK: cf[10:8] = 0, the count in cf[7:0] (R238). -/
def decodePort (w : Word) (f : Fin 8 → PortSel → Fin 256 → Amixel) : Option Amixel := do
  zeroAt w 8 3
  let d ← pairAt w 22
  let p ← portSelAt w
  pure (f d p (Fin.ofNat 256 (bitsOf w 0 8)))

/-- The stream instructions (R238 to R241). -/
def decodeStream (w : Word) : Option Amixel :=
  match bitsOf w 26 6 with
  | 0x23 => decodePort w .take
  | 0x24 => decodePort w .peek
  | 0x25 => do
    zeroAt w 2 1
    zeroAt w 8 3
    let d ← pairAt w 22
    let fmt ← threeAt w 0
    let p ← emitSelAt w
    pure (.emit d fmt p)
  | 0x26 => do
    zeroAt w 22 4
    zeroAt w 0 11
    let p ← portSelAt w
    pure (.seal_ p)
  | _ => none

/-- The form of XING and PEAKT, sel[1:0]: S32 or F24 (R242). -/
def formAt (w : Word) : Option (Fin 2) := if bitsOf w 0 2 < 2 then some (Fin.ofNat 2 (bitsOf w 0 2)) else none

/-- The measurement instructions (R242 to R247). -/
def decodeMeas (w : Word) : Option Amixel :=
  match bitsOf w 26 6 with
  | 0x27 => do
    zeroAt w 14 4
    zeroAt w 12 2
    pure (.curve (regAt w 22) (regAt w 18) (Fin.ofNat 64 (bitsOf w 0 6)) (Fin.ofNat 16 (bitsOf w 6 4)) (wideAt w 10))
  | 0x28 => do
    zeroAt w 6 8
    let a ← pairAt w 18
    let form ← formAt w
    let edges ← if bitsOf w 4 2 = 0 then none else some (Fin.ofNat 3 (bitsOf w 4 2 - 1))
    pure (.xing (regAt w 22) a (regAt w 14) form (wideAt w 2) edges)
  | 0x29 => do
    zeroAt w 7 7
    zeroAt w 4 2
    let a ← pairAt w 18
    let form ← formAt w
    pure (.peakt (regAt w 22) a (regAt w 14) form (wideAt w 2) (bitOf w 6))
  | 0x2A => do
    zeroAt w 2 12
    let mode ← threeAt w 0
    pure (.rflow (regAt w 22) (regAt w 18) (regAt w 14) mode)
  | _ => none

/-- The time instructions (R248 to R250). -/
def decodeTime (w : Word) : Option Amixel :=
  match bitsOf w 26 6 with
  | 0x2B => do
    zeroAt w 0 22
    let d ← tripleAt w 22
    pure (.time d)
  | 0x2C => do
    zeroAt w 22 4
    zeroAt w 0 18
    let a ← tripleAt w 18
    pure (.waitt a)
  | 0x2D => do
    zeroAt w 22 4
    zeroAt w 5 13
    if bitOf w 4 then do
      zeroAt w 18 4
      pure (.alarmDisarm (Fin.ofNat 16 (bitsOf w 0 4)))
    else do
      let a ← tripleAt w 18
      pure (.alarmArm a (Fin.ofNat 16 (bitsOf w 0 4)))
  | _ => none

/-- The unit of a capture instruction: with IND, sel[13], it is in ga and sel[4:0] = 0; else a = 0 (R251). -/
def unitSelAt (w : Word) : Option UnitSel :=
  if bitOf w 13 then do
    zeroAt w 0 5
    pure (.indirect (regAt w 18))
  else do
    zeroAt w 18 4
    pure (.direct (Fin.ofNat 32 (bitsOf w 0 5)))

/-- ARM and DISARM (R251). -/
def decodeUnit (w : Word) (f : UnitSel → Amixel) : Option Amixel := do
  zeroAt w 22 4
  zeroAt w 14 4
  zeroAt w 5 8
  let u ← unitSelAt w
  pure (f u)

/-- The capture instructions and MIRROR (R251, R252). -/
def decodeCap (w : Word) : Option Amixel :=
  match bitsOf w 26 6 with
  | 0x2E => decodeUnit w .armUnit
  | 0x2F => decodeUnit w .disarmUnit
  | 0x30 => do
    zeroAt w 22 4
    zeroAt w 6 7
    let u ← unitSelAt w
    if bitOf w 5 then do
      let b ← tripleAt w 14
      pure (.fireUnit u (some b))
    else do
      zeroAt w 14 4
      pure (.fireUnit u none)
  | 0x31 => do
    zeroAt w 0 26
    pure .mirror
  | _ => none

/-- LOCKA and LOCKR (R253). -/
def decodeLock (w : Word) (f : Fin 32 → Amixel) : Option Amixel := do
  zeroAt w 5 21
  pure (f (Fin.ofNat 32 (bitsOf w 0 5)))

/-- An instruction whose fields are all 0 (R255). -/
def decodeBare (w : Word) (i : Amixel) : Option Amixel := do
  zeroAt w 0 26
  pure i

/-- The control-plane and flow instructions (R253, R255). -/
def decodeCtl (w : Word) : Option Amixel :=
  match bitsOf w 26 6 with
  | 0x32 => do
    zeroAt w 22 4
    zeroAt w 6 12
    pure (.post (regAt w 18) (Fin.ofNat 64 (bitsOf w 0 6)))
  | 0x33 => do
    zeroAt w 6 16
    pure (.takemb (regAt w 22) (Fin.ofNat 64 (bitsOf w 0 6)))
  | 0x34 => decodeLock w .locka
  | 0x35 => decodeLock w .lockr
  | 0x36 => decodeBare w .yield_
  | 0x37 => decodeBare w .halt
  | 0x38 => decodeBare w .nop
  | _ => none

/-- The instruction a word encodes; none for an undefined word (R228). -/
def decodeWord (w : Word) : Option Amixel :=
  let op := bitsOf w 26 6
  if op ≤ 0x12 then decodeAlu w
  else if op ≤ 0x18 then decodeWide w
  else if op ≤ 0x1E then decodeFlow w
  else if op ≤ 0x22 then decodeMem w
  else if op ≤ 0x26 then decodeStream w
  else if op ≤ 0x2A then decodeMeas w
  else if op ≤ 0x2D then decodeTime w
  else if op ≤ 0x31 then decodeCap w
  else decodeCtl w

/-! ### Encoding -/

/-- Format A, and format X with sel for func (R227). -/
def packA (op d a b func : Nat) : Word := wd (op * 2 ^ 26 + d * 2 ^ 22 + a * 2 ^ 18 + b * 2 ^ 14 + func)

/-- Format B (R227). -/
def packB (op c : Nat) (off : BitVec 22) : Word := wd (op * 2 ^ 26 + c * 2 ^ 22 + off.toNat)

/-- Format S (R227). -/
def packS (op d port cf : Nat) : Word := wd (op * 2 ^ 26 + d * 2 ^ 22 + port * 2 ^ 16 + cf)

/-- Format W (R227). -/
def packW (op wd_ wa ga gb wb f : Nat) : Word :=
  wd (op * 2 ^ 26 + wd_ * 2 ^ 24 + wa * 2 ^ 22 + ga * 2 ^ 18 + gb * 2 ^ 14 + wb * 2 ^ 12 + f)

def packShift (op d a : Nat) : ShiftBy → Word
  | .imm s => packA op d a 0 (32 + s.val)
  | .reg b => packA op d a b.val 0

/-- TAKE, PEEK and SEAL with the low bits of cf. -/
def packPort (op d lo : Nat) : PortSel → Word
  | .direct p => packS op d p.val lo
  | .indirect gr => packS op d 0 (2 ^ 15 + gr.val * 2 ^ 11 + lo)

/-- A capture instruction with gb and the other bits of sel. -/
def packUnit (op b sel : Nat) : UnitSel → Word
  | .direct u => packA op 0 0 b (sel + u.val)
  | .indirect a => packA op 0 a.val b (2 ^ 13 + sel)

/-- The word of an instruction (R227, R232 to R255). -/
def encodeWord : Amixel → Word
  | .add d a b => packA 0x01 d a b 0
  | .sub d a b => packA 0x02 d a b 0
  | .mul d a b => packA 0x03 d a b 0
  | .mulh u d a b => packA 0x04 d a b u.toNat
  | .and_ d a b => packA 0x05 d a b 0
  | .or_ d a b => packA 0x06 d a b 0
  | .xor_ d a b => packA 0x07 d a b 0
  | .shl d a s => packShift 0x08 d a s
  | .shr d a s => packShift 0x09 d a s
  | .sar d a s => packShift 0x0A d a s
  | .min_ u d a b => packA 0x0B d a b u.toNat
  | .max_ u d a b => packA 0x0C d a b u.toNat
  | .abs_ d a => packA 0x0D d a 0 0
  | .clz d a => packA 0x0E d a 0 0
  | .addi d a i => packA 0x0F d a 0 i.toNat
  | .lui d i => wd (0x10 * 2 ^ 26 + d.val * 2 ^ 22 + i.toNat)
  | .andi d a i => packA 0x11 d a 0 i.toNat
  | .ori d a i => packA 0x12 d a 0 i.toNat
  | .wacc d a f => packW 0x13 d 0 a 0 0 f
  | .wsq d a f => packW 0x14 d 0 a 0 0 f
  | .wsub d a b => packW 0x15 d a 0 0 b 0
  | .wshr d a (.imm s) => packW 0x16 d a 0 0 0 s
  | .wshr d a (.reg b) => packW 0x16 d a 0 b 0 0x80
  | .wrd d a m k => packW 0x17 0 a d 0 0 (m.val * 2 ^ 8 + k.val)
  | .wclr d => packW 0x18 d 0 0 0 0 0
  | .cmp q c r a (.reg b) => packA 0x19 (c.val * 4 + q.val) a b r
  | .cmp q c r a (.imm v) => wd (0x19 * 2 ^ 26 + (c.val * 4 + q.val) * 2 ^ 22 + a.val * 2 ^ 18 + v.toNat * 2 ^ 5 + 16 + r.val)
  | .br off => packB 0x1A 0 off
  | .brq q s c off => packB 0x1B (c.toNat * 8 + s.toNat * 4 + q.val) off
  | .call l off => packB 0x1C l off
  | .ret l => packB 0x1D l 0#22
  | .loop l off => packB 0x1E l off
  | .ld sz d a i => packA 0x1F d a sz i.toNat
  | .st sz d a i => packA 0x20 d a sz i.toNat
  | .ldw n a i => packA 0x21 n a 0 i.toNat
  | .stw n a i => packA 0x22 n a 0 i.toNat
  | .take d p n => packPort 0x23 (2 * d.val) n p
  | .peek d p i => packPort 0x24 (2 * d.val) i p
  | .emit d f (.direct p tp) => packS 0x25 (2 * d.val) p (tp.val * 8 + f.val)
  | .emit d f (.indirect gr) => packS 0x25 (2 * d.val) 0 (2 ^ 15 + gr.val * 2 ^ 11 + f.val)
  | .seal_ p => packPort 0x26 0 0 p
  | .curve d a n i m => packA 0x27 d a 0 (m.val * 2 ^ 10 + i.val * 2 ^ 6 + n.val)
  | .xing d a b f q e => packA 0x28 d (2 * a.val) b ((e.val + 1) * 2 ^ 4 + q.val * 4 + f.val)
  | .peakt d a b f q r => packA 0x29 d (2 * a.val) b (r.toNat * 2 ^ 6 + q.val * 4 + f.val)
  | .rflow d a b m => packA 0x2A d a b m
  | .time d => packA 0x2B d 0 0 0
  | .waitt a => packA 0x2C 0 a 0 0
  | .alarmArm a n => packA 0x2D 0 a 0 n
  | .alarmDisarm n => packA 0x2D 0 0 0 (16 + n.val)
  | .armUnit u => packUnit 0x2E 0 0 u
  | .disarmUnit u => packUnit 0x2F 0 0 u
  | .fireUnit u none => packUnit 0x30 0 0 u
  | .fireUnit u (some b) => packUnit 0x30 b 32 u
  | .mirror => packA 0x31 0 0 0 0
  | .post a ch => packA 0x32 0 a 0 ch
  | .takemb d ch => packA 0x33 d 0 0 ch
  | .locka l => packA 0x34 0 0 0 l
  | .lockr l => packA 0x35 0 0 0 l
  | .yield_ => packA 0x36 0 0 0 0
  | .halt => packA 0x37 0 0 0 0
  | .nop => packA 0x38 0 0 0 0

/-! ### Fetch -/

/-- The code word of Turret `t` at word `pc`: undefined beyond what was loaded (R204, R228). -/
def Hub.codeWord (h : Hub) (t pc : Nat) : Word := SMap.get 0xFFFFFFFF#32 h.sys.code (t * 16384 + pc)

/-- The instruction context `c` comes to: the word at its PC, where the PC lies below COUNT (R211, R222). -/
def Hub.fetched (h : Hub) (c : Nat) : Option Amixel :=
  if h.pc c < h.codeCount c then decodeWord (h.codeWord (c / 64) (h.pc c)) else none

end Sys2Proof.Machine
end

