-- ==== Sys2Proof/Machine/Crypto.lean ====
section
/-!
DEFINITION. SHA-256 (FIPS 180-4) and the verification of ECDSA signatures over P-256 (FIPS 186-4), which R374 and R402 name. Their
constants are those of the two standards (log entry 7).
-/

namespace Sys2Proof.Machine

/-! ### SHA-256 -/

/-- The words of bytes, the first byte of each the most significant. -/
def beWords : List Byte → List Word
  | a :: b :: c :: d :: t => wd (ofBytes [d, c, b, a]) :: beWords t
  | _ => []

/-- The 64 constants of the rounds. -/
def shaK : List Word :=
  [0x428a2f98, 0x71374491, 0xb5c0fbcf, 0xe9b5dba5, 0x3956c25b, 0x59f111f1, 0x923f82a4, 0xab1c5ed5,
   0xd807aa98, 0x12835b01, 0x243185be, 0x550c7dc3, 0x72be5d74, 0x80deb1fe, 0x9bdc06a7, 0xc19bf174] ++
  [0xe49b69c1, 0xefbe4786, 0x0fc19dc6, 0x240ca1cc, 0x2de92c6f, 0x4a7484aa, 0x5cb0a9dc, 0x76f988da,
   0x983e5152, 0xa831c66d, 0xb00327c8, 0xbf597fc7, 0xc6e00bf3, 0xd5a79147, 0x06ca6351, 0x14292967] ++
  [0x27b70a85, 0x2e1b2138, 0x4d2c6dfc, 0x53380d13, 0x650a7354, 0x766a0abb, 0x81c2c92e, 0x92722c85,
   0xa2bfe8a1, 0xa81a664b, 0xc24b8b70, 0xc76c51a3, 0xd192e819, 0xd6990624, 0xf40e3585, 0x106aa070] ++
  [0x19a4c116, 0x1e376c08, 0x2748774c, 0x34b0bcb5, 0x391c0cb3, 0x4ed8aa4a, 0x5b9cca4f, 0x682e6ff3,
   0x748f82ee, 0x78a5636f, 0x84c87814, 0x8cc70208, 0x90befffa, 0xa4506ceb, 0xbef9a3f7, 0xc67178f2]

/-- The initial hash value. -/
def shaInit : List Word :=
  [0x6a09e667, 0xbb67ae85, 0x3c6ef372, 0xa54ff53a, 0x510e527f, 0x9b05688c, 0x1f83d9ab, 0x5be0cd19]

/-- The functions Σ and σ: rotations by `a` and `b`, and a rotation or shift by `c`. -/
def shaSum (a b c : Nat) (x : Word) : Word := x.rotateRight a ^^^ x.rotateRight b ^^^ x.rotateRight c
def shaMix (a b c : Nat) (x : Word) : Word := x.rotateRight a ^^^ x.rotateRight b ^^^ (x >>> c)

/-- The rounds with the constants given, on the schedule's next 16 words and the eight working variables. -/
def shaRounds : List Word → List Word → List Word → List Word
  | k :: ks, w, [a, b, c, d, e, f, g, x] =>
    let t1 := x + shaSum 6 11 25 e + ((e &&& f) ^^^ (~~~e &&& g)) + k + w.headD 0#32
    let t2 := shaSum 2 13 22 a + ((a &&& b) ^^^ (a &&& c) ^^^ (b &&& c))
    let next := shaMix 17 19 10 (w.getD 14 0#32) + w.getD 9 0#32 + shaMix 7 18 3 (w.getD 1 0#32) + w.headD 0#32
    shaRounds ks (w.drop 1 ++ [next]) [t1 + t2, a, b, c, d + t1, e, f, g]
  | _, _, s => s

/-- The hash value after `n` blocks of 16 words. -/
def shaBlocks : Nat → List Word → List Word → List Word
  | 0, _, hash => hash
  | n + 1, ws, hash => shaBlocks n (ws.drop 16) (hash.zipWith (· + ·) (shaRounds shaK (ws.take 16) hash))

/-- The message padded to whole blocks. -/
def shaPad (l : List Byte) : List Byte :=
  l ++ 0x80#8 :: List.replicate ((119 - l.length % 64) % 64) 0#8 ++ (bytesOf (8 * l.length) 8).reverse

/-- SHA-256 of bytes. -/
def sha256 (l : List Byte) : List Byte :=
  let ws := beWords (shaPad l)
  (shaBlocks (ws.length / 16) ws shaInit).flatMap fun w => (bytesOf w.toNat 4).reverse

/-! ### ECDSA over P-256 -/

/-- The domain parameters of P-256: the field, the order of the base point, the coefficient b (a is -3), the base point. -/
def ecP : Nat := 0xffffffff00000001000000000000000000000000ffffffffffffffffffffffff
def ecN : Nat := 0xffffffff00000000ffffffffffffffffbce6faada7179e84f3b9cac2fc632551
def ecB : Nat := 0x5ac635d8aa3a93e7b3ebbd55769886bc651d06b0cc53b0f63bce3c3e27d2604b
def ecG : Nat × Nat :=
  (0x6b17d1f2e12c4247f8bce6e563a440f277037d812deb33a0f4a13945d898c296,
   0x4fe342e2fe1a7f9b8ee7eb4a7c0f9e162bce33576b315ececbb6406837bf51f5)

/-- The bits of a number below 2^256, most significant first. -/
def ecBits (k : Nat) : List Bool := (List.range 256).reverse.map k.testBit

/-- The inverse of `x` modulo the prime `m`, as its power m - 2. -/
def invMod (m x : Nat) : Nat := (ecBits (m - 2)).foldl (fun y b => let s := y * y % m; if b then s * x % m else s) 1

/-- A point of the curve; none is the point at infinity. -/
abbrev EcPoint := Option (Nat × Nat)

/-- Two points added. -/
def ecAdd : EcPoint → EcPoint → EcPoint
  | none, q => q
  | p, none => p
  | some (x1, y1), some (x2, y2) =>
    if x1 = x2 ∧ (y1 + y2) % ecP = 0 then none
    else
      let num := if x1 = x2 then 3 * x1 * x1 + ecP - 3 else y2 + ecP - y1
      let den := if x1 = x2 then 2 * y1 else x2 + ecP - x1
      let s := num * invMod ecP (den % ecP) % ecP
      let x3 := (s * s + 2 * ecP - x1 - x2) % ecP
      some (x3, (s * (x1 + ecP - x3) + ecP - y1) % ecP)

/-- A multiple of a point. -/
def ecMul (k : Nat) (p : EcPoint) : EcPoint :=
  (ecBits k).foldl (fun q b => let d := ecAdd q q; if b then ecAdd d p else d) none

/-- The number whose bytes, most significant first, are given. -/
def ofBytesBE (l : List Byte) : Nat := ofBytes l.reverse

/-- A point of the curve other than infinity. -/
def ecOnCurve (x y : Nat) : Bool :=
  decide (x < ecP) && decide (y < ecP) && y * y % ecP = (x * x * x + (ecP - 3) * x + ecB) % ecP

/-- The signature `sig` (r, then s) of a message with this hash verifies under the public key `key` (Qx, then Qy). -/
def ecdsaOk (key hash sig : List Byte) : Bool :=
  let x := ofBytesBE (key.take 32)
  let y := ofBytesBE (key.drop 32)
  let r := ofBytesBE (sig.take 32)
  let s := ofBytesBE (sig.drop 32)
  let w := invMod ecN s
  let u1 := ofBytesBE hash * w % ecN
  let u2 := r * w % ecN
  ecOnCurve x y && decide (0 < r) && decide (r < ecN) && decide (0 < s) && decide (s < ecN) &&
    (match ecAdd (ecMul u1 (some ecG)) (ecMul u2 (some (x, y))) with
     | some (v, _) => v % ecN = r
     | none => false)

end Sys2Proof.Machine
end

