-- ==== Sys2Proof/Machine/Lanes.lean ====
section
/-!
DEFINITION. Lanes and the Gatehouse (chapter 11): roles, frames, classes and credits, routing, ring healing, bring-up and
the transmission of frames. The bits of a frame are those of `Line`.
-/

namespace Sys2Proof.Machine

/-! ### Names -/

def tSYNC : Nat := 1
def tRESP : Nat := 2
def tSPANTRIG : Nat := 3
def tRING : Nat := 4
def tLINK : Nat := 5
def tCAP : Nat := 6
def tMGMT : Nat := 7
def tSELAIL : Nat := 8
def tLEDGER : Nat := 9
def tLACK : Nat := 10
def tSELAILBULK : Nat := 11
def tMGMTBULK : Nat := 12

def aPOS : Nat := 0
def aPAIR : Nat := 1
def aBCAST : Nat := 2
def aUP : Nat := 3

def cTIME : Nat := 0
def cCONTROL : Nat := 1
def cLEDGER : Nat := 2
def cBULK : Nat := 3

/-- The class of a frame type (R322). -/
def classOf (t : Nat) : Nat :=
  if t ≤ 5 then cTIME else if t ≤ 8 then cCONTROL else if t ≤ 10 then cLEDGER else cBULK

/-- The `ADDR` values permitted for a type (R322). -/
def addrOk (t a : Nat) : Bool :=
  match t with
  | 1 | 2 | 5 | 6 | 8 | 11 => a = aPOS
  | 3 | 4 => a = aBCAST
  | 7 | 12 => a = aPOS || a = aUP
  | 9 => a = aUP
  | 10 => a = aPAIR
  | _ => false

/-- A type that hubs forward (R322). -/
def forwarded (t : Nat) : Bool := t != tSYNC && t != tRESP && t != tLINK && t != tCAP

/-- Credits a frame needs: ceil((20 + LEN) / 64) (R325). -/
def Frame.need (f : Frame) : Nat := (20 + f.len + 63) / 64

def Hub.pairId (h : Hub) : Nat := h.fld Addr.SEL_CFG 0 16

/-! ### Credits (R325, R326) -/

/-- Adds freed receive credits of a lane and class; LINK took none, and neither did CAP, sent before any credit is held
(R325, R335; log entry 9). -/
def Hub.freeCredits (h : Hub) (l : Nat) (f : Frame) : Hub :=
  if f.type = tLINK || f.type = tCAP then h
  else h.modLane l fun x => { x with freed := x.freed.modify (classOf f.type) fun n => (n + f.need) % 65536 }

/-- The test block starves class `k` of lane `l` (R463). -/
def Hub.laneStarved (h : Hub) (l k : Nat) : Bool :=
  h.bit Addr.TP_STARVE 11 && !h.bit Addr.TP_STARVE 0 && h.fld Addr.TP_STARVE 1 2 = l && h.fld Addr.TP_STARVE 3 2 = k

/-- `CRED_TX` as read (R346): a class that the test block starves shows none (R463). -/
def Hub.credTx (h : Hub) (l : Nat) : Word :=
  let c (k : Nat) : Nat := if h.laneStarved l k then 0 else (h.lane l).creds.getD k 0
  wd (min 255 (c 0) + 256 * min 255 (c 1) + 65536 * min 255 (c 2 / 4) + 2 ^ 24 * min 255 (c 3))

/-- The four counts of a word laid out as `CRED_ADV` (R346). -/
def credsOf (v : Word) : List Nat := [bitsOf v 0 8, bitsOf v 8 8, 4 * bitsOf v 16 8, bitsOf v 24 8]

/-! ### Routing (R328, R329) -/

/-- The position of the hub at the other end of a lane: the neighbour in the ring, else as its last CAP says (R321, R336). -/
def Hub.partnerPos (h : Hub) (l : Nat) : Nat :=
  if h.liveRole l = rSPANE then (h.hubPos + 1) % h.spanSize
  else if h.liveRole l = rSPANW then (h.hubPos + h.spanSize - 1) % h.spanSize
  else h.fld (Addr.PEER_CAP l 0) 18 6

/-- A frame of one hop for the partner of lane `l`: SYNC, RESP, LINK or CAP (R321, R322). -/
def Hub.laneFrame (h : Hub) (l t : Nat) (payload : List Word) : Frame :=
  { type := t, addr := aPOS, src := h.hubPos, dst := h.partnerPos l, ttl := 1, pairId := h.pairId, payload := payload }

/-- Hubs reachable one way before the first down segment. -/
def Hub.reachable (h : Hub) (east : Bool) : Nat := ((h.segsTo east (h.spanSize - 1)).takeWhile fun i => !h.segDown i).length

/-- Hops a broadcast makes one way (R329). -/
def Hub.castTtl (h : Hub) (east : Bool) : Nat :=
  if (List.range h.spanSize).any h.segDown then h.reachable east
  else if east then h.spanSize / 2 else (h.spanSize - 1) / 2

/-- The lane carries span triggers only with the feature SPAN_TRIG (R332). -/
def Hub.carries (h : Hub) (l : Nat) (f : Frame) : Bool := f.type != tSPANTRIG || h.bit (Addr.LANE_FEAT l) 1

/-- A frame waits for a lane; a lane not ACTIVE discards it, and so does one without a feature the type needs (R330,
R332). -/
def Hub.enqueue (h : Hub) (l : Nat) (x : TxFrame) : Hub :=
  if h.stageOf l ≠ sACTIVE || !h.carries l x.frame then
    let h := h.incSat (Addr.CNT_DISCARD l) 0 16 1
    match x.fromLane with
    | some k => h.freeCredits k x.frame
    | none => h
  else h.modLane l fun y => { y with txq := y.txq ++ [x] }

/-- The lane of a way takes a frame. -/
def Hub.enqueueWay (h : Hub) (east : Bool) (x : TxFrame) : Hub :=
  match h.activeLane (wayRole east) with
  | some l => h.enqueue l x
  | none => h

/-- A frame of the hub's own: its position, `DST_POS` of a POS frame alone, and its pair unless the frame names one (R321). -/
def Hub.ownFrame (h : Hub) (f : Frame) : Frame :=
  { f with src := h.hubPos, dst := if f.addr = aPOS then f.dst else 0,
           pairId := if f.addr = aPAIR then f.pairId else h.pairId }

/-- Routes a frame the hub originates or injects (R329, R340); a frame to its own position is not sent. -/
def Hub.originate (h : Hub) (t : Nat) (f : Frame) : Hub :=
  let f := h.ownFrame f
  if f.addr = aPOS || f.addr = aUP then
    let tgt := if f.addr = aPOS then f.dst else h.gwPos
    if tgt = h.hubPos then
      if f.addr = aUP then
        match h.activeLane rUPLINK with
        | some l => h.enqueue l { frame := f, since := t }
        | none => h
      else h
    else match h.wayTo tgt with
      | some (east, n) => h.enqueueWay east { frame := { f with ttl := n }, since := t }
      | none => h.incSat Addr.CNT_UNREACH 0 16 1
  else
    forIn' [true, false] (fun east h =>
      let n := h.castTtl east
      if n = 0 then h else h.enqueueWay east { frame := { f with ttl := n }, since := t }) h

/-- A RING frame goes out on every ACTIVE span lane, with the hops that way, be they none (R329, R331). -/
def Hub.originateRing (h : Hub) (t : Nat) (f : Frame) : Hub :=
  let f := h.ownFrame f
  forIn' [true, false] (fun east h => h.enqueueWay east { frame := { f with ttl := h.castTtl east }, since := t }) h

/-! ### Ring healing (R331) -/

/-- Applies a report of an end of a segment, key 2 × segment + end: the newest sequence is kept (R331). -/
def Hub.applyReport (h : Hub) (k seq : Nat) (up : Bool) (own : Bool) : Hub :=
  let newer := match SMap.find h.gate.reports k with
    | some (s, _) => own || (decide (0 < (seq + 65536 - s) % 65536) && decide ((seq + 65536 - s) % 65536 < 32768))
    | none => true
  if !newer then h else
  let h := { h with gate.reports := SMap.put h.gate.reports k (seq, up) }
  let seg := k / 2
  let upAt (j : Nat) : Bool := match SMap.find h.gate.reports j with
    | some (_, u) => u
    | none => true
  let down := !(upAt (2 * seg) && upAt (2 * seg + 1))
  if h.segDown seg = down then h
  else
    let h := if seg < 32 then h.setBit Addr.SEG_DOWN_LO seg down else h.setBit Addr.SEG_DOWN_HI (seg - 32) down
    let n := ((List.range 64).filter h.segDown).length
    ((h.setBit Addr.GH_STATUS 0 (n = 0)).setBit Addr.GH_STATUS 1 (2 ≤ n)).incWrap Addr.CNT_HEAL 0 32 1

/-- The segment and the end a span lane is at, as a report key; none for other roles (R328). -/
def Hub.laneKey (h : Hub) (l : Nat) : Option Nat :=
  if h.liveRole l = rSPANE then some (2 * h.hubPos)
  else if h.liveRole l = rSPANW then some (2 * ((h.hubPos + h.spanSize - 1) % h.spanSize) + 1)
  else none

/-- The RING frame of a report. -/
def Hub.ringFrame (h : Hub) (k seq : Nat) (up : Bool) : Frame :=
  { type := tRING, addr := aBCAST,
    payload := [wd (h.hubPos + 64 * (k / 2) + (if up then 4096 else 0)), wd (seq % 65536), 0#32, 0#32] }

/-- A new report of the hub's own end `k` of a segment (R331). -/
def Hub.reportKey (h : Hub) (r k : Nat) (up : Bool) : Hub :=
  let seq := (h.gate.ringSeq + 1) % 65536
  let h := { h with gate.ringSeq := seq }.applyReport k seq up true
  h.originateRing (h.timeAt r) (h.ringFrame k seq up)

/-- Reports the state of a lane's segment (R331). -/
def Hub.reportSegment (h : Hub) (r l : Nat) (up : Bool) : Hub :=
  match h.laneKey l with
  | some k => h.reportKey r k up
  | none => h

/-- SEGMENT_UP_REPORT (R331): the lane has stayed ACTIVE for 100 ms. -/
def segmentUpReport (r l : Nat) (h : Hub) : Hub :=
  if (h.lane l).upPending && h.stageOf l = sACTIVE && decide ((h.lane l).activeAt + 100 * msU ≤ r) then
    (h.modLane l fun x => { x with upPending := false }).reportSegment r l true
  else h

/-- The hub's own ends of its two segments, east and west (R328). -/
def Hub.ownKeys (h : Hub) : List (Nat × Nat) :=
  [(rSPANE, 2 * h.hubPos), (rSPANW, 2 * ((h.hubPos + h.spanSize - 1) % h.spanSize) + 1)]

/-- RING_REPEAT (R331): the state of both the hub's segments again; of an end never reported, as its lane stands. -/
def ringRepeat (r : Nat) (h : Hub) : Hub :=
  forIn' h.ownKeys (fun p h => match SMap.find h.gate.reports p.2 with
    | some (seq, up) => h.originateRing (h.timeAt r) (h.ringFrame p.2 seq up)
    | none => h.reportKey r p.2 (h.activeLane p.1).isSome) h

/-- RING (R331): a received report. -/
def ringReport (f : Frame) (h : Hub) : Hub :=
  let w := f.payload.getD 0 0#32
  let seg := bitsOf w 6 6
  h.applyReport (2 * seg + (if bitsOf w 0 6 = seg then 0 else 1)) (bitsOf (f.payload.getD 1 0#32) 0 16) (w.getLsbD 12) false

/-! ### Hops and the upstream lane (R187, R188, R334) -/

/-- Span lanes ACTIVE whose neighbour's SYNC was heard in the last 125 ms, SPAN_E first. -/
def Hub.heardLanes (h : Hub) (t : Nat) : List Nat :=
  [rSPANE, rSPANW].filterMap fun role => match h.activeLane role with
    | some l => match (h.lane l).syncAt with
      | some s => if t ≤ s + 125 * msU then some l else none
      | none => none
    | none => none

/-- The smallest `HOPS` heard on a lane in the last 125 ms (R334). -/
def Hub.hopsHeard (h : Hub) (l t : Nat) : Nat :=
  (((SMap.get [] h.lan.laneHops l).filter fun x => decide (t ≤ x.1 + 125 * msU)).map Prod.snd).foldl min 63

/-- The upstream lane: fewer hops to the gateway, SPAN_E at equal hops (R188). -/
def Hub.upLane (h : Hub) (t : Nat) : Option Nat :=
  match h.heardLanes t with
  | [a, b] => some (if h.hopsHeard b t < h.hopsHeard a t then b else a)
  | [a] => some a
  | _ => none

/-- `TIME_STATE.HOPS`, `UP_LANE` and `REPORTED` brought up to date (R187, R334). -/
def Hub.showHops (h : Hub) (t : Nat) : Hub :=
  if h.isGateway then (h.setFld Addr.TIME_STATE 4 6 0).showReported
  else match h.upLane t with
    | some l => ((h.setFld Addr.TIME_STATE 4 6 (min 63 (h.hopsHeard l t + 1))).setFld Addr.TIME_STATE 10 2 l).showReported
    | none => (h.setFld Addr.TIME_STATE 4 6 63).showReported

/-- HOPS as it stands now (R334); nothing is evaluated before the hub leaves BOOT or hears a HOPS, and the register keeps its reset
value (R199, log entry 56). -/
def Hub.hopsNow (h : Hub) (t : Nat) : Hub := if h.mode = .boot && h.lan.laneHops = [] then h else h.showHops t

/-! ### Bring-up (R335) -/

/-- `MOD_STATUS` as TX_DISABLE is: high in DISABLED and DETECT and during the hold (R335). -/
def Hub.showTx (h : Hub) (l : Nat) : Hub :=
  h.setBit (Addr.MOD_STATUS l) 2 (decide (h.stageOf l ≤ sDETECT) || (h.lane l).holdTx.isSome)

/-- Enters a stage (R335). On entry to TRAIN the scrambler is set to all ones; the receiver keeps nothing of what it produces
there (R316). -/
def Hub.setStage (h : Hub) (r l s : Nat) : Hub :=
  let h := (h.setFld (Addr.LANE_STATUS l) 0 3 s).modLane l fun x => { x with stageAt := r }
  let h := if s = sTRAIN then
      h.modLane l fun x => { x with tx := {}, air := none, rx := { x.rx with outer := none, inner := none, lost := 0 } }
    else h
  h.showTx l

/-- The lane has been in its stage for `ms` milliseconds (R335, R339). -/
def Hub.stageFor (h : Hub) (r l ms : Nat) : Bool := decide ((h.lane l).stageAt + ms * msU ≤ r)

/-- What leaving ACTIVE does (R330, R331, R335, R364): frames held for the lane, the hub's own Ledger frames among them, are
discarded, the segment is reported down, DOWN and CNT_DOWN; Selail moves to the ring. -/
def Hub.leaveActive (h : Hub) (r l : Nat) (next : Nat) : Hub :=
  if h.stageOf l ≠ sACTIVE then h.setStage r l next
  else
    let held := (h.lane l).txq
    let own := (h.led.out.filter (·.lane = l)).length
    let h := { h with led.out := h.led.out.filter (·.lane ≠ l) }
    let h := h.modLane l fun x => { x with txq := [], upPending := false }
    let h := h.incSat (Addr.CNT_DISCARD l) 0 16 (held.length + own)
    let h := forIn' held (fun x h => match x.fromLane with
      | some k => h.freeCredits k x.frame
      | none => h) h
    let h := ((h.setStage r l next).setBit (Addr.LANE_STATUS l) 9 true).incWrap (Addr.CNT_DOWN l) 0 32 1
    let h := h.reportSegment r l false
    if h.liveRole l = rTWIN then h.setBit Addr.SEL_STATUS 13 true
    else if h.liveRole l = rUPLINK then h else h.showHops (h.timeAt r)

/-- Takes the role, protocol and media of `LANE_CFG` (R315); AUTO begins with Wembe (R339). -/
def Hub.takeLaneCfg (h : Hub) (r l : Nat) : Hub :=
  let v := h.rd (Addr.LANE_CFG l)
  let h := h.modLane l fun x => { x with cfg := v, protoAt := r }
  h.setFld (Addr.LANE_STATUS l) 3 2 (if bitsOf v 3 2 = 3 then 0 else bitsOf v 3 2)

/-- `EN` set to 1 or 0 (R335). -/
def Hub.laneEnable (h : Hub) (r l : Nat) (on : Bool) : Hub :=
  if on then
    if h.stageOf l = sDISABLED && !(h.lane l).inReset then (h.takeLaneCfg r l).setStage r l sDETECT else h
  else if h.stageOf l = sDISABLED then h else h.leaveActive r l sDISABLED

/-- BOOT, IDLE and SERVICE, where lane settings may be written (R315, R346, R368). -/
def Hub.setupMode (h : Hub) : Bool := h.mode = .boot || h.mode = .idle || h.mode = .service

/-- LANE_CFG_WRITE (R315). -/
def laneCfgStore (r m l : Nat) (v : Word) (h : Hub) : Hub :=
  let a := Addr.LANE_CFG l
  let v := v &&& 0x7F#32
  let dup := v.getLsbD 0 && (List.range 4).any fun k => k != l && h.laneEn k && h.laneRole k = bitsOf v 1 2
  if !h.setupMode then h.refuse r m a ESTATE
  else if dup || (bitsOf v 3 2 ≠ 0 && bitsOf v 1 2 ≠ rUPLINK) then h.refuse r m a ERANGE
  else (h.wr a v).laneEnable r l (v.getLsbD 0)

/-- A write of `SPAN_CFG` (R315, R347). -/
def spanCfgStore (r m : Nat) (v : Word) (h : Hub) : Hub :=
  let size := bitsOf v 6 7
  if !h.setupMode then h.refuse r m Addr.SPAN_CFG ESTATE
  else if size = 0 || decide (64 < size) || decide (size ≤ bitsOf v 13 6) then h.refuse r m Addr.SPAN_CFG ERANGE
  else h.wr Addr.SPAN_CFG (v &&& 0x7FFFF#32)

/-- A write of `CRED_ADV`, `ETH_CFG`, `ETH_SRC`, `ETH_DST` or `PTP_CFG` of lane `l` (R346). -/
def laneSetupStore (r m l a : Nat) (v mask : Word) (h : Hub) : Hub :=
  let ty := bitsOf v 0 16
  if !h.setupMode then h.refuse r m a ESTATE
  else if a = Addr.CRED_ADV l && (decide (32 < bitsOf v 0 8) || decide (64 < bitsOf v 8 8) || decide (64 < bitsOf v 24 8)) then
    h.refuse r m a ERANGE
  else if a = Addr.ETH_CFG l && (decide (ty < 0x600) || ty = 0x8808 || ty = 0x88F7) then h.refuse r m a ERANGE
  else h.wr a (v &&& mask)

/-- The lane sends training blocks: in TRAIN, and in DETECT with `MEDIA` = DIRECT (R335). -/
def Hub.trains (h : Hub) (l : Nat) : Bool :=
  !h.isEth l && (h.stageOf l = sTRAIN || (h.stageOf l = sDETECT && !h.optical l))

/-- The transmitter after the training blocks of the stage that ends: how many is free (log entry 9). -/
def Hub.trained (h : Hub) (l : Nat) : Hub :=
  if h.trains l then
    let (n, h) := h.drawWord
    h.modLane l fun x => { x with tx := x.tx.train n.toNat }
  else h

/-- LANE_DETECT_DONE (R335, R339): the medium has been present for 10 ms. -/
def laneDetectDone (r l : Nat) (h : Hub) : Hub :=
  if h.stageOf l ≠ sDETECT || (h.lane l).holdTx.isSome then h
  else
    let h := (h.trained l).setBit (Addr.LANE_STATUS l) 7 true
    let h := if h.optical l then h.setBit (Addr.MOD_STATUS l) 0 false else h
    h.setStage r l (if h.isEth l then sLOCK else sTRAIN)

/-- LANE_TRAIN_DONE (R335): CDR locked and equaliser converged, at least 20 ms into TRAIN. -/
def laneTrainDone (r l : Nat) (h : Hub) : Hub :=
  if h.stageOf l ≠ sTRAIN || !h.stageFor r l 20 then h else (h.trained l).setStage r l sLOCK

/-- LANE_TRAIN_TIMEOUT (R335): 200 ms in TRAIN. -/
def laneTrainTimeout (r l : Nat) (h : Hub) : Hub :=
  if h.stageOf l ≠ sTRAIN || !h.stageFor r l 200 then h
  else ((h.trained l).setStage r l sDETECT).incSat (Addr.CNT_TRAIN_FAIL l) 0 16 1

/-- LANE_LOCK_DONE (R335, R336): entry to EXCHANGE; a new NONCE, and the credits advertised. -/
def laneLockDone (r l : Nat) (h : Hub) : Hub :=
  if h.stageOf l ≠ sLOCK || h.isEth l then h
  else
    let (n, h) := h.drawWord
    let fresh (x : Lane) : Lane :=
      { x with nonce := n, peerNonce := none, echoed := none, heardEcho := false, freed := [0, 0, 0, 0],
               heard := [0, 0, 0, 0], creds := [0, 0, 0, 0], adv := h.rd (Addr.CRED_ADV l) }
    (h.modLane l fresh).setStage r l sEXCHANGE

/-- LANE_LOCK_TIMEOUT (R335): 10 ms in LOCK or 50 ms in EXCHANGE; the third consecutive failure holds TX_DISABLE high. -/
def laneLockTimeout (r l : Nat) (h : Hub) : Hub :=
  if (h.stageOf l ≠ sLOCK && h.stageOf l ≠ sEXCHANGE) || h.isEth l || !h.stageFor r l (if h.stageOf l = sLOCK then 10 else 50)
  then h
  else if (h.lane l).fails + 1 < 3 then (h.modLane l fun x => { x with fails := x.fails + 1 }).setStage r l sTRAIN
  else (h.modLane l fun x => { x with fails := 0, holdTx := some r }).setStage r l sDETECT

/-- TX_DISABLE_HOLD_END (R335): the hold began 100 ms ago. -/
def txDisableHoldEnd (r l : Nat) (h : Hub) : Hub :=
  if (h.lane l).holdTx.any fun s => decide (s + 100 * msU ≤ r) then (h.modLane l fun x => { x with holdTx := none }).showTx l
  else h

/-- A stretch of the line goes through the lane's receiver; its code violations are counted (R319). -/
def Hub.hearLine (h : Hub) (l : Nat) (line : List Bool) : Option Caught × Hub :=
  let e := Ear.hear { rx := (h.lane l).rx } line
  let h := h.modLane l fun x => { x with rx := e.rx, rxAge := match e.got with | some c => c.age | none => x.rxAge }
  (e.got, if e.viols = 0 then h else h.incSat (Addr.CNT_CODE l) 0 16 e.viols)

/-- LANE_LOSS (R335): `line` is what the lane received up to the loss, with the code violations in it (R319). -/
def laneLoss (r l : Nat) (line : List Bool) (h : Hub) : Hub :=
  if h.stageOf l ≠ sACTIVE || h.isEth l then h
  else (h.hearLine l line).2.leaveActive r l sLOCK

/-- MODULE_REMOVAL (R335, R343): MOD_ABS goes high. -/
def moduleRemoval (r l : Nat) (h : Hub) : Hub :=
  let h := (h.setBit (Addr.MOD_STATUS l) 0 true).setBit (Addr.MOD_STATUS l) 3 false
  let h := h.modLane l fun x => { x with ddm := false }
  let h := if h.optical l then h.setBit (Addr.LANE_STATUS l) 7 false else h
  if h.optical l && h.stageOf l ≠ sDISABLED then h.leaveActive r l sDETECT else h

/-- LOS (R335): the pin goes high or, light received, low; it shows in MOD_STATUS and LANE_STATUS as it stands, and going
high it is evaluated from LOCK on. -/
def losPin (r l : Nat) (high : Bool) (h : Hub) : Hub :=
  let h := (h.setBit (Addr.MOD_STATUS l) 1 high).setBit (Addr.LANE_STATUS l) 8 high
  if high && h.optical l && decide (sLOCK ≤ h.stageOf l) then h.leaveActive r l sDETECT else h

/-- RETRAIN and LINK_RETRAIN (R335, R315): the lane passes to TRAIN with `LANE_CFG` in force; an Ethernet lane, which has
no TRAIN, to DETECT (R339). -/
def Hub.retrain (h : Hub) (r l : Nat) : Hub :=
  if h.stageOf l = sDISABLED then h
  else
    let h := (h.leaveActive r l sDETECT).takeLaneCfg r l
    if h.isEth l then h else h.setStage r l sTRAIN

/-- RETRAIN: a write of `LANE_CTRL`. -/
def laneCtrlStore (r l : Nat) (v : Word) (h : Hub) : Hub := if v.getLsbD 0 then h.retrain r l else h

/-- A lane becomes ACTIVE. A span lane's first entry is reported at once, a later one after 100 ms (R331); a TWIN lane that
comes back is a master reset of TWIN (R380). -/
def Hub.enterActive (h : Hub) (r l : Nat) : Hub :=
  let again := (h.lane l).wasActive
  let h := (h.modLane l fun x => { x with fails := 0, wasActive := true, activeAt := r, upPending := again }).setStage r l sACTIVE
  let h := h.setFld (Addr.LANE_STATUS l) 10 4 0
  let h := if again then h else h.reportSegment r l true
  if h.liveRole l = rTWIN && again then h.masterReset r twin else h

/-- ETH_LINK_UP (R339). -/
def ethLinkUp (r l : Nat) (h : Hub) : Hub :=
  if h.isEth l && h.stageOf l = sLOCK then h.enterActive r l else h

/-- ETH_LINK_LOSS (R339). -/
def ethLinkLoss (r l : Nat) (h : Hub) : Hub :=
  if h.isEth l && h.stageOf l = sACTIVE then h.leaveActive r l sDETECT else h

/-- ETH_LOCK_TIMEOUT (R339): LOCK lasts 500 ms. -/
def ethLockTimeout (r l : Nat) (h : Hub) : Hub :=
  if h.isEth l && h.stageOf l = sLOCK && h.stageFor r l 500 then h.setStage r l sDETECT else h

/-- PROTO_AUTO_TIMEOUT (R339): after 1 s the next protocol is tried. -/
def protoAutoTimeout (r l : Nat) (h : Hub) : Hub :=
  if h.liveRole l = rUPLINK && bitsOf (h.lane l).cfg 3 2 = 3 && h.stageOf l ≠ sACTIVE && h.stageOf l ≠ sDISABLED &&
      decide ((h.lane l).protoAt + 1000 * msU ≤ r) then
    ((h.setFld (Addr.LANE_STATUS l) 3 2 ((h.protoNow l + 1) % 3)).modLane l fun x => { x with protoAt := r }).setStage r l sDETECT
  else h

/-! ### Capability exchange (R336, R337) -/

/-- The CAP payload the hub sends on a lane (R336). -/
def Hub.capWords (h : Hub) (l : Nat) : List Word :=
  let w0 := (if h.bit (Addr.LANE_CFG l) 6 then 1 else 2) + 256 + 65536 * h.liveRole l + 2 ^ 18 * h.hubPos +
    2 ^ 24 * (h.fld Addr.SPAN_CFG 6 7) + (if h.isGateway then 2 ^ 31 else 0)
  let w1 := h.pairId + (if h.bit Addr.SEL_CFG 17 then 65536 else 0)
  [wd w0, wd w1, h.rd Addr.SYS_DIE_ID_LO, h.rd Addr.SYS_DIE_ID_HI, 7#32, (h.lane l).adv, (h.lane l).nonce,
   (h.lane l).peerNonce.getD 0#32, wd (h.fld Addr.SYS_FW_VER 0 16 + 65536 * h.fld Addr.SYS_STEPPING 0 8)]

/-- The reason a partner's CAP is incompatible, 0 for none (R337). -/
def Hub.capReason (h : Hub) (l : Nat) (p : List Word) : Nat :=
  let own := h.capWords l
  let f (w : List Word) (k lo n : Nat) : Nat := bitsOf (w.getD k 0#32) lo n
  let role := h.liveRole l
  let peer := f p 0 16 2
  if min (f own 0 0 8) (f p 0 0 8) < max (f own 0 8 8) (f p 0 8 8) then 1
  else if !((role = rSPANE && peer = rSPANW) || (role = rSPANW && peer = rSPANE) || (role = rTWIN && peer = rTWIN) ||
      (role = rUPLINK && peer = rUPLINK)) then 2
  else if decide (role ≤ rSPANW) && (f own 0 24 7 ≠ f p 0 24 7 ||
      f p 0 18 6 ≠ (if role = rSPANE then (h.hubPos + 1) % h.spanSize else (h.hubPos + h.spanSize - 1) % h.spanSize)) then 3
  else if role = rTWIN && (f own 1 0 16 ≠ f p 1 0 16 || f own 1 16 1 = f p 1 16 1) then 4
  else 0

/-- The partner's CAP judged: ACTIVE, or INCOMPAT with its reason and a log entry (R335, R337), whose status code is EVERSION
where no version is common (R3). -/
def Hub.judgeCap (h : Hub) (r l : Nat) : Hub :=
  let p := (List.range 9).map fun k => h.rd (Addr.PEER_CAP l k)
  let why := h.capReason l p
  if why = 0 then
    let v := min (bitsOf ((h.capWords l).getD 0 0#32) 0 8) (bitsOf (p.getD 0 0#32) 0 8)
    let feat := bitsOf (p.getD 4 0#32) 0 3
    let h := h.wr (Addr.LANE_FEAT l) (wd (if v = 1 then feat / 2 * 2 else feat))
    let h := h.setFld (Addr.LANE_STATUS l) 5 2 v
    let h := h.modLane l fun x => { x with creds := credsOf (p.getD 5 0#32) }
    h.enterActive r l
  else if h.stageOf l = sEXCHANGE then
    ((h.setStage r l sINCOMPAT).setFld (Addr.LANE_STATUS l) 10 4 why).report r 17 (if why = 1 then EVERSION else 0) 15
      (wd (l + 16 * why))
  else h.setFld (Addr.LANE_STATUS l) 10 4 why

/-- The handshake is complete: the partner has echoed the hub's NONCE, and the hub the partner's (R336). -/
def Hub.handshake (h : Hub) (r l : Nat) : Hub :=
  let x := h.lane l
  if h.stageOf l = sEXCHANGE && x.heardEcho && x.echoed.isSome && x.echoed = x.peerNonce then h.judgeCap r l else h

/-- CAP (R335 to R337): a partner's CAP. -/
def capArrive (r l : Nat) (f : Frame) (h : Hub) : Hub :=
  let h := forN 9 (fun k h => h.wr (Addr.PEER_CAP l k) (f.payload.getD k 0#32)) h
  let h := h.modLane l fun x =>
    { x with peerNonce := some (f.payload.getD 6 0#32), heardEcho := x.heardEcho || f.payload.getD 7 0#32 = x.nonce }
  if h.stageOf l = sINCOMPAT then h.judgeCap r l else h.handshake r l

/-! ### Transmission (R324 to R327, R340) -/

/-- The Wembe frame of a Ledger packet (R292, R322). -/
def SentPacket.frame (p : SentPacket) : Frame :=
  { type := tLEDGER, addr := aUP, payload := p.header ++ bytesWords p.payload }

/-- The SPAN_TRIG frame of a span trigger (R332). -/
def SpanMsg.frame (m : SpanMsg) : Frame :=
  { type := tSPANTRIG, addr := aBCAST,
    payload := [wd (m.pos % 64 + 64 * (m.id % 16) + 2 ^ 10 * (m.seq % 256) + 2 ^ 18 * (m.src % 16)),
      kxWord m.time 0, kxWord m.time 1, kxWord m.time 2] }

/-- Span triggers originated go to their lanes (R271, R332). -/
def Hub.flushSpan (h : Hub) (t : Nat) : Hub :=
  forIn' h.cape.spanOut (fun m h => h.originate t m.frame) { h with cape.spanOut := [] }

/-- The lane is starting no frames: paused, or an Ethernet uplink without a source address (R340, R341). -/
def Hub.laneMute (h : Hub) (l t : Nat) : Bool :=
  h.isEth l && (h.noSource l ||
    (match (h.lane l).pause with | some e => decide (t < e) | none => false))

/-- The hub has credits for a frame; LINK needs none, and an Ethernet uplink has no credits. -/
def Hub.hasCredits (h : Hub) (l : Nat) (f : Frame) : Bool :=
  f.type = tLINK || h.isEth l ||
    (!h.laneStarved l (classOf f.type) && decide (f.need ≤ (h.lane l).creds.getD (classOf f.type) 0))

/-- The frames that could start on lane `l`: those waiting for it, and the oldest packet of the Ledger that leaves by it where
the Ledger may start frames (R357). -/
def Hub.startable (h : Hub) (l t : Nat) : List TxFrame :=
  let own := match h.led.out.find? (·.lane = l) with
    | some p => if h.activeRole && !h.sel.hand.any Handover.closed then
        [{ frame := { h.ownFrame p.frame with ttl := p.ttl }, since := t }] else []
    | none => []
  ((h.lane l).txq ++ own).filter fun x => h.hasCredits l x.frame

/-- The frames of class `k`. -/
def ofClass (k : Nat) (xs : List TxFrame) : List TxFrame := xs.filter fun x => classOf x.frame.type = k

/-- The next frame of class `k`: forwarded and originated ones in turn (R327). -/
def Hub.nextOf (h : Hub) (l : Nat) (xs : List TxFrame) (k : Nat) : Option TxFrame :=
  match (ofClass k xs).find? fun x => x.fromLane.isSome = (h.lane l).turn.getD k false with
  | some x => some x
  | none => (ofClass k xs).head?

/-- The next TIME frame. -/
def Hub.nextTime (h : Hub) (l t : Nat) : Option TxFrame := h.nextOf l (h.startable l t) cTIME

/-- BULK has waited 100 µs at `t`: since its oldest frame began to wait, and since its last start (R327; log entry 56). -/
def Hub.bulkWaited (h : Hub) (l t : Nat) (xs : List TxFrame) : Bool :=
  (ofClass cBULK xs).any fun x => decide (max x.since (h.lane l).bulkAt + 100000 * nsU ≤ t)

/-- The next frame to start: BULK that has waited 100 µs, else strict priority (R327). -/
def Hub.nextFrame (h : Hub) (l t : Nat) : Option TxFrame :=
  let xs := h.startable l t
  (if h.bulkWaited l t xs then [cBULK] else [cTIME, cCONTROL, cLEDGER, cBULK]).findSome? (h.nextOf l xs)

/-- The units of a lane mode's timestamps (R177, R339, R446): how many to a nanosecond, 1/32 UI of 10 Gb/s or of 1.25 Gb/s; then,
in fifths of 2^-16 ns, one such unit, one bit of a frame, and the TX and RX constants. -/
structure StampMode where
  perNs : Nat
  unit : Nat
  bit : Nat
  tx : Nat
  rx : Nat
  deriving DecidableEq, Repr

/-- The timestamp mode of a lane: Wembe, 10GBASE-R, 1000BASE-X. -/
def Hub.stampMode (h : Hub) (l : Nat) : StampMode :=
  if !h.isEth l then { perNs := 320, unit := 1024, bit := 32768, tx := 3145728, rx := 4718592 }
  else if h.protoNow l = 1 then { perNs := 320, unit := 1024, bit := 32768, tx := 12582912, rx := 18874368 }
  else { perNs := 40, unit := 8192, bit := 327680, tx := 34078720, rx := 55050240 }

/-- The corrected time of a timestamp point `n` bits after (TX) or before (RX) RAW `r`, `k` timestamp units into its nanosecond: at
the lane's ball, with the TX constant added or the RX constant subtracted, to the nearest 2^-16 ns (R177). -/
def Hub.stampOf (h : Hub) (l k : Nat) (tx : Bool) (r n : Nat) : Nat :=
  let m := h.stampMode l
  let at' := 5 * r + m.unit * k
  h.timeAt (rne (if tx then at' + m.bit * n + m.tx else at' - m.bit * n - m.rx) 5)

/-- A lane timestamp: where in its nanosecond the point lies is free (R177, log entry 27). -/
def Hub.stampAt (h : Hub) (l : Nat) (tx : Bool) (r n : Nat) : Nat × Hub :=
  let (k, h) := h.drawInt 0 ((h.stampMode l).perNs - 1)
  (h.stampOf l k.toNat tx r n, h)

/-- Bits from the start of a frame on lane `l` to its timestamp point (R177): in Wembe the delimiter's 0 and its seventeen 1s, on
Ethernet preamble and SFD. -/
def Hub.stampBits (h : Hub) (l : Nat) : Nat := if h.isEth l then 64 else 18

/-- The timestamps of a SYNC or RESP that starts `n` bits after RAW `r` (R177, R333). -/
def Hub.stampTx (h : Hub) (r l n : Nat) (f : Frame) : Hub :=
  let seq := bitsOf (f.payload.getD 0 0#32) 0 8
  let n := n + h.stampBits l
  if f.type = tSYNC then
    let (t, h) := h.stampAt l true r n
    ((h.wrInst (Addr.TS_T1 l 0) t).setFld (Addr.TS_SEQ l) 0 8 seq).modLane l fun x => { x with respGot := false }
  else if f.type = tRESP then
    let (t, h) := h.stampAt l true r n
    (h.wrInst (Addr.TS_T3 l 0) t).setFld (Addr.TS_SEQ l) 16 8 seq
  else h

/-! ### Frames on the line (R316 to R320, R324, R330, R340) -/

/-- A frame is still on its way out at RAW `r` (R324, R339). -/
def Hub.laneBusy (h : Hub) (l r : Nat) : Bool :=
  if h.isEth l then (match (h.lane l).mac with | some m => decide (r < m.1) | none => false)
  else (match (h.lane l).air with | some a => decide (r < a.ends) | none => false)

/-- The transmitter after the last frame. -/
def Lane.after (x : Lane) : LineTx := match x.air with
  | some a => a.line.2
  | none => x.tx

/-- A Wembe frame onto the line at RAW `start`, after IDLE blocks since the last frame (R319): how many is free (log
entry 9). -/
def Hub.lineOut (h : Hub) (l start : Nat) (f : Frame) (content : List Bool) (abort : Bool) : Hub :=
  let (n, h) := h.drawWord
  h.modLane l fun x =>
    { x with sent := some f,
             air := some { start := start, tx := LineTx.idle n.toNat x.after, cls := classOf f.type, content := content,
                           abort := abort } }

/-- The MAC addresses of lane `l` (R346). -/
def Hub.ethSrc (h : Hub) (l : Nat) : List Byte := macOf (h.rd (Addr.ETH_SRC_LO l)) (h.rd (Addr.ETH_SRC_HI l))
def Hub.ethDst (h : Hub) (l : Nat) : List Byte := macOf (h.rd (Addr.ETH_DST_LO l)) (h.rd (Addr.ETH_DST_HI l))

/-- The 802.1Q tag control of lane `l` (R340). -/
def Hub.ethTag (h : Hub) (l : Nat) : Option Nat :=
  if h.bit (Addr.ETH_CFG l) 16 then some (h.fld (Addr.ETH_CFG l) 17 3 * 8192 + h.fld (Addr.ETH_CFG l) 20 12) else none

/-- A MAC frame of lane `l` at RAW `start`, tagged as `ETH_CFG` says (R340); with preamble and gap it takes 20 bytes more
(R339). -/
def Hub.macPut (h : Hub) (l start : Nat) (dst : List Byte) (ty : Nat) (body : List Byte) : Hub :=
  let b := macFrame dst (h.ethSrc l) (h.ethTag l) ty body
  let u := (b.length + 20) * 8 * nsU
  h.modLane l fun x => { x with mac := some (start + (if h.protoNow l = 1 then u / 10 else u), b) }

/-- A Wembe frame as one Ethernet frame at RAW `start` (R340). -/
def Hub.macOut (h : Hub) (l start : Nat) (f : Frame) : Hub :=
  (h.macPut l start (h.ethDst l) (h.fld (Addr.ETH_CFG l) 0 16) f.bytes).modLane l fun x => { x with sent := some f }

/-- What the start of a frame at RAW `start` leaves: the count, the spacing of LINK and the wait of BULK (R326, R327, R346). -/
def Hub.started (h : Hub) (start l : Nat) (f : Frame) : Hub :=
  (h.incWrap (Addr.FRAMES_TX l) 0 32 1).modLane l fun x =>
    { x with linkAt := if f.type = tLINK then some start else x.linkAt,
             bulkAt := if classOf f.type = cBULK then h.timeAt start else x.bulkAt }

/-- A frame starts on a lane between frames. -/
def Hub.frameOut (h : Hub) (r l : Nat) (f : Frame) : Hub :=
  let h := h.started r l f
  let h := if h.isEth l then h.macOut l r f else h.lineOut l r f f.content false
  h.stampTx r l 0 f

/-- A TIME frame goes out inside frame `a` in progress, at insertion point `p` (R324): it starts, and is timestamped, there. -/
def Hub.frameIn (h : Hub) (l p : Nat) (a : Air) (f : Frame) : Hub :=
  let n := a.sofBits p
  let h := (h.started (a.start + uiU n) l f).modLane l fun x => { x with sent := some f, air := some (a.insert p f.content) }
  h.stampTx a.start l n f

/-- Where a TIME frame may be inserted: features with INSERT, and a frame of another class in progress with an insertion point
left (R324). -/
def Hub.insertAt (h : Hub) (l r : Nat) : Option (Nat × Air) :=
  if h.isEth l || !h.bit (Addr.LANE_FEAT l) 0 then none
  else match (h.lane l).air with
    | some a => if a.cls ≠ cTIME then (a.cutAt r).map fun p => (p, a) else none
    | none => none

/-- A waiting frame leaves the queue it waited in: credits, turns, and the lane it came in on (R325 to R327). -/
def Hub.takeTurn (h : Hub) (l : Nat) (x : TxFrame) : Hub :=
  let k := classOf x.frame.type
  let h := if (h.lane l).txq.contains x then h else { h with led.out := h.led.out.eraseP (·.lane = l) }
  let h := h.modLane l fun y =>
    { y with txq := y.txq.erase x, turn := y.turn.set k (!x.fromLane.isSome),
             creds := if x.frame.type = tLINK then y.creds else y.creds.modify k fun n => n - x.frame.need }
  match x.fromLane with
  | some j => h.freeCredits j x.frame
  | none => h

/-- The clockIdentity: `ETH_SRC` with 0xFF, 0xFE after its third byte (R342), its first byte the most significant. -/
def Hub.clockIdentity (h : Hub) (l : Nat) : Nat :=
  let b := h.ethSrc l
  ofBytes (b.take 3 ++ [0xFF#8, 0xFE#8] ++ b.drop 3).reverse

/-- The bytes of a Delay_Req (R342): IEEE 1588-2019 has message type 1, minorVersionPTP 1 and versionPTP 2, the length, domain,
clockIdentity and port 1, sequence and interval 0x7F; its other fields are 0 (log entry 56). -/
def Hub.delayReq (h : Hub) (l seq : Nat) : List Byte :=
  let be (n v : Nat) : List Byte := (bytesOf v n).reverse
  [0x01#8, 0x12#8] ++ be 2 44 ++ [BitVec.ofNat 8 (h.fld (Addr.PTP_CFG l) 0 8)] ++ be 15 0 ++ be 8 (h.clockIdentity l) ++ be 2 1 ++
    be 2 seq ++ [0x01#8, 0x7F#8] ++ be 10 0

/-- A Delay_Req starts on the uplink, and its t3 is taken (R342). -/
def Hub.delayReqOut (h : Hub) (r l : Nat) : Hub :=
  let seq := h.ptp.reqSeq
  let h := h.macPut l r macPtp 0x88F7 (h.delayReq l seq)
  let (t, h) := h.stampAt l true r (h.stampBits l)
  ({ h with ptp := { h.ptp with req := some (seq, t), reqSeq := (seq + 1) % 65536, reqDue := false } }.wrInst (Addr.TS_T3 l 0) t).setFld
    (Addr.TS_SEQ l) 16 8 seq

/-- FRAME_TRANSMIT_START (R324, R327): lane `l` starts its next frame; during a frame of another class a TIME frame, inside
it; otherwise it waits. A Delay_Req that waits goes first (log entry 56). -/
def frameTransmitStart (r l : Nat) (h : Hub) : Hub :=
  let t := h.timeAt r
  let h := h.flushSpan t
  if h.stageOf l ≠ sACTIVE || h.laneMute l t then h
  else if h.laneBusy l r then
    match h.insertAt l r, h.nextTime l t with
    | some (p, a), some x => (h.takeTurn l x).frameIn l p a x.frame
    | _, _ => h
  else if h.isEth l && h.ptp.reqDue then h.delayReqOut r l
  else match h.nextFrame l t with
    | some x => (h.takeTurn l x).frameOut r l x.frame
    | none => h

/-- CAP_SEND (R335, R336): the next CAP; it waits for none of the lane's credits. -/
def capSend (r l : Nat) (h : Hub) : Hub :=
  if h.stageOf l = sEXCHANGE || h.stageOf l = sINCOMPAT then
    let h := h.frameOut r l (h.laneFrame l tCAP (h.capWords l))
    (h.modLane l fun x => { x with echoed := x.peerNonce }).handshake r l
  else h

/-- A LINK may be made ready: none waits, and the last started at least 3 µs ago (R326). -/
def Lane.linkFree (x : Lane) (r : Nat) : Bool :=
  !x.linkAt.any (fun s => decide (r < s + 3000 * nsU)) && x.txq.all fun y => y.frame.type != tLINK

/-- LINK_SEND (R326): the freed credits of every class, cumulative. -/
def linkSend (r l : Nat) (h : Hub) : Hub :=
  if h.stageOf l ≠ sACTIVE || h.isEth l || !(h.lane l).linkFree r then h
  else
    let c (k : Nat) : Nat := (h.lane l).freed.getD k 0
    let body := [wd (c 0 + 65536 * c 1), wd (c 2 + 65536 * c 3), 0#32, 0#32]
    h.enqueue l { frame := h.laneFrame l tLINK body, since := h.timeAt r }

/-- LINK (R326): credits the partner has freed since the last LINK frame heard. -/
def linkArrive (l : Nat) (f : Frame) (h : Hub) : Hub :=
  let w0 := f.payload.getD 0 0#32
  let w1 := f.payload.getD 1 0#32
  let now := [bitsOf w0 0 16, bitsOf w0 16 16, bitsOf w1 0 16, bitsOf w1 16 16]
  h.modLane l fun x =>
    { x with heard := now,
             creds := (List.range 4).map fun k => x.creds.getD k 0 + (now.getD k 0 + 65536 - x.heard.getD k 0 % 65536) % 65536 }

end Sys2Proof.Machine
end

