-- ==== Sys2Proof/Machine/SpanTime.lean ====
section
/-!
DEFINITION. Time exchange on the span lanes (R333, R334, R187 to R189) and the PTP client of the Ethernet uplink (R342).
-/

namespace Sys2Proof.Machine

/-! ### The exchange (R189, R333) -/

/-- d and θ of an exchange, in ps, where the spec states no rounding one of the two nearest (log entry 6). -/
def Hub.exchange (h : Hub) (l : Nat) (t1 t2 t3 t4 : Int) : Int × Int × Hub :=
  let (d, h) := h.drawQuotient (((t2 - t1) + (t4 - t3)) * 1000) (2 * nsU)
  let (th, h) := h.drawQuotient (((t2 - t1) - (t4 - t3)) * 1000 - (h.rd (Addr.ASYM l)).toInt * (nsU : Nat)) (2 * nsU)
  (d, th, h)

/-- d and θ written together to the lane's registers, which saturate; where the exchange is the servo's, d to `MEAS_DELAY`, and θ
becomes its measurement, with the parameters of corrected time at t2 (R189, R199, R333). -/
def Hub.writeExchange (h : Hub) (l : Nat) (d th : Int) (servo : Option Clock) : Hub :=
  let dw := wdInt (clampInt 0 (2 ^ 32 - 1) d)
  let h := (h.wr (Addr.LANE_MEAS_DELAY l) dw).wr (Addr.LANE_MEAS_OFFSET l) (wdInt (clampInt (-(2 ^ 31)) (2 ^ 31 - 1) th))
  match servo with
  | some k => (h.wr Addr.MEAS_DELAY dw).measured th k
  | none => h

/-- Lane `l` is the upstream lane of a hub on span time: its exchange is the servo's (R184, R188, R333). -/
def Hub.servoLane (h : Hub) (l t : Nat) : Bool :=
  h.fld Addr.TIME_SRC 0 2 = 1 && !h.isGateway && h.upLane t = some l

/-- SYNC_SEND (R333): the payload of the next SYNC on an ACTIVE span lane. -/
def syncSend (r l : Nat) (h : Hub) : Hub :=
  if h.stageOf l ≠ sACTIVE || decide (rSPANW < h.liveRole l) then h
  else
    let t := h.timeAt r
    let h := h.showHops t
    let x := h.lane l
    let got (k : Nat) : Word := if x.respGot then h.rd (Addr.TS_T4 l k) else 0#32
    let w0 := x.syncSeq % 256 + 256 * h.fld Addr.TIME_STATE 4 6 + 2 ^ 14 * h.fld Addr.TIME_STATE 2 2 +
      (if h.isGateway then 65536 else 0)
    let body := [wd w0, h.rd (Addr.TS_T1 l 0), h.rd (Addr.TS_T1 l 1), h.rd (Addr.TS_T1 l 2), got 0, got 1, got 2,
      wd (if x.respGot then h.fld (Addr.TS_SEQ l) 24 8 else 0)]
    (h.modLane l fun y => { y with syncSeq := (y.syncSeq + 1) % 256 }).enqueue l
      { frame := h.laneFrame l tSYNC body, since := t }

/-- The timestamp of the frame that closed at RAW `r` on a Wembe lane: its point lies the six bits of the type code before the end of
its SOF (R177). -/
def Hub.stampRx (h : Hub) (l r : Nat) : Nat × Hub := h.stampAt l false r ((h.lane l).rxAge + 6)

/-- SYNC (R333): t2, the exchange it may complete, and the RESP that answers it. -/
def syncArrive (r l : Nat) (f : Frame) (h : Hub) : Hub :=
  let now := h.timeAt r
  let (t, h) := h.stampRx l r
  let w (k : Nat) : Word := f.payload.getD k 0#32
  let seq := bitsOf (w 0) 0 8
  let n := (seq + 255) % 256
  let t4 := instOf (w 4) (w 5) (w 6)
  let answered := !(w 4 = 0#32 && w 5 = 0#32 && w 6 = 0#32) && bitsOf (w 7) 0 8 = n
  let held := h.fld (Addr.TS_SEQ l) 8 8 = n && h.fld (Addr.TS_SEQ l) 16 8 = n &&
    (match (h.lane l).syncAt with | some s => decide (now ≤ s + 125 * msU) | none => false)
  let heard := (now, bitsOf (w 0) 8 6) :: (SMap.get [] h.lan.laneHops l).filter fun x => decide (now ≤ x.1 + 125 * msU)
  let h := { h with lan.laneHops := SMap.put h.lan.laneHops l heard,
                    lan.laneState := SMap.put h.lan.laneState l (bitsOf (w 0) 14 2) }
  let h := if answered && held then
      let (d, th, h) := h.exchange l (instOf (w 1) (w 2) (w 3)) (h.instAt (Addr.TS_T2 l 0)) (h.instAt (Addr.TS_T3 l 0)) t4
      h.writeExchange l d th (if h.servoLane l now then some (h.lane l).t2Clock else none)
    else h
  let h := (h.modLane l fun x => { x with syncAt := some now, t2Clock := h.clock }).showHops now
  let h := (h.wrInst (Addr.TS_T2 l 0) t).setFld (Addr.TS_SEQ l) 8 8 seq
  h.enqueue l { frame := h.laneFrame l tRESP [wd seq, 0#32], since := now }

/-- RESP (R333): t4 of the SYNC it answers. -/
def respArrive (r l : Nat) (f : Frame) (h : Hub) : Hub :=
  let seq := bitsOf (f.payload.getD 0 0#32) 0 8
  let (t, h) := h.stampRx l r
  let h := (h.wrInst (Addr.TS_T4 l 0) t).setFld (Addr.TS_SEQ l) 24 8 seq
  h.modLane l fun x => { x with respGot := seq = h.fld (Addr.TS_SEQ l) 0 8 }

/-! ### PTP (R342) -/

/-- What every PTP message carries: domain, versionPTP, minorVersionPTP, a VLAN tag, the sender, its sequenceId and
correctionField in 2^-16 ns. -/
structure PtpHead where
  domain : Nat
  ver : Nat := 2
  minor : Nat := 1
  tagged : Bool := false
  sender : Nat
  seq : Nat
  corr : Int := 0
  deriving DecidableEq, Repr

/-- The dataset of an Announce message: priority1, clockClass, clockAccuracy, variance, priority2, grandmaster identity,
stepsRemoved; whether its timescale is arbitrary; the announce interval in 2^-16 ns. -/
structure PtpDataset where
  values : List Nat
  arb : Bool
  interval : Nat
  deriving DecidableEq, Repr

/-- The hub's PTP client listens: SRC = PTP on an ACTIVE Ethernet uplink (R342). -/
def Hub.ptpLane (h : Hub) : Option Nat :=
  if h.fld Addr.TIME_SRC 0 2 = 2 then
    match h.activeLane rUPLINK with
    | some l => if h.isEth l then some l else none
    | none => none
  else none

/-- A message of the hub's profile and domain (R342). -/
def Hub.ptpOurs (h : Hub) (l : Nat) (m : PtpHead) : Bool :=
  m.ver = 2 && decide (m.minor ≤ 1) && m.domain = h.fld (Addr.PTP_CFG l) 0 8 && (!m.tagged || h.bit (Addr.ETH_CFG l) 16)

def Hub.ptpIgnore (h : Hub) (l : Nat) : Hub := h.incSat (Addr.CNT_PTP_IGN l) 0 16 1

/-- A PTP message with SRC other than PTP: off the gateway it is one of the other frames of R469. -/
def Hub.ptpStray (h : Hub) : Hub :=
  match h.activeLane rUPLINK with
  | some l => if h.isEth l && !h.isGateway then h.incSat (Addr.CNT_MALF l) 0 16 1 else h
  | none => h

/-- Lexicographic comparison of datasets: lower is better. -/
def lexLt : List Nat → List Nat → Bool
  | a :: as, b :: bs => decide (a < b) || (a = b && lexLt as bs)
  | [], _ :: _ => true
  | _, [] => false

/-- The best of the servers heard. -/
def bestServer : List PtpServer → Option PtpServer
  | [] => none
  | s :: ss => match bestServer ss with
    | some b => if lexLt b.dataset s.dataset then some b else some s
    | none => some s

/-- The identity of a server: the last value of its dataset. -/
def PtpServer.ident (s : PtpServer) : Nat := s.dataset.getLastD 0

/-- The server is chosen among those heard within three announce intervals; an arbitrary timescale is logged once per
server chosen (R342). -/
def Hub.ptpChoose (h : Hub) (r : Nat) : Hub :=
  let t := h.timeAt r
  let live := h.ptp.servers.filter fun s => decide (t ≤ s.heard + 3 * s.interval)
  let best := bestServer live
  let id := best.map PtpServer.ident
  let p := { h.ptp with servers := live }
  let p := if p.chosen = id then p else { p with chosen := id, sync := none, t12 := none, req := none }
  let h := { h with ptp := p }
  match best with
  | some b =>
    if b.arb && !h.ptp.logged.contains b.ident then
      { h with ptp.logged := b.ident :: h.ptp.logged }.report r 15 0 belfry (h.rd Addr.TIME_STATE)
    else h
  | none => h

/-- ANNOUNCE. -/
def announce (r : Nat) (m : PtpHead) (d : PtpDataset) (h : Hub) : Hub :=
  match h.ptpLane with
  | none => h.ptpStray
  | some l =>
    if !h.ptpOurs l m then h.ptpIgnore l
    else
      let s : PtpServer := { dataset := d.values ++ [m.sender], arb := d.arb, heard := h.timeAt r, interval := d.interval }
      { h with ptp.servers := s :: h.ptp.servers.filter fun x => x.ident != m.sender }.ptpChoose r

/-- ANNOUNCE_TIMEOUT. -/
def announceTimeout (r : Nat) (h : Hub) : Hub := h.ptpChoose r

/-- PTP_SYNC: t2, or ignored and counted. The command comes at the message's timestamp point. -/
def ptpSync (r : Nat) (m : PtpHead) (twoStep : Bool) (h : Hub) : Hub :=
  match h.ptpLane with
  | none => h.ptpStray
  | some l =>
    if !h.ptpOurs l m || !twoStep || h.ptp.chosen ≠ some m.sender then h.ptpIgnore l
    else
      let (t, h) := h.stampAt l false r 0
      ({ h with ptp.sync := some (m.seq, t, m.corr), ptp.syncClock := h.clock }.wrInst (Addr.TS_T2 l 0) t).setFld
        (Addr.TS_SEQ l) 8 8 m.seq

/-- FOLLOW_UP: t1 is the preciseOriginTimestamp plus both correctionFields. -/
def followUp (m : PtpHead) (origin : Nat) (h : Hub) : Hub :=
  match h.ptpLane with
  | none => h.ptpStray
  | some l =>
    if !h.ptpOurs l m || h.ptp.chosen ≠ some m.sender then h.ptpIgnore l
    else match h.ptp.sync with
      | some (seq, t2, c) =>
        if seq = m.seq then
          { h with ptp := { h.ptp with sync := none, t12 := some ((origin : Int) + c + m.corr, t2), t2Clock := h.ptp.syncClock } }
        else h
      | none => h

/-- DELAY_REQ_SEND (R341, R342): a Delay_Req, which waits while the lane starts no frames or one is on its way out. -/
def delayReqSend (r : Nat) (h : Hub) : Hub :=
  match h.ptpLane, h.ptp.chosen with
  | some l, some _ =>
    if h.laneMute l (h.timeAt r) || h.laneBusy l r then { h with ptp.reqDue := true } else h.delayReqOut r l
  | _, _ => h

/-- DELAY_RESP: t4 completes a measurement, where the message answers the hub's own request: `port` is the clockIdentity in
its requestingPortIdentity. -/
def delayResp (m : PtpHead) (port : Nat) (rx : Nat) (h : Hub) : Hub :=
  match h.ptpLane with
  | none => h.ptpStray
  | some l =>
    if !h.ptpOurs l m || h.ptp.chosen ≠ some m.sender then h.ptpIgnore l
    else match h.ptp.req, h.ptp.t12 with
      | some (seq, t3), some (t1, t2) =>
        if port = h.clockIdentity l && seq = m.seq then
          let h := { h with ptp.req := none }
          let (d, th, h) := h.exchange l t1 t2 t3 ((rx : Int) - m.corr)
          h.writeExchange l d th (some h.ptp.t2Clock)
        else h
      | _, _ => h

end Sys2Proof.Machine
end

