-- ==== Sys2Proof/Machine/Reception.lean ====
section
/-!
DEFINITION. The reception of frames on a lane (R319, R323, R324, R329, R330, R339, R340, R469), and PAUSE (R341).
-/

namespace Sys2Proof.Machine

/-! ### What a lane hears -/

/-- What reaches a lane: the bits of a Wembe line since the last reception, up to a frame's closing delimiter, or an Ethernet
frame from its destination address to its FCS. -/
inductive RxFrame where
  | line (bits : List Bool)
  | mac (bytes : List Byte)
  deriving DecidableEq, Repr

/-- How a frame fails (R319, R323, R339). -/
inductive RxFault where
  | malformed | crc | abort | code | eth
  deriving DecidableEq, Repr

/-- A frame heard: its fields, whether its header passed, how it failed if it did, and its bits on the line. -/
structure Heard where
  frame : Frame
  head : Bool := true
  fault : Option RxFault := none
  line : Option Caught := none
  deriving DecidableEq, Repr

/-- The header checks of R323 on a frame that passed `HCRC`. -/
def Frame.bad (f : Frame) : Bool :=
  f.type = 0 || decide (12 < f.type) || (f.ver != 1 && f.ver != 2) || !addrOk f.type f.addr

/-- A frame caught on the line, judged (R319, R323, R324). -/
def Caught.judge (c : Caught) : Heard :=
  let (f, len) := Frame.ofContent c.bits
  let head := headGood c.bits && !f.bad && (!c.inserted || classOf f.type = cTIME)
  let fault :=
    if c.viol then some RxFault.code
    else if c.abort then some .abort
    else if !head || !lenGood c.bits len then some .malformed
    else if !crcGood c.bits then some .crc
    else none
  { frame := f, head := head, fault := fault, line := some c }

/-- The payload of an Ethernet frame as a Wembe frame, judged; `LEN` gives its true length (R340). -/
def macHeard (body : List Byte) : Heard :=
  let bits := bytesBits body
  let (f, len) := Frame.ofContent bits
  let head := headGood bits && !f.bad
  let fits := len % 4 = 0 && decide (len ≤ 2048) && decide (128 + 8 * len ≤ bits.length)
  { frame := f, head := head, fault := if head && fits then none else some .malformed }

/-- A PTP message of a type other than Sync, Follow_Up, Delay_Resp and Announce, which have rows of their own (R342). -/
def ptpOther (body : List Byte) : Bool := !([0, 8, 9, 11].contains ((body.getD 0 0#8).toNat % 16))

/-- A MAC frame of another EtherType (R342, R469): PTP messages that the client ignores are counted; off the gateway an uplink
carries nothing else. On the gateway any other frame is no concern of the hub's (log entry 56). -/
def Hub.strange (h : Hub) (l : Nat) (bytes : List Byte) : Hub :=
  let other := if h.isGateway then h else h.incSat (Addr.CNT_MALF l) 0 16 1
  match macBody 0x88F7 bytes with
  | some body =>
    if h.fld Addr.TIME_SRC 0 2 = 2 then (if ptpOther body then h.incSat (Addr.CNT_PTP_IGN l) 0 16 1 else h) else other
  | none => other

/-- What lane `l` makes of what reaches it, its receiver moved on: nothing in DISABLED, DETECT and TRAIN (R316). -/
def Hub.listen (h : Hub) (l : Nat) (x : RxFrame) : Option Heard × Hub :=
  if h.stageOf l = sDISABLED || h.stageOf l = sDETECT || h.stageOf l = sTRAIN then (none, h)
  else match x with
  | .line bits =>
    if h.isEth l then (none, h)
    else
      let (c, h) := h.hearLine l bits
      (c.map Caught.judge, h)
  | .mac bytes =>
    if !h.isEth l then (none, h)
    else if !macGood (h.ethSrc l) bytes || (macBody 0x8808 bytes).isSome then
      (some { frame := {}, head := false, fault := some .eth }, h)
    else match macBody (h.fld (Addr.ETH_CFG l) 0 16) bytes with
      | some body => (some (macHeard body), h)
      | none => (none, h.strange l bytes)

/-- Counts a frame discarded on reception (R323, R339); a violation is counted when it is heard (R319). -/
def Hub.countFault (h : Hub) (l : Nat) : RxFault → Hub
  | .malformed => h.incSat (Addr.CNT_MALF l) 0 16 1
  | .crc => h.incSat (Addr.CNT_CRC l) 0 16 1
  | .abort => h.incSat (Addr.CNT_ABORT l) 0 16 1
  | .code => h
  | .eth => h.incSat (Addr.CNT_ETH_DROP l) 0 16 1

/-- TP_DROP's draw on a received frame (R463). -/
def Hub.testDrop (h : Hub) (l : Nat) (f : Frame) : Bool × Hub :=
  if h.bit Addr.TP_DROP 24 && h.bit Addr.TP_DROP l && h.bit Addr.TP_DROP (4 + classOf f.type) then
    let p := h.fld Addr.TP_DROP 8 16
    let (w, h) := h.drawWord
    if p = 0xFFFF || decide (bitsOf w 0 16 < p) then (true, h.incSat Addr.TP_DROP_CNT 0 32 1) else (false, h)
  else (false, h)

/-! ### Forwarding (R329, R330) -/

/-- A frame is addressed to this hub (R329). -/
def Hub.addressed (h : Hub) (f : Frame) : Bool :=
  !forwarded f.type || f.addr = aBCAST || (f.addr = aPOS && f.dst = h.hubPos) || (f.addr = aPAIR && f.pairId = h.pairId) ||
    (f.addr = aUP && h.isGateway)

/-- A frame addressed to this hub alone (R329). -/
def Hub.alone (h : Hub) (f : Frame) : Bool := !forwarded f.type || ((f.addr = aPOS || f.addr = aUP) && h.addressed f)

/-- Where a frame heard on span lane `l` goes on to: the role of the lane, and the frame it leaves as (R329). The hop it has
made counts against `TTL`, which is the hop count of its path when it sets out (R321; log entry 40). UP frames at the gateway
go to the uplink. -/
def Hub.onward (h : Hub) (l : Nat) (f : Frame) : Option (Nat × Frame) :=
  if f.addr = aUP && h.isGateway && forwarded f.type then some (rUPLINK, f)
  else if !h.alone f && decide (1 < f.ttl) then
    some (if h.liveRole l = rSPANW then rSPANE else rSPANW, { f with ttl := f.ttl - 1 })
  else none

/-- The content a frame leaves with: its own with `HCRC` and CRC anew (R329), or after a failure what had come (R330). -/
def Heard.content (y : Heard) (f : Frame) : List Bool :=
  if y.fault.isNone then f.content
  else f.content.take 128 ++ (((y.line.map Caught.bits).getD []).drop 128)

/-- RAW at which the header of a frame heard at RAW `r` was in, and 300 ns after its SOF (R330). -/
def Caught.headAt (c : Caught) (r : Nat) : Nat := r - uiU c.head
def Caught.latest (c : Caught) (r : Nat) : Nat := r - uiU c.age + 300 * nsU

/-- A frame may cut through to lane `k`: between Wembe lanes, `k` between frames when the header is in, with nothing waiting
that could start, and with credits for the whole frame (R330). -/
def Hub.cutsThrough (h : Hub) (r k : Nat) (y : Heard) (f : Frame) : Option Caught :=
  match y.line with
  | some c =>
    let at' := c.headAt r
    if !h.isEth k && !h.laneBusy k at' && (h.nextFrame k (h.timeAt r)).isNone && h.hasCredits k f && h.carries k f then some c
    else none
  | none => none

/-- A frame heard at RAW `r` on lane `l` is passed on to lane `k` as `f` (R330): cut through, at an instant the spec bounds,
and ended with ABORT where it fails; else stored, if it is good. -/
def Hub.passOn (h : Hub) (r l k : Nat) (y : Heard) (f : Frame) : Hub :=
  match h.cutsThrough r k y f with
  | some c =>
    let (d, h) := h.drawInt 0 (c.latest r - c.headAt r)
    let h := h.modLane k fun x => { x with turn := x.turn.set (classOf f.type) false,
                                           creds := x.creds.modify (classOf f.type) fun n => n - f.need }
    let start := c.headAt r + d.toNat
    ((h.started start k f).lineOut k start f (y.content f) y.fault.isSome).freeCredits l f
  | none =>
    if y.fault.isSome then h.freeCredits l f
    else h.enqueue k { frame := f, fromLane := some l, since := h.timeAt r }

/-- A frame goes on to the ACTIVE lane of a role; where that lane is not ACTIVE it is discarded (R330). -/
def Hub.passTo (h : Hub) (r l role : Nat) (y : Heard) (f : Frame) : Hub :=
  match h.activeLane role with
  | some k => h.passOn r l k y f
  | none =>
    let h := match (List.range 4).find? fun k => h.laneEn k && h.liveRole k = role with
      | some k => if role = rUPLINK || y.fault.isSome then h else h.incSat (Addr.CNT_DISCARD k) 0 16 1
      | none => h
    h.freeCredits l f

/-- A frame heard on a span lane (R329, R330): removed, taken, passed on. `deliver` is what taking a good copy does. -/
def Hub.rxSpan (h : Hub) (r l : Nat) (y : Heard) (deliver : Frame → Hub → Hub) : Hub :=
  let f := y.frame
  if forwarded f.type && f.src = h.hubPos then h.freeCredits l f
  else
    let mine := h.addressed f
    if decide (f.ttl ≤ 1) && !mine then (h.freeCredits l f).incSat Addr.CNT_TTL 0 16 1
    else
      let next := h.onward l f
      let h := if mine && y.fault.isNone && !(f.addr = aUP) then deliver f h else h
      match next with
      | some (role, g) => h.passTo r l role y g
      | none => h.freeCredits l f

/-- A frame that failed after its header had passed may have begun to leave (R330); one whose header failed has no class
whose credits could be freed. -/
def Hub.rxBroken (h : Hub) (r l : Nat) (y : Heard) : Hub :=
  let f := y.frame
  if !y.head then h
  else if decide (rSPANW < h.liveRole l) || (forwarded f.type && f.src = h.hubPos) then h.freeCredits l f
  else match h.onward l f with
    | some (role, g) => h.passTo r l role y g
    | none => h.freeCredits l f

/-- A frame received on an UPLINK lane (R329, R340, R469). On a hub that is not the gateway, management requests for the hub
alone, where the lane is enabled for them. -/
def Hub.rxUplink (h : Hub) (r l : Nat) (f : Frame) (deliver : Frame → Hub → Hub) : Hub :=
  let h := h.freeCredits l f
  if !forwarded f.type then
    if f.type = tLINK || f.type = tCAP then deliver f h else h.incSat (Addr.CNT_MALF l) 0 16 1
  else if !h.isGateway then
    if (f.type = tMGMT || f.type = tMGMTBULK) && f.addr = aPOS && f.dst = h.hubPos && h.bit Addr.SYS_MGMT_CFG l then deliver f h
    else h.incSat (Addr.CNT_MALF l) 0 16 1
  else if f.addr = aUP then h.incSat (Addr.CNT_MALF l) 0 16 1
  else
    let alone := h.alone f
    let h := if h.addressed f then deliver f h else h
    if alone then h else h.originate (h.timeAt r) f

/-- A frame received on a TWIN lane: never forwarded (R314). -/
def Hub.rxTwin (h : Hub) (l : Nat) (f : Frame) (deliver : Frame → Hub → Hub) : Hub :=
  let h := h.freeCredits l f
  if h.addressed f then deliver f h else h

/-- What lane `l` hears: the checks of R323 in every stage that receives frames, the test block's drop, and the role's rules; before
ACTIVE only CAP is taken (R335). -/
def rxFrame (r l : Nat) (x : RxFrame) (deliver : Frame → Hub → Hub) (h : Hub) : Hub :=
  match h.listen l x with
  | (none, h) => h
  | (some y, h) =>
    let f := y.frame
    match y.fault with
    | some e => if h.stageOf l = sACTIVE then (h.countFault l e).rxBroken r l y else h.countFault l e
    | none =>
      if !(h.stageOf l = sACTIVE || (f.type = tCAP && (h.stageOf l = sEXCHANGE || h.stageOf l = sINCOMPAT))) then h
      else match h.testDrop l f with
        | (true, h) => h.freeCredits l f
        | (false, h) =>
          let h := h.incWrap (Addr.FRAMES_RX l) 0 32 1
          if h.liveRole l = rTWIN then h.rxTwin l f deliver
          else if h.liveRole l = rUPLINK then h.rxUplink r l f deliver
          else h.rxSpan r l y deliver

/-! ### PAUSE (R341) -/

/-- PAUSE: stops the start of new frames for `quanta` × 512 bit times. -/
def pauseArrive (r l quanta : Nat) (h : Hub) : Hub :=
  if h.isEth l && h.stageOf l = sACTIVE then
    let u := if h.protoNow l = 1 then quanta * 512 * nsU / 10 else quanta * 512 * nsU
    let t := h.timeAt r
    (h.incWrap (Addr.CNT_PAUSE l) 0 32 quanta).modLane l fun x => { x with pause := if quanta = 0 then none else some (t + u) }
  else h

/-- PAUSE_END. -/
def pauseEnd (r l : Nat) (h : Hub) : Hub :=
  match (h.lane l).pause with
  | some e => if e ≤ h.timeAt r then h.modLane l fun x => { x with pause := none } else h
  | none => h

end Sys2Proof.Machine
end

