-- ==== Sys2Proof/Machine/Module.lean ====
section
/-!
DEFINITION. Module management and the eye scan of a lane (R343 to R345).
-/

namespace Sys2Proof.Machine

/-! ### Modules (R343) -/

/-- MODULE_INSERT: MOD_ABS goes low and Belfry reads A0h bytes 0 to 95; `internal`: the module declares internally
calibrated diagnostics. None: the access failed, which is logged. -/
def moduleInsert (r l : Nat) (internal : Option Bool) (h : Hub) : Hub :=
  let h := h.setBit (Addr.MOD_STATUS l) 0 false
  let h := if h.optical l then h.setBit (Addr.LANE_STATUS l) 7 true else h
  match internal with
  | some b => (h.modLane l fun x => { x with ddm := b }).setBit (Addr.MOD_STATUS l) 3 false
  | none => (h.modLane l fun x => { x with ddm := false }).report r 18 ETIME belfry (wd l)

/-- DDM_POLL: A2h bytes 96 to 105, as five 16-bit values, or a failed access. -/
def ddmPoll (r l : Nat) (vals : Option (List Nat)) (h : Hub) : Hub :=
  if !(h.lane l).ddm then h
  else match vals with
    | some v => (forN 5 (fun k h => h.wr (Addr.DDM_TEMP l + 4 * k) (wd (v.getD k 0 % 65536))) h).setBit (Addr.MOD_STATUS l) 3 true
    | none => h.report r 18 ETIME belfry (wd l)

/-- MOD_ACC_GO: a write of `MOD_ACC`; GO reads 1 until DONE, and a second GO meanwhile is answered EBUSY. -/
def modAccStore (l : Nat) (v : Word) (h : Hub) : Hub :=
  let a := Addr.MOD_ACC l
  if h.bit a 24 then (if v.getLsbD 24 then h.setFld (Addr.MOD_RES l) 8 8 EBUSY else h)
  else
    let h := h.wr a (v &&& 0x01FF03FF#32)
    if v.getLsbD 24 then h.wr (Addr.MOD_RES l) 0#32 else h

/-- MOD_ACC_COMPLETE: the byte read, or none when the device does not acknowledge within 1 ms. -/
def modAccComplete (r l : Nat) (byte : Option Nat) (h : Hub) : Hub :=
  if h.bit (Addr.MOD_ACC l) 24 then
    let h := h.setBit (Addr.MOD_ACC l) 24 false
    match byte with
    | some b => h.wr (Addr.MOD_RES l) (wd ((if h.bit (Addr.MOD_ACC l) 9 then 0 else b % 256) + 256 * OK + 65536))
    | none => (h.wr (Addr.MOD_RES l) (wd (256 * ETIME + 65536))).report r 18 ETIME belfry (wd l)
  else h

/-! ### Eye scan (R344, R345) -/

/-- The status of a start of one point (R344). -/
def Hub.eyeStart (h : Hub) (l : Nat) : Nat :=
  let p := h.rd (Addr.EYE_PT l)
  let dwell := bitsOf p 16 6
  if h.bit (Addr.EYE_STATUS l) 0 then EBUSY
  else if h.stageOf l ≠ sACTIVE then ESTATE
  else if bitsOf p 0 8 = 128 || decide (dwell < 10) || decide (40 < dwell) then ERANGE
  else if decide (32 < dwell) && h.mode ≠ .service then ESTATE
  else OK

/-- EYE_START and EYE_STOP: a write of `EYE_CTRL`. A stop ends a point the host started. -/
def eyeStartStore (l : Nat) (h : Hub) : Hub :=
  let st := h.eyeStart l
  if st = OK then h.wr (Addr.EYE_STATUS l) 1#32 else h.setFld (Addr.EYE_STATUS l) 8 8 st

def eyeStopStore (l : Nat) (h : Hub) : Hub :=
  if h.bit (Addr.EYE_STATUS l) 0 && (h.lane l).eyeScan.isNone then h.setBit (Addr.EYE_STATUS l) 0 false else h

def eyeCtrlStore (l : Nat) (v : Word) (h : Hub) : Hub :=
  let h := if v.getLsbD 0 then eyeStartStore l h else h
  if v.getLsbD 1 then eyeStopStore l h else h

/-- Values from `a` up to `b` in steps of `s`, at most `fuel` of them. -/
def stepsTo (b s : Int) : Nat → Int → List Int
  | 0, _ => []
  | fuel + 1, a => if a ≤ b then a :: stepsTo b s fuel (a + s) else []

/-- The EYE_SCAN of a parameter slot's words (R345): its status, and the hub with the scan running. -/
def Hub.eyeScanStart (h : Hub) (ch : Nat) (w : Nat → Word) : Nat × Hub :=
  let l := bitsOf (w 0) 0 2
  let va := signed 8 (bitsOf (w 1) 0 8)
  let vb := signed 8 (bitsOf (w 1) 8 8)
  let vs := bitsOf (w 1) 16 8
  let pa := bitsOf (w 2) 0 7
  let pb := bitsOf (w 2) 8 7
  let ps := bitsOf (w 2) 16 7
  let dwell := bitsOf (w 3) 0 6
  let addr := (w 4).toNat
  if decide (vb < va) || decide (pb < pa) || vs = 0 || decide (254 < vs) || ps = 0 || va = -128 || decide (dwell < 10) ||
      decide (40 < dwell) || addr % 8 ≠ 0 then (ERANGE, h)
  else
    let vl := stepsTo vb vs 256 va
    let pl := (stepsTo pb ps 128 pa).map Int.toNat
    let last := addr + 16 + 8 * (vl.length * pl.length) - 1
    if h.region addr ≠ some .data || h.region last ≠ some .data then (ESIZE, h)
    else if h.bit (Addr.EYE_STATUS l) 0 then (EBUSY, h)
    else if h.stageOf l ≠ sACTIVE || (decide (32 < dwell) && h.mode ≠ .service) then (ESTATE, h)
    else
      let h := h.modLane l fun x => { x with eyeScan := some { ch := ch, vs := vl, ps := pl, dwell := dwell, addr := addr } }
      (OK, h.wr (Addr.EYE_STATUS l) 1#32)

/-- EYE_POINT_DONE (R344, R345): the count of a point; a scan's last point writes its head. -/
def eyePointDone (r l count : Nat) (h : Hub) : Hub :=
  if !h.bit (Addr.EYE_STATUS l) 0 then h
  else match (h.lane l).eyeScan with
    | none =>
      let h := (h.wr (Addr.EYE_CNT_LO l) (wd count)).wr (Addr.EYE_CNT_HI l) (wd (count / 2 ^ 32 % 512))
      h.wr (Addr.EYE_STATUS l) 2#32
    | some s =>
      let h := h.domeWrite (s.addr + 16 + 8 * s.done) 8 count
      if s.done + 1 < s.vs.length * s.ps.length then
        h.modLane l fun x => { x with eyeScan := some { s with done := s.done + 1 } }
      else
        let h := forIn' (([l, s.done + 1, s.dwell, OK] : List Nat).zipIdx) (fun p h => h.domeWrite (s.addr + 4 * p.2) 4 p.1) h
        let h := (h.modLane l fun x => { x with eyeScan := none }).wr (Addr.EYE_STATUS l) 2#32
        h.respond r s.ch OK (s.done + 1)

end Sys2Proof.Machine
end

