-- ==== Sys2Proof/Machine/Test.lean ====
section
/-!
DEFINITION. The supply-sag machine (R427, R431), the throttle registers (R21, R42), and the test block (chapter 16).
-/

namespace Sys2Proof.Machine

/-! ### Supply sag (R21, R427) -/

def Hub.sagLevel (h : Hub) : Nat := h.fld Addr.SAG_STATUS 0 2

/-- `THROTTLE_NOW` at a level: filter islands never below 6/8 (R21, R427). -/
def throttleWord (level : Nat) : Word := wd (min level 2 + 4 * level + 16 * level + 64 * level)

/-- The level becomes `k`: throttle steps, the deepest step reached, and the clock of level 3. -/
def Hub.setSag (h : Hub) (r k : Nat) : Hub :=
  let was := h.sagLevel
  let sg := h.sag
  let l3 := match sg.l3At with
    | some s => if was = 3 ∧ k ≠ 3 then sg.l3 + (r - s) else sg.l3
    | none => sg.l3
  let h := { h with sag := { since := r, l3 := l3, l3At := if k = 3 then some (sg.l3At.getD r) else none } }
  let h := (h.setFld Addr.SAG_STATUS 0 2 k).wr Addr.CLK_THROTTLE_NOW (throttleWord k)
  forN 4 (fun i h => h.setFld Addr.CLK_THROTTLE_MAX (2 * i) 2 (max (h.fld Addr.CLK_THROTTLE_MAX (2 * i) 2)
    (h.fld Addr.CLK_THROTTLE_NOW (2 * i) 2))) h

/-- SAG_TRIP (R427): a detector, or TP_SAG, demands level `k`; a deeper level is entered at once, counted and logged. -/
def sagTrip (r k : Nat) (h : Hub) : Hub :=
  if 3 < k ∨ k ≤ h.sagLevel then h
  else
    let h := h.setSag r k
    let h := h.setFld Addr.SAG_MAX 0 2 (max (h.fld Addr.SAG_MAX 0 2) k)
    let h := (h.incSat (Addr.SAG_TRIP_CNT (k - 1)) 0 16 1).wrInst Addr.SAG_LAST0 (h.timeAt r)
    h.report r 22 0 15 (wd k)

/-- The level TP_SAG forces, 0 for none (R463). -/
def Hub.forcedSag (h : Hub) : Nat := if h.bit Addr.TP_SAG 2 then h.fld Addr.TP_SAG 0 2 else 0

/-- SAG_LEVEL_LEAVE (R427): VCORE has been above the leave threshold for 10 µs; level `k` is taken once the present level
has been held for 10 µs, and never below a forced level. -/
def sagLevelLeave (r k : Nat) (h : Hub) : Hub :=
  if k < h.sagLevel && decide (h.sag.since + 10000 * nsU ≤ r) && decide (h.forcedSag ≤ k) then h.setSag r k else h

/-- `SAG_STATUS` and `SAG_L3_TIME` as read (R431). -/
def Hub.sagStatus (h : Hub) (r : Nat) : Word :=
  putBit (h.rd Addr.SAG_STATUS) 2 (decide (0 < h.sagLevel) && decide (r < h.sag.since + 10000 * nsU))
def Hub.sagL3 (h : Hub) (r : Nat) : Word :=
  let run := match h.sag.l3At with
    | some s => r - s
    | none => 0
  wd ((h.sag.l3 + run) / (1000 * nsU))

/-- A write of `CLK.THROTTLE_MAX`: a field written 0b11 clears (R42). -/
def throttleMaxStore (v : Word) (h : Hub) : Hub :=
  forN 4 (fun i h => if bitsOf v (2 * i) 2 = 3 then h.setFld Addr.CLK_THROTTLE_MAX (2 * i) 2 0 else h) h

/-! ### Perturbations (R458 to R463) -/

/-- The enable bit of each perturbation register. -/
def tpEn : List (Nat × Nat) :=
  [(Addr.TP_XDELAY, 16), (Addr.TP_STARVE, 11), (Addr.TP_ACKHOLD, 17), (Addr.TP_DROP, 24), (Addr.TP_TJIT, 12), (Addr.TP_SAG, 2),
   (Addr.TP_SKEW, 7), (Addr.TP_SWAPFAIL, 18)]

def Hub.tpArmed (h : Hub) : Bool := h.bit Addr.TP_STATUS 0

/-- `TP_STATUS` as read: ACTIVE is any EN (R465). -/
def Hub.tpStatus (h : Hub) : Word := putBit (h.rd Addr.TP_STATUS) 1 (tpEn.any fun p => h.bit p.1 p.2)

/-- Every perturbation is disabled (R461): held acknowledgements apply at once; a forced level falls under R427. -/
def Hub.testOff (h : Hub) : Hub :=
  let h := forIn' tpEn (fun p h => h.setBit p.1 p.2 false) h
  { h with tpStep := none }.applyHeld.setBit Addr.TP_STATUS 0 false

/-- The status left by the last write, and the log entry of a refused one (R458). -/
def Hub.tpRefuse (h : Hub) (r m a st : Nat) : Hub := (h.setFld Addr.TP_STATUS 8 8 st).refuse r m a st

/-- An accepted use (R460). -/
def Hub.tpUse (h : Hub) (r m a : Nat) : Hub :=
  ((h.setFld Addr.TP_STATUS 8 8 OK).incWrap Addr.TP_USE_CNT 0 32 1).report r 23 0 m (wd (a - Addr.TP_STATUS))

/-- What a perturbation may do in RUN while armed (R458): `some` only where it may. -/
def tpInRun (a : Nat) (v : Word) : Bool :=
  if a = Addr.TP_ACKHOLD then true
  else if a = Addr.TP_STARVE then v.getLsbD 0 || decide (2 ≤ bitsOf v 3 2)
  else if a = Addr.TP_DROP then bitsOf v 4 2 = 0
  else false

/-- A field out of its range (R464, R465). -/
def tpRange (a : Nat) (v : Word) : Bool :=
  if a = Addr.TP_XDELAY then decide (0x2A < bitsOf v 0 8) || bitsOf v 8 8 = 0
  else if a = Addr.TP_STARVE then bitsOf v 16 16 = 0
  else if a = Addr.TP_ACKHOLD then bitsOf v 0 10 = 0 || decide (1000 < bitsOf v 0 10)
  else if a = Addr.TP_TJIT then bitsOf v 4 8 = 0
  else if a = Addr.TP_SAG then bitsOf v 0 2 = 0
  else if a = Addr.TP_SKEW then decide (5 < bitsOf v 4 3)
  else if a = Addr.TP_SWAPFAIL then bitsOf v 16 2 = 0 || bitsOf v 16 2 = 3
  else false

/-- The conditions of R458 on the mode. -/
def Hub.tpAllowed (h : Hub) (a : Nat) (v : Word) : Bool :=
  h.mode = .service || (h.mode = .run && h.tpArmed && tpInRun a v)

/-- A write of 0 to TP_ARM met the present Belfry cycle (R462). -/
def Hub.tpOffNow (h : Hub) (r : Nat) : Bool := h.tpOffAt.any fun t => t / (4 * nsU) = r / (4 * nsU)

/-- A write to a perturbation register with enable bit `en` and writable bits `mask` (R458, R460 to R462). Its fields are checked
whether it enables or not (log entry 56). -/
def Hub.tpStore (h : Hub) (r m a en : Nat) (mask v : Word) : Hub :=
  let v := v &&& mask
  if v.getLsbD en && (!h.tpAllowed a v || h.tpOffNow r) then h.tpRefuse r m a ESTATE
  else if tpRange a v then h.tpRefuse r m a ERANGE
  else if !v.getLsbD en then
    let h := (h.wr a v).setFld Addr.TP_STATUS 8 8 OK
    if a = Addr.TP_ACKHOLD then h.applyHeld else h
  else (h.wr a v).tpUse r m a

/-- TP_XDELAY, TP_STARVE, TP_ACKHOLD, TP_DROP, TP_TJIT, TP_SAG, TP_SKEW, TP_SWAPFAIL. -/
def tpXdelayStore (r m : Nat) (v : Word) (h : Hub) : Hub := h.tpStore r m Addr.TP_XDELAY 16 0x1FFFF#32 v
def tpStarveStore (r m : Nat) (v : Word) (h : Hub) : Hub :=
  let h' := h.tpStore r m Addr.TP_STARVE 11 0xFFFF0FFF#32 v
  if h'.rd Addr.TP_USE_CNT = h.rd Addr.TP_USE_CNT then h' else { h' with starveAt := r }
def tpAckholdStore (r m : Nat) (v : Word) (h : Hub) : Hub := h.tpStore r m Addr.TP_ACKHOLD 17 0x3FFFF#32 v
def tpDropStore (r m : Nat) (v : Word) (h : Hub) : Hub := h.tpStore r m Addr.TP_DROP 24 0x1FFFFFF#32 v
def tpTjitStore (r m : Nat) (v : Word) (h : Hub) : Hub :=
  let h' := h.tpStore r m Addr.TP_TJIT 12 0x1FFF#32 v
  if h'.rd Addr.TP_USE_CNT = h.rd Addr.TP_USE_CNT then h' else forN 4 (fun t h => h.jitter t 1) { h' with sys.jit := [] }
def tpSagStore (r m : Nat) (v : Word) (h : Hub) : Hub :=
  let h := h.tpStore r m Addr.TP_SAG 2 7#32 v
  sagTrip r h.forcedSag h
def tpSkewStore (r m : Nat) (v : Word) (h : Hub) : Hub := h.tpStore r m Addr.TP_SKEW 7 0xFFFFFFFF#32 v
def tpSwapfailStore (r m : Nat) (v : Word) (h : Hub) : Hub :=
  let h := h.tpStore r m Addr.TP_SWAPFAIL 18 0x7FFFF#32 v
  if h.fld Addr.TP_SWAPFAIL 0 16 = 0 then h.setBit Addr.TP_SWAPFAIL 18 false else h

/-- STARVE_END (R463): DUR expires. -/
def starveEnd (r : Nat) (h : Hub) : Hub :=
  if h.bit Addr.TP_STARVE 11 && decide (h.starveAt + h.fld Addr.TP_STARVE 16 16 * 1000 * nsU ≤ r) then
    h.setBit Addr.TP_STARVE 11 false
  else h

/-- INJECT (R458, R463): the parity of the 64-bit word at TP_PAR_ADDR is inverted; a write without it only leaves its status
(R465). -/
def injectStore (r m : Nat) (v : Word) (h : Hub) : Hub :=
  let a := (h.rd Addr.TP_PAR_ADDR).toNat
  if !v.getLsbD 0 then h.setFld Addr.TP_STATUS 8 8 OK
  else if h.mode = .service || (h.mode = .run && h.tpArmed && h.region a = some .journal) then
    let h := { h with badParity := if h.poisoned a then h.badParity.filter (· != a / 8) else a / 8 :: h.badParity }
    h.tpUse r m Addr.TP_PAR_CTRL
  else h.tpRefuse r m Addr.TP_PAR_CTRL ESTATE

/-- TP_ARM (R459, R461). -/
def tpArmStore (r m : Nat) (v : Word) (h : Hub) : Hub :=
  if v = 0#32 then { h.testOff with tpOffAt := some r }.setFld Addr.TP_STATUS 8 8 OK
  else
    let restart (h : Hub) : Hub := { h with tpStep := none }.setFld Addr.TP_STATUS 8 8 ESTATE
    match h.tpStep with
    | none => if v = 0x5450#32 && h.mode = .run then { h with tpStep := some (m, r) }.setFld Addr.TP_STATUS 8 8 OK else restart h
    | some (m0, r0) =>
      if v = 0x4152#32 && m = m0 && h.mode = .run && decide (r ≤ r0 + 1000000 * nsU) then
        ({ h with tpStep := none }.setBit Addr.TP_STATUS 0 true).setFld Addr.TP_STATUS 8 8 OK
      else restart h

end Sys2Proof.Machine
end

