-- ==== Sys2Proof/Machine/Selail.lean ====
section
/-!
DEFINITION. The Selail twin unit (chapter 12): health, the lease and the warden, promotion and fencing, planned handover.
Intervals are measured in RAW, lease ends and promises are instants of corrected time.
-/

namespace Sys2Proof.Machine

/-! ### States, pins and health (R348 to R351, R358, R365) -/

def selUNPAIRED : Nat := 0
def selSTANDBY : Nat := 1
def selCLAIMING : Nat := 2
def selACTIVE : Nat := 3
def selFENCED : Nat := 4
def selHANDOVER : Nat := 5

def Hub.setSel (h : Hub) (s : Nat) : Hub := h.setFld Addr.SEL_STATUS 0 3 s
def Hub.isPrimary (h : Hub) : Bool := !h.bit Addr.SEL_CFG 17
def Hub.pinWarden (h : Hub) : Bool := h.bit Addr.SEL_CFG 18
def Hub.peerPos (h : Hub) : Nat := h.fld Addr.SEL_WARDEN 8 6
def Hub.wardenPos (h : Hub) : Nat := h.fld Addr.SEL_WARDEN 0 6
def Hub.sver (h : Hub) : Nat := h.fld Addr.SEL_STATUS 14 2

/-- What an output pin does to its net. -/
inductive PinDrive where
  | high
  | low
  | highZ
  deriving DecidableEq, Repr

/-- ACT_OUT, and each bit of XSW_SEL: driven high while the hub is ACTIVE and low while it is STANDBY, high impedance in reset
and unpowered (R349, R350). -/
def Hub.actOut (h : Hub) : PinDrive := if !h.sys.powered then .highZ else if h.activeRole then .high else .low
def Hub.xswSel (h : Hub) : PinDrive := h.actOut

/-- The hub may hold or claim a lease (R358). -/
def Hub.selOk (h : Hub) (r : Nat) : Bool :=
  let t := h.timeState
  (t = 1 || (t = 2 && decide (bitsOf (h.timeStateWord r) 12 20 < h.fld Addr.SEL_TIMING 8 6))) &&
  !(h.bit Addr.SEL_FAULT_MASK 0 && (List.range 16).any fun n => (h.spire n).exc = .tripped) &&
  !(h.bit Addr.SEL_FAULT_MASK 1 && (h.fld Addr.CALC_BOOT_FAIL 0 16 ≠ 0 || (List.range 16).any fun n => h.rotState n = rotSTALLED))

/-- The hub may claim: it satisfies R358, shares a version with its peer (R367) and is not in SERVICE (R419). -/
def Hub.mayClaim (h : Hub) (r : Nat) : Bool := h.selOk r && !h.sel.noVer && h.mode ≠ .service

/-- The oldest sequence of stream `s` the journal holds (R365): as an element, or inside a GAP other than EVICTED and
REPLAY_LOST; the next to be produced where it holds none. -/
def Hub.oldestHeld (h : Hub) (s : Nat) : Nat :=
  let held := (h.queue (h.streamQueue s)).pkts.filter fun p => p.stream = s && !(p.kind = .gap && (p.reason = 1 || p.reason = 6))
  match held.head?, (h.stream s).opn with
  | some p, _ => if p.kind = .derived then min p.fromSeq p.seq else p.seq
  | none, some p => p.seq
  | none, none => (h.stream s).prod

/-- The peer is reachable: a heartbeat has been heard and fewer than three in a row missed. -/
def Hub.pathOk (h : Hub) : Bool := h.sel.lastHb.isSome && decide (h.sel.misses < 3)

/-- `HEALTH` (R365). -/
def Hub.health (h : Hub) (r : Nat) : Nat :=
  let cal := h.bit Addr.CALC_STATUS 0 && h.fld Addr.CALC_BOOT_FAIL 0 16 = 0 && (List.range 16).all fun n => h.rotState n ≠ rotSTALLED
  let time := h.selOk r && h.timeState = 1
  let jour := h.activeRole || (List.range 1024).all fun s => !h.streamLive s || decide (h.oldestHeld s ≤ (h.stream s).mirNext)
  let ward := h.pinWarden || h.wardenPos = h.hubPos || (h.wayTo h.wardenPos).isSome
  cal.toNat + 2 * time.toNat + 4 * jour.toNat + 8 * h.pathOk.toNat + 16 * ward.toNat

/-- The TWIN lane that mirroring and heartbeats use, if it is the path in use (R364). -/
def Hub.twinPath (h : Hub) : Option Nat := if h.bit Addr.SEL_STATUS 13 then none else h.activeLane rTWIN

/-- `SEL_STATUS` as read: HANDOVER while one is in progress, own HEALTH, and for a paired hub the path in use (R368). -/
def Hub.selStatus (h : Hub) (r : Nat) : Word :=
  let w := putBits (h.rd Addr.SEL_STATUS) 3 5 (h.health r)
  let w := if h.paired then putBits w 13 1 h.twinPath.isNone.toNat else w
  if h.sel.hand.isSome then putBits w 0 3 selHANDOVER else w

/-- The lease end: the later of the warden's and the peer's, the warden's alone in version 1 (R354, R367). -/
def Hub.leaseEnd (h : Hub) : Option Nat :=
  match h.sel.leaseWarden, (if h.sver = 1 then none else h.sel.leasePeer) with
  | some a, some b => some (max a b)
  | some a, none => some a
  | none, b => b

def Hub.showLease (h : Hub) : Hub :=
  match h.leaseEnd with
  | some e => h.wrInst Addr.SEL_LEASE_END0 e
  | none => h

/-! ### Sending (R362, R364, R365) -/

/-- The 24-byte head of a message (R365); its sequence counts on. -/
def Hub.selHead (h : Hub) (t msg : Nat) : List Word × Hub :=
  let n := SMap.get 0 h.sel.seqs msg
  let sv := if h.sver = 0 then 2 else h.sver
  ([wd (msg + 256 * sv + 65536 * h.pairId), h.rd Addr.SEL_EPOCH, kxWord t 0, kxWord t 1, kxWord t 2, wd n],
   { h with sel.seqs := SMap.put h.sel.seqs msg ((n + 1) % 2 ^ 32) })

/-- A Selail frame to a position on the ring. -/
def Hub.selTo (h : Hub) (t pos msg : Nat) (bulk : Bool) (body : List Word) : Hub :=
  let (hd, h) := h.selHead t msg
  h.originate t { type := if bulk then tSELAILBULK else tSELAIL, addr := aPOS, dst := pos, payload := hd ++ body }

/-- A Selail frame to the peer: by the TWIN lane, or on the ring where that path is in use (R362, R364). -/
def Hub.selPeer (h : Hub) (t msg : Nat) (bulk : Bool) (body : List Word) : Hub :=
  match h.twinPath with
  | some l =>
    let (hd, h) := h.selHead t msg
    let f : Frame := { type := if bulk then tSELAILBULK else tSELAIL, addr := aPOS, src := h.hubPos, dst := h.peerPos,
                       pairId := h.pairId, payload := hd ++ body }
    h.enqueue l { frame := f, since := t }
  | none => h.selTo t h.peerPos msg bulk body

def mHEARTBEAT : Nat := 1
def mRENEW : Nat := 2
def mCLAIM : Nat := 3
def mGRANT : Nat := 4
def mDENY : Nat := 5
def mRELINQUISH : Nat := 6
def mHANDOVER : Nat := 7
def mLEDGERM : Nat := 16
def mCONTEXT : Nat := 17
def mHISTOGRAM : Nat := 18
def mTHRESHOLDS : Nat := 19
def mCAPTURE : Nat := 20

def instWords (t : Nat) : List Word := [kxWord t 0, kxWord t 1, kxWord t 2]

/-- The state a heartbeat reports. -/
def Hub.hbState (h : Hub) : Nat := if h.sel.hand.isSome then selHANDOVER else h.selState

/-- The first body word of a heartbeat (R365). The role of SET_PREFERRED, whose place the spec does not give, goes in bits 26
and 25: a role follows, and SECONDARY (log entry 10). -/
def Hub.hbWord (h : Hub) (r : Nat) (reply : Bool) : Word :=
  wd (h.hbState + 8 * h.health r + 256 * 2 + 65536 * 1 + (if reply then 2 ^ 24 else 0) +
    (if h.sel.tellRole then 2 ^ 26 + (if h.isPrimary then 0 else 2 ^ 25) else 0))

/-! ### Fencing and standing by (R349, R357, R466) -/

/-- The hub stops acting: its own Ledger frames in the Gatehouse are discarded, excitation goes to HIZ (R357). -/
def Hub.stopActing (h : Hub) : Hub :=
  let h := { h with led.out := [], cape.spanOut := [] }
  forN 16 (fun n h => if (h.spire n).exc = .hiz then h else (h.setBit Addr.INRUSH_PEND n false).setExc n .hiz) h

/-- What the hub's part in its pair decides of samples, from instant `t` on (R122, R351, R466); a hub that stands by makes no probe
read and no charge test (R87). -/
def Hub.notePart (h h0 : Hub) (t : Nat) : Hub := (forN 16 (fun n h => (h.injQuit n).noteSpire h0 n t) h).noteTwin h0 t

/-- The hub holds no lease, no grant and no handover. -/
def Selail.released (x : Selail) : Selail := { x with hand := none, grant := none, leaseWarden := none, leasePeer := none }

/-- Fencing (R357). -/
def Hub.fence (h : Hub) (r : Nat) : Hub :=
  let t := h.timeAt r
  let h := (h.stopActing.setSel selFENCED).notePart h t
  let h := { h with sel := { h.sel.released with fenceFrame := frameOf t } }
  let h := if h.mode = .run then h.setBit Addr.SYS_MODE 3 true else h
  let h := if h.pinWarden then h else h.selTo t h.wardenPos mRELINQUISH false (instWords t)
  h.selPeer t mRELINQUISH false (instWords t)

/-- The mode of a hub that has stopped acting (R412, R461). -/
def Hub.toShadow (h : Hub) : Hub := if h.mode = .run then h.testOff.setMode .shadow else h

/-- A claim is withdrawn (R356, R358, R359): STANDBY, and SHADOW where a grant had been held at START. -/
def Hub.withdraw (h : Hub) : Hub := ({ h with sel.grant := none }.setSel selSTANDBY).toShadow

/-- FENCE_BOUNDARY (R357): the next frame boundary. -/
def fenceBoundary (r : Nat) (h : Hub) : Hub :=
  if h.selState = selFENCED && decide (h.sel.fenceFrame < frameOf (h.timeAt r)) then h.toShadow.setSel selSTANDBY else h

/-- LEASE_EXPIRY (R357): corrected time has reached the lease end. -/
def leaseExpiry (r : Nat) (h : Hub) : Hub :=
  if h.selState ≠ selACTIVE || h.pinWarden then h
  else match h.leaseEnd with
    | some e => if e ≤ h.timeAt r then h.fence r else h
    | none => h

/-- SELF_FAULT (R358): the condition is left; logged once, it fences an active hub and withdraws a claim. -/
def selfFault (r : Nat) (h : Hub) : Hub :=
  if !h.paired then h
  else if h.selOk r then { h with sel.faulted := false }
  else
    let h := if h.sel.faulted then h else { h with sel.faulted := true }.report r 21 0 15 (h.selStatus r)
    if h.selState = selACTIVE then h.fence r
    else if h.selState = selCLAIMING then h.withdraw
    else h

/-- ARB_GRANT_FALL (R359). -/
def arbGrantFall (r : Nat) (h : Hub) : Hub :=
  let h := { h.setBit Addr.SEL_STATUS 17 false with pins.arbGrantIn := false }
  if h.paired && h.pinWarden && h.selState = selACTIVE then h.fence r
  else if h.paired && h.pinWarden && h.selState = selCLAIMING then h.withdraw
  else h

/-- ARB_GRANT_RISE (R359): a standby awaits its promotion at the next frame boundary. -/
def arbGrantRise (r : Nat) (h : Hub) : Hub :=
  let h := { h.setBit Addr.SEL_STATUS 17 true with pins.arbGrantIn := true }
  if h.paired && h.pinWarden && (h.selState = selSTANDBY || h.selState = selCLAIMING) && h.mayClaim r then
    { h with sel.grant := some (h.timeAt r, max (h.rd Addr.SEL_EPOCH).toNat h.sel.peerEpoch + 1) }.setSel selCLAIMING
  else h

/-! ### Promotion (R310, R356, R361) -/

/-- Streams that exist at a takeover: of a run, or with something produced here or by the peer. -/
def Hub.takesOver (h : Hub) (s : Nat) : Bool :=
  h.running || (h.stream s).prod ≠ 0 || (h.stream s).mirProd ≠ 0

/-- A channel at the promotion in frame `f` (R87, R361): nothing of an earlier term counts towards a break, RTD outputs follow
a change of the excitation, CHARGE samples are held back. -/
def Hub.promoteChan (h : Hub) (n c f : Nat) : Hub :=
  let g := chNo n c
  let m := h.feMode n c
  if m ≠ mRTD && m ≠ mCHARGE && (SMap.find h.chans g).isNone then h
  else
    let h' := h.modChan g fun x =>
      { x with probe := [], t01P := none, t01N := none, lowTests := 0, xswHold := m == mCHARGE,
               cfgEpoch := if m = mRTD then x.cfgEpoch + 1 else x.cfgEpoch }
    h'.noteChan h n c (f * frameU)

/-- Promotion at the boundary of frame `f`, t_p its instant (R361). -/
def Hub.promote (h : Hub) (f epoch : Nat) : Hub :=
  let h0 := h
  let tp := f * frameU
  let h := h.wr Addr.SEL_EPOCH (wd epoch)
  let h := (h.setSel selACTIVE).incWrap Addr.SEL_TAKEOVER_CNT 0 32 1
  let h := { h with sel := { h.sel with grant := none, hand := none, promise := none, leasePeer := none,
                                        promotedAt := tp } }.showLease
  let h := if (List.range 1024).any fun s => h.streamLive s && h.takesOver s then h.ledgerTakeover tp epoch
    else ({ h with queues := h.queues.map (fun (p : Nat × Queue) => (p.1, { p.2 with sentN := 0 })) } : Hub).wr Addr.LED_EPOCH (wd epoch)
  let h := forN 16 (fun n h => h.excActivate n f) (h.noteTwin h0 tp)
  let h := forN 512 (fun g h => h.promoteChan (g / 32) (g % 32) f) h
  if h.mode = .shadow then h.setMode .run else h

/-- PROMOTION (R356, R359): the first frame boundary at or after the grant and the hub's own promise; with PEER_PIN,
PEER_ACT_IN (`peerAct`) must be low. -/
def promotion (r : Nat) (peerAct : Bool) (h : Hub) : Hub :=
  let h := h.setBit Addr.SEL_STATUS 16 peerAct
  if h.selState ≠ selCLAIMING || (h.bit Addr.SEL_CFG 20 && peerAct) then h
  else match h.sel.grant with
    | some (at_, epoch) =>
      let f := frameOf (h.timeAt r)
      if at_ ≤ f * frameU && (h.pinWarden || decide ((h.sel.promise.getD 0) ≤ f * frameU)) then h.promote f epoch else h
    | none => h

/-- XSW_TIME_END (R361): at t_p + XSW_TIME CHARGE samples become present and every CHARGE channel is reset. -/
def xswTimeEnd (r : Nat) (h : Hub) : Hub :=
  let t := h.timeAt r
  if t < h.sel.promotedAt + h.fld Addr.SEL_TIMING 16 16 * 1000 * nsU then h
  else forN 512 (fun g h =>
    if (h.chan g).xswHold then
      chargeRequest (g / 32) (g % 32)
        ((h.modChan g fun x => { x with xswHold := false }).noteChan h (g / 32) (g % 32) t)
    else h) h

/-! ### Heartbeats and claims (R353 to R356) -/

/-- RENEW_SEND. -/
def renewSend (r : Nat) (h : Hub) : Hub :=
  if h.selState = selACTIVE && !h.pinWarden then h.selTo (h.timeAt r) h.wardenPos mRENEW false [] else h

/-- HEARTBEAT_SEND. -/
def heartbeatSend (r : Nat) (h : Hub) : Hub :=
  if h.selState = selACTIVE then
    let t := h.timeAt r
    let h := h.selPeer t mHEARTBEAT false ([h.hbWord r false, 0#32] ++ instWords (h.leaseEnd.getD 0))
    { h with sel.tellRole := false }
  else h

/-- CLAIM_SEND: a claiming hub not yet granted. -/
def claimSend (r : Nat) (h : Hub) : Hub :=
  if h.selState = selCLAIMING && h.sel.grant.isNone && !h.pinWarden && !h.sel.noVer then
    h.selTo (h.timeAt r) h.wardenPos mCLAIM false [0#32]
  else h

/-- The hub claims (R355, R356, R358, R359), giving up a handover in progress; under an external arbiter it waits for the
pin. -/
def Hub.startClaim (h : Hub) (r : Nat) : Hub :=
  if h.selState = selSTANDBY && h.mayClaim r && !h.pinWarden then
    claimSend r ({ h with sel.grant := none, sel.hand := none }.setSel selCLAIMING)
  else h

/-- How long HEALTH has been 0b11111 without a break, as seen at each heartbeat and each miss (R366; log entry 43). -/
def Hub.seeHealth (h : Hub) (r : Nat) : Hub :=
  { h with sel.healthySince := if h.health r = 31 then some (h.sel.healthySince.getD r) else none }

/-- HEARTBEAT_MISS (R355): 1.1 ms without a heartbeat; from the third on a standby takes the active hub for failed, and the
peer counts as unreachable on either hub (R365). -/
def heartbeatMiss (r : Nat) (h : Hub) : Hub :=
  match h.paired, h.sel.lastHb with
  | true, some s =>
    if s + (h.sel.misses + 1) * 1100000 * nsU ≤ r then
      let h := ({ h with sel.misses := h.sel.misses + 1 }.incSat Addr.SEL_HB_MISS_CNT 0 16 1).seeHealth r
      if 3 ≤ h.sel.misses then h.startClaim r else h
    else h
  | _, _ => h

/-- STARTUP_CLAIM_EVAL (R356). -/
def startupClaimEval (r : Nat) (h : Hub) : Hub :=
  let quiet (x : Option Nat) : Bool := match x with
    | some s => decide (s + 100 * msU ≤ r)
    | none => true
  if h.selState = selSTANDBY && (h.mode = .idle || h.mode = .armed) &&
      (if h.isPrimary then quiet h.sel.lastActHb else quiet h.sel.lastHb && decide (h.sel.idleAt + 100 * msU ≤ r)) then
    h.startClaim r
  else h

/-- The common version of two offers, or none (R367). -/
def commonVersion (pmax pmin : Nat) : Option Nat := if max 1 pmin ≤ min 2 pmax then some (min 2 pmax) else none

/-- A frame is from the peer. -/
def Hub.fromPeer (h : Hub) (f : Frame) : Bool :=
  h.paired && f.src = h.peerPos && bitsOf (f.payload.getD 0 0#32) 16 16 = h.pairId

/-- HEARTBEAT (R354 to R356, R367, R420). -/
def heartbeat (r : Nat) (f : Frame) (h : Hub) : Hub :=
  if !h.fromPeer f then h
  else
    let t := h.timeAt r
    let w (k : Nat) : Word := f.payload.getD k 0#32
    let st := bitsOf (w 6) 0 3
    let reply := (w 6).getLsbD 24
    let h := { h with sel.lastHb := some r, sel.misses := 0, sel.peerEpoch := (w 1).toNat }
    let h := h.setFld Addr.SEL_STATUS 8 5 (bitsOf (w 6) 3 5)
    let h := if (w 6).getLsbD 26 then h.setBit Addr.SEL_CFG 17 (!(w 6).getLsbD 25) else h
    let h := match commonVersion (bitsOf (w 6) 8 8) (bitsOf (w 6) 16 8) with
      | some v => { h with sel.noVer := false }.setFld Addr.SEL_STATUS 14 2 v
      | none => { h with sel.noVer := true }.setFld Addr.SEL_STATUS 14 2 0
    let h := if h.sel.noVer then h.report r 21 EVERSION 15 (h.selStatus r) else h
    let h := if h.sel.noVer && h.selState = selCLAIMING then h.withdraw else h
    let h := h.seeHealth r
    if reply then
      if h.selState = selACTIVE && h.sver = 2 then { h with sel.leasePeer := some (instOf (w 8) (w 9) (w 10)) }.showLease else h
    else
      let acting := st = selACTIVE || st = selHANDOVER
      let h := if acting then { h with sel.lastActHb := some r } else h
      let h := if acting && h.selState = selCLAIMING then h.withdraw else h
      if acting && h.selState = selSTANDBY && h.sver = 2 then
        let h := { h with sel.promise := some (t + 4 * msU) }
        h.selPeer t mHEARTBEAT false ([h.hbWord r true, w 5] ++ instWords (t + 4 * msU))
      else if st = selFENCED then h.startClaim r
      else h

/-- RELINQUISH at the peer (R355). -/
def Hub.peerRelinquish (h : Hub) (r : Nat) : Hub := h.startClaim r

/-- DENY (R356): counted; the claim continues. -/
def denyArrive (h : Hub) : Hub := if h.paired then h.incSat Addr.SEL_DENY_CNT 0 16 1 else h

/-! ### The warden (R352, R353, R356) -/

def Hub.wUsed (h : Hub) (p : Nat) : Bool := h.bit (Addr.SEL_WTBL_PAIR p) 31
def Hub.wPair (h : Hub) (p : Nat) : Nat := h.fld (Addr.SEL_WTBL_PAIR p) 0 16
def Hub.wHolder (h : Hub) (p : Nat) : Nat := h.fld (Addr.SEL_WTBL_PAIR p) 16 6
def Hub.wEpoch (h : Hub) (p : Nat) : Nat := (h.rd (Addr.SEL_WTBL_EPOCH p)).toNat

/-- The entry of a pair, or a free one; none when all 32 are in use (R352). -/
def Hub.wEntry (h : Hub) (pair : Nat) : Option Nat :=
  match (List.range 32).find? fun p => h.wUsed p && h.wPair p = pair with
  | some p => some p
  | none => (List.range 32).find? fun p => !h.wUsed p

/-- The lease end of an entry that has a holder whose lease runs at `t`. -/
def Hub.wRuns (h : Hub) (p t : Nat) : Bool := match SMap.find h.sel.wEnd p with
  | some e => h.wUsed p && decide (t < e)
  | none => false

/-- Sets an entry: pair, holder, epoch and lease end. -/
def Hub.wSet (h : Hub) (p pair holder epoch : Nat) (endT : Nat) : Hub :=
  let h := h.wr (Addr.SEL_WTBL_PAIR p) (wd (pair + 65536 * holder + 2 ^ 31))
  let h := h.wr (Addr.SEL_WTBL_EPOCH p) (wd epoch)
  let h := h.wr (Addr.SEL_WTBL_END_NS p) (wd (endT / nsU % 1000000000))
  let h := h.wr (Addr.SEL_WTBL_END_SEC p) (wd (endT / secU))
  { h with sel.wEnd := SMap.put h.sel.wEnd p endT }

/-- A frame of the warden about a pair: its head carries that pair (R365). -/
def Hub.wSend (h : Hub) (t pos pair msg : Nat) (body : List Word) : Hub :=
  let (hd, h) := h.selHead t msg
  let hd := hd.set 0 (putBits (hd.getD 0 0#32) 16 16 pair)
  h.originate t { type := tSELAIL, addr := aPOS, dst := pos, payload := hd ++ body }

/-- GRANT (R356, R365). -/
def Hub.wGrant (h : Hub) (t pos pair endT epoch : Nat) (new hand : Bool) (fh : Nat) : Hub :=
  h.wSend t pos pair mGRANT (instWords endT ++ [wd epoch, wd (new.toNat + 2 * hand.toNat)] ++ instWords fh)

def Hub.wDeny (h : Hub) (t pos pair why : Nat) : Hub := h.wSend t pos pair mDENY [wd why]

/-- A new holder (R356): the epoch rises above the entry's, the claimant's and the last renewed one. -/
def Hub.wNewHolder (h : Hub) (t p : Nat) (c : HeldClaim) : Hub :=
  let old := if h.wUsed p then h.wEpoch p else 0
  let e := max old c.epoch + 1
  let h := h.wSet p c.pair c.pos e (t + 4 * msU)
  let h := { h with sel.claims := h.sel.claims.filter (fun x => x.pair ≠ c.pair), sel.wCut := h.sel.wCut.filter fun x => x.1 ≠ p }
  h.wGrant t c.pos c.pair (t + 4 * msU) e true false 0

/-- The warden's answer to a claim (R352, R356). -/
def Hub.wClaim (h : Hub) (t : Nat) (c : HeldClaim) : Hub :=
  let hold (h : Hub) : Hub :=
    { h with sel.claims := h.sel.claims.filter (fun x => !(x.pair = c.pair && x.pos = c.pos)) ++ [c] }
  match h.wEntry c.pair with
  | none => h.wDeny t c.pos c.pair 2
  | some p =>
    if h.sel.holdStart then hold h
    else if !h.wRuns p t then h.wNewHolder t p c
    else if c.revert then hold h
    else (hold h).wDeny t c.pos c.pair 3

/-- The pair a frame names in its head. -/
def Frame.selPair (f : Frame) : Nat := bitsOf (f.payload.getD 0 0#32) 16 16

/-- CLAIM (R356). -/
def claimArrive (r : Nat) (f : Frame) (h : Hub) : Hub :=
  if !h.bit Addr.SEL_CFG 19 then h
  else h.wClaim (h.timeAt r) { pair := f.selPair, pos := f.src, epoch := (f.payload.getD 1 0#32).toNat,
                               revert := (f.payload.getD 6 0#32).getLsbD 0 }

/-- The holder of a pair's entry has renewed: a claim held to its lease end is not granted (R356); one with REVERT stays. -/
def Hub.wRenewed (h : Hub) (pair : Nat) : Hub :=
  { h with sel.claims := h.sel.claims.filter fun c => !(c.pair = pair && !c.revert) }

/-- RENEW (R353, R356): the holder's lease is extended, to no later than a handover's F_h; an entry without a holder takes the
sender; any other sender is denied. -/
def renewArrive (r : Nat) (f : Frame) (h : Hub) : Hub :=
  if !h.bit Addr.SEL_CFG 19 then h
  else
    let t := h.timeAt r
    let ep := (f.payload.getD 1 0#32).toNat
    match h.wEntry f.selPair with
    | none => h.wDeny t f.src f.selPair 2
    | some p =>
      let free := !h.wUsed p || (SMap.find h.sel.wEnd p).isNone
      let cut := SMap.find h.sel.wCut p
      match cut with
      | some (who, e, fh) =>
        if t < fh then
          if f.src = h.wHolder p then
            let endT := min (t + 4 * msU) fh
            ((h.wRenewed f.selPair).wSet p f.selPair f.src (max (h.wEpoch p) ep) endT).wGrant t f.src f.selPair endT (max (h.wEpoch p) ep) false false 0
          else h.wDeny t f.src f.selPair 1
        else if f.src = who then
          let h := { h.wRenewed f.selPair with sel.wCut := h.sel.wCut.filter fun x => x.1 ≠ p }
          (h.wSet p f.selPair who (max e ep) (t + 4 * msU)).wGrant t who f.selPair (t + 4 * msU) (max e ep) false false 0
        else h.wDeny t f.src f.selPair 1
      | none =>
        if free || f.src = h.wHolder p then
          let e := max (if h.wUsed p then h.wEpoch p else 0) ep
          ((h.wRenewed f.selPair).wSet p f.selPair f.src e (t + 4 * msU)).wGrant t f.src f.selPair (t + 4 * msU) e false false 0
        else h.wDeny t f.src f.selPair 1

/-- Held claims whose holder's lease has ended are granted, oldest first (R356). -/
def Hub.wGrantDue (h : Hub) (t : Nat) : Hub :=
  forIn' h.sel.claims (fun c h =>
    if h.sel.claims.contains c then
      match (List.range 32).find? fun p => h.wUsed p && h.wPair p = c.pair with
      | some p => if h.wRuns p t || (SMap.find h.sel.wCut p).isSome then h else h.wNewHolder t p c
      | none => h
    else h) h

/-- WARDEN_LEASE_EXPIRY (R356). -/
def wardenLeaseExpiry (r : Nat) (h : Hub) : Hub :=
  if h.bit Addr.SEL_CFG 19 && !h.sel.holdStart then h.wGrantDue (h.timeAt r) else h

/-- WARDEN_STARTUP_HOLD_END (R356): the claims held since the warden's hub reset are answered. -/
def wardenStartupHoldEnd (r : Nat) (h : Hub) : Hub :=
  if !h.sel.holdStart then h
  else
    let cs := h.sel.claims
    forIn' cs (fun c h => h.wClaim (h.timeAt r) c) { h with sel.holdStart := false, sel.claims := [] }

/-- RELINQUISH (R355, R356): at the warden the entry has no holder any more; at the peer, the active hub has failed. -/
def relinquishArrive (r : Nat) (f : Frame) (h : Hub) : Hub :=
  if h.fromPeer f then { h with sel.lastHb := some r, sel.misses := 0 }.peerRelinquish r
  else if h.bit Addr.SEL_CFG 19 then
    match (List.range 32).find? fun p => h.wUsed p && h.wPair p = f.selPair && h.wHolder p = f.src with
    | some p =>
      let h := (h.wr (Addr.SEL_WTBL_END_NS p) 0#32).wr (Addr.SEL_WTBL_END_SEC p) 0#32
      let h := { h with sel.wEnd := h.sel.wEnd.filter (fun x => x.1 ≠ p), sel.wCut := h.sel.wCut.filter fun x => x.1 ≠ p }
      if h.sel.holdStart then h else h.wGrantDue (h.timeAt r)
    | none => h
  else h

/-! ### Planned handover (R366) -/

/-- The claimant's PROPOSE: CLAIM with REVERT to the warden and PROPOSE to the peer. A handover needs both hubs LOCKED. -/
def Hub.propose (h : Hub) (r : Nat) : Hub :=
  let t := h.timeAt r
  let h := { h with sel.hand := some { claimant := true }, sel.retry := false }
  let h := if h.pinWarden then h else h.selTo t h.wardenPos mCLAIM false [1#32]
  h.selPeer t mHANDOVER false (instWords 0 ++ [0#32])

/-- Both hubs LOCKED (R366). -/
def Hub.bothLocked (h : Hub) : Bool := h.timeState = 1 && h.bit Addr.SEL_STATUS 9

/-- REVERT_HOLD_ELAPSED (R366): a PRIMARY in STANDBY, healthy for REVERT_HOLD. -/
def revertHoldElapsed (r : Nat) (h : Hub) : Hub :=
  let held := match h.sel.healthySince with
    | some s => decide (s + h.fld Addr.SEL_TIMING 0 8 * 1000 * msU ≤ r)
    | none => false
  if h.bit Addr.SEL_CFG 21 && h.isPrimary && h.selState = selSTANDBY && h.health r = 31 && held && h.bothLocked &&
      h.sel.hand.isNone && h.mayClaim r then
    h.propose r
  else h

/-- Content packets that hold an element are sealed (R366). -/
def Hub.sealContent (h : Hub) (t : Nat) : Hub :=
  forN 1024 (fun s h => match (h.stream s).opn with
    | some p => if p.kind = .record || p.kind = .streamcap || p.kind = .event then h.seal t s else h
    | none => h) h

/-- The active hub accepts: F_h is the first frame boundary at least 20 ms ahead. -/
def Hub.accept (h : Hub) (r : Nat) : Hub :=
  let t := h.timeAt r
  let fh := (t + 20 * msU + frameU - 1) / frameU * frameU
  let h := { h.sealContent t with sel.hand := some { claimant := false, fh := some fh } }
  let h := if h.pinWarden then h else h.selTo t h.wardenPos mHANDOVER false (instWords fh ++ [1#32])
  h.selPeer t mHANDOVER false (instWords fh ++ [1#32])

/-- HANDOVER_PROPOSE (R366): the active hub accepts; a standby whose peer steps down proposes itself. -/
def handoverPropose (r : Nat) (f : Frame) (h : Hub) : Hub :=
  if !h.fromPeer f || !h.bothLocked then h
  else if h.selState = selACTIVE then h.accept r
  else if h.selState = selSTANDBY && h.sel.hand.isNone && h.mayClaim r then h.propose r
  else h

/-- The claimant holds ACCEPT's F_h and the grant: it confirms. -/
def Hub.confirmReady (h : Hub) (r : Nat) : Hub :=
  match h.sel.hand with
  | some x =>
    match x.fh, x.granted with
    | some fh, some _ =>
      if x.claimant && !x.confirmed then
        { h with sel.hand := some { x with confirmed := true } }.selPeer (h.timeAt r) mHANDOVER false (instWords fh ++ [2#32])
      else h
    | _, _ => h
  | none => h

/-- The claim of a handover that the warden holds is granted with F_h, and the holder's lease cut to it (R366). -/
def Hub.wHandover (h : Hub) (t : Nat) (f : Frame) : Hub :=
  let fh := instOf (f.payload.getD 6 0#32) (f.payload.getD 7 0#32) (f.payload.getD 8 0#32)
  match (List.range 32).find? (fun p => h.wUsed p && h.wPair p = f.selPair && h.wHolder p = f.src),
      h.sel.claims.find? (fun c => c.pair = f.selPair && c.revert) with
  | some p, some c =>
    let e := max (h.wEpoch p) c.epoch + 1
    let h := { h with sel.claims := h.sel.claims.filter (fun x => x.pair ≠ c.pair), sel.wCut := SMap.put h.sel.wCut p (c.pos, e, fh) }
    let endT := min fh (match SMap.find h.sel.wEnd p with | some x => x | none => fh)
    let h := h.wSet p c.pair (h.wHolder p) (h.wEpoch p) endT
    h.wGrant t c.pos c.pair (fh + 4 * msU) e true true fh
  | _, _ => h

/-- HANDOVER_ACCEPT (R366): F_h reaches the claimant, or the warden. -/
def handoverAccept (r : Nat) (f : Frame) (h : Hub) : Hub :=
  let fh := instOf (f.payload.getD 6 0#32) (f.payload.getD 7 0#32) (f.payload.getD 8 0#32)
  if h.fromPeer f then
    match h.sel.hand with
    | some x =>
      if !x.claimant then h
      else
        -- under an external arbiter no warden grants: the claim epoch rises as in R359
        let granted := if h.pinWarden then some (max (h.rd Addr.SEL_EPOCH).toNat h.sel.peerEpoch + 1) else x.granted
        { h with sel.hand := some { x with fh := some fh, granted := granted } }.confirmReady r
    | none => h
  else if h.bit Addr.SEL_CFG 19 then h.wHandover (h.timeAt r) f
  else h

/-- GRANT (R354, R356, R366). -/
def grantArrive (r : Nat) (f : Frame) (h : Hub) : Hub :=
  if !h.paired || f.selPair ≠ h.pairId then h
  else
    let w (k : Nat) : Word := f.payload.getD k 0#32
    let endT := instOf (w 6) (w 7) (w 8)
    let epoch := (w 9).toNat
    if h.selState = selACTIVE then { h with sel.leaseWarden := some endT }.showLease
    else if (w 10).getLsbD 1 then
      match h.sel.hand with
      | some x =>
        if x.claimant then
          { h with sel.hand := some { x with granted := some epoch, fh := some (instOf (w 11) (w 12) (w 13)) },
                   sel.leaseWarden := some endT }.confirmReady r
        else h
      | none => h
    else if h.selState = selCLAIMING then
      { h with sel.grant := some (h.timeAt r, epoch), sel.leaseWarden := some endT }.showLease
    else h

/-- HANDOVER_CONFIRM (R366): the active hub confirms in its turn. -/
def handoverConfirm (r : Nat) (f : Frame) (h : Hub) : Hub :=
  if !h.fromPeer f then h
  else match h.sel.hand with
    | some x =>
      match x.fh with
      | some fh =>
        if x.claimant then { h with sel.hand := some { x with peerConfirmed := true } }
        else if x.confirmed then { h with sel.hand := some { x with peerConfirmed := true } }
        else { h with sel.hand := some { x with peerConfirmed := true, confirmed := true } }.selPeer (h.timeAt r) mHANDOVER false
          (instWords fh ++ [2#32])
      | none => h
    | none => h

/-- The handover is given up; its claimant tries again after 1 s. -/
def Hub.abandon (h : Hub) (r : Nat) : Hub :=
  match h.sel.hand with
  | some x => { h with sel.hand := none, sel.retry := x.claimant, sel.abandonedAt := r }
  | none => h

/-- HANDOVER_CANCEL (R366): at the peer the handover is abandoned; at the warden the lease is no longer cut. -/
def handoverCancel (r : Nat) (f : Frame) (h : Hub) : Hub :=
  if h.fromPeer f then h.abandon r
  else
    { h with sel.claims := h.sel.claims.filter (fun c => !(c.pair = f.selPair && c.revert)),
             sel.wCut := h.sel.wCut.filter fun x => h.wPair x.1 ≠ f.selPair }

/-- CANCEL goes to the warden and the peer, and the handover is given up (R366). -/
def Hub.cancelHandover (h : Hub) (r : Nat) : Hub :=
  match h.sel.hand with
  | some x =>
    let t := h.timeAt r
    let body := instWords (x.fh.getD 0) ++ [3#32]
    let h := if h.pinWarden then h else h.selTo t h.wardenPos mHANDOVER false body
    (h.selPeer t mHANDOVER false body).abandon r
  | none => h

/-- HANDOVER_CONFIRM_TIMEOUT (R366): unconfirmed at F_h - 5 ms. -/
def handoverConfirmTimeout (r : Nat) (h : Hub) : Hub :=
  match h.sel.hand with
  | some x =>
    let t := h.timeAt r
    let due := match x.fh with
      | some fh => decide (fh ≤ t + 5 * msU)
      | none => true
    if due && !(x.confirmed && x.peerConfirmed) then h.cancelHandover r else h
  | none => h

/-- HANDOVER_RETRY (R366): 1 s after the handover was abandoned. -/
def handoverRetry (r : Nat) (h : Hub) : Hub :=
  if h.sel.retry && decide (h.sel.abandonedAt + 1000 * msU ≤ r) then
    if h.selState = selSTANDBY && h.bothLocked && h.sel.hand.isNone && h.mayClaim r then h.propose r
    else { h with sel.retry := false }
  else h

/-- HANDOVER_FRAME (R366): at F_h the old active hub becomes STANDBY, the new one is promoted. -/
def handoverFrame (r : Nat) (h : Hub) : Hub :=
  match h.sel.hand with
  | some x =>
    match x.fh with
    | some fh =>
      if fh ≤ h.timeAt r && x.confirmed && x.peerConfirmed then
        if x.claimant then
          match x.granted with
          | some e => if h.selState = selSTANDBY then h.promote (frameOf (h.timeAt r)) e else h
          | none => h
        else if h.selState = selACTIVE then
          ({ h with sel.hand := none, sel.leaseWarden := none, sel.leasePeer := none }.stopActing.toShadow.setSel
            selSTANDBY).notePart h (frameOf (h.timeAt r) * frameU)
        else h
      else h
    | none => h
  | none => h

/-! ### Registers (R348, R352, R368) -/

/-- A write of `SEL_CFG`: PAIRED begins in STANDBY; PAIRED := 0 unpairs (R348, the table of R359). -/
def selCfgStore (r m : Nat) (v : Word) (h : Hub) : Hub :=
  if !h.setupMode then h.refuse r m Addr.SEL_CFG ESTATE
  else
    let h0 := h
    let f := frameCeil (h.timeAt r)
    let h := h.wr Addr.SEL_CFG (v &&& 0x3FFFFF#32)
    if h.paired && !h0.paired then
      let h := { h with sel := { h.sel with idleAt := r, lastHb := none, lastActHb := none, misses := 0, healthySince := none } }
      (h.stopActing.setSel selSTANDBY).notePart h0 (f * frameU)
    else if !h.paired && h0.paired then
      let h := { h with sel := { h.sel.released with promise := none } }
      (forN 16 (fun n h => h.excActivate n f) (h.setSel selUNPAIRED)).noteTwin h0 (f * frameU)
    else h

def selWardenStore (r m : Nat) (v : Word) (h : Hub) : Hub :=
  if !h.setupMode then h.refuse r m Addr.SEL_WARDEN ESTATE
  else if bitsOf v 0 6 = h.hubPos || bitsOf v 0 6 = bitsOf v 8 6 then h.refuse r m Addr.SEL_WARDEN ERANGE
  else h.wr Addr.SEL_WARDEN (v &&& 0x3F3F#32)

/-- `ARB_GRANT` shows the level of ARB_GRANT_IN (R368). -/
def Hub.showGrant (h : Hub) : Hub := h.setBit Addr.SEL_STATUS 17 h.pins.arbGrantIn

def selTimingStore (r m : Nat) (v : Word) (h : Hub) : Hub :=
  if !h.setupMode then h.refuse r m Addr.SEL_TIMING ESTATE
  else if bitsOf v 0 8 = 0 || bitsOf v 8 6 = 0 || bitsOf v 16 16 = 0 || decide (60 < bitsOf v 8 6) then
    h.refuse r m Addr.SEL_TIMING ERANGE
  else h.wr Addr.SEL_TIMING (v &&& 0xFFFF3FFF#32)

def selFaultMaskStore (r m : Nat) (v : Word) (h : Hub) : Hub :=
  if !h.setupMode then h.refuse r m Addr.SEL_FAULT_MASK ESTATE else h.wr Addr.SEL_FAULT_MASK (v &&& 3#32)

end Sys2Proof.Machine
end

