-- ==== Sys2Proof/Machine/Mirror.lean ====
section
/-!
DEFINITION. Mirroring from the active hub to the standby (R252, R309, R362 to R364, R366): LEDGER_M, CONTEXT, HISTOGRAM,
THRESHOLDS and CAPTURE, and the MIRROR instruction.
-/

namespace Sys2Proof.Machine

/-- Pieces of at most `n` elements; `fuel` bounds them. -/
def chunks {α : Type} (n : Nat) : Nat → List α → List (List α)
  | 0, _ => []
  | fuel + 1, l => if l.length ≤ n then [l] else l.take n :: chunks n fuel (l.drop n)

/-- The pieces of a list with the last marked. -/
def markLast {α : Type} : List α → List (α × Bool)
  | [] => []
  | [x] => [(x, true)]
  | x :: xs => (x, false) :: markLast xs

/-- The hub mirrors: ACTIVE in a pair (R362). -/
def Hub.mirrors (h : Hub) : Bool := h.paired && h.selState = selACTIVE

/-- The MIRROR region's base, and its half size (R40, R206, R363). -/
def Hub.mirrorBase (h : Hub) : Nat := (h.rd Addr.SYS_DOME_MIRROR_BASE).toNat
def Hub.mirrorHalf (h : Hub) : Nat := h.fld Addr.SYS_DOME_MIRROR_SIZE 0 10 * 0x10000 / 2

/-- A set given up is counted (R363). -/
def Hub.setLost (h : Hub) (n : Nat) : Hub := h.incSat Addr.SEL_MIRROR_LOST_CNT 0 16 n

/-! ### LEDGER_M (R309, R362, R363) -/

/-- NEXT and next produced of every enabled stream, taken at `tm`. -/
def Hub.sendLedgerM (h : Hub) (t tm : Nat) : Hub :=
  let es := ((List.range 1024).filter h.streamLive).map fun s => (s, (h.stream s).ack, (h.stream s).prod)
  let item (e : Nat × Nat × Nat) : List Word :=
    [wd (e.1 + 65536 * (e.2.1 / 2 ^ 32 % 65536)), wd e.2.1, wd e.2.2, wd (e.2.2 / 2 ^ 32 % 65536)]
  forIn' (markLast (chunks 125 (es.length + 1) es)) (fun p h =>
    h.selPeer t mLEDGERM true (instWords tm ++ [wd (p.1.length + (if p.2 then 65536 else 0))] ++ p.1.flatMap item)) h

/-- LEDGER_M_SEND. -/
def ledgerMSend (r : Nat) (h : Hub) : Hub :=
  if h.mirrors then h.sendLedgerM (h.timeAt r) (h.timeAt r) else h

/-- HANDOVER_SEND_STOP (R366): from F_h - 5 µs no Ledger frame starts, and a final set goes with t_m = F_h. -/
def handoverSendStop (r : Nat) (h : Hub) : Hub :=
  match h.sel.hand with
  | some x =>
    match x.fh with
    | some fh =>
      if h.mirrors && !x.claimant && x.confirmed && x.peerConfirmed && !x.closed && decide (fh ≤ h.timeAt r + 5000 * nsU) then
        { h with sel.hand := some { x with closed := true } }.sendLedgerM (h.timeAt r) fh
      else h
    | none => h
  | none => h

/-- A complete set is applied at one instant (R309, R363). -/
def Hub.applyLedgerM (h : Hub) (tm : Nat) (es : List (Nat × Nat × Nat)) : Hub :=
  forIn' es (fun e h =>
    (h.modStream e.1 fun s => { s with mirNext := e.2.1, mirProd := e.2.2 }).acknowledge e.1 e.2.1)
    { h with led.tm := some tm, sel.setM := none }

/-- A set names every enabled stream of this hub (R362). -/
def Hub.wholeSet (h : Hub) (es : List (Nat × Nat × Nat)) : Bool :=
  (List.range 1024).all fun s => !h.streamLive s || es.any fun e => e.1 = s

/-- LEDGER_M (R363): frames of one set carry one t_m; a set that is incomplete when its LAST arrives or the next begins is
discarded and counted. -/
def ledgerM (f : Frame) (h : Hub) : Hub :=
  if !h.fromPeer f || h.selState = selACTIVE then h
  else
    let w (k : Nat) : Word := f.payload.getD k 0#32
    let tm := instOf (w 6) (w 7) (w 8)
    let es := (List.range (bitsOf (w 9) 0 16)).map fun i =>
      let b := 10 + 4 * i
      (bitsOf (w b) 0 10, 2 ^ 32 * bitsOf (w b) 16 16 + (w (b + 1)).toNat, (w (b + 2)).toNat + 2 ^ 32 * bitsOf (w (b + 3)) 0 16)
    let (old, h) : List (Nat × Nat × Nat) × Hub := match h.sel.setM with
      | some (t0, l) => if t0 = tm then (l, h) else ([], h.setLost 1)
      | none => ([], h)
    let all := old ++ es
    if !(w 9).getLsbD 16 then { h with sel.setM := some (tm, all) }
    else if h.wholeSet all then h.applyLedgerM tm all
    else { h with sel.setM := none }.setLost 1

/-! ### CONTEXT (R252, R362, R363) -/

/-- The CONTEXT entry of a context in MIRROR_MAP: masks of g, w and q (R206). -/
def Hub.ctxEntry (h : Hub) (c : Nat) : Option (Nat × Nat × Nat) :=
  h.sys.plan.mirror.findSome? fun e => match e with
    | .context c' g w q => if c' = c then some (g, w, q) else none
    | _ => none

def maskBits (n m : Nat) : List Nat := (List.range n).filter m.testBit

/-- The registers an entry names, copied in one cycle. -/
def Hub.takeCopy (h : Hub) (c g w q : Nat) : CtxCopy :=
  { g := (maskBits 16 g).map fun k => (k, h.g c k), w := (maskBits 4 w).map fun k => (k, (h.w c k).toNat),
    q := (maskBits 4 q).map fun k => (k, h.q c k) }

/-- The body of a CONTEXT message (R365). -/
def CtxCopy.body (k : CtxCopy) (c : Nat) : List Word :=
  let mask (l : List Nat) : Nat := l.foldl (fun m i => m ||| 2 ^ i) 0
  [wd (c + 65536 * mask (k.g.map Prod.fst)),
   wd (mask (k.w.map Prod.fst) + 16 * mask (k.q.map Prod.fst) + 256 * mask ((k.q.filter Prod.snd).map Prod.fst))] ++
  k.g.map Prod.snd ++ k.w.flatMap fun p => [wd p.2, wd (p.2 / 2 ^ 32), wd (p.2 / 2 ^ 64 % 65536)]

/-- A frame is a CONTEXT copy of context `c`. -/
def Frame.isCopy (f : Frame) (c : Nat) : Bool :=
  f.type = tSELAILBULK && bitsOf (f.payload.getD 0 0#32) 0 8 = mCONTEXT && bitsOf (f.payload.getD 6 0#32) 0 8 = c

/-- A copy is queued for the twin; one still unsent, on the TWIN lane or waiting for a fallback slot, is replaced and counted
(R252, R362). -/
def Hub.queueCopy (h : Hub) (t c : Nat) (k : CtxCopy) : Hub :=
  let h := if (SMap.find h.sel.waiting c).isSome then h.incSat Addr.SEL_MIRROR_REPL_CNT 0 16 1 else h
  match h.twinPath with
  | some l =>
    let old := ((h.lane l).txq.filter fun x => x.frame.isCopy c).length
    let h := { h.modLane l fun y => { y with txq := y.txq.filter fun x => !x.frame.isCopy c } with
               sel.waiting := h.sel.waiting.filter fun p => p.1 ≠ c }
    (h.incSat Addr.SEL_MIRROR_REPL_CNT 0 16 old).selPeer t mCONTEXT true (k.body c)
  | none => { h with sel.waiting := SMap.put h.sel.waiting c k }

/-- MIRROR (R252): on a hub in STANDBY it does nothing; without an entry it faults; an unpaired hub has no twin. -/
def mirrorI (r c : Nat) (h : Hub) : Hub :=
  let e := if h.standby then none else h.ctxEntry c
  let u : Uses := match e with
    | some (g, w, q) => { g := maskBits 16 g, w := maskBits 4 w, q := maskBits 4 q }
    | none => {}
  h.issue r c 2 u fun h =>
    if h.standby then { hub := h }
    else match e with
      | none => { hub := h, fault := some (ESTATE, false) }
      | some (g, w, q) => { hub := if h.mirrors then h.queueCopy (h.timeAt r) c (h.takeCopy c g w q) else h }

/-- CONTEXT_FALLBACK_SLOT (R362): the waiting copy of context `c` is sent on the ring, 10 ms or more after the last one. -/
def contextFallbackSlot (r c : Nat) (h : Hub) : Hub :=
  let free := match SMap.find h.sel.slotAt c with
    | some s => decide (s + 10 * msU ≤ r)
    | none => true
  match free, SMap.find h.sel.waiting c with
  | true, some k =>
    let h := { h with sel.waiting := h.sel.waiting.filter fun p => p.1 ≠ c }
    if h.mirrors then
      { h with sel.slotAt := SMap.put h.sel.slotAt c r }.selPeer (h.timeAt r) mCONTEXT true (k.body c)
    else h
  | _, _ => h

/-- CONTEXT (R363): the copy waits for the context's activation boundary; in WAIT it is written at once. -/
def contextMirror (f : Frame) (h : Hub) : Hub :=
  if !h.fromPeer f || h.selState = selACTIVE then h
  else
    let w (k : Nat) : Word := f.payload.getD k 0#32
    let c := bitsOf (w 6) 0 8
    let gs := maskBits 16 (bitsOf (w 6) 16 16)
    let ws := maskBits 4 (bitsOf (w 7) 0 4)
    let b := 8 + gs.length
    let k : CtxCopy :=
      { g := gs.zipIdx.map fun p => (p.1, w (8 + p.2)),
        w := ws.zipIdx.map fun p =>
          (p.1, (w (b + 3 * p.2)).toNat + 2 ^ 32 * (w (b + 3 * p.2 + 1)).toNat + 2 ^ 64 * bitsOf (w (b + 3 * p.2 + 2)) 0 16),
        q := (maskBits 4 (bitsOf (w 7) 4 4)).map fun i => (i, (bitsOf (w 7) 8 4).testBit i) }
    let h : Hub := { h with sel.copies := SMap.put h.sel.copies c k }
    if (h.ctx c).st = .wait then h.applyCopy c else h

/-! ### HISTOGRAM (R362, R363) -/

/-- The HISTOGRAM entries: map index, DATA address, length, offset in the MIRROR region. -/
def histEntries : Nat → Nat → List MirrorEntry → List (Nat × Nat × Nat × Nat)
  | _, _, [] => []
  | i, o, .histogram a n :: es => (i, a, n, o) :: histEntries (i + 1) (o + n) es
  | i, o, _ :: es => histEntries (i + 1) o es

def Hub.histMap (h : Hub) : List (Nat × Nat × Nat × Nat) := histEntries 0 0 h.sys.plan.mirror

/-- HISTOGRAM_SEND: the 8-byte words that differ from the values last sent, which the first half of MIRROR keeps. -/
def histogramSend (r : Nat) (h : Hub) : Hub :=
  if !h.mirrors then h
  else
    let per := h.sel.histPeriod
    let h := { h with sel.histPeriod := (per + 1) % 2 ^ 32 }
    let changed (e : Nat × Nat × Nat × Nat) : List (Nat × Nat × Nat) :=
      ((List.range (e.2.2.1 / 8)).filter fun i =>
        h.domeRead (e.2.1 + 8 * i) 8 ≠ h.domeRead (h.mirrorBase + e.2.2.2 + 8 * i) 8).map fun i =>
          (8 * i, h.domeRead (e.2.1 + 8 * i) 8, e.2.2.2)
    let parts := h.histMap.flatMap fun e =>
      let l := changed e
      (chunks 167 (l.length + 1) l).map fun p => (e.1, p)
    forIn' (markLast parts) (fun p h =>
      let body := [wd p.1.1, wd (p.1.2.length + (if p.2 then 65536 else 0)), wd per] ++
        p.1.2.flatMap fun x => [wd x.1, wd x.2.1, wd (x.2.1 / 2 ^ 32)]
      let h := h.selPeer (h.timeAt r) mHISTOGRAM true body
      forIn' p.1.2 (fun x h => h.domeWrite (h.mirrorBase + x.2.2 + x.1) 8 x.2.1) h) h

/-- HISTOGRAM (R363): words go to the first half of MIRROR; with LAST they are copied to DATA, each one store. A set a frame
is missing from, between two of its own or before its first, is discarded and counted (log entry 56). -/
def histogramMirror (f : Frame) (h : Hub) : Hub :=
  if !h.fromPeer f || h.selState = selACTIVE then h
  else
    let w (k : Nat) : Word := f.payload.getD k 0#32
    let per := (w 8).toNat
    let seq := (w 5).toNat
    let follows := h.sel.histSeq.all fun q => seq = (q + 1) % 2 ^ 32
    let (old, broken, h) : List (Nat × Nat) × Bool × Hub := match h.sel.hist with
      | some (p, l) => if p = per then (l, h.sel.histBad, h) else ([], false, h.setLost 1)
      | none => ([], false, h)
    let bad := broken || !follows
    let h := { h with sel.histSeq := some seq, sel.histBad := bad }
    match h.histMap.find? fun e => e.1 = (w 6).toNat with
    | none => h
    | some e =>
      let items := (List.range (bitsOf (w 7) 0 16)).filterMap fun i =>
        let o := (w (9 + 3 * i)).toNat
        if o + 8 ≤ e.2.2.1 then some (o, (w (10 + 3 * i)).toNat + 2 ^ 32 * (w (11 + 3 * i)).toNat) else none
      let h := forIn' items (fun x h => h.domeWrite (h.mirrorBase + e.2.2.2 + x.1) 8 x.2) h
      let all := old ++ items.map fun x => (e.2.1 + x.1, x.2)
      if !(w 7).getLsbD 16 then { h with sel.hist := some (per, all) }
      else if bad then { h with sel.hist := none }.setLost 1
      else forIn' all (fun x h => h.domeWrite x.1 8 x.2) { h with sel.hist := none }

/-! ### THRESHOLDS (R362, R363, R367) -/

/-- THRESHOLDS_SEND: B and N of each channel in 1/65536 code (log entry 6); in version 1 the entries only count. -/
def thresholdsSend (r : Nat) (h : Hub) : Hub :=
  if !h.mirrors then h
  else forIn' h.sys.plan.mirror (fun e h => match e with
    | .thresholds first count =>
      if h.sver = 1 then h.setLost 1
      else forIn' (chunks 252 (count + 1) ((List.range count).map fun i => first + i)) (fun gs h =>
        let bn (g : Nat) : List Word := [wdInt ((h.chan g).sen.base.getD 0), wdInt (h.chan g).sen.noise]
        h.selPeer (h.timeAt r) mTHRESHOLDS true ([wd (gs.headD 0), wd gs.length] ++ gs.flatMap bn)) h
    | _ => h) h

/-- THRESHOLDS (R363): loaded at each channel's next QUIET sample. -/
def thresholdsMirror (f : Frame) (h : Hub) : Hub :=
  if !h.fromPeer f || h.selState = selACTIVE then h
  else
    let w (k : Nat) : Word := f.payload.getD k 0#32
    forN (min 252 (w 7).toNat) (fun i h =>
      let g := (w 6).toNat + i
      if g < 512 then h.modSen g fun s => { s with loaded := some ((w (8 + 2 * i)).toInt, (w (9 + 2 * i)).toInt) } else h) h

/-! ### CAPTURE (R362, R363, R367) -/

/-- A complete record of a CAPTURE unit goes to the standby by the TWIN lane; never on the ring, nor in version 1, where it
counts. -/
def Hub.sendCapture (h : Hub) (t u slot seq : Nat) : Hub :=
  let named := h.sys.plan.mirror.any fun e => match e with
    | .capture m => m.testBit u
    | _ => false
  if !(named && h.mirrors) then h
  else if h.sver = 1 then h.setLost 1
  else if h.twinPath.isNone then h
  else
    let n := h.recBytes u
    let ws := (List.range (n / 4)).map fun i => h.domeWord (h.slotAddr u slot + 4 * i)
    let parts := (chunks 500 (ws.length + 1) ws).zipIdx
    forIn' (markLast parts) (fun p h =>
      h.selPeer t mCAPTURE true ([wd (u + 256 * (p.1.2 % 256) + (if p.2 then 65536 else 0)), wd seq] ++ p.1.1)) h

/-- RECORD_MEASURED (R277, R362): the oldest closed record is measured and, where its unit is mirrored, sent. -/
def recordComplete (r : Nat) (h : Hub) : Hub :=
  match h.cape.measQ with
  | (u, s) :: _ =>
    if (h.unit u).recs.any fun q => q.slot = s && q.st = .closed then
      (recordMeasured r h).sendCapture (h.timeAt r) u s (h.rd (Addr.CAP_SEQ u)).toNat
    else recordMeasured r h
  | [] => h

/-- A part of a CAPTURE record has been missed. -/
def capLOST : Nat := 256

/-- CAPTURE (R363): parts in order; a complete record goes into the ring in the second half of MIRROR. A record a part is
missing from is discarded and counted once. -/
def captureMirror (f : Frame) (h : Hub) : Hub :=
  if !h.fromPeer f || h.selState = selACTIVE then h
  else
    let w (k : Nat) : Word := f.payload.getD k 0#32
    let u := bitsOf (w 6) 0 5
    let part := bitsOf (w 6) 8 8
    let seq := (w 7).toNat
    let x := SMap.find h.sel.capParts u
    let fits := x.any fun y => y.1 = part && y.2.1 = seq
    let sameRec := x.any fun y => y.2.1 = seq
    let openLost := x.any (fun y => y.1 ≠ capLOST) && !fits
    let newLost := part ≠ 0 && !sameRec
    let h := (h.setLost (openLost.toNat + newLost.toNat) : Hub)
    let old : Option (List Word) := if fits then x.map fun y => y.2.2 else if part = 0 then some [] else none
    let keep (h : Hub) (y : Nat × Nat × List Word) : Hub := { h with sel.capParts := SMap.put h.sel.capParts u y }
    if (w 6).getLsbD 16 then
      let h := { h with sel.capParts := h.sel.capParts.filter fun p => p.1 ≠ u }
      match old with
      | none => h
      | some l =>
        let all := l ++ f.payload.drop 8
        let n := 4 * all.length
        let o := if h.mirrorHalf < h.sel.capPos + n then 0 else h.sel.capPos
        if h.mirrorHalf < n then h
        else { h with sel.capPos := o + n }.domeBytes (h.mirrorBase + h.mirrorHalf + o) (wordBytes all)
    else match old with
      | none => keep h (capLOST, seq, [])
      | some l => keep h ((part + 1) % 256, seq, l ++ f.payload.drop 8)

/-! ### Paths (R364) -/

/-- MIRROR_PATH_RETURN: 100 ms after the TWIN lane re-entered ACTIVE. -/
def mirrorPathReturn (r : Nat) (h : Hub) : Hub :=
  match h.activeLane rTWIN with
  | some l => if (h.lane l).activeAt + 100 * msU ≤ r then h.setBit Addr.SEL_STATUS 13 false else h
  | none => h

end Sys2Proof.Machine
end

