-- ==== Sys2Proof/Machine/Alarm.lean ====
section
/-!
DEFINITION. The firing of alarms and its actions (R192 to R196), servo commits taking effect (R174, R196), the coordinated
start and the stop frame (R417, R418).
-/

namespace Sys2Proof.Machine

/-! ### Start (R417) -/

/-- A channel at the epoch: no raw sample before it exists (R133); its detector begins as after a commit. -/
def Hub.startChan (h : Hub) (e g : Nat) : Hub :=
  let n := g / 32
  let c := g % 32
  let h := h.modChan g fun x =>
    { x with raw := [], nextK := 0, jShift := 0, lastInstant := none, outs := [], cIdx := some (h.idxOf n c (frameOf e)),
             cFrame := frameOf e }
  if (h.chan g).sen = {} then h else h.senQuiet n c

/-- The coordinated start at instant `e`, RAW being `r` (R417): epochs, channels, contexts, streams, START_TIME, and the mode. -/
def Hub.coordinatedStart (h : Hub) (r e : Nat) : Hub :=
  let h := forIn' (h.ctxs.map Prod.fst) (Hub.ctxFinish r) h
  let h := forN 16 (fun n h => h.wrInst (Addr.FI_EPOCH0 n) e) h
  let h := forN 512 (fun g h =>
    if h.feMode (g / 32) (g % 32) = mOFF && (SMap.find h.chans g).isNone then h else h.startChan e g) h
  let h := forN 16 (fun n h => if (SMap.find h.spires n).isSome then h.modSpire n fun s =>
      { s with fifo := s.fifo.filter fun x => decide (frameOf e ≤ x.frame), sense := [] } else h) h
  let h := forN 512 (fun g h => h.describePlain (g / 32) (g % 32)) h.startStreams
  let h := h.wrInst Addr.SYS_START_TIME0 e
  let h := h.ctxStartAll
  if h.mode = .service then { h with sys.serviceStart := false }.setBit Addr.SYS_MODE 8 true
  else h.setMode (if h.activeRole || (h.selState = selCLAIMING && h.sel.grant.isSome) then .run else .shadow)

/-- START's action of alarm 15 (R193, R412, R419): in ARMED, or in SERVICE when SERVICE_ENTER asked for it. -/
def Hub.startAction (h : Hub) (r e : Nat) : Hub :=
  if h.mode = .armed || (h.mode = .service && h.sys.serviceStart) then h.coordinatedStart r e else h

/-! ### Firing (R192, R193) -/

/-- The actions of alarm `a` at its target (R193, R197). -/
def Hub.alarmActions (h : Hub) (r a : Nat) (x : AlarmLatch) : Hub :=
  let h := h.trigOutFire r a
  let h := if x.action.testBit 3 && a = 15 then h.startAction r x.target else h
  let h := if x.action.testBit 0 then h.eventRecord 3 x.target [wd a] else h
  let h := if x.action.testBit 1 then h.alarmActs r a else h
  if x.action.testBit 2 then
    h.addTrigs (fun u => x.capmask.getLsbD u) { arrived := r, time := x.target, src := 2, detail := a }
  else h

/-- Alarm `a` fires: counted; a one-shot disarms, a periodic one takes target `next` (R192). -/
def Hub.fireAlarm (h : Hub) (r a : Nat) (x : AlarmLatch) (next : Nat) : Hub :=
  let h := (h.alarmActions r a x).incWrap (Addr.ALM_FIRE_CNT a) 0 32 1
  if x.per = 0 then h.disarm a
  else { h with lan.alarms := SMap.put h.lan.alarms a { x with target := next } }

/-- ALARM_FIRE (R192): the first Lantern cycle whose T is at or after the target. -/
def alarmFire (r a : Nat) (h : Hub) : Hub :=
  if !h.armed a then h
  else
    let x := SMap.get {} h.lan.alarms a
    if x.target ≤ h.timeAt r then h.fireAlarm r a x (x.target + x.per) else h

/-- What a DISARM or an ARM meets in the Lantern cycle of a firing (R196): the firing comes first. -/
def Hub.fireFirst (h : Hub) (r a : Nat) : Hub := alarmFire r a h

/-- ALARM (R250): arms alarm `n` at the triple `a`, with the period the plan set (log entry 55). A firing in the same cycle
comes first (R196). -/
def alarmArmI (r c a n : Nat) (h : Hub) : Hub :=
  h.issue r c 1 { g := [a, a + 1, a + 2] } fun h =>
    if n = 15 then { hub := h, fault := some (ELOCKED, false) }
    else
      let h := h.fireFirst r n
      let w0 := h.g c a; let w1 := h.g c (a + 1); let w2 := h.g c (a + 2)
      let st := h.armStatus r n w0 w1 w2 (h.almPeriod n)
      if h.armed n then { hub := h, fault := some (ESTATE, false) }
      else if st ≠ OK then { hub := h, fault := some (st, false) }
      else { hub := (h.armAlarm r n w0 w1 w2 (h.almPeriod n) (h.fld (Addr.ALM_ACTION n) 0 4) (h.rd (Addr.ALM_CAPMASK n))).2 }

/-- ALARM with its disarm bit (R250): an alarm that fires in the same cycle fires first, and then disarms (R196). -/
def alarmDisarmI (r c n : Nat) (h : Hub) : Hub :=
  h.issue r c 1 {} fun h =>
    if n = 15 then { hub := h, fault := some (ELOCKED, false) }
    else if !h.armed n then { hub := h, fault := some (ESTATE, false) }
    else { hub := (h.fireFirst r n).disarm n }

/-! ### Servo commits (R174, R182, R196) -/

/-- ALARM_LATE (R196): a step to `t` has passed alarm `a`'s target, which lay after `old`. -/
def Hub.alarmLate (r old t a : Nat) (h : Hub) : Hub :=
  let x := SMap.get {} h.lan.alarms a
  if h.armed a && decide (old < x.target) && decide (x.target ≤ t) then
    let skipped := if x.per = 0 then 0 else (t - x.target) / x.per
    ((h.fireAlarm r a x (x.target + (skipped + 1) * x.per)).setBit (Addr.ALM_STATUS a) 9 true).incSat (Addr.ALM_STATUS a) 10 22 skipped
  else h

/-- The grid synthesiser's frequency word (R180): `RATE` quantised to 2^-32, a tie rounding upward. -/
def gridWord (rate : Int) : Word := wdInt ((rate + 2 ^ 15) / 2 ^ 16)

/-- SERVO_COMMIT_APPLY (R174, R180): at r_c. -/
def servoCommitApply (r : Nat) (h : Hub) : Hub :=
  match h.lan.staged with
  | none => h
  | some s =>
    if r < s.rc then h
    else
      let old := h.timeAt s.rc
      let off : Int := match s.kind with
        | .rate => (old : Int) - (s.rc : Nat)
        | .step => (old : Int) - (s.rc : Nat) + s.step
        | .set => (s.set : Int) - (s.rc : Nat)
      let h := h.wrInst Addr.OFFSET0 (off % (kxMod : Int)).toNat
      let h := ((h.wr Addr.ANCHOR0 (wd s.rc)).wr Addr.ANCHOR1 (wd (s.rc / 2 ^ 32))).wr Addr.ANCHOR2 (wd (s.rc / 2 ^ 64 % 65536))
      let h := ((h.wr Addr.RATE_LO (wdInt s.rate)).wr Addr.RATE_HI (wdInt (s.rate / 2 ^ 32))).wr Addr.GRID_FREQ (gridWord s.rate)
      let h := { h with lan.staged := none }.setBit Addr.SERVO_STATUS 8 false
      match s.kind with
      | .rate => h
      | _ => forN 16 (fun a h => h.alarmLate r old (h.timeAt s.rc) a) h.align

/-! ### Stop (R418) -/

/-- With no context beyond IDLE a Turret's clock is gated, and none waits for its slot (R429). -/
def Hub.gateTurrets (h : Hub) : Hub :=
  { h.setFld Addr.INRUSH_PEND 16 4 0 with sys.ungated := h.sys.ungated.filter h.finishing }

/-- Entry to IDLE (R182, R356). -/
def Hub.enterIdle (h : Hub) (r : Nat) : Hub := { h.align.gateTurrets with sel.idleAt := r }.setMode .idle

/-- The streams of a context that still finishes its present activation, which seal after it (R418). -/
def Hub.finishingStreams (h : Hub) : List Nat :=
  (h.ctxs.filter fun x => x.2.stopAt.isSome).flatMap fun x => (h.outPorts x.1).map (h.portSrc x.1)

/-- The end of a run at stop frame `t` (R418): the outputs whose windows end before it, what is on its way, and then every
context, capture unit and open packet. A context that finishes its present activation still gets the elements on their way to
it. -/
def Hub.endRun (h : Hub) (r t : Nat) : Hub :=
  let h := forN 512 (fun g h =>
    let n := g / 32
    let c := g % 32
    if h.feMode n c = mOFF || (SMap.find h.chans g).isNone then h
    else
      let f := h.filtCfg n c
      Hub.outputsBefore n c t ((t - h.epoch n) / max 1 (f.ratio * f.period) + 2) (h.drainFifo r n)) h
  let h := h.drainLedger (h.timeAt r)
  let h := (h.ctxStopAll r t).capStop
  let h := { h with stageIn := h.stageIn.filter fun x => (h.ctx x.1).stopAt.isSome }
  let late := h.finishingStreams
  forIn' ((h.streams.map Prod.fst).filter fun s => !late.contains s) (fun s h => h.seal (h.timeAt r) s)
    (h.drainLedger (h.timeAt r))

/-- A stop at frame `t` (R412, R418, R461): the run ends if one is in progress, every capture unit is disarmed, and so is
alarm 15, after a firing in the same cycle (R196); perturbations are
disabled on leaving RUN or SERVICE, and the hub enters IDLE. -/
def Hub.stopNow (h : Hub) (r t : Nat) : Hub :=
  let h := h.fireFirst r 15
  let h := if h.running then h.endRun r t else h.capStop
  let h := h.disarm 15
  let h := h.wrInst Addr.SYS_STOP_TIME0 t
  let h := if h.mode = .run || h.mode = .service then h.testOff else h
  { h with sys.stopAt := none, sys.serviceStart := false }.enterIdle r

/-- STOP_FRAME (R418): the scheduled stop frame is reached. -/
def stopFrame (r : Nat) (h : Hub) : Hub :=
  match h.sys.stopAt with
  | some t => if t ≤ h.timeAt r then h.stopNow r t else h
  | none => h

end Sys2Proof.Machine
end

