-- ==== Sys2Proof/Machine/Store.lean ====
section
/-!
DEFINITION. What a performed write does at each register (R12, R13 and the block rules of every chapter): the stores that
master writes and a plan's SETUP section share. The checks of R11, R36, R37 and R413 come before (Bus.lean). The
start-up, OTP and command registers are Bus.lean's own.
-/

namespace Sys2Proof.Machine

/-- The indices of offset `o` in an array of dimensions `ds`, the widest stride first. -/
def regIndex : Nat → List (Nat × Nat) → List Nat
  | _, [] => []
  | o, (_, s) :: ds => o / s :: regIndex (o % s) ds

/-- A register's row in the tables, and its first three indices (0 where it has fewer). -/
structure RegRef where
  row : RegRow
  i : Nat
  j : Nat
  k : Nat

/-- The register at an address; none where no register lies (R11, R35). -/
def regRef (a : Nat) : Option RegRef :=
  (findRow a).map fun row =>
    let ix := regIndex (a - row.base) row.dims
    { row := row, i := ix.getD 0 0, j := ix.getD 1 0, k := ix.getD 2 0 }

/-- The effect of the access code alone (R12, R13): writable bits taken, W1C bits written 1 cleared, the rest kept. -/
def Hub.plainStore (h : Hub) (row : RegRow) (a : Nat) (v : Word) : Hub :=
  let old := h.rd a
  let kept := (old &&& ~~~row.wm) ||| (v &&& row.wm)
  if row.wm = 0#32 && row.w1c = 0#32 then h else h.wr a (kept &&& ~~~(v &&& row.w1c))

/-- The region sizes of a hub add up to 512 with at least 16 granules for JOURNAL (R41). -/
def Hub.regionGranules (h : Hub) : Nat :=
  2 + h.fld Addr.SYS_DOME_STAGE_SIZE 0 10 + h.fld Addr.SYS_DOME_DATA_SIZE 0 10 +
    h.fld Addr.SYS_DOME_MIRROR_SIZE 0 10 + h.fld Addr.SYS_DOME_CAPTURE_SIZE 0 10

/-- Recomputes every base and the JOURNAL size (R40, R42). -/
def Hub.regionBases (h : Hub) : Hub :=
  let b0 := 0x20000
  let b1 := b0 + 0x10000 * h.fld Addr.SYS_DOME_STAGE_SIZE 0 10
  let b2 := b1 + 0x10000 * h.fld Addr.SYS_DOME_DATA_SIZE 0 10
  let b3 := b2 + 0x10000 * h.fld Addr.SYS_DOME_MIRROR_SIZE 0 10
  let b4 := b3 + 0x10000 * h.fld Addr.SYS_DOME_CAPTURE_SIZE 0 10
  let j := 512 - h.regionGranules
  (((((h.wr Addr.SYS_DOME_STAGE_BASE (wd b0)).wr Addr.SYS_DOME_DATA_BASE (wd b1)).wr Addr.SYS_DOME_MIRROR_BASE (wd b2)).wr
    Addr.SYS_DOME_CAPTURE_BASE (wd b3)).wr Addr.SYS_DOME_JOURNAL_BASE (wd b4)).wr Addr.SYS_DOME_JOURNAL_SIZE (wd j)

/-- New region sizes in force (R42): the contents of every region but SYSTEM are undefined. A changed JOURNAL resets the
queue layout (R300). -/
def Hub.regionApply (h : Hub) (r : Nat) : Hub :=
  let old := h.rd Addr.SYS_DOME_JOURNAL_SIZE
  let h := h.regionBases.domeUndefine 0x20000
  if h.rd Addr.SYS_DOME_JOURNAL_SIZE = old then h else h.queueLayoutReset r

/-- DOME_REGION_SIZE_WRITE (R41). -/
def domeSizeStore (r m a : Nat) (v : Word) (h : Hub) : Hub :=
  let h' := h.wr a (v &&& 0x3FF#32)
  if !h.setupMode || h.servicePlan then h.refuse r m a ESTATE
  else if 512 < h'.regionGranules + 16 then h.refuse r m a ERANGE
  else h'.regionApply r

/-- Values that a register refuses with ERANGE whatever the state (R46, R66, R89, R199, R286, R287, R313, R360, R431). -/
def reservedValue (b : Nat) (i : Nat) (v : Word) : Bool :=
  if b = Addr.FE_CFG 0 0 then feCfgReserved v
  else if b = Addr.EXC_CFG 0 then bitsOf v 0 2 = 3
  else if b = Addr.EXC_REV 0 then bitsOf v 0 16 = 0
  else if b = Addr.ROT_CFG 0 then bitsOf v 8 4 = 0 || bitsOf v 16 8 = 0
  else if b = Addr.FCH_CFG 0 0 then curveReserved (bitsOf v 10 6)
  else if b = Addr.SEN_CFG 0 0 then decide (bitsOf v 3 5 < 4) || decide (20 < bitsOf v 3 5)
  else if b = Addr.SEN_PDT 0 0 then bitsOf v 0 20 = 0
  else if b = Addr.SEN_HDT 0 0 then bitsOf v 0 20 = 0
  else if b = Addr.CALC_TRIM_CFG then
    decide (bitsOf v 0 9 < 8) || decide (320 < bitsOf v 0 9) || decide (bitsOf v 9 10 < 1) || decide (600 < bitsOf v 9 10)
  else if b = Addr.LAN_CFG then bitsOf v 0 2 = 3
  else if b = Addr.LOCK_CFG then bitsOf v 16 8 = 0
  else if b = Addr.HOLD_MAX then bitsOf v 0 16 = 0
  else if b = Addr.TRIG_IN_CFG 0 then bitsOf v 1 2 = 0
  else if b = Addr.TRIG_OUT_CFG 0 then decide (bitsOf v 8 24 < 8)
  else if b = Addr.PPS_OUT_CFG then bitsOf v 8 24 = 0 || decide (999999 < bitsOf v 8 24)
  else if b = Addr.ALM_ACTION 0 then v.getLsbD 3 && decide (i ≠ 15)
  else if b = Addr.CAPE_SPAN_CFG then decide (bitsOf v 16 16 < 40)
  else if b = Addr.LED_CFG then bitsOf v 16 16 = 0
  else if b = Addr.LED_Q_TIME 0 then bitsOf v 0 16 = 0 || decide (bitsOf v 16 10 < 2) || decide (1000 < bitsOf v 16 10)
  else if b = Addr.SEL_TIMING then
    bitsOf v 0 8 = 0 || bitsOf v 8 6 = 0 || bitsOf v 16 16 = 0 || decide (60 < bitsOf v 8 6)
  else if b = Addr.INRUSH_CFG then decide (bitsOf v 0 14 < 10) || decide (10000 < bitsOf v 0 14)
  else false

/-- The system, clock and calibration blocks (R41, R163, R169, R432). -/
def Hub.systemStore (h : Hub) (r m a : Nat) (x : RegRef) (v : Word) : Hub :=
  let b := x.row.base
  if b = Addr.SYS_DOME_STAGE_SIZE || b = Addr.SYS_DOME_DATA_SIZE || b = Addr.SYS_DOME_MIRROR_SIZE ||
     b = Addr.SYS_DOME_CAPTURE_SIZE then domeSizeStore r m a v h
  else if b = Addr.CLK_THROTTLE_MAX then throttleMaxStore v h
  else if b = Addr.CALC_TRIM_CFG then trimCfgStore r m v h
  else h.plainStore x.row a v

/-- A calibration register of R166 or R167 (R163). -/
def isCalReg (b : Nat) : Bool :=
  [Addr.TRIM_OFS 0 0, Addr.TRIM_GAIN 0 0, Addr.TRIM_KEY 0 0, Addr.TRIM_IRTD 0 0, Addr.SNS_TRIM_OFS 0, Addr.SNS_TRIM_GAIN 0,
    Addr.VREF_CAL 0, Addr.CINJ_CAL 0, Addr.TEMP_LAST_TRIM 0, Addr.SLICE_COEF 0 0 0, Addr.FE_TABLE 0 0 0].contains b

/-- A spire block (chapters 2, 3 and 5). -/
def Hub.spireStore (h : Hub) (r m a : Nat) (x : RegRef) (v : Word) : Hub :=
  let b := x.row.base
  let n := x.i
  if b = Addr.FE_CFG 0 0 then feCfgStore r m a false v h
  else if b = Addr.FE_AUX 0 0 then feCfgStore r m a true v h
  else if b = Addr.FE_CHG_RESET 0 then feChgResetStore n v h
  else if b = Addr.EXC_CFG 0 then excCfgStore r m n v h
  else if b = Addr.EXC_STATUS 0 then excStatusStore n v 0#32 h
  else if b = Addr.EXC_CTRL 0 then excCtrlStore r m n v h
  else if b = Addr.SCHED_CTRL 0 then (if v.getLsbD 0 then schedCommit n h else h)
  else if b = Addr.ROT_CFG 0 then rotCfgStore r m n v h
  else if b = Addr.INJ_REQ 0 then injReq (h.timeAt r) n m v h
  else if isCalReg b then
    (if h.mode = .idle || h.mode = .service then (h.plainStore x.row a v).noteCal h (frameAfter (h.timeAt r)) a
     else h.refuse r m a ESTATE)
  else h.plainStore x.row a v

/-- A filter island block with its Sentry registers (chapters 4 and 9). -/
def Hub.filterStore (h : Hub) (r m a : Nat) (x : RegRef) (v : Word) : Hub :=
  let b := x.row.base
  if b = Addr.FI_CTRL 0 then (if v.getLsbD 0 then filterCommit x.i h else h)
  else if b = Addr.SEN_CFG 0 0 then senCfgStore r m x.i x.j v h
  else h.plainStore x.row a v

/-- A servo staging register or `SERVO_CTRL`: only BELFRY and JTAG write these (R175). -/
def isServoStaging (b : Nat) : Bool := decide (Addr.SERVO_RATE_LO ≤ b) && decide (b ≤ Addr.SERVO_CTRL)

/-- The Lantern (chapter 6). Alarm 15's registers are for BELFRY and JTAG (R194); so are the servo's staging registers,
whose writes by another master are logged as under R37 (R175). -/
def Hub.lanternStore (h : Hub) (r m a : Nat) (x : RegRef) (v : Word) : Hub :=
  let b := x.row.base
  if Addr.ALM_TGT0 15 ≤ a && m != belfry && m != jtag then h.refuse r m a ELOCKED
  else if isServoStaging b && m != belfry && m != jtag then h.deny r m a
  else if b = Addr.SERVO_CTRL then servoCtrlStore r v h
  else if b = Addr.TIME_SRC then
    (let (st, h') := h.timeSource r (bitsOf v 0 2)
     if st = OK then h' else h.refuse r m a st)
  else if b = Addr.GRID_CTRL then gridCtrlStore r m v h
  else if b = Addr.LAN_CFG then lanCfgStore v h
  else if b = Addr.PPS_OUT_CFG then (h.plainStore x.row a v).ppsGate
  else if b = Addr.TRIG_OUT_CFG 0 then trigOutCfgStore r m x.i v h
  else if b = Addr.ALM_CTRL 0 then almCtrlStore r m x.i v (h.fireFirst r x.i)
  else h.plainStore x.row a v

/-- A Turret block (R225): a context in WAIT or READY takes no window write but `CTX_CTRL`. -/
def Hub.turretStore (h : Hub) (r m a : Nat) (x : RegRef) (v : Word) : Hub :=
  let b := x.row.base
  let c := 64 * x.i + x.j
  if b = Addr.CTX_CTRL 0 0 then ctxCtrlStore r c v h
  else if x.row.acc = .rw && ((h.ctx c).st = .wait || (h.ctx c).st = .ready) then h.refuse r m a ESTATE
  else h.plainStore x.row a v

/-- The capture engine (R285, R286). -/
def Hub.capeStore (h : Hub) (r m a : Nat) (x : RegRef) (v : Word) : Hub :=
  let b := x.row.base
  if b = Addr.CAP_CTRL 0 then capCtrlStore r m x.i v h
  else if x.row.acc = .rw && b != Addr.CAPE_SPAN_CFG && b != Addr.CAPE_LOG_CFG && h.capState x.i != capDISARMED then
    h.refuse r m a ESTATE
  else h.plainStore x.row a v

/-- The lanes and the Gatehouse (chapter 11). -/
def Hub.laneStore (h : Hub) (r m a : Nat) (x : RegRef) (v : Word) : Hub :=
  let b := x.row.base
  let l := x.i
  if b = Addr.LANE_CFG 0 then laneCfgStore r m l v h
  else if b = Addr.LANE_CTRL 0 then laneCtrlStore r l v h
  else if b = Addr.CRED_ADV 0 || b = Addr.ETH_CFG 0 || b = Addr.ETH_SRC_LO 0 || b = Addr.ETH_SRC_HI 0 ||
    b = Addr.ETH_DST_LO 0 || b = Addr.ETH_DST_HI 0 || b = Addr.PTP_CFG 0 then laneSetupStore r m l a v x.row.wm h
  else if b = Addr.MOD_ACC 0 then modAccStore l v h
  else if b = Addr.EYE_CTRL 0 then eyeCtrlStore l v h
  else if b = Addr.SPAN_CFG then spanCfgStore r m v h
  else h.plainStore x.row a v

/-- Selail (chapter 12). -/
def Hub.selStore (h : Hub) (r m a : Nat) (x : RegRef) (v : Word) : Hub :=
  let b := x.row.base
  if b = Addr.SEL_CFG then selCfgStore r m v h
  else if b = Addr.SEL_WARDEN then selWardenStore r m v h
  else if b = Addr.SEL_TIMING then selTimingStore r m v h
  else if b = Addr.SEL_FAULT_MASK then selFaultMaskStore r m v h
  else h.plainStore x.row a v

/-- The control plane (chapter 13). -/
def Hub.controlStore (h : Hub) (r m a : Nat) (x : RegRef) (v : Word) : Hub :=
  let b := x.row.base
  if b = Addr.MB_DATA 0 then (h.mbPost r x.i m v).2
  else if b = Addr.DB_MSG_LO 0 || b = Addr.DB_MSG_HI 0 || b = Addr.DB_ACK_LO 0 || b = Addr.DB_ACK_HI 0 ||
    b = Addr.DB_ABT_LO 0 || b = Addr.DB_ABT_HI 0 || b = Addr.DB_MASK 0 then doorbellStore r m x.i a v h
  else if b = Addr.CP_MASTER_RESET then masterResetStore r m v h
  else if b = Addr.LOCK 0 then lockStore r m x.i v h
  else if b = Addr.LOCK_FORCE then lockForceStore r m v h
  else if b = Addr.ELOG_FREE then elogFreeStore r m v h
  else if b = Addr.BIND 0 then bindStore r m x.i v h
  else if b = Addr.BIND_LOCK then bindLockStore v h
  else h.plainStore x.row a v

/-- The test block (chapter 15). -/
def Hub.testStore (h : Hub) (r m a : Nat) (x : RegRef) (v : Word) : Hub :=
  let b := x.row.base
  if b = Addr.TP_ARM then tpArmStore r m v h
  else if b = Addr.TP_XDELAY then tpXdelayStore r m v h
  else if b = Addr.TP_STARVE then tpStarveStore r m v h
  else if b = Addr.TP_ACKHOLD then tpAckholdStore r m v h
  else if b = Addr.TP_DROP then tpDropStore r m v h
  else if b = Addr.TP_PAR_CTRL then injectStore r m v h
  else if b = Addr.TP_TJIT then tpTjitStore r m v h
  else if b = Addr.TP_SAG then tpSagStore r m v h
  else if b = Addr.TP_SKEW then tpSkewStore r m v h
  else if b = Addr.TP_SWAPFAIL then tpSwapfailStore r m v h
  else if b = Addr.TP_PAR_ADDR then (h.plainStore x.row a v).setFld Addr.TP_STATUS 8 8 OK
  else h.plainStore x.row a v

/-- A word of a user curve (R91): an aligned address in the curve area of a filter island. -/
def isCurveWord (a : Nat) : Bool :=
  decide (0x42000000 ≤ a) && decide (a < 0x42100000) && decide (0x8000 ≤ a % 0x10000) && a % 4 = 0

/-- The registers whose writes a mode refuses before their value is looked at (R368, R432). -/
def Hub.modeRefuses (h : Hub) (b : Nat) : Bool := !h.setupMode && (b = Addr.INRUSH_CFG || b = Addr.SEL_TIMING)

/-- A write performed at register address `a` by master `m` (R11, R13): a value that the register refuses with ERANGE in
every state is refused first, but for the registers that a mode refuses. -/
def Hub.regStore (h : Hub) (r m a : Nat) (v : Word) : Hub :=
  if isCurveWord a then userCurveStore r m a v h
  else match regRef a with
    | none => h
    | some x =>
      let blk := a / 0x1000000
      if h.modeRefuses x.row.base then h.refuse r m a ESTATE
      else if reservedValue x.row.base x.i v then h.refuse r m a ERANGE
      else if blk = 0x41 then h.spireStore r m a x v
      else if blk = 0x42 then h.filterStore r m a x v
      else if blk = 0x43 then h.turretStore r m a x v
      else if blk = 0x44 then h.capeStore r m a x v
      else if blk = 0x45 then (if x.row.base = Addr.LED_CTRL then (if v.getLsbD 0 then h.ledCommit r else h) else h.plainStore x.row a v)
      else if blk = 0x46 then h.lanternStore r m a x v
      else if blk = 0x47 then h.laneStore r m a x v
      else if blk = 0x48 then h.selStore r m a x v
      else if blk = 0x4A then h.testStore r m a x v
      else if blk = 0x40 && decide (a < 0x40004000) then h.controlStore r m a x v
      else h.systemStore r m a x v

end Sys2Proof.Machine
end

