-- ==== Sys2Proof/Machine/Plan.lean ====
section
/-!
DEFINITION. LOAD_PLAN (R200 to R210, R223, R402): the checks of an image in the order of R208, and its application.
A check answers the failing status and record index (0xFFFF where the failure is not tied to a record).
-/

namespace Sys2Proof.Machine

/-- A failure: status and record index (R209). -/
abbrev PlanFault := Nat × Nat

/-- No record (R209). -/
def noRec : Nat := 0xFFFF

/-- A condition or a failure. -/
def need (b : Bool) (st : Nat) (ix : Nat := noRec) : Except PlanFault Unit := if b then .ok () else .error (st, ix)

/-- An image as Belfry copied it: its words by byte offset, its bytes, its length (R208). -/
structure PlanImage where
  w : Nat → Word
  bytes : Nat → Nat → List Byte
  len : Nat

/-- The image in a load buffer (R208). -/
def bufferImage (b : List Byte) : PlanImage :=
  { w := fun o => wd (ofBytes ((b.drop o).take 4)), bytes := fun o n => (b.drop o).take n, len := b.length }

/-- Step 1 of R208 for the image at Dome address `a` with length `len`. -/
def Hub.planPlaced (h : Hub) (a len : Nat) : Bool :=
  a % 8 = 0 && decide (0xA0 ≤ len) && decide (len ≤ 2097152) && decide (a + len ≤ domeSize) && (h.domeWord (a + 8)).toNat = len

/-- Belfry copies an image that passes step 1 into its load buffer, whose former contents are gone (R208). -/
def Hub.loadBuffer (h : Hub) (a len : Nat) : Hub :=
  if h.planPlaced a len then { h with sys.planBuf := (List.range len).map fun i => h.domeByte (a + i) } else h

/-- Offset and length of section entry `e` (R200). -/
def PlanImage.off (p : PlanImage) (e : Nat) : Nat := (p.w (0x44 + 16 * e)).toNat
def PlanImage.sz (p : PlanImage) (e : Nat) : Nat := (p.w (0x48 + 16 * e)).toNat

/-- The section table (R201). -/
def PlanImage.tableOk (p : PlanImage) : Bool :=
  (p.w 0x18).toNat = 6 &&
  (List.range 6).all (fun e =>
    (p.w (0x40 + 16 * e)).toNat = e + 1 && p.off e % 8 = 0 && decide (0xA0 ≤ p.off e) && decide (p.off e + p.sz e ≤ p.len) &&
    (e = 5 || (p.sz e % 8 = 0 && decide (p.off e + p.sz e ≤ p.off 5)))) &&
  (List.range 6).all (fun e => (List.range e).all fun d =>
    decide (p.off e + p.sz e ≤ p.off d) || decide (p.off d + p.sz d ≤ p.off e)) &&
  p.off 5 + p.sz 5 = p.len

/-- Step 5 (R402): whether the signature is accepted, and `PLAN_SIGNED`. -/
def PlanImage.signed (p : PlanImage) (owner : List Word) : Option Bool :=
  let blank := owner.all (· == 0#32)
  let key := p.bytes (p.off 5) 64
  let ok := ecdsaOk key (sha256 (p.bytes 0 (p.off 5))) (p.bytes (p.off 5 + 64) 64)
  if p.sz 5 = 0 then (if blank then some false else none)
  else if p.sz 5 = 128 then
    (if blank then (if ok then some false else none)
     else if ok && sha256 key = wordBytes owner then some true else none)
  else none

/-- Steps 1 to 5 (R208): the image at Dome address `a` with length `len`, as it stands in the load buffer, and whether its owner
is proven. -/
def Hub.planImage (h : Hub) (a len : Nat) : Except PlanFault (PlanImage × Bool) := do
  let p := bufferImage (h.loadBuffer a len).sys.planBuf
  need (h.planPlaced a len) ESIZE
  need ((p.w 0).toNat = 0x4E414C50) ESIG
  need ((p.w 4).toNat = 2 && decide (bitsOf (p.w 0xC) 0 16 ≤ 0x0302)) EVERSION
  need p.tableOk ESIZE
  match p.signed h.sys.otpOwner with
  | some s => pure (p, s)
  | none => .error (ESIG, noRec)

/-! ### SETUP (R202, R203, steps 6 and 12) -/

/-- A SETUP record. -/
structure SetupRec where
  op : Nat
  addr : Nat
  value : Word
  mask : Word

/-- Record `i` of SETUP, and their number; a trailing half record counts as one. -/
def PlanImage.setup (p : PlanImage) (i : Nat) : SetupRec :=
  let o := p.off 0 + 16 * i
  { op := (p.w o).toNat, addr := (p.w (o + 4)).toNat, value := p.w (o + 8), mask := p.w (o + 12) }
def PlanImage.setups (p : PlanImage) : List (Nat × SetupRec) := (List.range (p.sz 0 / 16)).map fun i => (i, p.setup i)

/-- A region size register (R42). -/
def isSizeReg (a : Nat) : Bool :=
  a = Addr.SYS_DOME_STAGE_SIZE || a = Addr.SYS_DOME_DATA_SIZE || a = Addr.SYS_DOME_MIRROR_SIZE || a = Addr.SYS_DOME_CAPTURE_SIZE

/-- The commit registers that a record of any `OP` may name (R203). -/
def isCommitReg (a : Nat) : Bool :=
  (regRef a).any fun x => x.row.base = Addr.SCHED_CTRL 0 || x.row.base = Addr.FI_CTRL 0

/-- Whether a SETUP record of operation `op` may name address `a` (R203). -/
def setupTarget (op a : Nat) : Bool :=
  if isCurveWord a then op != 3 && a % 0x800 != 0xC && decide (a % 0x800 < 0x410)
  else if a % 4 ≠ 0 then false
  else match regRef a with
    | none => false
    | some x =>
      let b := x.row.base
      let rw := x.row.acc = .rw
      let blk := a / 0x1000000
      if op = 3 then b = Addr.SCHED_CTRL 0 || b = Addr.FI_CTRL 0 || b = Addr.LED_CTRL
      else if isCommitReg a then true
      else if blk = 0x41 then rw && decide (a % 0x10000 < 0x3000)
      else if blk = 0x42 || blk = 0x44 || blk = 0x45 || blk = 0x48 then rw
      else if blk = 0x43 then
        [Addr.CTX_G 0 0 0, Addr.CTX_W_LO 0 0 0, Addr.CTX_W_MID 0 0 0, Addr.CTX_W_HI 0 0 0, Addr.CTX_ENTRY 0 0, Addr.CTX_CFG 0 0,
          Addr.CTX_ACT 0 0, Addr.CTX_PORT 0 0 0].contains b
      else if blk = 0x46 then
        b = Addr.TRIG_OUT_CFG 0 || b = Addr.PPS_OUT_CFG ||
          (decide (Addr.ALM_TGT0 0 ≤ a) && decide (a < Addr.ALM_TGT0 15) && (rw || b = Addr.ALM_CTRL 0))
      else if blk = 0x4B then a = Addr.CALC_TRIM_CFG
      else isSizeReg a

/-- Reserved encodings that a register takes in a master write, but a plan does not (step 6; R131, R212, R225, R286). -/
def planReserved (b k : Nat) (v : Word) : Bool :=
  if b = Addr.FCH_CFG 0 0 then
    let preset := bitsOf v 0 4
    (preset ≠ 0 && (presetLen preset).isNone) || bitsOf v 4 2 = 0 || bitsOf v 8 2 = 3
  else if b = Addr.CTX_ACT 0 0 then decide (5 ≤ bitsOf v 0 3) || (bitsOf v 0 3 = 2 && decide (bitsOf v 9 16 < 2))
  else if b = Addr.CTX_PORT 0 0 0 then
    let kind := bitsOf v 0 2
    (decide (32 ≤ k) && (kind = 1 || kind = 2)) || (decide (k < 32) && kind = 3) || (kind = 1 && decide (512 ≤ bitsOf v 2 10))
  else if b = Addr.CAP_CFG 0 then
    bitsOf v 1 2 = 3 || bitsOf v 3 2 = 3 || decide (8 < bitsOf v 5 4) || bitsOf v 9 6 = 0 || decide (32 < bitsOf v 9 6)
  else false

/-- The value a record writes where the register holds `old` (R202). -/
def SetupRec.result (x : SetupRec) (old : Word) : Word :=
  if x.op = 2 then (old &&& ~~~x.mask) ||| (x.value &&& x.mask) else x.value

/-- Step 6 for record `i` on a hub that shows the register values SETUP produces so far: written and in force at once. -/
def setupCheck (x : Nat × SetupRec) (h : Hub) : Except PlanFault Hub := do
  let (i, s) := x
  need (s.op = 1 || s.op = 2 || s.op = 3) ERANGE i
  need (setupTarget s.op s.addr) ESTATE i
  let v := s.result (h.rd s.addr)
  if s.op = 3 then pure h
  else if isCurveWord s.addr then
    let h' := h.wr s.addr (if s.addr % 0x800 = 8 then v &&& 7#32 else v)
    let base := s.addr - s.addr % 0x800
    need (!(s.addr % 0x800 = 8 && decide (2 ≤ bitsOf v 1 2)) && (!h'.bit (base + 8) 0 || userCurveOk h'.rd base)) ERANGE i
    pure h'
  else match regRef s.addr with
    | none => .error (ESTATE, i)
    | some y =>
      need (!reservedValue y.row.base y.i v && !planReserved y.row.base y.k v) ERANGE i
      let h' := h.plainStore y.row s.addr v
      if isSizeReg s.addr then do
        need (decide (h'.regionGranules + 16 ≤ 512)) ERANGE i
        pure h'.regionBases
      else pure (h'.setActive s.addr (h'.rd s.addr))

/-- A context window as LOAD_PLAN finds it: registers 0 (R215). -/
def Hub.clearWindow (h : Hub) (c : Nat) : Hub :=
  let t := c / 64
  let l := c % 64
  let lo := Addr.CTX_G t l 0
  { h with regs := h.regs.filter fun p => !(decide (lo ≤ p.1) && decide (p.1 < lo + 0x400)) }

/-- Every record of step 6, sizes first (R42). The values of a periodic charge reset are looked at last. -/
def PlanImage.setupHub (p : PlanImage) (h : Hub) : Except PlanFault Hub := do
  need (p.sz 0 % 16 = 0) ERANGE (p.sz 0 / 16)
  let h0 := forN 256 (fun c h => h.clearWindow c) h
  let first := p.setups.filter fun x => isSizeReg x.2.addr
  let h1 ← first.foldlM (fun h x => setupCheck x h) h0
  let h2 ← (p.setups.filter fun x => !isSizeReg x.2.addr).foldlM (fun h x => setupCheck x h) h1
  need ((List.range 512).all fun g =>
    !(bitsOf (h2.rd (Addr.FE_CFG (g / 32) (g % 32))) 9 2 = 2 && bitsOf (h2.rd (Addr.FE_AUX (g / 32) (g % 32))) 6 16 = 0)) ERANGE
  pure h2

/-! ### CODE, DATA and MIRROR_MAP (R204 to R206, steps 7 and 8) -/

/-- The contexts with an activation kind (R212). -/
def Hub.usedCtxs (h : Hub) : List Nat := (List.range 256).filter fun c => h.actKind c != 0

/-- The code blocks (R204): offset and COUNT by Turret; `fuel` bounds the Turrets. -/
def PlanImage.codeBlocks (p : PlanImage) : Nat → Nat → Option (List (Nat × Nat))
  | 0, _ => some []
  | fuel + 1, o =>
    let n := (p.w o).toNat
    let e := o + (4 + 4 * n + 7) / 8 * 8
    if o + 4 ≤ p.off 1 + p.sz 1 && n ≤ 16384 && e ≤ p.off 1 + p.sz 1 then
      (PlanImage.codeBlocks p fuel e).map fun l => (o + 4, n) :: l
    else none

/-- Every byte from `a` to `b` lies in DATA or CAPTURE (R205): both ends do, and where they lie in different ones MIRROR, which
stands between, is empty (R40). -/
def Hub.dataRange (h : Hub) (a b : Nat) : Bool :=
  let ok (x : Nat) : Bool := h.region x = some .data || h.region x = some .capture
  ok a && ok b && (h.region a = h.region b || h.rd Addr.SYS_DOME_MIRROR_BASE = h.rd Addr.SYS_DOME_CAPTURE_BASE)

/-- A DATA record: address, length, bytes; `fuel` bounds the records of a section. -/
def PlanImage.dataRecs (p : PlanImage) (h : Hub) : Nat → Nat → Nat → Except PlanFault (List (Nat × List Byte))
  | 0, _, _ => .ok []
  | fuel + 1, i, o =>
    let e := p.off 2 + p.sz 2
    if e ≤ o then .ok []
    else do
      let a := (p.w o).toNat
      let n := bitsOf (p.w (o + 4)) 0 24
      let k := bitsOf (p.w (o + 4)) 24 8
      let body := if k = 1 then (n + 7) / 8 * 8 else 8
      need ((k = 1 || k = 2) && a % 8 = 0 && decide (o + 8 + body ≤ e)) ERANGE i
      need (n = 0 || h.dataRange a (a + n - 1)) ERANGE i
      let src := p.bytes (o + 8) body
      let bs := if k = 1 then src.take n else (List.range n).map fun j => src.getD (j % 8) 0#8
      let rest ← PlanImage.dataRecs p h fuel (i + 1) (o + 8 + body)
      pure ((a, bs) :: rest)

/-- A MIRROR_MAP entry (R206). -/
def PlanImage.mirrorEntry (p : PlanImage) (h : Hub) (i : Nat) : Except PlanFault MirrorEntry := do
  let o := p.off 3 + 16 * i
  let w0 := p.w o
  let w1 := p.w (o + 4)
  let w2 := (p.w (o + 8)).toNat
  match bitsOf w0 0 8 with
  | 1 => pure (.context (bitsOf w0 8 8) (bitsOf w0 16 16) (bitsOf w1 0 4) (bitsOf w1 4 4))
  | 2 =>
    need (w1.toNat % 8 = 0 && (w2 = 0 || (h.region w1.toNat = some .data && h.region (w1.toNat + w2 - 1) = some .data))) ERANGE i
    pure (.histogram w1.toNat w2)
  | 3 =>
    need (decide (w1.toNat + w2 ≤ 512)) ERANGE i
    pure (.thresholds w1.toNat w2)
  | 4 => pure (.capture w1.toNat)
  | _ => .error (ERANGE, i)

/-- The entries of MIRROR_MAP (R206). -/
def PlanImage.mirrorMap (p : PlanImage) (h : Hub) : Except PlanFault (List MirrorEntry) := do
  need (decide (p.sz 3 ≤ 4096) && p.sz 3 % 16 = 0) ERANGE
  let l ← (List.range (p.sz 3 / 16)).mapM (p.mirrorEntry h)
  let total := (l.map fun e => match e with | .histogram _ n => n | _ => 0).sum
  need (decide (2 * total ≤ h.fld Addr.SYS_DOME_MIRROR_SIZE 0 10 * 0x10000)) ESIZE
  pure l

/-! ### BUDGET (R207) -/

/-- The budget: contexts as (context, SLOTS, ACT_RATE), streams as (stream, elements a second, bytes), SPAN_LOAD. -/
structure Budget where
  ctxs : List (Nat × Nat × Nat) := []
  streams : List (Nat × Nat × Nat) := []
  span : Nat := 0

/-- The BUDGET section (R207); entries past the section do not exist. -/
def PlanImage.budget (p : PlanImage) : Budget :=
  let o := p.off 4
  let n := min (p.w o).toNat ((p.sz 4 - 16) / 16)
  let entry (i : Nat) := o + 16 + 16 * i
  { ctxs := (List.range n).filterMap fun i =>
      let w := p.w (entry i)
      if bitsOf w 0 8 = 1 then some (bitsOf w 8 8, (p.w (entry i + 4)).toNat, (p.w (entry i + 8)).toNat) else none
    streams := (List.range n).filterMap fun i =>
      let w := p.w (entry i)
      if bitsOf w 0 8 = 2 then some (bitsOf w 16 10, (p.w (entry i + 4)).toNat, (p.w (entry i + 8)).toNat) else none
    span := (p.w (o + 4)).toNat }

def Budget.streamRate (b : Budget) (s : Nat) : Nat := ((b.streams.find? fun e => e.1 = s).map (·.2.1)).getD 0

/-! ### Bindings (R47, R54, R67, R93, R124, R212, R218, R256, R257, R260, R276, R299; step 9) -/

/-- The context and port whose `CTX_PORT` register is at `a` (R225). -/
def portAt (a : Nat) : Option (Nat × Nat) :=
  let o := a - 0x43040000
  let c := 64 * (o / 0x100000) + o % 0x100000 / 0x400
  let p := (o % 0x400 - 0x100) / 4
  if 0x43040000 ≤ a ∧ c < 256 ∧ p < 64 ∧ a = Addr.CTX_PORT (c / 64) (c % 64) p then some (c, p) else none

/-- The ports with a binding, whether their context is used or not; a register that nothing has written binds none. -/
def Hub.boundPorts (h : Hub) : List (Nat × Nat) :=
  h.regs.filterMap fun x => match portAt x.1 with
    | some (c, p) => if h.portKind c p = 0 then none else some (c, p)
    | none => none

/-- The streams fed by output ports, with one entry a port (R207, R218). -/
def Hub.outStreams (h : Hub) : List Nat := (h.boundPorts.filter fun x => h.isOutput x.1 x.2).map fun x => h.portSrc x.1 x.2

/-- The units the plan configures: those with an allocation, or with a `CAP_CFG` other than that of reset. -/
def Hub.planUnits (h : Hub) : List Nat :=
  (List.range 32).filter fun u => h.capSize u != 0 || h.rd (Addr.CAP_CFG u) != resetValue (Addr.CAP_CFG u)

/-- Units that write to the Ledger: stream, and whether stream-through (R276). -/
def Hub.capStreams (h : Hub) : List (Nat × Bool) :=
  h.planUnits.filterMap fun u =>
    if h.capStream u || h.bit (Addr.CAP_CFG u) 16 then some (h.fld (Addr.CAP_STREAM u) 0 10, h.capStream u) else none

/-- The EVENT stream, where there is one (R299). -/
def Hub.evtStream (h : Hub) : Option Nat := if h.bit Addr.LED_CFG 10 then some (h.fld Addr.LED_CFG 0 10) else none

/-- The kind the bindings give stream `s`; none where nothing but a channel could feed it (R290). -/
def Hub.boundKind (h : Hub) (outs : List Nat) (caps : List (Nat × Bool)) (s : Nat) : Option Kind :=
  if outs.contains s then some .derived
  else if h.evtStream = some s then some .event
  else (caps.find? fun c => c.1 = s).map fun c => if c.2 then .streamcap else .record

def Hub.chanOff (h : Hub) (g : Nat) : Bool := h.fld (Addr.FE_CFG (g / 32) (g % 32)) 0 3 = mOFF
def Hub.streamEn (h : Hub) (s : Nat) : Bool := h.bit (Addr.LED_STREAM s) 6

/-- The plain streams of the plan (R290). -/
def Hub.plainStreams (h : Hub) (outs : List Nat) (caps : List (Nat × Bool)) : List Nat :=
  (List.range 512).filter fun s => h.streamEn s && (h.boundKind outs caps s).isNone

/-- Channel `g`'s output is in °C (R54). -/
def Hub.inDegC (h : Hub) (g : Nat) : Bool :=
  let k := h.fld (Addr.FCH_CFG (g / 32) (g % 32)) 10 6
  k = 16 || k = 17 || (isUserCurve k && h.fld (userCurveBase (g / 32) k + 8) 1 2 = 1)

/-- Stream `s` is bound to the filter output of its channel (R290). -/
def Hub.plainUse (h : Hub) (s : Nat) : Bool := decide (s < 512) && h.streamEn s && !h.chanOff s

/-- The stream bindings (R47, R218, R299, and R290's one kind for each stream), and the channels of input ports (R47). -/
def Hub.streamsOk (h : Hub) (outs : List Nat) (caps : List (Nat × Bool)) : Bool :=
  outs.length = outs.eraseDups.length &&
  outs.all (fun s => !h.plainUse s) && h.evtStream.all (fun s => !h.plainUse s) && caps.all (fun c => !h.plainUse c.1) &&
  h.boundPorts.all (fun x => h.portKind x.1 x.2 ≠ 1 || !h.chanOff (h.portSrc x.1 x.2)) &&
  outs.all (fun s => h.evtStream != some s && caps.all (fun c => c.1 != s)) &&
  caps.all (fun c => h.evtStream != some c.1 && caps.all fun d => d.1 != c.1 || d.2 = c.2) &&
  (List.range 1024).all (fun s =>
    !h.streamEn s || (h.boundKind outs caps s).isSome || (decide (s < 512) && !h.chanOff s))

/-- Channels: cold junctions (R47, R54) and user curves (R93). -/
def Hub.channelsOk (h : Hub) : Bool :=
  (List.range 512).all fun g =>
    let n := g / 32
    let c := g % 32
    let k := h.fld (Addr.FCH_CFG n c) 10 6
    let aux := h.rd (Addr.FE_AUX n c)
    let cj := chNo n (bitsOf aux 0 5)
    (!isUserCurve k || h.bit (userCurveBase n k + 8) 0) &&
    (h.fld (Addr.FE_CFG n c) 0 3 ≠ mTC || !aux.getLsbD 5 || (!h.chanOff cj && h.inDegC cj))

/-- Excitation reversal of spire `n` (R67): its status. -/
def Hub.reversalStatus (h : Hub) (n : Nat) : Nat :=
  if !h.bit (Addr.EXC_CFG n) 5 then OK
  else
    let w := h.rd (Addr.EXC_REV n)
    let ref := bitsOf w 16 5
    let per (c : Nat) : Nat := (h.filtCfg n c).ratio * (h.filtCfg n c).period
    let rev := bitsOf w 0 16 * per ref
    if h.fld (Addr.FE_CFG n ref) 0 3 ≠ mBRIDGE then ESTATE
    else if (List.range 32).any (fun c => h.fld (Addr.FE_CFG n c) 0 3 = mBRIDGE && (per c = 0 || rev % per c ≠ 0)) then ESIZE
    else if rev ≤ bitsOf w 21 11 * frameU then ESIZE
    else OK

/-- Activation sources (R212). -/
def Hub.activationOk (h : Hub) (c : Nat) : Bool :=
  match h.actKind c with
  | 1 | 2 => h.isInput c (h.actSrc c)
  | 3 => decide (h.actSrc c < 15)
  | 4 => h.mbValid (h.actSrc c) && h.mbReceiver (h.actSrc c) = turretId (c / 64)
  | _ => true

/-- The capture units and fast taps (R47, R124, R256, R257, R260): the status. -/
def Hub.captureStatus (h : Hub) (u : Nat) : Nat :=
  let fastBad := h.capTap u = 1 && (h.capChans u).any fun g => !(h.chanCfg g).tap
  if (h.capChans u).any h.chanOff then ESTATE
  else if fastBad then ESIZE
  else if !h.capConfigOk u (fun _ => 0) then ESTATE
  else if !h.capPlaced u then ESIZE
  else OK

/-- Step 9. -/
def Hub.bindings (h : Hub) (b : Budget) : Except PlanFault Unit := do
  let outs := h.outStreams
  let caps := h.capStreams
  need (h.streamsOk outs caps) ESTATE
  need h.channelsOk ESTATE
  need (h.usedCtxs.all h.activationOk) ESTATE
  need (caps.all fun c => b.streams.any fun e => e.1 = c.1) ESTATE
  (List.range 16).forM fun n => need (h.reversalStatus n = OK) (h.reversalStatus n)
  need ((List.range 512).all fun g => !h.bit (Addr.SEN_CFG (g / 32) (g % 32)) 0 || (h.chanCfg g).tap) ESIZE
  h.planUnits.forM fun u => need (h.captureStatus u = OK) (h.captureStatus u)

/-! ### STAGE and admission (R24, R44, R217, R223; steps 10 and 11) -/

/-- The bound input ports, of used contexts and of others, in context order and then port order (R217). -/
def Hub.inPorts (h : Hub) : List (Nat × Nat) := h.boundPorts.filter fun x => h.isInput x.1 x.2

/-- The buffers' places (R217): (context, port, base), and the first address after them. -/
def Hub.stagePlan (h : Hub) : List (Nat × Nat × Nat) × Nat :=
  h.inPorts.foldl (fun x cp => (x.1 ++ [(cp.1, cp.2, x.2)], x.2 + 8 * h.portCap cp.1 cp.2))
    ([], (h.rd Addr.SYS_DOME_STAGE_BASE).toNat)

/-- Outputs a second of channel `g` (R125). -/
def Hub.chanRate (h : Hub) (g : Nat) : Rat :=
  (secU : Rat) / (((h.chanCfg g).ratio * (h.chanCfg g).period : Nat) : Rat)

/-- Elements a second of an input port's source. -/
def Hub.portRate (h : Hub) (b : Budget) (c p : Nat) : Rat :=
  if h.portKind c p = 1 then h.chanRate (h.portSrc c p) else (b.streamRate (h.portSrc c p) : Nat)

/-- Activations a second of a context: declared, raised to the rate its trigger port's source gives (R223). -/
def Hub.ctxRate (h : Hub) (b : Budget) (c declared : Nat) : Rat :=
  match h.actKind c with
  | 1 => max (declared : Rat) (h.portRate b c (h.actSrc c))
  | 2 => max (declared : Rat) (h.portRate b c (h.actSrc c) / (max 1 (h.actCount c) : Nat))
  | _ => (declared : Nat)

/-- Load of the contexts of `l` in instructions a second (R223). -/
def Hub.ctxLoad (h : Hub) (b : Budget) (e : Nat × Nat × Nat) : Rat := (e.2.1 : Rat) * h.ctxRate b e.1 e.2.2
def Hub.turretLoad (h : Hub) (b : Budget) (t : Nat) : Rat :=
  ((b.ctxs.filter fun e => e.1 / 64 = t && h.actKind e.1 != 0).map (h.ctxLoad b)).sum

/-- Bytes an element of a plain stream takes (R293): a word, and in the S32 and F32 formats its flag byte. -/
def Hub.plainBytes (h : Hub) (g : Nat) : Nat := if h.fld (Addr.FCH_CFG (g / 32) (g % 32)) 8 2 = 0 then 4 else 5

/-- The hub's own stream load in bits a second (R44). -/
def Hub.ownLoad (h : Hub) (b : Budget) : Rat :=
  ((h.plainStreams h.outStreams h.capStreams).map fun g => h.chanRate g * (8 * h.plainBytes g : Nat)).sum +
  (b.streams.map fun e => ((e.2.1 * e.2.2 * 8 : Nat) : Rat)).sum

/-- The LEDGER-class limit of the uplink in Mb/s (R44): an uplink lane in 1000BASE-X has 720. -/
def Hub.uplinkLimit (h : Hub) : Nat :=
  if (List.range 4).any (fun l => h.laneEn l && h.laneRole l = 3 && h.protoNow l = 2) then 720 else 7200

/-- Step 11 (R207, R223): every check of admission. -/
def Hub.admits (h : Hub) (b : Budget) : Bool :=
  let one (s : Nat) : Bool := (b.streams.filter fun e => e.1 = s).length = 1
  h.usedCtxs.all (fun c => (b.ctxs.filter fun e => e.1 = c).length = 1) &&
  h.outStreams.all one &&
  b.ctxs.all (fun e => decide (1 ≤ e.2.1) && decide (e.2.1 ≤ 16777215)) &&
  (b.ctxs.filter fun e => h.actKind e.1 != 0).all (fun e => decide (h.ctxLoad b e ≤ 87500000)) &&
  (List.range 4).all (fun t => decide (h.turretLoad b t ≤ 350000000)) &&
  decide ((h.inPorts.map fun cp => 8 * h.portRate b cp.1 cp.2).sum ≤ 200 * (h.fld Addr.SYS_DOME_STAGE_SIZE 0 10 * 0x10000 : Nat)) &&
  h.inPorts.all (fun cp => decide (h.portRate b cp.1 cp.2 ≤ 200 * (h.portCap cp.1 cp.2 : Nat))) &&
  decide (h.ownLoad b ≤ 7200000000) && decide (b.span ≤ 7200) && decide (b.span ≤ h.uplinkLimit)

/-! ### The load (R208, R209, R226) -/

/-- What steps 1 to 11 hand to the application. -/
structure Checked where
  img : PlanImage
  proven : Bool
  /-- The register values SETUP produces. -/
  final : Hub
  code : List (Nat × Nat)
  data : List (Nat × List Byte)
  mirror : List MirrorEntry
  budget : Budget

/-- Steps 1 to 11 (R208). -/
def Hub.checkPlan (h : Hub) (a len : Nat) : Except PlanFault Checked := do
  let (p, proven) ← h.planImage a len
  let f ← p.setupHub h
  match p.codeBlocks 4 (p.off 1) with
  | none => .error (ESIZE, noRec)
  | some code =>
    need (f.usedCtxs.all fun c => decide (f.fld (Addr.CTX_ENTRY (c / 64) (c % 64)) 0 14 < (code.getD (c / 64) (0, 0)).2)) ESIZE
    let data ← p.dataRecs f (p.sz 2 / 8 + 1) 0 (p.off 2)
    let mirror ← p.mirrorMap f
    let b := p.budget
    f.bindings b
    need (decide (f.stagePlan.2 ≤ (f.rd Addr.SYS_DOME_DATA_BASE).toNat)) ESIZE
    need (f.admits b) EBUDGET
    pure { img := p, proven := proven, final := f, code := code, data := data, mirror := mirror, budget := b }

/-- The status of the commit that a COMMIT record of SETUP wrote (R104, R131, R300). -/
def Hub.commitStatus (h : Hub) (a : Nat) : Nat :=
  if a / 0x1000000 = 0x41 then (if h.fld (Addr.SCHED_STATUS ((a - 0x41000000) / 0x10000)) 0 8 = OK then OK else ESIZE)
  else if a / 0x1000000 = 0x42 then h.fld (Addr.FI_COMMIT_STATUS ((a - 0x42000000) / 0x10000)) 0 8
  else h.fld Addr.LED_COMMIT_STATUS 0 8

/-- A commit still waiting for its frame boundary has met it before the loader writes the next one. -/
def Hub.settleCommit (h : Hub) (r a : Nat) : Hub :=
  let f := frameOf (h.timeAt r) + 1
  if a / 0x1000000 = 0x41 then schedCommitApply ((a - 0x41000000) / 0x10000) f h
  else if a / 0x1000000 = 0x42 then filterCommitApply ((a - 0x42000000) / 0x10000) f h
  else h

/-- One SETUP record applied (R202); the fault of a commit, with the hub as it then stands. Only a COMMIT record waits for the
status. -/
def setupApply (r : Nat) (s : SetupRec) (h : Hub) : Nat × Hub :=
  if s.op = 3 then
    let h := (h.settleCommit r s.addr).regStore r belfry s.addr s.value
    (h.commitStatus s.addr, h)
  else
    let h := if isCommitReg s.addr then h.settleCommit r s.addr else h
    (OK, h.regStore r belfry s.addr (s.result (h.rd s.addr)))

/-- SETUP records applied in order up to the first failure: its status and index, none where all passed. -/
def setupRun (r : Nat) : List (Nat × SetupRec) → Hub → Option PlanFault × Hub
  | [], h => (none, h)
  | (i, s) :: t, h =>
    let (st, h') := setupApply r s h
    if st = OK then setupRun r t h' else (some (st, i), h')

/-- The previous plan is unloaded (R208, R215, R265, R289): contexts UNUSED, units DISARMED, packets discarded. -/
def Hub.unloadPlan (h : Hub) (r : Nat) : Hub :=
  let opens := (h.streams.filter fun s => s.2.opn.isSome).map Prod.fst
  let h := h.discardQueues r (h.queues.map Prod.fst) opens
  let h := forIn' opens (fun s h => h.modStream s fun x => { x with opn := none }) h
  let h := (forIn' (h.ctxs.map Prod.fst) (fun c h => h.releaseLocks r c) h).capClear
  let h := forN 256 (fun c h => h.clearWindow c) h
  let h := forN 4 (fun t h => h.wr (Addr.TUR_LOAD_DECL t) 0#32) h
  let h := forN 1024 (fun s h => h.setFld (Addr.LED_STREAM s) 7 3 0) h
  let h := ((h.wr Addr.SYS_PLAN_STATUS 0#32).wr Addr.SYS_PLAN_ID 0#32).wr Addr.SYS_PLAN_REV 0#32
  { h.wr Addr.SYS_PLAN_SIGNED 0#32 with ctxs := [], stageIn := [], sys.plan := {}, sys.code := [], sys.count := [], sel.copies := [], sel.waiting := [], sel.hist := none }

/-- New region sizes of SETUP, all at once and before anything else (R42). -/
def Hub.planSizes (h : Hub) (r : Nat) (f : Hub) (any : Bool) : Hub :=
  if any then
    let put (a : Nat) (h : Hub) : Hub := h.wr a (f.rd a)
    (h |> put Addr.SYS_DOME_STAGE_SIZE |> put Addr.SYS_DOME_DATA_SIZE |> put Addr.SYS_DOME_MIRROR_SIZE |>
      put Addr.SYS_DOME_CAPTURE_SIZE).regionApply r
  else h

/-- The code blocks go to the Turrets' code memories (R204). -/
def Hub.loadCode (h : Hub) (p : PlanImage) (code : List (Nat × Nat)) : Hub :=
  let words := (List.range 4).flatMap fun t =>
    let b := code.getD t (0, 0)
    (List.range b.2).map fun i => (16384 * t + i, p.w (b.1 + 4 * i))
  { h with sys.code := words, sys.count := (List.range 4).map fun t => (t, (code.getD t (0, 0)).2) }

/-- The values of BUDGET go to their registers (R207, R225). -/
def Hub.loadBudget (h : Hub) (b : Budget) : Hub :=
  let h := forIn' h.usedCtxs (fun c h =>
    let e := (b.ctxs.find? fun e => e.1 = c).getD (c, 0, 0)
    (h.wr (Addr.CTX_BUDGET (c / 64) (c % 64)) (wd e.2.1)).wr (Addr.CTX_RATE (c / 64) (c % 64)) (wd e.2.2)) h
  let h := forIn' (h.boundPorts.filter fun x => h.isOutput x.1 x.2) (fun x h =>
    h.wr (Addr.CTX_PORT_LIM (x.1 / 64) (x.1 % 64) x.2) (wd (b.streamRate (h.portSrc x.1 x.2)))) h
  forN 4 (fun t h =>
    let q := h.turretLoad b t / 1000
    let (v, h) := h.drawQuotient q.num q.den
    h.wr (Addr.TUR_LOAD_DECL t) (wdInt v)) h

/-- The kinds of the enabled streams (R290). -/
def Hub.showKinds (h : Hub) : Hub :=
  let outs := h.outStreams
  let caps := h.capStreams
  forN 1024 (fun s h => h.setFld (Addr.LED_STREAM s) 7 3 (((h.boundKind outs caps s).map Kind.code).getD 0)) h

/-- `PLAN_STATUS` after a load (R226). -/
def planWord (loaded : Bool) (st ix : Nat) : Word := wd ((if loaded then 1 else 0) + 256 * st + 65536 * ix)

/-- Step 12 (R208, R209): status, record index, hub. -/
def Hub.applyPlan (h : Hub) (r : Nat) (c : Checked) : Nat × Nat × Hub :=
  let p := c.img
  let h := (h.unloadPlan r).planSizes r c.final (p.setups.any fun x => isSizeReg x.2.addr)
  let h := h.loadCode p c.code
  let (fault, h) := setupRun r (p.setups.filter fun x => !isSizeReg x.2.addr) h
  match fault with
  | some (st, i) => (st, i, { h with sys.code := [], sys.count := [] }.wr Addr.SYS_PLAN_STATUS (planWord false st i))
  | none =>
    let h := forIn' c.data (fun d h => h.domeBytes d.1 d.2) h
    let setup := p.setups.map fun x => (x.2.addr, c.final.rd x.2.addr)
    let plan : Plan := { setup := setup, rates := c.budget.streams.map fun e => (e.1, e.2.1), mirror := c.mirror, used := h.usedCtxs, stage := h.stagePlan.1 }
    let h := { h with sys.plan := plan }
    let h := forIn' plan.used (fun c h => h.setCtx c { st := .idle }) h
    let h := (h.loadBudget c.budget).showKinds
    let h := ((h.wr Addr.SYS_PLAN_ID (p.w 0x10)).wr Addr.SYS_PLAN_REV (p.w 0x14)).wr Addr.SYS_PLAN_SIGNED (wd (if c.proven then 1 else 0))
    (OK, noRec, h.wr Addr.SYS_PLAN_STATUS (planWord true OK noRec))

/-- LOAD_PLAN of the image at `a` with length `len` (R208 to R210): status, result, hub. A failure is logged (R390). -/
def Hub.loadPlan (h : Hub) (r a len : Nat) : Nat × Nat × Hub :=
  let check := h.checkPlan a len
  let h := h.loadBuffer a len
  match check with
  | .error (st, ix) =>
    let keep := bitsOf (h.rd Addr.SYS_PLAN_STATUS) 0 8
    let h := h.wr Addr.SYS_PLAN_STATUS (wd (keep + 256 * st + 65536 * ix))
    (st, ix, h.report r 8 st 15 (wd (ix + 65536 * st)))
  | .ok c =>
    let (st, ix, h') := h.applyPlan r c
    if st = OK then (st, ix, h') else (st, ix, h'.report r 8 st 15 (wd (ix + 65536 * st)))

/-! ### Turret reset and ungating (R215, R425, R429) -/

/-- The registers of context `c` that a Turret reset restores (R425). -/
def Hub.resetWindow (h : Hub) (c : Nat) : Hub :=
  let t := c / 64
  let l := c % 64
  forIn' [Addr.CTX_PC t l, Addr.CTX_FAULT t l, Addr.CTX_PEND t l, Addr.CTX_SLOTS_MAX t l, Addr.CTX_FAULT_CNT t l]
    (fun a h => h.wr a 0#32) h

/-- The g and w of context `c` that the plan's SETUP sets are reapplied (R215); everything else of its window stays (R425). -/
def Hub.reapplySetup (h : Hub) (c : Nat) : Hub :=
  let lo := Addr.CTX_G (c / 64) (c % 64) 0
  forIn' (h.sys.plan.setup.filter fun s => decide (lo ≤ s.1) && decide (s.1 < lo + 0x80)) (fun s h => h.wr s.1 s.2) h

/-- A Turret reset begins (R34, R380, R425): its outputs' gaps begin, its locks are released, its stores not accepted are lost,
and so are the events in the crossings towards it. Its input buffers, which lie in the Dome, keep what they hold (R215, R425). -/
def Hub.turretReset (h : Hub) (r t : Nat) : Hub :=
  let h := forN 64 (fun l h => (h.ctxFinish r (64 * t + l)).releaseLocks r (64 * t + l)) h
  let h := h.masterReset r (turretId t)
  let h := { h with sys.turHeld := if h.sys.turHeld.contains t then h.sys.turHeld else t :: h.sys.turHeld,
                    sys.ungated := h.sys.ungated.filter (· != t),
                    ctl.toggles := h.ctl.toggles.filter fun p => p.1 / 64 ≠ t }
  let h := h.showHeld (turretId t) true
  let h := forIn' [Addr.TUR_ISSUE_CNT t, Addr.TUR_IDLE_CNT t, Addr.TUR_STALL_CNT t, Addr.TUR_BACKLOG_MAX t] (fun a h => h.wr a 0#32) h
  forN 64 (fun l h =>
    let c := 64 * t + l
    let h := h.resetWindow c
    if (h.ctx c).st = .unused then h
    else
      let outs := h.outPorts c
      let now := h.timeAt r
      let h := h.modCtx c fun x =>
        { x.openGaps outs now with
          st := .idle, slots := 0, waitt := none, stalled := false, acc := [], timeReqs := [], lastAct := none, paced := false }
      h.reapplySetup c) h

/-- TURRET_RESET_END (R215, R425, R429): 1 000 Turret cycles later the Turret leaves reset. -/
def turretResetEnd (r t : Nat) (h : Hub) : Hub :=
  if !h.sys.turHeld.contains t then h
  else
    let h := { h with sys.turHeld := h.sys.turHeld.filter (· != t) }
    let h := h.showHeld (turretId t) false
    let run := h.mode = .run || h.mode = .shadow
    let used := h.sys.plan.used.filter fun c => c / 64 = t
    let h := if run then forIn' used (fun c h => h.modCtx c fun x => { x with st := .wait }) h else h
    let h := if run && !used.isEmpty then h.setBit Addr.INRUSH_PEND (16 + t) true else h
    forN 64 (fun ch h => if h.dbGet 0 (turretId t) ch then h.mailActs r t ch else h) h

/-- TURRET_UNGATE (R429): in its inrush slot the clock of the first waiting Turret runs. -/
def turretUngate (r t : Nat) (h : Hub) : Hub :=
  if h.inrushFree r && h.bit Addr.INRUSH_PEND (16 + t) && (List.range t).all (fun u => !h.bit Addr.INRUSH_PEND (16 + u)) then
    let h := h.setBit Addr.INRUSH_PEND (16 + t) false
    { h with sys.inrushAt := some r,
             sys.ungated := if h.sys.ungated.contains t then h.sys.ungated else t :: h.sys.ungated }
  else h

end Sys2Proof.Machine
end

