-- ==== Sys2Proof/Machine/View.lean ====
section
/-!
DEFINITION. What a read of each register shows, without the read's side effects (R13, R15 and the register tables): the
registers that the hub computes, and the rest as stored.
-/

namespace Sys2Proof.Machine

/-- `LED_Q_STATUS` as shown (R313). -/
def Hub.queueStatus (h : Hub) (q : Nat) : Word :=
  let x := h.queue q
  let used := h.queueUsed q
  let b := putBit (putBit (h.rd (Addr.LED_Q_STATUS q)) 0 x.pkts.isEmpty) 1 (decide (used = h.queueCap q) && !x.pkts.isEmpty)
  putBit b 3 (decide (x.sentN < x.pkts.length))

/-- The filter registers that a preset replaces as read (R125, R146). -/
def Hub.presetView (h : Hub) (n c b : Nat) (v : Word) : Word :=
  match h.presetReads n c with
  | none => v
  | some (ls, ratio) =>
    if b = Addr.FCH_CFG 0 0 then putBits v 4 2 ls.length
    else if b = Addr.FCH_LEN1 0 0 then wd (ls.getD 0 0)
    else if b = Addr.FCH_LEN2 0 0 then wd (ls.getD 1 0)
    else if b = Addr.FCH_LEN3 0 0 then wd (ls.getD 2 0)
    else if b = Addr.FCH_DECIM 0 0 then wd ratio
    else v

/-- `OTP_STATUS` as shown (R404, R410). -/
def Hub.otpStatus (h : Hub) : Word :=
  let w := putBit (putBit (h.rd Addr.SYS_OTP_STATUS) 0 (h.sys.otpOwner.any (· != 0#32))) 1 h.sys.otpLock
  putBit w 2 h.sys.otpRun.isSome

/-- The snapshot bank of master `m` (R176). -/
def Hub.snapT (h : Hub) (m k : Nat) : Word := kxWord ((SMap.get (0, 0) h.lan.snaps m).1) k
def Hub.snapRaw (h : Hub) (m k : Nat) : Word := wd ((SMap.get (0, 0) h.lan.snaps m).2 / 2 ^ (32 * k))

/-- Registers of the Turrets, the filter islands and the Ledger that the hub computes. -/
def Hub.dataView (h : Hub) (a : Nat) (x : RegRef) : Word :=
  let b := x.row.base
  let v := h.rd a
  if b = Addr.TUR_STATUS 0 then h.turStatus x.i
  else if b = Addr.TUR_TAGS 0 then wd (h.tagsUsed x.i)
  else if b = Addr.TUR_BACKLOG 0 then wd (min (h.backlog x.i) (2 ^ 24 - 1))
  else if b = Addr.CTX_STATUS 0 0 then h.ctxStatus (64 * x.i + x.j)
  else if b = Addr.CTX_PORT_FILL 0 0 0 then wd ((h.ctx (64 * x.i + x.j)).buf x.k).fill
  else if b = Addr.FCH_GDELAY 0 0 then wd (h.filtCfg x.i x.j).span
  else if b = Addr.FCH_STATUS 0 0 then h.fchStatus x.i x.j
  else if b = Addr.FCH_CFG 0 0 || b = Addr.FCH_LEN1 0 0 || b = Addr.FCH_LEN2 0 0 || b = Addr.FCH_LEN3 0 0 ||
    b = Addr.FCH_DECIM 0 0 then h.presetView x.i x.j b v
  else if b = Addr.SEN_STATE 0 0 then h.senState x.i x.j
  else if b = Addr.CAPE_STATUS then h.capeStatus
  else if b = Addr.LED_STATUS then wd ((if h.drained then 1 else 0) + (if h.delivers then 2 else 0))
  else if b = Addr.LED_Q_WR 0 then wd (h.wPtr x.i)
  else if b = Addr.LED_Q_SEND 0 then wd (h.sPtr x.i)
  else if b = Addr.LED_Q_MARK 0 then wd (h.mPtr x.i)
  else if b = Addr.LED_Q_STATUS 0 then h.queueStatus x.i
  else if b = Addr.LED_S_PROD_LO 0 then wd (h.stream x.i).prod
  else if b = Addr.LED_S_PROD_HI 0 then wd ((h.stream x.i).prod / 2 ^ 32 % 65536)
  else if b = Addr.LED_S_ACK_LO 0 then wd (h.stream x.i).ack
  else if b = Addr.LED_S_ACK_HI 0 then wd ((h.stream x.i).ack / 2 ^ 32 % 65536)
  else v

/-- Registers of the Lantern, the lanes, Selail, the control plane, the system block and the test block that the hub
computes; `m` is the reading master. -/
def Hub.systemView (h : Hub) (r m a : Nat) (x : RegRef) : Word :=
  let b := x.row.base
  let v := h.rd a
  if b = Addr.TIME_NOW0 then h.snapT m 0
  else if b = Addr.TIME_NOW1 then h.snapT m 1
  else if b = Addr.TIME_NOW2 then h.snapT m 2
  else if b = Addr.RAW_NOW0 then h.snapRaw m 0
  else if b = Addr.RAW_NOW1 then h.snapRaw m 1
  else if b = Addr.RAW_NOW2 then h.snapRaw m 2
  else if b = Addr.TIME_STATE then (h.hopsNow (h.timeAt r)).timeStateWord r
  else if b = Addr.CRED_TX 0 then h.credTx x.i
  else if b = Addr.SEL_STATUS then h.selStatus r
  else if b = Addr.MB_PEEK 0 then (if h.mbFull x.i then v else 0#32)
  else if b = Addr.ELOG_STATUS then h.elogStatus
  else if b = Addr.ELOG_HEAD then h.elogHead
  else if b = Addr.ELOG_ENTRY 0 0 then h.elogEntry x.i x.j
  else if b = Addr.SAG_STATUS then h.sagStatus r
  else if b = Addr.SAG_L3_TIME then h.sagL3 r
  else if b = Addr.TP_STATUS then h.tpStatus
  else if b = Addr.SYS_OTP_STATUS then h.otpStatus
  else if b = Addr.SYS_OTP_OWNER 0 then h.sys.otpOwner.getD x.i 0#32
  else v

/-- A word of code memory, or none outside it (R204, R225). -/
def Hub.codeView (h : Hub) (a : Nat) : Option Word :=
  let o := a % 0x100000
  let t := (a - 0x43000000) / 0x100000
  if decide (0x43000000 ≤ a) && decide (a < 0x43400000) && decide (0x80000 ≤ o) && decide (o < 0x90000) then
    let i := (o - 0x80000) / 4
    some (if i < SMap.get 0 h.sys.count t then SMap.get 0#32 h.sys.code (16384 * t + i) else 0xFFFFFFFF#32)
  else none

/-- What an aligned read of register address `a` shows to master `m`; none where no register lies (R11). -/
def Hub.view (h : Hub) (r m a : Nat) : Option Word :=
  if isCurveWord a then some (h.rd a)
  else match h.codeView a with
    | some w => some w
    | none =>
      (regRef a).map fun x =>
        let blk := a / 0x1000000
        if x.row.acc = .wo then 0#32
        else if x.row.acc = .w1s then h.rd a
        else if decide (0x42 ≤ blk) && decide (blk ≤ 0x45) then h.dataView a x
        else h.systemView r m a x

end Sys2Proof.Machine
end

