-- ==== Sys2Proof/Machine/Commands.lean ====
section
/-!
DEFINITION. The commands of Belfry (R384 to R386, R414 to R424): taking a command word, the checks in the order of R414,
what each command does, and its response.
-/

namespace Sys2Proof.Machine

/-! ### Taking a command (R378, R384 to R386, R414) -/

/-- The opcodes of R415. -/
def opcodes : List Nat :=
  [0x00, 0x01, 0x02, 0x10, 0x11, 0x12, 0x13, 0x14, 0x20, 0x21, 0x22, 0x23, 0x24, 0x30, 0x31, 0x32, 0x40, 0x41, 0x50, 0x51, 0x52,
   0x60, 0x70, 0x71]

/-- The firmware runs: it is in stage FIRMWARE and in no restart (R370, R371, R410). -/
def Hub.firmware (h : Hub) : Bool := h.inFirmware && !h.ctl.belfryHeld

/-- How a command ends: answered now with status, RESULT and the hub, or later by an event of its own. -/
inductive Reply where
  | now (status result : Nat) (h : Hub)
  | later (h : Hub)

/-- A word that Belfry could take waits in channel `ch` (R385): bound to it, FULL, and none unanswered. -/
def Hub.wordWaits (h : Hub) (ch : Nat) : Bool := h.mbValid ch && h.mbReceiver ch = belfry && h.mbFull ch && !h.inflight ch

/-- How far channel `ch` comes after the one served last (R385). -/
def Hub.cmdTurn (h : Hub) (ch : Nat) : Nat := (ch + 63 - h.ctl.cmdLast) % 64

/-- Belfry can take a command from channel `ch` (R385): a word waits there, and in no channel whose turn comes before. -/
def Hub.commandReady (h : Hub) (ch : Nat) : Bool :=
  decide (ch < 64) && h.firmware && h.wordWaits ch &&
    (List.range 64).all fun k => decide (h.cmdTurn ch ≤ h.cmdTurn k) || !h.wordWaits k

/-- Belfry takes the word of channel `ch`, which is in flight from then on (R385, R386). -/
def Hub.commandTake (h : Hub) (ch : Nat) : Hub := { (h.mbTake ch belfry).2 with ctl.cmdLast := ch }

/-- `RESP_CH` is bound BELFRY to the command's sender (R385). -/
def Hub.respOk (h : Hub) (ch : Nat) : Bool :=
  h.mbValid (h.mbResp ch) && h.mbSender (h.mbResp ch) = belfry && h.mbReceiver (h.mbResp ch) = h.mbSender ch

/-- An ESTATE response: the present mode code, counted in CMD_REJECT, nothing else (R414). -/
def Hub.rejectState (h : Hub) (r ch : Nat) : Hub := (h.incSat Addr.SYS_CMD_REJECT 0 16 1).respond r ch ESTATE h.mode.code

/-- Belfry takes the word of channel `ch` and finds opcode `op`: legality by ARG, then the command `f` of ARG (R414). A word
with another defined opcode is another row's; one with an undefined opcode is answered EUNKNOWN. -/
def command (r ch op : Nat) (legal : Hub → Nat → Bool) (f : Nat → Hub → Reply) (h : Hub) : Hub :=
  let w := h.rd (Addr.MB_PEEK ch)
  let code := bitsOf w 24 8
  let arg := bitsOf w 0 16
  if !h.commandReady ch || (code ≠ op && opcodes.contains code) then h
  else
    let h := h.commandTake ch
    if !h.respOk ch then (h.setInflight ch false).report r 6 EBOUND 15 w
    else if code ≠ op then h.respond r ch EUNKNOWN 0
    else if !legal h arg then h.rejectState r ch
    else match f arg h with
      | .now st res h' => if st = ESTATE && op ≠ 0x10 then h.rejectState r ch else h'.respond r ch st res
      | .later h' => h'

/-- Word `k` of parameter slot `s` (R384). -/
def Hub.slotWord (h : Hub) (s k : Nat) : Word := h.domeWord (256 * s + 4 * k)

/-- Writes words into a parameter slot (R385). -/
def Hub.slotWrite (h : Hub) (s : Nat) (ws : List Word) : Hub := h.domeBytes (256 * s) (wordBytes ws)

/-- A command whose ARG is a slot (R385). -/
def withSlot (f : Nat → Hub → Reply) (arg : Nat) (h : Hub) : Reply := if arg ≤ 255 then f arg h else .now ERANGE 0 h

/-- A command whose ARG must not exceed `hi` (R415). -/
def withArg (hi : Nat) (f : Nat → Hub → Reply) (arg : Nat) (h : Hub) : Reply := if arg ≤ hi then f arg h else .now ERANGE 0 h

/-- Modes in which a command is legal (R415). -/
def inModes (l : List Mode) (h : Hub) (_ : Nat) : Bool := l.contains h.mode
def anyMode : List Mode := [.boot, .idle, .armed, .run, .shadow, .service]
def afterBoot : List Mode := [.idle, .armed, .run, .shadow, .service]

/-! ### NOP, PING, STATUS, ERRLOG_DRAIN (R392, R415, R422) -/

def nopCommand (r ch : Nat) : Hub → Hub := command r ch 0x00 (inModes anyMode) (withArg 0 fun _ h => .now OK 0 h)

def pingCommand (r ch : Nat) : Hub → Hub := command r ch 0x01 (inModes anyMode) fun arg h => .now OK arg h

/-- The summary in STATUS's RESULT (R422). -/
def Hub.summary (h : Hub) (r : Nat) : Nat :=
  h.mode.code + 8 * h.fld Addr.TIME_STATE 2 2 + 32 * bitsOf (h.selStatus r) 0 3 + (if h.planLoaded then 256 else 0) +
    (if h.drained then 512 else 0) + (if h.bit Addr.FIRST_ERR 31 then 1024 else 0)

/-- The words STATUS writes (R422). -/
def Hub.statusWords (h : Hub) (r : Nat) : List Word :=
  [Addr.SYS_MODE, Addr.TIME_STATE, Addr.SEL_STATUS, Addr.CALC_STATUS, Addr.LED_STATUS, Addr.ELOG_STATUS, Addr.SAG_STATUS,
   Addr.SYS_PLAN_ID].map fun a => (h.view r belfry a).getD 0#32

def statusCommand (r ch : Nat) : Hub → Hub :=
  command r ch 0x02 (inModes anyMode) (withSlot fun s h => .now OK (h.summary r) (h.slotWrite s (h.statusWords r)))

/-- ERRLOG_DRAIN (R392): up to 8 of the oldest entries. -/
def errlogDrain (r ch : Nat) : Hub → Hub :=
  command r ch 0x60 (inModes anyMode) (withSlot fun s h =>
    let es := h.ctl.elog.entries.take 8
    let h := (h.slotWrite s (es.flatMap LogEntry.words)).elogFree es.length
    .now OK (es.length + 256 * h.ctl.elog.entries.length) h)

/-! ### LOAD_PLAN, ARM, START, STOP, ABORT (R208 to R210, R416, R418) -/

def loadPlanCommand (r ch : Nat) : Hub → Hub :=
  command r ch 0x10 (fun h _ => h.mode = .idle || (h.mode = .service && !h.servicePlan)) (withSlot fun s h =>
    let (st, ix, h) := h.loadPlan r (h.slotWord s 0).toNat (h.slotWord s 1).toNat
    .now st ix h)

/-- Turrets with used contexts wait for their inrush slots (R429). -/
def Hub.ungateUsed (h : Hub) : Hub :=
  forN 4 (fun t h =>
    if (h.sys.plan.used.any fun c => c / 64 = t) && !h.sys.ungated.contains t then h.setBit Addr.INRUSH_PEND (16 + t) true else h) h

/-- ARM (R416): ARMED from the next frame boundary (R412). -/
def armCommand (r ch : Nat) : Hub → Hub :=
  command r ch 0x11 (inModes [.idle]) (withArg 1 fun arg h =>
    if !h.planLoaded || h.bit Addr.SYS_PLAN_STATUS 1 || !h.bit Addr.GRID_STATUS 0 then .now ESTATE 0 h
    else if h.tstate = 0 && arg = 0 then .now ETIME 0 h
    else .now OK 0 (h.ungateUsed.changeMode r .armed))

/-- The status of a frame instant named in three words, `margin` ahead of T (R416, R418). -/
def Hub.frameTimeStatus (h : Hub) (r : Nat) (w0 w1 w2 : Word) (margin : Nat) : Nat :=
  let t := instOf w0 w1 w2
  let now := h.timeAt r
  if !kxValid w0 w1 w2 || kxNs w0 w1 w2 % 80 ≠ 0 || bitsOf w0 0 16 ≠ 0 || decide (now + 86400 * secU < t) then ERANGE
  else if t < now + margin then ETIME
  else OK

/-- Alarm 15 armed with START at three time words (R194, R416). -/
def Hub.armStart (h : Hub) (r : Nat) (w0 w1 w2 : Word) : Hub :=
  let h := (h.fireFirst r 15).wr3 (Addr.ALM_TGT0 15) w0 w1 w2
  let h := ((h.wr (Addr.ALM_PER 15) 0#32).wr (Addr.ALM_PER_FRAC 15) 0#32).wr (Addr.ALM_ACTION 15) 8#32
  (h.armAlarm r 15 w0 w1 w2 0 8 (h.rd (Addr.ALM_CAPMASK 15))).2

/-- START (R416). -/
def startCommand (r ch : Nat) : Hub → Hub :=
  command r ch 0x12 (inModes [.armed]) (withSlot fun s h =>
    let st := h.frameTimeStatus r (h.slotWord s 0) (h.slotWord s 1) (h.slotWord s 2) (10 * msU)
    if st ≠ OK then .now st 0 h
    else if h.armed 15 && decide ((SMap.get {} h.lan.alarms 15).target ≤ h.timeAt r + 10 * msU) then .now EBUSY 0 h
    else .now OK 0 (h.armStart r (h.slotWord s 0) (h.slotWord s 1) (h.slotWord s 2)))

/-- A stop frame is scheduled (R418, R430). -/
def Hub.scheduleStop (h : Hub) (t : Nat) : Hub :=
  ({ h with sys.stopAt := some t }.setBit Addr.SYS_MODE 3 true).wrInst Addr.SYS_STOP_TIME0 t

/-- A STOP at `t`, or an ABORT, taken in ARMED (R412, R418): STARTED and the hub. Alarm 15's firing comes first; without one the
hub returns to IDLE at `t`, and after one it stops at the next frame boundary. -/
def Hub.stopArmed (h : Hub) (r t : Nat) : Nat × Hub :=
  let h := h.fireFirst r 15
  if h.mode = .armed then (0, (h.disarm 15).scheduleStop t)
  else (1, (h.disarm 15).scheduleStop (Sys2Proof.Machine.nextFrame (h.timeAt r)))

/-- STOP (R418). -/
def stopCommand (r ch : Nat) : Hub → Hub :=
  command r ch 0x13 (inModes [.armed, .run, .shadow]) fun arg h =>
    let next := arg = 0xFFFF
    if !next && decide (255 < arg) then .now ERANGE 0 h
    else
      let (w0, w1, w2) := (h.slotWord arg 0, h.slotWord arg 1, h.slotWord arg 2)
      let st := if next then OK else h.frameTimeStatus r w0 w1 w2 msU
      let t := if next then Sys2Proof.Machine.nextFrame (h.timeAt r) else instOf w0 w1 w2
      if st ≠ OK then .now st 0 h
      else if h.mode = .armed then
        let (s, h) := h.stopArmed r t
        .now OK s h
      else .now OK 1 (h.scheduleStop t)

/-- The head of lane `l`'s EYE_SCAN is written with status `st`, and the scan is over (R345, R423). -/
def Hub.scanHead (h : Hub) (l st : Nat) (s : EyeScan) : Hub :=
  let h := forIn' (([l, s.done, s.dwell, st] : List Nat).zipIdx) (fun p h => h.domeWrite (s.addr + 4 * p.2) 4 p.1) h
  (h.modLane l fun x => { x with eyeScan := none }).setBit (Addr.EYE_STATUS l) 0 false

/-- A running EYE_SCAN of lane `l` ends with EABORT (R418). -/
def Hub.endScan (h : Hub) (r l : Nat) : Hub :=
  match (h.lane l).eyeScan with
  | none => h
  | some s => (h.scanHead l EABORT s).respond r s.ch EABORT 0

def Hub.endScans (h : Hub) (r : Nat) : Hub := forN 4 (fun l h => h.endScan r l) h

/-- ABORT (R418, R419). -/
def abortCommand (r ch : Nat) : Hub → Hub :=
  command r ch 0x14 (inModes afterBoot) (withArg 0 fun _ h =>
    let h := h.endScans r
    match h.mode with
    | .idle => .now OK 0 h
    | .armed =>
      let (s, h) := h.stopArmed r (Sys2Proof.Machine.nextFrame (h.timeAt r))
      .now OK s h
    | .service => .now OK (if h.servicePlan then 1 else 0) (h.scheduleStop (Sys2Proof.Machine.nextFrame (h.timeAt r)))
    | _ => .now OK 1 (h.scheduleStop (Sys2Proof.Machine.nextFrame (h.timeAt r))))

/-! ### Trims and the calibration store (R155, R157, R159, R164, R165, R421) -/

def trimNowCommand (r ch : Nat) : Hub → Hub :=
  command r ch 0x20 (inModes afterBoot) (withArg 15 fun n h => .now OK 0 (trimRequest r n 4 h))

def trimHoldCommand (r ch : Nat) : Hub → Hub :=
  command r ch 0x21 (inModes afterBoot) (withArg 0 fun _ h => .now OK 0 (h.setBit Addr.CALC_STATUS 1 true))

def trimReleaseCommand (r ch : Nat) : Hub → Hub :=
  command r ch 0x22 (inModes afterBoot) (withArg 0 fun _ h => .now OK 0 (h.setBit Addr.CALC_STATUS 1 false))

/-- A save or restore is in progress. -/
def Hub.calBusy (h : Hub) : Bool := h.sys.calSave.isSome || h.sys.calRestore.isSome

/-- The status of the last CAL_SAVE, and of the last CAL_RESTORE (R168). -/
def Hub.saved (h : Hub) (st : Nat) : Hub := h.setFld Addr.CALC_SAVE_STATUS 0 8 st
def Hub.restored (h : Hub) (st : Nat) : Hub := h.setFld Addr.CALC_SAVE_STATUS 8 8 st

/-- CAL_SAVE (R164): the snapshot follows at a frame boundary. -/
def calSaveCommand (r ch : Nat) : Hub → Hub :=
  command r ch 0x23 (inModes afterBoot) fun arg h =>
    if arg ≠ 0 then .now ERANGE 0 (h.saved ERANGE)
    else if h.calBusy then .now EBUSY 0 (h.saved EBUSY)
    else .later ({ h with sys.calSave := some ch }.setBit Addr.CALC_STATUS 2 true)

/-- No trim is active on any spire. -/
def Hub.noTrimActive (h : Hub) : Bool := (List.range 16).all fun n => h.trimState n ≠ trimACTIVE

/-- CAL_SAVE_SNAPSHOT (R164): at a frame boundary with no trim active. -/
def calSaveSnapshot (r : Nat) (h : Hub) : Hub :=
  match h.sys.calSave with
  | none => h
  | some ch =>
    if !h.noTrimActive || h.ctl.belfryHeld then h
    else
      let h := h.domeBytes saveBase (h.saveBlock (h.timeAt r))
      let h := ({ h with sys.calSave := none }.setBit Addr.CALC_STATUS 2 false).saved OK
      h.respond r ch OK 0

/-- CAL_RESTORE (R165): the block is checked; its values take effect at a frame boundary. -/
def calRestoreCommand (r ch : Nat) : Hub → Hub :=
  command r ch 0x24 (inModes [.idle, .service]) fun arg h =>
    if arg ≠ 0 then .now ERANGE 0 (h.restored ERANGE)
    else match h.restoreFault with
      | some st => .now st 0 (h.restored st)
      | none =>
        if h.calBusy then .now EBUSY 0 (h.restored EBUSY)
        else .later { h with sys.calRestore := some ch, sys.calImage := h.restoreValues }

/-- CAL_RESTORE_APPLY (R165): at one frame boundary with no trim active. -/
def calRestoreApply (r : Nat) (h : Hub) : Hub :=
  match h.sys.calRestore with
  | none => h
  | some ch =>
    if !h.noTrimActive || h.ctl.belfryHeld then h
    else
      let h := h.applyRestore (frameOf (h.timeAt r)) h.sys.calImage
      let h := { h with sys.calRestore := none, sys.calImage := [] }.restored OK
      h.respond r ch OK 0

/-! ### Selail, service, lanes, time (R184, R335, R345, R419 to R421) -/

/-- A takeover or a handover of the pair is in progress (R420). -/
def Hub.pairBusy (h : Hub) : Bool := h.sel.hand.isSome || h.selState = selCLAIMING || h.sel.grant.isSome

/-- PROMOTE (R366, R420): a healthy standby proposes; a handover needs both hubs LOCKED. -/
def promoteCommand (r ch : Nat) : Hub → Hub :=
  command r ch 0x30 (inModes [.idle, .armed, .shadow]) (withArg 0 fun _ h =>
    if !h.paired || h.selState = selACTIVE then .now ESTATE 0 h
    else if h.pairBusy then .now EBUSY 0 h
    else if h.selState ≠ selSTANDBY || h.health r ≠ 31 || !h.bothLocked || !h.mayClaim r then .now ESTATE 0 h
    else .now OK 0 (h.propose r))

/-- DEMOTE (R357, R366, R420): towards a healthy peer a PROPOSE, and a handover is in progress; else the hub fences itself. -/
def demoteCommand (r ch : Nat) : Hub → Hub :=
  command r ch 0x31 (inModes [.idle, .armed, .run]) (withArg 0 fun _ h =>
    if !h.paired || h.selState = selSTANDBY then .now ESTATE 0 h
    else if h.pairBusy then .now EBUSY 0 h
    else if h.selState ≠ selACTIVE then .now ESTATE 0 h
    else if h.fld Addr.SEL_STATUS 8 5 = 31 && h.bothLocked then
      .now OK 0 ({ h with sel.hand := some { claimant := false } }.selPeer (h.timeAt r) mHANDOVER false (instWords 0 ++ [0#32]))
    else .now OK 0 (h.fence r))

/-- SET_PREFERRED (R420). -/
def setPreferredCommand (r ch : Nat) : Hub → Hub :=
  command r ch 0x32 (inModes afterBoot) (withArg 1 fun arg h =>
    if !h.pathOk then .now EBUSY 0 h
    else .now OK 0 { h.setBit Addr.SEL_CFG 17 (arg = 0) with sel.tellRole := true })

/-- A paired hub relinquishes its lease, its claim and a handover on entering SERVICE (R357, R419). -/
def Hub.relinquish (h : Hub) (r : Nat) : Hub :=
  if !h.paired then h
  else
    let h := { h.cancelHandover r with sel.retry := false }
    if h.selState = selACTIVE then (h.fence r).setSel selSTANDBY
    else if h.selState = selCLAIMING then h.withdraw
    else h

/-- SERVICE_ENTER (R419): SERVICE from the next frame boundary (R412), where a paired hub relinquishes its lease. -/
def serviceEnterCommand (r ch : Nat) : Hub → Hub :=
  command r ch 0x40 (inModes [.idle]) (withArg 1 fun arg h =>
    if arg = 1 && !h.planLoaded then .now ESTATE 0 h
    else
      let h := h.changeMode r .service
      if arg = 0 then .now OK 0 h
      else
        let t := (h.timeAt r + 10 * msU + frameU - 1) / frameU * frameU
        let h := h.ungateUsed.armStart r (kxWord t 0) (kxWord t 1) (kxWord t 2)
        .now OK 0 { h with sys.serviceStart := true })

/-- A mode that has waited for its frame boundary is entered (R412). -/
def Hub.enterMode (h : Hub) (r : Nat) (m : Mode) : Hub :=
  match m with
  | .idle => h.enterIdle r
  | .service => (h.relinquish r).setMode .service
  | _ => h.setMode m

/-- The frame boundary of a waiting mode, once RAW has reached it (R412; log entry 2). -/
def Hub.modeDue (h : Hub) (r : Nat) : Hub :=
  match h.sys.modeNext with
  | some (m, t) => if t ≤ h.timeAt r then { h with sys.modeNext := none }.enterMode r m else h
  | none => h

/-- SERVICE_EXIT (R412, R418, R419): a stop at the next frame boundary. -/
def serviceExitCommand (r ch : Nat) : Hub → Hub :=
  command r ch 0x41 (inModes [.service]) (withArg 0 fun _ h =>
    .now OK 0 (h.scheduleStop (Sys2Proof.Machine.nextFrame (h.timeAt r))))

def linkRetrainCommand (r ch : Nat) : Hub → Hub :=
  command r ch 0x50 (inModes afterBoot) (withArg 3 fun l h => .now OK 0 (h.retrain r l))

/-- EYE_SCAN (R345): answered when the last point is written. -/
def eyeScanCommand (r ch : Nat) : Hub → Hub :=
  command r ch 0x51 (inModes afterBoot) (withSlot fun s h =>
    let (st, h') := h.eyeScanStart ch (h.slotWord s)
    if st = OK then .later h' else .now st 0 h)

/-- TIME_SOURCE (R184). -/
def timeSourceCommand (r ch : Nat) : Hub → Hub :=
  command r ch 0x52 (inModes afterBoot) (withArg 3 fun src h =>
    let (st, h') := h.timeSource r src
    .now st 0 h')

/-! ### Resets by command (R424, R425) -/

/-- TURRET_RESET: the Turret is in reset from now (R215, R380, R425). -/
def turretResetCommand (r ch : Nat) : Hub → Hub :=
  command r ch 0x70 (inModes afterBoot) (withArg 3 fun t h => .now OK 0 (h.turretReset r t))

/-- The reset a HUB_RESET word selects (R424). -/
def resetKind (arg : Nat) : Option ResetKind :=
  let inst := arg / 16 % 16
  if arg / 256 ≠ 0xA5 then none
  else match arg % 16 with
    | 0 => if inst = 0 then some .hub else none
    | 1 => if inst = 0 then some .belfry else none
    | 2 => some (.spire inst)
    | 3 => if inst ≤ 3 then some (.lane inst) else none
    | _ => none

/-- HUB_RESET (R424): answered first; the reset follows 1 ms after its answer. In BOOT only kind HUB is legal. -/
def hubResetCommand (r ch : Nat) : Hub → Hub :=
  command r ch 0x71 (fun h arg => h.mode ≠ .boot || arg % 16 = 0) fun arg h =>
    match resetKind arg with
    | none => .now ERANGE 0 h
    | some k => .now OK 0 { h with sys.resets := h.sys.resets ++ [{ kind := k, ch := ch }] }

end Sys2Proof.Machine
end

