-- ==== Sys2Proof/Machine/Boot.lean ====
section
/-!
DEFINITION. Resets, the boot ROM, start-up and the one-time programmable memory (R148 to R150, R369 to R374, R402, R404,
R424 to R426, R435, R470).
-/

namespace Sys2Proof.Machine

/-! ### Hub resets (R16, R425, R435) -/

/-- Causes of `RESET_CAUSE` (R430). -/
def causePOWERON : Nat := 0
def causeRESETN : Nat := 1
def causeHUBRESET : Nat := 2
def causeBROWNOUT : Nat := 3

/-- A hub just after the release of a reset with the given cause (R425): every register at its reset value, the Dome
undefined, the OTP kept, and a REF_FREQ written since the last reset in force (R171). Input pins keep their levels; an OTP
programming that was running is lost. -/
def Hub.afterReset (h : Hub) (cause : Nat) : Hub :=
  let fresh : Hub :=
    { free := h.free, domeEpoch := h.domeEpoch + 1,
      sys := { otpOwner := h.sys.otpOwner, otpLock := h.sys.otpLock, powered := true },
      lan := { refFreq := if cause = causePOWERON then 0 else h.lan.refNext.getD h.lan.refFreq },
      pins := { bootSel := h.pins.bootSel, arbGrantIn := h.pins.arbGrantIn, tap := h.pins.tap } }
  ((fresh.wr Addr.SYS_RESET_CAUSE (wd cause)).setFld Addr.SYS_BOOT_STATUS 16 2 h.pins.bootSel).showGrant

/-- POWER_ON_RELEASE (R425, R435). -/
def powerOnRelease (h : Hub) : Hub := if h.sys.powered then h else h.afterReset causePOWERON

/-- POWER_LOSS (R435): the hub is held in reset. -/
def powerLoss (h : Hub) : Hub := { h.afterReset causePOWERON with sys.powered := false }

/-! ### Spire and lane resets (R425) -/

/-- An injection pending at a spire reset ends with EABORT (R425). -/
def Hub.abortInj (n : Nat) (e : InjEntry) (h : Hub) : Hub :=
  match e.who with
  | .ext m => ((h.setFld (Addr.INJ_RES n m) 16 8 EABORT).setBit (Addr.INJ_RES n m) 24 true).setBit (Addr.INJ_RES n m) 25 false
  | _ => h

/-- A spire reset (R425, R103, R115, R159); the samples are missing from the next frame on (R18, R122). A charge test that
was deferred is dropped, and the average of R107 starts anew (log entry 54). -/
def Hub.spireReset (h : Hub) (r n : Nat) : Hub :=
  let h0 := h
  let f := frameCeil (h.timeAt r)
  let s := h.spire n
  let h := forIn' (s.injQ ++ s.injWait) (Hub.abortInj n) h
  let drift := h.bit (Addr.SPIRE_STATUS n) 4
  let h := forIn' [Addr.SPIRE_STATUS n, Addr.ROT_STATUS n, Addr.SWAP_RESULT n, Addr.INJ_QUEUE n, Addr.FE_CLAMP_NOW n,
    Addr.FE_BREAK_NOW n, Addr.FE_CHG_RESET_ACT n, Addr.TRIM_STATUS n] (fun a h => h.wr a (resetValue a)) h
  let h := h.setBit (Addr.SPIRE_STATUS n) 4 drift
  let h := h.setBit Addr.CALC_TRIM_PEND n false
  let h := if h.fld Addr.CALC_STATUS 3 5 = n then h.setFld Addr.CALC_STATUS 3 5 0x1F else h
  let h := h.modSpire n fun s =>
    { s with staged := none, injQ := [], injWait := [], clampTail := 0, trimNow := false, refMissed := false, inReset := true,
             resetFrame := f, refSum := 0, refCount := 0, calRunning := h.bit Addr.CALC_STATUS 0 }
  let h := forN 32 (fun c h =>
    if (SMap.find h.chans (chNo n c)).isNone then h
    else (h.modChan (chNo n c) fun x =>
      { x with chg := .track, ctestDue := false, clP := .inside, clN := .inside, brks := [] }).noteChan h0 n c (f * frameU)) h
  h.noteSpire h0 n (f * frameU)

/-- SPIRE_RESET_END (R425): after 1 000 frames raw samples resume. -/
def spireResetEnd (r n : Nat) (h : Hub) : Hub :=
  let s := h.spire n
  if s.inReset && decide (s.resetFrame + 1000 ≤ frameOf (h.timeAt r)) then
    (h.setSpire n { s with inReset := false }).noteSpire h n (frameOf (h.timeAt r) * frameU)
  else h

/-- Registers of a lane that its reset restores, `LANE_STATUS` apart (R425). -/
def laneResetRegs (l : Nat) : List Nat :=
  [Addr.LANE_FEAT l, Addr.CNT_CRC l, Addr.CNT_MALF l, Addr.CNT_ABORT l, Addr.CNT_CODE l, Addr.CNT_DOWN l, Addr.CNT_TRAIN_FAIL l,
   Addr.FRAMES_TX l, Addr.FRAMES_RX l, Addr.CNT_DISCARD l, Addr.TS_SEQ l, Addr.CNT_PAUSE l, Addr.CNT_ETH_DROP l,
   Addr.CNT_PTP_IGN l, Addr.EYE_STATUS l, Addr.EYE_CNT_LO l, Addr.EYE_CNT_HI l] ++
  (List.range 9).map (Addr.PEER_CAP l) ++
  (List.range 3).flatMap fun k => [Addr.TS_T1 l k, Addr.TS_T2 l k, Addr.TS_T3 l k, Addr.TS_T4 l k]

/-- A lane reset (R425): DISABLED for 1 ms. The bits of `LANE_STATUS` that show pins stay as the pins are (R335). -/
def Hub.laneReset (h : Hub) (r l : Nat) : Hub :=
  let h := (h.endScan r l).leaveActive r l sDISABLED
  let pins := h.rd (Addr.LANE_STATUS l) &&& 0x180#32
  let h := forIn' (laneResetRegs l) (fun a h => h.wr a (resetValue a)) h
  let h := h.wr (Addr.LANE_STATUS l) pins
  h.modLane l fun x => { x with
    fails := 0, holdTx := none, nonce := 0#32, peerNonce := none, echoed := none, heardEcho := false, creds := [0, 0, 0, 0],
    freed := [0, 0, 0, 0], heard := [0, 0, 0, 0], adv := 0#32, txq := [], sent := none, tx := {}, air := none, mac := none, rx := {},
    upPending := false, stageAt := r, linkAt := none, syncSeq := 0, respGot := false, syncAt := none, pause := none,
    inReset := true }

/-- LANE_RESET_END (R425, R335): after 1 ms the lane restarts. -/
def laneResetEnd (r l : Nat) (h : Hub) : Hub :=
  if (h.lane l).inReset && h.stageFor r l 1 then
    let h := h.modLane l fun x => { x with inReset := false }
    h.laneEnable r l (h.laneEn l)
  else h

/-! ### Belfry resets (R18, R159, R186, R370, R380, R381, R386, R425) -/

/-- A Belfry reset; `why` is what the firmware will log after its restart. Commands that wait in firmware are lost, a HUB_RESET not
yet answered among them; a save or a restore ends with EABORT (R168, R386). Belfry's private memory but the firmware store is as
after a hub reset (R369, R370, R425). A reset that meets the ROM or a restart only adds to what will be logged (log entry 56). -/
def Hub.belfryReset (h : Hub) (r : Nat) (why : List (Nat × Word)) : Hub :=
  if !h.firmware then { h with ctl.restartLog := h.ctl.restartLog ++ why }
  else
    let h := (h.masterReset r belfry).showHeld belfry true
    let h := (h.setBit Addr.CALC_STATUS 1 false).setBit Addr.CALC_STATUS 2 false
    let h := if h.timeState = 1 then h.setTimeState r 2 else h
    let h := if h.sys.calSave.isSome then h.saved EABORT else h
    let h := if h.sys.calRestore.isSome then h.restored EABORT else h
    { h with ctl.belfryHeld := true, ctl.restartLog := h.ctl.restartLog ++ why, ctl.waiting := [],
             sys.calSave := none, sys.calRestore := none, sys.calImage := [], sys.planBuf := [], sys.work := [],
             sys.resets := h.sys.resets.filter fun x => x.posted.isSome }

/-- LOCKSTEP_MISMATCH (R370) at program counter `pc`. -/
def lockstepMismatch (r : Nat) (pc : Word) (h : Hub) : Hub :=
  (h.incSat Addr.SYS_LOCKSTEP_CNT 0 16 1).belfryReset r [(26, pc)]

/-- WATCHDOG_EXPIRY (R370). -/
def watchdogExpiry (r : Nat) (h : Hub) : Hub :=
  (h.incSat Addr.SYS_WDOG_CNT 0 16 1).belfryReset r [(27, 0#32)]

/-- A command that was in flight at a Belfry reset is answered EABORT and logged (R386); its EYE_SCAN is over, with that status in
the result's head (R423). -/
def Hub.abortInflight (r ch : Nat) (h : Hub) : Hub :=
  if h.inflight ch then
    let h := forN 4 (fun l h =>
      match (h.lane l).eyeScan with
      | some s => if s.ch = ch then h.scanHead l EABORT s else h
      | none => h) h
    let h := if h.respOk ch then h.respond r ch EABORT 0xFFFF else h.setInflight ch false
    h.report r 6 EABORT 15 (h.rd (Addr.MB_LASTREAD ch))
  else h

/-! ### HUB_RESET, one millisecond later (R424, R425) -/

/-- The HUB_RESET that is due: the first answered 1 ms ago (R424). -/
def Hub.resetDue (h : Hub) (r : Nat) : Option ResetReq :=
  h.sys.resets.find? fun x => x.posted.any fun t => decide (t + msU ≤ r)

/-- RESET_DELAY_EXPIRY (R424): the reset that HUB_RESET asked for. -/
def resetDelayExpiry (r : Nat) (h : Hub) : Hub :=
  match h.resetDue r with
  | none => h
  | some x =>
    let h' := { h with sys.resets := h.sys.resets.erase x }
    match x.kind with
    | .hub => h'.afterReset causeHUBRESET
    | .belfry => h'.belfryReset r [(27, 0#32)]
    | .spire n => h'.spireReset r n
    | .lane l => h'.laneReset r l

/-- The hub reset part of RESET_DELAY_EXPIRY, after which RAW waits for the PLL's first lock (R170). -/
def Hub.hubResetDue (h : Hub) (r : Nat) : Bool := (h.resetDue r).any fun x => x.kind = .hub

/-! ### The boot ROM (R371 to R374) -/

/-- `BOOT_STATUS` (R410). -/
def Hub.bootStage (h : Hub) : Nat := h.fld Addr.SYS_BOOT_STATUS 0 4
def Hub.setBootStage (h : Hub) (s : Nat) : Hub := h.setFld Addr.SYS_BOOT_STATUS 0 4 s
def stageROM : Nat := 0
def stageLOADA : Nat := 1
def stageLOADB : Nat := 2
def stageWAITHOST : Nat := 3
def stageVERIFY : Nat := 4
def stageFIRMWARE : Nat := 5
def stageHALTED : Nat := 6

/-- A failure of the boot: `ERR`, and the log entry of class BOOT (R374, R390). -/
def Hub.bootError (h : Hub) (r st : Nat) : Hub :=
  (h.setFld Addr.SYS_BOOT_STATUS 8 8 st).report r 7 st 15 (wd h.bootStage)

/-- BOOT_ROM_START (R371): the straps are sampled at the release of reset. -/
def bootRomStart (r : Nat) (sel : Nat) (h : Hub) : Hub :=
  if h.mode ≠ .boot || h.bootStage ≠ stageROM then h
  else
    let h := { h with pins.bootSel := sel % 4 }.setFld Addr.SYS_BOOT_STATUS 16 2 sel
    match sel % 4 with
    | 1 => h.setBootStage stageWAITHOST
    | 3 => (h.setBootStage stageHALTED).bootError r EUNKNOWN
    | _ => h.setBootStage stageLOADA

/-- The little-endian word at byte `o` of an image. -/
def imageWord (img : List Byte) (o : Nat) : Nat := ofBytes ((img.drop o).take 4)

/-- The first check of R374 that an image fails. -/
def imageFault (img : List Byte) : Option Nat :=
  let len := imageWord img 0x0C
  let key := (img.drop (len - 128)).take 64
  let sig := (img.drop (len - 64)).take 64
  if imageWord img 0 ≠ 0x57464B42 then some ESIG
  else if imageWord img 4 ≠ 1 then some EVERSION
  else if len < 0x100 ∨ 1048576 < len ∨ len % 4 ≠ 0 ∨ img.length ≠ len then some ESIZE
  else if sha256 key ≠ Config.romKeyHash ∨ !ecdsaOk key (sha256 (img.take (len - 64))) sig then some ESIG
  else none

/-- The firmware store holds a valid image (R370, R374). Only the ROM writes it, so that one verified before is valid still. -/
def Hub.storeValid (h : Hub) : Bool := h.sys.fwOk || (imageFault h.sys.fwStore).isNone

/-- What Belfry resets left for the log is written once the firmware runs (R370). -/
def Hub.writeRestartLog (h : Hub) (r : Nat) : Hub :=
  forIn' h.ctl.restartLog (fun e h => h.report r e.1 0 15 e.2) { h with ctl.restartLog := [] }

/-- BELFRY_RESTART (R370, R381, R386): the ROM verifies the store again and restarts the firmware; a store that fails leaves the ROM
in HALTED (log entry 56). -/
def belfryRestart (r : Nat) (h : Hub) : Hub :=
  if !h.ctl.belfryHeld then h
  else if !h.storeValid then (h.setBootStage stageHALTED).bootError r ((imageFault h.sys.fwStore).getD ESIG)
  else
    let h := { h with ctl.belfryHeld := false }.showHeld belfry false
    (forN 64 (fun ch h => h.abortInflight r ch) h).writeRestartLog r

/-- The firmware runs (R375, R410, R470): its bindings, its version, and REF_FREQ of its configuration (R171). The rest of
its configuration is written before IDLE. -/
def Hub.runFirmware (h : Hub) (r source : Nat) (cfg : List SetupWrite) : Hub :=
  let h := ((h.setBootStage stageFIRMWARE).setFld Addr.SYS_BOOT_STATUS 4 4 source).wr Addr.SYS_FW_VER
    (wd (imageWord h.sys.fwStore 8 % 65536))
  let h := { h with sys.fwOk := true, sys.image := cfg.filter fun w => w.1 != Addr.LAN_CFG }.bindCommands
  (forIn' (cfg.filter fun w => w.1 = Addr.LAN_CFG) (fun w h => h.regStore r belfry w.1 w.2) h).writeRestartLog r

/-- The ROM has copied an image into the firmware store and verifies it (R374, R426). -/
def Hub.startVerify (h : Hub) (source : Nat) (img : List Byte) (cfg : List SetupWrite) : Hub :=
  { h.setBootStage stageVERIFY with sys.fwStore := img, sys.fwOk := false, sys.verify := some (source, cfg) }

/-- Where the ROM goes when the image of a source fails (R371, R373). -/
def Hub.afterFailure (h : Hub) (source : Nat) : Nat :=
  if source = 0 then stageLOADB
  else if source = 2 || h.fld Addr.SYS_BOOT_STATUS 16 2 = 2 then stageWAITHOST
  else stageHALTED

/-- The verification ends (R371, R374, R426): the firmware runs, or the next source is tried. -/
def Hub.verifyDone (h : Hub) (r : Nat) : Hub :=
  match h.sys.verify with
  | none => h
  | some (source, cfg) =>
    let h := { h with sys.verify := none }
    match imageFault h.sys.fwStore with
    | none => h.runFirmware r source cfg
    | some st => (h.bootError r st).setBootStage (h.afterFailure source)

/-- FIRMWARE_LOADED (R371, R372, R374): an image read from flash, and the configuration it carries. -/
def firmwareLoaded (img : List Byte) (cfg : List SetupWrite) (h : Hub) : Hub :=
  if h.bootStage = stageLOADA then h.startVerify 0 img cfg
  else if h.bootStage = stageLOADB then h.startVerify 1 img cfg
  else h

/-- BOOT_CTRL_WRITE (R373): the ROM copies the host's image of length `v` and verifies it. Outside WAIT_HOST the write has no
effect. -/
def bootCtrlStore (r : Nat) (v : Word) (cfg : List SetupWrite) (h : Hub) : Hub :=
  let len := bitsOf v 0 21
  if h.bootStage ≠ stageWAITHOST then h
  else if len = 0 || decide (1048576 < len) then h.bootError r ESIZE
  else h.startVerify 2 ((List.range len).map fun i => h.domeByte (0x800000 + i)) cfg

/-! ### Boot calibration (R148 to R150, R426, R470) -/

/-- A measured calibration value other than those of `BootCal`'s tables (R148, R163): the registers of R166 and the
temperatures. -/
def Hub.calValue (w : SetupWrite) (h : Hub) : Hub :=
  match regRef w.1 with
  | some x =>
    if [Addr.VREF_CAL 0, Addr.SLICE_COEF 0 0 0, Addr.FE_TABLE 0 0 0].contains x.row.base then h
    else if isCalReg x.row.base then h.wr w.1 (if x.row.wm = 0#32 then w.2 &&& 0xFFFF#32 else w.2 &&& x.row.wm)
    else if x.row.base = Addr.TEMP_NOW 0 then h.wr w.1 (w.2 &&& 0xFFFF#32)
    else h
  | none => h

/-- A channel's active trim after boot calibration (R149). -/
def Hub.bootTrim (n c : Nat) (h : Hub) : Hub :=
  let cfg := h.rd (Addr.FE_CFG n c)
  let t := tableTrim (h.rd (Addr.FE_TABLE n c (tableEntry cfg)))
  ((h.wr (Addr.TRIM_OFS n c) t.1).wr (Addr.TRIM_GAIN n c) t.2).wr (Addr.TRIM_KEY n c) (keyOf cfg)

/-- Slices of spire `n` that failed their calibration twice (R150): marked FAILED and never used; where one of the five in
service is among them, the spire runs STALLED on its first five good slices. -/
def Hub.failSlices (n : Nat) (failed : List Nat) (h : Hub) : Hub :=
  let h := forIn' failed (fun s h => h.setBit (Addr.ROT_STATUS n) (9 + s) true) h
  if failed.any (· < 5) then
    let order := ((List.range 6).filter fun s => !failed.contains s) ++ (List.range 6).filter failed.contains
    let h := (h.setRot n rotSTALLED).setBit (Addr.SPIRE_STATUS n) 5 true
    let h := forN 6 (fun k h => h.setFld (Addr.SLICE_MAP n) (4 * k) 3 (order.getD k 0)) h
    h.setFld (Addr.ROT_STATUS n) 0 3 (order.getD 5 0)
  else h

/-- The outcome of Solve for a slice (R151 to R153): offset and non-linearity in 1/16 code, the gain in Q2.30, the 32
coefficients. -/
structure SolveRun where
  ofs : Int
  gain : Int
  inl : Int
  coef : List Word
  deriving DecidableEq, Repr

def SolveRun.ok (x : SolveRun) : Bool := solveOk x.ofs x.gain x.inl

/-- What boot calibration measures (R148, R150): by spire the difference of Sn_VREF from nominal in 1/16 code; by spire and
slice the calibration, and its repetition, which counts where the first fails; by spire, channel and entry the offset and gain
of the front-end table; the other calibration values and the temperatures by address. -/
structure BootCal where
  refs : List (Fin 16 × Int)
  slices : List (Fin 16 × Fin 6 × SolveRun × SolveRun)
  table : List (Fin 16 × Fin 32 × Fin 16 × Word × Word)
  vals : List SetupWrite
  deriving DecidableEq, Repr

/-- The slices of spire `n` whose calibration failed twice (R150). -/
def BootCal.failed (b : BootCal) (n : Nat) : List Nat :=
  (b.slices.filter fun x => x.1.val = n && !x.2.2.1.ok && !x.2.2.2.ok).map fun x => x.2.1.val

/-- Spire `n` fails boot calibration (R150). -/
def BootCal.bad (b : BootCal) (n : Nat) : Bool :=
  (b.refs.any fun x => x.1.val = n && decide (vrefNominal < 100 * (x.2.natAbs : Int))) || !(b.failed n).isEmpty ||
    b.table.any fun x => x.1.val = n && !trimOk x.2.2.2.1 x.2.2.2.2

/-- The values measured go to their registers; one outside its limits stays in use all the same (R148, R150). -/
def Hub.bootValues (h : Hub) (b : BootCal) : Hub :=
  let h := forIn' b.vals Hub.calValue h
  let h := forIn' b.refs (fun x h => h.wr (Addr.VREF_CAL x.1) (wdInt x.2 &&& 0xFFFF#32)) h
  let h := forIn' b.slices (fun x h =>
    let run := if x.2.2.1.ok then x.2.2.1 else x.2.2.2
    forN 32 (fun k h => h.wr (Addr.SLICE_COEF x.1 x.2.1 k) (run.coef.getD k 0#32)) h) h
  let h := forIn' b.table (fun x h => h.wr (Addr.FE_TABLE x.1 x.2.1 x.2.2.1) (tableWord x.2.2.2.1 x.2.2.2.2)) h
  forN 16 (fun n h => h.setFld (Addr.TEMP_LAST_TRIM n) 0 16 (h.fld (Addr.TEMP_NOW n) 0 16)) h

/-- No sample held before the end of boot calibration is used: nothing is remembered of what held then. -/
def Hub.forgetMarks (h : Hub) : Hub :=
  let h := forIn' (h.chans.map Prod.fst) (fun g h => h.modChan g fun x => { x with marks := [] }) h
  forIn' (h.spires.map Prod.fst) (fun n h => h.modSpire n fun s => { s with marks := [] }) h

/-- A spire that failed boot calibration: its bit, a log entry, its slices (R150). -/
def Hub.bootFail (r : Nat) (b : BootCal) (n : Nat) (h : Hub) : Hub :=
  let h := h.failSlices n (b.failed n)
  if b.bad n then (h.setBit Addr.CALC_BOOT_FAIL n true).report r 9 0 belfry (wd (n + 256 * (b.failed n).headD 0)) else h

/-- BOOT_CAL_COMPLETE (R148 to R150, R412, R426, R470): the end of boot calibration, and IDLE at the next frame boundary. -/
def bootCalComplete (r : Nat) (b : BootCal) (h : Hub) : Hub :=
  if h.mode ≠ .boot || !h.firmware || !h.sys.pllLocked || h.bit Addr.CALC_STATUS 0 then h
  else
    let h := forN 512 (fun g h => h.bootTrim (g / 32) (g % 32)) (h.bootValues b)
    let h := (forN 16 (Hub.bootFail r b) h).forgetMarks
    let h := (h.setBit Addr.CALC_STATUS 0 true).setFld Addr.CALC_STATUS 3 5 0x1F
    let h := forIn' h.sys.image (fun w h => h.regStore r belfry w.1 w.2) h
    { h with sys.image := [] }.changeMode r .idle

/-! ### OTP (R404, R405) -/

/-- A programming refused (R404): the status, and class SECURITY. -/
def Hub.otpRefuse (h : Hub) (r m st : Nat) : Hub :=
  ({ h with sys.otpStep := none }.setFld Addr.SYS_OTP_STATUS 8 8 st).report r 25 st m (wd st)

/-- The second word of a sequence by master `m`, within 1 ms of the first; `lock` tells the debug lock from the hash
(R404). -/
def Hub.otpStart (h : Hub) (r m : Nat) (lock : Bool) : Hub :=
  let words := (List.range 8).map fun k => SMap.get 0#32 h.sys.otpStage k
  if h.sys.otpStep ≠ some m || decide (h.sys.otpAt + msU < r) || h.mode ≠ .idle || (m ≠ spi && m ≠ jtag) then h.otpRefuse r m ESTATE
  else if !lock && (h.sys.otpOwner.any (· != 0#32) || h.sys.otpRun.any Option.isSome) then h.otpRefuse r m ELOCKED
  else if !lock && words.all (· == 0#32) then h.otpRefuse r m ERANGE
  else if h.sys.otpRun.isSome then h.otpRefuse r m EBUSY
  else { h with sys.otpStep := none, sys.otpRun := some (if lock then none else some words), sys.otpRunAt := r }

/-- A write to `OTP_CTRL` (R404): the sequence's words; others have no effect. -/
def otpCtrlStore (r m : Nat) (v : Word) (h : Hub) : Hub :=
  if v = 0x4F50#32 then { h with sys.otpStep := some m, sys.otpAt := r }
  else if v = 0x574B#32 then h.otpStart r m false
  else if v = 0x444C#32 then h.otpStart r m true
  else h

/-- A write to `OTP_STAGE[k]` (R404). -/
def otpStageStore (k : Nat) (v : Word) (h : Hub) : Hub := { h with sys.otpStage := SMap.put h.sys.otpStage k v }

/-- OTP_SEQUENCE_TIMEOUT (R404): 1 ms after the first word. -/
def otpSequenceTimeout (r : Nat) (h : Hub) : Hub :=
  match h.sys.otpStep with
  | some m => if h.sys.otpAt + msU ≤ r then h.otpRefuse r m ESTATE else h
  | none => h

/-- The TAP instruction that a hub offers where `i` is loaded (R405): once the debug lock is blown, any but the four named selects
BYPASS. -/
def Hub.tapShown (h : Hub) (i : TapInstr) : TapInstr := if h.sys.otpLock && i = .other then .bypass else i

/-- OTP_PROGRAM_COMPLETE (R404, R405): after 20 ms. -/
def otpProgramComplete (r : Nat) (h : Hub) : Hub :=
  match h.sys.otpRun with
  | none => h
  | some k =>
    if r < h.sys.otpRunAt + 20 * msU then h else
    let h := { h with sys.otpRun := none }.setFld Addr.SYS_OTP_STATUS 8 8 OK
    match k with
    | some words => { h with sys.otpOwner := words }
    | none =>
      let h := { h with sys.otpLock := true }
      { h with pins.tap := h.tapShown h.pins.tap }

end Sys2Proof.Machine
end

