-- ==== Sys2Proof/Machine/Bus.lean ====
section
/-!
DEFINITION. Accesses by masters (R11, R13, R15, R29 to R31, R36, R37, R373, R413), the SPI target port (R393 to R396) and
the management bridge (R397 to R401, R469).
-/

namespace Sys2Proof.Machine

/-! ### Permissions (R11, R36, R37, R373, R405) -/

/-- Dome permissions of R37. -/
def domeAllowed (m : Nat) (write : Bool) : Option Region → Bool
  | none => false
  | some g =>
    if m = belfry || m = jtag then true
    else if decide (1 ≤ m) && decide (m ≤ 4) then (if write then g = .data || g = .capture else g != .journal)
    else if m = spi || m = uplink then (if write then g = .system || g = .data else true)
    else m = twin && write && g = .mirror

/-- The control plane: mailboxes, locks, error log, binding table, system and ID (R35, R37). -/
def isControl (a : Nat) : Bool := decide (0x40000000 ≤ a) && decide (a < 0x40005000)

/-- A context window of Turret `t` (R225). -/
def isWindow (t a : Nat) : Bool :=
  decide (0x43040000 + 0x100000 * t ≤ a) && decide (a < 0x43050000 + 0x100000 * t)

/-- Register permissions of R37. -/
def regAllowed (m : Nat) (write : Bool) (a : Nat) : Bool :=
  if isControl a || !write then true
  else if decide (1 ≤ m) && decide (m ≤ 4) then isWindow (m - 1) a
  else m != twin

/-- Some register, user curve or code word lies at `a`. -/
def isMapped (a : Nat) : Bool :=
  isCurveWord a || (regRef a).isSome ||
    (decide (0x43000000 ≤ a) && decide (a < 0x43400000) && decide (0x80000 ≤ a % 0x100000) && decide (a % 0x100000 < 0x90000))

/-- An access of `size` bytes at `a` by master `m` is performed (R11, R36, R37, R373, R405). -/
def Hub.accessOk (h : Hub) (m : Nat) (write : Bool) (a size : Nat) : Bool :=
  let dome := a < domeSize
  let form := if dome then (size = 1 || size = 2 || size = 4) && a % size = 0 else size = 4 && a % 4 = 0 && isMapped a
  form && !(m = jtag && h.sys.otpLock) &&
    (if h.bootStage = stageWAITHOST then
      (m = spi || m = jtag) && (dome || (decide (0x40004000 ≤ a) && decide (a < 0x40005000)))
    else if dome then domeAllowed m write (h.region a)
    else regAllowed m write a)

/-! ### Writes (R31, R413) -/

/-- The registers that R94, R105, R134, R169, R285 and R312 restrict to a loaded plan. -/
def planRestricted (a : Nat) : Bool :=
  isCurveWord a ||
  match regRef a with
  | none => false
  | some x =>
    let b := x.row.base
    [Addr.FE_CFG 0 0, Addr.FE_AUX 0 0, Addr.EXC_CFG 0, Addr.EXC_REV 0, Addr.SLOT_TBL 0 0, Addr.APT_CFG 0 0, Addr.ROT_CFG 0,
      Addr.SWAP_TOL 0, Addr.FI_CTRL 0, Addr.CALC_TRIM_CFG, Addr.LED_CFG, Addr.LED_Q_CFG 0, Addr.LED_Q_TIME 0,
      Addr.LED_STREAM 0].contains b ||
    (x.row.acc = .rw && (a / 0x1000000 = 0x42 || (a / 0x1000000 = 0x44 && b != Addr.CAPE_LOG_CFG)))

/-- A write to a register that only a plan may change in RUN (R413). -/
def Hub.restrictedStore (h : Hub) (r m a : Nat) (v : Word) : Hub :=
  if h.mode = .service then
    let h' := h.regStore r m a v
    let taken := h'.rd (Addr.ELOG_CLASS_CNT 1) = h.rd (Addr.ELOG_CLASS_CNT 1)
    if h.planLoaded && taken then h'.setBit Addr.SYS_PLAN_STATUS 1 true else h'
  else if !h.planLoaded && (h.mode = .boot || h.mode = .idle) then h.regStore r m a v
  else h.refuse r m a ESTATE

/-- A performed write of a register; `cfg` is the configuration a host image carries (R470). -/
def Hub.registerWrite (h : Hub) (r m a : Nat) (v : Word) (cfg : List SetupWrite := []) : Hub :=
  if a = Addr.SYS_BOOT_CTRL then bootCtrlStore r v cfg h
  else if a = Addr.SYS_OTP_CTRL then otpCtrlStore r m v h
  else if decide (Addr.SYS_OTP_STAGE 0 ≤ a) && decide (a < Addr.SYS_OTP_STAGE 8) then
    otpStageStore ((a - Addr.SYS_OTP_STAGE 0) / 4) v h
  else if planRestricted a then h.restrictedStore r m a v
  else h.regStore r m a v

/-- Records whether master `m`'s access was performed (R395, R398). -/
def Hub.setOk (h : Hub) (m : Nat) (b : Bool) : Hub := { h with ctl.readOk := SMap.put h.ctl.readOk m b }

/-- Whether master `m`'s last access was performed. -/
def Hub.lastOk (h : Hub) (m : Nat) : Bool := SMap.get true h.ctl.readOk m

/-- A write by master `m` of `size` bytes at `a` (R11, R31, R36, R37); UPLINK never writes `MGMT_CFG` (R399). -/
def Hub.busWrite (h : Hub) (r m a size : Nat) (v : Word) (cfg : List SetupWrite := []) : Hub :=
  if !h.accessOk m true a size || (m = uplink && a = Addr.SYS_MGMT_CFG) then (h.deny r m a).setOk m false
  else if a < domeSize then (h.domeWrite a size v.toNat).setOk m true
  else (h.registerWrite r m a v cfg).setOk m true

/-- A write of a whole register. -/
def Hub.write (h : Hub) (r m a : Nat) (v : Word) : Hub := h.busWrite r m a 4 v

/-! ### Reads (R13, R15, R176, R178, R378, R387) -/

/-- A performed read of a register: the value, and what the read does. The largest TUR_BACKLOG since a read begins with the one that
stands then (R225). -/
def Hub.registerRead (h : Hub) (r m a : Nat) : Word × Hub :=
  match regRef a with
  | none => ((h.view r m a).getD 0#32, h)
  | some x =>
    let b := x.row.base
    if b = Addr.MB_DATA 0 then h.mbTake x.i m
    else if b = Addr.LOCK 0 then h.lockRead x.i m
    else if b = Addr.TIME_NOW0 then
      (let h := h.snapshot r m
       (h.snapT m 0, h))
    else if b = Addr.TRIG_IN_TS0 0 then h.trigPop x.i
    else if b = Addr.TUR_BACKLOG_MAX 0 then ((h.view r m a).getD 0#32, h.setFld a 0 24 (h.backlog x.i))
    else ((h.view r m a).getD 0#32, if x.row.rc = 0#32 then h else h.wr a (h.rd a &&& ~~~x.row.rc))

/-- A read by master `m` of `size` bytes at `a`: what it returns. -/
def Hub.busReadValue (h : Hub) (r m a size : Nat) : Word × Hub :=
  if !h.accessOk m false a size then (0#32, (h.deny r m a).setOk m false)
  else if a < domeSize then (wd (h.domeRead a size), h.setOk m true)
  else
    let (v, h) := h.registerRead r m a
    (v, h.setOk m true)

/-- A read by master `m`, with the word it returned kept for that master. -/
def Hub.busRead (h : Hub) (r m a size : Nat) : Hub :=
  let (v, h) := h.busReadValue r m a size
  { h with ctl.readData := SMap.put h.ctl.readData m v }

/-- A read of a whole register. -/
def Hub.read (h : Hub) (r m a : Nat) : Hub := h.busRead r m a 4

/-! ### Held crossings (R29, R30, R389) -/

/-- CROSSING_STUCK (R29): crossing `k` has been held for more than 1 ms. -/
def crossingStuck (r k : Nat) (h : Hub) : Hub := (h.incSat Addr.CLK_CROSS_STUCK_CNT 0 16 1).report r 3 0 belfry (wd k)

/-- A read abandoned by bridge `m` (R30): logged, and still to complete. -/
def Hub.abandonRead (h : Hub) (r m a : Nat) : Hub :=
  let h := h.report r 2 ETIME m (wd a)
  { h with ctl.abandoned := h.ctl.abandoned ++ [(m, a)] }

/-- BRIDGE_TIMEOUT (R30): a read by SPI, UPLINK or JTAG held for 10 µs completes as 0. SPI's is its READ in progress. -/
def bridgeTimeout (r m a : Nat) (h : Hub) : Hub :=
  if m = spi then
    if h.ctl.spi.busy then
      { h.abandonRead r m h.ctl.spi.addr with
        ctl.spi.busy := false, ctl.spi.rdy := true, ctl.spi.result := 0#32, ctl.spi.status := ETIME }
    else h
  else if m = uplink || m = jtag then
    { (h.abandonRead r m a).setOk m false with ctl.readData := SMap.put h.ctl.readData m 0#32 }
  else h

/-- ABANDONED_READ_COMPLETE (R30, R378, R389): the oldest abandoned read takes effect and its data is discarded; a lock it
acquired is released. -/
def abandonedReadComplete (r : Nat) (h : Hub) : Hub :=
  match h.ctl.abandoned with
  | [] => h
  | (m, a) :: rest =>
    let h := { h with ctl.abandoned := rest }
    if !h.accessOk m false a 4 || decide (a < domeSize) then h
    else
      let (v, h) := h.registerRead r m a
      if decide (Addr.LOCK 0 ≤ a) && decide (a < Addr.LOCK 32) && v = 0#32 then h.lockBreak r m ((a - Addr.LOCK 0) / 4) else h

/-! ### The SPI target port (R393 to R396) -/

/-- What every frame does at the fall of SPIS_CS_N (R395, R396): `SPI_STAT` and the data phase as the bridge stands. -/
def Hub.spiFrame (h : Hub) : Hub :=
  let p := h.ctl.spi
  let stat := wd (p.status + 256 * p.rdy.toNat + 512 * p.busy.toNat + 1024 * h.irq.toNat + 65536 * (p.seq % 65536))
  { h with ctl.spi.stat := stat, ctl.spi.data := if p.rdy then p.result else 0#32, ctl.spi.seq := (p.seq + 1) % 65536 }

/-- The address of a frame's address word (R394). -/
def spiAddr (w : Word) : Nat := w.toNat / 4 * 4

/-- SPI_WRITE (R394, R396). -/
def spiWrite (r : Nat) (w v : Word) (h : Hub) : Hub :=
  let busy := h.ctl.spi.busy
  let h := h.spiFrame
  if busy then { h with ctl.spi.status := EBUSY }
  else
    let h := h.busWrite r spi (spiAddr w) 4 v
    { h with ctl.spi.status := if h.lastOk spi then OK else ERANGE }

/-- SPI_READ (R394, R396): the read starts. -/
def spiRead (w : Word) (h : Hub) : Hub :=
  let busy := h.ctl.spi.busy
  let h := h.spiFrame
  if busy then { h with ctl.spi.status := EBUSY }
  else { h with ctl.spi.busy := true, ctl.spi.rdy := false, ctl.spi.addr := spiAddr w }

/-- SPI_NOP (R394). -/
def spiNop (h : Hub) : Hub := h.spiFrame

/-- SPI_BAD_FRAME (R393, R394). -/
def spiBadFrame (h : Hub) : Hub := h.spiFrame.incSat Addr.SYS_SPI_ERR_CNT 0 16 1

/-- SPI_READ_COMPLETE (R395, R396). -/
def spiReadComplete (r : Nat) (h : Hub) : Hub :=
  if h.ctl.spi.busy then
    let (v, h) := h.busReadValue r spi h.ctl.spi.addr 4
    { h with ctl.spi.busy := false, ctl.spi.rdy := true, ctl.spi.result := v,
             ctl.spi.status := if h.lastOk spi then OK else ERANGE }
  else h

/-! ### The management bridge (R397 to R400, R469) -/

/-- The accesses of a WRITE (R398): stops at the first not performed; the status and the words done. -/
def mgmtWrites (r : Nat) (fixed : Bool) : Nat → Nat → List Word → Hub → Nat × Nat × Hub
  | _, done, [], h => (OK, done, h)
  | a, done, v :: vs, h =>
    let h := h.busWrite r uplink a 4 v
    if h.lastOk uplink then mgmtWrites r fixed (if fixed then a else a + 4) (done + 1) vs h else (ERANGE, done, h)

/-- The accesses of a READ (R398); access `held`, if any, is held beyond 10 µs: the status, the words read, and the hub. -/
def mgmtReads (r : Nat) (fixed : Bool) (held : Option Nat) : Nat → Nat → Nat → Hub → Nat × List Word × Hub
  | 0, _, _, h => (OK, [], h)
  | n + 1, i, a, h =>
    if held = some i then (ETIME, [], h.abandonRead r uplink a)
    else
      let (v, h) := h.busReadValue r uplink a 4
      if h.lastOk uplink then
        let (st, vs, h) := mgmtReads r fixed held n (i + 1) (if fixed then a else a + 4) h
        (st, v :: vs, h)
      else (ERANGE, [], h)

/-- A RESP payload (R397): `COUNT` is the number of data words that follow. -/
def respPayload (tag st done : Nat) (data : List Word) : List Word :=
  [wd (3 + 256 * tag + 65536 * data.length), wd (st + 256 * done)] ++ data

/-- A RESP goes out (R398, R469): on a hub that is not the gateway, on the uplink lane it came in on. -/
def Hub.sendResp (h : Hub) (r l : Nat) (p : KeptResp) : Hub :=
  let t := h.timeAt r
  let f : Frame :=
    { type := if p.bulk then tMGMTBULK else tMGMT, addr := if p.up then aUP else aPOS, dst := p.src, payload := p.payload }
  if h.liveRole l = rUPLINK && !h.isGateway then
    h.enqueue l { frame := h.ownFrame { f with addr := aPOS }, since := t }
  else h.originate t f

/-- What a management payload asks, with the status it fails with: executed as master UPLINK (R398, R399). -/
def Hub.mgmtExecute (h : Hub) (r : Nat) (bulk : Bool) (held : Option Nat) (p : List Word) : Nat × Nat × List Word × Hub :=
  let w := p.getD 0 0#32
  let a := (p.getD 1 0#32).toNat
  let n := bitsOf w 16 9
  let fixed := w.getLsbD 4
  let op := bitsOf w 0 4
  if op ≠ 1 ∧ op ≠ 2 then (EUNKNOWN, 0, [], h)
  else if n = 0 ∨ (if bulk then 510 else 64) < n ∨ p.length ≠ 2 + (if op = 2 then n else 0) then (ESIZE, 0, [], h)
  else if op = 2 then
    if h.bit Addr.SYS_MGMT_CFG 4 then (ELOCKED, 0, [], h)
    else
      let (st, done, h) := mgmtWrites r fixed a 0 (p.drop 2) h
      (st, done, [], h)
  else
    let (st, vs, h) := mgmtReads r fixed held n 0 a h
    (st, vs.length, vs, h)

/-- A management request received on lane `l` and addressed to this hub (R398 to R400). -/
def Hub.mgmtRequest (h : Hub) (r l : Nat) (held : Option Nat) (f : Frame) : Hub :=
  let w := f.payload.getD 0 0#32
  let tag := bitsOf w 8 8
  let up := w.getLsbD 5
  let bulk := f.type = tMGMTBULK
  if !h.bit Addr.SYS_MGMT_CFG l then h.report r 24 0 15 (wd f.src)
  else match h.ctl.resps.find? fun k => k.src = f.src && k.tag = tag && k.up = up && decide (r ≤ k.sent + 100 * msU) with
    | some k => (h.report r 24 0 15 (wd f.src)).sendResp r l k
    | none =>
      let (st, done, data, h) := h.mgmtExecute r bulk held f.payload
      let k : KeptResp := { src := f.src, tag := tag, up := up, sent := r, payload := respPayload tag st done data, bulk := bulk }
      { h with ctl.resps := (k :: h.ctl.resps).take 8 }.sendResp r l k

/-- A received management frame (R323, R329, R397), of the type and the operation `op` that its row names. -/
def mgmtFrame (r l : Nat) (x : RxFrame) (bulk : Bool) (op : Nat) (held : Option Nat) (h : Hub) : Hub :=
  rxFrame r l x (fun f h =>
    if f.type = (if bulk then tMGMTBULK else tMGMT) && bitsOf (f.payload.getD 0 0#32) 0 4 = op then h.mgmtRequest r l held f else h) h

/-- DOORBELL_FRAME_SEND (R401). -/
def doorbellFrameSend (r : Nat) (h : Hub) : Hub :=
  if h.bit Addr.SYS_MGMT_CFG 5 && h.dbPending uplink then
    let words := [dbAddr 0 uplink 0, dbAddr 0 uplink 32, dbAddr 1 uplink 0, dbAddr 1 uplink 32, dbAddr 2 uplink 0,
      dbAddr 2 uplink 32].map h.rd
    h.originate (h.timeAt r)
      { type := tMGMT, addr := if h.bit Addr.SYS_MGMT_CFG 6 then aUP else aPOS, dst := h.fld Addr.SYS_MGMT_CFG 7 6,
        payload := wd (4 + 65536 * 6) :: words }
  else h

end Sys2Proof.Machine
end

