-- ==== Sys2Proof/Machine/Operands.lean ====
section
/-!
DEFINITION. The operand forms of the commands: what a master or the line brings with it, and the frames and messages read
out of a received payload.
-/

namespace Sys2Proof.Machine

/-- The size of an access (R36). -/
inductive AccSize where
  | byte | half | word
  deriving DecidableEq, Repr

def AccSize.bytes : AccSize → Nat
  | .byte => 1
  | .half => 2
  | .word => 4

/-- The two ways to select a time source (R184): a command on a channel, or a write of TIME_SRC. -/
inductive TimeSource where
  | command (ch : Fin 64)
  | write (m : Fin 9) (v : Word)
  deriving DecidableEq, Repr

/-- TIME_SOURCE (R184, R186). -/
def TimeSource.run (q : TimeSource) (r : Nat) (h : Hub) : Hub :=
  match q with
  | .command ch => timeSourceCommand r ch h
  | .write m v => h.write r m Addr.TIME_SRC v

/-- The operations of a management payload that are neither READ nor WRITE (R397), by ordinal. -/
def mgmtOtherOp (k : Fin 14) : Nat := if k.val = 0 then 0 else k.val + 2

/-! ### Frames -/

/-- A received frame, delivered to `f` where this hub takes it and it is of the type `t` that its row names. -/
def RxFrame.link (x : RxFrame) (r l t : Nat) (f : Frame → Hub → Hub) (h : Hub) : Hub :=
  rxFrame r l x (fun y h => if y.type = t then f y h else h) h

/-- The type of a Selail frame, and its message (R322, R365). -/
def selailType (bulk : Bool) : Nat := if bulk then tSELAILBULK else tSELAIL
def Frame.msg (f : Frame) : Nat := bitsOf (f.payload.getD 0 0#32) 0 8

/-- The kind of a HANDOVER message: PROPOSE 0, ACCEPT 1, CONFIRM 2, CANCEL 3 (R365). -/
def Frame.handKind (f : Frame) : Nat := bitsOf (f.payload.getD 9 0#32) 0 2

/-- A received Selail message (R365). -/
def RxFrame.selail (x : RxFrame) (r l msg : Nat) (bulk : Bool) (f : Frame → Hub → Hub) (h : Hub) : Hub :=
  rxFrame r l x (fun y h => if y.type = selailType bulk && y.msg = msg then f y h else h) h

/-- A received HANDOVER message of the given kind (R365). -/
def RxFrame.handover (x : RxFrame) (r l kind : Nat) (f : Frame → Hub → Hub) (h : Hub) : Hub :=
  rxFrame r l x (fun y h => if y.type = tSELAIL && y.msg = mHANDOVER && y.handKind = kind then f y h else h) h

/-- The content of a SPAN_TRIG frame (R271, R324). -/
def Frame.spanMsg (f : Frame) : SpanMsg :=
  let w (k : Nat) : Word := f.payload.getD k 0#32
  { pos := bitsOf (w 0) 0 6, id := bitsOf (w 0) 6 4, seq := bitsOf (w 0) 10 8, src := bitsOf (w 0) 18 4,
    time := instOf (w 1) (w 2) (w 3) }

/-- The entries of an acknowledgement payload: stream and NEXT (R305). -/
def ackEntries : Nat → List Word → List (Nat × Nat)
  | n + 1, a :: b :: t => (bitsOf a 0 10, bitsOf a 16 16 + 65536 * b.toNat) :: ackEntries n t
  | _, _ => []

/-- The message of a LACK payload (R305). -/
def Frame.ackMsg (f : Frame) : AckMsg :=
  let w := f.payload.getD 0 0#32
  { ver := bitsOf w 4 4, pairId := bitsOf w 8 16, epoch := (f.payload.getD 1 0#32).toNat,
    entries := ackEntries (bitsOf w 24 8) (f.payload.drop 2) }

/-- A LACK frame's payload is an ACK or a NACK (R305). -/
def lackPayload (r : Nat) (f : Frame) (h : Hub) : Hub :=
  match bitsOf (f.payload.getD 0 0#32) 0 4 with
  | 1 => ackMessage r false f.ackMsg h
  | 2 => ackMessage r true f.ackMsg h
  | _ => h

end Sys2Proof.Machine
end

