-- ==== Sys2Proof/Syntax.lean ====
section
/-!
DEFINITION. The commands: one constructor per row of spec/opcode_table.json, in the table's order, with what the command
brings from outside. A bus write row carries the writing master and the written word; a row named after a field's write
sets that field whatever the word holds there. An Amixel instruction's row carries the context that comes to it: the
operands are in the code word at the context's PC. A command row carries the mailbox channel that holds its word.
-/

namespace Sys2Proof

open Sys2Proof.Machine

/-- A master ID (R8). -/
abbrev MasterIx := Fin 9

/-- A spire, or its filter island (R1). -/
abbrev SpireIx := Fin 16

/-- A local channel of a spire (R1). -/
abbrev ChanIx := Fin 32

/-- A context: Turret × 64 + local context (R2). -/
abbrev CtxIx := Fin 256

/-- A Turret (R2). -/
abbrev TurretIx := Fin 4

/-- A capture unit (R256). -/
abbrev UnitIx := Fin 32

/-- An alarm (R191). -/
abbrev AlarmIx := Fin 16

/-- A lane (R314). -/
abbrev LaneIx := Fin 4

/-- A journal queue (R297). -/
abbrev QueueIx := Fin 64

/-- A stream (R290). -/
abbrev StreamIx := Fin 1024

/-- A mailbox channel (R375). -/
abbrev BoxIx := Fin 64

/-- A lock (R387). -/
abbrev LockIx := Fin 32

/-- TRIG_IN0 to TRIG_IN3, and PPS_IN (R178). -/
abbrev TrigInIx := Fin 5

/-- A TRIG_OUT pin (R197). -/
abbrev TrigOutIx := Fin 4

/-- A clock crossing (R464). -/
abbrev CrossIx := Fin 43

/-- A Dome region with a size register: STAGE, DATA, MIRROR, CAPTURE (R41). -/
abbrev RegionIx := Fin 4

/-- A user curve, 32 to 47 as 0 to 15 (R91). -/
abbrev CurveIx := Fin 16

/-- A word of a user curve (R91). -/
abbrev CurveWordIx := Fin 512

/-- A conversion slot: 0 to 31 of the table, 32 to 39 of the house column (R100). -/
abbrev SlotIx := Fin 40

/-- A sag level (R427). -/
abbrev SagIx := Fin 4

/-- The straps BOOT_SEL (R371). -/
abbrev BootSel := Fin 4

/-- A PAUSE time in quanta of 512 bit times (R341). -/
abbrev PauseTime := Fin 65536

/-- A management operation but READ and WRITE, by ordinal (R397). -/
abbrev MgmtOp := Fin 14

/-- The commands of the hub. -/
inductive Instr where
  /-- REGISTER_WRITE (R13). A master writes a register that has no row of its own, under its access code and block rules. -/
  | registerWrite (m : MasterIx) (a : Word) (size : AccSize) (v : Word)
  /-- RC_FIELD_READ (R15). A read of an RC field returns its value and clears it, keeping any event counted in the same
  cycle. -/
  | rcFieldRead (m : MasterIx) (a : Word) (size : AccSize)
  /-- CROSSING_STUCK (R29). A handshake crossing held for more than 1 ms gets an error-log entry and increments
  CLK.CROSS_STUCK_CNT. -/
  | crossingStuck (k : CrossIx)
  /-- BRIDGE_TIMEOUT (R30). An SPI, UPLINK or JTAG bridge read held for 10 us completes as a read of 0 and is logged. -/
  | bridgeTimeout (m : MasterIx) (a : Word)
  /-- ABANDONED_READ_COMPLETE (R30). A read abandoned by a bridge completes when the clock returns; its RC effect takes
  place and its data is discarded. -/
  | abandonedReadComplete
  /-- TOGGLE_ACK_COMPLETE (R32). The acknowledge of a toggle crossing completes and exactly one merged pending event is
  delivered. -/
  | toggleAckComplete (c : CtxIx)
  /-- DOME_REGION_SIZE_WRITE (R41). A write to a Dome region size register recomputes every base and the JOURNAL size, or is
  refused. -/
  | domeRegionSizeWrite (m : MasterIx) (k : RegionIx) (v : Word)
  /-- FE_CFG_WRITE (R46). A write to FE_CFG or FE_AUX is checked for reserved encodings and awaits the next frame boundary. -/
  | feCfgWrite (m : MasterIx) (n : SpireIx) (c : ChanIx) (aux : Bool) (v : Word)
  /-- FE_CFG_TAKE_EFFECT (R467). At the next frame boundary the new front-end settings apply; a MODE change clears the
  channel's filter paths. -/
  | feCfgTakeEffect (n : SpireIx) (c : ChanIx)
  /-- COMMON_MODE_TRIP (R51). An input ball beyond +-5.2 V replaces the channel's code with a saturated code carrying OVR. -/
  | commonModeTrip (n : SpireIx) (c : ChanIx) (p : BallLevel) (q : BallLevel)
  /-- RTD_COMPLIANCE_EXCEEDED (R52). The RTD P ball rises above 4.5 V and the channel's raw samples carry OVR. -/
  | rtdComplianceExceeded (n : SpireIx) (c : ChanIx) (exceeds : Bool)
  /-- CHARGE_RAIL_REACHED (R57). The charge amplifier output reaches its +-4.5 V rail detector and the code saturates with
  OVR. -/
  | chargeRailReached (n : SpireIx) (c : ChanIx) (l : BallLevel)
  /-- CLAMP_CONDUCT (R72). An input ball clamp conducts; the channel is marked clamped with OVR and its spire neighbours
  carry SUSPECT. -/
  | clampConduct (n : SpireIx) (c : ChanIx) (p : BallLevel) (q : BallLevel)
  /-- CLAMP_SUSPECT_END (R73). 16 frames after a clamped channel stops conducting, SUSPECT marking of the other channels of
  the spire ends. -/
  | clampSuspectEnd (n : SpireIx) (c : ChanIx)
  /-- FE_CHG_RESET_WRITE (R59). A 1 written to a channel's FE_CHG_RESET bit requests a manual charge reset. -/
  | feChgResetWrite (m : MasterIx) (n : SpireIx) (v : Word)
  /-- CHARGE_RESET_AUTO (R59). A raw code reaching 90 % of range requests a charge reset under AUTO. -/
  | chargeResetAuto (n : SpireIx) (c : ChanIx) (code : Int)
  /-- CHARGE_RESET_PERIODIC (R59). A whole multiple of RST_PER from the stream epoch requests a charge reset under PERIODIC. -/
  | chargeResetPeriodic (n : SpireIx) (c : ChanIx)
  /-- CHARGE_RESET_START (R60). At the next frame boundary after a request the reset switch closes and raw samples are
  marked RESET. -/
  | chargeResetStart (n : SpireIx) (c : ChanIx)
  /-- CHARGE_RESET_SWITCH_OPEN (R60). After 2 frames in RESET the switch opens and the channel enters SETTLE. -/
  | chargeResetSwitchOpen (n : SpireIx) (c : ChanIx)
  /-- CHARGE_RESET_SETTLED (R60). After 2 frames in SETTLE the channel returns to TRACK and RESET marking stops. -/
  | chargeResetSettled (n : SpireIx) (c : ChanIx)
  /-- CHARGE_TEST_DUE (R110). At its network instant a channel's charge test is queued as an internal injected conversion,
  or deferred while resetting. -/
  | chargeTestDue (n : SpireIx) (c : ChanIx)
  /-- CHARGE_TEST_COMPLETE (R85). A charge test's two conversions complete; Cs is computed and written, and a break is
  declared after two low results. -/
  | chargeTestComplete (n : SpireIx) (c : ChanIx)
  /-- EXC_ENABLE (R429). EN set to 1 is accepted at once and waits for an inrush slot before reaching the driver. -/
  | excEnable (m : MasterIx) (n : SpireIx) (v : Word)
  /-- INRUSH_EXC_ENABLE (R429). In the next free inrush slot, a waiting excitation enable reaches its driver, which ramps to
  level. -/
  | inrushExcEnable (n : SpireIx)
  /-- EXC_DISABLE (R62). EN set to 0 turns the driver outputs off from ON, LIMIT or TRIPPED. -/
  | excDisable (m : MasterIx) (n : SpireIx) (v : Word)
  /-- EXC_LIMIT_ENTER (R466). Driver current reaches the limit; LIMIT is set, counted, and BRIDGE samples carry SUSPECT. -/
  | excLimitEnter (n : SpireIx) (uA : Nat)
  /-- EXC_LIMIT_EXIT (R62). Driver current below the limit for 16 frames clears LIMIT and returns to ON. -/
  | excLimitExit (n : SpireIx) (uA : Nat)
  /-- EXC_TRIP (R62). 100 ms continuous in LIMIT turns the outputs off, sets TRIP and writes an error-log entry. -/
  | excTrip (n : SpireIx)
  /-- EXC_TRIP_RESTART (R62). A 1 written to EXC_STATUS.TRIP with EN = 1 restarts the driver as from OFF. -/
  | excTripRestart (m : MasterIx) (n : SpireIx) (v : Word)
  /-- REVERSE_NOW (R69). A write of EXC_CTRL.REVERSE_NOW reverses excitation as an excitation change, or is refused while
  REV_EN = 1. -/
  | reverseNow (m : MasterIx) (n : SpireIx) (v : Word)
  /-- EXC_REVERSAL (R68). At a scheduled reversal instant the polarity swaps and the blank frames are replaced by the last
  demodulated sample. -/
  | excReversal (n : SpireIx)
  /-- EXC_SENSE_BREAK (R79). Three consecutive frames of low sense or high force-minus-sense declare an excitation or sense
  break. -/
  | excSenseBreak (n : SpireIx)
  /-- PROBE_BALL_READ (R81). The diagnostic multiplexer reads a probed ball single-ended, at least every 10 us. -/
  | probeBallRead (n : SpireIx) (c : ChanIx) (pBall : Bool)
  /-- BREAK_CLEAR (R78). A break condition absent for 100 ms clears FE_BREAK_NOW and emits a REPAIRED event record. -/
  | breakClear (n : SpireIx) (c : ChanIx) (m : BreakMethod)
  /-- USER_CURVE_WRITE (R93). A write to a user curve word is checked against the VALID conditions or refused. -/
  | userCurveWrite (m : MasterIx) (n : SpireIx) (k : CurveIx) (w : CurveWordIx) (v : Word)
  /-- SCHED_COMMIT (R103). A write of SCHED_CTRL.COMMIT checks the pending slot table and delays, reporting in SCHED_STATUS. -/
  | schedCommit (m : MasterIx) (n : SpireIx) (v : Word)
  /-- SCHED_COMMIT_APPLY (R103). At the next frame boundary a passing pending schedule and delays take effect together. -/
  | schedCommitApply (n : SpireIx)
  /-- RAW_CODE_CONVERT (R98). A slice code enters the spire-to-filter FIFO 14 grid clocks after its conversion slot. -/
  | rawCodeConvert (n : SpireIx) (slot : SlotIx) (f : Nat) (code : Int) (pair : Option (Int × Int))
  /-- REF_CHECK_AVERAGE (R107). After 4 096 frames the reference check average is compared with the calibration value. -/
  | refCheckAverage (n : SpireIx)
  /-- INJ_REQ (R111). A master write to INJ_REQ queues a spot conversion or is refused with ERANGE or EBUSY. -/
  | injReq (m : MasterIx) (n : SpireIx) (v : Word)
  /-- INTERNAL_INJ_REQUEST (R112). An internal probe or charge-test request enters the injection queue, waiting if full or
  trimmed. -/
  | internalInjRequest (n : SpireIx) (who : InjWho) (node : Nat)
  /-- INJ_COMPLETE (R111). An injected conversion completes and posts CODE, OVR, STATUS and the aperture time. -/
  | injComplete (n : SpireIx)
  /-- SPARE_CAL_START (R118). Belfry starts spire n's first spare calibration n x 15 625 frames after boot calibration. -/
  | spareCalStart (n : SpireIx)
  /-- SLICE_CAL_COMPLETE (R152). A spare slice calibration ends with Solve; coefficients replace the old ones or the failure
  counts as an abort. -/
  | sliceCalComplete (n : SpireIx) (ofs : Int) (gain : Int) (inl : Int) (coef : List Word)
  /-- ROT_ENABLE (R115). ROT_EN set to 1 moves a PARKED rotation to SHADOW. -/
  | rotEnable (m : MasterIx) (n : SpireIx) (v : Word)
  /-- SWAP_COMPARE_DONE (R114). 256 frames of shadow comparison close and the result is computed. -/
  | swapCompareDone (n : SpireIx)
  /-- SWAP_VERDICT (R115). Two frames after the window a PASS, NODATA, MEAN or PEAK verdict moves the rotation on. -/
  | swapVerdict (n : SpireIx)
  /-- DRAIN_QUEUE_CLOSE (R115). At a frame boundary with no external entry pending the queue closes for a house-column swap. -/
  | drainQueueClose (n : SpireIx)
  /-- DRAIN_FORCED (R115). CAL_DEFER_MAX in DRAIN closes the queue to external requests and sets FORCED. -/
  | drainForced (n : SpireIx)
  /-- SLICE_SWAP (R115). In GAP_WAIT the incoming slice takes over the column at a frame boundary and the outgoing becomes
  spare. -/
  | sliceSwap (n : SpireIx)
  /-- FILTER_OUTPUT (R123). An output is computed from its window of present samples and leaves the island within 300
  cycles. -/
  | filterOutput (n : SpireIx) (c : ChanIx)
  /-- FILTER_COMMIT (R131). A write of FI_CTRL.COMMIT checks the pending filter configuration and reports in
  FI_COMMIT_STATUS. -/
  | filterCommit (m : MasterIx) (n : SpireIx) (v : Word)
  /-- FILTER_COMMIT_APPLY (R132). At frame boundary C the committed configuration applies and changed channels' paths are
  cleared. -/
  | filterCommitApply (n : SpireIx)
  /-- SENTRY_HIT_START (R281). A crossing in QUIET starts a hit and sends a trigger to the capture units. -/
  | sentryHitStart (n : SpireIx) (c : ChanIx)
  /-- HIT_LOST_LOG (R283). When the hit FIFO has room again a lost hit is logged as HIT_LOST. -/
  | hitLostLog (n : SpireIx)
  /-- SENTRY_HIT_END (R281). HDT without a crossing ends the hit with a summary and enters LOCKOUT. -/
  | sentryHitEnd (n : SpireIx) (c : ChanIx)
  /-- SENTRY_HIT_LONG (R281). A hit lasting 2^20 samples ends with a LONG summary and enters LOCKOUT. -/
  | sentryHitLong (n : SpireIx) (c : ChanIx)
  /-- SENTRY_LOCKOUT_END (R281). HLT after the hit returns the detector to QUIET. -/
  | sentryLockoutEnd (n : SpireIx) (c : ChanIx)
  /-- TEMP_UPDATE (R147). Every 1 ms the spire temperature mean is written to TEMP_NOW and trim conditions are evaluated. -/
  | tempUpdate (n : SpireIx)
  /-- DIE_TEMP_READ (R168). Every 1 ms the die-centre sensor reading is written to CALC.DIE_TEMP. -/
  | dieTempRead (v : Word)
  /-- TRIM_EVALUATION (R157). Every 1 ms and at each trim end Belfry chooses and issues the oldest eligible trim request. -/
  | trimEvaluation
  /-- TRIM_HOLD_MAX_REACHED (R157). A pending request that has waited HOLD_MAX becomes eligible and sets FORCED. -/
  | trimHoldMaxReached (n : SpireIx)
  /-- TRIM_START (R119). Once pending injections complete, the trim starts at the next frame boundary and the rotation
  yields. -/
  | trimStart (n : SpireIx)
  /-- TRIM_END (R161). After 5 000 frames the trim results are checked and applied and the queue reopens. -/
  | trimEnd (n : SpireIx) (v : TrimResult)
  /-- BOOT_CAL_COMPLETE (R148). Boot calibration ends, active trims load from the table and the hub enters IDLE. -/
  | bootCalComplete (b : BootCal)
  /-- CAL_SAVE (R164). CAL_SAVE command requests a snapshot of every calibration value, or is refused with EBUSY. -/
  | calSave (ch : BoxIx)
  /-- CAL_SAVE_SNAPSHOT (R164). At a frame boundary after any active trim the calibration values are copied to the save
  block and OK returned. -/
  | calSaveSnapshot
  /-- CAL_RESTORE (R165). CAL_RESTORE command checks the save block and waits for any active trim. -/
  | calRestore (ch : BoxIx)
  /-- CAL_RESTORE_APPLY (R165). All restored values take effect at one frame boundary and pending trim requests clear. -/
  | calRestoreApply
  /-- PLL_LOCK (R170). The Lantern PLL locks in BOOT and RAW starts counting from 0. -/
  | pllLock
  /-- REFCLK_LOSS (R172). 1 us without a REFCLK edge holds the PLL, sets REFCLK_LOST and makes the time state FREE. -/
  | refclkLoss
  /-- REFCLK_RETURN (R172). REFCLK returns and the PLL relocks without a jump in RAW. -/
  | refclkReturn
  /-- SERVO_COMMIT_RATE (R175). A SERVO_CTRL write of KIND RATE stages a rate commit or is refused. -/
  | servoCommitRate (m : MasterIx) (v : Word)
  /-- SERVO_COMMIT_STEP (R175). A SERVO_CTRL write of KIND STEP stages a step commit or is refused. -/
  | servoCommitStep (m : MasterIx) (v : Word)
  /-- SERVO_COMMIT_SET (R175). A SERVO_CTRL write of KIND SET stages an absolute-time commit or is refused. -/
  | servoCommitSet (m : MasterIx) (v : Word)
  /-- SERVO_COMMIT_APPLY (R174). At r_c the hardware sets OFFSET, ANCHOR and RATE in one cycle. -/
  | servoCommitApply
  /-- TIME_NOW_READ (R176). A read of TIME_NOW0 latches T and RAW into the master's snapshot bank. -/
  | timeNowRead (m : MasterIx)
  /-- TRIG_IN_EDGE (R178). A selected edge on TRIG_IN or PPS_IN is timestamped into the FIFO and counted. -/
  | trigInEdge (k : TrigInIx) (rise : Bool)
  /-- TRIG_IN_POP (R178). A read of TRIG_IN_TS0 pops the FIFO head into the other timestamp registers. -/
  | trigInPop (m : MasterIx) (k : TrigInIx)
  /-- GRID_PHASE_MEASURE (R181). Each microsecond the grid edge error is captured and the phase interpolator corrected. -/
  | gridPhaseMeasure (e : Int)
  /-- REALIGN (R182). A write of GRID_CTRL.REALIGN starts grid alignment or is refused with ESTATE. -/
  | realign (m : MasterIx) (v : Word)
  /-- GRID_ALIGN_COMPLETE (R182). Grid alignment completes within 200 us and ALIGNED is set. -/
  | gridAlignComplete
  /-- SERVO_MEASUREMENT (R185). A valid time measurement updates RATE and the lock state, stepping once outside acquisition
  modes. -/
  | servoMeasurement
  /-- TIME_HOLDOVER_ENTER (R186). Three intervals without a valid measurement move LOCKED to HOLDOVER. -/
  | timeHoldoverEnter
  /-- HOLDOVER_TIMEOUT (R186). The hold timer reaching HOLD_MAX moves HOLDOVER to FREE. -/
  | holdoverTimeout
  /-- TIME_SOURCE (R184). TIME_SOURCE command, or a master write to TIME_SRC, selects the time source and loads its row
  values. -/
  | timeSource (q : TimeSource)
  /-- ALARM_ARM (R191). A write of ALM_CTRL.ARM latches the alarm's registers and arms it, or is refused. -/
  | alarmArm (m : MasterIx) (a : AlarmIx) (v : Word)
  /-- ALARM_DISARM (R191). A write of ALM_CTRL.DISARM disarms the alarm. -/
  | alarmDisarm (m : MasterIx) (a : AlarmIx) (v : Word)
  /-- ALARM_FIRE (R192). An armed alarm fires at its target, issues its actions and rearms if periodic. -/
  | alarmFire (a : AlarmIx)
  /-- PPS_OUT_PULSE (R198). At every whole second PPS_OUT rises for its width when the reported state permits. -/
  | ppsOutPulse
  /-- LOAD_PLAN (R208). LOAD_PLAN command copies, checks and applies a plan image or fails with a status. -/
  | loadPlan (ch : BoxIx)
  /-- STAGE_ELEMENT_ARRIVE (R217). An element lands in an input port buffer in STAGE, or is discarded when the buffer is
  full. -/
  | stageElementArrive
  /-- ACTIVATION_PACING_RELEASE (R214). A pending ALARM or MAILBOX activation is released once 1 / CTX_RATE has passed. -/
  | activationPacingRelease (c : CtxIx)
  /-- CTX_CTRL_HALT (R215). A write of CTX_CTRL.HALT halts the context at its next instruction boundary. -/
  | ctxCtrlHalt (m : MasterIx) (c : CtxIx) (v : Word)
  /-- CTX_CTRL_RESTART (R215). A write of CTX_CTRL.RESTART moves a HALTED context to WAIT or IDLE and empties its buffers. -/
  | ctxCtrlRestart (m : MasterIx) (c : CtxIx) (v : Word)
  /-- TURRET_RESET (R425). TURRET_RESET command resets one Turret, reapplying context registers from SETUP. -/
  | turretReset (ch : BoxIx)
  /-- TURRET_UNGATE (R429). In its inrush slot Belfry ungates the clock of a Turret with used contexts. -/
  | turretUngate (t : TurretIx)
  /-- ADD (R232). ADD instruction: gd := ga + gb. -/
  | amixelAdd (c : CtxIx)
  /-- SUB (R232). SUB instruction: gd := ga - gb. -/
  | amixelSub (c : CtxIx)
  /-- MUL (R232). MUL instruction: low 32 bits of the product. -/
  | amixelMul (c : CtxIx)
  /-- MULH (R232). MULH instruction: high 32 bits of the signed or unsigned product. -/
  | amixelMulh (c : CtxIx)
  /-- AND (R232). AND instruction: bitwise and. -/
  | amixelAnd (c : CtxIx)
  /-- OR (R232). OR instruction: bitwise or. -/
  | amixelOr (c : CtxIx)
  /-- XOR (R232). XOR instruction: bitwise exclusive or. -/
  | amixelXor (c : CtxIx)
  /-- SHL (R232). SHL instruction: logical shift left. -/
  | amixelShl (c : CtxIx)
  /-- SHR (R232). SHR instruction: shift right with zero fill. -/
  | amixelShr (c : CtxIx)
  /-- SAR (R232). SAR instruction: shift right with sign fill. -/
  | amixelSar (c : CtxIx)
  /-- MIN (R232). MIN instruction: the smaller of two registers, signed or unsigned. -/
  | amixelMin (c : CtxIx)
  /-- MAX (R232). MAX instruction: the larger of two registers, signed or unsigned. -/
  | amixelMax (c : CtxIx)
  /-- ABS (R232). ABS instruction: absolute value. -/
  | amixelAbs (c : CtxIx)
  /-- CLZ (R232). CLZ instruction: count of leading zero bits. -/
  | amixelClz (c : CtxIx)
  /-- ADDI (R233). ADDI instruction: add a sign-extended immediate. -/
  | amixelAddi (c : CtxIx)
  /-- LUI (R233). LUI instruction: load an 18-bit immediate shifted left by 14. -/
  | amixelLui (c : CtxIx)
  /-- ANDI (R233). ANDI instruction: and with a zero-extended immediate. -/
  | amixelAndi (c : CtxIx)
  /-- ORI (R233). ORI instruction: or with a zero-extended immediate. -/
  | amixelOri (c : CtxIx)
  /-- WACC (R234). WACC instruction: accumulate a g operand into a wide register. -/
  | amixelWacc (c : CtxIx)
  /-- WSQ (R234). WSQ instruction: accumulate the square of a g operand into a wide register. -/
  | amixelWsq (c : CtxIx)
  /-- WSUB (R234). WSUB instruction: wide subtraction. -/
  | amixelWsub (c : CtxIx)
  /-- WSHR (R234). WSHR instruction: wide arithmetic shift right. -/
  | amixelWshr (c : CtxIx)
  /-- WRD (R234). WRD instruction: read a wide register by TRUNC, SAT, FLT or ISQRT into a g register. -/
  | amixelWrd (c : CtxIx)
  /-- WCLR (R234). WCLR instruction: clear a wide register. -/
  | amixelWclr (c : CtxIx)
  /-- CMP (R235). CMP instruction: compute a relation and combine it into a predicate. -/
  | amixelCmp (c : CtxIx)
  /-- BR (R236). BR instruction: relative branch. -/
  | amixelBr (c : CtxIx)
  /-- BRQ (R236). BRQ instruction: branch on a predicate and optionally clear it. -/
  | amixelBrq (c : CtxIx)
  /-- CALL (R236). CALL instruction: write the link register and branch. -/
  | amixelCall (c : CtxIx)
  /-- RET (R236). RET instruction: jump to the address in a register. -/
  | amixelRet (c : CtxIx)
  /-- LOOP (R236). LOOP instruction: decrement a counter and branch while non-zero. -/
  | amixelLoop (c : CtxIx)
  /-- LD (R237). LD instruction: sized Dome load into a pending g register. -/
  | amixelLd (c : CtxIx)
  /-- ST (R237). ST instruction: posted sized Dome store. -/
  | amixelSt (c : CtxIx)
  /-- LDW (R237). LDW instruction: 64-bit Dome load into a pending wide register. -/
  | amixelLdw (c : CtxIx)
  /-- STW (R237). STW instruction: posted 64-bit Dome store of a wide register. -/
  | amixelStw (c : CtxIx)
  /-- LOAD_COMPLETE (R220). A Dome load completes, writes its destination and frees its tag, ending dependent stalls. -/
  | loadComplete (c : CtxIx) (k : Nat)
  /-- TAKE (R238). TAKE instruction: consume elements from an input port, returning the last. -/
  | amixelTake (c : CtxIx)
  /-- PEEK (R238). PEEK instruction: read an element of an input port without consuming it. -/
  | amixelPeek (c : CtxIx)
  /-- EMIT (R239). EMIT instruction: append an element with an instant from its time port to a derived stream. -/
  | amixelEmit (c : CtxIx)
  /-- SEAL (R241). SEAL instruction: close the output port's open packet at once. -/
  | amixelSeal (c : CtxIx)
  /-- CURVE (R243). CURVE instruction: convert a binary32 by a linearisation curve. -/
  | amixelCurve (c : CtxIx)
  /-- XING (R244). XING instruction: update a crossing record and return the period. -/
  | amixelXing (c : CtxIx)
  /-- PEAKT (R245). PEAKT instruction: update a peak record and return the peak-to-peak. -/
  | amixelPeakt (c : CtxIx)
  /-- RFLOW (R247). RFLOW instruction: rainflow SAMPLE, FLUSH or RESET on a histogram record. -/
  | amixelRflow (c : CtxIx)
  /-- MEASUREMENT_COMPLETE (R242). The measurement unit finishes its read-update-write of a record and delivers gd. -/
  | measurementComplete (c : CtxIx) (k : Nat)
  /-- TIME (R248). TIME instruction: request corrected time into a register triple. -/
  | amixelTime (c : CtxIx)
  /-- TIME_REPLY (R248). The Lantern's reply to TIME arrives and the triple stops being pending. -/
  | timeReply (c : CtxIx)
  /-- WAITT (R249). WAITT instruction: stop issuing until a target time, or fault. -/
  | amixelWaitt (c : CtxIx)
  /-- WAITT_RESUME (R249). The Lantern signals the WAITT target and the context resumes at its next issue slot. -/
  | waittResume (c : CtxIx)
  /-- ALARM (R250). ALARM instruction: arm or disarm an alarm one-shot at a time triple. -/
  | amixelAlarm (c : CtxIx)
  /-- ARM_UNIT (R251). ARM instruction: arm a capture unit with this context as owner. -/
  | amixelArmUnit (c : CtxIx)
  /-- DISARM_UNIT (R251). DISARM instruction: disarm a capture unit. -/
  | amixelDisarmUnit (c : CtxIx)
  /-- FIRE_UNIT (R251). FIRE instruction: trigger an armed capture unit, optionally at a timed instant. -/
  | amixelFireUnit (c : CtxIx)
  /-- MIRROR (R252). MIRROR instruction: copy mapped context registers and queue them for the twin. -/
  | amixelMirror (c : CtxIx)
  /-- POST (R253). POST instruction: post a word to a mailbox channel. -/
  | amixelPost (c : CtxIx)
  /-- TAKEMB (R253). TAKEMB instruction: take a mailbox word and clear FULL. -/
  | amixelTakemb (c : CtxIx)
  /-- LOCKA (R254). LOCKA instruction: try to acquire a lock for this context. -/
  | amixelLocka (c : CtxIx)
  /-- LOCKR (R254). LOCKR instruction: release a lock after earlier stores complete. -/
  | amixelLockr (c : CtxIx)
  /-- YIELD (R255). YIELD instruction: end the activation, to WAIT or restart on a pending activation. -/
  | amixelYield (c : CtxIx)
  /-- HALT (R255). HALT instruction: enter HALTED, producing GAP records and releasing locks. -/
  | amixelHalt (c : CtxIx)
  /-- NOP (R255). NOP instruction: nothing. -/
  | amixelNop (c : CtxIx)
  /-- UNDEFINED_WORD_ISSUE (R228). An undefined word reaching issue faults with EUNKNOWN and halts the context. -/
  | undefinedWordIssue (c : CtxIx)
  /-- CAP_CTRL_ARM (R264). A CAP_CTRL write of ARM arms the unit with the writer as owner, or is refused. -/
  | capCtrlArm (m : MasterIx) (u : UnitIx) (v : Word)
  /-- CAP_CTRL_DISARM (R264). A CAP_CTRL write of DISARM disarms the unit, truncating any open record. -/
  | capCtrlDisarm (m : MasterIx) (u : UnitIx) (v : Word)
  /-- CAP_CTRL_FIRE (R269). A CAP_CTRL write of FIRE gives the unit a HOST trigger. -/
  | capCtrlFire (m : MasterIx) (u : UnitIx) (v : Word)
  /-- CAP_CTRL_RELEASE (R267). A CAP_CTRL write of RELEASE frees a slot holding a complete record. -/
  | capCtrlRelease (m : MasterIx) (u : UnitIx) (v : Word)
  /-- CAPTURE_SET_STORED (R273). A complete sample set is written to the unit's area, closing the record at its last post
  set or on overflow. -/
  | captureSetStored (u : UnitIx)
  /-- CAPTURE_TRIGGER (R268). A trigger reaching a unit opens a record, goes PENDING, or is logged as not taken. -/
  | captureTrigger (u : UnitIx)
  /-- CAPTURE_REARM (R265). 1 000 Dome cycles in CLOSING re-arm, fill up or disarm the unit. -/
  | captureRearm (u : UnitIx)
  /-- RECORD_MEASURED (R277). The measurement unit writes a record's measurement blocks and SEQ_B, completing the slot. -/
  | recordMeasured
  /-- RECORD_DELIVER (R276). A complete record is handed to the Ledger once its stream's rate bucket holds an element. -/
  | recordDeliver (u : UnitIx)
  /-- LEDGER_ELEMENT_ARRIVE (R295). An element reaches the Ledger and is placed in its stream's open packet. -/
  | ledgerElementArrive
  /-- PACKET_SEAL_TIMEOUT (R295). SEAL us after its first element an open packet is sealed. -/
  | packetSealTimeout (q : StreamIx)
  /-- PACKET_SEND (R304). A queue selects its next packet to send, checking parity, with a DESC first where required. -/
  | packetSend
  /-- DESC_PERIODIC (R296). Every DESC_PER ms a DESC is sent on every delivering stream. -/
  | descPeriodic
  /-- ACK (R305). An ACK frame's entries advance acknowledged NEXT and release packets at M. -/
  | ack (m : AckMsg)
  /-- NACK (R306). A NACK acknowledges below NEXT and rewinds the queue if the packet was already sent. -/
  | nack (m : AckMsg)
  /-- ACK_TIMEOUT (R307). The packet at M unacknowledged for ACK_TIMEOUT after sending rewinds the queue. -/
  | ackTimeout (q : QueueIx)
  /-- LEDGER_COMMIT (R300). A write of LED_CTRL.COMMIT checks and applies the queue and stream layout. -/
  | ledgerCommit (m : MasterIx) (v : Word)
  /-- LANE_CFG_WRITE (R315). A write to LANE_CFG sets role, protocol, media and enable, or is refused. -/
  | laneCfgWrite (m : MasterIx) (l : LaneIx) (v : Word)
  /-- LANE_DETECT_DONE (R335). Medium present for 10 ms moves the lane from DETECT to TRAIN. -/
  | laneDetectDone (l : LaneIx)
  /-- LANE_TRAIN_DONE (R335). CDR lock and equaliser convergence after 20 ms move the lane to LOCK. -/
  | laneTrainDone (l : LaneIx)
  /-- LANE_TRAIN_TIMEOUT (R335). 200 ms in TRAIN returns the lane to DETECT and counts a training failure. -/
  | laneTrainTimeout (l : LaneIx)
  /-- LANE_LOCK_DONE (R335). Three IDLE delimiters 64 bits apart move the lane to EXCHANGE. -/
  | laneLockDone (l : LaneIx)
  /-- LANE_LOCK_TIMEOUT (R335). Timeout in LOCK or EXCHANGE retrains, or after a third failure returns to DETECT. -/
  | laneLockTimeout (l : LaneIx)
  /-- TX_DISABLE_HOLD_END (R335). The 100 ms TX_DISABLE hold after a third failure ends. -/
  | txDisableHoldEnd (l : LaneIx)
  /-- CAP_SEND (R335). Every 100 us in EXCHANGE, or 10 ms in INCOMPAT, the lane sends a CAP frame. -/
  | capSend (l : LaneIx)
  /-- CAP (R337). A received CAP frame may complete the handshake and make the lane ACTIVE or INCOMPAT. -/
  | cap (l : LaneIx) (x : RxFrame)
  /-- LANE_LOSS (R335). Loss of delimiters, of LINK frames or excessive code violations take an ACTIVE lane to LOCK. -/
  | laneLoss (l : LaneIx) (line : List Bool)
  /-- MODULE_REMOVAL (R335). MOD_ABS going high on an optical lane returns it to DETECT. -/
  | moduleRemoval (l : LaneIx)
  /-- LOS (R335). LOS going high from LOCK on returns an optical lane to DETECT. -/
  | los (l : LaneIx) (high : Bool)
  /-- RETRAIN (R335). A write of LANE_CTRL.RETRAIN sends the lane to TRAIN. -/
  | retrain (m : MasterIx) (l : LaneIx) (v : Word)
  /-- LINK_RETRAIN (R421). LINK_RETRAIN command retrains a lane. -/
  | linkRetrain (ch : BoxIx)
  /-- SEGMENT_UP_REPORT (R331). A lane ACTIVE again for 100 ms is reported up by RING frame. -/
  | segmentUpReport (l : LaneIx)
  /-- RING_REPEAT (R331). The origin repeats RING every 1 ms for 10 ms, and every hub reports both segments every 100 ms. -/
  | ringRepeat
  /-- RING (R331). A received RING report updates segment state and routing within 2 us. -/
  | ring (l : LaneIx) (x : RxFrame)
  /-- LINK_SEND (R326). An ACTIVE lane sends a LINK frame with cumulative freed credits. -/
  | linkSend (l : LaneIx)
  /-- LINK (R326). A received LINK frame returns credits per class to the transmitter. -/
  | link (l : LaneIx) (x : RxFrame)
  /-- FRAME_TRANSMIT_START (R327). A lane starts its next frame by class priority when credits allow, inserting TIME frames. -/
  | frameTransmitStart (l : LaneIx)
  /-- SYNC_SEND (R333). At j x 62.5 ms plus position x 10 us the hub sends SYNC on each ACTIVE span lane. -/
  | syncSend (l : LaneIx)
  /-- SYNC (R333). A received SYNC is answered with RESP and may complete an exchange giving d and theta. -/
  | sync (l : LaneIx) (x : RxFrame)
  /-- RESP (R333). A received RESP records t4 for the exchange. -/
  | resp (l : LaneIx) (x : RxFrame)
  /-- SPAN_TRIG (R272). A received span trigger frame triggers enabled units or is discarded as a duplicate. -/
  | spanTrig (l : LaneIx) (x : RxFrame)
  /-- LEDGER (R329). A LEDGER frame is routed towards the gateway and passed to the uplink there. -/
  | ledger (l : LaneIx) (x : RxFrame)
  /-- LACK (R305). A LACK frame addressed to a pair carries an ACK or NACK payload to the Ledger. -/
  | lack (l : LaneIx) (x : RxFrame)
  /-- PAUSE (R341). A received PAUSE frame stops new uplink frames for its pause time. -/
  | pause (l : LaneIx) (quanta : PauseTime)
  /-- PAUSE_END (R341). The pause time expires and uplink frames resume. -/
  | pauseEnd (l : LaneIx)
  /-- ETH_LOCK_TIMEOUT (R339). 500 ms in LOCK on an Ethernet uplink returns it to DETECT. -/
  | ethLockTimeout (l : LaneIx)
  /-- PROTO_AUTO_TIMEOUT (R339). With PROTO AUTO, 1 s without ACTIVE moves on to the next protocol. -/
  | protoAutoTimeout (l : LaneIx)
  /-- ANNOUNCE (R342). A PTP Announce message feeds the best-master choice. -/
  | announce (m : PtpHead) (d : PtpDataset)
  /-- PTP_SYNC (R342). A PTP Sync message gives t2, or is ignored and counted. -/
  | ptpSync (m : PtpHead) (twoStep : Bool)
  /-- FOLLOW_UP (R342). A PTP Follow_Up message gives t1. -/
  | followUp (m : PtpHead) (origin : Nat)
  /-- DELAY_RESP (R342). A PTP Delay_Resp message gives t4 and completes a PTP measurement. -/
  | delayResp (m : PtpHead) (port : Nat) (rx : Nat)
  /-- DELAY_REQ_SEND (R342). At the server's requested interval the hub sends Delay_Req, timestamped t3. -/
  | delayReqSend
  /-- MODULE_INSERT (R343). On module insertion Belfry reads A0h bytes 0 to 95. -/
  | moduleInsert (l : LaneIx) (internal : Option Bool)
  /-- DDM_POLL (R343). Every 1 s Belfry reads the module's diagnostic values into the DDM registers. -/
  | ddmPoll (l : LaneIx) (vals : Option (List Nat))
  /-- MOD_ACC_GO (R343). A write of MOD_ACC.GO queues a host I2C byte access. -/
  | modAccGo (m : MasterIx) (l : LaneIx) (v : Word)
  /-- MOD_ACC_COMPLETE (R343). A host I2C access completes or times out with ETIME, setting MOD_RES. -/
  | modAccComplete (l : LaneIx) (byte : Option Nat)
  /-- EYE_START (R344). A write of EYE_CTRL.START starts one scan point or is refused. -/
  | eyeStart (m : MasterIx) (l : LaneIx) (v : Word)
  /-- EYE_STOP (R344). A write of EYE_CTRL.STOP stops a running scan point. -/
  | eyeStop (m : MasterIx) (l : LaneIx) (v : Word)
  /-- EYE_POINT_DONE (R345). A scan point's dwell ends and its mismatch count is recorded. -/
  | eyePointDone (l : LaneIx) (count : Nat)
  /-- EYE_SCAN (R345). EYE_SCAN command scans a grid of points and writes the result to DATA. -/
  | eyeScan (ch : BoxIx)
  /-- RENEW_SEND (R353). Every 1 ms the active hub sends RENEW to the warden. -/
  | renewSend
  /-- RENEW (R353). The warden answers a RENEW with GRANT extending the lease, or with DENY. -/
  | renew (l : LaneIx) (x : RxFrame)
  /-- GRANT (R356). A received GRANT extends the active lease or lets a claimant await its promotion instant. -/
  | grant (l : LaneIx) (x : RxFrame)
  /-- DENY (R365). A received DENY is counted and the claim continues. -/
  | deny (l : LaneIx) (x : RxFrame)
  /-- HEARTBEAT_SEND (R354). Every 1 ms the active hub sends HEARTBEAT to the standby. -/
  | heartbeatSend
  /-- HEARTBEAT (R354). A received HEARTBEAT is answered with t_r by the standby, or extends the active lease. -/
  | heartbeat (l : LaneIx) (x : RxFrame)
  /-- HEARTBEAT_MISS (R355). 1.1 ms without a heartbeat counts a miss; the third declares the active hub failed. -/
  | heartbeatMiss
  /-- CLAIM_SEND (R355). A claiming hub sends CLAIM to the warden every 1 ms until answered. -/
  | claimSend
  /-- CLAIM (R356). The warden answers a CLAIM by GRANT, holding or DENY WARDEN_WAIT. -/
  | claim (l : LaneIx) (x : RxFrame)
  /-- WARDEN_LEASE_EXPIRY (R356). A held claim is granted at the holder's lease end when no RENEW has arrived. -/
  | wardenLeaseExpiry
  /-- WARDEN_STARTUP_HOLD_END (R356). 4.05 ms after a warden reset, held claims are answered. -/
  | wardenStartupHoldEnd
  /-- STARTUP_CLAIM_EVAL (R356). Every 1 ms a STANDBY hub in IDLE or ARMED evaluates the start-up claim rule. -/
  | startupClaimEval
  /-- PROMOTION (R361). At the promotion frame boundary the standby becomes ACTIVE, takes its epoch and drives excitation
  and pins. -/
  | promotion (peerAct : Bool)
  /-- XSW_TIME_END (R361). XSW_TIME after promotion CHARGE samples become present and every CHARGE channel is reset. -/
  | xswTimeEnd
  /-- LEASE_EXPIRY (R357). Corrected time reaching the lease end fences the active hub. -/
  | leaseExpiry
  /-- SELF_FAULT (R358). Leaving the time or health condition reports a fault that fences an active hub. -/
  | selfFault
  /-- FENCE_BOUNDARY (R357). At the next frame boundary a fenced hub enters SHADOW and STANDBY. -/
  | fenceBoundary
  /-- RELINQUISH (R355). A received RELINQUISH frees the warden entry or lets the standby declare the active hub failed. -/
  | relinquish (l : LaneIx) (x : RxFrame)
  /-- ARB_GRANT_FALL (R359). A falling edge on ARB_GRANT_IN fences the hub within 2.5 us. -/
  | arbGrantFall
  /-- ARB_GRANT_RISE (R359). A rising edge on ARB_GRANT_IN promotes a standby at the next frame boundary. -/
  | arbGrantRise
  /-- LEDGER_M_SEND (R362). Every 1 ms the active hub sends a LEDGER_M set of NEXT and next-produced values. -/
  | ledgerMSend
  /-- LEDGER_M (R363). The frame carrying LAST applies a LEDGER_M set, moving each standby queue's M. -/
  | ledgerM (l : LaneIx) (x : RxFrame)
  /-- CONTEXT (R363). A received CONTEXT mirror copy waits in MIRROR for the context's activation boundary. -/
  | context (l : LaneIx) (x : RxFrame)
  /-- HISTOGRAM_SEND (R362). Every 100 ms, or 1 s on the ring, the active hub sends changed histogram words. -/
  | histogramSend
  /-- HISTOGRAM (R363). Received histogram words are copied to DATA once the LAST set has arrived. -/
  | histogram (l : LaneIx) (x : RxFrame)
  /-- THRESHOLDS_SEND (R362). Every 100 ms, or 1 s on the ring, the active hub sends Sentry baselines and noise. -/
  | thresholdsSend
  /-- THRESHOLDS (R363). Received Sentry baselines and noise load at each channel's next QUIET sample. -/
  | thresholds (l : LaneIx) (x : RxFrame)
  /-- CAPTURE_MIRROR (R363). A received CAPTURE record is kept in the MIRROR ring for the host. -/
  | captureMirror (l : LaneIx) (x : RxFrame)
  /-- MIRROR_PATH_RETURN (R364). 100 ms after the TWIN lane re-enters ACTIVE, mirroring and heartbeats return to it. -/
  | mirrorPathReturn
  /-- REVERT_HOLD_ELAPSED (R366). A healthy PRIMARY in STANDBY for REVERT_HOLD starts a handover. -/
  | revertHoldElapsed
  /-- HANDOVER_PROPOSE (R366). A received HANDOVER PROPOSE makes the active hub choose F_h and accept. -/
  | handoverPropose (l : LaneIx) (x : RxFrame)
  /-- HANDOVER_ACCEPT (R366). A received HANDOVER ACCEPT carries F_h to the claimant. -/
  | handoverAccept (l : LaneIx) (x : RxFrame)
  /-- HANDOVER_CONFIRM (R366). A received HANDOVER CONFIRM confirms the handover at F_h. -/
  | handoverConfirm (l : LaneIx) (x : RxFrame)
  /-- HANDOVER_CANCEL (R366). A received HANDOVER CANCEL abandons the handover. -/
  | handoverCancel (l : LaneIx) (x : RxFrame)
  /-- HANDOVER_CONFIRM_TIMEOUT (R366). A handover unconfirmed at F_h - 5 ms is cancelled. -/
  | handoverConfirmTimeout
  /-- HANDOVER_RETRY (R366). 1 s after a cancel the handover is retried. -/
  | handoverRetry
  /-- HANDOVER_SEND_STOP (R366). At F_h - 5 us the active hub starts no Ledger frame and sends a final LEDGER_M set. -/
  | handoverSendStop
  /-- HANDOVER_FRAME (R366). At F_h the old active hub becomes STANDBY and the new one is promoted. -/
  | handoverFrame
  /-- LOCKSTEP_MISMATCH (R370). A lockstep mismatch between the Belfry cores causes a Belfry reset. -/
  | lockstepMismatch (pc : Word)
  /-- WATCHDOG_EXPIRY (R370). 100 ms without watchdog service causes a Belfry reset. -/
  | watchdogExpiry
  /-- BELFRY_RESTART (R386). The firmware restarts after a Belfry reset, answers in-flight commands with EABORT and logs the
  reset. -/
  | belfryRestart
  /-- BOOT_ROM_START (R371). At reset release the ROM samples BOOT_SEL and starts loading firmware or waits for the host. -/
  | bootRomStart (sel : BootSel)
  /-- FIRMWARE_LOADED (R374). A firmware image read completes and is verified; the firmware runs, a fallback is taken, or
  the ROM halts. -/
  | firmwareLoaded (img : List Byte) (cfg : List SetupWrite)
  /-- BOOT_CTRL_WRITE (R373). A host write of the image length to SYS.BOOT_CTRL makes the ROM copy and verify the host
  image. -/
  | bootCtrlWrite (m : MasterIx) (v : Word) (cfg : List SetupWrite)
  /-- MAILBOX_POST (R377). A write to MB_DATA posts a word to the channel and rings the receiver's MSG doorbell. -/
  | mailboxPost (m : MasterIx) (ch : BoxIx) (v : Word)
  /-- MAILBOX_TAKE (R378). A receiver's read of MB_DATA takes the word and may ring the sender's ACK doorbell. -/
  | mailboxTake (m : MasterIx) (ch : BoxIx)
  /-- BIND_WRITE (R376). A write to a BIND entry binds or unbinds a mailbox channel, or is refused. -/
  | bindWrite (m : MasterIx) (ch : BoxIx) (v : Word)
  /-- BIND_LOCK (R376). A 1 written to BIND_LOCK.LOCK locks the binding table until hub reset. -/
  | bindLock (m : MasterIx) (v : Word)
  /-- MASTER_RESET (R380). A master writes its own ID to CP_MASTER_RESET; its RESET_EPOCH increments and its channels and
  locks are treated. -/
  | masterReset (m : MasterIx)
  /-- RESPONSE_POST (R385). Belfry posts a waiting response once the response channel is no longer FULL. -/
  | responsePost (ch : BoxIx)
  /-- LOCK_ACQUIRE (R387). A read of LOCK acquires a free lock or returns its owner. -/
  | lockAcquire (m : MasterIx) (l : LockIx)
  /-- LOCK_RELEASE (R387). An owner write of its own ID to LOCK releases the lock. -/
  | lockRelease (m : MasterIx) (l : LockIx)
  /-- LOCK_FORCE (R389). A write to LOCK_FORCE by BELFRY or JTAG releases a lock. -/
  | lockForce (m : MasterIx) (v : Word)
  /-- ELOG_QUEUE_WRITE (R391). The log writes a queued report as a new entry. -/
  | elogQueueWrite
  /-- ELOG_FREE (R392). A write to ELOG_FREE frees the oldest entries. -/
  | elogFree (m : MasterIx) (v : Word)
  /-- ERRLOG_DRAIN (R392). ERRLOG_DRAIN command copies up to 8 oldest entries into its slot and frees them. -/
  | errlogDrain (ch : BoxIx)
  /-- SPI_WRITE (R394). An SPI frame with operation WRITE posts a 32-bit write at CS rise. -/
  | spiWrite (w : Word) (v : Word)
  /-- SPI_READ (R394). An SPI frame with operation READ starts a 32-bit read at CS rise. -/
  | spiRead (w : Word)
  /-- SPI_NOP (R394). An SPI frame with operation NOP only returns SPI_STAT and any read result. -/
  | spiNop
  /-- SPI_BAD_FRAME (R393). An SPI frame of wrong length or reserved operation is ignored and counted. -/
  | spiBadFrame
  /-- SPI_READ_COMPLETE (R396). An SPI read completes and its result is held for the next frames with RDY = 1. -/
  | spiReadComplete
  /-- MGMT_READ (R398). A management READ request is executed and answered with RESP. -/
  | mgmtRead (l : LaneIx) (x : RxFrame) (bulk : Bool) (held : Option Nat)
  /-- MGMT_WRITE (R398). A management WRITE request is executed and answered with RESP. -/
  | mgmtWrite (l : LaneIx) (x : RxFrame) (bulk : Bool)
  /-- MGMT_UNEXPECTED (R398). A management RESP, DOORBELL or reserved OP received is answered with EUNKNOWN. -/
  | mgmtUnexpected (l : LaneIx) (x : RxFrame) (bulk : Bool) (op : MgmtOp)
  /-- DOORBELL_FRAME_SEND (R401). UPLINK doorbells becoming pending, and every 10 ms after, send a DOORBELL frame. -/
  | doorbellFrameSend
  /-- OTP_PROGRAM_HASH (R404). The OTP_CTRL sequence 0x4F50, 0x574B programs the owner hash, or is refused. -/
  | otpProgramHash (m : MasterIx)
  /-- OTP_BLOW_DEBUG_LOCK (R404). The OTP_CTRL sequence 0x4F50, 0x444C blows the debug-lock fuse. -/
  | otpBlowDebugLock (m : MasterIx)
  /-- OTP_SEQUENCE_TIMEOUT (R404). An OTP sequence not completed within 1 ms is refused with ESTATE. -/
  | otpSequenceTimeout
  /-- OTP_PROGRAM_COMPLETE (R404). OTP programming ends after 20 ms and BUSY clears. -/
  | otpProgramComplete
  /-- PING (R415). PING command echoes its ARG. -/
  | ping (ch : BoxIx)
  /-- STATUS (R422). STATUS command writes a status summary into its slot and RESULT. -/
  | status (ch : BoxIx)
  /-- NOP_COMMAND (R415). NOP command responds OK with no effect. -/
  | nopCommand (ch : BoxIx)
  /-- ARM (R416). ARM command moves IDLE to ARMED after checking plan, grid and time state. -/
  | arm (ch : BoxIx)
  /-- START (R416). START command arms alarm 15 with START at a future frame instant. -/
  | start (ch : BoxIx)
  /-- STOP (R418). STOP command schedules a stop frame. -/
  | stop (ch : BoxIx)
  /-- ABORT (R418). ABORT command stops at the next frame boundary, overriding a scheduled STOP. -/
  | abort (ch : BoxIx)
  /-- STOP_FRAME (R418). At the stop frame filters stop, packets seal, contexts and captures idle and the hub enters IDLE. -/
  | stopFrame
  /-- TRIM_NOW (R421). TRIM_NOW command records a NOW trim request for a spire. -/
  | trimNow (ch : BoxIx)
  /-- TRIM_HOLD (R159). TRIM_HOLD command puts a hub-wide trim hold in force. -/
  | trimHold (ch : BoxIx)
  /-- TRIM_RELEASE (R159). TRIM_RELEASE command ends the trim hold. -/
  | trimRelease (ch : BoxIx)
  /-- PROMOTE (R420). PROMOTE command starts a planned handover towards this hub. -/
  | promote (ch : BoxIx)
  /-- DEMOTE (R420). DEMOTE command starts a planned handover away from this hub. -/
  | demote (ch : BoxIx)
  /-- SET_PREFERRED (R420). SET_PREFERRED command sets this hub's PRIMARY or SECONDARY role and tells the peer. -/
  | setPreferred (ch : BoxIx)
  /-- SERVICE_ENTER (R419). SERVICE_ENTER command enters SERVICE, optionally starting the loaded plan. -/
  | serviceEnter (ch : BoxIx)
  /-- SERVICE_EXIT (R419). SERVICE_EXIT command stops any running plan, disarms perturbations and enters IDLE. -/
  | serviceExit (ch : BoxIx)
  /-- HUB_RESET (R424). HUB_RESET command responds, then requests a HUB, BELFRY, SPIRE or LANE reset 1 ms later. -/
  | hubReset (ch : BoxIx)
  /-- RESET_DELAY_EXPIRY (R424). 1 ms after a HUB_RESET response the selected reset takes place. -/
  | resetDelayExpiry
  /-- POWER_ON_RELEASE (R435). All monitored rails in range for 2 ms release the power-on reset. -/
  | powerOnRelease
  /-- RESET_N_ASSERT (R425). RESET_N low for at least 1 us resets the whole hub. -/
  | resetNAssert
  /-- BROWNOUT (R427). VCORE below 0.700 V for 1 us resets the hub with cause BROWNOUT. -/
  | brownout
  /-- SPIRE_RESET_END (R425). After 1 000 frames a spire reset ends and raw samples resume. -/
  | spireResetEnd (n : SpireIx)
  /-- LANE_RESET_END (R425). After 1 ms DISABLED a reset lane restarts bring-up. -/
  | laneResetEnd (l : LaneIx)
  /-- SAG_TRIP (R427). A droop detector trips and the hub enters a deeper sag level and throttle step. -/
  | sagTrip (k : SagIx)
  /-- SAG_LEVEL_LEAVE (R427). VCORE above the leave threshold for 10 us with the level held 10 us moves to a shallower
  level. -/
  | sagLevelLeave (k : SagIx)
  /-- TP_ARM (R459). A write to TP_ARM advances, completes, restarts or disarms the test arming sequence. -/
  | tpArm (m : MasterIx) (v : Word)
  /-- TP_XDELAY (R463). An enabling write to TP_XDELAY delays a crossing's transfers. -/
  | tpXdelay (m : MasterIx) (v : Word)
  /-- TP_STARVE (R463). An enabling write to TP_STARVE starves a lane class or a queue for DUR. -/
  | tpStarve (m : MasterIx) (v : Word)
  /-- STARVE_END (R463). DUR expires, TP_STARVE is cleared and starved credits or queues resume. -/
  | starveEnd
  /-- TP_ACKHOLD (R463). An enabling write to TP_ACKHOLD delays ACK and NACK entries of named queues. -/
  | tpAckhold (m : MasterIx) (v : Word)
  /-- ACKHOLD_RELEASE (R463). A held ACK or NACK entry is applied HOLD ms after arrival. -/
  | ackholdRelease
  /-- TP_DROP (R463). An enabling write to TP_DROP discards received frames of selected lanes and classes at random. -/
  | tpDrop (m : MasterIx) (v : Word)
  /-- INJECT (R463). A write of TP_PAR_CTRL.INJECT inverts the parity of the Dome word at TP_PAR_ADDR. -/
  | inject (m : MasterIx) (v : Word)
  /-- TP_TJIT (R463). An enabling write to TP_TJIT adds random stalls before Turret issue slots. -/
  | tpTjit (m : MasterIx) (v : Word)
  /-- TP_SAG (R463). An enabling write to TP_SAG forces a sag level. -/
  | tpSag (m : MasterIx) (v : Word)
  /-- TP_SKEW (R463). An enabling write to TP_SKEW offsets and scales a slice's codes. -/
  | tpSkew (m : MasterIx) (v : Word)
  /-- TP_SWAPFAIL (R463). An enabling write to TP_SWAPFAIL forces the next swap verdict of named spires. -/
  | tpSwapfail (m : MasterIx) (v : Word)
  /-- TURRET_RESET_END (R425). 1 000 Turret cycles after a Turret reset began, the Turret leaves reset, its contexts resume
  as R215 states and doorbells held for it are delivered. -/
  | turretResetEnd (t : TurretIx)
  /-- TRST_N_LOW (R380). TRST_N driven low is a master reset of JTAG: its RESET_EPOCH increments, its locks are released and
  its channels are treated as R381 and R382 state. -/
  | trstNLow
  /-- STORE_ACCEPTED (R220). The Dome accepts a posted Turret store, which frees its tag and may let a waiting LOCKR or a
  tag-stalled context proceed. -/
  | storeAccepted (c : CtxIx) (k : Nat)
  /-- POWER_LOSS (R435). A monitored rail leaves its range and the power-on reset holds the hub in reset, with XSW_SEL and
  ACT_OUT falling to their pull-downs. -/
  | powerLoss
  /-- ETH_LINK_UP (R339). On an Ethernet uplink, block lock or clause 37 auto-negotiation completes and the lane goes from
  LOCK to ACTIVE. -/
  | ethLinkUp (l : LaneIx)
  /-- ETH_LINK_LOSS (R339). An ACTIVE Ethernet uplink loses block lock or link and returns to DETECT. -/
  | ethLinkLoss (l : LaneIx)
  /-- ANNOUNCE_TIMEOUT (R342). A PTP server heard in no Announce within three announce intervals drops out of the
  best-master choice. -/
  | announceTimeout
  /-- TRIG_OUT_PULSE_END (R197). WIDTH ns after the active edge, the TRIG_OUT pin returns to its inactive level. -/
  | trigOutPulseEnd (p : TrigOutIx)
  /-- PPS_OUT_PULSE_END (R198). PPS_OUT_CFG.WIDTH us after each whole second, PPS_OUT falls. -/
  | ppsOutPulseEnd
  /-- CONTEXT_FALLBACK_SLOT (R362). On the ring fallback, a context's waiting CONTEXT mirror copy is sent when its
  once-per-10-ms slot comes round. -/
  | contextFallbackSlot (c : CtxIx)
  deriving DecidableEq, Repr

end Sys2Proof
end

