-- ==== Sys2Proof/Decode.lean ====
section
/-!
DEFINITION. Decoding by the table's bits. No row of spec/opcode_table.json gives a command any bits, so no word spells a
command. (The code words of the Turrets are decoded by `decodeWord` of Machine/Amixel.lean, R227 to R229.)
-/

namespace Sys2Proof

/-- The command that a word spells by the table's bits: none, for the table gives none. -/
def decodeTableWord (_nbits _w : Nat) : Option Instr := none

end Sys2Proof
end

