-- ==== Sys2Proof/Machine/State.lean ====
section
/-!
DEFINITION. The machine's state: the commands waiting, the RAW counter, and the hub. `Hub` (Machine/Hub.lean) holds every
register, FIFO, buffer, counter, mode and pin the spec gives the block.
-/

namespace Sys2Proof.Machine

/-- The machine. `raw` is RAW, 80 bits of 2^-16 ns (R171); it stands outside the hub because only the clock, the PLL's
first lock and resets touch it. -/
structure State where
  /-- The commands waiting, first in, first out. -/
  pending : List Instr
  raw : BitVec 80
  hub : Hub
  deriving DecidableEq, Repr

/-- No command stops the block: nothing raises a fault. -/
inductive Fault where
  deriving DecidableEq, Repr

/-- What the model does not answer. -/
inductive Refusal where
  /-- Raised by an arm of `exec` whose command has no meaning yet; no arm does. Safe. -/
  | notModelled (mnemonic : String)
  deriving DecidableEq, Repr

/-- The hub released from power-on reset (R425): registers at their reset values, the Dome undefined, `RESET_CAUSE`
POWERON, mode BOOT, the ROM at its start. -/
def State.reset : State :=
  { pending := [], raw := 0#80, hub := { sys := { powered := true } } }

end Sys2Proof.Machine
end

