-- ==== Sys2Proof/Machine/Lift.lean ====
section
/-!
DEFINITION. How a meaning over the hub becomes a meaning over the machine.
-/

namespace Sys2Proof.Machine

/-- The machine with its hub changed by `f`, which sees RAW. A hub held in reset without power does nothing (R435). -/
def State.onHub (s : State) (f : Nat → Hub → Hub) : Host.Outcome State Fault Refusal :=
  .next { s with hub := if s.hub.sys.powered then f s.raw.toNat s.hub else s.hub }

/-- As `onHub`, and where `zero` holds of the hub before, RAW starts from 0: the PLL's first lock and hub resets (R170,
R171, R425). -/
def State.onHubRaw (s : State) (zero : Hub → Bool) (f : Nat → Hub → Hub) : Host.Outcome State Fault Refusal :=
  .next { s with raw := if s.hub.sys.powered && zero s.hub then 0#80 else s.raw,
                 hub := if s.hub.sys.powered then f s.raw.toNat s.hub else s.hub }

/-- What the supply does to the hub, powered or not (R435). -/
def State.onPower (s : State) (acts : Hub → Bool) (f : Hub → Hub) : Host.Outcome State Fault Refusal :=
  .next { s with raw := if acts s.hub then 0#80 else s.raw, hub := if acts s.hub then f s.hub else s.hub }

end Sys2Proof.Machine
end

