-- ==== Sys2Proof/Machine/ExecAccess.lean ====
section
/-!
DEFINITION. The meanings of the commands of accesses by masters and held crossings, one per row.
-/

namespace Sys2Proof.Machine

/-- REGISTER_WRITE (R13). A master writes a register that has no row of its own, under its access code and block rules. -/
def execRegisterWrite (m : MasterIx) (a : Word) (size : AccSize) (v : Word) (s : State) : Host.Outcome State Fault Refusal :=
  s.onHub fun r h => h.busWrite r m a.toNat size.bytes v

/-- RC_FIELD_READ (R15). A read of an RC field returns its value and clears it, keeping any event counted in the same
cycle. -/
def execRcFieldRead (m : MasterIx) (a : Word) (size : AccSize) (s : State) : Host.Outcome State Fault Refusal :=
  s.onHub fun r h => h.busRead r m a.toNat size.bytes

/-- CROSSING_STUCK (R29). A handshake crossing held for more than 1 ms gets an error-log entry and increments
CLK.CROSS_STUCK_CNT. -/
def execCrossingStuck (k : CrossIx) (s : State) : Host.Outcome State Fault Refusal :=
  s.onHub fun r h => crossingStuck r k h

/-- BRIDGE_TIMEOUT (R30). An SPI, UPLINK or JTAG bridge read held for 10 us completes as a read of 0 and is logged. -/
def execBridgeTimeout (m : MasterIx) (a : Word) (s : State) : Host.Outcome State Fault Refusal :=
  s.onHub fun r h => bridgeTimeout r m a.toNat h

/-- ABANDONED_READ_COMPLETE (R30). A read abandoned by a bridge completes when the clock returns; its RC effect takes
place and its data is discarded. -/
def execAbandonedReadComplete (s : State) : Host.Outcome State Fault Refusal :=
  s.onHub fun r h => abandonedReadComplete r h

/-- TOGGLE_ACK_COMPLETE (R32). The acknowledge of a toggle crossing completes and exactly one merged pending event is
delivered. -/
def execToggleAckComplete (c : CtxIx) (s : State) : Host.Outcome State Fault Refusal :=
  s.onHub fun r h => toggleAckComplete r c h

/-- DOME_REGION_SIZE_WRITE (R41). A write to a Dome region size register recomputes every base and the JOURNAL size, or is
refused. -/
def execDomeRegionSizeWrite (m : MasterIx) (k : RegionIx) (v : Word) (s : State) : Host.Outcome State Fault Refusal :=
  s.onHub fun r h => h.write r m (Addr.SYS_DOME_STAGE_SIZE + 4 * k.val) v

end Sys2Proof.Machine
end

