-- ==== Sys2Proof/Machine/ExecAlu.lean ====
section
/-!
DEFINITION. The meanings of the commands of the Amixel ALU and immediate instructions, one per row.
-/

namespace Sys2Proof.Machine

/-- ADD (R232). ADD instruction: gd := ga + gb. -/
def execAmixelAdd (c : CtxIx) (s : State) : Host.Outcome State Fault Refusal :=
  s.onHub fun r h => match h.fetched c with
    | some (.add d a b) => h.issueG r c d [a, b] fun h => h.g c a + h.g c b
    | _ => h

/-- SUB (R232). SUB instruction: gd := ga - gb. -/
def execAmixelSub (c : CtxIx) (s : State) : Host.Outcome State Fault Refusal :=
  s.onHub fun r h => match h.fetched c with
    | some (.sub d a b) => h.issueG r c d [a, b] fun h => h.g c a - h.g c b
    | _ => h

/-- MUL (R232). MUL instruction: low 32 bits of the product. -/
def execAmixelMul (c : CtxIx) (s : State) : Host.Outcome State Fault Refusal :=
  s.onHub fun r h => match h.fetched c with
    | some (.mul d a b) => h.issueG r c d [a, b] fun h => h.g c a * h.g c b
    | _ => h

/-- MULH (R232). MULH instruction: high 32 bits of the signed or unsigned product. -/
def execAmixelMulh (c : CtxIx) (s : State) : Host.Outcome State Fault Refusal :=
  s.onHub fun r h => match h.fetched c with
    | some (.mulh u d a b) => h.issueG r c d [a, b] fun h => mulHigh u (h.g c a) (h.g c b)
    | _ => h

/-- AND (R232). AND instruction: bitwise and. -/
def execAmixelAnd (c : CtxIx) (s : State) : Host.Outcome State Fault Refusal :=
  s.onHub fun r h => match h.fetched c with
    | some (.and_ d a b) => h.issueG r c d [a, b] fun h => h.g c a &&& h.g c b
    | _ => h

/-- OR (R232). OR instruction: bitwise or. -/
def execAmixelOr (c : CtxIx) (s : State) : Host.Outcome State Fault Refusal :=
  s.onHub fun r h => match h.fetched c with
    | some (.or_ d a b) => h.issueG r c d [a, b] fun h => h.g c a ||| h.g c b
    | _ => h

/-- XOR (R232). XOR instruction: bitwise exclusive or. -/
def execAmixelXor (c : CtxIx) (s : State) : Host.Outcome State Fault Refusal :=
  s.onHub fun r h => match h.fetched c with
    | some (.xor_ d a b) => h.issueG r c d [a, b] fun h => h.g c a ^^^ h.g c b
    | _ => h

/-- SHL (R232). SHL instruction: logical shift left. -/
def execAmixelShl (c : CtxIx) (s : State) : Host.Outcome State Fault Refusal :=
  s.onHub fun r h => match h.fetched c with
    | some (.shl d a s) => h.issueG r c d (a.val :: s.srcs) fun h => h.g c a <<< h.shiftBy c s
    | _ => h

/-- SHR (R232). SHR instruction: shift right with zero fill. -/
def execAmixelShr (c : CtxIx) (s : State) : Host.Outcome State Fault Refusal :=
  s.onHub fun r h => match h.fetched c with
    | some (.shr d a s) => h.issueG r c d (a.val :: s.srcs) fun h => h.g c a >>> h.shiftBy c s
    | _ => h

/-- SAR (R232). SAR instruction: shift right with sign fill. -/
def execAmixelSar (c : CtxIx) (s : State) : Host.Outcome State Fault Refusal :=
  s.onHub fun r h => match h.fetched c with
    | some (.sar d a s) => h.issueG r c d (a.val :: s.srcs) fun h => (h.g c a).sshiftRight (h.shiftBy c s)
    | _ => h

/-- MIN (R232). MIN instruction: the smaller of two registers, signed or unsigned. -/
def execAmixelMin (c : CtxIx) (s : State) : Host.Outcome State Fault Refusal :=
  s.onHub fun r h => match h.fetched c with
    | some (.min_ u d a b) => h.issueG r c d [a, b] fun h => minWord u (h.g c a) (h.g c b)
    | _ => h

/-- MAX (R232). MAX instruction: the larger of two registers, signed or unsigned. -/
def execAmixelMax (c : CtxIx) (s : State) : Host.Outcome State Fault Refusal :=
  s.onHub fun r h => match h.fetched c with
    | some (.max_ u d a b) => h.issueG r c d [a, b] fun h => maxWord u (h.g c a) (h.g c b)
    | _ => h

/-- ABS (R232). ABS instruction: absolute value. -/
def execAmixelAbs (c : CtxIx) (s : State) : Host.Outcome State Fault Refusal :=
  s.onHub fun r h => match h.fetched c with
    | some (.abs_ d a) => h.issueG r c d [a] fun h => absWord (h.g c a)
    | _ => h

/-- CLZ (R232). CLZ instruction: count of leading zero bits. -/
def execAmixelClz (c : CtxIx) (s : State) : Host.Outcome State Fault Refusal :=
  s.onHub fun r h => match h.fetched c with
    | some (.clz d a) => h.issueG r c d [a] fun h => wd (clz (h.g c a))
    | _ => h

/-- ADDI (R233). ADDI instruction: add a sign-extended immediate. -/
def execAmixelAddi (c : CtxIx) (s : State) : Host.Outcome State Fault Refusal :=
  s.onHub fun r h => match h.fetched c with
    | some (.addi d a imm) => h.issueG r c d [a] fun h => h.g c a + imm.signExtend 32
    | _ => h

/-- LUI (R233). LUI instruction: load an 18-bit immediate shifted left by 14. -/
def execAmixelLui (c : CtxIx) (s : State) : Host.Outcome State Fault Refusal :=
  s.onHub fun r h => match h.fetched c with
    | some (.lui d imm) => h.issueG r c d [] fun _ => (imm.zeroExtend 32) <<< 14
    | _ => h

/-- ANDI (R233). ANDI instruction: and with a zero-extended immediate. -/
def execAmixelAndi (c : CtxIx) (s : State) : Host.Outcome State Fault Refusal :=
  s.onHub fun r h => match h.fetched c with
    | some (.andi d a imm) => h.issueG r c d [a] fun h => h.g c a &&& imm.zeroExtend 32
    | _ => h

/-- ORI (R233). ORI instruction: or with a zero-extended immediate. -/
def execAmixelOri (c : CtxIx) (s : State) : Host.Outcome State Fault Refusal :=
  s.onHub fun r h => match h.fetched c with
    | some (.ori d a imm) => h.issueG r c d [a] fun h => h.g c a ||| imm.zeroExtend 32
    | _ => h

end Sys2Proof.Machine
end

