-- ==== Sys2Proof/Machine/ExecAmixel.lean ====
section
/-!
DEFINITION. The meanings of the commands of the Amixel time, capture, control-plane and flow instructions, one per row.
-/

namespace Sys2Proof.Machine

/-- TIME (R248). TIME instruction: request corrected time into a register triple. -/
def execAmixelTime (c : CtxIx) (s : State) : Host.Outcome State Fault Refusal :=
  s.onHub fun r h => match h.fetched c with
    | some (.time d) => time r c d h
    | _ => h

/-- WAITT (R249). WAITT instruction: stop issuing until a target time, or fault. -/
def execAmixelWaitt (c : CtxIx) (s : State) : Host.Outcome State Fault Refusal :=
  s.onHub fun r h => match h.fetched c with
    | some (.waitt a) => waitt r c a h
    | _ => h

/-- ALARM (R250). ALARM instruction: arm or disarm an alarm one-shot at a time triple. -/
def execAmixelAlarm (c : CtxIx) (s : State) : Host.Outcome State Fault Refusal :=
  s.onHub fun r h => match h.fetched c with
    | some (.alarmArm a n) => alarmArmI r c a n h
    | some (.alarmDisarm n) => alarmDisarmI r c n h
    | _ => h

/-- ARM_UNIT (R251). ARM instruction: arm a capture unit with this context as owner. -/
def execAmixelArmUnit (c : CtxIx) (s : State) : Host.Outcome State Fault Refusal :=
  s.onHub fun r h => match h.fetched c with
    | some (.armUnit u) => armUnit r c u h
    | _ => h

/-- DISARM_UNIT (R251). DISARM instruction: disarm a capture unit. -/
def execAmixelDisarmUnit (c : CtxIx) (s : State) : Host.Outcome State Fault Refusal :=
  s.onHub fun r h => match h.fetched c with
    | some (.disarmUnit u) => disarmUnit r c u h
    | _ => h

/-- FIRE_UNIT (R251). FIRE instruction: trigger an armed capture unit, optionally at a timed instant. -/
def execAmixelFireUnit (c : CtxIx) (s : State) : Host.Outcome State Fault Refusal :=
  s.onHub fun r h => match h.fetched c with
    | some (.fireUnit u timed) => fireUnit r c u (timed.map Fin.val) h
    | _ => h

/-- MIRROR (R252). MIRROR instruction: copy mapped context registers and queue them for the twin. -/
def execAmixelMirror (c : CtxIx) (s : State) : Host.Outcome State Fault Refusal :=
  s.onHub fun r h => match h.fetched c with
    | some (.mirror) => mirrorI r c h
    | _ => h

/-- POST (R253). POST instruction: post a word to a mailbox channel. -/
def execAmixelPost (c : CtxIx) (s : State) : Host.Outcome State Fault Refusal :=
  s.onHub fun r h => match h.fetched c with
    | some (.post a ch) => post r c a ch h
    | _ => h

/-- TAKEMB (R253). TAKEMB instruction: take a mailbox word and clear FULL. -/
def execAmixelTakemb (c : CtxIx) (s : State) : Host.Outcome State Fault Refusal :=
  s.onHub fun r h => match h.fetched c with
    | some (.takemb d ch) => takemb r c d ch h
    | _ => h

/-- LOCKA (R254). LOCKA instruction: try to acquire a lock for this context. -/
def execAmixelLocka (c : CtxIx) (s : State) : Host.Outcome State Fault Refusal :=
  s.onHub fun r h => match h.fetched c with
    | some (.locka l) => locka r c l h
    | _ => h

/-- LOCKR (R254). LOCKR instruction: release a lock after earlier stores complete. -/
def execAmixelLockr (c : CtxIx) (s : State) : Host.Outcome State Fault Refusal :=
  s.onHub fun r h => match h.fetched c with
    | some (.lockr l) => lockr r c l h
    | _ => h

/-- YIELD (R255). YIELD instruction: end the activation, to WAIT or restart on a pending activation. -/
def execAmixelYield (c : CtxIx) (s : State) : Host.Outcome State Fault Refusal :=
  s.onHub fun r h => match h.fetched c with
    | some (.yield_) => yieldI r c h
    | _ => h

/-- HALT (R255). HALT instruction: enter HALTED, producing GAP records and releasing locks. -/
def execAmixelHalt (c : CtxIx) (s : State) : Host.Outcome State Fault Refusal :=
  s.onHub fun r h => match h.fetched c with
    | some (.halt) => haltI r c h
    | _ => h

/-- NOP (R255). NOP instruction: nothing. -/
def execAmixelNop (c : CtxIx) (s : State) : Host.Outcome State Fault Refusal :=
  s.onHub fun r h => match h.fetched c with
    | some (.nop) => nopI r c h
    | _ => h

end Sys2Proof.Machine
end

