-- ==== Sys2Proof/Machine/ExecBelfry.lean ====
section
/-!
DEFINITION. The meanings of the commands of Belfry, mailboxes, locks, the log and the ports, one per row.
-/

namespace Sys2Proof.Machine

/-- LOCKSTEP_MISMATCH (R370). A lockstep mismatch between the Belfry cores causes a Belfry reset. -/
def execLockstepMismatch (pc : Word) (s : State) : Host.Outcome State Fault Refusal :=
  s.onHub fun r h => lockstepMismatch r pc h

/-- WATCHDOG_EXPIRY (R370). 100 ms without watchdog service causes a Belfry reset. -/
def execWatchdogExpiry (s : State) : Host.Outcome State Fault Refusal :=
  s.onHub fun r h => watchdogExpiry r h

/-- BELFRY_RESTART (R386). The firmware restarts after a Belfry reset, answers in-flight commands with EABORT and logs the
reset. -/
def execBelfryRestart (s : State) : Host.Outcome State Fault Refusal :=
  s.onHub fun r h => belfryRestart r h

/-- BOOT_ROM_START (R371). At reset release the ROM samples BOOT_SEL and starts loading firmware or waits for the host. -/
def execBootRomStart (sel : BootSel) (s : State) : Host.Outcome State Fault Refusal :=
  s.onHub fun r h => bootRomStart r sel h

/-- FIRMWARE_LOADED (R374). A firmware image read completes and is verified; the firmware runs, a fallback is taken, or
the ROM halts. -/
def execFirmwareLoaded (img : List Byte) (cfg : List SetupWrite) (s : State) : Host.Outcome State Fault Refusal :=
  s.onHub fun _ h => firmwareLoaded img cfg h

/-- BOOT_CTRL_WRITE (R373). A host write of the image length to SYS.BOOT_CTRL makes the ROM copy and verify the host
image. -/
def execBootCtrlWrite (m : MasterIx) (v : Word) (cfg : List SetupWrite) (s : State) : Host.Outcome State Fault Refusal :=
  s.onHub fun r h => h.busWrite r m Addr.SYS_BOOT_CTRL 4 v cfg

/-- MAILBOX_POST (R377). A write to MB_DATA posts a word to the channel and rings the receiver's MSG doorbell. -/
def execMailboxPost (m : MasterIx) (ch : BoxIx) (v : Word) (s : State) : Host.Outcome State Fault Refusal :=
  s.onHub fun r h => h.write r m (Addr.MB_DATA ch) v

/-- MAILBOX_TAKE (R378). A receiver's read of MB_DATA takes the word and may ring the sender's ACK doorbell. -/
def execMailboxTake (m : MasterIx) (ch : BoxIx) (s : State) : Host.Outcome State Fault Refusal :=
  s.onHub fun r h => h.read r m (Addr.MB_DATA ch)

/-- BIND_WRITE (R376). A write to a BIND entry binds or unbinds a mailbox channel, or is refused. -/
def execBindWrite (m : MasterIx) (ch : BoxIx) (v : Word) (s : State) : Host.Outcome State Fault Refusal :=
  s.onHub fun r h => h.write r m (Addr.BIND ch) v

/-- BIND_LOCK (R376). A 1 written to BIND_LOCK.LOCK locks the binding table until hub reset. -/
def execBindLock (m : MasterIx) (v : Word) (s : State) : Host.Outcome State Fault Refusal :=
  s.onHub fun r h => h.write r m Addr.BIND_LOCK (putBit v 0 true)

/-- MASTER_RESET (R380). A master writes its own ID to CP_MASTER_RESET; its RESET_EPOCH increments and its channels and
locks are treated. -/
def execMasterReset (m : MasterIx) (s : State) : Host.Outcome State Fault Refusal :=
  s.onHub fun r h => h.write r m Addr.CP_MASTER_RESET (wd m.val)

/-- TRST_N_LOW (R380). TRST_N driven low is a master reset of JTAG: its RESET_EPOCH increments, its locks are released and
its channels are treated as R381 and R382 state; the TAP falls back to IDCODE (log entry 56). -/
def execTrstNLow (s : State) : Host.Outcome State Fault Refusal :=
  s.onHub fun r h => { h.masterReset r jtag with pins.tap := .idcode }

/-- RESPONSE_POST (R385). Belfry posts a waiting response once the response channel is no longer FULL. -/
def execResponsePost (ch : BoxIx) (s : State) : Host.Outcome State Fault Refusal :=
  s.onHub fun r h => responsePost r ch h

/-- LOCK_ACQUIRE (R387). A read of LOCK acquires a free lock or returns its owner. -/
def execLockAcquire (m : MasterIx) (l : LockIx) (s : State) : Host.Outcome State Fault Refusal :=
  s.onHub fun r h => h.read r m (Addr.LOCK l)

/-- LOCK_RELEASE (R387). An owner write of its own ID to LOCK releases the lock. -/
def execLockRelease (m : MasterIx) (l : LockIx) (s : State) : Host.Outcome State Fault Refusal :=
  s.onHub fun r h => h.write r m (Addr.LOCK l) (wd m.val)

/-- LOCK_FORCE (R389). A write to LOCK_FORCE by BELFRY or JTAG releases a lock. -/
def execLockForce (m : MasterIx) (v : Word) (s : State) : Host.Outcome State Fault Refusal :=
  s.onHub fun r h => h.write r m Addr.LOCK_FORCE v

/-- ELOG_QUEUE_WRITE (R391). The log writes a queued report as a new entry. -/
def execElogQueueWrite (s : State) : Host.Outcome State Fault Refusal :=
  s.onHub fun _ h => elogQueueWrite h

/-- ELOG_FREE (R392). A write to ELOG_FREE frees the oldest entries. -/
def execElogFree (m : MasterIx) (v : Word) (s : State) : Host.Outcome State Fault Refusal :=
  s.onHub fun r h => h.write r m Addr.ELOG_FREE v

/-- ERRLOG_DRAIN (R392). ERRLOG_DRAIN command copies up to 8 oldest entries into its slot and frees them. -/
def execErrlogDrain (ch : BoxIx) (s : State) : Host.Outcome State Fault Refusal :=
  s.onHub fun r h => errlogDrain r ch h

/-- SPI_WRITE (R394). An SPI frame with operation WRITE posts a 32-bit write at CS rise. -/
def execSpiWrite (w : Word) (v : Word) (s : State) : Host.Outcome State Fault Refusal :=
  s.onHub fun r h => spiWrite r w v h

/-- SPI_READ (R394). An SPI frame with operation READ starts a 32-bit read at CS rise. -/
def execSpiRead (w : Word) (s : State) : Host.Outcome State Fault Refusal :=
  s.onHub fun _ h => spiRead w h

/-- SPI_NOP (R394). An SPI frame with operation NOP only returns SPI_STAT and any read result. -/
def execSpiNop (s : State) : Host.Outcome State Fault Refusal :=
  s.onHub fun _ h => spiNop h

/-- SPI_BAD_FRAME (R393). An SPI frame of wrong length or reserved operation is ignored and counted. -/
def execSpiBadFrame (s : State) : Host.Outcome State Fault Refusal :=
  s.onHub fun _ h => spiBadFrame h

/-- SPI_READ_COMPLETE (R396). An SPI read completes and its result is held for the next frames with RDY = 1. -/
def execSpiReadComplete (s : State) : Host.Outcome State Fault Refusal :=
  s.onHub fun r h => spiReadComplete r h

/-- MGMT_READ (R398). A management READ request is executed and answered with RESP. -/
def execMgmtRead (l : LaneIx) (x : RxFrame) (bulk : Bool) (held : Option Nat) (s : State) : Host.Outcome State Fault Refusal :=
  s.onHub fun r h => mgmtFrame r l x bulk 1 held h

/-- MGMT_WRITE (R398). A management WRITE request is executed and answered with RESP. -/
def execMgmtWrite (l : LaneIx) (x : RxFrame) (bulk : Bool) (s : State) : Host.Outcome State Fault Refusal :=
  s.onHub fun r h => mgmtFrame r l x bulk 2 none h

/-- MGMT_UNEXPECTED (R398). A management RESP, DOORBELL or reserved OP received is answered with EUNKNOWN. -/
def execMgmtUnexpected (l : LaneIx) (x : RxFrame) (bulk : Bool) (op : MgmtOp) (s : State) : Host.Outcome State Fault Refusal :=
  s.onHub fun r h => mgmtFrame r l x bulk (mgmtOtherOp op) none h

/-- DOORBELL_FRAME_SEND (R401). UPLINK doorbells becoming pending, and every 10 ms after, send a DOORBELL frame. -/
def execDoorbellFrameSend (s : State) : Host.Outcome State Fault Refusal :=
  s.onHub fun r h => doorbellFrameSend r h

/-- OTP_PROGRAM_HASH (R404). The OTP_CTRL sequence 0x4F50, 0x574B programs the owner hash, or is refused. -/
def execOtpProgramHash (m : MasterIx) (s : State) : Host.Outcome State Fault Refusal :=
  s.onHub fun r h => (h.write r m Addr.SYS_OTP_CTRL 0x4F50#32).write r m Addr.SYS_OTP_CTRL 0x574B#32

/-- OTP_BLOW_DEBUG_LOCK (R404). The OTP_CTRL sequence 0x4F50, 0x444C blows the debug-lock fuse. -/
def execOtpBlowDebugLock (m : MasterIx) (s : State) : Host.Outcome State Fault Refusal :=
  s.onHub fun r h => (h.write r m Addr.SYS_OTP_CTRL 0x4F50#32).write r m Addr.SYS_OTP_CTRL 0x444C#32

/-- OTP_SEQUENCE_TIMEOUT (R404). An OTP sequence not completed within 1 ms is refused with ESTATE. -/
def execOtpSequenceTimeout (s : State) : Host.Outcome State Fault Refusal :=
  s.onHub fun r h => otpSequenceTimeout r h

/-- OTP_PROGRAM_COMPLETE (R404). OTP programming ends after 20 ms and BUSY clears. -/
def execOtpProgramComplete (s : State) : Host.Outcome State Fault Refusal :=
  s.onHub fun r h => otpProgramComplete r h

end Sys2Proof.Machine
end

