-- ==== Sys2Proof/Machine/ExecCalib.lean ====
section
/-!
DEFINITION. The meanings of the commands of calibration and trim, one per row.
-/

namespace Sys2Proof.Machine

/-- TEMP_UPDATE (R147). Every 1 ms the spire temperature mean is written to TEMP_NOW and trim conditions are evaluated. -/
def execTempUpdate (n : SpireIx) (s : State) : Host.Outcome State Fault Refusal :=
  s.onHub fun r h => tempUpdate r n h

/-- DIE_TEMP_READ (R168). Every 1 ms the die-centre sensor reading is written to CALC.DIE_TEMP. -/
def execDieTempRead (v : Word) (s : State) : Host.Outcome State Fault Refusal :=
  s.onHub fun _ h => dieTempRead v h

/-- TRIM_EVALUATION (R157). Every 1 ms and at each trim end Belfry chooses and issues the oldest eligible trim request. -/
def execTrimEvaluation (s : State) : Host.Outcome State Fault Refusal :=
  s.onHub fun r h => trimEvaluation r h

/-- TRIM_HOLD_MAX_REACHED (R157). A pending request that has waited HOLD_MAX becomes eligible and sets FORCED. -/
def execTrimHoldMaxReached (n : SpireIx) (s : State) : Host.Outcome State Fault Refusal :=
  s.onHub fun r h => trimHoldMaxReached r n h

/-- TRIM_START (R119). Once pending injections complete, the trim starts at the next frame boundary and the rotation
yields. -/
def execTrimStart (n : SpireIx) (s : State) : Host.Outcome State Fault Refusal :=
  s.onHub fun r h => trimStart r n h

/-- TRIM_END (R161). After 5 000 frames the trim results are checked and applied and the queue reopens. -/
def execTrimEnd (n : SpireIx) (v : TrimResult) (s : State) : Host.Outcome State Fault Refusal :=
  s.onHub fun r h => trimEnd r n v h

/-- BOOT_CAL_COMPLETE (R148). Boot calibration ends, active trims load from the table and the hub enters IDLE. -/
def execBootCalComplete (b : BootCal) (s : State) : Host.Outcome State Fault Refusal :=
  s.onHub fun r h => bootCalComplete r b h

/-- CAL_SAVE (R164). CAL_SAVE command requests a snapshot of every calibration value, or is refused with EBUSY. -/
def execCalSave (ch : BoxIx) (s : State) : Host.Outcome State Fault Refusal :=
  s.onHub fun r h => calSaveCommand r ch h

/-- CAL_SAVE_SNAPSHOT (R164). At a frame boundary after any active trim the calibration values are copied to the save
block and OK returned. -/
def execCalSaveSnapshot (s : State) : Host.Outcome State Fault Refusal :=
  s.onHub fun r h => calSaveSnapshot r h

/-- CAL_RESTORE (R165). CAL_RESTORE command checks the save block and waits for any active trim. -/
def execCalRestore (ch : BoxIx) (s : State) : Host.Outcome State Fault Refusal :=
  s.onHub fun r h => calRestoreCommand r ch h

/-- CAL_RESTORE_APPLY (R165). All restored values take effect at one frame boundary and pending trim requests clear. -/
def execCalRestoreApply (s : State) : Host.Outcome State Fault Refusal :=
  s.onHub fun r h => calRestoreApply r h

end Sys2Proof.Machine
end

