-- ==== Sys2Proof/Machine/ExecCapture.lean ====
section
/-!
DEFINITION. The meanings of the commands of the capture engine, one per row.
-/

namespace Sys2Proof.Machine

/-- CAP_CTRL_ARM (R264). A CAP_CTRL write of ARM arms the unit with the writer as owner, or is refused. -/
def execCapCtrlArm (m : MasterIx) (u : UnitIx) (v : Word) (s : State) : Host.Outcome State Fault Refusal :=
  s.onHub fun r h => h.write r m (Addr.CAP_CTRL u) (putBits v 0 4 1)

/-- CAP_CTRL_DISARM (R264). A CAP_CTRL write of DISARM disarms the unit, truncating any open record. -/
def execCapCtrlDisarm (m : MasterIx) (u : UnitIx) (v : Word) (s : State) : Host.Outcome State Fault Refusal :=
  s.onHub fun r h => h.write r m (Addr.CAP_CTRL u) (putBits v 0 4 2)

/-- CAP_CTRL_FIRE (R269). A CAP_CTRL write of FIRE gives the unit a HOST trigger. -/
def execCapCtrlFire (m : MasterIx) (u : UnitIx) (v : Word) (s : State) : Host.Outcome State Fault Refusal :=
  s.onHub fun r h => h.write r m (Addr.CAP_CTRL u) (putBits v 0 4 4)

/-- CAP_CTRL_RELEASE (R267). A CAP_CTRL write of RELEASE frees a slot holding a complete record. -/
def execCapCtrlRelease (m : MasterIx) (u : UnitIx) (v : Word) (s : State) : Host.Outcome State Fault Refusal :=
  s.onHub fun r h => h.write r m (Addr.CAP_CTRL u) (putBits v 0 4 8)

/-- CAPTURE_SET_STORED (R273). A complete sample set is written to the unit's area, closing the record at its last post
set or on overflow. -/
def execCaptureSetStored (u : UnitIx) (s : State) : Host.Outcome State Fault Refusal :=
  s.onHub fun r h => captureSetStored r u h

/-- CAPTURE_TRIGGER (R268). A trigger reaching a unit opens a record, goes PENDING, or is logged as not taken. -/
def execCaptureTrigger (u : UnitIx) (s : State) : Host.Outcome State Fault Refusal :=
  s.onHub fun r h => captureTrigger r u h

/-- CAPTURE_REARM (R265). 1 000 Dome cycles in CLOSING re-arm, fill up or disarm the unit. -/
def execCaptureRearm (u : UnitIx) (s : State) : Host.Outcome State Fault Refusal :=
  s.onHub fun r h => captureRearm r u h

/-- RECORD_MEASURED (R277). The measurement unit writes a record's measurement blocks and SEQ_B, completing the slot. -/
def execRecordMeasured (s : State) : Host.Outcome State Fault Refusal :=
  s.onHub fun r h => recordComplete r h

/-- RECORD_DELIVER (R276). A complete record is handed to the Ledger once its stream's rate bucket holds an element. -/
def execRecordDeliver (u : UnitIx) (s : State) : Host.Outcome State Fault Refusal :=
  s.onHub fun r h => recordDeliver r u h

end Sys2Proof.Machine
end

