-- ==== Sys2Proof/Machine/ExecCommand.lean ====
section
/-!
DEFINITION. The meanings of the commands of the commands of modes and runs, one per row.
-/

namespace Sys2Proof.Machine

/-- PING (R415). PING command echoes its ARG. -/
def execPing (ch : BoxIx) (s : State) : Host.Outcome State Fault Refusal :=
  s.onHub fun r h => pingCommand r ch h

/-- STATUS (R422). STATUS command writes a status summary into its slot and RESULT. -/
def execStatus (ch : BoxIx) (s : State) : Host.Outcome State Fault Refusal :=
  s.onHub fun r h => statusCommand r ch h

/-- NOP_COMMAND (R415). NOP command responds OK with no effect. -/
def execNopCommand (ch : BoxIx) (s : State) : Host.Outcome State Fault Refusal :=
  s.onHub fun r h => nopCommand r ch h

/-- ARM (R416). ARM command moves IDLE to ARMED after checking plan, grid and time state. -/
def execArm (ch : BoxIx) (s : State) : Host.Outcome State Fault Refusal :=
  s.onHub fun r h => armCommand r ch h

/-- START (R416). START command arms alarm 15 with START at a future frame instant. -/
def execStart (ch : BoxIx) (s : State) : Host.Outcome State Fault Refusal :=
  s.onHub fun r h => startCommand r ch h

/-- STOP (R418). STOP command schedules a stop frame. -/
def execStop (ch : BoxIx) (s : State) : Host.Outcome State Fault Refusal :=
  s.onHub fun r h => stopCommand r ch h

/-- ABORT (R418). ABORT command stops at the next frame boundary, overriding a scheduled STOP. -/
def execAbort (ch : BoxIx) (s : State) : Host.Outcome State Fault Refusal :=
  s.onHub fun r h => abortCommand r ch h

/-- STOP_FRAME (R418). At the stop frame filters stop, packets seal, contexts and captures idle and the hub enters IDLE. -/
def execStopFrame (s : State) : Host.Outcome State Fault Refusal :=
  s.onHub fun r h => stopFrame r h

/-- TRIM_NOW (R421). TRIM_NOW command records a NOW trim request for a spire. -/
def execTrimNow (ch : BoxIx) (s : State) : Host.Outcome State Fault Refusal :=
  s.onHub fun r h => trimNowCommand r ch h

/-- TRIM_HOLD (R159). TRIM_HOLD command puts a hub-wide trim hold in force. -/
def execTrimHold (ch : BoxIx) (s : State) : Host.Outcome State Fault Refusal :=
  s.onHub fun r h => trimHoldCommand r ch h

/-- TRIM_RELEASE (R159). TRIM_RELEASE command ends the trim hold. -/
def execTrimRelease (ch : BoxIx) (s : State) : Host.Outcome State Fault Refusal :=
  s.onHub fun r h => trimReleaseCommand r ch h

/-- PROMOTE (R420). PROMOTE command starts a planned handover towards this hub. -/
def execPromote (ch : BoxIx) (s : State) : Host.Outcome State Fault Refusal :=
  s.onHub fun r h => promoteCommand r ch h

/-- DEMOTE (R420). DEMOTE command starts a planned handover away from this hub. -/
def execDemote (ch : BoxIx) (s : State) : Host.Outcome State Fault Refusal :=
  s.onHub fun r h => demoteCommand r ch h

/-- SET_PREFERRED (R420). SET_PREFERRED command sets this hub's PRIMARY or SECONDARY role and tells the peer. -/
def execSetPreferred (ch : BoxIx) (s : State) : Host.Outcome State Fault Refusal :=
  s.onHub fun r h => setPreferredCommand r ch h

/-- SERVICE_ENTER (R419). SERVICE_ENTER command enters SERVICE, optionally starting the loaded plan. -/
def execServiceEnter (ch : BoxIx) (s : State) : Host.Outcome State Fault Refusal :=
  s.onHub fun r h => serviceEnterCommand r ch h

/-- SERVICE_EXIT (R419). SERVICE_EXIT command stops any running plan, disarms perturbations and enters IDLE. -/
def execServiceExit (ch : BoxIx) (s : State) : Host.Outcome State Fault Refusal :=
  s.onHub fun r h => serviceExitCommand r ch h

/-- HUB_RESET (R424). HUB_RESET command responds, then requests a HUB, BELFRY, SPIRE or LANE reset 1 ms later. -/
def execHubReset (ch : BoxIx) (s : State) : Host.Outcome State Fault Refusal :=
  s.onHub fun r h => hubResetCommand r ch h

end Sys2Proof.Machine
end

