-- ==== Sys2Proof/Machine/ExecContext.lean ====
section
/-!
DEFINITION. The meanings of the commands of contexts and plans, one per row.
-/

namespace Sys2Proof.Machine

/-- LOAD_PLAN (R208). LOAD_PLAN command copies, checks and applies a plan image or fails with a status. -/
def execLoadPlan (ch : BoxIx) (s : State) : Host.Outcome State Fault Refusal :=
  s.onHub fun r h => loadPlanCommand r ch h

/-- STAGE_ELEMENT_ARRIVE (R217). An element lands in an input port buffer in STAGE, or is discarded when the buffer is
full. -/
def execStageElementArrive (s : State) : Host.Outcome State Fault Refusal :=
  s.onHub fun _ h => stageElementArrive h

/-- ACTIVATION_PACING_RELEASE (R214). A pending ALARM or MAILBOX activation is released once 1 / CTX_RATE has passed. -/
def execActivationPacingRelease (c : CtxIx) (s : State) : Host.Outcome State Fault Refusal :=
  s.onHub fun r h => activationPacingRelease r c h

/-- CTX_CTRL_HALT (R215). A write of CTX_CTRL.HALT halts the context at its next instruction boundary. -/
def execCtxCtrlHalt (m : MasterIx) (c : CtxIx) (v : Word) (s : State) : Host.Outcome State Fault Refusal :=
  s.onHub fun r h => h.write r m (Addr.CTX_CTRL (c.val / 64) (c.val % 64)) (putBit v 1 true)

/-- CTX_CTRL_RESTART (R215). A write of CTX_CTRL.RESTART moves a HALTED context to WAIT or IDLE and empties its buffers. -/
def execCtxCtrlRestart (m : MasterIx) (c : CtxIx) (v : Word) (s : State) : Host.Outcome State Fault Refusal :=
  s.onHub fun r h => h.write r m (Addr.CTX_CTRL (c.val / 64) (c.val % 64)) (putBit v 0 true)

/-- TURRET_RESET (R425). TURRET_RESET command resets one Turret, reapplying context registers from SETUP. -/
def execTurretReset (ch : BoxIx) (s : State) : Host.Outcome State Fault Refusal :=
  s.onHub fun r h => turretResetCommand r ch h

/-- TURRET_RESET_END (R425). 1 000 Turret cycles after a Turret reset began, the Turret leaves reset, its contexts resume
as R215 states and doorbells held for it are delivered. -/
def execTurretResetEnd (t : TurretIx) (s : State) : Host.Outcome State Fault Refusal :=
  s.onHub fun r h => turretResetEnd r t h

/-- TURRET_UNGATE (R429). In its inrush slot Belfry ungates the clock of a Turret with used contexts. -/
def execTurretUngate (t : TurretIx) (s : State) : Host.Outcome State Fault Refusal :=
  s.onHub fun r h => turretUngate r t h

/-- UNDEFINED_WORD_ISSUE (R228). An undefined word reaching issue faults with EUNKNOWN and halts the context. -/
def execUndefinedWordIssue (c : CtxIx) (s : State) : Host.Outcome State Fault Refusal :=
  s.onHub fun r h => if (h.fetched c).isNone then undefinedWordIssue r c h else h

/-- LOAD_COMPLETE (R220). A Dome load completes, writes its destination and frees its tag, ending dependent stalls. -/
def execLoadComplete (c : CtxIx) (k : Nat) (s : State) : Host.Outcome State Fault Refusal :=
  s.onHub fun r h => loadComplete r c k h

/-- STORE_ACCEPTED (R220). The Dome accepts a posted Turret store, which frees its tag and may let a waiting LOCKR or a
tag-stalled context proceed. -/
def execStoreAccepted (c : CtxIx) (k : Nat) (s : State) : Host.Outcome State Fault Refusal :=
  s.onHub fun _ h => storeAccepted c k h

/-- MEASUREMENT_COMPLETE (R242). The measurement unit finishes its read-update-write of a record and delivers gd. -/
def execMeasurementComplete (c : CtxIx) (k : Nat) (s : State) : Host.Outcome State Fault Refusal :=
  s.onHub fun r h => measurementComplete r c k h

/-- TIME_REPLY (R248). The Lantern's reply to TIME arrives and the triple stops being pending. -/
def execTimeReply (c : CtxIx) (s : State) : Host.Outcome State Fault Refusal :=
  s.onHub fun _ h => timeReply c h

/-- WAITT_RESUME (R249). The Lantern signals the WAITT target and the context resumes at its next issue slot. -/
def execWaittResume (c : CtxIx) (s : State) : Host.Outcome State Fault Refusal :=
  s.onHub fun r h => waittResume r c h

end Sys2Proof.Machine
end

