-- ==== Sys2Proof/Machine/ExecFilter.lean ====
section
/-!
DEFINITION. The meanings of the commands of the filter islands and Sentry, one per row.
-/

namespace Sys2Proof.Machine

/-- FILTER_OUTPUT (R123). An output is computed from its window of present samples and leaves the island within 300
cycles. -/
def execFilterOutput (n : SpireIx) (c : ChanIx) (s : State) : Host.Outcome State Fault Refusal :=
  s.onHub fun r h => filterOutput r n c h

/-- FILTER_COMMIT (R131). A write of FI_CTRL.COMMIT checks the pending filter configuration and reports in
FI_COMMIT_STATUS. -/
def execFilterCommit (m : MasterIx) (n : SpireIx) (v : Word) (s : State) : Host.Outcome State Fault Refusal :=
  s.onHub fun r h => h.write r m (Addr.FI_CTRL n) (putBit v 0 true)

/-- FILTER_COMMIT_APPLY (R132). At frame boundary C the committed configuration applies and changed channels' paths are
cleared. -/
def execFilterCommitApply (n : SpireIx) (s : State) : Host.Outcome State Fault Refusal :=
  s.onHub fun r h => filterCommitApply n (frameOf (h.timeAt r)) h

/-- SENTRY_HIT_START (R281). A crossing in QUIET starts a hit and sends a trigger to the capture units. -/
def execSentryHitStart (n : SpireIx) (c : ChanIx) (s : State) : Host.Outcome State Fault Refusal :=
  s.onHub fun _ h => sentryHitStart n c h

/-- HIT_LOST_LOG (R283). When the hit FIFO has room again a lost hit is logged as HIT_LOST. -/
def execHitLostLog (n : SpireIx) (s : State) : Host.Outcome State Fault Refusal :=
  s.onHub fun _ h => hitLostLog n h

/-- SENTRY_HIT_END (R281). HDT without a crossing ends the hit with a summary and enters LOCKOUT. -/
def execSentryHitEnd (n : SpireIx) (c : ChanIx) (s : State) : Host.Outcome State Fault Refusal :=
  s.onHub fun r h => sentryHitEnd r n c h

/-- SENTRY_HIT_LONG (R281). A hit lasting 2^20 samples ends with a LONG summary and enters LOCKOUT. -/
def execSentryHitLong (n : SpireIx) (c : ChanIx) (s : State) : Host.Outcome State Fault Refusal :=
  s.onHub fun r h => sentryHitLong r n c h

/-- SENTRY_LOCKOUT_END (R281). HLT after the hit returns the detector to QUIET. -/
def execSentryLockoutEnd (n : SpireIx) (c : ChanIx) (s : State) : Host.Outcome State Fault Refusal :=
  s.onHub fun r h => sentryLockoutEnd r n c h

end Sys2Proof.Machine
end

