-- ==== Sys2Proof/Machine/ExecFront.lean ====
section
/-!
DEFINITION. The meanings of the commands of the sensor front ends, one per row.
-/

namespace Sys2Proof.Machine

/-- FE_CFG_WRITE (R46). A write to FE_CFG or FE_AUX is checked for reserved encodings and awaits the next frame boundary. -/
def execFeCfgWrite (m : MasterIx) (n : SpireIx) (c : ChanIx) (aux : Bool) (v : Word)
    (s : State) : Host.Outcome State Fault Refusal :=
  s.onHub fun r h => h.write r m (if aux then Addr.FE_AUX n c else Addr.FE_CFG n c) v

/-- FE_CFG_TAKE_EFFECT (R467). At the next frame boundary the new front-end settings apply; a MODE change clears the
channel's filter paths. -/
def execFeCfgTakeEffect (n : SpireIx) (c : ChanIx) (s : State) : Host.Outcome State Fault Refusal :=
  s.onHub fun r h => feCfgTakeEffect n c (frameOf (h.timeAt r)) h

/-- COMMON_MODE_TRIP (R51). An input ball beyond +-5.2 V replaces the channel's code with a saturated code carrying OVR. -/
def execCommonModeTrip (n : SpireIx) (c : ChanIx) (p : BallLevel) (q : BallLevel)
    (s : State) : Host.Outcome State Fault Refusal :=
  s.onHub fun r h => commonModeTrip r n c p q h

/-- RTD_COMPLIANCE_EXCEEDED (R52). The RTD P ball rises above 4.5 V and the channel's raw samples carry OVR. -/
def execRtdComplianceExceeded (n : SpireIx) (c : ChanIx) (exceeds : Bool) (s : State) : Host.Outcome State Fault Refusal :=
  s.onHub fun r h => rtdCompliance r n c exceeds h

/-- CHARGE_RAIL_REACHED (R57). The charge amplifier output reaches its +-4.5 V rail detector and the code saturates with
OVR. -/
def execChargeRailReached (n : SpireIx) (c : ChanIx) (l : BallLevel) (s : State) : Host.Outcome State Fault Refusal :=
  s.onHub fun r h => chargeRail r n c l h

/-- CLAMP_CONDUCT (R72). An input ball clamp conducts; the channel is marked clamped with OVR and its spire neighbours
carry SUSPECT. -/
def execClampConduct (n : SpireIx) (c : ChanIx) (p : BallLevel) (q : BallLevel)
    (s : State) : Host.Outcome State Fault Refusal :=
  s.onHub fun r h => clampConduct n c (frameOf (h.timeAt r)) p q h

/-- CLAMP_SUSPECT_END (R73). 16 frames after a clamped channel stops conducting, SUSPECT marking of the other channels of
the spire ends. -/
def execClampSuspectEnd (n : SpireIx) (c : ChanIx) (s : State) : Host.Outcome State Fault Refusal :=
  s.onHub fun r h => clampSuspectEnd n c (frameOf (h.timeAt r)) h

/-- FE_CHG_RESET_WRITE (R59). A 1 written to a channel's FE_CHG_RESET bit requests a manual charge reset. -/
def execFeChgResetWrite (m : MasterIx) (n : SpireIx) (v : Word) (s : State) : Host.Outcome State Fault Refusal :=
  s.onHub fun r h => h.write r m (Addr.FE_CHG_RESET n) v

/-- CHARGE_RESET_AUTO (R59). A raw code reaching 90 % of range requests a charge reset under AUTO. -/
def execChargeResetAuto (n : SpireIx) (c : ChanIx) (code : Int) (s : State) : Host.Outcome State Fault Refusal :=
  s.onHub fun _ h => chargeResetAuto n c code h

/-- CHARGE_RESET_PERIODIC (R59). A whole multiple of RST_PER from the stream epoch requests a charge reset under PERIODIC. -/
def execChargeResetPeriodic (n : SpireIx) (c : ChanIx) (s : State) : Host.Outcome State Fault Refusal :=
  s.onHub fun r h => chargeResetPeriodic n c (frameOf (h.timeAt r)) h

/-- CHARGE_RESET_START (R60). At the next frame boundary after a request the reset switch closes and raw samples are
marked RESET. -/
def execChargeResetStart (n : SpireIx) (c : ChanIx) (s : State) : Host.Outcome State Fault Refusal :=
  s.onHub fun r h => chargeResetStart n c (frameOf (h.timeAt r)) h

/-- CHARGE_RESET_SWITCH_OPEN (R60). After 2 frames in RESET the switch opens and the channel enters SETTLE. -/
def execChargeResetSwitchOpen (n : SpireIx) (c : ChanIx) (s : State) : Host.Outcome State Fault Refusal :=
  s.onHub fun _ h => chargeResetOpen n c h

/-- CHARGE_RESET_SETTLED (R60). After 2 frames in SETTLE the channel returns to TRACK and RESET marking stops. -/
def execChargeResetSettled (n : SpireIx) (c : ChanIx) (s : State) : Host.Outcome State Fault Refusal :=
  s.onHub fun r h => chargeResetSettled r n c h

/-- CHARGE_TEST_DUE (R110). At its network instant a channel's charge test is queued as an internal injected conversion,
or deferred while resetting. -/
def execChargeTestDue (n : SpireIx) (c : ChanIx) (s : State) : Host.Outcome State Fault Refusal :=
  s.onHub fun r h => chargeTestDue r n c h

/-- CHARGE_TEST_COMPLETE (R85). A charge test's two conversions complete; Cs is computed and written, and a break is
declared after two low results. -/
def execChargeTestComplete (n : SpireIx) (c : ChanIx) (s : State) : Host.Outcome State Fault Refusal :=
  s.onHub fun r h => chargeTestComplete r n c h

/-- EXC_ENABLE (R429). EN set to 1 is accepted at once and waits for an inrush slot before reaching the driver. -/
def execExcEnable (m : MasterIx) (n : SpireIx) (v : Word) (s : State) : Host.Outcome State Fault Refusal :=
  s.onHub fun r h => h.write r m (Addr.EXC_CFG n) (putBit v 2 true)

/-- INRUSH_EXC_ENABLE (R429). In the next free inrush slot, a waiting excitation enable reaches its driver, which ramps to
level. -/
def execInrushExcEnable (n : SpireIx) (s : State) : Host.Outcome State Fault Refusal :=
  s.onHub fun r h => inrushExcEnable r n (h.timeAt r) h

/-- EXC_DISABLE (R62). EN set to 0 turns the driver outputs off from ON, LIMIT or TRIPPED. -/
def execExcDisable (m : MasterIx) (n : SpireIx) (v : Word) (s : State) : Host.Outcome State Fault Refusal :=
  s.onHub fun r h => h.write r m (Addr.EXC_CFG n) (putBit v 2 false)

/-- EXC_LIMIT_ENTER (R466). Driver current reaches the limit; LIMIT is set, counted, and BRIDGE samples carry SUSPECT. -/
def execExcLimitEnter (n : SpireIx) (uA : Nat) (s : State) : Host.Outcome State Fault Refusal :=
  s.onHub fun r h => excLimitEnter r n uA h

/-- EXC_LIMIT_EXIT (R62). Driver current below the limit for 16 frames clears LIMIT and returns to ON. -/
def execExcLimitExit (n : SpireIx) (uA : Nat) (s : State) : Host.Outcome State Fault Refusal :=
  s.onHub fun r h => excLimitExit r n uA h

/-- EXC_TRIP (R62). 100 ms continuous in LIMIT turns the outputs off, sets TRIP and writes an error-log entry. -/
def execExcTrip (n : SpireIx) (s : State) : Host.Outcome State Fault Refusal :=
  s.onHub fun r h => excTrip r n h

/-- EXC_TRIP_RESTART (R62). A 1 written to EXC_STATUS.TRIP with EN = 1 restarts the driver as from OFF. -/
def execExcTripRestart (m : MasterIx) (n : SpireIx) (v : Word) (s : State) : Host.Outcome State Fault Refusal :=
  s.onHub fun r h => h.write r m (Addr.EXC_STATUS n) (putBit v 3 true)

/-- REVERSE_NOW (R69). A write of EXC_CTRL.REVERSE_NOW reverses excitation as an excitation change, or is refused while
REV_EN = 1. -/
def execReverseNow (m : MasterIx) (n : SpireIx) (v : Word) (s : State) : Host.Outcome State Fault Refusal :=
  s.onHub fun r h => h.write r m (Addr.EXC_CTRL n) (putBit v 0 true)

/-- EXC_REVERSAL (R68). At a scheduled reversal instant the polarity swaps and the blank frames are replaced by the last
demodulated sample. -/
def execExcReversal (n : SpireIx) (s : State) : Host.Outcome State Fault Refusal :=
  s.onHub fun r h => excReversal n (frameOf (h.timeAt r))
    (h.revPeriod n fun c => (h.filtCfg n c).ratio * (h.filtCfg n c).period) h

/-- EXC_SENSE_BREAK (R79). Three consecutive frames of low sense or high force-minus-sense declare an excitation or sense
break. -/
def execExcSenseBreak (n : SpireIx) (s : State) : Host.Outcome State Fault Refusal :=
  s.onHub fun r h => excSenseBreak r n h

/-- PROBE_BALL_READ (R81). The diagnostic multiplexer reads a probed ball single-ended, at least every 10 us. -/
def execProbeBallRead (n : SpireIx) (c : ChanIx) (pBall : Bool) (s : State) : Host.Outcome State Fault Refusal :=
  s.onHub fun r h => probeBallRead r n c pBall h

/-- BREAK_CLEAR (R78). A break condition absent for 100 ms clears FE_BREAK_NOW and emits a REPAIRED event record. -/
def execBreakClear (n : SpireIx) (c : ChanIx) (m : BreakMethod) (s : State) : Host.Outcome State Fault Refusal :=
  s.onHub fun r h => breakClear r n c m h

/-- USER_CURVE_WRITE (R93). A write to a user curve word is checked against the VALID conditions or refused. -/
def execUserCurveWrite (m : MasterIx) (n : SpireIx) (k : CurveIx) (w : CurveWordIx) (v : Word)
    (s : State) : Host.Outcome State Fault Refusal :=
  s.onHub fun r h => h.write r m (userCurveBase n (32 + k.val) + 4 * w.val) v

end Sys2Proof.Machine
end

