-- ==== Sys2Proof/Machine/ExecLane.lean ====
section
/-!
DEFINITION. The meanings of the commands of the lanes and the Gatehouse, one per row.
-/

namespace Sys2Proof.Machine

/-- LANE_CFG_WRITE (R315). A write to LANE_CFG sets role, protocol, media and enable, or is refused. -/
def execLaneCfgWrite (m : MasterIx) (l : LaneIx) (v : Word) (s : State) : Host.Outcome State Fault Refusal :=
  s.onHub fun r h => h.write r m (Addr.LANE_CFG l) v

/-- LANE_DETECT_DONE (R335). Medium present for 10 ms moves the lane from DETECT to TRAIN. -/
def execLaneDetectDone (l : LaneIx) (s : State) : Host.Outcome State Fault Refusal :=
  s.onHub fun r h => laneDetectDone r l h

/-- LANE_TRAIN_DONE (R335). CDR lock and equaliser convergence after 20 ms move the lane to LOCK. -/
def execLaneTrainDone (l : LaneIx) (s : State) : Host.Outcome State Fault Refusal :=
  s.onHub fun r h => laneTrainDone r l h

/-- LANE_TRAIN_TIMEOUT (R335). 200 ms in TRAIN returns the lane to DETECT and counts a training failure. -/
def execLaneTrainTimeout (l : LaneIx) (s : State) : Host.Outcome State Fault Refusal :=
  s.onHub fun r h => laneTrainTimeout r l h

/-- LANE_LOCK_DONE (R335). Three IDLE delimiters 64 bits apart move the lane to EXCHANGE. -/
def execLaneLockDone (l : LaneIx) (s : State) : Host.Outcome State Fault Refusal :=
  s.onHub fun r h => laneLockDone r l h

/-- LANE_LOCK_TIMEOUT (R335). Timeout in LOCK or EXCHANGE retrains, or after a third failure returns to DETECT. -/
def execLaneLockTimeout (l : LaneIx) (s : State) : Host.Outcome State Fault Refusal :=
  s.onHub fun r h => laneLockTimeout r l h

/-- TX_DISABLE_HOLD_END (R335). The 100 ms TX_DISABLE hold after a third failure ends. -/
def execTxDisableHoldEnd (l : LaneIx) (s : State) : Host.Outcome State Fault Refusal :=
  s.onHub fun r h => txDisableHoldEnd r l h

/-- CAP_SEND (R335). Every 100 us in EXCHANGE, or 10 ms in INCOMPAT, the lane sends a CAP frame. -/
def execCapSend (l : LaneIx) (s : State) : Host.Outcome State Fault Refusal :=
  s.onHub fun r h => capSend r l h

/-- CAP (R337). A received CAP frame may complete the handshake and make the lane ACTIVE or INCOMPAT. -/
def execCap (l : LaneIx) (x : RxFrame) (s : State) : Host.Outcome State Fault Refusal :=
  s.onHub fun r h => x.link r l tCAP (capArrive r l) h

/-- LANE_LOSS (R335). Loss of delimiters, of LINK frames or excessive code violations take an ACTIVE lane to LOCK. -/
def execLaneLoss (l : LaneIx) (line : List Bool) (s : State) : Host.Outcome State Fault Refusal :=
  s.onHub fun r h => laneLoss r l line h

/-- MODULE_REMOVAL (R335). MOD_ABS going high on an optical lane returns it to DETECT. -/
def execModuleRemoval (l : LaneIx) (s : State) : Host.Outcome State Fault Refusal :=
  s.onHub fun r h => moduleRemoval r l h

/-- LOS (R335). LOS going high from LOCK on returns an optical lane to DETECT. -/
def execLos (l : LaneIx) (high : Bool) (s : State) : Host.Outcome State Fault Refusal :=
  s.onHub fun r h => losPin r l high h

/-- RETRAIN (R335). A write of LANE_CTRL.RETRAIN sends the lane to TRAIN. -/
def execRetrain (m : MasterIx) (l : LaneIx) (v : Word) (s : State) : Host.Outcome State Fault Refusal :=
  s.onHub fun r h => h.write r m (Addr.LANE_CTRL l) (putBit v 0 true)

/-- LINK_RETRAIN (R421). LINK_RETRAIN command retrains a lane. -/
def execLinkRetrain (ch : BoxIx) (s : State) : Host.Outcome State Fault Refusal :=
  s.onHub fun r h => linkRetrainCommand r ch h

/-- SEGMENT_UP_REPORT (R331). A lane ACTIVE again for 100 ms is reported up by RING frame. -/
def execSegmentUpReport (l : LaneIx) (s : State) : Host.Outcome State Fault Refusal :=
  s.onHub fun r h => segmentUpReport r l h

/-- RING_REPEAT (R331). The origin repeats RING every 1 ms for 10 ms, and every hub reports both segments every 100 ms. -/
def execRingRepeat (s : State) : Host.Outcome State Fault Refusal :=
  s.onHub fun r h => ringRepeat r h

/-- RING (R331). A received RING report updates segment state and routing within 2 us. -/
def execRing (l : LaneIx) (x : RxFrame) (s : State) : Host.Outcome State Fault Refusal :=
  s.onHub fun r h => x.link r l tRING ringReport h

/-- LINK_SEND (R326). An ACTIVE lane sends a LINK frame with cumulative freed credits. -/
def execLinkSend (l : LaneIx) (s : State) : Host.Outcome State Fault Refusal :=
  s.onHub fun r h => linkSend r l h

/-- LINK (R326). A received LINK frame returns credits per class to the transmitter. -/
def execLink (l : LaneIx) (x : RxFrame) (s : State) : Host.Outcome State Fault Refusal :=
  s.onHub fun r h => x.link r l tLINK (linkArrive l) h

/-- FRAME_TRANSMIT_START (R327). A lane starts its next frame by class priority when credits allow, inserting TIME frames. -/
def execFrameTransmitStart (l : LaneIx) (s : State) : Host.Outcome State Fault Refusal :=
  s.onHub fun r h => frameTransmitStart r l h

/-- SYNC_SEND (R333). At j x 62.5 ms plus position x 10 us the hub sends SYNC on each ACTIVE span lane. -/
def execSyncSend (l : LaneIx) (s : State) : Host.Outcome State Fault Refusal :=
  s.onHub fun r h => syncSend r l h

/-- SYNC (R333). A received SYNC is answered with RESP and may complete an exchange giving d and theta. -/
def execSync (l : LaneIx) (x : RxFrame) (s : State) : Host.Outcome State Fault Refusal :=
  s.onHub fun r h => x.link r l tSYNC (syncArrive r l) h

/-- RESP (R333). A received RESP records t4 for the exchange. -/
def execResp (l : LaneIx) (x : RxFrame) (s : State) : Host.Outcome State Fault Refusal :=
  s.onHub fun r h => x.link r l tRESP (respArrive r l) h

/-- SPAN_TRIG (R272). A received span trigger frame triggers enabled units or is discarded as a duplicate. -/
def execSpanTrig (l : LaneIx) (x : RxFrame) (s : State) : Host.Outcome State Fault Refusal :=
  s.onHub fun r h => x.link r l tSPANTRIG (fun f h => spanTrig r f.spanMsg h) h

/-- LEDGER (R329). A LEDGER frame is routed towards the gateway and passed to the uplink there. -/
def execLedger (l : LaneIx) (x : RxFrame) (s : State) : Host.Outcome State Fault Refusal :=
  s.onHub fun r h => x.link r l tLEDGER (fun _ h => h) h

/-- LACK (R305). A LACK frame addressed to a pair carries an ACK or NACK payload to the Ledger. -/
def execLack (l : LaneIx) (x : RxFrame) (s : State) : Host.Outcome State Fault Refusal :=
  s.onHub fun r h => x.link r l tLACK (fun f h => lackPayload r f h) h

/-- PAUSE (R341). A received PAUSE frame stops new uplink frames for its pause time. -/
def execPause (l : LaneIx) (quanta : PauseTime) (s : State) : Host.Outcome State Fault Refusal :=
  s.onHub fun r h => pauseArrive r l quanta h

/-- PAUSE_END (R341). The pause time expires and uplink frames resume. -/
def execPauseEnd (l : LaneIx) (s : State) : Host.Outcome State Fault Refusal :=
  s.onHub fun r h => pauseEnd r l h

/-- ETH_LINK_UP (R339). On an Ethernet uplink, block lock or clause 37 auto-negotiation completes and the lane goes from
LOCK to ACTIVE. -/
def execEthLinkUp (l : LaneIx) (s : State) : Host.Outcome State Fault Refusal :=
  s.onHub fun r h => ethLinkUp r l h

/-- ETH_LINK_LOSS (R339). An ACTIVE Ethernet uplink loses block lock or link and returns to DETECT. -/
def execEthLinkLoss (l : LaneIx) (s : State) : Host.Outcome State Fault Refusal :=
  s.onHub fun r h => ethLinkLoss r l h

/-- ETH_LOCK_TIMEOUT (R339). 500 ms in LOCK on an Ethernet uplink returns it to DETECT. -/
def execEthLockTimeout (l : LaneIx) (s : State) : Host.Outcome State Fault Refusal :=
  s.onHub fun r h => ethLockTimeout r l h

/-- PROTO_AUTO_TIMEOUT (R339). With PROTO AUTO, 1 s without ACTIVE moves on to the next protocol. -/
def execProtoAutoTimeout (l : LaneIx) (s : State) : Host.Outcome State Fault Refusal :=
  s.onHub fun r h => protoAutoTimeout r l h

/-- ANNOUNCE (R342). A PTP Announce message feeds the best-master choice. -/
def execAnnounce (m : PtpHead) (d : PtpDataset) (s : State) : Host.Outcome State Fault Refusal :=
  s.onHub fun r h => announce r m d h

/-- ANNOUNCE_TIMEOUT (R342). A PTP server heard in no Announce within three announce intervals drops out of the
best-master choice. -/
def execAnnounceTimeout (s : State) : Host.Outcome State Fault Refusal :=
  s.onHub fun r h => announceTimeout r h

/-- PTP_SYNC (R342). A PTP Sync message gives t2, or is ignored and counted. -/
def execPtpSync (m : PtpHead) (twoStep : Bool) (s : State) : Host.Outcome State Fault Refusal :=
  s.onHub fun r h => ptpSync r m twoStep h

/-- FOLLOW_UP (R342). A PTP Follow_Up message gives t1. -/
def execFollowUp (m : PtpHead) (origin : Nat) (s : State) : Host.Outcome State Fault Refusal :=
  s.onHub fun _ h => followUp m origin h

/-- DELAY_RESP (R342). A PTP Delay_Resp message gives t4 and completes a PTP measurement. -/
def execDelayResp (m : PtpHead) (port : Nat) (rx : Nat) (s : State) : Host.Outcome State Fault Refusal :=
  s.onHub fun _ h => delayResp m port rx h

/-- DELAY_REQ_SEND (R342). At the server's requested interval the hub sends Delay_Req, timestamped t3. -/
def execDelayReqSend (s : State) : Host.Outcome State Fault Refusal :=
  s.onHub fun r h => delayReqSend r h

/-- MODULE_INSERT (R343). On module insertion Belfry reads A0h bytes 0 to 95. -/
def execModuleInsert (l : LaneIx) (internal : Option Bool) (s : State) : Host.Outcome State Fault Refusal :=
  s.onHub fun r h => moduleInsert r l internal h

/-- DDM_POLL (R343). Every 1 s Belfry reads the module's diagnostic values into the DDM registers. -/
def execDdmPoll (l : LaneIx) (vals : Option (List Nat)) (s : State) : Host.Outcome State Fault Refusal :=
  s.onHub fun r h => ddmPoll r l vals h

/-- MOD_ACC_GO (R343). A write of MOD_ACC.GO queues a host I2C byte access. -/
def execModAccGo (m : MasterIx) (l : LaneIx) (v : Word) (s : State) : Host.Outcome State Fault Refusal :=
  s.onHub fun r h => h.write r m (Addr.MOD_ACC l) (putBit v 24 true)

/-- MOD_ACC_COMPLETE (R343). A host I2C access completes or times out with ETIME, setting MOD_RES. -/
def execModAccComplete (l : LaneIx) (byte : Option Nat) (s : State) : Host.Outcome State Fault Refusal :=
  s.onHub fun r h => modAccComplete r l byte h

/-- EYE_START (R344). A write of EYE_CTRL.START starts one scan point or is refused. -/
def execEyeStart (m : MasterIx) (l : LaneIx) (v : Word) (s : State) : Host.Outcome State Fault Refusal :=
  s.onHub fun r h => h.write r m (Addr.EYE_CTRL l) (putBit v 0 true)

/-- EYE_STOP (R344). A write of EYE_CTRL.STOP stops a running scan point. -/
def execEyeStop (m : MasterIx) (l : LaneIx) (v : Word) (s : State) : Host.Outcome State Fault Refusal :=
  s.onHub fun r h => h.write r m (Addr.EYE_CTRL l) (putBit v 1 true)

/-- EYE_POINT_DONE (R345). A scan point's dwell ends and its mismatch count is recorded. -/
def execEyePointDone (l : LaneIx) (count : Nat) (s : State) : Host.Outcome State Fault Refusal :=
  s.onHub fun r h => eyePointDone r l count h

/-- EYE_SCAN (R345). EYE_SCAN command scans a grid of points and writes the result to DATA. -/
def execEyeScan (ch : BoxIx) (s : State) : Host.Outcome State Fault Refusal :=
  s.onHub fun r h => eyeScanCommand r ch h

end Sys2Proof.Machine
end

