-- ==== Sys2Proof/Machine/ExecLedger.lean ====
section
/-!
DEFINITION. The meanings of the commands of the Ledger, one per row.
-/

namespace Sys2Proof.Machine

/-- LEDGER_ELEMENT_ARRIVE (R295). An element reaches the Ledger and is placed in its stream's open packet. -/
def execLedgerElementArrive (s : State) : Host.Outcome State Fault Refusal :=
  s.onHub fun r h => ledgerElementArrive r h

/-- PACKET_SEAL_TIMEOUT (R295). SEAL us after its first element an open packet is sealed. -/
def execPacketSealTimeout (q : StreamIx) (s : State) : Host.Outcome State Fault Refusal :=
  s.onHub fun r h => packetSealTimeout r q h

/-- PACKET_SEND (R304). A queue selects its next packet to send, checking parity, with a DESC first where required. -/
def execPacketSend (s : State) : Host.Outcome State Fault Refusal :=
  s.onHub fun r h => packetSend r h

/-- DESC_PERIODIC (R296). Every DESC_PER ms a DESC is sent on every delivering stream. -/
def execDescPeriodic (s : State) : Host.Outcome State Fault Refusal :=
  s.onHub fun r h => descPeriodic r h

/-- ACK (R305). An ACK frame's entries advance acknowledged NEXT and release packets at M. -/
def execAck (m : AckMsg) (s : State) : Host.Outcome State Fault Refusal :=
  s.onHub fun r h => ackMessage r false m h

/-- NACK (R306). A NACK acknowledges below NEXT and rewinds the queue if the packet was already sent. -/
def execNack (m : AckMsg) (s : State) : Host.Outcome State Fault Refusal :=
  s.onHub fun r h => ackMessage r true m h

/-- ACK_TIMEOUT (R307). The packet at M unacknowledged for ACK_TIMEOUT after sending rewinds the queue. -/
def execAckTimeout (q : QueueIx) (s : State) : Host.Outcome State Fault Refusal :=
  s.onHub fun r h => ackTimeout r q h

/-- LEDGER_COMMIT (R300). A write of LED_CTRL.COMMIT checks and applies the queue and stream layout. -/
def execLedgerCommit (m : MasterIx) (v : Word) (s : State) : Host.Outcome State Fault Refusal :=
  s.onHub fun r h => h.write r m Addr.LED_CTRL (putBit v 0 true)

/-- LEDGER_M_SEND (R362). Every 1 ms the active hub sends a LEDGER_M set of NEXT and next-produced values. -/
def execLedgerMSend (s : State) : Host.Outcome State Fault Refusal :=
  s.onHub fun r h => ledgerMSend r h

/-- LEDGER_M (R363). The frame carrying LAST applies a LEDGER_M set, moving each standby queue's M. -/
def execLedgerM (l : LaneIx) (x : RxFrame) (s : State) : Host.Outcome State Fault Refusal :=
  s.onHub fun r h => x.selail r l mLEDGERM true ledgerM h

end Sys2Proof.Machine
end

