-- ==== Sys2Proof/Machine/ExecMem.lean ====
section
/-!
DEFINITION. The meanings of the commands of the Amixel memory, stream and measurement instructions, one per row.
-/

namespace Sys2Proof.Machine

/-- LD (R237). LD instruction: sized Dome load into a pending g register. -/
def execAmixelLd (c : CtxIx) (s : State) : Host.Outcome State Fault Refusal :=
  s.onHub fun r h => match h.fetched c with
    | some (.ld size d a imm) => ld r c size d a imm h
    | _ => h

/-- ST (R237). ST instruction: posted sized Dome store. -/
def execAmixelSt (c : CtxIx) (s : State) : Host.Outcome State Fault Refusal :=
  s.onHub fun r h => match h.fetched c with
    | some (.st size d a imm) => st r c size d a imm h
    | _ => h

/-- LDW (R237). LDW instruction: 64-bit Dome load into a pending wide register. -/
def execAmixelLdw (c : CtxIx) (s : State) : Host.Outcome State Fault Refusal :=
  s.onHub fun r h => match h.fetched c with
    | some (.ldw n a imm) => ldw r c n a imm h
    | _ => h

/-- STW (R237). STW instruction: posted 64-bit Dome store of a wide register. -/
def execAmixelStw (c : CtxIx) (s : State) : Host.Outcome State Fault Refusal :=
  s.onHub fun r h => match h.fetched c with
    | some (.stw n a imm) => stw r c n a imm h
    | _ => h

/-- TAKE (R238). TAKE instruction: consume elements from an input port, returning the last. -/
def execAmixelTake (c : CtxIx) (s : State) : Host.Outcome State Fault Refusal :=
  s.onHub fun r h => match h.fetched c with
    | some (.take d p n) => take r c (2 * d.val) p (n.val + 1) h
    | _ => h

/-- PEEK (R238). PEEK instruction: read an element of an input port without consuming it. -/
def execAmixelPeek (c : CtxIx) (s : State) : Host.Outcome State Fault Refusal :=
  s.onHub fun r h => match h.fetched c with
    | some (.peek d p i) => peek r c (2 * d.val) p i h
    | _ => h

/-- EMIT (R239). EMIT instruction: append an element with an instant from its time port to a derived stream. -/
def execAmixelEmit (c : CtxIx) (s : State) : Host.Outcome State Fault Refusal :=
  s.onHub fun r h => match h.fetched c with
    | some (.emit d fmt p) => emit r c (2 * d.val) fmt p h
    | _ => h

/-- SEAL (R241). SEAL instruction: close the output port's open packet at once. -/
def execAmixelSeal (c : CtxIx) (s : State) : Host.Outcome State Fault Refusal :=
  s.onHub fun r h => match h.fetched c with
    | some (.seal_ p) => sealPort r c p h
    | _ => h

/-- CURVE (R243). CURVE instruction: convert a binary32 by a linearisation curve. -/
def execAmixelCurve (c : CtxIx) (s : State) : Host.Outcome State Fault Refusal :=
  s.onHub fun r h => match h.fetched c with
    | some (.curve d a num island m) => curve r c d a num island m h
    | _ => h

/-- XING (R244). XING instruction: update a crossing record and return the period. -/
def execAmixelXing (c : CtxIx) (s : State) : Host.Outcome State Fault Refusal :=
  s.onHub fun r h => match h.fetched c with
    | some (.xing d a b form q edges) => xing r c d (2 * a.val) b form q (edges.val + 1) h
    | _ => h

/-- PEAKT (R245). PEAKT instruction: update a peak record and return the peak-to-peak. -/
def execAmixelPeakt (c : CtxIx) (s : State) : Host.Outcome State Fault Refusal :=
  s.onHub fun r h => match h.fetched c with
    | some (.peakt d a b form q reset) => peakt r c d (2 * a.val) b form q reset h
    | _ => h

/-- RFLOW (R247). RFLOW instruction: rainflow SAMPLE, FLUSH or RESET on a histogram record. -/
def execAmixelRflow (c : CtxIx) (s : State) : Host.Outcome State Fault Refusal :=
  s.onHub fun r h => match h.fetched c with
    | some (.rflow d a b mode) => rflow r c d a b mode h
    | _ => h

end Sys2Proof.Machine
end

