-- ==== Sys2Proof/Machine/ExecReset.lean ====
section
/-!
DEFINITION. The meanings of the commands of power and resets, one per row.
-/

namespace Sys2Proof.Machine

/-- PLL_LOCK (R170). The Lantern PLL locks in BOOT and RAW starts counting from 0. -/
def execPllLock (s : State) : Host.Outcome State Fault Refusal :=
  s.onHubRaw (fun h => h.pllReady) fun _ h => pllLock h

/-- RESET_DELAY_EXPIRY (R424). 1 ms after a HUB_RESET response the selected reset takes place. -/
def execResetDelayExpiry (s : State) : Host.Outcome State Fault Refusal :=
  s.onHubRaw (fun h => h.hubResetDue s.raw.toNat) fun r h => resetDelayExpiry r h

/-- POWER_ON_RELEASE (R435). All monitored rails in range for 2 ms release the power-on reset. -/
def execPowerOnRelease (s : State) : Host.Outcome State Fault Refusal :=
  s.onPower (fun h => !h.sys.powered) fun h => powerOnRelease h

/-- RESET_N_ASSERT (R425). RESET_N low for at least 1 us resets the whole hub. -/
def execResetNAssert (s : State) : Host.Outcome State Fault Refusal :=
  s.onHubRaw (fun _ => true) fun _ h => h.afterReset causeRESETN

/-- BROWNOUT (R427). VCORE below 0.700 V for 1 us resets the hub with cause BROWNOUT. -/
def execBrownout (s : State) : Host.Outcome State Fault Refusal :=
  s.onHubRaw (fun _ => true) fun _ h => h.afterReset causeBROWNOUT

/-- POWER_LOSS (R435). A monitored rail leaves its range and the power-on reset holds the hub in reset, with XSW_SEL and
ACT_OUT falling to their pull-downs. -/
def execPowerLoss (s : State) : Host.Outcome State Fault Refusal :=
  s.onPower (fun _ => true) fun h => powerLoss h

/-- SPIRE_RESET_END (R425). After 1 000 frames a spire reset ends and raw samples resume. -/
def execSpireResetEnd (n : SpireIx) (s : State) : Host.Outcome State Fault Refusal :=
  s.onHub fun r h => spireResetEnd r n h

/-- LANE_RESET_END (R425). After 1 ms DISABLED a reset lane restarts bring-up. -/
def execLaneResetEnd (l : LaneIx) (s : State) : Host.Outcome State Fault Refusal :=
  s.onHub fun r h => laneResetEnd r l h

end Sys2Proof.Machine
end

