-- ==== Sys2Proof/Machine/ExecSelail.lean ====
section
/-!
DEFINITION. The meanings of the commands of the twin, one per row.
-/

namespace Sys2Proof.Machine

/-- RENEW_SEND (R353). Every 1 ms the active hub sends RENEW to the warden. -/
def execRenewSend (s : State) : Host.Outcome State Fault Refusal :=
  s.onHub fun r h => renewSend r h

/-- RENEW (R353). The warden answers a RENEW with GRANT extending the lease, or with DENY. -/
def execRenew (l : LaneIx) (x : RxFrame) (s : State) : Host.Outcome State Fault Refusal :=
  s.onHub fun r h => x.selail r l mRENEW false (renewArrive r) h

/-- GRANT (R356). A received GRANT extends the active lease or lets a claimant await its promotion instant. -/
def execGrant (l : LaneIx) (x : RxFrame) (s : State) : Host.Outcome State Fault Refusal :=
  s.onHub fun r h => x.selail r l mGRANT false (grantArrive r) h

/-- DENY (R365). A received DENY is counted and the claim continues. -/
def execDeny (l : LaneIx) (x : RxFrame) (s : State) : Host.Outcome State Fault Refusal :=
  s.onHub fun r h => x.selail r l mDENY false (fun _ h => denyArrive h) h

/-- HEARTBEAT_SEND (R354). Every 1 ms the active hub sends HEARTBEAT to the standby. -/
def execHeartbeatSend (s : State) : Host.Outcome State Fault Refusal :=
  s.onHub fun r h => heartbeatSend r h

/-- HEARTBEAT (R354). A received HEARTBEAT is answered with t_r by the standby, or extends the active lease. -/
def execHeartbeat (l : LaneIx) (x : RxFrame) (s : State) : Host.Outcome State Fault Refusal :=
  s.onHub fun r h => x.selail r l mHEARTBEAT false (heartbeat r) h

/-- HEARTBEAT_MISS (R355). 1.1 ms without a heartbeat counts a miss; the third declares the active hub failed. -/
def execHeartbeatMiss (s : State) : Host.Outcome State Fault Refusal :=
  s.onHub fun r h => heartbeatMiss r h

/-- CLAIM_SEND (R355). A claiming hub sends CLAIM to the warden every 1 ms until answered. -/
def execClaimSend (s : State) : Host.Outcome State Fault Refusal :=
  s.onHub fun r h => claimSend r h

/-- CLAIM (R356). The warden answers a CLAIM by GRANT, holding or DENY WARDEN_WAIT. -/
def execClaim (l : LaneIx) (x : RxFrame) (s : State) : Host.Outcome State Fault Refusal :=
  s.onHub fun r h => x.selail r l mCLAIM false (claimArrive r) h

/-- WARDEN_LEASE_EXPIRY (R356). A held claim is granted at the holder's lease end when no RENEW has arrived. -/
def execWardenLeaseExpiry (s : State) : Host.Outcome State Fault Refusal :=
  s.onHub fun r h => wardenLeaseExpiry r h

/-- WARDEN_STARTUP_HOLD_END (R356). 4.05 ms after a warden reset, held claims are answered. -/
def execWardenStartupHoldEnd (s : State) : Host.Outcome State Fault Refusal :=
  s.onHub fun r h => wardenStartupHoldEnd r h

/-- STARTUP_CLAIM_EVAL (R356). Every 1 ms a STANDBY hub in IDLE or ARMED evaluates the start-up claim rule. -/
def execStartupClaimEval (s : State) : Host.Outcome State Fault Refusal :=
  s.onHub fun r h => startupClaimEval r h

/-- PROMOTION (R361). At the promotion frame boundary the standby becomes ACTIVE, takes its epoch and drives excitation
and pins. -/
def execPromotion (peerAct : Bool) (s : State) : Host.Outcome State Fault Refusal :=
  s.onHub fun r h => promotion r peerAct h

/-- XSW_TIME_END (R361). XSW_TIME after promotion CHARGE samples become present and every CHARGE channel is reset. -/
def execXswTimeEnd (s : State) : Host.Outcome State Fault Refusal :=
  s.onHub fun r h => xswTimeEnd r h

/-- LEASE_EXPIRY (R357). Corrected time reaching the lease end fences the active hub. -/
def execLeaseExpiry (s : State) : Host.Outcome State Fault Refusal :=
  s.onHub fun r h => leaseExpiry r h

/-- SELF_FAULT (R358). Leaving the time or health condition reports a fault that fences an active hub. -/
def execSelfFault (s : State) : Host.Outcome State Fault Refusal :=
  s.onHub fun r h => selfFault r h

/-- FENCE_BOUNDARY (R357). At the next frame boundary a fenced hub enters SHADOW and STANDBY. -/
def execFenceBoundary (s : State) : Host.Outcome State Fault Refusal :=
  s.onHub fun r h => fenceBoundary r h

/-- RELINQUISH (R355). A received RELINQUISH frees the warden entry or lets the standby declare the active hub failed. -/
def execRelinquish (l : LaneIx) (x : RxFrame) (s : State) : Host.Outcome State Fault Refusal :=
  s.onHub fun r h => x.selail r l mRELINQUISH false (relinquishArrive r) h

/-- ARB_GRANT_FALL (R359). A falling edge on ARB_GRANT_IN fences the hub within 2.5 us. -/
def execArbGrantFall (s : State) : Host.Outcome State Fault Refusal :=
  s.onHub fun r h => arbGrantFall r h

/-- ARB_GRANT_RISE (R359). A rising edge on ARB_GRANT_IN promotes a standby at the next frame boundary. -/
def execArbGrantRise (s : State) : Host.Outcome State Fault Refusal :=
  s.onHub fun r h => arbGrantRise r h

/-- CONTEXT (R363). A received CONTEXT mirror copy waits in MIRROR for the context's activation boundary. -/
def execContext (l : LaneIx) (x : RxFrame) (s : State) : Host.Outcome State Fault Refusal :=
  s.onHub fun r h => x.selail r l mCONTEXT true contextMirror h

/-- CONTEXT_FALLBACK_SLOT (R362). On the ring fallback, a context's waiting CONTEXT mirror copy is sent when its
once-per-10-ms slot comes round. -/
def execContextFallbackSlot (c : CtxIx) (s : State) : Host.Outcome State Fault Refusal :=
  s.onHub fun r h => contextFallbackSlot r c h

/-- HISTOGRAM_SEND (R362). Every 100 ms, or 1 s on the ring, the active hub sends changed histogram words. -/
def execHistogramSend (s : State) : Host.Outcome State Fault Refusal :=
  s.onHub fun r h => histogramSend r h

/-- HISTOGRAM (R363). Received histogram words are copied to DATA once the LAST set has arrived. -/
def execHistogram (l : LaneIx) (x : RxFrame) (s : State) : Host.Outcome State Fault Refusal :=
  s.onHub fun r h => x.selail r l mHISTOGRAM true histogramMirror h

/-- THRESHOLDS_SEND (R362). Every 100 ms, or 1 s on the ring, the active hub sends Sentry baselines and noise. -/
def execThresholdsSend (s : State) : Host.Outcome State Fault Refusal :=
  s.onHub fun r h => thresholdsSend r h

/-- THRESHOLDS (R363). Received Sentry baselines and noise load at each channel's next QUIET sample. -/
def execThresholds (l : LaneIx) (x : RxFrame) (s : State) : Host.Outcome State Fault Refusal :=
  s.onHub fun r h => x.selail r l mTHRESHOLDS true thresholdsMirror h

/-- CAPTURE_MIRROR (R363). A received CAPTURE record is kept in the MIRROR ring for the host. -/
def execCaptureMirror (l : LaneIx) (x : RxFrame) (s : State) : Host.Outcome State Fault Refusal :=
  s.onHub fun r h => x.selail r l mCAPTURE true captureMirror h

/-- MIRROR_PATH_RETURN (R364). 100 ms after the TWIN lane re-enters ACTIVE, mirroring and heartbeats return to it. -/
def execMirrorPathReturn (s : State) : Host.Outcome State Fault Refusal :=
  s.onHub fun r h => mirrorPathReturn r h

/-- REVERT_HOLD_ELAPSED (R366). A healthy PRIMARY in STANDBY for REVERT_HOLD starts a handover. -/
def execRevertHoldElapsed (s : State) : Host.Outcome State Fault Refusal :=
  s.onHub fun r h => revertHoldElapsed r h

/-- HANDOVER_PROPOSE (R366). A received HANDOVER PROPOSE makes the active hub choose F_h and accept. -/
def execHandoverPropose (l : LaneIx) (x : RxFrame) (s : State) : Host.Outcome State Fault Refusal :=
  s.onHub fun r h => x.handover r l 0 (handoverPropose r) h

/-- HANDOVER_ACCEPT (R366). A received HANDOVER ACCEPT carries F_h to the claimant. -/
def execHandoverAccept (l : LaneIx) (x : RxFrame) (s : State) : Host.Outcome State Fault Refusal :=
  s.onHub fun r h => x.handover r l 1 (handoverAccept r) h

/-- HANDOVER_CONFIRM (R366). A received HANDOVER CONFIRM confirms the handover at F_h. -/
def execHandoverConfirm (l : LaneIx) (x : RxFrame) (s : State) : Host.Outcome State Fault Refusal :=
  s.onHub fun r h => x.handover r l 2 (handoverConfirm r) h

/-- HANDOVER_CANCEL (R366). A received HANDOVER CANCEL abandons the handover. -/
def execHandoverCancel (l : LaneIx) (x : RxFrame) (s : State) : Host.Outcome State Fault Refusal :=
  s.onHub fun r h => x.handover r l 3 (handoverCancel r) h

/-- HANDOVER_CONFIRM_TIMEOUT (R366). A handover unconfirmed at F_h - 5 ms is cancelled. -/
def execHandoverConfirmTimeout (s : State) : Host.Outcome State Fault Refusal :=
  s.onHub fun r h => handoverConfirmTimeout r h

/-- HANDOVER_RETRY (R366). 1 s after a cancel the handover is retried. -/
def execHandoverRetry (s : State) : Host.Outcome State Fault Refusal :=
  s.onHub fun r h => handoverRetry r h

/-- HANDOVER_SEND_STOP (R366). At F_h - 5 us the active hub starts no Ledger frame and sends a final LEDGER_M set. -/
def execHandoverSendStop (s : State) : Host.Outcome State Fault Refusal :=
  s.onHub fun r h => handoverSendStop r h

/-- HANDOVER_FRAME (R366). At F_h the old active hub becomes STANDBY and the new one is promoted. -/
def execHandoverFrame (s : State) : Host.Outcome State Fault Refusal :=
  s.onHub fun r h => handoverFrame r h

end Sys2Proof.Machine
end

