-- ==== Sys2Proof/Machine/ExecSpire.lean ====
section
/-!
DEFINITION. The meanings of the commands of the spires, one per row.
-/

namespace Sys2Proof.Machine

/-- SCHED_COMMIT (R103). A write of SCHED_CTRL.COMMIT checks the pending slot table and delays, reporting in SCHED_STATUS. -/
def execSchedCommit (m : MasterIx) (n : SpireIx) (v : Word) (s : State) : Host.Outcome State Fault Refusal :=
  s.onHub fun r h => h.write r m (Addr.SCHED_CTRL n) (putBit v 0 true)

/-- SCHED_COMMIT_APPLY (R103). At the next frame boundary a passing pending schedule and delays take effect together. -/
def execSchedCommitApply (n : SpireIx) (s : State) : Host.Outcome State Fault Refusal :=
  s.onHub fun r h => schedCommitApply n (frameOf (h.timeAt r)) h

/-- RAW_CODE_CONVERT (R98). A slice code enters the spire-to-filter FIFO 14 grid clocks after its conversion slot. -/
def execRawCodeConvert (n : SpireIx) (slot : SlotIx) (f : Nat) (code : Int) (pair : Option (Int × Int))
    (s : State) : Host.Outcome State Fault Refusal :=
  s.onHub fun r h => rawCodeConvert r n slot f code pair h

/-- REF_CHECK_AVERAGE (R107). After 4 096 frames the reference check average is compared with the calibration value. -/
def execRefCheckAverage (n : SpireIx) (s : State) : Host.Outcome State Fault Refusal :=
  s.onHub fun r h => refCheckAverage r n h

/-- INJ_REQ (R111). A master write to INJ_REQ queues a spot conversion or is refused with ERANGE or EBUSY. -/
def execInjReq (m : MasterIx) (n : SpireIx) (v : Word) (s : State) : Host.Outcome State Fault Refusal :=
  s.onHub fun r h => h.write r m (Addr.INJ_REQ n) v

/-- INTERNAL_INJ_REQUEST (R112). An internal probe or charge-test request enters the injection queue, waiting if full or
trimmed. -/
def execInternalInjRequest (n : SpireIx) (who : InjWho) (node : Nat)
    (s : State) : Host.Outcome State Fault Refusal :=
  s.onHub fun r h => internalInj (h.timeAt r) n who node h

/-- INJ_COMPLETE (R111). An injected conversion completes and posts CODE, OVR, STATUS and the aperture time. -/
def execInjComplete (n : SpireIx) (s : State) : Host.Outcome State Fault Refusal :=
  s.onHub fun r h => injComplete (h.timeAt r) n h

/-- SPARE_CAL_START (R118). Belfry starts spire n's first spare calibration n x 15 625 frames after boot calibration. -/
def execSpareCalStart (n : SpireIx) (s : State) : Host.Outcome State Fault Refusal :=
  s.onHub fun _ h => spareCalStart n h

/-- SLICE_CAL_COMPLETE (R152). A spare slice calibration ends with Solve; coefficients replace the old ones or the failure
counts as an abort. -/
def execSliceCalComplete (n : SpireIx) (ofs : Int) (gain : Int) (inl : Int) (coef : List Word)
    (s : State) : Host.Outcome State Fault Refusal :=
  s.onHub fun r h => sliceCalComplete r n ofs gain inl coef h

/-- ROT_ENABLE (R115). ROT_EN set to 1 moves a PARKED rotation to SHADOW. -/
def execRotEnable (m : MasterIx) (n : SpireIx) (v : Word) (s : State) : Host.Outcome State Fault Refusal :=
  s.onHub fun r h => h.write r m (Addr.ROT_CFG n) (putBit v 0 true)

/-- SWAP_COMPARE_DONE (R114). 256 frames of shadow comparison close and the result is computed. -/
def execSwapCompareDone (n : SpireIx) (s : State) : Host.Outcome State Fault Refusal :=
  s.onHub fun r h => swapCompareDone r n h

/-- SWAP_VERDICT (R115). Two frames after the window a PASS, NODATA, MEAN or PEAK verdict moves the rotation on. -/
def execSwapVerdict (n : SpireIx) (s : State) : Host.Outcome State Fault Refusal :=
  s.onHub fun r h => swapVerdict r n h

/-- DRAIN_QUEUE_CLOSE (R115). At a frame boundary with no external entry pending the queue closes for a house-column swap. -/
def execDrainQueueClose (n : SpireIx) (s : State) : Host.Outcome State Fault Refusal :=
  s.onHub fun _ h => drainQueueClose n h

/-- DRAIN_FORCED (R115). CAL_DEFER_MAX in DRAIN closes the queue to external requests and sets FORCED. -/
def execDrainForced (n : SpireIx) (s : State) : Host.Outcome State Fault Refusal :=
  s.onHub fun _ h => drainForced n h

/-- SLICE_SWAP (R115). In GAP_WAIT the incoming slice takes over the column at a frame boundary and the outgoing becomes
spare. -/
def execSliceSwap (n : SpireIx) (s : State) : Host.Outcome State Fault Refusal :=
  s.onHub fun r h => sliceSwap r n h

end Sys2Proof.Machine
end

