-- ==== Sys2Proof/Machine/ExecTest.lean ====
section
/-!
DEFINITION. The meanings of the commands of supply sag and the test block, one per row.
-/

namespace Sys2Proof.Machine

/-- SAG_TRIP (R427). A droop detector trips and the hub enters a deeper sag level and throttle step. -/
def execSagTrip (k : SagIx) (s : State) : Host.Outcome State Fault Refusal :=
  s.onHub fun r h => sagTrip r k h

/-- SAG_LEVEL_LEAVE (R427). VCORE above the leave threshold for 10 us with the level held 10 us moves to a shallower
level. -/
def execSagLevelLeave (k : SagIx) (s : State) : Host.Outcome State Fault Refusal :=
  s.onHub fun r h => sagLevelLeave r k h

/-- TP_ARM (R459). A write to TP_ARM advances, completes, restarts or disarms the test arming sequence. -/
def execTpArm (m : MasterIx) (v : Word) (s : State) : Host.Outcome State Fault Refusal :=
  s.onHub fun r h => h.write r m Addr.TP_ARM v

/-- TP_XDELAY (R463). An enabling write to TP_XDELAY delays a crossing's transfers. -/
def execTpXdelay (m : MasterIx) (v : Word) (s : State) : Host.Outcome State Fault Refusal :=
  s.onHub fun r h => h.write r m Addr.TP_XDELAY (putBit v 16 true)

/-- TP_STARVE (R463). An enabling write to TP_STARVE starves a lane class or a queue for DUR. -/
def execTpStarve (m : MasterIx) (v : Word) (s : State) : Host.Outcome State Fault Refusal :=
  s.onHub fun r h => h.write r m Addr.TP_STARVE (putBit v 11 true)

/-- STARVE_END (R463). DUR expires, TP_STARVE is cleared and starved credits or queues resume. -/
def execStarveEnd (s : State) : Host.Outcome State Fault Refusal :=
  s.onHub fun r h => starveEnd r h

/-- TP_ACKHOLD (R463). An enabling write to TP_ACKHOLD delays ACK and NACK entries of named queues. -/
def execTpAckhold (m : MasterIx) (v : Word) (s : State) : Host.Outcome State Fault Refusal :=
  s.onHub fun r h => h.write r m Addr.TP_ACKHOLD (putBit v 17 true)

/-- ACKHOLD_RELEASE (R463). A held ACK or NACK entry is applied HOLD ms after arrival. -/
def execAckholdRelease (s : State) : Host.Outcome State Fault Refusal :=
  s.onHub fun r h => ackholdRelease r h

/-- TP_DROP (R463). An enabling write to TP_DROP discards received frames of selected lanes and classes at random. -/
def execTpDrop (m : MasterIx) (v : Word) (s : State) : Host.Outcome State Fault Refusal :=
  s.onHub fun r h => h.write r m Addr.TP_DROP (putBit v 24 true)

/-- INJECT (R463). A write of TP_PAR_CTRL.INJECT inverts the parity of the Dome word at TP_PAR_ADDR. -/
def execInject (m : MasterIx) (v : Word) (s : State) : Host.Outcome State Fault Refusal :=
  s.onHub fun r h => h.write r m Addr.TP_PAR_CTRL (putBit v 0 true)

/-- TP_TJIT (R463). An enabling write to TP_TJIT adds random stalls before Turret issue slots. -/
def execTpTjit (m : MasterIx) (v : Word) (s : State) : Host.Outcome State Fault Refusal :=
  s.onHub fun r h => h.write r m Addr.TP_TJIT (putBit v 12 true)

/-- TP_SAG (R463). An enabling write to TP_SAG forces a sag level. -/
def execTpSag (m : MasterIx) (v : Word) (s : State) : Host.Outcome State Fault Refusal :=
  s.onHub fun r h => h.write r m Addr.TP_SAG (putBit v 2 true)

/-- TP_SKEW (R463). An enabling write to TP_SKEW offsets and scales a slice's codes. -/
def execTpSkew (m : MasterIx) (v : Word) (s : State) : Host.Outcome State Fault Refusal :=
  s.onHub fun r h => h.write r m Addr.TP_SKEW (putBit v 7 true)

/-- TP_SWAPFAIL (R463). An enabling write to TP_SWAPFAIL forces the next swap verdict of named spires. -/
def execTpSwapfail (m : MasterIx) (v : Word) (s : State) : Host.Outcome State Fault Refusal :=
  s.onHub fun r h => h.write r m Addr.TP_SWAPFAIL (putBit v 18 true)

end Sys2Proof.Machine
end

