-- ==== Sys2Proof/Machine/ExecTime.lean ====
section
/-!
DEFINITION. The meanings of the commands of the Lantern, one per row.
-/

namespace Sys2Proof.Machine

/-- REFCLK_LOSS (R172). 1 us without a REFCLK edge holds the PLL, sets REFCLK_LOST and makes the time state FREE. -/
def execRefclkLoss (s : State) : Host.Outcome State Fault Refusal :=
  s.onHub fun r h => refclkLoss r h

/-- REFCLK_RETURN (R172). REFCLK returns and the PLL relocks without a jump in RAW. -/
def execRefclkReturn (s : State) : Host.Outcome State Fault Refusal :=
  s.onHub fun _ h => refclkReturn h

/-- SERVO_COMMIT_RATE (R175). A SERVO_CTRL write of KIND RATE stages a rate commit or is refused. -/
def execServoCommitRate (m : MasterIx) (v : Word) (s : State) : Host.Outcome State Fault Refusal :=
  s.onHub fun r h => h.write r m Addr.SERVO_CTRL (putBits v 0 2 0)

/-- SERVO_COMMIT_STEP (R175). A SERVO_CTRL write of KIND STEP stages a step commit or is refused. -/
def execServoCommitStep (m : MasterIx) (v : Word) (s : State) : Host.Outcome State Fault Refusal :=
  s.onHub fun r h => h.write r m Addr.SERVO_CTRL (putBits v 0 2 1)

/-- SERVO_COMMIT_SET (R175). A SERVO_CTRL write of KIND SET stages an absolute-time commit or is refused. -/
def execServoCommitSet (m : MasterIx) (v : Word) (s : State) : Host.Outcome State Fault Refusal :=
  s.onHub fun r h => h.write r m Addr.SERVO_CTRL (putBits v 0 2 2)

/-- SERVO_COMMIT_APPLY (R174). At r_c the hardware sets OFFSET, ANCHOR and RATE in one cycle. -/
def execServoCommitApply (s : State) : Host.Outcome State Fault Refusal :=
  s.onHub fun r h => servoCommitApply r h

/-- TIME_NOW_READ (R176). A read of TIME_NOW0 latches T and RAW into the master's snapshot bank. -/
def execTimeNowRead (m : MasterIx) (s : State) : Host.Outcome State Fault Refusal :=
  s.onHub fun r h => h.read r m Addr.TIME_NOW0

/-- TRIG_IN_EDGE (R178). A selected edge on TRIG_IN or PPS_IN is timestamped into the FIFO and counted. -/
def execTrigInEdge (k : TrigInIx) (rise : Bool) (s : State) : Host.Outcome State Fault Refusal :=
  s.onHub fun r h => trigInEdge r k rise h

/-- TRIG_IN_POP (R178). A read of TRIG_IN_TS0 pops the FIFO head into the other timestamp registers. -/
def execTrigInPop (m : MasterIx) (k : TrigInIx) (s : State) : Host.Outcome State Fault Refusal :=
  s.onHub fun r h => h.read r m (Addr.TRIG_IN_TS0 k)

/-- GRID_PHASE_MEASURE (R181). Each microsecond the grid edge error is captured and the phase interpolator corrected. -/
def execGridPhaseMeasure (e : Int) (s : State) : Host.Outcome State Fault Refusal :=
  s.onHub fun r h => gridPhaseMeasure r e h

/-- REALIGN (R182). A write of GRID_CTRL.REALIGN starts grid alignment or is refused with ESTATE. -/
def execRealign (m : MasterIx) (v : Word) (s : State) : Host.Outcome State Fault Refusal :=
  s.onHub fun r h => h.write r m Addr.GRID_CTRL (putBit v 0 true)

/-- GRID_ALIGN_COMPLETE (R182). Grid alignment completes within 200 us and ALIGNED is set. -/
def execGridAlignComplete (s : State) : Host.Outcome State Fault Refusal :=
  s.onHub fun _ h => gridAlignComplete h

/-- SERVO_MEASUREMENT (R185). A valid time measurement updates RATE and the lock state, stepping once outside acquisition
modes. -/
def execServoMeasurement (s : State) : Host.Outcome State Fault Refusal :=
  s.onHub fun r h => servoMeasurement r h

/-- TIME_HOLDOVER_ENTER (R186). Three intervals without a valid measurement move LOCKED to HOLDOVER. -/
def execTimeHoldoverEnter (s : State) : Host.Outcome State Fault Refusal :=
  s.onHub fun r h => timeHoldoverEnter r h

/-- HOLDOVER_TIMEOUT (R186). The hold timer reaching HOLD_MAX moves HOLDOVER to FREE. -/
def execHoldoverTimeout (s : State) : Host.Outcome State Fault Refusal :=
  s.onHub fun r h => holdoverTimeout r h

/-- TIME_SOURCE (R184). TIME_SOURCE command, or a master write to TIME_SRC, selects the time source and loads its row
values. -/
def execTimeSource (q : TimeSource) (s : State) : Host.Outcome State Fault Refusal :=
  s.onHub fun r h => q.run r h

/-- ALARM_ARM (R191). A write of ALM_CTRL.ARM latches the alarm's registers and arms it, or is refused. -/
def execAlarmArm (m : MasterIx) (a : AlarmIx) (v : Word) (s : State) : Host.Outcome State Fault Refusal :=
  s.onHub fun r h => h.write r m (Addr.ALM_CTRL a) (putBit v 0 true)

/-- ALARM_DISARM (R191). A write of ALM_CTRL.DISARM disarms the alarm. -/
def execAlarmDisarm (m : MasterIx) (a : AlarmIx) (v : Word) (s : State) : Host.Outcome State Fault Refusal :=
  s.onHub fun r h => h.write r m (Addr.ALM_CTRL a) (putBit v 1 true)

/-- ALARM_FIRE (R192). An armed alarm fires at its target, issues its actions and rearms if periodic. -/
def execAlarmFire (a : AlarmIx) (s : State) : Host.Outcome State Fault Refusal :=
  s.onHub fun r h => alarmFire r a h

/-- PPS_OUT_PULSE (R198). At every whole second PPS_OUT rises for its width when the reported state permits. -/
def execPpsOutPulse (s : State) : Host.Outcome State Fault Refusal :=
  s.onHub fun r h => ppsOutPulse r h

/-- PPS_OUT_PULSE_END (R198). PPS_OUT_CFG.WIDTH us after each whole second, PPS_OUT falls. -/
def execPpsOutPulseEnd (s : State) : Host.Outcome State Fault Refusal :=
  s.onHub fun r h => ppsOutPulseEnd r h

/-- TRIG_OUT_PULSE_END (R197). WIDTH ns after the active edge, the TRIG_OUT pin returns to its inactive level. -/
def execTrigOutPulseEnd (p : TrigOutIx) (s : State) : Host.Outcome State Fault Refusal :=
  s.onHub fun r h => trigOutPulseEnd r p h

end Sys2Proof.Machine
end

