-- ==== Sys2Proof/Machine/ExecWide.lean ====
section
/-!
DEFINITION. The meanings of the commands of the Amixel wide, compare and branch instructions, one per row.
-/

namespace Sys2Proof.Machine

/-- WACC (R234). WACC instruction: accumulate a g operand into a wide register. -/
def execAmixelWacc (c : CtxIx) (s : State) : Host.Outcome State Fault Refusal :=
  s.onHub fun r h => match h.fetched c with
    | some (.wacc d a f) => wacc r c d a f h
    | _ => h

/-- WSQ (R234). WSQ instruction: accumulate the square of a g operand into a wide register. -/
def execAmixelWsq (c : CtxIx) (s : State) : Host.Outcome State Fault Refusal :=
  s.onHub fun r h => match h.fetched c with
    | some (.wsq d a f) => wsq r c d a f h
    | _ => h

/-- WSUB (R234). WSUB instruction: wide subtraction. -/
def execAmixelWsub (c : CtxIx) (s : State) : Host.Outcome State Fault Refusal :=
  s.onHub fun r h => match h.fetched c with
    | some (.wsub d a b) => wsub r c d a b h
    | _ => h

/-- WSHR (R234). WSHR instruction: wide arithmetic shift right. -/
def execAmixelWshr (c : CtxIx) (s : State) : Host.Outcome State Fault Refusal :=
  s.onHub fun r h => match h.fetched c with
    | some (.wshr d a s) => wshr r c d a s h
    | _ => h

/-- WRD (R234). WRD instruction: read a wide register by TRUNC, SAT, FLT or ISQRT into a g register. -/
def execAmixelWrd (c : CtxIx) (s : State) : Host.Outcome State Fault Refusal :=
  s.onHub fun r h => match h.fetched c with
    | some (.wrd d a mode k) => wrd r c d a mode k h
    | _ => h

/-- WCLR (R234). WCLR instruction: clear a wide register. -/
def execAmixelWclr (c : CtxIx) (s : State) : Host.Outcome State Fault Refusal :=
  s.onHub fun r h => match h.fetched c with
    | some (.wclr d) => wclr r c d h
    | _ => h

/-- CMP (R235). CMP instruction: compute a relation and combine it into a predicate. -/
def execAmixelCmp (c : CtxIx) (s : State) : Host.Outcome State Fault Refusal :=
  s.onHub fun r h => match h.fetched c with
    | some (.cmp q comb rel a o) => cmp r c q comb rel a o h
    | _ => h

/-- BR (R236). BR instruction: relative branch. -/
def execAmixelBr (c : CtxIx) (s : State) : Host.Outcome State Fault Refusal :=
  s.onHub fun r h => match h.fetched c with
    | some (.br off) => br r c off h
    | _ => h

/-- BRQ (R236). BRQ instruction: branch on a predicate and optionally clear it. -/
def execAmixelBrq (c : CtxIx) (s : State) : Host.Outcome State Fault Refusal :=
  s.onHub fun r h => match h.fetched c with
    | some (.brq q sense clr off) => brq r c q sense clr off h
    | _ => h

/-- CALL (R236). CALL instruction: write the link register and branch. -/
def execAmixelCall (c : CtxIx) (s : State) : Host.Outcome State Fault Refusal :=
  s.onHub fun r h => match h.fetched c with
    | some (.call l off) => call r c l off h
    | _ => h

/-- RET (R236). RET instruction: jump to the address in a register. -/
def execAmixelRet (c : CtxIx) (s : State) : Host.Outcome State Fault Refusal :=
  s.onHub fun r h => match h.fetched c with
    | some (.ret l) => ret r c l h
    | _ => h

/-- LOOP (R236). LOOP instruction: decrement a counter and branch while non-zero. -/
def execAmixelLoop (c : CtxIx) (s : State) : Host.Outcome State Fault Refusal :=
  s.onHub fun r h => match h.fetched c with
    | some (.loop l off) => loop r c l off h
    | _ => h

end Sys2Proof.Machine
end

