-- ==== Sys2Proof/Machine/Dispatch.lean ====
section
/-!
DEFINITION. Each command's meaning, one arm per row of the table.
-/

namespace Sys2Proof.Machine

def exec (i : Instr) (s : State) : Host.Outcome State Fault Refusal :=
  match i with
  | .registerWrite m a size v => Sys2Proof.Machine.execRegisterWrite m a size v s
  | .rcFieldRead m a size => Sys2Proof.Machine.execRcFieldRead m a size s
  | .crossingStuck k => Sys2Proof.Machine.execCrossingStuck k s
  | .bridgeTimeout m a => Sys2Proof.Machine.execBridgeTimeout m a s
  | .abandonedReadComplete => Sys2Proof.Machine.execAbandonedReadComplete s
  | .toggleAckComplete c => Sys2Proof.Machine.execToggleAckComplete c s
  | .domeRegionSizeWrite m k v => Sys2Proof.Machine.execDomeRegionSizeWrite m k v s
  | .feCfgWrite m n c aux v => Sys2Proof.Machine.execFeCfgWrite m n c aux v s
  | .feCfgTakeEffect n c => Sys2Proof.Machine.execFeCfgTakeEffect n c s
  | .commonModeTrip n c p q => Sys2Proof.Machine.execCommonModeTrip n c p q s
  | .rtdComplianceExceeded n c exceeds => Sys2Proof.Machine.execRtdComplianceExceeded n c exceeds s
  | .chargeRailReached n c l => Sys2Proof.Machine.execChargeRailReached n c l s
  | .clampConduct n c p q => Sys2Proof.Machine.execClampConduct n c p q s
  | .clampSuspectEnd n c => Sys2Proof.Machine.execClampSuspectEnd n c s
  | .feChgResetWrite m n v => Sys2Proof.Machine.execFeChgResetWrite m n v s
  | .chargeResetAuto n c code => Sys2Proof.Machine.execChargeResetAuto n c code s
  | .chargeResetPeriodic n c => Sys2Proof.Machine.execChargeResetPeriodic n c s
  | .chargeResetStart n c => Sys2Proof.Machine.execChargeResetStart n c s
  | .chargeResetSwitchOpen n c => Sys2Proof.Machine.execChargeResetSwitchOpen n c s
  | .chargeResetSettled n c => Sys2Proof.Machine.execChargeResetSettled n c s
  | .chargeTestDue n c => Sys2Proof.Machine.execChargeTestDue n c s
  | .chargeTestComplete n c => Sys2Proof.Machine.execChargeTestComplete n c s
  | .excEnable m n v => Sys2Proof.Machine.execExcEnable m n v s
  | .inrushExcEnable n => Sys2Proof.Machine.execInrushExcEnable n s
  | .excDisable m n v => Sys2Proof.Machine.execExcDisable m n v s
  | .excLimitEnter n uA => Sys2Proof.Machine.execExcLimitEnter n uA s
  | .excLimitExit n uA => Sys2Proof.Machine.execExcLimitExit n uA s
  | .excTrip n => Sys2Proof.Machine.execExcTrip n s
  | .excTripRestart m n v => Sys2Proof.Machine.execExcTripRestart m n v s
  | .reverseNow m n v => Sys2Proof.Machine.execReverseNow m n v s
  | .excReversal n => Sys2Proof.Machine.execExcReversal n s
  | .excSenseBreak n => Sys2Proof.Machine.execExcSenseBreak n s
  | .probeBallRead n c pBall => Sys2Proof.Machine.execProbeBallRead n c pBall s
  | .breakClear n c m => Sys2Proof.Machine.execBreakClear n c m s
  | .userCurveWrite m n k w v => Sys2Proof.Machine.execUserCurveWrite m n k w v s
  | .schedCommit m n v => Sys2Proof.Machine.execSchedCommit m n v s
  | .schedCommitApply n => Sys2Proof.Machine.execSchedCommitApply n s
  | .rawCodeConvert n slot f code pair => Sys2Proof.Machine.execRawCodeConvert n slot f code pair s
  | .refCheckAverage n => Sys2Proof.Machine.execRefCheckAverage n s
  | .injReq m n v => Sys2Proof.Machine.execInjReq m n v s
  | .internalInjRequest n who node => Sys2Proof.Machine.execInternalInjRequest n who node s
  | .injComplete n => Sys2Proof.Machine.execInjComplete n s
  | .spareCalStart n => Sys2Proof.Machine.execSpareCalStart n s
  | .sliceCalComplete n ofs gain inl coef => Sys2Proof.Machine.execSliceCalComplete n ofs gain inl coef s
  | .rotEnable m n v => Sys2Proof.Machine.execRotEnable m n v s
  | .swapCompareDone n => Sys2Proof.Machine.execSwapCompareDone n s
  | .swapVerdict n => Sys2Proof.Machine.execSwapVerdict n s
  | .drainQueueClose n => Sys2Proof.Machine.execDrainQueueClose n s
  | .drainForced n => Sys2Proof.Machine.execDrainForced n s
  | .sliceSwap n => Sys2Proof.Machine.execSliceSwap n s
  | .filterOutput n c => Sys2Proof.Machine.execFilterOutput n c s
  | .filterCommit m n v => Sys2Proof.Machine.execFilterCommit m n v s
  | .filterCommitApply n => Sys2Proof.Machine.execFilterCommitApply n s
  | .sentryHitStart n c => Sys2Proof.Machine.execSentryHitStart n c s
  | .hitLostLog n => Sys2Proof.Machine.execHitLostLog n s
  | .sentryHitEnd n c => Sys2Proof.Machine.execSentryHitEnd n c s
  | .sentryHitLong n c => Sys2Proof.Machine.execSentryHitLong n c s
  | .sentryLockoutEnd n c => Sys2Proof.Machine.execSentryLockoutEnd n c s
  | .tempUpdate n => Sys2Proof.Machine.execTempUpdate n s
  | .dieTempRead v => Sys2Proof.Machine.execDieTempRead v s
  | .trimEvaluation => Sys2Proof.Machine.execTrimEvaluation s
  | .trimHoldMaxReached n => Sys2Proof.Machine.execTrimHoldMaxReached n s
  | .trimStart n => Sys2Proof.Machine.execTrimStart n s
  | .trimEnd n v => Sys2Proof.Machine.execTrimEnd n v s
  | .bootCalComplete b => Sys2Proof.Machine.execBootCalComplete b s
  | .calSave ch => Sys2Proof.Machine.execCalSave ch s
  | .calSaveSnapshot => Sys2Proof.Machine.execCalSaveSnapshot s
  | .calRestore ch => Sys2Proof.Machine.execCalRestore ch s
  | .calRestoreApply => Sys2Proof.Machine.execCalRestoreApply s
  | .pllLock => Sys2Proof.Machine.execPllLock s
  | .refclkLoss => Sys2Proof.Machine.execRefclkLoss s
  | .refclkReturn => Sys2Proof.Machine.execRefclkReturn s
  | .servoCommitRate m v => Sys2Proof.Machine.execServoCommitRate m v s
  | .servoCommitStep m v => Sys2Proof.Machine.execServoCommitStep m v s
  | .servoCommitSet m v => Sys2Proof.Machine.execServoCommitSet m v s
  | .servoCommitApply => Sys2Proof.Machine.execServoCommitApply s
  | .timeNowRead m => Sys2Proof.Machine.execTimeNowRead m s
  | .trigInEdge k rise => Sys2Proof.Machine.execTrigInEdge k rise s
  | .trigInPop m k => Sys2Proof.Machine.execTrigInPop m k s
  | .gridPhaseMeasure e => Sys2Proof.Machine.execGridPhaseMeasure e s
  | .realign m v => Sys2Proof.Machine.execRealign m v s
  | .gridAlignComplete => Sys2Proof.Machine.execGridAlignComplete s
  | .servoMeasurement => Sys2Proof.Machine.execServoMeasurement s
  | .timeHoldoverEnter => Sys2Proof.Machine.execTimeHoldoverEnter s
  | .holdoverTimeout => Sys2Proof.Machine.execHoldoverTimeout s
  | .timeSource q => Sys2Proof.Machine.execTimeSource q s
  | .alarmArm m a v => Sys2Proof.Machine.execAlarmArm m a v s
  | .alarmDisarm m a v => Sys2Proof.Machine.execAlarmDisarm m a v s
  | .alarmFire a => Sys2Proof.Machine.execAlarmFire a s
  | .ppsOutPulse => Sys2Proof.Machine.execPpsOutPulse s
  | .loadPlan ch => Sys2Proof.Machine.execLoadPlan ch s
  | .stageElementArrive => Sys2Proof.Machine.execStageElementArrive s
  | .activationPacingRelease c => Sys2Proof.Machine.execActivationPacingRelease c s
  | .ctxCtrlHalt m c v => Sys2Proof.Machine.execCtxCtrlHalt m c v s
  | .ctxCtrlRestart m c v => Sys2Proof.Machine.execCtxCtrlRestart m c v s
  | .turretReset ch => Sys2Proof.Machine.execTurretReset ch s
  | .turretUngate t => Sys2Proof.Machine.execTurretUngate t s
  | .amixelAdd c => Sys2Proof.Machine.execAmixelAdd c s
  | .amixelSub c => Sys2Proof.Machine.execAmixelSub c s
  | .amixelMul c => Sys2Proof.Machine.execAmixelMul c s
  | .amixelMulh c => Sys2Proof.Machine.execAmixelMulh c s
  | .amixelAnd c => Sys2Proof.Machine.execAmixelAnd c s
  | .amixelOr c => Sys2Proof.Machine.execAmixelOr c s
  | .amixelXor c => Sys2Proof.Machine.execAmixelXor c s
  | .amixelShl c => Sys2Proof.Machine.execAmixelShl c s
  | .amixelShr c => Sys2Proof.Machine.execAmixelShr c s
  | .amixelSar c => Sys2Proof.Machine.execAmixelSar c s
  | .amixelMin c => Sys2Proof.Machine.execAmixelMin c s
  | .amixelMax c => Sys2Proof.Machine.execAmixelMax c s
  | .amixelAbs c => Sys2Proof.Machine.execAmixelAbs c s
  | .amixelClz c => Sys2Proof.Machine.execAmixelClz c s
  | .amixelAddi c => Sys2Proof.Machine.execAmixelAddi c s
  | .amixelLui c => Sys2Proof.Machine.execAmixelLui c s
  | .amixelAndi c => Sys2Proof.Machine.execAmixelAndi c s
  | .amixelOri c => Sys2Proof.Machine.execAmixelOri c s
  | .amixelWacc c => Sys2Proof.Machine.execAmixelWacc c s
  | .amixelWsq c => Sys2Proof.Machine.execAmixelWsq c s
  | .amixelWsub c => Sys2Proof.Machine.execAmixelWsub c s
  | .amixelWshr c => Sys2Proof.Machine.execAmixelWshr c s
  | .amixelWrd c => Sys2Proof.Machine.execAmixelWrd c s
  | .amixelWclr c => Sys2Proof.Machine.execAmixelWclr c s
  | .amixelCmp c => Sys2Proof.Machine.execAmixelCmp c s
  | .amixelBr c => Sys2Proof.Machine.execAmixelBr c s
  | .amixelBrq c => Sys2Proof.Machine.execAmixelBrq c s
  | .amixelCall c => Sys2Proof.Machine.execAmixelCall c s
  | .amixelRet c => Sys2Proof.Machine.execAmixelRet c s
  | .amixelLoop c => Sys2Proof.Machine.execAmixelLoop c s
  | .amixelLd c => Sys2Proof.Machine.execAmixelLd c s
  | .amixelSt c => Sys2Proof.Machine.execAmixelSt c s
  | .amixelLdw c => Sys2Proof.Machine.execAmixelLdw c s
  | .amixelStw c => Sys2Proof.Machine.execAmixelStw c s
  | .loadComplete c k => Sys2Proof.Machine.execLoadComplete c k s
  | .amixelTake c => Sys2Proof.Machine.execAmixelTake c s
  | .amixelPeek c => Sys2Proof.Machine.execAmixelPeek c s
  | .amixelEmit c => Sys2Proof.Machine.execAmixelEmit c s
  | .amixelSeal c => Sys2Proof.Machine.execAmixelSeal c s
  | .amixelCurve c => Sys2Proof.Machine.execAmixelCurve c s
  | .amixelXing c => Sys2Proof.Machine.execAmixelXing c s
  | .amixelPeakt c => Sys2Proof.Machine.execAmixelPeakt c s
  | .amixelRflow c => Sys2Proof.Machine.execAmixelRflow c s
  | .measurementComplete c k => Sys2Proof.Machine.execMeasurementComplete c k s
  | .amixelTime c => Sys2Proof.Machine.execAmixelTime c s
  | .timeReply c => Sys2Proof.Machine.execTimeReply c s
  | .amixelWaitt c => Sys2Proof.Machine.execAmixelWaitt c s
  | .waittResume c => Sys2Proof.Machine.execWaittResume c s
  | .amixelAlarm c => Sys2Proof.Machine.execAmixelAlarm c s
  | .amixelArmUnit c => Sys2Proof.Machine.execAmixelArmUnit c s
  | .amixelDisarmUnit c => Sys2Proof.Machine.execAmixelDisarmUnit c s
  | .amixelFireUnit c => Sys2Proof.Machine.execAmixelFireUnit c s
  | .amixelMirror c => Sys2Proof.Machine.execAmixelMirror c s
  | .amixelPost c => Sys2Proof.Machine.execAmixelPost c s
  | .amixelTakemb c => Sys2Proof.Machine.execAmixelTakemb c s
  | .amixelLocka c => Sys2Proof.Machine.execAmixelLocka c s
  | .amixelLockr c => Sys2Proof.Machine.execAmixelLockr c s
  | .amixelYield c => Sys2Proof.Machine.execAmixelYield c s
  | .amixelHalt c => Sys2Proof.Machine.execAmixelHalt c s
  | .amixelNop c => Sys2Proof.Machine.execAmixelNop c s
  | .undefinedWordIssue c => Sys2Proof.Machine.execUndefinedWordIssue c s
  | .capCtrlArm m u v => Sys2Proof.Machine.execCapCtrlArm m u v s
  | .capCtrlDisarm m u v => Sys2Proof.Machine.execCapCtrlDisarm m u v s
  | .capCtrlFire m u v => Sys2Proof.Machine.execCapCtrlFire m u v s
  | .capCtrlRelease m u v => Sys2Proof.Machine.execCapCtrlRelease m u v s
  | .captureSetStored u => Sys2Proof.Machine.execCaptureSetStored u s
  | .captureTrigger u => Sys2Proof.Machine.execCaptureTrigger u s
  | .captureRearm u => Sys2Proof.Machine.execCaptureRearm u s
  | .recordMeasured => Sys2Proof.Machine.execRecordMeasured s
  | .recordDeliver u => Sys2Proof.Machine.execRecordDeliver u s
  | .ledgerElementArrive => Sys2Proof.Machine.execLedgerElementArrive s
  | .packetSealTimeout q => Sys2Proof.Machine.execPacketSealTimeout q s
  | .packetSend => Sys2Proof.Machine.execPacketSend s
  | .descPeriodic => Sys2Proof.Machine.execDescPeriodic s
  | .ack m => Sys2Proof.Machine.execAck m s
  | .nack m => Sys2Proof.Machine.execNack m s
  | .ackTimeout q => Sys2Proof.Machine.execAckTimeout q s
  | .ledgerCommit m v => Sys2Proof.Machine.execLedgerCommit m v s
  | .laneCfgWrite m l v => Sys2Proof.Machine.execLaneCfgWrite m l v s
  | .laneDetectDone l => Sys2Proof.Machine.execLaneDetectDone l s
  | .laneTrainDone l => Sys2Proof.Machine.execLaneTrainDone l s
  | .laneTrainTimeout l => Sys2Proof.Machine.execLaneTrainTimeout l s
  | .laneLockDone l => Sys2Proof.Machine.execLaneLockDone l s
  | .laneLockTimeout l => Sys2Proof.Machine.execLaneLockTimeout l s
  | .txDisableHoldEnd l => Sys2Proof.Machine.execTxDisableHoldEnd l s
  | .capSend l => Sys2Proof.Machine.execCapSend l s
  | .cap l x => Sys2Proof.Machine.execCap l x s
  | .laneLoss l line => Sys2Proof.Machine.execLaneLoss l line s
  | .moduleRemoval l => Sys2Proof.Machine.execModuleRemoval l s
  | .los l high => Sys2Proof.Machine.execLos l high s
  | .retrain m l v => Sys2Proof.Machine.execRetrain m l v s
  | .linkRetrain ch => Sys2Proof.Machine.execLinkRetrain ch s
  | .segmentUpReport l => Sys2Proof.Machine.execSegmentUpReport l s
  | .ringRepeat => Sys2Proof.Machine.execRingRepeat s
  | .ring l x => Sys2Proof.Machine.execRing l x s
  | .linkSend l => Sys2Proof.Machine.execLinkSend l s
  | .link l x => Sys2Proof.Machine.execLink l x s
  | .frameTransmitStart l => Sys2Proof.Machine.execFrameTransmitStart l s
  | .syncSend l => Sys2Proof.Machine.execSyncSend l s
  | .sync l x => Sys2Proof.Machine.execSync l x s
  | .resp l x => Sys2Proof.Machine.execResp l x s
  | .spanTrig l x => Sys2Proof.Machine.execSpanTrig l x s
  | .ledger l x => Sys2Proof.Machine.execLedger l x s
  | .lack l x => Sys2Proof.Machine.execLack l x s
  | .pause l quanta => Sys2Proof.Machine.execPause l quanta s
  | .pauseEnd l => Sys2Proof.Machine.execPauseEnd l s
  | .ethLockTimeout l => Sys2Proof.Machine.execEthLockTimeout l s
  | .protoAutoTimeout l => Sys2Proof.Machine.execProtoAutoTimeout l s
  | .announce m d => Sys2Proof.Machine.execAnnounce m d s
  | .ptpSync m twoStep => Sys2Proof.Machine.execPtpSync m twoStep s
  | .followUp m origin => Sys2Proof.Machine.execFollowUp m origin s
  | .delayResp m port rx => Sys2Proof.Machine.execDelayResp m port rx s
  | .delayReqSend => Sys2Proof.Machine.execDelayReqSend s
  | .moduleInsert l internal => Sys2Proof.Machine.execModuleInsert l internal s
  | .ddmPoll l vals => Sys2Proof.Machine.execDdmPoll l vals s
  | .modAccGo m l v => Sys2Proof.Machine.execModAccGo m l v s
  | .modAccComplete l byte => Sys2Proof.Machine.execModAccComplete l byte s
  | .eyeStart m l v => Sys2Proof.Machine.execEyeStart m l v s
  | .eyeStop m l v => Sys2Proof.Machine.execEyeStop m l v s
  | .eyePointDone l count => Sys2Proof.Machine.execEyePointDone l count s
  | .eyeScan ch => Sys2Proof.Machine.execEyeScan ch s
  | .renewSend => Sys2Proof.Machine.execRenewSend s
  | .renew l x => Sys2Proof.Machine.execRenew l x s
  | .grant l x => Sys2Proof.Machine.execGrant l x s
  | .deny l x => Sys2Proof.Machine.execDeny l x s
  | .heartbeatSend => Sys2Proof.Machine.execHeartbeatSend s
  | .heartbeat l x => Sys2Proof.Machine.execHeartbeat l x s
  | .heartbeatMiss => Sys2Proof.Machine.execHeartbeatMiss s
  | .claimSend => Sys2Proof.Machine.execClaimSend s
  | .claim l x => Sys2Proof.Machine.execClaim l x s
  | .wardenLeaseExpiry => Sys2Proof.Machine.execWardenLeaseExpiry s
  | .wardenStartupHoldEnd => Sys2Proof.Machine.execWardenStartupHoldEnd s
  | .startupClaimEval => Sys2Proof.Machine.execStartupClaimEval s
  | .promotion peerAct => Sys2Proof.Machine.execPromotion peerAct s
  | .xswTimeEnd => Sys2Proof.Machine.execXswTimeEnd s
  | .leaseExpiry => Sys2Proof.Machine.execLeaseExpiry s
  | .selfFault => Sys2Proof.Machine.execSelfFault s
  | .fenceBoundary => Sys2Proof.Machine.execFenceBoundary s
  | .relinquish l x => Sys2Proof.Machine.execRelinquish l x s
  | .arbGrantFall => Sys2Proof.Machine.execArbGrantFall s
  | .arbGrantRise => Sys2Proof.Machine.execArbGrantRise s
  | .ledgerMSend => Sys2Proof.Machine.execLedgerMSend s
  | .ledgerM l x => Sys2Proof.Machine.execLedgerM l x s
  | .context l x => Sys2Proof.Machine.execContext l x s
  | .histogramSend => Sys2Proof.Machine.execHistogramSend s
  | .histogram l x => Sys2Proof.Machine.execHistogram l x s
  | .thresholdsSend => Sys2Proof.Machine.execThresholdsSend s
  | .thresholds l x => Sys2Proof.Machine.execThresholds l x s
  | .captureMirror l x => Sys2Proof.Machine.execCaptureMirror l x s
  | .mirrorPathReturn => Sys2Proof.Machine.execMirrorPathReturn s
  | .revertHoldElapsed => Sys2Proof.Machine.execRevertHoldElapsed s
  | .handoverPropose l x => Sys2Proof.Machine.execHandoverPropose l x s
  | .handoverAccept l x => Sys2Proof.Machine.execHandoverAccept l x s
  | .handoverConfirm l x => Sys2Proof.Machine.execHandoverConfirm l x s
  | .handoverCancel l x => Sys2Proof.Machine.execHandoverCancel l x s
  | .handoverConfirmTimeout => Sys2Proof.Machine.execHandoverConfirmTimeout s
  | .handoverRetry => Sys2Proof.Machine.execHandoverRetry s
  | .handoverSendStop => Sys2Proof.Machine.execHandoverSendStop s
  | .handoverFrame => Sys2Proof.Machine.execHandoverFrame s
  | .lockstepMismatch pc => Sys2Proof.Machine.execLockstepMismatch pc s
  | .watchdogExpiry => Sys2Proof.Machine.execWatchdogExpiry s
  | .belfryRestart => Sys2Proof.Machine.execBelfryRestart s
  | .bootRomStart sel => Sys2Proof.Machine.execBootRomStart sel s
  | .firmwareLoaded img cfg => Sys2Proof.Machine.execFirmwareLoaded img cfg s
  | .bootCtrlWrite m v cfg => Sys2Proof.Machine.execBootCtrlWrite m v cfg s
  | .mailboxPost m ch v => Sys2Proof.Machine.execMailboxPost m ch v s
  | .mailboxTake m ch => Sys2Proof.Machine.execMailboxTake m ch s
  | .bindWrite m ch v => Sys2Proof.Machine.execBindWrite m ch v s
  | .bindLock m v => Sys2Proof.Machine.execBindLock m v s
  | .masterReset m => Sys2Proof.Machine.execMasterReset m s
  | .responsePost ch => Sys2Proof.Machine.execResponsePost ch s
  | .lockAcquire m l => Sys2Proof.Machine.execLockAcquire m l s
  | .lockRelease m l => Sys2Proof.Machine.execLockRelease m l s
  | .lockForce m v => Sys2Proof.Machine.execLockForce m v s
  | .elogQueueWrite => Sys2Proof.Machine.execElogQueueWrite s
  | .elogFree m v => Sys2Proof.Machine.execElogFree m v s
  | .errlogDrain ch => Sys2Proof.Machine.execErrlogDrain ch s
  | .spiWrite w v => Sys2Proof.Machine.execSpiWrite w v s
  | .spiRead w => Sys2Proof.Machine.execSpiRead w s
  | .spiNop => Sys2Proof.Machine.execSpiNop s
  | .spiBadFrame => Sys2Proof.Machine.execSpiBadFrame s
  | .spiReadComplete => Sys2Proof.Machine.execSpiReadComplete s
  | .mgmtRead l x bulk held => Sys2Proof.Machine.execMgmtRead l x bulk held s
  | .mgmtWrite l x bulk => Sys2Proof.Machine.execMgmtWrite l x bulk s
  | .mgmtUnexpected l x bulk op => Sys2Proof.Machine.execMgmtUnexpected l x bulk op s
  | .doorbellFrameSend => Sys2Proof.Machine.execDoorbellFrameSend s
  | .otpProgramHash m => Sys2Proof.Machine.execOtpProgramHash m s
  | .otpBlowDebugLock m => Sys2Proof.Machine.execOtpBlowDebugLock m s
  | .otpSequenceTimeout => Sys2Proof.Machine.execOtpSequenceTimeout s
  | .otpProgramComplete => Sys2Proof.Machine.execOtpProgramComplete s
  | .ping ch => Sys2Proof.Machine.execPing ch s
  | .status ch => Sys2Proof.Machine.execStatus ch s
  | .nopCommand ch => Sys2Proof.Machine.execNopCommand ch s
  | .arm ch => Sys2Proof.Machine.execArm ch s
  | .start ch => Sys2Proof.Machine.execStart ch s
  | .stop ch => Sys2Proof.Machine.execStop ch s
  | .abort ch => Sys2Proof.Machine.execAbort ch s
  | .stopFrame => Sys2Proof.Machine.execStopFrame s
  | .trimNow ch => Sys2Proof.Machine.execTrimNow ch s
  | .trimHold ch => Sys2Proof.Machine.execTrimHold ch s
  | .trimRelease ch => Sys2Proof.Machine.execTrimRelease ch s
  | .promote ch => Sys2Proof.Machine.execPromote ch s
  | .demote ch => Sys2Proof.Machine.execDemote ch s
  | .setPreferred ch => Sys2Proof.Machine.execSetPreferred ch s
  | .serviceEnter ch => Sys2Proof.Machine.execServiceEnter ch s
  | .serviceExit ch => Sys2Proof.Machine.execServiceExit ch s
  | .hubReset ch => Sys2Proof.Machine.execHubReset ch s
  | .resetDelayExpiry => Sys2Proof.Machine.execResetDelayExpiry s
  | .powerOnRelease => Sys2Proof.Machine.execPowerOnRelease s
  | .resetNAssert => Sys2Proof.Machine.execResetNAssert s
  | .brownout => Sys2Proof.Machine.execBrownout s
  | .spireResetEnd n => Sys2Proof.Machine.execSpireResetEnd n s
  | .laneResetEnd l => Sys2Proof.Machine.execLaneResetEnd l s
  | .sagTrip k => Sys2Proof.Machine.execSagTrip k s
  | .sagLevelLeave k => Sys2Proof.Machine.execSagLevelLeave k s
  | .tpArm m v => Sys2Proof.Machine.execTpArm m v s
  | .tpXdelay m v => Sys2Proof.Machine.execTpXdelay m v s
  | .tpStarve m v => Sys2Proof.Machine.execTpStarve m v s
  | .starveEnd => Sys2Proof.Machine.execStarveEnd s
  | .tpAckhold m v => Sys2Proof.Machine.execTpAckhold m v s
  | .ackholdRelease => Sys2Proof.Machine.execAckholdRelease s
  | .tpDrop m v => Sys2Proof.Machine.execTpDrop m v s
  | .inject m v => Sys2Proof.Machine.execInject m v s
  | .tpTjit m v => Sys2Proof.Machine.execTpTjit m v s
  | .tpSag m v => Sys2Proof.Machine.execTpSag m v s
  | .tpSkew m v => Sys2Proof.Machine.execTpSkew m v s
  | .tpSwapfail m v => Sys2Proof.Machine.execTpSwapfail m v s
  | .turretResetEnd t => Sys2Proof.Machine.execTurretResetEnd t s
  | .trstNLow => Sys2Proof.Machine.execTrstNLow s
  | .storeAccepted c k => Sys2Proof.Machine.execStoreAccepted c k s
  | .powerLoss => Sys2Proof.Machine.execPowerLoss s
  | .ethLinkUp l => Sys2Proof.Machine.execEthLinkUp l s
  | .ethLinkLoss l => Sys2Proof.Machine.execEthLinkLoss l s
  | .announceTimeout => Sys2Proof.Machine.execAnnounceTimeout s
  | .trigOutPulseEnd p => Sys2Proof.Machine.execTrigOutPulseEnd p s
  | .ppsOutPulseEnd => Sys2Proof.Machine.execPpsOutPulseEnd s
  | .contextFallbackSlot c => Sys2Proof.Machine.execContextFallbackSlot c s

end Sys2Proof.Machine
end

