-- ==== Sys2Proof/Machine/Tick.lean ====
section
/-!
DEFINITION. What the clock does when no command waits.
-/

namespace Sys2Proof.Machine

/-- One nanosecond of RAW (R171). -/
def rawTick : BitVec 80 := 0x10000#80

/-- What the hub does as time passes to RAW `r` (log entry 2): the boot ROM ends a verification (R426); once the PLL has locked, a
waiting mode meets its frame boundary (R412), and the Turrets count their cycles without an instruction (R225). -/
def Hub.tickTo (h : Hub) (r : Nat) : Hub :=
  if !h.sys.powered then h
  else
    let h := h.verifyDone r
    if h.sys.pllLocked then (h.modeDue r).turretClock r else h

/-- An idle step: once the PLL has locked, RAW advances by 1 ns, one cycle of its clock (R170, R171; log entry 2). -/
def State.tick (s : State) : State :=
  let raw := if s.hub.sys.pllLocked then s.raw + rawTick else s.raw
  { s with raw := raw, hub := s.hub.tickTo raw.toNat }

end Sys2Proof.Machine
end

