-- ==== Sys2Proof/Safety.lean ====
section
/-!
DEFINITION. What counts as a safe run, and the frames the statements use: what a command leaves as it was.
-/

namespace Sys2Proof.Safety

open Sys2Proof.Machine

/-- An outcome that is a next state. -/
def answers (o : Host.Outcome State Fault Refusal) : Bool :=
  match o with
  | .next _ => true
  | .fault _ => false
  | .refused _ => false

/-- The first `n` steps from `s` all answer a next state. -/
def safeRun : Nat → State → Bool
  | 0, _ => true
  | n + 1, s => match step s with
    | .next t => safeRun n t
    | .fault _ => false
    | .refused _ => false

/-- The registers of the error log (R390 to R392, R403). -/
def inLog (a : Nat) : Bool := decide (0x40002000 ≤ a) && decide (a < 0x40003000)

/-- The registers of the Ledger (R313). -/
def inLedger (a : Nat) : Bool := decide (0x45000000 ≤ a) && decide (a < 0x46000000)

/-- Registers at addresses that `p` does not accept read as before, active copies too. -/
def regsKept (p : Nat → Bool) (s t : State) : Prop := ∀ a, p a = false → t.hub.rd a = s.hub.rd a

/-- `t` is `s` but for registers that `p` accepts. -/
def onlyRegs (p : Nat → Bool) (s t : State) : Prop :=
  t = { s with hub := { s.hub with regs := t.hub.regs } } ∧ regsKept p s t

/-- `t` is `s` but for registers that `p` accepts and the error log. -/
def onlyRegsLog (p : Nat → Bool) (s t : State) : Prop :=
  t = { s with hub := { s.hub with regs := t.hub.regs, ctl.elog := t.hub.ctl.elog } } ∧
    regsKept (fun a => p a || inLog a) s t

/-- One report of error class `k` was taken: the class is counted, modulo 2^32 (R391). -/
def logged (k : Nat) (s t : State) : Prop :=
  t.hub.rd (Addr.ELOG_CLASS_CNT k) = s.hub.rd (Addr.ELOG_CLASS_CNT k) + 1#32

/-- Registers that `p` accepts may differ, and so may the state of channel `g`; nothing else. -/
def onlyRegsChan (p : Nat → Bool) (g : Nat) (s t : State) : Prop :=
  t = { s with hub := { s.hub with regs := t.hub.regs, chans := t.hub.chans } } ∧ regsKept p s t ∧
    ∀ k, k ≠ g → t.hub.chan k = s.hub.chan k

/-- Registers that `p` accepts may differ, and so may the state of spire `n`; nothing else. -/
def onlyRegsSpire (p : Nat → Bool) (n : Nat) (s t : State) : Prop :=
  t = { s with hub := { s.hub with regs := t.hub.regs, spires := t.hub.spires } } ∧ regsKept p s t ∧
    ∀ k, k ≠ n → t.hub.spire k = s.hub.spire k

/-- A performed write of master `m`: registers that `p` accepts differ, and the note that the access was performed. -/
def onlyStore (m : Nat) (p : Nat → Bool) (s t : State) : Prop :=
  t = { s with hub := { s.hub with regs := t.hub.regs, ctl.readOk := SMap.put s.hub.ctl.readOk m true } } ∧ regsKept p s t

/-- A record of marks, latest instant first (log entry 53). -/
def ordered {α : Type} (l : List (Nat × α)) : Prop := l.Pairwise fun p q => q.1 ≤ p.1

/-- At instant `x`, not before `t`, the record of channel `c` of spire `n` is up to date: what holds then is what holds now. -/
def chanSettled (n c t x : Nat) (s : State) : Prop :=
  ordered (s.hub.chan (chNo n c)).marks ∧ t ≤ x ∧ s.hub.chanAt n c x = s.hub.chanMarks n c

/-- The same of the record of spire `n`. -/
def spireSettled (n t x : Nat) (s : State) : Prop :=
  ordered (s.hub.spire n).marks ∧ t ≤ x ∧ s.hub.spireAt n x = s.hub.spireMarks n

/-- A write that a register refuses: it is logged in class REFUSED_WRITE, no register outside the log changes, and nothing
else but the note that the access was performed. -/
def refusedStore (m : Nat) (s t : State) : Prop :=
  logged 1 s t ∧ regsKept inLog s t ∧
    t = { s with hub := { s.hub with regs := t.hub.regs, ctl.elog := t.hub.ctl.elog,
                                     ctl.readOk := SMap.put s.hub.ctl.readOk m true } }

/-- A plan-restricted register may be written: in BOOT or IDLE, no plan loaded (R413). -/
def planOpen (s : State) : Prop := (s.hub.mode = .boot ∨ s.hub.mode = .idle) ∧ s.hub.planLoaded = false

/-- A command word with opcode `op` and argument `arg` stands in channel `ch`, Belfry can take it (R385), its sender is
another master, and the channel for the response is bound and not FULL. -/
def commandWaits (ch op arg : Nat) (s : State) : Prop :=
  s.hub.sys.powered = true ∧ s.hub.commandReady ch = true ∧ s.hub.respOk ch = true ∧ s.hub.mbSender ch ≠ belfry ∧
    s.hub.mbFull (s.hub.mbResp ch) = false ∧ bitsOf (s.hub.rd (Addr.MB_PEEK ch)) 24 8 = op ∧
    bitsOf (s.hub.rd (Addr.MB_PEEK ch)) 0 16 = arg

/-- The command of channel `ch` was taken and answered (R384, R385): the channel is free, no command is in flight, and the
response word, with the command's tag, stands in the response channel. -/
def answered (ch status result : Nat) (s t : State) : Prop :=
  t.hub.mbFull ch = false ∧ t.hub.inflight ch = false ∧ t.hub.mbFull (s.hub.mbResp ch) = true ∧
    t.hub.rd (Addr.MB_PEEK (s.hub.mbResp ch)) = respWord status (bitsOf (s.hub.rd (Addr.MB_PEEK ch)) 16 8) result

/-- The command of channel `ch` was taken and is still to be answered. -/
def inFlight (ch : Nat) (t : State) : Prop := t.hub.mbFull ch = false ∧ t.hub.inflight ch = true

/-- Context `c` comes to instruction `i` and issues it: its Turret runs, it is READY, its PC names `i` below COUNT, the
budget has `k` more slots, nothing of `u` is pending or wanting (R211, R215, R219, R220), and TP_TJIT does not select its Turret
(R463). -/
def comesTo (c : Nat) (i : Amixel) (k : Nat) (u : Uses) (s : State) : Prop :=
  s.hub.sys.powered = true ∧ s.hub.fetched c = some i ∧ s.hub.canIssue c = true ∧
    (s.hub.ctx c).slots + k ≤ s.hub.fld (Addr.CTX_BUDGET (c / 64) (c % 64)) 0 24 ∧ s.hub.stalls c u = false ∧
    s.hub.jitters (c / 64) = false

/-- Registers the issue of an instruction of context `c` writes: its PC and the two counters of R225. -/
def issueReg (c a : Nat) : Bool :=
  a == Addr.CTX_PC (c / 64) (c % 64) || a == Addr.TUR_ISSUE_CNT (c / 64) || a == Addr.CTX_SLOTS_MAX (c / 64) (c % 64)

/-- The instruction was counted: one issued, `k` slots used, and the most slots of an activation kept (R215, R225). -/
def counted (c k : Nat) (s t : State) : Prop :=
  t.hub.rd (Addr.TUR_ISSUE_CNT (c / 64)) = s.hub.rd (Addr.TUR_ISSUE_CNT (c / 64)) + 1#32 ∧
    (t.hub.ctx c).slots = (s.hub.ctx c).slots + k ∧
    t.hub.fld (Addr.CTX_SLOTS_MAX (c / 64) (c % 64)) 0 24 =
      max (s.hub.fld (Addr.CTX_SLOTS_MAX (c / 64) (c % 64)) 0 24) ((s.hub.ctx c).slots + k)

/-- An instruction of `k` slots went through, the PC now at `pc`; registers beyond the issue's own that `p` accepts may
differ, of the context only its slots and its stall, and nothing else at all. -/
def issued (c k pc : Nat) (p : Nat → Bool) (s t : State) : Prop :=
  t.hub.pc c = pc % 2 ^ 14 ∧ counted c k s t ∧
    t = { s with hub := { s.hub with regs := t.hub.regs, ctxs := t.hub.ctxs } } ∧
    t.hub.ctx c = { s.hub.ctx c with slots := (s.hub.ctx c).slots + k, stalled := false } ∧
    (∀ x, x ≠ c → t.hub.ctx x = s.hub.ctx x) ∧ regsKept (fun a => issueReg c a || p a) s t

/-- An instruction of `k` slots wrote `v` to `gd`, and went on to the next word; nothing else differs. -/
def writesG (c k d : Nat) (v : Word) (s : State) (o : Host.Outcome State Fault Refusal) : Prop :=
  ∃ t, o = .next t ∧ t.hub.g c d = v ∧ issued c k (s.hub.pc c + 1) (fun a => a == Addr.CTX_G (c / 64) (c % 64) d) s t

/-- Registers that hold wide register `d` of context `c`. -/
def wideReg (c d a : Nat) : Bool :=
  a == Addr.CTX_W_LO (c / 64) (c % 64) d || a == Addr.CTX_W_MID (c / 64) (c % 64) d || a == Addr.CTX_W_HI (c / 64) (c % 64) d

/-- An instruction of `k` slots wrote `v` to `wd`, and went on to the next word; nothing else differs. -/
def writesW (c k d : Nat) (v : BitVec 80) (s : State) (o : Host.Outcome State Fault Refusal) : Prop :=
  ∃ t, o = .next t ∧ t.hub.w c d = v ∧ issued c k (s.hub.pc c + 1) (wideReg c d) s t

/-- Where the end of an activation leaves context `c` (R215, R418): in `st`, or in IDLE where a stop has met the activation. -/
def endsIn (c : Nat) (st : CtxState) (s t : State) : Prop :=
  (t.hub.ctx c).st = (if (s.hub.ctx c).stopAt.isSome then .idle else st)

/-- An instruction of `k` slots took a fault that follows the policy (R222): the code and the PC stand in CTX_FAULT, every
`g` and `w` register and the Dome are as before (but where the halt ends a stopped context, whose streams are sealed), and the
context is HALTED, or has q3 set and goes on at the next word. -/
def faulted (c k code : Nat) (s t : State) : Prop :=
  t.hub.rd (Addr.CTX_FAULT (c / 64) (c % 64)) = wd (code + 256 * s.hub.pc c) ∧ counted c k s t ∧
    (s.hub.bit (Addr.CTX_CFG (c / 64) (c % 64)) 0 = true → endsIn c .halted s t ∧ logged 20 s t) ∧
    (s.hub.bit (Addr.CTX_CFG (c / 64) (c % 64)) 0 = false → (t.hub.ctx c).st = .ready ∧ t.hub.q c 3 = true ∧
      t.hub.pc c = (s.hub.pc c + 1) % 2 ^ 14) ∧
    (∀ j : Fin 16, t.hub.g c j = s.hub.g c j) ∧ (∀ j : Fin 4, t.hub.w c j = s.hub.w c j) ∧
    (s.hub.bit (Addr.CTX_CFG (c / 64) (c % 64)) 0 = false ∨ (s.hub.ctx c).stopAt = none → t.hub.dome = s.hub.dome)

/-- The context halted whatever its policy, with the code and the PC in CTX_FAULT (R222). -/
def haltedBy (c code : Nat) (s t : State) : Prop :=
  endsIn c .halted s t ∧ t.hub.rd (Addr.CTX_FAULT (c / 64) (c % 64)) = wd (code + 256 * s.hub.pc c) ∧ logged 20 s t ∧
    (∀ j : Fin 16, t.hub.g c j = s.hub.g c j) ∧ (∀ j : Fin 4, t.hub.w c j = s.hub.w c j) ∧
    ((s.hub.ctx c).stopAt = none → t.hub.dome = s.hub.dome)

/-- A measurement instruction of context `c` is done as access `k`: its tag is free, `v` stands in `gd`, and only that register
and the predicates moved (R242). -/
def measured (c k d : Nat) (v : Word) (s t : State) : Prop :=
  t.hub.g c d = v ∧ (t.hub.ctx c).acc = (s.hub.ctx c).acc.eraseIdx k ∧
    regsKept (fun x => x == Addr.CTX_G (c / 64) (c % 64) d || x == Addr.CTX_STATUS (c / 64) (c % 64)) s t

/-- Turning point `i` of the RFLOW record at `a` (R246). -/
def turning (a i : Nat) (s : State) : Int := (s.hub.domeWord (a + 0x20 + 4 * i)).toInt

/-- DIR, HAVE, DEPTH and CAND of the RFLOW record at `a` (R246). -/
def flowState (a dir : Nat) (have_ : Bool) (depth : Nat) (cand : Int) (s : State) : Prop :=
  bitsOf (s.hub.domeWord (a + 12)) 0 2 = dir ∧ (s.hub.domeWord (a + 12)).getLsbD 2 = have_ ∧
    bitsOf (s.hub.domeWord (a + 12)) 3 7 = depth ∧ (s.hub.domeWord (a + 16)).toInt = cand

/-- count(u, v, n) of R247 on the record at `a`, and no other: its bin, limited, and its counters; no other bin moves. -/
def flowCounts (a : Nat) (u v : Int) (n : Nat) (s t : State) : Prop :=
  let sh := bitsOf (s.hub.domeWord (a + 4)) 0 5
  let r := (u - v).natAbs / 2 ^ sh
  let m : Int := (u + v - 2 * (s.hub.domeWord a).toInt) / ((2 ^ (sh + 1) : Nat) : Int)
  let b := a + 0x140 + 4 * (64 * min r 63 + (max 0 (min m 63)).toNat)
  (t.hub.domeWord b).toNat = min ((s.hub.domeWord b).toNat + n) 0xFFFFFFFF ∧
    t.hub.domeWord (a + 0x14) = s.hub.domeWord (a + 0x14) + wd n ∧
    t.hub.domeWord (a + 0x18) = s.hub.domeWord (a + 0x18) + (if 63 < r ∨ m < 0 ∨ 63 < m then 1#32 else 0#32) ∧
    ∀ x, a + 0x140 ≤ x → x < b ∨ b + 4 ≤ x → t.hub.domeByte x = s.hub.domeByte x

/-- No bin and no counter of the record at `a` moves, and nothing beyond it. -/
def flowStill (a : Nat) (s t : State) : Prop :=
  ∀ x, a + 0x14 ≤ x → x < a + 0x20 ∨ a + 0x120 ≤ x → t.hub.domeByte x = s.hub.domeByte x

/-- Registers that `p` accepts may differ, and so may the state of lane `l`; nothing else. -/
def onlyLane (p : Nat → Bool) (l : Nat) (s t : State) : Prop :=
  t = { s with hub := { s.hub with regs := t.hub.regs, lanes := t.hub.lanes } } ∧ regsKept p s t ∧
    ∀ k, k ≠ l → t.hub.lane k = s.hub.lane k

/-- The same, and free values drawn. -/
def onlyLaneDrawn (p : Nat → Bool) (l : Nat) (s t : State) : Prop :=
  t = { s with hub := { s.hub with regs := t.hub.regs, lanes := t.hub.lanes, free := t.hub.free } } ∧ regsKept p s t ∧
    ∀ k, k ≠ l → t.hub.lane k = s.hub.lane k

/-- Registers that show the stage of lane `l`: its status and its module's pins (R335). -/
def stageReg (l a : Nat) : Bool := a == Addr.LANE_STATUS l || a == Addr.MOD_STATUS l

/-- Lane `l` entered a stage now: of its own state only the entry's instant differs, and what an entry to TRAIN sets anew
(R316, R335). -/
def entered (l : Nat) (s t : State) : Prop :=
  t.hub.lane l = { s.hub.lane l with stageAt := s.raw.toNat, tx := (t.hub.lane l).tx, air := (t.hub.lane l).air,
                                     rx := (t.hub.lane l).rx }

/-- Lane `l` has entered TRAIN: the scrambler all ones, nothing under way on the line (R316). -/
def inTrain (l : Nat) (t : State) : Prop :=
  t.hub.stageOf l = sTRAIN ∧ (t.hub.lane l).tx.reg = 2 ^ 31 - 1 ∧ (t.hub.lane l).air = none ∧
    (t.hub.lane l).rx.outer = none ∧ (t.hub.lane l).rx.inner = none

/-- Frame `f` starts on lane `l` and is counted: its content is on the line from now on, to be closed by EOF, or an Ethernet
frame with its bytes is with the MAC (R320, R324, R340). -/
def startedOn (l : Nat) (f : Frame) (s t : State) : Prop :=
  (t.hub.lane l).sent = some f ∧ t.hub.fld (Addr.FRAMES_TX l) 0 32 = (s.hub.fld (Addr.FRAMES_TX l) 0 32 + 1) % 2 ^ 32 ∧
    (s.hub.isEth l = false → ∃ a, (t.hub.lane l).air = some a ∧ a.start = s.raw.toNat ∧ a.content = f.content ∧
      a.cuts = [] ∧ a.abort = false) ∧
    (s.hub.isEth l = true → ∃ e, s.raw.toNat < e ∧ (t.hub.lane l).mac = some (e, macFrame (s.hub.ethDst l) (s.hub.ethSrc l)
      (s.hub.ethTag l) (s.hub.fld (Addr.ETH_CFG l) 0 16) f.bytes))

/-- Frame `f` heard on lane `l` goes on to lane `j`: it waits there behind the others, or it has cut through (R330). -/
def passedOn (l j : Nat) (f : Frame) (s t : State) : Prop :=
  (∃ y : TxFrame, (t.hub.lane j).txq = (s.hub.lane j).txq ++ [y] ∧ y.frame = f ∧ y.fromLane = some l) ∨
    ((t.hub.lane j).sent = some f ∧ t.hub.fld (Addr.FRAMES_TX j) 0 32 = (s.hub.fld (Addr.FRAMES_TX j) 0 32 + 1) % 2 ^ 32 ∧
      ∃ a, (t.hub.lane j).air = some a ∧ a.content = f.content ∧ a.abort = false)

/-- The partner's CAP words `p` are judged (R335, R337, R3): a compatible lane becomes ACTIVE with the smaller version, the
features common to both and the partner's credits; an incompatible one shows its reason, and is logged on leaving EXCHANGE. -/
def judged (l : Nat) (p : List Word) (s t : State) : Prop :=
  (s.hub.capReason l p = 0 → t.hub.stageOf l = sACTIVE ∧ (t.hub.lane l).creds = credsOf (p.getD 5 0#32) ∧
    (t.hub.lane l).fails = 0 ∧ (t.hub.lane l).activeAt = s.raw.toNat ∧
    (t.hub.lane l).upPending = (s.hub.lane l).wasActive ∧
    t.hub.bit (Addr.MOD_STATUS l) 2 = (s.hub.lane l).holdTx.isSome ∧ t.hub.fld (Addr.LANE_STATUS l) 10 4 = 0 ∧
    t.hub.fld (Addr.LANE_STATUS l) 5 2 = min (if s.hub.bit (Addr.LANE_CFG l) 6 then 1 else 2) (bitsOf (p.getD 0 0#32) 0 8) ∧
    t.hub.bit (Addr.LANE_FEAT l) 1 = (p.getD 4 0#32).getLsbD 1 ∧
    t.hub.bit (Addr.LANE_FEAT l) 0 = ((p.getD 4 0#32).getLsbD 0 && t.hub.fld (Addr.LANE_STATUS l) 5 2 != 1)) ∧
  (s.hub.capReason l p ≠ 0 → t.hub.stageOf l = sINCOMPAT ∧ t.hub.fld (Addr.LANE_STATUS l) 10 4 = s.hub.capReason l p ∧
    (s.hub.stageOf l = sEXCHANGE → logged 17 s t))

/-- Registers a segment report moves: the segments down, the ring's health and the discards (R330, R331). -/
def ringReg (a : Nat) : Bool :=
  a == Addr.SEG_DOWN_LO || a == Addr.SEG_DOWN_HI || a == Addr.GH_STATUS || a == Addr.CNT_HEAL ||
    (List.range 4).any fun k => a == Addr.CNT_DISCARD k

/-- The report of a segment's end, key `k`, waits for every ACTIVE span lane, as a RING frame with the hops of that way
(R329, R331). -/
def ringOut (k seq : Nat) (up : Bool) (s t : State) : Prop :=
  ∀ (east : Bool) (j : Nat), t.hub.activeLane (wayRole east) = some j →
    ∃ y ∈ (t.hub.lane j).txq, y.frame.type = tRING ∧ y.frame.addr = aBCAST ∧ y.frame.ttl = t.hub.castTtl east ∧
      y.frame.payload = (s.hub.ringFrame k seq up).payload

/-- What reaches lane `l`, `x`, closes the frame `y`: nothing fails on the line or in the MAC, no code violation is counted,
`y` passes the checks of R323, and the test block drops no frame. -/
def catches (l : Nat) (y : Frame) (x : RxFrame) (s : State) : Prop :=
  s.hub.sys.powered = true ∧ s.hub.bit Addr.TP_DROP 24 = false ∧ (s.hub.listen l x).2.regs = s.hub.regs ∧
    ∃ z : Heard, (s.hub.listen l x).1 = some z ∧ z.frame = y ∧ z.fault = none

/-- An ACTIVE lane hears frame `y`. -/
def hears (l : Nat) (y : Frame) (x : RxFrame) (s : State) : Prop := s.hub.stageOf l = sACTIVE ∧ catches l y x s

/-- This hub takes a copy of frame `y` heard on lane `l` (R314, R329, R340, R469). -/
def takes (l : Nat) (y : Frame) (s : State) : Prop :=
  s.hub.addressed y = true ∧ y.addr ≠ aUP ∧
    (s.hub.liveRole l = rTWIN ∨ (s.hub.liveRole l ≤ rSPANW ∧ (forwarded y.type = true → y.src ≠ s.hub.hubPos)) ∨
      (s.hub.liveRole l = rUPLINK ∧ (y.type = tLINK ∨ y.type = tCAP ∨ (forwarded y.type = true ∧ s.hub.isGateway = true))))

/-- The hub is the only one the frame is for (R329). -/
def forOne (y : Frame) : Prop := y.addr = aPOS

/-- The lane as it was, but for its receiver and what the reception of a frame frees of its credits (R316, R326). -/
def freedOnly (l : Nat) (s t : State) : Prop :=
  t.hub.lane l = { s.hub.lane l with freed := (t.hub.lane l).freed, rx := (t.hub.lane l).rx, rxAge := (t.hub.lane l).rxAge }

/-- One frame more waits for lane `l`, behind the others. -/
def queuedOn (l : Nat) (y : TxFrame) (s t : State) : Prop :=
  (t.hub.lane l).txq = (s.hub.lane l).txq ++ [y]

/-- Frame `f` is the Selail message `msg` with this body, for position `pos` (R365). -/
def selFrame (msg : Nat) (bulk : Bool) (pos : Nat) (body : List Word) (f : Frame) : Prop :=
  f.type = (if bulk then tSELAILBULK else tSELAIL) ∧ f.addr = aPOS ∧ f.dst = pos ∧
    bitsOf (f.payload.getD 0 0#32) 0 8 = msg ∧ f.payload.drop 6 = body

/-- A Selail message for position `pos` waits for the lane of an open way there (R329, R365). -/
def sentTo (pos msg : Nat) (bulk : Bool) (body : List Word) (s t : State) : Prop :=
  ∀ east n j, pos ≠ s.hub.hubPos → s.hub.wayTo pos = some (east, n) → s.hub.activeLane (wayRole east) = some j →
    ∃ y ∈ (t.hub.lane j).txq, selFrame msg bulk pos body y.frame ∧ y.frame.ttl = n

/-- A Selail message for the peer waits for the TWIN lane, or for the ring where that lane is not in use (R362, R364). -/
def sentPeer (msg : Nat) (bulk : Bool) (body : List Word) (s t : State) : Prop :=
  (∀ j, s.hub.bit Addr.SEL_STATUS 13 = false → s.hub.activeLane rTWIN = some j →
    ∃ y ∈ (t.hub.lane j).txq, selFrame msg bulk s.hub.peerPos body y.frame) ∧
  ((s.hub.bit Addr.SEL_STATUS 13 = true ∨ s.hub.activeLane rTWIN = none) → sentTo s.hub.peerPos msg bulk body s t)

/-- The hub claims the lease: it is CLAIMING, holds no grant, and CLAIM is on its way to the warden (R355, R356). -/
def claims (s t : State) : Prop :=
  t.hub.selState = selCLAIMING ∧ t.hub.sel.grant = none ∧ t.hub.sel.hand = none ∧ sentTo s.hub.wardenPos mCLAIM false [0#32] s t

/-- The hub may begin to claim (R356, R358, R367). -/
def mayClaim (s : State) : Prop :=
  s.hub.selState = selSTANDBY ∧ s.hub.selOk s.raw.toNat = true ∧ s.hub.sel.noVer = false ∧ s.hub.mode ≠ .service ∧
    s.hub.pinWarden = false

/-- A Delay_Req left on lane `l`: its frame with EtherType 0x88F7, its t3 of its timestamp point and sequence, nothing more due;
the rest of the hub stands (R342). -/
def delayReqSent (l : Nat) (s t : State) : Prop :=
  (t.hub.lane l).mac = ((s.hub.macPut l s.raw.toNat macPtp 0x88F7 (s.hub.delayReq l s.hub.ptp.reqSeq)).lane l).mac ∧
  (∃ k, k < (s.hub.stampMode l).perNs ∧
    t.hub.ptp = { s.hub.ptp with
      req := some (s.hub.ptp.reqSeq, s.hub.stampOf l k true s.raw.toNat 64), reqSeq := (s.hub.ptp.reqSeq + 1) % 65536,
      reqDue := false } ∧
    ∀ i, i < 3 → t.hub.rd (Addr.TS_T3 l i) = kxWord (s.hub.stampOf l k true s.raw.toNat 64) i) ∧
  t.hub.fld (Addr.TS_SEQ l) 16 8 = s.hub.ptp.reqSeq % 256 ∧
  regsKept (fun a => decide (Addr.TS_T3 l 0 ≤ a ∧ a ≤ Addr.TS_T3 l 2) || a == Addr.TS_SEQ l) s t ∧
  (∀ k, k ≠ l → t.hub.lane k = s.hub.lane k) ∧ t.hub.dome = s.hub.dome ∧ t.hub.led = s.hub.led ∧ t.hub.sel = s.hub.sel

/-- Registers that the sending and the reception of frames on lane `l` moves. -/
def frameReg (l a : Nat) : Bool := a == Addr.CNT_UNREACH || a == Addr.FRAMES_RX l

/-- Registers of the warden's table (R352). -/
def wardenReg (a : Nat) : Bool :=
  (List.range 32).any fun p => a == Addr.SEL_WTBL_PAIR p || a == Addr.SEL_WTBL_EPOCH p || a == Addr.SEL_WTBL_END_NS p ||
    a == Addr.SEL_WTBL_END_SEC p

/-- Entry `p` of the warden's table names `pos` as the pair's holder, with this epoch and lease end (R352). -/
def entryHolds (p pair pos epoch endT : Nat) (t : State) : Prop :=
  t.hub.wUsed p = true ∧ t.hub.wPair p = pair ∧ t.hub.wHolder p = pos ∧ t.hub.wEpoch p = epoch ∧
    SMap.find t.hub.sel.wEnd p = some endT

/-- No entry of the warden's table moved, and no register but those of the frames. -/
def onlyWarden (l : Nat) (s t : State) : Prop := t.hub.sel.wEnd = s.hub.sel.wEnd ∧ regsKept (frameReg l) s t

/-- The hub has fenced itself (R357): nothing of its own is sent, excitation is at high impedance, the mode change is pending,
and RELINQUISH is on its way to the warden and the peer. -/
def fenced (s t : State) : Prop :=
  t.hub.selState = selFENCED ∧ (s.hub.paired = true → s.hub.sys.powered = true → t.hub.actOut = .low) ∧ t.hub.led.out = [] ∧
    (∀ n, n < 16 → (t.hub.spire n).exc = .hiz) ∧ t.hub.leaseEnd = none ∧ t.hub.sel.grant = none ∧ t.hub.sel.hand = none ∧
    (s.hub.mode = .run → t.hub.bit Addr.SYS_MODE 3 = true) ∧
    (s.hub.pinWarden = false → sentTo s.hub.wardenPos mRELINQUISH false (instWords (s.hub.timeAt s.raw.toNat)) s t) ∧
    sentPeer mRELINQUISH false (instWords (s.hub.timeAt s.raw.toNat)) s t ∧ t.hub.dome = s.hub.dome

/-- The hub has been promoted with epoch `e` (R361). -/
def promoted (e : Nat) (s t : State) : Prop :=
  t.hub.selState = selACTIVE ∧ (s.hub.sys.powered = true → t.hub.actOut = .high) ∧ t.hub.rd Addr.SEL_EPOCH = wd e ∧ t.hub.rd Addr.LED_EPOCH = wd e ∧
    t.hub.rd Addr.SEL_TAKEOVER_CNT = s.hub.rd Addr.SEL_TAKEOVER_CNT + 1#32 ∧ t.hub.sel.grant = none ∧ t.hub.sel.hand = none ∧
    t.hub.mode = (if s.hub.mode = .shadow then .run else s.hub.mode) ∧
    (∀ n c, n < 16 → c < 32 → s.hub.feMode n c = mCHARGE → (t.hub.chan (chNo n c)).xswHold = true) ∧
    ∀ n, n < 16 → (t.hub.spire n).exc = (if (s.hub.spire n).exc = .hiz then
      (if s.hub.bit (Addr.EXC_CFG n) 2 then .on else .off) else (s.hub.spire n).exc)

/-- A handover is proposed: CLAIM with REVERT is on its way to the warden, and PROPOSE to the peer (R366). -/
def proposed (s t : State) : Prop :=
  t.hub.sel.hand = some { claimant := true } ∧ t.hub.sel.retry = false ∧
    (s.hub.pinWarden = false → sentTo s.hub.wardenPos mCLAIM false [1#32] s t) ∧
    sentPeer mHANDOVER false (instWords 0 ++ [0#32]) s t

/-- The proposal of a handover, and nothing else. -/
def proposes (s t : State) : Prop :=
  proposed s t ∧ t.hub.dome = s.hub.dome ∧ regsKept (fun a => a == Addr.CNT_UNREACH) s t

/-- Lane `l` hears the Selail message `y`, number `msg`, and the hub takes it (R365). -/
def hearsMsg (l msg : Nat) (bulk : Bool) (y : Frame) (x : RxFrame) (s : State) : Prop :=
  hears l y x s ∧ takes l y s ∧ y.type = selailType bulk ∧ y.msg = msg

/-- A HANDOVER message `y` of the peer, of the given kind, reaches the hub (R366). -/
def fromTwin (l kind : Nat) (y : Frame) (x : RxFrame) (s : State) : Prop :=
  hearsMsg l mHANDOVER false y x s ∧ y.handKind = kind ∧ s.hub.fromPeer y = true

/-- F_h of a HANDOVER message (R365). -/
def handTime (y : Frame) : Nat := instOf (y.payload.getD 6 0#32) (y.payload.getD 7 0#32) (y.payload.getD 8 0#32)

/-- The body of a LEDGER_M message that holds every enabled stream (R365). -/
def ledgerMBody (tm : Nat) (h : Hub) : List Word :=
  let ks := (List.range 1024).filter h.streamLive
  instWords tm ++ [wd (ks.length + 65536)] ++ ks.flatMap fun k =>
    let a := (h.stream k).ack
    let p := (h.stream k).prod
    [wd (k + 65536 * (a / 2 ^ 32 % 65536)), wd a, wd p, wd (p / 2 ^ 32 % 65536)]

/-- Registers of the Turrets and their contexts, which a mailbox activation moves (R225). -/
def turretRegs (a : Nat) : Bool := decide (0x43000000 ≤ a) && decide (a < 0x43400000)

/-- `CMD_INFLIGHT` (R386). -/
def inflightReg (a : Nat) : Bool := a == Addr.CMD_INFLIGHT_LO || a == Addr.CMD_INFLIGHT_LO + 4

/-- Registers that taking the command word of channel `ch` and posting its response move (R377, R378, R386). -/
def mailReg (ch : Nat) (s : State) (a : Nat) : Bool :=
  a == Addr.MB_STATUS ch || a == Addr.MB_LASTREAD ch || a == dbAddr 0 belfry ch || a == dbAddr 1 (s.hub.mbSender ch) ch ||
    inflightReg a || a == Addr.MB_PEEK (s.hub.mbResp ch) || a == Addr.MB_STATUS (s.hub.mbResp ch) ||
    a == dbAddr 0 (s.hub.mbSender ch) (s.hub.mbResp ch) || turretRegs a

/-- The command of channel `ch` moved registers that `p` accepts; the Dome is as before. -/
def commandMoved (p : Nat → Bool) (ch : Nat) (s t : State) : Prop :=
  regsKept (fun a => p a || mailReg ch s a) s t ∧ t.hub.dome = s.hub.dome

/-- What the response to channel `ch` leaves of the system's state: the 1 ms of a HUB_RESET answered by it begins (R424). -/
def sysAnswered (ch : Nat) (s : State) : Sys := (s.hub.startResets s.raw.toNat ch).sys

/-- The command of channel `ch` was answered ESTATE with the mode's code, counted, and did nothing (R414). -/
def rejected (ch : Nat) (s t : State) : Prop :=
  answered ch ESTATE s.hub.mode.code s t ∧ commandMoved (fun a => a == Addr.SYS_CMD_REJECT) ch s t ∧
    t.hub.fld Addr.SYS_CMD_REJECT 0 16 = min (s.hub.fld Addr.SYS_CMD_REJECT 0 16 + 1) 65535 ∧ t.hub.sys = sysAnswered ch s ∧
    t.hub.sel.hand = s.hub.sel.hand

/-- The hub has been reset with this cause (R16, R170, R425, R435): every register at its reset value, but for RESET_CAUSE and the
fields that show the BOOT_SEL and ARB_GRANT_IN pins (R368, R410), the Dome undefined, nothing of lanes, queues and logs left, RAW at
0, the OTP kept; out of reset where `on`. -/
def hubWasReset (cause : Nat) (on : Bool) (s t : State) : Prop :=
  t.raw = 0#80 ∧ t.pending = s.pending ∧ t.hub.mode = .boot ∧ t.hub.sys.powered = on ∧ t.hub.sys.pllLocked = false ∧
    (∀ a, t.hub.rd a = if a = Addr.SYS_RESET_CAUSE then wd cause
      else if a = Addr.SYS_BOOT_STATUS then putBits (resetValue a) 16 2 s.hub.pins.bootSel
      else if a = Addr.SEL_STATUS then putBits (resetValue a) 17 1 s.hub.pins.arbGrantIn.toNat else resetValue a) ∧ t.hub.dome = [] ∧
    t.hub.domeEpoch = s.hub.domeEpoch + 1 ∧ t.hub.sys.otpOwner = s.hub.sys.otpOwner ∧ t.hub.sys.otpLock = s.hub.sys.otpLock ∧
    t.hub.ctl = {} ∧ t.hub.led = {} ∧ t.hub.lanes = [] ∧ t.hub.ctxs = [] ∧ t.hub.chans = [] ∧ t.hub.spires = [] ∧
    t.hub.sys.plan = {} ∧ t.hub.sys.resets = []

/-- Registers that a reset of spire `n` moves (R425). -/
def spireResetReg (n a : Nat) : Bool :=
  a == Addr.SPIRE_STATUS n || a == Addr.ROT_STATUS n || a == Addr.SWAP_RESULT n || a == Addr.INJ_QUEUE n ||
    a == Addr.FE_CLAMP_NOW n || a == Addr.FE_BREAK_NOW n || a == Addr.FE_CHG_RESET_ACT n || a == Addr.TRIM_STATUS n ||
    a == Addr.CALC_TRIM_PEND || a == Addr.CALC_STATUS || (List.range 9).any fun m => a == Addr.INJ_RES n m

/-- Spire `n` has been reset (R103, R115, R159, R425): no sample from the next frame on, its queues and its pending trim gone,
every pending injection EABORT; the driver, the tables, the calibration values and REF_DRIFT as before. -/
def spireWasReset (n : Nat) (s t : State) : Prop :=
  (t.hub.spire n).inReset = true ∧ (t.hub.spire n).resetFrame = frameCeil (s.hub.timeAt s.raw.toNat) ∧
    (t.hub.spire n).injQ = [] ∧ (t.hub.spire n).injWait = [] ∧ (t.hub.spire n).staged = none ∧
    (t.hub.spire n).exc = (s.hub.spire n).exc ∧
    t.hub.trimState n = trimNONE ∧ t.hub.bit Addr.CALC_TRIM_PEND n = false ∧
    t.hub.bit (Addr.SPIRE_STATUS n) 4 = s.hub.bit (Addr.SPIRE_STATUS n) 4 ∧
    (∀ m, m < 9 → (∃ e ∈ (s.hub.spire n).injQ ++ (s.hub.spire n).injWait, e.who = .ext m) →
      t.hub.fld (Addr.INJ_RES n m) 16 8 = EABORT ∧ t.hub.bit (Addr.INJ_RES n m) 25 = false) ∧
    (∀ k, k ≠ n → t.hub.spire k = s.hub.spire k) ∧ regsKept (spireResetReg n) s t ∧ t.hub.dome = s.hub.dome

/-- Alarm `a` is not due: disarmed, or its target lies ahead (R192). -/
def notDue (a : Nat) (s : State) : Prop :=
  s.hub.armed a = false ∨ s.hub.timeAt s.raw.toNat < (SMap.get {} s.hub.lan.alarms a).target

/-- The start is due: alarm 15, armed with START, has come to its target and not fired (R192, R193). -/
def startDue (s : State) : Prop :=
  s.hub.armed 15 = true ∧ (SMap.get {} s.hub.lan.alarms 15).target ≤ s.hub.timeAt s.raw.toNat ∧
    (SMap.get {} s.hub.lan.alarms 15).action.testBit 3 = true

/-- Registers a scheduled stop moves (R418, R430). -/
def stopReg (a : Nat) : Bool :=
  a == Addr.SYS_MODE || a == Addr.SYS_STOP_TIME0 || a == Addr.SYS_STOP_TIME1 || a == Addr.SYS_STOP_TIME2

/-- A stop at frame `e` is scheduled by the command of channel `ch` (R412, R418, R430): the mode stays till then. -/
def stopsAt (e ch : Nat) (s t : State) : Prop :=
  t.hub.mode = s.hub.mode ∧ t.hub.sys = { sysAnswered ch s with stopAt := some e } ∧ t.hub.bit Addr.SYS_MODE 3 = true ∧
    ∀ k, k < 3 → t.hub.rd (Addr.SYS_STOP_TIME0 + 4 * k) = kxWord e k

/-- The mode will be `m` from the next frame boundary on, by the command of channel `ch` (R412, R430). -/
def changesTo (m : Mode) (ch : Nat) (s t : State) : Prop :=
  t.hub.mode = s.hub.mode ∧ t.hub.sys.modeNext = some (m, nextFrame (s.hub.timeAt s.raw.toNat)) ∧
    t.hub.bit Addr.SYS_MODE 3 = true ∧ t.hub.sys.resets = (sysAnswered ch s).resets

/-- What a coordinated start enters from ARMED (R355, R417): RUN on a hub that delivers and on one that claims with a grant in hand,
else SHADOW. -/
def startMode (s : State) : Mode :=
  if s.hub.activeRole || (s.hub.selState = selCLAIMING && s.hub.sel.grant.isSome) then .run else .shadow

/-- The start that was due came first, and the run it began stops at the next frame boundary (R196, R417, R418). -/
def startedThenStops (s t : State) : Prop :=
  t.hub.mode = startMode s ∧ t.hub.armed 15 = false ∧ t.hub.bit Addr.SYS_MODE 3 = true ∧
    t.hub.sys.stopAt = some (nextFrame (s.hub.timeAt s.raw.toNat)) ∧
    t.hub.rd Addr.SYS_START_TIME0 = kxWord (SMap.get {} s.hub.lan.alarms 15).target 0

/-- The hub has stopped at frame `e` (R418, R461): IDLE, alarm 15 disarmed, perturbations disabled on leaving RUN or SERVICE;
where nothing runs, starts, is held or is captured, the Dome is as before. -/
def ended (e : Nat) (s t : State) : Prop :=
  t.hub.mode = .idle ∧ t.hub.sys.stopAt = none ∧ t.hub.fld Addr.INRUSH_PEND 16 4 = 0 ∧ t.hub.sys.serviceStart = false ∧ t.hub.armed 15 = false ∧
    t.hub.bit Addr.GRID_STATUS 2 = true ∧ (∀ k, k < 3 → t.hub.rd (Addr.SYS_STOP_TIME0 + 4 * k) = kxWord e k) ∧
    (s.hub.mode = .run ∨ s.hub.mode = .service →
      (∀ p ∈ tpEn, t.hub.bit p.1 p.2 = false) ∧ t.hub.bit Addr.TP_STATUS 0 = false) ∧
    (s.hub.running = false → notDue 15 s → s.hub.led.held = [] → (∀ u, u < 32 → s.hub.capState u = capDISARMED) →
      t.hub.dome = s.hub.dome)

/-- A denied access of master `m` to a register that is its own judge: logged in class ACCESS, and nothing else. -/
def deniedStore (m : Nat) (s t : State) : Prop :=
  logged 0 s t ∧ regsKept inLog s t ∧
    t = { s with hub := { s.hub with regs := t.hub.regs, ctl.elog := t.hub.ctl.elog,
                                     ctl.readOk := SMap.put s.hub.ctl.readOk m true } }

/-- Registers of the mailboxes and doorbells, and of the locks (R406, R407). -/
def boxReg (a : Nat) : Bool := decide (0x40000000 ≤ a) && decide (a < 0x40000C00)
def lockReg (a : Nat) : Bool := (List.range 32).any fun l => a == Addr.LOCK_PEEK l

/-- The words that a reset of master `m` finds in channels it receives on. -/
def wordsFor (m : Nat) (s : State) : List Nat :=
  (List.range 64).filter fun ch => s.hub.mbValid ch && decide (s.hub.mbReceiver ch = m) && s.hub.mbFull ch

/-- The locks that master `m` holds. -/
def locksOf (m : Nat) (s : State) : List Nat :=
  (List.range 32).filter fun l => s.hub.lockHeld l && decide (s.hub.lockOwner l = m)

/-- What a reset of master `m` does (R380 to R382, R389). -/
def masterWasReset (m : Nat) (s t : State) : Prop :=
  t.hub.fld (Addr.RESET_EPOCH m) 0 8 = (s.hub.fld (Addr.RESET_EPOCH m) 0 8 + 1) % 256 ∧
    (∀ ch ∈ wordsFor m s, t.hub.mbFull ch = false ∧ t.hub.bit (Addr.MB_STATUS ch) 1 = true ∧
      (s.hub.mbSender ch ≠ m → t.hub.dbGet 2 (s.hub.mbSender ch) ch = true)) ∧
    (∀ ch, ch < 64 → ch ∉ wordsFor m s → t.hub.mbFull ch = s.hub.mbFull ch) ∧
    (∀ ch, ch < 64 → t.hub.rd (Addr.MB_PEEK ch) = s.hub.rd (Addr.MB_PEEK ch)) ∧
    (∀ ch, ch < 64 → t.hub.dbGet 1 m ch = false ∧ t.hub.dbGet 2 m ch = false) ∧
    (∀ l ∈ locksOf m s, t.hub.rd (Addr.LOCK_PEEK l) = 0#32 ∧ SMap.find t.hub.ctl.lockCtx l = none) ∧
    (∀ l, l < 32 → l ∉ locksOf m s → t.hub.rd (Addr.LOCK_PEEK l) = s.hub.rd (Addr.LOCK_PEEK l)) ∧
    t.hub.rd (Addr.ELOG_CLASS_CNT 4) = s.hub.rd (Addr.ELOG_CLASS_CNT 4) + wd (wordsFor m s).length ∧
    t.hub.rd (Addr.ELOG_CLASS_CNT 5) = s.hub.rd (Addr.ELOG_CLASS_CNT 5) + wd (locksOf m s).length ∧ t.hub.dome = s.hub.dome

/-- The Belfry cores restart (R18, R159, R168, R186, R370, R380): the master reset of BELFRY, the trim hold ended, LOCKED
become HOLDOVER, a save, a restore or a HUB_RESET not yet answered lost, Belfry's memory but the firmware store as after a hub
reset, and a log entry of class `k` to be made after the restart. -/
def belfryHeldReset (k : Nat) (s t : State) : Prop :=
  masterWasReset belfry s t ∧ t.hub.ctl.belfryHeld = true ∧ t.hub.ctl.waiting = [] ∧
    (∃ d, t.hub.ctl.restartLog = s.hub.ctl.restartLog ++ [(k, d)]) ∧ t.hub.bit Addr.CALC_STATUS 1 = false ∧
    t.hub.bit Addr.CALC_STATUS 2 = false ∧ t.hub.sys.calSave = none ∧ t.hub.sys.calRestore = none ∧
    t.hub.sys.resets = s.hub.sys.resets.filter (fun x => x.posted.isSome) ∧ t.hub.sys.planBuf = [] ∧ t.hub.sys.work = [] ∧
    t.hub.sys.fwStore = s.hub.sys.fwStore ∧
    t.hub.fld Addr.CALC_SAVE_STATUS 0 8 = (if s.hub.sys.calSave.isSome then EABORT else s.hub.fld Addr.CALC_SAVE_STATUS 0 8) ∧
    t.hub.fld Addr.CALC_SAVE_STATUS 8 8 = (if s.hub.sys.calRestore.isSome then EABORT else s.hub.fld Addr.CALC_SAVE_STATUS 8 8) ∧
    t.hub.timeState = (if s.hub.timeState = 1 then 2 else s.hub.timeState) ∧ t.hub.mode = s.hub.mode ∧
    (∀ ch, ch < 64 → s.hub.mbValid ch = true → s.hub.mbReceiver ch = belfry → t.hub.bit (Addr.MB_STATUS ch) 2 = true)

/-- The ROM verifies an image from `source`, which is in the firmware store (R371, R374, R426). -/
def verifies (source : Nat) (img : List Byte) (cfg : List SetupWrite) (s t : State) : Prop :=
  t.hub.bootStage = stageVERIFY ∧
    t = { s with hub := { s.hub with
      regs := t.hub.regs, sys.fwStore := img, sys.fwOk := false, sys.verify := some (source, cfg),
      ctl.readOk := t.hub.ctl.readOk } } ∧
    regsKept (fun a => a == Addr.SYS_BOOT_STATUS) s t

/-- The firmware runs the image of the firmware store, from `source` (R374, R375, R410). -/
def firmwareRuns (source : Nat) (s t : State) : Prop :=
  t.hub.bootStage = stageFIRMWARE ∧ t.hub.sys.verify = none ∧ t.hub.sys.fwStore = s.hub.sys.fwStore ∧ t.hub.fld Addr.SYS_BOOT_STATUS 4 4 = source ∧ t.hub.sys.fwOk = true ∧
    t.hub.fld Addr.SYS_FW_VER 0 16 = imageWord s.hub.sys.fwStore 8 % 65536 ∧ t.hub.mode = s.hub.mode ∧ t.hub.dome = s.hub.dome ∧
    (∀ c x, (c, x) ∈ [(0, spi), (2, uplink), (4, jtag), (6, twin)] →
      (t.hub.mbSender c = x ∧ t.hub.mbReceiver c = belfry ∧ t.hub.mbResp c = c + 1 ∧ t.hub.mbValid c = true ∧
        t.hub.mbAckDb c = true) ∧
      (t.hub.mbSender (c + 1) = belfry ∧ t.hub.mbReceiver (c + 1) = x ∧ t.hub.mbResp (c + 1) = 0 ∧
        t.hub.mbValid (c + 1) = true ∧ t.hub.mbAckDb (c + 1) = true)) ∧
    regsKept (fun a => a == Addr.SYS_BOOT_STATUS || a == Addr.SYS_FW_VER || (List.range 8).any (fun c => a == Addr.BIND c) ||
      a == Addr.LAN_CFG || inLog a) s t

/-- An image failed with status `st` (R374): the ROM goes to `stage`, ERR shows the status, class BOOT is logged. -/
def imageFailed (st stage : Nat) (s t : State) : Prop :=
  t.hub.bootStage = stage ∧ t.hub.fld Addr.SYS_BOOT_STATUS 8 8 = st % 256 ∧ logged 7 s t ∧ t.hub.mode = s.hub.mode ∧
    t.hub.dome = s.hub.dome ∧ regsKept (fun a => a == Addr.SYS_BOOT_STATUS || inLog a) s t

/-- What every frame on the SPI target port does (R395, R396): SPI_STAT as the bridge stood, the result of the last READ
while there is one, and one more frame counted. -/
def spiSeen (s t : State) : Prop :=
  (let p := s.hub.ctl.spi
   let q := t.hub.ctl.spi
   (p.status < 256 → bitsOf q.stat 0 8 = p.status ∧ q.stat.getLsbD 8 = p.rdy ∧ q.stat.getLsbD 9 = p.busy ∧
     q.stat.getLsbD 10 = s.hub.irq ∧ bitsOf q.stat 11 5 = 0 ∧ bitsOf q.stat 16 16 = p.seq % 65536) ∧
   q.data = (if p.rdy then p.result else 0#32) ∧ q.seq = (p.seq + 1) % 65536)

/-- Only the SPI bridge moved, and the registers that `p` accepts. -/
def onlySpi (p : Nat → Bool) (s t : State) : Prop :=
  regsKept p s t ∧ t = { s with hub := { s.hub with regs := t.hub.regs, ctl.spi := t.hub.ctl.spi } }

/-- Frame `y` is a management frame, bulk or not, with operation `op` (R322, R397). -/
def requests (bulk : Bool) (op : Nat) (y : Frame) : Prop :=
  y.type = (if bulk then tMGMTBULK else tMGMT) ∧ bitsOf (y.payload.getD 0 0#32) 0 4 = op

/-- A management request of lane `l` is taken by the bridge (R397 to R400): heard, addressed, the lane enabled, and no kept
response matches it. -/
def bridgeTakes (l : Nat) (y : Frame) (x : RxFrame) (s : State) : Prop :=
  hears l y x s ∧ forOne y ∧ s.hub.bit Addr.SYS_MGMT_CFG l = true ∧
    (takes l y s ∨ (s.hub.liveRole l = rUPLINK ∧ s.hub.isGateway = false ∧ y.dst = s.hub.hubPos)) ∧
    ∀ k ∈ s.hub.ctl.resps, ¬(k.src = y.src ∧ k.tag = bitsOf (y.payload.getD 0 0#32) 8 8 ∧
      k.up = (y.payload.getD 0 0#32).getLsbD 5 ∧ s.raw.toNat ≤ k.sent + 100 * msU)

/-- A response frame waits for the requester (R398, R469): on the uplink lane it came in on where the hub is no gateway,
else on the way to it. -/
def replyWaits (l : Nat) (y : Frame) (payload : List Word) (s t : State) : Prop :=
  let up := (y.payload.getD 0 0#32).getLsbD 5
  ((s.hub.liveRole l = rUPLINK ∧ s.hub.isGateway = false) →
    ∃ z ∈ (t.hub.lane l).txq, z.frame.type = y.type ∧ z.frame.addr = aPOS ∧ z.frame.dst = y.src ∧ z.frame.payload = payload) ∧
  ((s.hub.liveRole l ≠ rUPLINK ∨ s.hub.isGateway = true) →
    (up = false → ∀ east n j, y.src ≠ s.hub.hubPos → s.hub.wayTo y.src = some (east, n) →
      s.hub.activeLane (wayRole east) = some j →
      ∃ z ∈ (t.hub.lane j).txq, z.frame.type = y.type ∧ z.frame.addr = aPOS ∧ z.frame.dst = y.src ∧ z.frame.ttl = n ∧
        z.frame.payload = payload) ∧
    (up = true → ∀ j, s.hub.isGateway = true → s.hub.activeLane rUPLINK = some j →
      ∃ z ∈ (t.hub.lane j).txq, z.frame.type = y.type ∧ z.frame.addr = aUP ∧ z.frame.payload = payload))

/-- The bridge answered a request with status `st` after `done` words, with this data (R397, R398, R400). -/
def bridgeAnswers (l st done : Nat) (data : List Word) (y : Frame) (s t : State) : Prop :=
  replyWaits l y ([wd (3 + 256 * bitsOf (y.payload.getD 0 0#32) 8 8 + 65536 * data.length), wd (st + 256 * done)] ++ data) s t ∧
    t.hub.ctl.resps.length = min 8 (s.hub.ctl.resps.length + 1) ∧
    ∃ k, t.hub.ctl.resps.head? = some k ∧ k.src = y.src ∧ k.tag = bitsOf (y.payload.getD 0 0#32) 8 8 ∧
      k.up = (y.payload.getD 0 0#32).getLsbD 5 ∧ k.sent = s.raw.toNat

/-- A programming of the OTP was refused with `st` (R404): the status, class SECURITY, and nothing programmed. -/
def otpRefused (st : Nat) (s t : State) : Prop :=
  t.hub.fld Addr.SYS_OTP_STATUS 8 8 = st ∧ logged 25 s t ∧ t.hub.sys = { s.hub.sys with otpStep := none, otpAt := t.hub.sys.otpAt } ∧
    t.hub.dome = s.hub.dome ∧ regsKept (fun a => a == Addr.SYS_OTP_STATUS || inLog a) s t

/-- A perturbation's write of `v` was accepted (R458, R460): the register holds it, the use is counted and logged. -/
def perturbed (m a : Nat) (v : Word) (s t : State) : Prop :=
  t.hub.rd a = v ∧ t.hub.fld Addr.TP_STATUS 8 8 = OK ∧ t.hub.rd Addr.TP_USE_CNT = s.hub.rd Addr.TP_USE_CNT + 1#32 ∧
    logged 23 s t ∧ t.hub.dome = s.hub.dome ∧ SMap.get true t.hub.ctl.readOk m = true

/-- A perturbation's write was refused with `st` (R458): no effect, the status, class REFUSED_WRITE. -/
def perturbRefused (m st : Nat) (s t : State) : Prop :=
  t.hub.fld Addr.TP_STATUS 8 8 = st ∧ logged 1 s t ∧ regsKept (fun a => a == Addr.TP_STATUS || inLog a) s t ∧
    t = { s with hub := { s.hub with regs := t.hub.regs, ctl.elog := t.hub.ctl.elog,
                                     ctl.readOk := SMap.put s.hub.ctl.readOk m true } }

/-- A perturbation of address `a` whose row writes `v` behaves as R458 states, where SERVICE always allows it and RUN,
armed, allows it under `inRun`; `bad` says that a field is out of range. -/
def perturbs (m a : Nat) (v : Word) (inRun bad : Bool) (s : State) (o : Host.Outcome State Fault Refusal) : Prop :=
  ∃ t, o = .next t ∧
    (if (s.hub.mode = .service ∨ (s.hub.mode = .run ∧ s.hub.bit Addr.TP_STATUS 0 = true ∧ inRun = true)) ∧
        s.hub.tpOffNow s.raw.toNat = false then
      (if bad then perturbRefused m ERANGE s t
       else perturbed m a v s t ∧ regsKept (fun x => x == a || x == Addr.TP_STATUS || x == Addr.TP_USE_CNT || inLog x) s t)
     else perturbRefused m ESTATE s t)

end Sys2Proof.Safety
end

