-- ==== Sys2Proof/Certificates/Slice0/Obligations.lean ====
section
/-!
DEFINITION. The statements for the provers, one definition each: what the commands of each family do, for every state and
operands that meet the hypotheses, and what they leave as it was.
-/

open Sys2Proof Sys2Proof.Machine Sys2Proof.Safety

/-- For every command c, queue rest and state, a step of the state whose queue is c followed by the rest is exec of c on
that state with the rest as its queue. -/
def Obligations.StepRunsFront : Prop :=
  ∀ (s : State) (c : Instr) (rest : List Instr), step { s with pending := c :: rest } = exec c { s with pending := rest }

/-- The model's choice of log entry 2. With no command waiting and no verification under way, a step of a hub whose
Lantern PLL has not locked answers the same state. Once it has locked, RAW advances by 2^16 units of 2^-16 ns, modulo
2^80. Where no mode waits for its frame boundary, or that has not come: if this nanosecond ends a Turret cycle whose
edge is not withheld, every Turret that is clocked and out of reset counts it as idle where no context is READY, and
as stalled where every READY context waits or TP_TJIT makes the Turret wait, one cycle of which is then over; nothing
else changes. A mode whose frame boundary has come is entered, PREV shows the mode before, and PEND stays only for a
scheduled stop; into SERVICE a paired hub takes no lease, claim or handover. -/
def Obligations.IdleStepAdvancesRaw : Prop :=
  (∀ s : State, s.pending = [] → s.hub.sys.pllLocked = false → s.hub.sys.verify = none → step s = .next s) ∧
  (∀ s : State, s.pending = [] → s.hub.sys.pllLocked = true → s.hub.sys.powered = true → s.hub.sys.verify = none →
    ∃ t, step s = .next t ∧ t.raw = s.raw + 65536#80 ∧ t.pending = [] ∧
    (∀ m x, s.hub.sys.modeNext = some (m, x) → x ≤ s.hub.timeAt t.raw.toNat →
      t.hub.mode = m ∧ t.hub.sys.modeNext = none ∧ t.hub.bit Addr.SYS_MODE 3 = s.hub.sys.stopAt.isSome ∧
        (m = .armed → t.hub.fld Addr.SYS_MODE 4 3 = s.hub.mode.code) ∧
        (m = .service → s.hub.paired = true → (s.hub.selState = selACTIVE ∨ s.hub.selState = selCLAIMING) →
          t.hub.selState = selSTANDBY ∧ t.hub.sel.hand = none)) ∧
    ((∀ m x, s.hub.sys.modeNext = some (m, x) → s.hub.timeAt t.raw.toNat < x) →
      t = { s with raw := t.raw, hub := { s.hub with regs := t.hub.regs, sys.jit := t.hub.sys.jit } } ∧
      regsKept (fun a => (List.range 4).any fun k => a == Addr.TUR_IDLE_CNT k || a == Addr.TUR_STALL_CNT k) s t ∧
      ∀ k, k < 4 → s.hub.sys.turHeld.contains k = false → s.hub.sys.ungated.contains k = true →
        (let ns := t.raw.toNat / nsU
         let cycle : Bool := ns % 2 = 0 && s.hub.turretEdge (ns / 2)
         let idle : Prop := ∀ l, l < 64 → (s.hub.ctx (64 * k + l)).st ≠ .ready
         let waits : Prop := ∀ l, l < 64 → (s.hub.ctx (64 * k + l)).st = .ready →
           (s.hub.ctx (64 * k + l)).stalled = true ∨ (s.hub.ctx (64 * k + l)).waitt.isSome = true
         (cycle = true → idle → t.hub.rd (Addr.TUR_IDLE_CNT k) = s.hub.rd (Addr.TUR_IDLE_CNT k) + 1#32 ∧
           t.hub.rd (Addr.TUR_STALL_CNT k) = s.hub.rd (Addr.TUR_STALL_CNT k)) ∧
         (cycle = true → ¬idle → (waits ∨ s.hub.jitWaits k = true) →
           t.hub.rd (Addr.TUR_STALL_CNT k) = s.hub.rd (Addr.TUR_STALL_CNT k) + 1#32 ∧
           t.hub.rd (Addr.TUR_IDLE_CNT k) = s.hub.rd (Addr.TUR_IDLE_CNT k)) ∧
         (cycle = true → ¬idle → s.hub.jitWaits k = true →
           SMap.get 0 t.hub.sys.jit k + 1 = SMap.get 0 s.hub.sys.jit k) ∧
         (cycle = false → t.hub.regs = s.hub.regs))))

/-- In State.reset no command waits, RAW is 0, the PLL has not locked, every register address reads the reset value of its
table row (0 where the row gives an undefined value: log entry 12), the mode is BOOT, no Dome byte is defined and the
error log is empty. Where the spec leaves a reading open, the model's is that of log entry 11. -/
def Obligations.ResetState : Prop :=
  State.reset.pending = [] ∧ State.reset.raw = 0#80 ∧ State.reset.hub.sys.pllLocked = false ∧
  (∀ a, State.reset.hub.rd a = resetValue a) ∧ State.reset.hub.mode = .boot ∧ State.reset.hub.dome = [] ∧
  State.reset.hub.rd Addr.SYS_CHIP_ID = 0x51200001#32 ∧ State.reset.hub.rd Addr.SYS_STEPPING = 0xB0#32 ∧
  State.reset.hub.rd Addr.SYS_DOME_JOURNAL_BASE = 0x800000#32 ∧ State.reset.hub.ctl.elog = {}

/-- For every command and every state, exec answers a next state (never a fault, never a refusal), and the commands that
wait are the same before and after. -/
def Obligations.EveryCommandAnswersAndLeavesTheQueue : Prop :=
  ∀ (c : Instr) (s : State), ∃ t, exec c s = .next t ∧ t.pending = s.pending

/-- For every command and state, in the next state RAW is as it was, or the command is one of PLL_LOCK,
RESET_DELAY_EXPIRY, POWER_ON_RELEASE, RESET_N_ASSERT, BROWNOUT and POWER_LOSS and RAW is 0. RESET_DELAY_EXPIRY touches
RAW only where the reset that is due, 1 ms after its response was posted, is a hub reset. RESET_N_ASSERT, BROWNOUT, a
due hub reset, POWER_ON_RELEASE and POWER_LOSS leave every register at its reset value, with the cause in RESET_CAUSE
and BOOT_SEL and ARB_GRANT as their pins are, the Dome undefined, the OTP kept. PLL_LOCK in BOOT, with the firmware
running and the PLL unlocked, shows LOCKED and starts RAW from 0. -/
def Obligations.RawIsTouchedByNoCommandButResets : Prop :=
  (∀ (c : Instr) (s t : State), exec c s = .next t →
    t.raw = s.raw ∨
    (t.raw = 0#80 ∧ (c = .pllLock ∨ (c = .resetDelayExpiry ∧ s.hub.hubResetDue s.raw.toNat = true) ∨ c = .powerOnRelease ∨
      c = .resetNAssert ∨ c = .brownout ∨ c = .powerLoss))) ∧
  (∀ s : State, s.hub.sys.powered = true →
    (∃ t, exec .resetNAssert s = .next t ∧ hubWasReset causeRESETN true s t) ∧
    (∃ t, exec .brownout s = .next t ∧ hubWasReset causeBROWNOUT true s t) ∧
    (s.hub.hubResetDue s.raw.toNat = true →
      ∃ t, exec .resetDelayExpiry s = .next t ∧ hubWasReset causeHUBRESET true s t) ∧
    exec .powerOnRelease s = .next s ∧
    (s.hub.mode = .boot → s.hub.sys.pllLocked = false → s.hub.inFirmware = true →
      ∃ t, exec .pllLock s = .next t ∧ t.raw = 0#80 ∧ t.hub.sys = { s.hub.sys with pllLocked := true } ∧
        t.hub.bit Addr.LAN_STATUS 0 = true ∧ regsKept (fun a => a == Addr.LAN_STATUS) s t ∧
        t = { s with raw := t.raw, hub := { s.hub with regs := t.hub.regs, sys := t.hub.sys } }) ∧
    (s.hub.mode ≠ .boot ∨ s.hub.sys.pllLocked = true ∨ s.hub.inFirmware = false → exec .pllLock s = .next s)) ∧
  (∀ s : State, s.hub.sys.powered = false →
    ∃ t, exec .powerOnRelease s = .next t ∧ hubWasReset causePOWERON true s t) ∧
  (∀ s : State, ∃ t, exec .powerLoss s = .next t ∧ hubWasReset causePOWERON false s t)

/-- For every state in which the fraction of RAW, bits 15 to 0, is 0, and whatever command stands at the front of its
queue or none, every next state has a fraction of 0 too. The fraction is the spec's interpolation at the moment of
capture: a capture adds it, as log entry 27 says; RAW itself keeps none. -/
def Obligations.RawCountsWholeNanoseconds : Prop :=
  ∀ s t : State, s.raw.toNat % 65536 = 0 → step s = .next t → t.raw.toNat % 65536 = 0

/-- The fraction of RAW, bits 15 to 0, is 0 in State.reset, and the list that holds the Dome's bytes is in the canonical
form of Memory.wf: addresses strictly rise. -/
def Obligations.InvariantsAtReset : Prop :=
  State.reset.raw.toNat % 65536 = 0 ∧ Memory.wf State.reset.hub.dome = true

/-- In a state whose power-on reset holds the hub (a rail is outside its range), every command but POWER_ON_RELEASE and
POWER_LOSS answers the same state. That a command which reaches the hub meanwhile has no effect is the model's reading
of R435. Where the spec leaves a reading open, the model's is that of log entry 45. -/
def Obligations.UnpoweredHubIsHeld : Prop :=
  ∀ (c : Instr) (s : State), s.hub.sys.powered = false → c ≠ .powerOnRelease → c ≠ .powerLoss → exec c s = .next s

/-- The encoding example ADD g3, g8, g15 = 0x04E3_C000 and the other words of the worked program of the instruction
reference decode to the instructions the spec writes beside them, among them immediates, shifts, a wide square, a
comparison, backward branches, port operations and YIELD; the word 0xFFFF_FFFF is undefined. -/
def Obligations.DecodedWordsOfTheSpec : Prop :=
  decodeWord 0x04E3C000#32 = some (.add 3 8 15) ∧ decodeWord 0x3D7C0020#32 = some (.addi 5 15 32) ∧
  decodeWord 0x60000000#32 = some (.wclr 0) ∧ decodeWord 0x8C00B000#32 = some (.take 0 (.indirect 6) 0) ∧
  decodeWord 0x1AEC8000#32 = some (.or_ 11 11 2) ∧ decodeWord 0x28800028#32 = some (.sar 2 0 (.imm 8)) ∧
  decodeWord 0x50080000#32 = some (.wsq 0 2 0) ∧ decodeWord 0x64041016#32 = some (.cmp 0 0 6 1 (.imm 0x80)) ∧
  decodeWord 0x6C000002#32 = some (.brq 0 false false 2) ∧ decodeWord 0xAA48C000#32 = some (.rflow 9 2 3 0) ∧
  decodeWord 0x793FFFF8#32 = some (.loop 4 (-8)) ∧ decodeWord 0x5C30030A#32 = some (.wrd 12 0 3 10) ∧
  decodeWord 0x27440028#32 = some (.shr 13 1 (.imm 8)) ∧ decodeWord 0x23740028#32 = some (.shl 13 13 (.imm 8)) ∧
  decodeWord 0x9700B801#32 = some (.emit 6 1 (.indirect 7)) ∧ decodeWord 0x9800B800#32 = some (.seal_ (.indirect 7)) ∧
  decodeWord 0xD8000000#32 = some .yield_ ∧ decodeWord 0xFFFFFFFF#32 = none

/-- For every Amixel instruction, with every operand at every value its encoding admits, the word that encodeWord writes
decodes to that instruction: no operand bit is dropped and no two instructions share a word. For every 32-bit word
that decodeWord accepts, encodeWord of the instruction it reads is that word again: every bit of an accepted word is
an operand's, the opcode's, or a bit that must be 0, and a word with any other bit set is undefined. -/
def Obligations.DecodeEncode : Prop :=
  (∀ i : Amixel, decodeWord (encodeWord i) = some i) ∧
  (∀ (w : Word) (i : Amixel), decodeWord w = some i → encodeWord i = w)

/-- For every state whose Dome list has the canonical form (addresses strictly rising), and whatever command stands at the
front of its queue or none, every next state's Dome list has it too: equal memories stay equal data. -/
def Obligations.DomeStaysCanonical : Prop :=
  ∀ s t : State, Memory.wf s.hub.dome = true → step s = .next t → Memory.wf t.hub.dome = true

/-- For every master, every aligned Dome address and access size whose write is performed (accessOk), the bytes from the
address up are those of the value, least significant first, every other byte of the Dome reads as before, the 64-bit
word's parity is right afterwards and every other word's parity is as it was, the Dome's cells keep their canonical
form, and nothing else changes but the note that the master's access was performed. For every aligned Dome address and
size that the master may read, RC_FIELD_READ leaves for the master the value of those 1, 2 or 4 bytes, least
significant first, and changes nothing but the record of that access. A read of any size that is not performed, so
every read of register space that is not of an aligned word, returns 0 and is logged in class ACCESS. -/
def Obligations.DomeAccessesStoreAndReturnBytes : Prop :=
  (∀ (s : State) (m : MasterIx) (a v : Word) (z : AccSize), s.hub.sys.powered = true → a.toNat < domeSize →
    s.hub.accessOk m true a.toNat z.bytes = true →
    ∃ t, exec (.registerWrite m a z v) s = .next t ∧
      (∀ i, i < z.bytes → t.hub.domeByte (a.toNat + i) = byteAt v.toNat i) ∧
      (∀ b, b < a.toNat ∨ a.toNat + z.bytes ≤ b → t.hub.domeByte b = s.hub.domeByte b) ∧
      t.hub.poisoned a.toNat = false ∧
      (∀ b, b / 8 ≠ a.toNat / 8 → t.hub.poisoned b = s.hub.poisoned b) ∧
      (Memory.wf s.hub.dome = true → Memory.wf t.hub.dome = true) ∧
      t = { s with hub := { s.hub with dome := t.hub.dome, badParity := t.hub.badParity,
                                       ctl.readOk := SMap.put s.hub.ctl.readOk m true } }) ∧
  (∀ (s : State) (m : MasterIx) (a : Word) (z : AccSize), s.hub.sys.powered = true → a.toNat < domeSize →
    s.hub.accessOk m false a.toNat z.bytes = true →
    ∃ t, exec (.rcFieldRead m a z) s = .next t ∧
      (∀ i, i < 4 → byteAt (SMap.get 0#32 t.hub.ctl.readData m).toNat i =
        (if i < z.bytes then s.hub.domeByte (a.toNat + i) else 0#8)) ∧
      t = { s with hub := { s.hub with ctl.readOk := SMap.put s.hub.ctl.readOk m true, ctl.readData := t.hub.ctl.readData } } ∧
      (∀ k, k ≠ m.val → SMap.get 0#32 t.hub.ctl.readData k = SMap.get 0#32 s.hub.ctl.readData k)) ∧
  (∀ (s : State) (m : MasterIx) (a : Word) (z : AccSize), s.hub.sys.powered = true →
    s.hub.accessOk m false a.toNat z.bytes = false →
    ∃ t, exec (.rcFieldRead m a z) s = .next t ∧ SMap.get 0#32 t.hub.ctl.readData m = 0#32 ∧ logged 0 s t ∧
      t.hub.dome = s.hub.dome ∧ regsKept inLog s t) ∧
  (∀ (h : Hub) (m : MasterIx) (w : Bool) (a : Nat) (z : AccSize), domeSize ≤ a →
    (z ≠ .word ∨ a % 4 ≠ 0 ∨ isMapped a = false) → h.accessOk m w a z.bytes = false)

/-- For every master, address, size and value whose write is not performed (accessOk does not hold), REGISTER_WRITE
answers a next state in which class ACCESS of the error log counts one more, every register outside the error log and
every Dome byte reads as before, and only the error log and the note that the master's last access failed differ. -/
def Obligations.ForbiddenWriteDoesNothing : Prop :=
  ∀ (s : State) (m : MasterIx) (a v : Word) (z : AccSize), s.hub.sys.powered = true →
    s.hub.accessOk m true a.toNat z.bytes = false →
    ∃ t, exec (.registerWrite m a z v) s = .next t ∧ logged 0 s t ∧ regsKept inLog s t ∧
      t = { s with hub := { s.hub with regs := t.hub.regs, ctl.elog := t.hub.ctl.elog,
                                       ctl.readOk := SMap.put s.hub.ctl.readOk m false } }

/-- For every hub that is not waiting for a host image, with JTAG not locked out by the fuse: an aligned Dome access of 1,
2 or 4 bytes is performed exactly where the table of R37 gives the master R or W on the region the address lies in; an
aligned 4-byte access of a mapped register is performed for a read by every master, for a write of the control plane
by every master, for a write of a block register by every master but a Turret, which writes its own context windows
only, and TWIN. With the debug lock blown JTAG's accesses are never performed. A performed write of a region size in
BOOT, IDLE or SERVICE without a plan that leaves JOURNAL 16 granules stores it and moves the bases and JOURNAL's size;
written bytes of SYSTEM stay, every other byte is undefined, and where JOURNAL's size changed queue 0 takes all of it.
In another mode, or leaving JOURNAL less, it is refused. Where the spec leaves a reading open, the model's is that of
log entry 13. -/
def Obligations.AccessPermissions : Prop :=
  (∀ (h : Hub) (m : MasterIx) (w : Bool) (a : Nat) (z : AccSize) (g : Region), h.bootStage ≠ stageWAITHOST →
    (m.val = 8 → h.sys.otpLock = false) → h.region a = some g → a % z.bytes = 0 →
    (h.accessOk m w a z.bytes = true ↔
      match m.val, g, w with
      | 0, _, _ => True
      | 8, _, _ => True
      | 5, .system, _ => True
      | 5, .data, _ => True
      | 5, _, w => w = false
      | 6, .system, _ => True
      | 6, .data, _ => True
      | 6, _, w => w = false
      | 7, .mirror, w => w = true
      | 7, _, _ => False
      | _, .data, _ => True
      | _, .capture, _ => True
      | _, .journal, _ => False
      | _, _, w => w = false)) ∧
  (∀ (h : Hub) (m : MasterIx) (w : Bool) (a : Nat), h.bootStage ≠ stageWAITHOST → (m.val = 8 → h.sys.otpLock = false) →
    domeSize ≤ a → a % 4 = 0 → isMapped a = true →
    (h.accessOk m w a 4 = true ↔
      w = false ∨ (0x40000000 ≤ a ∧ a < 0x40005000) ∨ m.val = 0 ∨ m.val = 5 ∨ m.val = 6 ∨ m.val = 8 ∨
      (1 ≤ m.val ∧ m.val ≤ 4 ∧ 0x43040000 + 0x100000 * (m.val - 1) ≤ a ∧ a < 0x43050000 + 0x100000 * (m.val - 1)))) ∧
  (∀ (h : Hub) (w : Bool) (a n : Nat), h.sys.otpLock = true → h.accessOk 8 w a n = false) ∧
  (∀ (s : State) (m : MasterIx) (k : RegionIx) (v : Word), s.hub.sys.powered = true →
    s.hub.accessOk m true (Addr.SYS_DOME_STAGE_SIZE + 4 * k) 4 = true →
    (let sz := fun i => if i = k.val then bitsOf v 0 10 else s.hub.fld (Addr.SYS_DOME_STAGE_SIZE + 4 * i) 0 10
     let sum := sz 0 + sz 1 + sz 2 + sz 3
     let base := fun i => Addr.SYS_DOME_STAGE_BASE + 4 * i
     ((s.hub.setupMode = false ∨ s.hub.servicePlan = true ∨ 494 < sum) →
       ∃ t, exec (.domeRegionSizeWrite m k v) s = .next t ∧ refusedStore m s t) ∧
     (s.hub.setupMode = true → s.hub.servicePlan = false → sum ≤ 494 → (∀ p ∈ s.hub.queues, p.1 < 64) →
       ∃ t, exec (.domeRegionSizeWrite m k v) s = .next t ∧
         (∀ i, i < 4 → t.hub.fld (Addr.SYS_DOME_STAGE_SIZE + 4 * i) 0 10 = sz i) ∧
         (t.hub.rd Addr.SYS_DOME_JOURNAL_SIZE).toNat = 510 - sum ∧ (t.hub.rd (base 0)).toNat = 0x20000 ∧
         (t.hub.rd (base 1)).toNat = 0x20000 + 0x10000 * sz 0 ∧ (t.hub.rd (base 2)).toNat = 0x20000 + 0x10000 * (sz 0 + sz 1) ∧
         (t.hub.rd (base 3)).toNat = 0x20000 + 0x10000 * (sz 0 + sz 1 + sz 2) ∧
         (t.hub.rd (base 4)).toNat = 0x20000 + 0x10000 * sum ∧
         (∀ b x, b < 0x20000 → SMap.find s.hub.dome b = some x → t.hub.domeByte b = x) ∧
         (∀ b, 0x20000 ≤ b → SMap.find t.hub.dome b = none) ∧
         ((s.hub.rd Addr.SYS_DOME_JOURNAL_SIZE).toNat = 510 - sum → t.hub.queues = s.hub.queues) ∧
         ((s.hub.rd Addr.SYS_DOME_JOURNAL_SIZE).toNat ≠ 510 - sum →
           (t.hub.rd (Addr.LED_Q_CFG 0)).toNat = 1024 * (510 - sum) ∧
           (∀ q, 1 ≤ q → q < 64 → t.hub.rd (Addr.LED_Q_CFG q) = 0#32)) ∧
         regsKept (fun a => a == Addr.SYS_DOME_STAGE_SIZE + 4 * k || a == Addr.SYS_DOME_JOURNAL_SIZE ||
           (List.range 5).any (fun i => a == base i) || inLedger a || inLog a) s t)))

/-- For every register with RC fields whose reading has no other effect (a mailbox word, a lock, TIME_NOW0 and a trigger
FIFO have rules of their own, and TUR_BACKLOG_MAX follows), and every master that may read it: RC_FIELD_READ leaves
for the master the word that the register shows, the register's RC bits then read 0, its other bits and every other
register are as before, and nothing else changes but the record of the access. After a read of TUR_BACKLOG_MAX, the
largest TUR_BACKLOG since a read, the register holds the TUR_BACKLOG that stands then. -/
def Obligations.ReadingAnRcFieldClearsIt : Prop :=
  (∀ (s : State) (m : MasterIx) (a : Word) (x : RegRef), s.hub.sys.powered = true → domeSize ≤ a.toNat →
    s.hub.accessOk m false a.toNat 4 = true → regRef a.toNat = some x → x.row.rc ≠ 0#32 →
    x.row.base ≠ Addr.MB_DATA 0 → x.row.base ≠ Addr.LOCK 0 → x.row.base ≠ Addr.TIME_NOW0 →
    x.row.base ≠ Addr.TRIG_IN_TS0 0 → x.row.base ≠ Addr.TUR_BACKLOG_MAX 0 →
    ∃ t, exec (.rcFieldRead m a .word) s = .next t ∧
      SMap.get 0#32 t.hub.ctl.readData m = (s.hub.view s.raw.toNat m a.toNat).getD 0#32 ∧
      t.hub.rd a.toNat = s.hub.rd a.toNat &&& ~~~x.row.rc ∧ regsKept (fun b => b == a.toNat) s t ∧
      t = { s with hub := { s.hub with regs := t.hub.regs, ctl.readOk := SMap.put s.hub.ctl.readOk m true,
                                       ctl.readData := t.hub.ctl.readData } }) ∧
  ∀ (s : State) (m : MasterIx) (k : TurretIx), s.hub.sys.powered = true → s.hub.accessOk m false (Addr.TUR_BACKLOG_MAX k) 4 = true →
    ∃ t, exec (.rcFieldRead m (wd (Addr.TUR_BACKLOG_MAX k)) .word) s = .next t ∧
      SMap.get 0#32 t.hub.ctl.readData m = (s.hub.view s.raw.toNat m (Addr.TUR_BACKLOG_MAX k)).getD 0#32 ∧
      t.hub.fld (Addr.TUR_BACKLOG_MAX k) 0 24 = s.hub.backlog k % 2 ^ 24 ∧
      regsKept (fun b => b == Addr.TUR_BACKLOG_MAX k) s t

/-- CROSSING_STUCK counts once more in CLK.CROSS_STUCK_CNT, saturating at 0xFFFF, and writes an entry of class CROSSING.
BRIDGE_TIMEOUT of UPLINK or JTAG, and of SPI with a read in progress, completes the access as a read of 0, writes an
entry of class BRIDGE_TIMEOUT and keeps the read to complete later; SPI's port becomes ready with status ETIME.
ABANDONED_READ_COMPLETE of an abandoned read of a lock that is free leaves that lock free, and the abandoned read is
gone; of a register with RC fields whose reading has no other effect it clears those fields, and nothing else changes;
the data reaches no master. TOGGLE_ACK_COMPLETE with no event merged ends the acknowledge phase and delivers nothing;
with events merged exactly one is delivered, to a context in WAIT as an activation where its pacing interval is over
and kept pending where not, and its acknowledge phase begins. No command here changes the Dome. -/
def Obligations.CrossingsAndHeldReads : Prop :=
  (∀ (s : State) (k : CrossIx), s.hub.sys.powered = true →
    ∃ t, exec (.crossingStuck k) s = .next t ∧
      t.hub.fld Addr.CLK_CROSS_STUCK_CNT 0 16 = min (s.hub.fld Addr.CLK_CROSS_STUCK_CNT 0 16 + 1) 65535 ∧ logged 3 s t ∧
      onlyRegsLog (fun a => a == Addr.CLK_CROSS_STUCK_CNT) s t) ∧
  (∀ (s : State) (m : MasterIx) (a : Word), s.hub.sys.powered = true → (m.val = 6 ∨ m.val = 8) →
    ∃ t, exec (.bridgeTimeout m a) s = .next t ∧ SMap.get 0#32 t.hub.ctl.readData m = 0#32 ∧
      t.hub.ctl.abandoned = s.hub.ctl.abandoned ++ [(m.val, a.toNat)] ∧ logged 2 s t ∧ regsKept inLog s t ∧
      t.hub.dome = s.hub.dome) ∧
  (∀ (s : State) (a : Word), s.hub.sys.powered = true → s.hub.ctl.spi.busy = true →
    ∃ t, exec (.bridgeTimeout 5 a) s = .next t ∧ t.hub.ctl.spi.busy = false ∧ t.hub.ctl.spi.rdy = true ∧
      t.hub.ctl.spi.result = 0#32 ∧ t.hub.ctl.spi.status = ETIME ∧
      t.hub.ctl.abandoned = s.hub.ctl.abandoned ++ [(5, s.hub.ctl.spi.addr)] ∧ logged 2 s t ∧ regsKept inLog s t ∧
      t.hub.dome = s.hub.dome) ∧
  (∀ (s : State) (m : MasterIx) (l : LockIx) (rest : List (Nat × Nat)), s.hub.sys.powered = true →
    s.hub.ctl.abandoned = (m.val, Addr.LOCK l) :: rest → s.hub.accessOk m false (Addr.LOCK l) 4 = true →
    s.hub.lockHeld l = false →
    ∃ t, exec .abandonedReadComplete s = .next t ∧ t.hub.lockHeld l = false ∧ t.hub.ctl.abandoned = rest ∧
      t.hub.ctl.readData = s.hub.ctl.readData ∧ t.hub.dome = s.hub.dome ∧
      regsKept (fun a => a == Addr.LOCK_PEEK l || inLog a) s t) ∧
  (∀ (s : State) (m : MasterIx) (a : Nat) (x : RegRef) (rest : List (Nat × Nat)), s.hub.sys.powered = true →
    s.hub.ctl.abandoned = (m.val, a) :: rest → domeSize ≤ a → s.hub.accessOk m false a 4 = true → regRef a = some x →
    x.row.rc ≠ 0#32 → x.row.base ≠ Addr.MB_DATA 0 → x.row.base ≠ Addr.LOCK 0 → x.row.base ≠ Addr.TIME_NOW0 →
    x.row.base ≠ Addr.TRIG_IN_TS0 0 → x.row.base ≠ Addr.TUR_BACKLOG_MAX 0 →
    ∃ t, exec .abandonedReadComplete s = .next t ∧ t.hub.rd a = s.hub.rd a &&& ~~~x.row.rc ∧
      t = { s with hub := { s.hub with regs := t.hub.regs, ctl.abandoned := rest } } ∧ regsKept (fun b => b == a) s t) ∧
  (∀ (s : State) (c : CtxIx), s.hub.sys.powered = true → SMap.find s.hub.ctl.toggles c = some false →
    ∃ t, exec (.toggleAckComplete c) s = .next t ∧ SMap.find t.hub.ctl.toggles c = none ∧
      t = { s with hub := { s.hub with ctl.toggles := t.hub.ctl.toggles } } ∧
      ∀ d, d ≠ c.val → SMap.find t.hub.ctl.toggles d = SMap.find s.hub.ctl.toggles d) ∧
  (∀ (s : State) (c : CtxIx), s.hub.sys.powered = true → SMap.find s.hub.ctl.toggles c = some true →
    ∃ t, exec (.toggleAckComplete c) s = .next t ∧ SMap.find t.hub.ctl.toggles c = some false ∧
      (if s.hub.paceOver s.raw.toNat c then
        (t.hub.ctx c).paced = false ∧ (t.hub.ctx c).lastAct = some (s.hub.timeAt s.raw.toNat) ∧
        ((s.hub.ctx c).st = .wait → (t.hub.ctx c).st = .ready)
      else (t.hub.ctx c).paced = true ∧ t.hub.regs = s.hub.regs) ∧
      t.hub.dome = s.hub.dome ∧ t.raw = s.raw)

/-- A permitted write of FE_CFG, none of its encodings reserved, or of FE_AUX, in BOOT or IDLE with no plan loaded, and in
SERVICE, sets the written copy (FE_CFG's reserved bits read 0) and changes no other register, but that in SERVICE with
a plan PLAN_STATUS.ALTERED is set; the settings in force stay until FE_CFG_TAKE_EFFECT. A write of FE_CFG with a
reserved MODE, RST_POL or LEAK is refused and logged. In ARMED, RUN and SHADOW, and in BOOT or IDLE with a plan
loaded, the write is refused. FE_CFG_TAKE_EFFECT puts both written copies in force; it clears the channel's filter
paths where MODE changes, its Sentry detector going to QUIET, and keeps its samples where it does not; samples held
from this frame's instant on are of the new settings; it touches no other channel and no register but SEN_NOISE. Where
the spec leaves a reading open, the model's is that of log entries 30, 53 and 54. -/
def Obligations.FrontEndConfiguration : Prop :=
  (∀ (s : State) (m : MasterIx) (n : SpireIx) (c : ChanIx) (aux : Bool) (v : Word), s.hub.sys.powered = true →
    s.hub.accessOk m true (if aux then Addr.FE_AUX n c else Addr.FE_CFG n c) 4 = true → planOpen s →
    (aux = false → bitsOf v 0 3 < 6 ∧ bitsOf v 9 2 ≠ 3 ∧ bitsOf v 11 2 ≠ 3) →
    ∃ t, exec (.feCfgWrite m n c aux v) s = .next t ∧
      t.hub.rd (if aux then Addr.FE_AUX n c else Addr.FE_CFG n c) = (if aux then v else v &&& 0x7FFFF#32) ∧
      onlyStore m (fun a => a == if aux then Addr.FE_AUX n c else Addr.FE_CFG n c) s t) ∧
  (∀ (s : State) (m : MasterIx) (n : SpireIx) (c : ChanIx) (aux : Bool) (v : Word), s.hub.sys.powered = true →
    s.hub.accessOk m true (if aux then Addr.FE_AUX n c else Addr.FE_CFG n c) 4 = true → s.hub.mode = .service →
    (aux = false → bitsOf v 0 3 < 6 ∧ bitsOf v 9 2 ≠ 3 ∧ bitsOf v 11 2 ≠ 3) →
    ∃ t, exec (.feCfgWrite m n c aux v) s = .next t ∧
      t.hub.rd (if aux then Addr.FE_AUX n c else Addr.FE_CFG n c) = (if aux then v else v &&& 0x7FFFF#32) ∧
      (s.hub.planLoaded = true → t.hub.bit Addr.SYS_PLAN_STATUS 1 = true) ∧
      onlyStore m (fun a => (a == if aux then Addr.FE_AUX n c else Addr.FE_CFG n c) ||
        (s.hub.planLoaded && a == Addr.SYS_PLAN_STATUS)) s t) ∧
  (∀ (s : State) (m : MasterIx) (n : SpireIx) (c : ChanIx) (v : Word), s.hub.sys.powered = true →
    s.hub.accessOk m true (Addr.FE_CFG n c) 4 = true → (planOpen s ∨ s.hub.mode = .service) →
    (6 ≤ bitsOf v 0 3 ∨ bitsOf v 9 2 = 3 ∨ bitsOf v 11 2 = 3) →
    ∃ t, exec (.feCfgWrite m n c false v) s = .next t ∧ refusedStore m s t) ∧
  (∀ (s : State) (m : MasterIx) (n : SpireIx) (c : ChanIx) (aux : Bool) (v : Word), s.hub.sys.powered = true →
    s.hub.accessOk m true (if aux then Addr.FE_AUX n c else Addr.FE_CFG n c) 4 = true →
    (s.hub.mode = .armed ∨ s.hub.mode = .run ∨ s.hub.mode = .shadow ∨
      ((s.hub.mode = .boot ∨ s.hub.mode = .idle) ∧ s.hub.planLoaded = true)) →
    ∃ t, exec (.feCfgWrite m n c aux v) s = .next t ∧ refusedStore m s t) ∧
  (∀ (s : State) (n : SpireIx) (c : ChanIx), s.hub.sys.powered = true →
    ∃ t, exec (.feCfgTakeEffect n c) s = .next t ∧
      t.hub.active (Addr.FE_CFG n c) = s.hub.rd (Addr.FE_CFG n c) ∧
      t.hub.active (Addr.FE_AUX n c) = s.hub.rd (Addr.FE_AUX n c) ∧
      (t.hub.chan (chNo n c)).raw =
        (if s.hub.feMode n c = s.hub.fld (Addr.FE_CFG n c) 0 3 then (s.hub.chan (chNo n c)).raw else []) ∧
      (∀ a, a ≠ Addr.FE_CFG n c → a ≠ Addr.FE_AUX n c → t.hub.active a = s.hub.active a) ∧
      (∀ g, g ≠ chNo n c → t.hub.chan g = s.hub.chan g) ∧
      (s.hub.feMode n c ≠ s.hub.fld (Addr.FE_CFG n c) 0 3 → (t.hub.chan (chNo n c)).sen.st = .quiet) ∧
      (s.hub.feMode n c = s.hub.fld (Addr.FE_CFG n c) 0 3 → t.hub.regs = s.hub.regs) ∧
      (∀ x, chanSettled n c (frameOf (s.hub.timeAt s.raw.toNat) * frameU) x s →
        (t.hub.chanAt n c x).cfg = s.hub.rd (Addr.FE_CFG n c)) ∧
      regsKept (fun a => a == Addr.SEN_NOISE n c) s t ∧
      t = { s with hub := { s.hub with regs := t.hub.regs, act := t.hub.act, chans := t.hub.chans } })

/-- A code of the channel is judged by what holds at the instant its sample is held; a change holds from its instant on, a
clamp's from its frame's, for an instant whose record was up to date (log entry 53). After COMMON_MODE_TRIP of a
channel whose clamps do not conduct, every code reads +32 767 with OVR where the tripped ball is above the limit and
-32 768 with OVR where it is below, the P ball governing. After RTD_COMPLIANCE_EXCEEDED of an RTD channel with nothing
else tripped, codes keep their value and carry OVR. After CHARGE_RAIL_REACHED of a CHARGE channel with nothing else
tripped, the code is the saturated code of the rail, with OVR. CLAMP_CONDUCT sets FE_CLAMP_NOW, the sticky FE_CLAMP
bit and the saturated code, and every other channel of the spire, the sense readings (32) too, is SUSPECT; without
conduction the FE_CLAMP_NOW bit falls, FE_CLAMP keeps its value, and a channel that had conducted goes on marking.
CLAMP_SUSPECT_END ends the marking where no other channel causes it. Only that channel, that spire and those registers
change. Where the spec leaves a reading open, the model's is that of log entries 3, 53 and 54. -/
def Obligations.DetectorsReplaceTheCode : Prop :=
  (∀ (s : State) (n : SpireIx) (c : ChanIx) (p q : BallLevel), s.hub.sys.powered = true →
    (s.hub.chan (chNo n c)).clP = .inside → (s.hub.chan (chNo n c)).clN = .inside →
    ∃ t, exec (.commonModeTrip n c p q) s = .next t ∧ onlyRegsChan (fun _ => false) (chNo n c) s t ∧
      ∀ x, chanSettled n c (s.hub.timeAt s.raw.toNat) x s → ∀ code,
        (p = .above ∨ (p = .inside ∧ q = .above) → (t.hub.chanAt n c x).code code = (32767, true)) ∧
        (p = .below ∨ (p = .inside ∧ q = .below) → (t.hub.chanAt n c x).code code = (-32768, true))) ∧
  (∀ (s : State) (n : SpireIx) (c : ChanIx) (b : Bool), s.hub.sys.powered = true → s.hub.feMode n c = mRTD →
    (s.hub.chan (chNo n c)).clP = .inside → (s.hub.chan (chNo n c)).clN = .inside →
    (s.hub.chan (chNo n c)).cmP = .inside → (s.hub.chan (chNo n c)).cmN = .inside →
    ∃ t, exec (.rtdComplianceExceeded n c b) s = .next t ∧ onlyRegsChan (fun _ => false) (chNo n c) s t ∧
      ∀ x, chanSettled n c (s.hub.timeAt s.raw.toNat) x s →
        ∀ code : Int, -32768 < code → code < 32767 → (t.hub.chanAt n c x).code code = (code, b)) ∧
  (∀ (s : State) (n : SpireIx) (c : ChanIx) (l : BallLevel), s.hub.sys.powered = true → s.hub.feMode n c = mCHARGE →
    (s.hub.chan (chNo n c)).clP = .inside → (s.hub.chan (chNo n c)).clN = .inside →
    (s.hub.chan (chNo n c)).cmP = .inside → (s.hub.chan (chNo n c)).cmN = .inside →
    ∃ t, exec (.chargeRailReached n c l) s = .next t ∧ onlyRegsChan (fun _ => false) (chNo n c) s t ∧
      ∀ x, chanSettled n c (s.hub.timeAt s.raw.toNat) x s →
        ∀ code : Int, -32768 < code → code < 32767 → (t.hub.chanAt n c x).code code =
          (match l with | .above => (32767, true) | .below => (-32768, true) | .inside => (code, false))) ∧
  (∀ (s : State) (n : SpireIx) (c : ChanIx) (p q : BallLevel), s.hub.sys.powered = true →
    ∃ t, exec (.clampConduct n c p q) s = .next t ∧
      (p ≠ .inside ∨ q ≠ .inside →
        t.hub.bit (Addr.FE_CLAMP_NOW n) c = true ∧ t.hub.bit (Addr.FE_CLAMP n) c = true ∧
        (∀ x, spireSettled n (frameOf (s.hub.timeAt s.raw.toNat) * frameU) x s →
          ∀ d, d ≤ 32 → d ≠ c.val → t.hub.clampSuspect n d x = true) ∧
        ∀ x, chanSettled n c (frameOf (s.hub.timeAt s.raw.toNat) * frameU) x s → ∀ code,
          (p = .above ∨ (p = .inside ∧ q = .above) → (t.hub.chanAt n c x).code code = (32767, true)) ∧
          (p = .below ∨ (p = .inside ∧ q = .below) → (t.hub.chanAt n c x).code code = (-32768, true))) ∧
      (p = .inside ∧ q = .inside →
        t.hub.bit (Addr.FE_CLAMP_NOW n) c = false ∧ t.hub.rd (Addr.FE_CLAMP n) = s.hub.rd (Addr.FE_CLAMP n) ∧
        (s.hub.bit (Addr.FE_CLAMP_NOW n) c = true → (t.hub.spire n).clampTail.testBit c = true)) ∧
      regsKept (fun a => a == Addr.FE_CLAMP_NOW n || a == Addr.FE_CLAMP n) s t ∧
      (∀ g, g ≠ chNo n c → t.hub.chan g = s.hub.chan g) ∧ (∀ k, k ≠ n.val → t.hub.spire k = s.hub.spire k) ∧
      t = { s with hub := { s.hub with regs := t.hub.regs, chans := t.hub.chans, spires := t.hub.spires } }) ∧
  (∀ (s : State) (n : SpireIx) (c : ChanIx), s.hub.sys.powered = true →
    ∃ t, exec (.clampSuspectEnd n c) s = .next t ∧ onlyRegsSpire (fun _ => false) n s t ∧
      (t.hub.spire n).clampTail.testBit c = false ∧
      (s.hub.rd (Addr.FE_CLAMP_NOW n) = 0#32 → (s.hub.spire n).clampTail = 2 ^ c.val →
        ∀ x, frameOf (s.hub.timeAt s.raw.toNat) * frameU ≤ x → ∀ d, t.hub.clampSuspect n d x = false))

/-- For a CHARGE channel in TRACK, a 1 written to its FE_CHG_RESET bit, under AUTO a code of at least 26 542 in magnitude,
and under PERIODIC a whole multiple of RST_PER ms from the epoch in the present frame, each set the channel's bit and
request a reset; while the channel is in RESET or SETTLE the request of a code or a period changes nothing (it
merges), and so does a period with no multiple in the frame. A FE_CHG_RESET write sets only bits of such channels.
CHARGE_RESET_START with a request moves TRACK to RESET, clears the request bit, sets FE_CHG_RESET_ACT and marks
samples from this frame on; CHARGE_RESET_SWITCH_OPEN moves RESET to SETTLE; CHARGE_RESET_SETTLED moves SETTLE to
TRACK, clears the ACT bit, ends the marks, and queues a deferred test. CHARGE_TEST_DUE on a channel with its test
enabled, on a hub that is not a standby, at its instant epoch + j ms + c x 31.25 us and once in a frame, queues the
test in TRACK where the queue has room and is open, its sample to be held at the next frame instant, and defers it in
RESET and SETTLE. No other channel changes. Where the spec leaves a reading open, the model's is that of log entries
3, 53 and 54. -/
def Obligations.ChargeResets : Prop :=
  (∀ (s : State) (m : MasterIx) (n : SpireIx) (v : Word), s.hub.sys.powered = true →
    s.hub.accessOk m true (Addr.FE_CHG_RESET n) 4 = true →
    ∃ t, exec (.feChgResetWrite m n v) s = .next t ∧ regsKept (fun a => a == Addr.FE_CHG_RESET n) s t ∧
      t.hub.dome = s.hub.dome ∧
      ∀ c : ChanIx, (let asks := v.getLsbD c && decide (s.hub.feMode n c = mCHARGE) && decide ((s.hub.chan (chNo n c)).chg = .track)
        t.hub.bit (Addr.FE_CHG_RESET n) c = (s.hub.bit (Addr.FE_CHG_RESET n) c || asks) ∧
        t.hub.chan (chNo n c) = { s.hub.chan (chNo n c) with chgReq := (s.hub.chan (chNo n c)).chgReq || asks })) ∧
  (∀ (s : State) (n : SpireIx) (c : ChanIx) (code : Int), s.hub.sys.powered = true → s.hub.feMode n c = mCHARGE →
    s.hub.afld (Addr.FE_CFG n c) 9 2 = 1 → (code ≤ -26542 ∨ 26542 ≤ code) → (s.hub.chan (chNo n c)).chg = .track →
    ∃ t, exec (.chargeResetAuto n c code) s = .next t ∧ t.hub.bit (Addr.FE_CHG_RESET n) c = true ∧
      t.hub.chan (chNo n c) = { s.hub.chan (chNo n c) with chgReq := true } ∧
      onlyRegsChan (fun a => a == Addr.FE_CHG_RESET n) (chNo n c) s t) ∧
  (∀ (s : State) (n : SpireIx) (c : ChanIx), s.hub.sys.powered = true → s.hub.feMode n c = mCHARGE →
    s.hub.afld (Addr.FE_CFG n c) 9 2 = 2 → (s.hub.chan (chNo n c)).chg = .track →
    (let f := frameOf (s.hub.timeAt s.raw.toNat)
     let per := s.hub.afld (Addr.FE_AUX n c) 6 16 * msU
     0 < per → (∃ j : Nat, f * frameU ≤ s.hub.epoch n + j * per ∧ s.hub.epoch n + j * per < (f + 1) * frameU) →
     ∃ t, exec (.chargeResetPeriodic n c) s = .next t ∧ t.hub.bit (Addr.FE_CHG_RESET n) c = true ∧
       t.hub.chan (chNo n c) = { s.hub.chan (chNo n c) with chgReq := true } ∧
       onlyRegsChan (fun a => a == Addr.FE_CHG_RESET n) (chNo n c) s t)) ∧
  (∀ (s : State) (n : SpireIx) (c : ChanIx) (code : Int), (s.hub.chan (chNo n c)).chg ≠ .track →
    exec (.chargeResetAuto n c code) s = .next s ∧ exec (.chargeResetPeriodic n c) s = .next s) ∧
  (∀ (s : State) (n : SpireIx) (c : ChanIx),
    (let f := frameOf (s.hub.timeAt s.raw.toNat)
     let per := s.hub.afld (Addr.FE_AUX n c) 6 16 * msU
     (∀ j : Nat, s.hub.epoch n + j * per < f * frameU ∨ (f + 1) * frameU ≤ s.hub.epoch n + j * per) →
     exec (.chargeResetPeriodic n c) s = .next s)) ∧
  (∀ (s : State) (n : SpireIx) (c : ChanIx), s.hub.sys.powered = true → (s.hub.chan (chNo n c)).chg = .track →
    (s.hub.chan (chNo n c)).chgReq = true →
    ∃ t, exec (.chargeResetStart n c) s = .next t ∧ (t.hub.chan (chNo n c)).chg = .reset ∧
      (t.hub.chan (chNo n c)).chgReq = false ∧ t.hub.bit (Addr.FE_CHG_RESET n) c = false ∧
      t.hub.bit (Addr.FE_CHG_RESET_ACT n) c = true ∧
      (∀ x, frameOf (s.hub.timeAt s.raw.toNat) * frameU ≤ x → (t.hub.chanAt n c x).rst = true) ∧
      onlyRegsChan (fun a => a == Addr.FE_CHG_RESET n || a == Addr.FE_CHG_RESET_ACT n) (chNo n c) s t) ∧
  (∀ (s : State) (n : SpireIx) (c : ChanIx), s.hub.sys.powered = true → (s.hub.chan (chNo n c)).chg = .reset →
    ∃ t, exec (.chargeResetSwitchOpen n c) s = .next t ∧
      t.hub.chan (chNo n c) = { s.hub.chan (chNo n c) with chg := .settle } ∧
      onlyRegsChan (fun _ => false) (chNo n c) s t) ∧
  (∀ (s : State) (n : SpireIx) (c : ChanIx), s.hub.sys.powered = true → (s.hub.chan (chNo n c)).chg = .settle →
    ∃ t, exec (.chargeResetSettled n c) s = .next t ∧ (t.hub.chan (chNo n c)).chg = .track ∧
      (t.hub.chan (chNo n c)).ctestDue = false ∧ t.hub.bit (Addr.FE_CHG_RESET_ACT n) c = false ∧
      (∀ x, frameOf (s.hub.timeAt s.raw.toNat) * frameU ≤ x → (t.hub.chanAt n c x).rst = false) ∧
      ((s.hub.chan (chNo n c)).ctestDue = false → onlyRegsChan (fun a => a == Addr.FE_CHG_RESET_ACT n) (chNo n c) s t) ∧
      ((s.hub.chan (chNo n c)).ctestDue = true → s.hub.standby = false → s.hub.fld (Addr.INJ_QUEUE n) 6 2 ≠ 2 →
        (s.hub.spire n).injQ.length < 4 → (t.hub.spire n).injQ = (s.hub.spire n).injQ ++
          [{ who := .ctest c, node := 0, hold := frameAfter (s.hub.timeAt s.raw.toNat) }])) ∧
  (∀ (s : State) (n : SpireIx) (c : ChanIx), s.hub.sys.powered = true → s.hub.feMode n c = mCHARGE →
    s.hub.standby = false → (s.hub.active (Addr.FE_CFG n c)).getLsbD 18 = true →
    (let f := frameOf (s.hub.timeAt s.raw.toNat)
     (∃ j : Nat, f * frameU ≤ s.hub.epoch n + j * msU + c.val * (31250 * nsU) ∧
       s.hub.epoch n + j * msU + c.val * (31250 * nsU) < (f + 1) * frameU) →
     (s.hub.chan (chNo n c)).ctestLast ≠ some f →
     ((s.hub.chan (chNo n c)).chg = .track → s.hub.fld (Addr.INJ_QUEUE n) 6 2 ≠ 2 → (s.hub.spire n).injQ.length < 4 →
       ∃ t, exec (.chargeTestDue n c) s = .next t ∧
         t.hub.chan (chNo n c) = { s.hub.chan (chNo n c) with ctestLast := some f, ctestDue := false } ∧
         t.hub.spire n = { s.hub.spire n with injQ := (s.hub.spire n).injQ ++ [{ who := .ctest c, node := 0, hold := f + 1 }] } ∧
         (∀ g, g ≠ chNo n c → t.hub.chan g = s.hub.chan g) ∧ (∀ k, k ≠ n.val → t.hub.spire k = s.hub.spire k) ∧
         regsKept (fun a => a == Addr.INJ_QUEUE n) s t ∧ t.hub.dome = s.hub.dome) ∧
     ((s.hub.chan (chNo n c)).chg ≠ .track →
       ∃ t, exec (.chargeTestDue n c) s = .next t ∧
         t.hub.chan (chNo n c) = { s.hub.chan (chNo n c) with ctestLast := some f, ctestDue := true } ∧
         onlyRegsChan (fun _ => false) (chNo n c) s t)))

/-- PROBE_BALL_READ takes the oldest converted read of that ball off the injection queue; where the ball has moved by at
least 1.0 V (6 553.6 codes of 5 V / 32 768) from its mean over the last 100 ms, the probe declares a break on a
channel it had declared none on: FE_BREAK and FE_BREAK_NOW show it. CHARGE_TEST_COMPLETE takes the converted test;
FE_CHG_CS shows the capacitance, exact where it is a whole number of pF, and a second test in a row below the
threshold declares a break. Three consecutive frames, none blanked, of low sense with the driver on and force minus
sense not high set FORCE_BREAK; three of high force minus sense set SENSE_BREAK, and the fallback to local sense where
it is enabled; either declares a break on every BRIDGE channel that has none by excitation (which of the two: log
entry 54). BREAK_CLEAR ends the break of a method: FE_BREAK_NOW falls once no other is left, FE_BREAK stays, samples
held after it carry no mark of it, and as many outputs as the filter has stages are still to carry UNSETTLED, beside
those of any clear before. Only those registers, the queue's and the count of dropped event records change among the
registers, and the Dome does not. Where the spec leaves a reading open, the model's is that of log entries 3, 6, 53
and 54. -/
def Obligations.WireBreaks : Prop :=
  (∀ (s : State) (n : SpireIx) (c : ChanIx) (pBall : Bool) (e : InjEntry) (pre post : List InjEntry) (f : Nat) (code : Int),
    s.hub.sys.powered = true → (s.hub.active (Addr.FE_CFG n c)).getLsbD 17 = true → s.hub.standby = false →
    (s.hub.feMode n c = mVDIFF ∨ s.hub.feMode n c = mBRIDGE ∨ s.hub.feMode n c = mTC) →
    (s.hub.spire n).injQ = pre ++ e :: post → e.who = .probe c → e.node = ballNode c pBall → e.codes = [(f, code)] →
    (∀ x ∈ pre, x.who = .probe c → x.node = ballNode c pBall → x.codes = []) →
    (∀ b ∈ (s.hub.chan (chNo n c)).brks, b.1 ≠ .probe) →
    (let same := (s.hub.chan (chNo n c)).probe.filter fun p => decide (e.heldAt ≤ p.1 + 100 * msU) && p.2.1 == pBall
     same ≠ [] ∧ 32768 * (same.length : Int) ≤ 5 * (code * (same.length : Int) - (same.map fun p => p.2.2).sum)) →
    ∃ t, exec (.probeBallRead n c pBall) s = .next t ∧
      (∃ w, (t.hub.chan (chNo n c)).brks = (s.hub.chan (chNo n c)).brks ++ [(.probe, w)]) ∧
      (pre ++ post).isPrefixOf (t.hub.spire n).injQ = true ∧
      t.hub.bit (Addr.FE_BREAK n) c = true ∧ t.hub.bit (Addr.FE_BREAK_NOW n) c = true ∧ t.hub.dome = s.hub.dome ∧
      regsKept (fun a => a == Addr.FE_BREAK n || a == Addr.FE_BREAK_NOW n || a == Addr.LED_EVT_DROP_CNT ||
        a == Addr.INJ_QUEUE n) s t) ∧
  (∀ (s : State) (n : SpireIx) (c : ChanIx) (e : InjEntry) (pre post : List InjEntry) (f0 f1 : Nat) (code0 code1 cs : Int),
    s.hub.sys.powered = true → s.hub.standby = false → (s.hub.spire n).injQ = pre ++ e :: post → e.who = .ctest c →
    e.codes = [(f0, code0), (f1, code1)] → (∀ x ∈ pre, x.who = .ctest c → x.codes.length < 2) →
    ((cfPf (s.hub.afld (Addr.FE_CFG n c) 6 3) : Nat) : Int) * (500 * (code1 - code0) - 32768) = 32768 * cs →
    0 ≤ cs → cs < 65535 →
    ∃ t, exec (.chargeTestComplete n c) s = .next t ∧
      t.hub.rd (Addr.FE_CHG_CS n c) = BitVec.ofInt 32 cs ∧ (pre ++ post).isPrefixOf (t.hub.spire n).injQ = true ∧
      (cs < 10 * (s.hub.afld (Addr.FE_AUX n c) 22 10 : Nat) → (s.hub.chan (chNo n c)).lowTests = 1 →
        (∀ b ∈ (s.hub.chan (chNo n c)).brks, b.1 ≠ .charge) →
        (∃ w, (t.hub.chan (chNo n c)).brks = (s.hub.chan (chNo n c)).brks ++ [(.charge, w)]) ∧
        t.hub.bit (Addr.FE_BREAK n) c = true ∧ t.hub.bit (Addr.FE_BREAK_NOW n) c = true) ∧
      (10 * (s.hub.afld (Addr.FE_AUX n c) 22 10 : Nat) ≤ cs → (t.hub.chan (chNo n c)).lowTests = 0) ∧
      t.hub.dome = s.hub.dome ∧
      regsKept (fun a => a == Addr.FE_BREAK n || a == Addr.FE_BREAK_NOW n || a == Addr.LED_EVT_DROP_CNT ||
        a == Addr.FE_CHG_CS n c || a == Addr.INJ_QUEUE n) s t) ∧
  (∀ (s : State) (n : SpireIx) (force : Bool) (f : Nat) (v : Int) (rest : List (Nat × Int)), s.hub.sys.powered = true →
    (s.hub.spire n).senseRd = (f, v) :: rest → 2 ≤ f →
    (∀ g ∈ [f, f - 1, f - 2], (s.hub.spireAt n (g * frameU)).blankEnd ≤ g * frameU ∧
      (s.hub.spireAt n (g * frameU)).quietEnd ≤ g * frameU ∧ (s.hub.spireAt n (g * frameU)).exc = .on ∧ ∃ x y : Int, readingOf (s.hub.spire n).senseRd g = some x ∧
        readingOf (s.hub.spire n).forceRd g = some y ∧
        (let p := s.hub.polarity n (g * frameU)
         if force then senseLow (s.hub.spireAt n (g * frameU)).level2 (p * x) = true ∧ forceHigh (p * x) (p * y) = false
         else forceHigh (p * x) (p * y) = true)) →
    ∃ t, exec (.excSenseBreak n) s = .next t ∧ t.hub.bit (Addr.EXC_STATUS n) (if force then 5 else 4) = true ∧
      (force = false → s.hub.bit (Addr.EXC_CFG n) 3 = true → t.hub.bit (Addr.EXC_STATUS n) 6 = true) ∧
      ((force = true ∨ s.hub.bit (Addr.EXC_CFG n) 3 = false) →
        t.hub.bit (Addr.EXC_STATUS n) 6 = s.hub.bit (Addr.EXC_STATUS n) 6) ∧
      (∀ c : ChanIx, s.hub.feMode n c = mBRIDGE → (∀ b ∈ (s.hub.chan (chNo n c)).brks, b.1 ≠ .excitation) →
        (∃ w, (t.hub.chan (chNo n c)).brks = (s.hub.chan (chNo n c)).brks ++ [(.excitation, w)]) ∧
        t.hub.bit (Addr.FE_BREAK n) c = true) ∧
      t.hub.dome = s.hub.dome ∧
      regsKept (fun a => a == Addr.EXC_STATUS n || a == Addr.FE_BREAK n || a == Addr.FE_BREAK_NOW n ||
        a == Addr.LED_EVT_DROP_CNT) s t) ∧
  (∀ (s : State) (n : SpireIx) (c : ChanIx) (m : BreakMethod) (w : Nat), s.hub.sys.powered = true →
    (m, w) ∈ (s.hub.chan (chNo n c)).brks →
    ∃ t, exec (.breakClear n c m) s = .next t ∧
      (let rest := (s.hub.chan (chNo n c)).brks.filter fun b => decide (b.1 ≠ m)
       (t.hub.chan (chNo n c)).brks = rest ∧ t.hub.bit (Addr.FE_BREAK_NOW n) c = !rest.isEmpty ∧
       ∀ x, chanSettled n c (s.hub.timeAt s.raw.toNat + 1) x s → (t.hub.chanAt n c x).brk = !rest.isEmpty) ∧
      (t.hub.chan (chNo n c)).repairs = (s.hub.chan (chNo n c)).repairs ++
        [(s.hub.idxAfter n c (s.hub.timeAt s.raw.toNat), s.hub.stages n c)] ∧
      t.hub.dome = s.hub.dome ∧ (∀ g, g ≠ chNo n c → t.hub.chan g = s.hub.chan g) ∧
      regsKept (fun a => a == Addr.FE_BREAK_NOW n || a == Addr.LED_EVT_DROP_CNT) s t)

/-- A permitted write of EXC_CFG with EN from 0 to 1, LEVEL not reserved, in BOOT or IDLE with no plan, on a driver that
is not high impedance, puts the spire in INRUSH_PEND; INRUSH_EXC_ENABLE, in spire order and once the GAP since the
last current step has passed, turns the driver ON and takes it out, and before that changes nothing. A current of 120
mA or more takes ON to LIMIT and counts it; a current below 135 mA takes LIMIT back to ON; 100 ms in LIMIT trip the
driver, set TRIP and log class EXCITATION; writing 1 to TRIP of a tripped driver with EN = 1 clears the bit and waits
for an inrush slot again. A write with EN from 1 to 0 turns the outputs off and withdraws a waiting enable.
REVERSE_NOW is refused under REV_EN and inverts POL otherwise; EXC_REVERSAL under REV_EN, where a reversal instant,
epoch + j x REV_K output periods, lies in the present frame and has not been taken (the next one where the first has),
inverts POL, and from that instant on the polarity of samples and the blank frames of EXC_BLANK; where none lies in
it, it changes nothing. Where the spec leaves a reading open, the model's is that of log entries 3, 30 and 54. -/
def Obligations.ExcitationDriver : Prop :=
  (∀ (s : State) (m : MasterIx) (n : SpireIx) (v : Word), s.hub.sys.powered = true →
    s.hub.accessOk m true (Addr.EXC_CFG n) 4 = true → planOpen s → bitsOf v 0 2 ≠ 3 →
    s.hub.bit (Addr.EXC_CFG n) 2 = false → (s.hub.spire n).exc ≠ .hiz →
    ∃ t, exec (.excEnable m n v) s = .next t ∧ t.hub.bit (Addr.EXC_CFG n) 2 = true ∧
      t.hub.fld (Addr.EXC_CFG n) 0 2 = bitsOf v 0 2 ∧ t.hub.bit Addr.INRUSH_PEND n = true ∧
      (t.hub.spire n).exc = (s.hub.spire n).exc ∧
      regsKept (fun a => a == Addr.EXC_CFG n || a == Addr.INRUSH_PEND) s t ∧ t.hub.dome = s.hub.dome) ∧
  (∀ (s : State) (n : SpireIx), s.hub.sys.powered = true → s.hub.bit Addr.INRUSH_PEND n = true →
    (∀ k, k < n.val → s.hub.bit Addr.INRUSH_PEND k = false) → s.hub.bit (Addr.EXC_CFG n) 2 = true →
    ((s.hub.spire n).exc = .off ∨ (s.hub.spire n).exc = .tripped) →
    (let gap := s.hub.fld Addr.INRUSH_CFG 0 14 * 1000 * nsU
     ((∀ x, s.hub.sys.inrushAt = some x → x + gap ≤ s.raw.toNat) →
       ∃ t, exec (.inrushExcEnable n) s = .next t ∧ (t.hub.spire n).exc = .on ∧ t.hub.bit (Addr.EXC_STATUS n) 0 = true ∧
         t.hub.bit (Addr.EXC_STATUS n) 2 = false ∧ t.hub.bit Addr.INRUSH_PEND n = false ∧
         SMap.get false t.hub.pins.excOut n = true ∧ t.hub.sys.inrushAt = some s.raw.toNat ∧
         regsKept (fun a => a == Addr.EXC_STATUS n || a == Addr.INRUSH_PEND) s t) ∧
     (∀ x, s.hub.sys.inrushAt = some x → s.raw.toNat < x + gap → exec (.inrushExcEnable n) s = .next s))) ∧
  (∀ (s : State) (n : SpireIx) (uA : Nat), s.hub.sys.powered = true → (s.hub.spire n).exc = .on → 120000 ≤ uA →
    ∃ t, exec (.excLimitEnter n uA) s = .next t ∧ (t.hub.spire n).exc = .limit ∧
      t.hub.bit (Addr.EXC_STATUS n) 2 = true ∧ t.hub.bit (Addr.EXC_STATUS n) 0 = true ∧
      t.hub.fld (Addr.EXC_LIMIT_CNT n) 0 16 = min (s.hub.fld (Addr.EXC_LIMIT_CNT n) 0 16 + 1) 65535 ∧
      regsKept (fun a => a == Addr.EXC_STATUS n || a == Addr.EXC_CURRENT n || a == Addr.EXC_LIMIT_CNT n) s t) ∧
  (∀ (s : State) (n : SpireIx) (uA : Nat), s.hub.sys.powered = true → (s.hub.spire n).exc = .limit → uA < 135000 →
    ∃ t, exec (.excLimitExit n uA) s = .next t ∧ (t.hub.spire n).exc = .on ∧ t.hub.bit (Addr.EXC_STATUS n) 2 = false ∧
      t.hub.bit (Addr.EXC_STATUS n) 0 = true ∧ (t.hub.rd (Addr.EXC_CURRENT n)).toNat = uA ∧
      regsKept (fun a => a == Addr.EXC_STATUS n || a == Addr.EXC_CURRENT n) s t) ∧
  (∀ (s : State) (n : SpireIx), s.hub.sys.powered = true → (s.hub.spire n).exc = .limit →
    ∃ t, exec (.excTrip n) s = .next t ∧ (t.hub.spire n).exc = .tripped ∧ t.hub.bit (Addr.EXC_STATUS n) 3 = true ∧
      t.hub.bit (Addr.EXC_STATUS n) 0 = false ∧ SMap.get true t.hub.pins.excOut n = false ∧ logged 13 s t ∧
      regsKept (fun a => a == Addr.EXC_STATUS n || inLog a) s t) ∧
  (∀ (s : State) (m : MasterIx) (n : SpireIx) (v : Word), s.hub.sys.powered = true →
    s.hub.accessOk m true (Addr.EXC_STATUS n) 4 = true → (s.hub.spire n).exc = .tripped →
    s.hub.bit (Addr.EXC_CFG n) 2 = true →
    ∃ t, exec (.excTripRestart m n v) s = .next t ∧ t.hub.bit (Addr.EXC_STATUS n) 3 = false ∧
      t.hub.bit Addr.INRUSH_PEND n = true ∧ (t.hub.spire n).exc = .tripped ∧
      onlyStore m (fun a => a == Addr.EXC_STATUS n || a == Addr.INRUSH_PEND) s t) ∧
  (∀ (s : State) (m : MasterIx) (n : SpireIx) (v : Word), s.hub.sys.powered = true →
    s.hub.accessOk m true (Addr.EXC_CFG n) 4 = true → planOpen s → bitsOf v 0 2 ≠ 3 →
    s.hub.bit (Addr.EXC_CFG n) 2 = true → (s.hub.spire n).exc ≠ .hiz →
    ∃ t, exec (.excDisable m n v) s = .next t ∧ t.hub.bit (Addr.EXC_CFG n) 2 = false ∧ (t.hub.spire n).exc = .off ∧
      t.hub.bit Addr.INRUSH_PEND n = false ∧
      ((s.hub.spire n).exc ≠ .off → t.hub.bit (Addr.EXC_STATUS n) 0 = false ∧ SMap.get true t.hub.pins.excOut n = false) ∧
      regsKept (fun a => a == Addr.EXC_CFG n || a == Addr.EXC_STATUS n || a == Addr.INRUSH_PEND) s t) ∧
  (∀ (s : State) (m : MasterIx) (n : SpireIx) (v : Word), s.hub.sys.powered = true →
    s.hub.accessOk m true (Addr.EXC_CTRL n) 4 = true →
    ∃ t, exec (.reverseNow m n v) s = .next t ∧
      (s.hub.bit (Addr.EXC_CFG n) 5 = true → refusedStore m s t) ∧
      (s.hub.bit (Addr.EXC_CFG n) 5 = false →
        t.hub.bit (Addr.EXC_STATUS n) 1 = !s.hub.bit (Addr.EXC_STATUS n) 1 ∧
        regsKept (fun a => a == Addr.EXC_STATUS n) s t)) ∧
  (∀ (s : State) (n : SpireIx), s.hub.sys.powered = true → s.hub.bit (Addr.EXC_CFG n) 5 = true →
    (let f := frameOf (s.hub.timeAt s.raw.toNat)
     let out := s.hub.filtCfg n (s.hub.fld (Addr.EXC_REV n) 16 5)
     let per := s.hub.fld (Addr.EXC_REV n) 0 16 * (out.ratio * out.period)
     let b := (s.hub.spire n).blankFrom
     (∀ (j : Int) (y : Nat), 0 < per → (y : Int) = (s.hub.epoch n : Int) + j * (per : Int) → f * frameU ≤ y →
       y < (f + 1) * frameU → s.hub.epoch n < (f + 1) * frameU →
       ((y < f * frameU + per ∧ (b ≠ y ∨ (s.hub.spire n).blankEnd = 0)) ∨
        ((s.hub.spire n).blankEnd ≠ 0 ∧ b + per = y ∧ f * frameU ≤ b ∧ b < f * frameU + per)) →
       ∃ t, exec (.excReversal n) s = .next t ∧ t.hub.bit (Addr.EXC_STATUS n) 1 = !s.hub.bit (Addr.EXC_STATUS n) 1 ∧
         (t.hub.spire n).blankFrom = y ∧ (t.hub.spire n).blankEnd = y + s.hub.fld (Addr.EXC_REV n) 21 11 * frameU ∧
         (∀ x, y ≤ x → t.hub.polarity n x = (if s.hub.bit (Addr.EXC_STATUS n) 1 then 1 else -1)) ∧
         onlyRegsSpire (fun a => a == Addr.EXC_STATUS n) n s t) ∧
     ((∀ j : Nat, s.hub.epoch n + j * per < f * frameU ∨ (f + 1) * frameU ≤ s.hub.epoch n + j * per) →
       exec (.excReversal n) s = .next s)))

/-- For every master whose write to EXC_CTRL of a spire is performed, and every word written that has REVERSE_NOW set,
while the spire's REV_EN is 1: the write reports one refused write with status ESTATE and the register's address as
detail, as the first error where none stands, and changes no register outside the error log, no polarity, no driver
and no Dome byte. This holds of the command REVERSE_NOW and of a REGISTER_WRITE to the register alike. -/
def Obligations.ReversalByHandIsRefusedWhileScheduled : Prop :=
  ∀ (s : State) (m : MasterIx) (n : SpireIx) (v : Word) (b : Bool), s.hub.sys.powered = true →
    s.hub.accessOk m true (Addr.EXC_CTRL n) 4 = true → s.hub.bit (Addr.EXC_CFG n) 5 = true → v.getLsbD 0 = true →
    ∃ t, exec (if b then .reverseNow m n v else .registerWrite m (wd (Addr.EXC_CTRL n)) .word v) s = .next t ∧
      refusedStore m s t ∧ (∀ f, t.hub.polarity n f = s.hub.polarity n f) ∧
      t.hub.ctl.elog = (s.hub.refuse s.raw.toNat m (Addr.EXC_CTRL n) ESTATE).ctl.elog ∧
      (s.hub.bit Addr.FIRST_ERR 31 = false →
        t.hub.rd Addr.FIRST_ERR = wd (1 + 256 * ESTATE + 65536 * m.val + 2 ^ 31) ∧
        t.hub.rd Addr.FIRST_DETAIL = wd (Addr.EXC_CTRL n)) ∧
      (s.hub.ctl.elog.entries = [] → s.hub.ctl.elog.queue = [] → ∃ e, t.hub.ctl.elog.queue = [e] ∧ e.cls = 1 ∧
        e.code = ESTATE ∧ e.master = m.val ∧ e.detail = wd (Addr.EXC_CTRL n))

/-- A permitted write of SCHED_CTRL.COMMIT = 1 to a spire with no commit waiting whose written table and delays pass the
check of R103 reports OK with ENTRY 0x3F and keeps a copy of the written SLOT_TBL and APT_CFG to apply; a table that
fails the check reports ESIZE with the entry, channel and reason, and nothing is kept; with a commit waiting it
reports EBUSY. Until SCHED_COMMIT_APPLY the active table stays. SCHED_COMMIT_APPLY makes exactly the 32 kept entries
and delays active, withdraws the waiting commit and shows the table valid; no written copy and no other spire's table
changes. Where the spec leaves a reading open, the model's is that of log entries 3 and 20. -/
def Obligations.SlotTableCommit : Prop :=
  (∀ (s : State) (m : MasterIx) (n : SpireIx) (v : Word), s.hub.sys.powered = true →
    s.hub.accessOk m true (Addr.SCHED_CTRL n) 4 = true → s.hub.bit (Addr.SPIRE_STATUS n) 1 = false →
    s.hub.schedFault n = none →
    ∃ t, exec (.schedCommit m n v) s = .next t ∧ t.hub.rd (Addr.SCHED_STATUS n) = 0x3F00#32 ∧
      t.hub.bit (Addr.SPIRE_STATUS n) 1 = true ∧
      (t.hub.spire n).staged = some { slots := (List.range 32).map fun i => s.hub.rd (Addr.SLOT_TBL n i),
                                      apts := (List.range 32).map fun c => s.hub.rd (Addr.APT_CFG n c) } ∧
      t.hub.act = s.hub.act ∧ t.hub.dome = s.hub.dome ∧
      regsKept (fun a => a == Addr.SCHED_STATUS n || a == Addr.SPIRE_STATUS n) s t) ∧
  (∀ (s : State) (m : MasterIx) (n : SpireIx) (v : Word) (e c why : Nat), s.hub.sys.powered = true →
    s.hub.accessOk m true (Addr.SCHED_CTRL n) 4 = true → s.hub.bit (Addr.SPIRE_STATUS n) 1 = false →
    s.hub.schedFault n = some (e, c, why) →
    ∃ t, exec (.schedCommit m n v) s = .next t ∧
      t.hub.rd (Addr.SCHED_STATUS n) = BitVec.ofNat 32 (ESIZE + 256 * e + 65536 * c + 2 ^ 24 * why) ∧
      onlyStore m (fun a => a == Addr.SCHED_STATUS n) s t) ∧
  (∀ (s : State) (m : MasterIx) (n : SpireIx) (v : Word), s.hub.sys.powered = true →
    s.hub.accessOk m true (Addr.SCHED_CTRL n) 4 = true → s.hub.bit (Addr.SPIRE_STATUS n) 1 = true →
    ∃ t, exec (.schedCommit m n v) s = .next t ∧ t.hub.fld (Addr.SCHED_STATUS n) 0 8 = EBUSY ∧
      onlyStore m (fun a => a == Addr.SCHED_STATUS n) s t) ∧
  (∀ (s : State) (n : SpireIx) (st : SchedStaged), s.hub.sys.powered = true → (s.hub.spire n).staged = some st →
    ∃ t, exec (.schedCommitApply n) s = .next t ∧ (t.hub.spire n).staged = none ∧
      (∀ i, i < 32 → t.hub.active (Addr.SLOT_TBL n i) = st.slots.getD i 0#32 ∧
        t.hub.active (Addr.APT_CFG n i) = st.apts.getD i 0#32 ∧
        t.hub.rd (Addr.SLOT_TBL n i) = s.hub.rd (Addr.SLOT_TBL n i) ∧
        t.hub.rd (Addr.APT_CFG n i) = s.hub.rd (Addr.APT_CFG n i)) ∧
      t.hub.bit (Addr.SPIRE_STATUS n) 0 = true ∧ t.hub.bit (Addr.SPIRE_STATUS n) 1 = false ∧
      (∀ k i, k ≠ n.val → i < 32 → t.hub.active (Addr.SLOT_TBL k i) = s.hub.active (Addr.SLOT_TBL k i)))

/-- Out of BOOT, for a frame not later than the present one in which the spire sampled, with no skew or delay
perturbation: a code of slot 32 is shown in EXC_SENSE, kept with its frame, and is the newest sense reading, times the
polarity outside blank frames; one of slot 33 is shown in EXC_FORCE and kept with its frame; one of slot 34 is added
to the reference average, one of slot 35 in an even frame to the temperature's; one of slots 36 to 39 goes to the
oldest injected conversion queued before the frame that still wants one; a code of slot 35 in an odd frame, and of a
table slot with no valid entry, changes nothing; a code of a table slot that names a channel becomes that channel's
newest raw sample, at the raw index of the frame, with the code and marks that held at its instant, where a run takes
samples of that frame and they are not missing, and else changes nothing. Of a slot of the column an incoming slice
shadows, the pair is counted, unless one is saturated. Otherwise a code changes nothing. REF_CHECK_AVERAGE once 4 096
readings have come in: a mean more than 4 codes from VREF_CAL sets REF_DRIFT, logs class REFERENCE and, with no
request pending and none before, requests a trim for reason REF; within 4 codes only the average starts anew; before
that nothing changes. Where the spec leaves a reading open, the model's is that of log entries 3, 23, 53 and 54. -/
def Obligations.ConversionsReachTheirChannel : Prop :=
  (∀ (s : State) (n : SpireIx) (k : SlotIx) (f : Nat) (code : Int) (pair : Option (Int × Int)),
    (s.hub.mode = .boot ∨ (s.hub.spireAt n (f * frameU)).off = true ∨ frameOf (s.hub.timeAt s.raw.toNat) < f) →
    exec (.rawCodeConvert n k f code pair) s = .next s) ∧
  (∀ (s : State) (n : SpireIx) (k : SlotIx) (f : Nat) (code : Int), s.hub.sys.powered = true → s.hub.mode ≠ .boot →
    (s.hub.spireAt n (f * frameU)).off = false → f ≤ frameOf (s.hub.timeAt s.raw.toNat) → s.hub.bit Addr.TP_SKEW 7 = false →
    (k.val = 32 → s.hub.bit Addr.TP_XDELAY 16 = false → (s.hub.spire n).fifo = [] →
      ∃ t, exec (.rawCodeConvert n k f code none) s = .next t ∧
        t.hub.rd (Addr.EXC_SENSE n) = BitVec.ofNat 32 (unsigned 16 code) ∧
        t.hub.spire n = { s.hub.spire n with senseRd := ((f, code) :: (s.hub.spire n).senseRd).take 8,
                                             sense := s.hub.senseSample n f code :: (s.hub.spire n).sense } ∧
        ((s.hub.spireAt n (f * frameU)).blankEnd ≤ f * frameU →
          (s.hub.senseSample n f code).code = s.hub.polarity n (f * frameU) * code) ∧
        onlyRegsSpire (fun a => a == Addr.EXC_SENSE n) n s t) ∧
    (k.val = 33 → ∃ t, exec (.rawCodeConvert n k f code none) s = .next t ∧
      t.hub.rd (Addr.EXC_FORCE n) = BitVec.ofNat 32 (unsigned 16 code) ∧
      t.hub.spire n = { s.hub.spire n with forceRd := ((f, code) :: (s.hub.spire n).forceRd).take 8 } ∧
      onlyRegsSpire (fun a => a == Addr.EXC_FORCE n) n s t) ∧
    (k.val = 34 → ∃ t, exec (.rawCodeConvert n k f code none) s = .next t ∧
      t.hub.spire n = { s.hub.spire n with refSum := (s.hub.spire n).refSum + code, refCount := (s.hub.spire n).refCount + 1 } ∧
      onlyRegsSpire (fun _ => false) n s t) ∧
    (k.val = 35 → f % 2 = 0 → ∃ t, exec (.rawCodeConvert n k f code none) s = .next t ∧
      t.hub.spire n = { s.hub.spire n with tempSum := (s.hub.spire n).tempSum + code, tempCount := (s.hub.spire n).tempCount + 1 } ∧
      onlyRegsSpire (fun _ => false) n s t) ∧
    (36 ≤ k.val → ∀ (pre post : List InjEntry) (e : InjEntry), (s.hub.spire n).injQ = pre ++ e :: post →
      (∀ x ∈ pre, x.converts f = false) → e.hold ≤ f → (∀ p ∈ e.codes, p.1 ≠ f) → e.codes.length < e.needs →
      ∃ t, exec (.rawCodeConvert n k f code none) s = .next t ∧
        t.hub.spire n = { s.hub.spire n with injQ := pre ++ { e with codes := e.codes ++ [(f, code)] } :: post } ∧
        (∀ c : ChanIx, e.who = .ctest c → e.codes = [] → (t.hub.chan (chNo n c)).ctestAt = some f) ∧
        (∀ j, j ≠ n.val → t.hub.spire j = s.hub.spire j) ∧ t.hub.regs = s.hub.regs ∧ t.hub.dome = s.hub.dome) ∧
    (((k.val = 35 ∧ f % 2 = 1) ∨ (k.val < 32 ∧ s.hub.slotEntry n k = none)) →
      exec (.rawCodeConvert n k f code none) s = .next s) ∧
    (∀ (c : Nat) (b : Bool), k.val < 32 → s.hub.slotEntry n k = some (c, b) → s.hub.bit Addr.TP_XDELAY 16 = false →
      (s.hub.spire n).fifo = [] → s.hub.acquires f = true → s.hub.missingAt n c (s.hub.heldAt n c f b) = false →
      (s.hub.chan (chNo n c)).cIdx = none →
      ∃ t, exec (.rawCodeConvert n k f code none) s = .next t ∧
        (t.hub.chan (chNo n c)).raw =
          s.hub.rawSample n c f (s.hub.heldAt n c f b) (s.hub.idxOf n c f + (if s.hub.wide n c && b then 1 else 0)) code ::
            (s.hub.chan (chNo n c)).raw ∧
        (∀ g, g ≠ chNo n c → (t.hub.chan g).raw = (s.hub.chan g).raw) ∧
        ((s.hub.filtCfg n c).tap = false → onlyRegsChan (fun a => a == Addr.FE_OVR n) (chNo n c) s t)) ∧
    (∀ (c : Nat) (b : Bool), k.val < 32 → s.hub.slotEntry n k = some (c, b) →
      (s.hub.acquires f = false ∨ s.hub.missingAt n c (s.hub.heldAt n c f b) = true) →
      exec (.rawCodeConvert n k f code none) s = .next s) ∧
    (∀ (o i : Int), s.hub.rotState n = rotSHADOW → s.hub.target n = k.val / 8 →
      (s.hub.spire n).cmpFrom ≤ s.hub.convFrame n k f → s.hub.convFrame n k f < (s.hub.spire n).cmpFrom + 256 →
      ∃ t, exec (.rawCodeConvert n k f code (some (o, i))) s = .next t ∧
        (if saturated16 o || saturated16 i then
          (t.hub.spire n).cmpPairs = (s.hub.spire n).cmpPairs ∧ (t.hub.spire n).cmpSum = (s.hub.spire n).cmpSum ∧
          (t.hub.spire n).cmpPeak = (s.hub.spire n).cmpPeak
        else
          (t.hub.spire n).cmpPairs = (s.hub.spire n).cmpPairs + 1 ∧
          (t.hub.spire n).cmpSum = (s.hub.spire n).cmpSum + (i - o) ∧
          (t.hub.spire n).cmpPeak = max (s.hub.spire n).cmpPeak (i - o).natAbs) ∧
        (∀ j, j ≠ n.val → t.hub.spire j = s.hub.spire j) ∧ t.hub.dome = s.hub.dome)) ∧
  (∀ (s : State) (n : SpireIx), s.hub.sys.powered = true →
    (let cal : Int := vrefNominal + signed 16 (s.hub.fld (Addr.VREF_CAL n) 0 16)
     let k := (s.hub.spire n).refCount
     let far : Prop := 64 * k < (16 * (s.hub.spire n).refSum - cal * (k : Int)).natAbs
     ((k < 4096 ∨ s.hub.sampling n = false) → exec (.refCheckAverage n) s = .next s) ∧
     (s.hub.sampling n = true → 4096 ≤ k →
       ∃ t, exec (.refCheckAverage n) s = .next t ∧ (t.hub.spire n).refSum = 0 ∧ (t.hub.spire n).refCount = 0 ∧
         (far → t.hub.bit (Addr.SPIRE_STATUS n) 4 = true ∧ logged 11 s t ∧
           (s.hub.bit (Addr.SPIRE_STATUS n) 4 = false → s.hub.trimState n = trimNONE →
             t.hub.trimState n = trimPENDING ∧ t.hub.fld (Addr.TRIM_STATUS n) 2 3 = 2 ∧
             t.hub.bit Addr.CALC_TRIM_PEND n = true) ∧
           regsKept (fun a => a == Addr.SPIRE_STATUS n || a == Addr.TRIM_STATUS n || a == Addr.CALC_TRIM_PEND || inLog a) s t) ∧
         (¬far → onlyRegsSpire (fun _ => false) n s t))))

/-- A permitted write of INJ_REQ naming a reserved node (0x4A or above) ends at once with ERANGE and DONE in the master's
INJ_RES. With the master's last request done, the queue open, fewer than 4 entries and fewer than 2 external ones, it
enters the queue and PENDING shows. With the queue closed or full it ends with EBUSY and DONE and is counted in
INJ_BUSY_CNT. With the master's own request still pending it is only counted. INTERNAL_INJ_REQUEST enters an open
queue with room and otherwise waits; of a hub that stands by it does nothing. A sample is to be held at the first
frame instant after its entry was queued. INJ_COMPLETE of the oldest converted entry of a master removes it, and shows
the code with DONE, no PENDING and status OK, OVR where it is saturated, and the nanoseconds of that frame instant.
Where the spec leaves a reading open, the model's is that of log entry 3. -/
def Obligations.InjectedConversions : Prop :=
  (∀ (s : State) (m : MasterIx) (n : SpireIx) (v : Word), s.hub.sys.powered = true →
    s.hub.accessOk m true (Addr.INJ_REQ n) 4 = true →
    ∃ t, exec (.injReq m n v) s = .next t ∧ t.hub.dome = s.hub.dome ∧
      (0x4A ≤ bitsOf v 0 7 → t.hub.fld (Addr.INJ_RES n m) 16 8 = ERANGE ∧ t.hub.bit (Addr.INJ_RES n m) 24 = true ∧
        onlyStore m (fun a => a == Addr.INJ_RES n m) s t) ∧
      (bitsOf v 0 7 < 0x4A → s.hub.bit (Addr.INJ_RES n m) 25 = true →
        t.hub.fld (Addr.INJ_BUSY_CNT n) 0 16 = min (s.hub.fld (Addr.INJ_BUSY_CNT n) 0 16 + 1) 65535 ∧
        onlyStore m (fun a => a == Addr.INJ_BUSY_CNT n) s t) ∧
      (bitsOf v 0 7 < 0x4A → s.hub.bit (Addr.INJ_RES n m) 25 = false →
        (s.hub.bit (Addr.INJ_QUEUE n) 5 = true ∨ 4 ≤ (s.hub.spire n).injQ.length ∨ 2 ≤ s.hub.fld (Addr.INJ_QUEUE n) 3 2) →
        t.hub.fld (Addr.INJ_RES n m) 16 8 = EBUSY ∧ t.hub.bit (Addr.INJ_RES n m) 24 = true ∧
        t.hub.fld (Addr.INJ_BUSY_CNT n) 0 16 = min (s.hub.fld (Addr.INJ_BUSY_CNT n) 0 16 + 1) 65535 ∧
        onlyStore m (fun a => a == Addr.INJ_RES n m || a == Addr.INJ_BUSY_CNT n) s t) ∧
      (bitsOf v 0 7 < 0x4A → s.hub.bit (Addr.INJ_RES n m) 25 = false → s.hub.bit (Addr.INJ_QUEUE n) 5 = false →
        (s.hub.spire n).injQ.length < 4 → s.hub.fld (Addr.INJ_QUEUE n) 3 2 < 2 →
        t.hub.bit (Addr.INJ_RES n m) 25 = true ∧ t.hub.bit (Addr.INJ_RES n m) 24 = false ∧
        (t.hub.spire n).injQ = (s.hub.spire n).injQ ++
          [{ who := .ext m, node := bitsOf v 0 7, hold := frameAfter (s.hub.timeAt s.raw.toNat) }] ∧
        regsKept (fun a => a == Addr.INJ_RES n m || a == Addr.INJ_QUEUE n) s t)) ∧
  (∀ (s : State) (n : SpireIx) (who : InjWho) (node : Nat), s.hub.sys.powered = true → s.hub.standby = false →
    ∃ t, exec (.internalInjRequest n who node) s = .next t ∧ onlyRegsSpire (fun a => a == Addr.INJ_QUEUE n) n s t ∧
      (if s.hub.fld (Addr.INJ_QUEUE n) 6 2 = 2 ∨ 4 ≤ (s.hub.spire n).injQ.length then
        t.hub.spire n = { s.hub.spire n with injWait := (s.hub.spire n).injWait ++ [{ who := who, node := node }] }
      else t.hub.spire n = { s.hub.spire n with injQ := (s.hub.spire n).injQ ++
          [{ who := who, node := node, hold := frameAfter (s.hub.timeAt s.raw.toNat) }] } ∧
        t.hub.fld (Addr.INJ_QUEUE n) 0 3 = (s.hub.spire n).injQ.length + 1)) ∧
  (∀ (s : State) (n : SpireIx) (who : InjWho) (node : Nat), s.hub.standby = true → (∀ m, who ≠ .ext m) →
    exec (.internalInjRequest n who node) s = .next s) ∧
  (∀ (s : State) (n : SpireIx) (m : MasterIx) (e : InjEntry) (pre post : List InjEntry) (f : Nat) (code : Int),
    s.hub.sys.powered = true → (s.hub.spire n).injQ = pre ++ e :: post → e.who = .ext m → e.codes = [(f, code)] →
    (∀ x ∈ pre, ∀ k, x.who = .ext k → x.codes = []) → (s.hub.spire n).injWait = [] → -32768 ≤ code → code ≤ 32767 →
    ∃ t, exec (.injComplete n) s = .next t ∧ (t.hub.spire n).injQ = pre ++ post ∧
      signed 16 (t.hub.fld (Addr.INJ_RES n m) 0 16) = code ∧ t.hub.fld (Addr.INJ_RES n m) 16 8 = OK ∧
      t.hub.bit (Addr.INJ_RES n m) 24 = true ∧ t.hub.bit (Addr.INJ_RES n m) 25 = false ∧
      (t.hub.bit (Addr.INJ_RES n m) 26 = true ↔ code = 32767 ∨ code = -32768) ∧
      (t.hub.rd (Addr.INJ_TIME n m)).toNat = 80 * e.hold % 1000000000 ∧
      regsKept (fun a => a == Addr.INJ_RES n m || a == Addr.INJ_TIME n m || a == Addr.INJ_QUEUE n) s t)

/-- SPARE_CAL_START after boot calibration starts the calibration of the spare in CAL. SLICE_CAL_COMPLETE with values
inside the limits of Solve writes the spare's 32 coefficients and goes to SHADOW under ROT_EN, its window opening at
the next frame boundary, else to PARKED; ROT_ENABLE takes a PARKED spire to SHADOW. SWAP_COMPARE_DONE in SHADOW, the
256 frames of the window over, goes to VERDICT, and before that changes nothing: with fewer than 1 024 pairs the
verdict is NODATA, with a mean above the tolerance MEAN, with a peak above the tolerance PEAK, else PASS.
SWAP_VERDICT, no verdict forced: PASS for the house column goes to DRAIN and for another to GAP_WAIT and clears the
aborts in a row; NODATA returns to SHADOW; MEAN and PEAK abort: below the abort limit the spare is calibrated again
and the abort counted and logged in class SWAP, at the limit the rotation is STALLED. DRAIN_QUEUE_CLOSE with no
external entry pending closes the queue and goes to GAP_WAIT; DRAIN_FORCED closes it and says so. SLICE_SWAP exchanges
the spare and the slice of the target column, counts the swap, clears FORCED and turns to the next column. Where the
spec leaves a reading open, the model's is that of log entries 3, 6, 24 and 54. -/
def Obligations.SliceRotation : Prop :=
  (∀ (s : State) (n : SpireIx), s.hub.sys.powered = true → s.hub.bit Addr.CALC_STATUS 0 = true → s.hub.rotState n = rotCAL →
    s.hub.bit (Addr.ROT_STATUS n) (9 + s.hub.spare n) = false →
    ∃ t, exec (.spareCalStart n) s = .next t ∧ (t.hub.spire n).calRunning = true ∧ onlyRegsSpire (fun _ => false) n s t) ∧
  (∀ (s : State) (n : SpireIx) (ofs gain inl : Int) (coef : List Word), s.hub.sys.powered = true →
    s.hub.rotState n = rotCAL → (s.hub.spire n).calRunning = true → s.hub.bit (Addr.SPIRE_STATUS n) 2 = false →
    solveOk ofs gain inl = true →
    ∃ t, exec (.sliceCalComplete n ofs gain inl coef) s = .next t ∧
      (∀ k, k < 32 → t.hub.rd (Addr.SLICE_COEF n (s.hub.spare n) k) = coef.getD k 0#32) ∧
      t.hub.rotState n = (if s.hub.bit (Addr.ROT_CFG n) 0 then rotSHADOW else rotPARKED) ∧
      (t.hub.spire n).calRunning = false ∧
      (s.hub.bit (Addr.ROT_CFG n) 0 = true → (t.hub.spire n).cmpFrom = frameAfter (s.hub.timeAt s.raw.toNat) ∧
        (t.hub.spire n).cmpPairs = 0) ∧
      (∀ sl k, sl < 6 → sl ≠ s.hub.spare n → k < 32 →
        t.hub.rd (Addr.SLICE_COEF n sl k) = s.hub.rd (Addr.SLICE_COEF n sl k))) ∧
  (∀ (s : State) (m : MasterIx) (n : SpireIx) (v : Word), s.hub.sys.powered = true →
    s.hub.accessOk m true (Addr.ROT_CFG n) 4 = true → planOpen s → bitsOf v 8 4 ≠ 0 → bitsOf v 16 8 ≠ 0 →
    ∃ t, exec (.rotEnable m n v) s = .next t ∧ t.hub.bit (Addr.ROT_CFG n) 0 = true ∧
      t.hub.fld (Addr.ROT_CFG n) 8 4 = bitsOf v 8 4 ∧ t.hub.fld (Addr.ROT_CFG n) 16 8 = bitsOf v 16 8 ∧
      t.hub.rotState n = (if s.hub.rotState n = rotPARKED then rotSHADOW else s.hub.rotState n) ∧
      (s.hub.rotState n = rotPARKED → (t.hub.spire n).cmpFrom = frameAfter (s.hub.timeAt s.raw.toNat) ∧
        (t.hub.spire n).cmpPairs = 0) ∧
      (s.hub.rotState n ≠ rotPARKED → onlyStore m (fun a => a == Addr.ROT_CFG n) s t) ∧
      (∀ k, k ≠ n.val → t.hub.spire k = s.hub.spire k) ∧ t.hub.dome = s.hub.dome ∧
      regsKept (fun a => a == Addr.ROT_CFG n || a == Addr.ROT_STATUS n) s t) ∧
  (∀ (s : State) (n : SpireIx), frameOf (s.hub.timeAt s.raw.toNat) < (s.hub.spire n).cmpFrom + 256 →
    exec (.swapCompareDone n) s = .next s) ∧
  (∀ (s : State) (n : SpireIx), s.hub.sys.powered = true → s.hub.rotState n = rotSHADOW →
    s.hub.bit (Addr.SPIRE_STATUS n) 2 = false → (s.hub.spire n).cmpFrom + 256 ≤ frameOf (s.hub.timeAt s.raw.toNat) →
    ∃ t, exec (.swapCompareDone n) s = .next t ∧ t.hub.rotState n = rotVERDICT ∧
      (let x := s.hub.spire n
       t.hub.fld (Addr.SWAP_RESULT n) 24 3 =
         (if x.cmpPairs < 1024 then 3 else if s.hub.fld (Addr.SWAP_TOL n) 0 8 * x.cmpPairs < x.cmpSum.natAbs then 1
          else if s.hub.fld (Addr.SWAP_TOL n) 16 8 * 16 < x.cmpPeak then 2 else 0) ∧
       (0 < x.cmpPairs → x.cmpSum % (x.cmpPairs : Int) = 0 →
         t.hub.fld (Addr.SWAP_RESULT n) 0 16 = unsigned 16 (x.cmpSum / (x.cmpPairs : Int)))) ∧
      regsKept (fun a => a == Addr.SWAP_RESULT n || a == Addr.ROT_STATUS n) s t ∧ t.hub.dome = s.hub.dome) ∧
  (∀ (s : State) (n : SpireIx), s.hub.sys.powered = true → s.hub.rotState n = rotVERDICT →
    s.hub.bit (Addr.SPIRE_STATUS n) 2 = false → s.hub.bit Addr.TP_SWAPFAIL 18 = false →
    ∃ t, exec (.swapVerdict n) s = .next t ∧
      (s.hub.fld (Addr.SWAP_RESULT n) 24 3 = 0 → t.hub.fld (Addr.ROT_STATUS n) 15 4 = 0 ∧
        t.hub.rotState n = (if s.hub.fld (Addr.ROT_STATUS n) 3 3 = 4 then rotDRAIN else rotGAPWAIT)) ∧
      (s.hub.fld (Addr.SWAP_RESULT n) 24 3 = 3 → t.hub.rotState n = rotSHADOW) ∧
      ((s.hub.fld (Addr.SWAP_RESULT n) 24 3 = 1 ∨ s.hub.fld (Addr.SWAP_RESULT n) 24 3 = 2) → logged 10 s t ∧
        (s.hub.fld (Addr.ROT_STATUS n) 15 4 + 1 < s.hub.fld (Addr.ROT_CFG n) 8 4 →
          t.hub.rotState n = rotCAL ∧ t.hub.fld (Addr.ROT_STATUS n) 15 4 = s.hub.fld (Addr.ROT_STATUS n) 15 4 + 1 ∧
          (t.hub.spire n).calRunning = true) ∧
        (s.hub.fld (Addr.ROT_CFG n) 8 4 ≤ s.hub.fld (Addr.ROT_STATUS n) 15 4 + 1 →
          t.hub.rotState n = rotSTALLED ∧ t.hub.bit (Addr.SPIRE_STATUS n) 5 = true)) ∧
      regsKept (fun a => a == Addr.ROT_STATUS n || a == Addr.SWAP_ABORT_CNT n || a == Addr.SPIRE_STATUS n || inLog a) s t) ∧
  (∀ (s : State) (n : SpireIx), s.hub.sys.powered = true → s.hub.rotState n = rotDRAIN → s.hub.fld (Addr.INJ_QUEUE n) 3 2 = 0 →
    ∃ t, exec (.drainQueueClose n) s = .next t ∧ t.hub.rotState n = rotGAPWAIT ∧
      (s.hub.fld (Addr.INJ_QUEUE n) 6 2 ≠ 2 → t.hub.bit (Addr.INJ_QUEUE n) 5 = true ∧ t.hub.fld (Addr.INJ_QUEUE n) 6 2 = 1) ∧
      onlyRegs (fun a => a == Addr.ROT_STATUS n || a == Addr.INJ_QUEUE n || a == Addr.SPIRE_STATUS n) s t) ∧
  (∀ (s : State) (n : SpireIx), s.hub.sys.powered = true → s.hub.rotState n = rotDRAIN →
    ∃ t, exec (.drainForced n) s = .next t ∧ t.hub.rotState n = rotDRAIN ∧ t.hub.bit (Addr.ROT_STATUS n) 19 = true ∧
      (s.hub.fld (Addr.INJ_QUEUE n) 6 2 ≠ 2 → t.hub.bit (Addr.INJ_QUEUE n) 5 = true) ∧
      onlyRegs (fun a => a == Addr.ROT_STATUS n || a == Addr.INJ_QUEUE n || a == Addr.SPIRE_STATUS n) s t) ∧
  (∀ (s : State) (n : SpireIx) (col : Nat), s.hub.sys.powered = true → s.hub.sys.swapAt = none → s.hub.swapDue n = true →
    (∀ k, k < n.val → s.hub.swapDue k = false) → s.hub.target n = col → col < 5 →
    ∃ t, exec (.sliceSwap n) s = .next t ∧ t.hub.sliceOf n col = s.hub.spare n ∧ t.hub.spare n = s.hub.sliceOf n col ∧
      (∀ c, c < 5 → c ≠ col → t.hub.sliceOf n c = s.hub.sliceOf n c) ∧ t.hub.target n = (col + 1) % 5 ∧
      t.hub.rotState n = rotCAL ∧ t.hub.bit (Addr.ROT_STATUS n) 19 = false ∧ t.hub.rd (Addr.SWAP_CNT n) = s.hub.rd (Addr.SWAP_CNT n) + 1#32 ∧
      (t.hub.spire n).calRunning = true ∧ t.hub.dome = s.hub.dome)

/-- A permitted write of FI_CTRL.COMMIT = 1 in BOOT or IDLE with no plan, with no commit waiting and no fault in any
channel, reports OK, keeps a copy of every written filter register and leaves the active ones; with a fault, the first
channel that fails is reported with its status and reason and nothing is kept; with a commit waiting it reports EBUSY.
FILTER_COMMIT_APPLY makes every kept value active and no other, withdraws the waiting commit, and keeps the written
registers. A permitted write of a user curve's word in BOOT or IDLE with no plan stores it (of ATTR its three bits),
unless the curve would be VALID against the conditions of R93, or Y_UNIT 2 or 3 (which no rule refuses: the model's
choice of log entry 54): then it is refused; a reserved word takes nothing; in ARMED, RUN and SHADOW the write is
refused. Where the spec leaves a reading open, the model's is that of log entries 3, 21 and 54. -/
def Obligations.FilterCommit : Prop :=
  (∀ (s : State) (m : MasterIx) (n : SpireIx) (v : Word), s.hub.sys.powered = true →
    s.hub.accessOk m true (Addr.FI_CTRL n) 4 = true → planOpen s →
    ∃ t, exec (.filterCommit m n v) s = .next t ∧ t.hub.act = s.hub.act ∧ t.hub.dome = s.hub.dome ∧
      regsKept (fun a => a == Addr.FI_COMMIT_STATUS n || a == Addr.FI_STATUS n) s t ∧
      (s.hub.bit (Addr.FI_STATUS n) 0 = true → t.hub.fld (Addr.FI_COMMIT_STATUS n) 0 8 = EBUSY ∧
        t.hub.filt n = s.hub.filt n) ∧
      (s.hub.bit (Addr.FI_STATUS n) 0 = false → (∀ c, c < 32 → filtFault s.hub n c = none) →
        t.hub.rd (Addr.FI_COMMIT_STATUS n) = 0#32 ∧ t.hub.bit (Addr.FI_STATUS n) 0 = true ∧
        ∃ l, (t.hub.filt n).staged = some l ∧ ∀ c a, c < 32 → a ∈ filtRegs n c → (a, s.hub.rd a) ∈ l) ∧
      (∀ c st why, c < 32 → s.hub.bit (Addr.FI_STATUS n) 0 = false → (∀ d, d < c → filtFault s.hub n d = none) →
        filtFault s.hub n c = some (st, why) →
        t.hub.rd (Addr.FI_COMMIT_STATUS n) = BitVec.ofNat 32 (st + 256 * c + 65536 * why) ∧
        t.hub.filt n = s.hub.filt n)) ∧
  (∀ (s : State) (n : SpireIx) (l : List (Nat × Word)), s.hub.sys.powered = true → (s.hub.filt n).staged = some l →
    (l.map Prod.fst).Nodup →
    ∃ t, exec (.filterCommitApply n) s = .next t ∧ (t.hub.filt n).staged = none ∧
      t.hub.bit (Addr.FI_STATUS n) 0 = false ∧ (∀ p ∈ l, t.hub.active p.1 = p.2) ∧
      (∀ a, a ∉ l.map Prod.fst → t.hub.active a = s.hub.active a) ∧
      (∀ c a, c < 32 → a ∈ filtRegs n c → t.hub.rd a = s.hub.rd a)) ∧
  (∀ (s : State) (m : MasterIx) (n : SpireIx) (k : CurveIx) (w : CurveWordIx) (v : Word), s.hub.sys.powered = true →
    (let base := userCurveBase n (32 + k.val)
     let a := base + 4 * w.val
     let u := if w.val = 2 then v &&& 7#32 else v
     let h := s.hub.wr a u
     let broken := (w.val = 2 ∧ 2 ≤ bitsOf v 1 2) ∨ (h.bit (base + 8) 0 = true ∧ userCurveOk h.rd base = false)
     s.hub.accessOk m true a 4 = true → ∃ t, exec (.userCurveWrite m n k w v) s = .next t ∧
       (planOpen s → w.val = 3 ∨ 260 ≤ w.val → onlyStore m (fun _ => false) s t) ∧
       (planOpen s → w.val ≠ 3 → w.val < 260 → ¬broken → t.hub.rd a = u ∧ onlyStore m (fun x => x == a) s t) ∧
       (planOpen s → w.val ≠ 3 → w.val < 260 → broken → refusedStore m s t) ∧
       ((s.hub.mode = .armed ∨ s.hub.mode = .run ∨ s.hub.mode = .shadow) → refusedStore m s t)))

/-- In a run, with the codes of the spire all in the island: once T has reached the instant of the last raw index of the
channel's next window, FILTER_OUTPUT makes the output of that index, at the instant and in the format the active
registers give. Where the window holds no present raw sample the output carries HOLE and ABSENT and no other flag, and
both are counted. Where it holds one, the output carries no ABSENT, carries HOLE exactly where the weight of the
present samples is below its full value, and BREAK, for a channel other than a BRIDGE, exactly where a present sample
does; its value is the formatted result of Hub.outputCore, which without a curve is the mean of the present samples
(the weighted sum over the weight, rounded to binary64) taken through the trims that held at the instant of the last
index and the USER stage, and of a BRIDGE that divided by the sense voltage, or 0 with SUSPECT where that is below 10
% of the level; the flags are those of that result, OVR where the format limits it, and UNSETTLED after a repair or a
clearing of the paths. Before that instant, and out of a run, no output is made. Other channels keep their outputs.
Where the spec leaves a reading open, the model's is that of log entries 3, 7, 53 and 54. -/
def Obligations.FilterOutputs : Prop :=
  (∀ (s : State) (n : SpireIx) (c : ChanIx), s.hub.sys.powered = true → s.hub.running = true →
    (s.hub.spire n).fifo = [] →
    ∃ t, exec (.filterOutput n c) s = .next t ∧
      (let f := s.hub.filtCfg n c
       let x := s.hub.chan (chNo n c)
       let j : Int := (x.nextK : Int) + x.jShift
       let due := f.rawInstant (s.hub.epoch n) (f.winStart j + (f.span : Nat) + (f.cdelay : Nat)) ≤ s.hub.timeAt s.raw.toNat
       (due → ∃ o : Output, (t.hub.chan (chNo n c)).outs = o :: x.outs ∧ (t.hub.chan (chNo n c)).nextK = x.nextK + 1 ∧
          o.k = x.nextK ∧ o.instant = f.instant (s.hub.epoch n) j ∧ o.fmt = s.hub.afld (Addr.FCH_CFG n c) 8 2 ∧
          o.lsb = signed 8 (s.hub.afld (Addr.FCH_DELAY n c) 16 8) ∧
          (let a := f.winStart j
           let w := windowOf x.raw a (a + (f.span : Nat))
           let b := s.hub.idxHeld n c (a + (f.span : Nat))
           let core := s.hub.outputCore n c b a o.instant w
           let q := formatValue o.fmt o.lsb core.2.2.1 core.1
           let m := s.hub.chanAt n c b
           let mode := bitsOf m.cfg 0 3
           let y := s.hub.userStage n c
             (trimStage (ofFrac b64 (f.sums a w).1 (f.sums a w).2) m.ofs m.gain m.codeUnit)
           let sense := (s.hub.spireAt n b).senseVolts f a (s.hub.senseWindow n c w)
           let low := FP.lt sense.abs (ofFrac b64 (s.hub.spireAt n b).level2 20)
           w ≠ [] →
            o.flags.testBit 7 = false ∧ o.flags.testBit 3 = decide ((f.sums a w).2 < f.fullWeight) ∧
            o.flags = core.2.1 ||| (if q.2 then 1 else 0) |||
              (if (x.repairs.any fun p => decide (p.1 ≤ a)) || (x.cIdx.any fun i => decide (a < i)) then 4 else 0) ∧
            o.value = packWord o.fmt q.1 o.flags ∧
            (mode ≠ mBRIDGE → o.flags.testBit 5 = w.any (·.brk)) ∧
            (s.hub.afld (Addr.FCH_CFG n c) 10 6 = 0 →
              core.1 = (if mode ≠ mBRIDGE then y else if low then .fin false 0 0 else FP.div b64 y sense)) ∧
            (mode = mBRIDGE → low = true → o.flags.testBit 1 = true ∧ t.hub.bit (Addr.FI_STATUS n) 2 = true)) ∧
          (windowOf x.raw (f.winStart j) (f.winStart j + (f.span : Nat)) = [] →
            o.flags = 136 ∧ t.hub.rd (Addr.FI_HOLE_CNT n) =
                BitVec.ofNat 32 (min ((s.hub.rd (Addr.FI_HOLE_CNT n)).toNat + 1) (2 ^ 32 - 1)) ∧
              t.hub.rd (Addr.FI_ABSENT_CNT n) =
                BitVec.ofNat 32 (min ((s.hub.rd (Addr.FI_ABSENT_CNT n)).toNat + 1) (2 ^ 32 - 1)))) ∧
       (¬ due → t.hub.chan (chNo n c) = x ∧ t.hub.regs = s.hub.regs)) ∧
      (∀ g, g ≠ chNo n c → (t.hub.chan g).outs = (s.hub.chan g).outs) ∧ t.hub.dome = s.hub.dome) ∧
  (∀ (s : State) (n : SpireIx) (c : ChanIx), s.hub.sys.powered = true → s.hub.running = false →
    (s.hub.spire n).fifo = [] →
    ∃ t, exec (.filterOutput n c) s = .next t ∧ t.hub.chan (chNo n c) = s.hub.chan (chNo n c) ∧
      t.hub.regs = s.hub.regs)

/-- With EN = 1, a new crossing in QUIET starts a hit at the present sample with one count, and is counted in SEN_HIT_CNT;
it goes to the capture engine's FIFO while fewer than 64 hits wait there, else it is lost and counted in SEN_LOST_CNT,
and HIT_LOST_LOG logs the oldest lost hit once the FIFO has room. With every fast-tap sample taken up to the present
frame, of missing raw samples too, each after what the one before it brought about, and the detector still in that
state, SEN_HDT samples without a crossing, or 2^20 samples, end the hit in LOCKOUT; SEN_HLT samples after it LOCKOUT
ends in QUIET. Other channels keep their state. Where the spec leaves a reading open, the model's is that of log
entries 3, 6 and 22. -/
def Obligations.SentryHits : Prop :=
  (∀ (s : State) (n : SpireIx) (c : ChanIx), s.hub.sys.powered = true → (s.hub.chan (chNo n c)).sen.st = .quiet →
    s.hub.bit (Addr.SEN_CFG n c) 0 = true → (s.hub.chan (chNo n c)).sen.cross = true →
    (s.hub.chan (chNo n c)).sen.prev = false →
    ∃ t, exec (.sentryHitStart n c) s = .next t ∧ (t.hub.chan (chNo n c)).sen.st = .hit ∧
      (t.hub.chan (chNo n c)).sen.hit.counts = 1 ∧
      (t.hub.chan (chNo n c)).sen.hit.start = (s.hub.chan (chNo n c)).sen.at ∧
      (t.hub.chan (chNo n c)).sen.hit.peak = (s.hub.chan (chNo n c)).sen.dev ∧
      t.hub.rd (Addr.SEN_HIT_CNT n c) = s.hub.rd (Addr.SEN_HIT_CNT n c) + 1#32 ∧
      ((s.hub.filt n).hits.length < 64 →
        (t.hub.filt n).hits = (s.hub.filt n).hits ++ [(chNo n c, (t.hub.chan (chNo n c)).sen.hit.startTime)] ∧
        (t.hub.filt n).lost = (s.hub.filt n).lost) ∧
      (64 ≤ (s.hub.filt n).hits.length → (t.hub.filt n).hits = (s.hub.filt n).hits ∧
        t.hub.fld (Addr.SEN_LOST_CNT n) 0 16 = min (s.hub.fld (Addr.SEN_LOST_CNT n) 0 16 + 1) 65535) ∧
      (∀ g, g ≠ chNo n c → t.hub.chan g = s.hub.chan g) ∧ t.hub.dome = s.hub.dome ∧
      regsKept (fun a => a == Addr.SEN_HIT_CNT n c || a == Addr.SEN_LOST_CNT n) s t) ∧
  (∀ (s : State) (n : SpireIx) (g t0 : Nat) (rest : List (Nat × Nat)), s.hub.sys.powered = true →
    (s.hub.filt n).lost = (g, t0) :: rest → (s.hub.filt n).hits.length < 64 →
    ∃ t, exec (.hitLostLog n) s = .next t ∧ (t.hub.filt n).lost = rest ∧
      t.hub.rd (Addr.CAPE_REASON_CNT HIT_LOST) = s.hub.rd (Addr.CAPE_REASON_CNT HIT_LOST) + 1#32 ∧
      t.hub.fld (Addr.CAPE_LOG_INFO (s.hub.fld Addr.CAPE_LOG_HEAD 0 8)) 9 10 = g % 1024 ∧ t.hub.dome = s.hub.dome) ∧
  (∀ (s : State) (n : SpireIx) (c : ChanIx), s.hub.sys.powered = true →
    (let x := ((s.hub.senHole n c (frameOf (s.hub.timeAt s.raw.toNat))).chan (chNo n c)).sen
     x.st = .hit ∧ (s.hub.fld (Addr.SEN_HDT n c) 0 20 : Int) ≤ x.at - x.hit.lastCross) →
    ∃ t, exec (.sentryHitEnd n c) s = .next t ∧ (t.hub.chan (chNo n c)).sen.st = .lockout ∧
      (∀ g, g ≠ chNo n c → t.hub.chan g = s.hub.chan g) ∧ t.hub.dome = s.hub.dome ∧
      regsKept (fun a => a == Addr.LED_EVT_DROP_CNT || a == Addr.SEN_NOISE n c || a == Addr.SEN_HIT_CNT n c ||
        a == Addr.SEN_LOST_CNT n) s t) ∧
  (∀ (s : State) (n : SpireIx) (c : ChanIx), s.hub.sys.powered = true →
    (let x := ((s.hub.senHole n c (frameOf (s.hub.timeAt s.raw.toNat))).chan (chNo n c)).sen
     x.st = .hit ∧ 1048576 ≤ x.at - x.hit.start) →
    ∃ t, exec (.sentryHitLong n c) s = .next t ∧ (t.hub.chan (chNo n c)).sen.st = .lockout ∧
      (∀ g, g ≠ chNo n c → t.hub.chan g = s.hub.chan g) ∧ t.hub.dome = s.hub.dome ∧
      regsKept (fun a => a == Addr.LED_EVT_DROP_CNT || a == Addr.SEN_NOISE n c || a == Addr.SEN_HIT_CNT n c ||
        a == Addr.SEN_LOST_CNT n) s t) ∧
  (∀ (s : State) (n : SpireIx) (c : ChanIx), s.hub.sys.powered = true →
    (let x := ((s.hub.senHole n c (frameOf (s.hub.timeAt s.raw.toNat))).chan (chNo n c)).sen
     x.st = .lockout ∧ (s.hub.fld (Addr.SEN_HLT n c) 0 20 : Int) ≤ x.at - (x.hit.lastCross + (s.hub.fld (Addr.SEN_HDT n c) 0 20 : Nat))) →
    ∃ t, exec (.sentryLockoutEnd n c) s = .next t ∧ (t.hub.chan (chNo n c)).sen.st = .quiet ∧
      (∀ g, g ≠ chNo n c → t.hub.chan g = s.hub.chan g) ∧ t.hub.dome = s.hub.dome ∧
      regsKept (fun a => a == Addr.LED_EVT_DROP_CNT || a == Addr.SEN_NOISE n c || a == Addr.SEN_HIT_CNT n c ||
        a == Addr.SEN_LOST_CNT n) s t)

/-- TEMP_UPDATE after readings whose mean is whole writes it to TEMP_NOW and starts the sum anew; with no reading it keeps
TEMP_NOW; out of BOOT, with no trim pending, automatic trims on and the mean at least TRIM_DELTA from TEMP_LAST_TRIM,
the spire's trim becomes PENDING for reason TEMP. DIE_TEMP_READ after the PLL's lock shows the reading.
TRIM_HOLD_MAX_REACHED of a request pending for HOLD_MAX seconds sets FORCED, and before that changes nothing.
TRIM_EVALUATION with Belfry running, no trim issued or active, the spacing over and the window open, issues the chosen
request: the spire is ISSUED and shown as the present one, TEMP_LAST_TRIM takes TEMP_NOW and the injection queue
closes; with a trim issued or active, or Belfry in its restart, nothing changes. TRIM_START with the queue empty makes
it ACTIVE. TRIM_END before the 5 000 frames of the trim are over changes nothing; after them, no TRIM_NOW having
arrived meanwhile and no other spire pending, ends it with status NONE, writes the measured values of every channel
within the limits and marks the others failed. Where the spec leaves a reading open, the model's is that of log
entries 3, 25, 53 and 54. -/
def Obligations.TrimScheduling : Prop :=
  (∀ (s : State) (n : SpireIx) (q : Int), s.hub.sys.powered = true → 0 < (s.hub.spire n).tempCount →
    (s.hub.spire n).tempSum = q * ((s.hub.spire n).tempCount : Int) → -32768 ≤ q → q ≤ 32767 →
    ∃ t, exec (.tempUpdate n) s = .next t ∧ (t.hub.spire n).tempSum = 0 ∧ (t.hub.spire n).tempCount = 0 ∧
      signed 16 (t.hub.fld (Addr.TEMP_NOW n) 0 16) = q ∧
      (s.hub.mode ≠ .boot → s.hub.trimState n = trimNONE → s.hub.bit Addr.CALC_TRIM_CFG 19 = true →
        (s.hub.fld Addr.CALC_TRIM_CFG 0 9 : Int) ≤ (q - signed 16 (s.hub.fld (Addr.TEMP_LAST_TRIM n) 0 16)).natAbs →
        t.hub.trimState n = trimPENDING ∧ t.hub.fld (Addr.TRIM_STATUS n) 2 3 = 1 ∧ t.hub.bit Addr.CALC_TRIM_PEND n = true) ∧
      onlyRegsSpire (fun a => a == Addr.TEMP_NOW n || a == Addr.TRIM_STATUS n || a == Addr.CALC_TRIM_PEND) n s t) ∧
  (∀ (s : State) (n : SpireIx), s.hub.sys.powered = true → (s.hub.spire n).tempCount = 0 →
    ∃ t, exec (.tempUpdate n) s = .next t ∧ t.hub.rd (Addr.TEMP_NOW n) = s.hub.rd (Addr.TEMP_NOW n)) ∧
  (∀ (s : State) (v : Word), s.hub.sys.powered = true → s.hub.sys.pllLocked = true →
    ∃ t, exec (.dieTempRead v) s = .next t ∧ t.hub.rd Addr.CALC_DIE_TEMP = v &&& 0xFFFF#32 ∧
      onlyRegs (fun a => a == Addr.CALC_DIE_TEMP) s t) ∧
  (∀ (s : State) (n : SpireIx), s.hub.sys.powered = true → s.hub.trimState n = trimPENDING →
    (s.hub.spire n).trimAt + s.hub.fld Addr.CALC_TRIM_CFG 9 10 * secU ≤ s.hub.timeAt s.raw.toNat →
    ∃ t, exec (.trimHoldMaxReached n) s = .next t ∧ t.hub.bit (Addr.TRIM_STATUS n) 5 = true ∧
      t.hub.trimState n = trimPENDING ∧ onlyRegs (fun a => a == Addr.TRIM_STATUS n) s t) ∧
  (∀ (s : State) (n : SpireIx),
    s.hub.timeAt s.raw.toNat < (s.hub.spire n).trimAt + s.hub.fld Addr.CALC_TRIM_CFG 9 10 * secU →
    exec (.trimHoldMaxReached n) s = .next s) ∧
  (∀ (s : State) (n : Nat), s.hub.sys.powered = true → n < 16 → s.hub.ctl.belfryHeld = false →
    (∀ k, k < 16 → s.hub.trimState k ≠ trimISSUED ∧ s.hub.trimState k ≠ trimACTIVE) →
    s.hub.trimSpaced (s.hub.timeAt s.raw.toNat) = true → s.hub.trimWindow (s.hub.timeAt s.raw.toNat) = true →
    s.hub.trimChoice = some n →
    ∃ t, exec .trimEvaluation s = .next t ∧ t.hub.trimState n = trimISSUED ∧ t.hub.fld Addr.CALC_STATUS 3 5 = n ∧
      t.hub.fld (Addr.TEMP_LAST_TRIM n) 0 16 = s.hub.fld (Addr.TEMP_NOW n) 0 16 ∧
      t.hub.bit (Addr.INJ_QUEUE n) 5 = true ∧ t.hub.fld (Addr.INJ_QUEUE n) 6 2 = 2 ∧
      (∀ k, k < 16 → k ≠ n → t.hub.trimState k = s.hub.trimState k) ∧ t.hub.dome = s.hub.dome) ∧
  (∀ (s : State) (n : SpireIx),
    (s.hub.trimState n = trimISSUED ∨ s.hub.trimState n = trimACTIVE ∨ s.hub.ctl.belfryHeld = true) →
    exec .trimEvaluation s = .next s) ∧
  (∀ (s : State) (n : SpireIx), s.hub.sys.powered = true → s.hub.trimState n = trimISSUED → (s.hub.spire n).injQ = [] →
    ∃ t, exec (.trimStart n) s = .next t ∧ t.hub.trimState n = trimACTIVE ∧ t.hub.bit (Addr.SPIRE_STATUS n) 2 = true ∧
      t.hub.sys.trimLast = some (s.hub.timeAt s.raw.toNat) ∧
      (s.hub.rotState n = rotVERDICT → t.hub.rotState n = rotSHADOW) ∧
      regsKept (fun a => a == Addr.TRIM_STATUS n || a == Addr.SPIRE_STATUS n || a == Addr.ROT_STATUS n) s t) ∧
  (∀ (s : State) (n : SpireIx) (v : TrimResult), s.hub.sys.powered = true → s.hub.trimState n = trimACTIVE →
    (∀ x, s.hub.sys.trimLast = some x → frameOf x + 5000 ≤ frameOf (s.hub.timeAt s.raw.toNat)) →
    (s.hub.spire n).trimNow = false → (∀ k, k < 16 → k ≠ n.val → s.hub.trimState k = trimNONE) →
    ∃ t, exec (.trimEnd n v) s = .next t ∧ t.hub.trimState n = trimNONE ∧ t.hub.bit (Addr.SPIRE_STATUS n) 2 = false ∧
      t.hub.rd (Addr.TRIM_CNT n) = s.hub.rd (Addr.TRIM_CNT n) + 1#32 ∧
      t.hub.rd (Addr.SNS_TRIM_OFS n) = v.snsOfs ∧ t.hub.rd (Addr.SNS_TRIM_GAIN n) = v.snsGain ∧
      t.hub.rd (Addr.VREF_CAL n) = v.vref &&& 0xFFFF#32 ∧
      (∀ c, c < 32 → trimOk (v.chans.getD c (0#32, 0#32, 0#32)).1 (v.chans.getD c (0#32, 0#32, 0#32)).2.1 = true →
        t.hub.rd (Addr.TRIM_OFS n c) = (v.chans.getD c (0#32, 0#32, 0#32)).1 ∧
        t.hub.rd (Addr.TRIM_GAIN n c) = (v.chans.getD c (0#32, 0#32, 0#32)).2.1 ∧
        t.hub.bit (Addr.TRIM_FAIL_MASK n) c = false) ∧
      (∀ c, c < 32 → trimOk (v.chans.getD c (0#32, 0#32, 0#32)).1 (v.chans.getD c (0#32, 0#32, 0#32)).2.1 = false →
        t.hub.rd (Addr.TRIM_OFS n c) = s.hub.rd (Addr.TRIM_OFS n c) ∧ t.hub.bit (Addr.TRIM_FAIL_MASK n) c = true)) ∧
  (∀ (s : State) (n : SpireIx) (v : TrimResult) (x : Nat), s.hub.sys.trimLast = some x →
    frameOf (s.hub.timeAt s.raw.toNat) < frameOf x + 5000 → exec (.trimEnd n v) s = .next s)

/-- BOOT_CAL_COMPLETE once the firmware runs and the PLL has locked, in BOOT and once only, lets IDLE wait for the next
frame boundary, and PEND shows it; with no configuration left to write from the boot image, CALC.STATUS says
calibrated and BOOT_FAIL names a spire whose Sn_VREF was more than 1 % off, a slice of which failed Solve's limits
twice, or a front-end entry of which was outside the limits of a trim. CAL_SAVE out of BOOT with no save or restore in
progress is taken, shows SAVE_BUSY and waits; one while another is in progress is answered EBUSY, and one with another
argument ERANGE, as SAVE_STATUS says. CAL_SAVE_SNAPSHOT with no trim active writes the save block's bytes at its place
and no byte outside it, ends SAVE_BUSY and answers OK. CAL_RESTORE of a block that passes the checks of R165 waits,
keeping the values to restore; of one that fails it is answered with the status of the first check that fails.
CAL_RESTORE_APPLY with no trim active writes every value kept, but to the coefficients of present spares, and answers
OK. Where the spec leaves a reading open, the model's is that of log entries 3, 26, 46 and 53. -/
def Obligations.CalibrationStore : Prop :=
  (∀ (s : State) (b : BootCal), s.hub.sys.powered = true → s.hub.mode = .boot →
    s.hub.firmware = true → s.hub.sys.pllLocked = true → s.hub.bit Addr.CALC_STATUS 0 = false →
    ∃ t, exec (.bootCalComplete b) s = .next t ∧ t.hub.bit Addr.SYS_MODE 3 = true ∧
      (∃ x, t.hub.sys.modeNext = some (.idle, x)) ∧
      (s.hub.sys.image = [] → t.hub.mode = .boot ∧
        t.hub.sys.modeNext = some (.idle, nextFrame (s.hub.timeAt s.raw.toNat)) ∧ t.hub.bit Addr.CALC_STATUS 0 = true ∧ ∀ n : SpireIx,
        ((∃ x ∈ b.refs, x.1 = n ∧ vrefNominal < 100 * (x.2.natAbs : Int)) ∨
         (∃ x ∈ b.slices, x.1 = n ∧ solveOk x.2.2.1.ofs x.2.2.1.gain x.2.2.1.inl = false ∧
           solveOk x.2.2.2.ofs x.2.2.2.gain x.2.2.2.inl = false) ∨
         (∃ x ∈ b.table, x.1 = n ∧ trimOk x.2.2.2.1 x.2.2.2.2 = false) ∨ s.hub.bit Addr.CALC_BOOT_FAIL n = true) ↔
          t.hub.bit Addr.CALC_BOOT_FAIL n = true)) ∧
  (∀ (s : State) (ch : BoxIx) (a : Nat), commandWaits ch 0x23 a s → s.hub.mode ≠ .boot → a ≠ 0 →
    ∃ t, exec (.calSave ch) s = .next t ∧ answered ch ERANGE 0 s t ∧ t.hub.fld Addr.CALC_SAVE_STATUS 0 8 = ERANGE ∧
      t.hub.dome = s.hub.dome) ∧
  (∀ (s : State) (ch : BoxIx), commandWaits ch 0x23 0 s → s.hub.mode ≠ .boot →
    ∃ t, exec (.calSave ch) s = .next t ∧ t.hub.dome = s.hub.dome ∧
      (s.hub.calBusy = false → inFlight ch t ∧ t.hub.sys.calSave = some ch.val ∧ t.hub.bit Addr.CALC_STATUS 2 = true) ∧
      (s.hub.calBusy = true → answered ch EBUSY 0 s t ∧ t.hub.fld Addr.CALC_SAVE_STATUS 0 8 = EBUSY)) ∧
  (∀ (s : State) (ch : BoxIx), s.hub.sys.powered = true → s.hub.sys.calSave = some ch.val → s.hub.noTrimActive = true →
    s.hub.ctl.belfryHeld = false →
    ∃ t, exec .calSaveSnapshot s = .next t ∧ t.hub.sys.calSave = none ∧ t.hub.bit Addr.CALC_STATUS 2 = false ∧
      t.hub.fld Addr.CALC_SAVE_STATUS 0 8 = OK ∧
      (∀ i, i < (s.hub.saveBlock (s.hub.timeAt s.raw.toNat)).length →
        some (t.hub.domeByte (saveBase + i)) = (s.hub.saveBlock (s.hub.timeAt s.raw.toNat))[i]?) ∧
      (∀ a, a < saveBase ∨ saveBase + (s.hub.saveBlock (s.hub.timeAt s.raw.toNat)).length ≤ a →
        t.hub.domeByte a = s.hub.domeByte a)) ∧
  (∀ (s : State) (ch : BoxIx), commandWaits ch 0x24 0 s → (s.hub.mode = .idle ∨ s.hub.mode = .service) →
    ∃ t, exec (.calRestore ch) s = .next t ∧ t.hub.dome = s.hub.dome ∧
      (s.hub.restoreFault = none → s.hub.calBusy = false →
        inFlight ch t ∧ t.hub.sys.calRestore = some ch.val ∧ t.hub.sys.calImage = s.hub.restoreValues) ∧
      (∀ st, s.hub.restoreFault = some st → answered ch st 0 s t ∧ t.hub.fld Addr.CALC_SAVE_STATUS 8 8 = st % 256)) ∧
  (∀ (s : State) (ch : BoxIx), s.hub.sys.powered = true → s.hub.sys.calRestore = some ch.val → s.hub.noTrimActive = true →
    s.hub.ctl.belfryHeld = false → (s.hub.sys.calImage.map Prod.fst).Nodup →
    (∀ p ∈ s.hub.sys.calImage, 0x41003000 ≤ p.1 ∧ p.1 < 0x41100000 ∧ 0x3000 ≤ p.1 % 0x10000 ∧
      ∀ n, p.1 ≠ Addr.TRIM_STATUS n) →
    ∃ t, exec .calRestoreApply s = .next t ∧ t.hub.sys.calRestore = none ∧ t.hub.fld Addr.CALC_SAVE_STATUS 8 8 = OK ∧
      (∀ p ∈ s.hub.sys.calImage, (∀ n k, n < 16 → k < 32 → p.1 ≠ Addr.SLICE_COEF n (s.hub.spare n) k) →
        t.hub.rd p.1 = p.2) ∧
      t.hub.dome = s.hub.dome)

/-- A write of SERVO_CTRL by BELFRY or JTAG of kind RATE, or of kind STEP or SET where no aperture matters, with a rate
within 500 ppm, valid SET words and no commit staged, reports OK and stages the commit with the values staged, for the
first whole nanosecond of RAW at least 4 ns on. STEP and SET in ARMED, RUN, SHADOW, or SERVICE with a plan running
report ESTATE; a rate beyond 500 ppm or invalid SET words report ERANGE; an earlier commit still staged gives EBUSY;
each of them changes nothing but the status. A write by another master is not performed and is logged in class ACCESS.
SERVO_COMMIT_APPLY of a staged commit whose instant of RAW has come, with the rate within 500 ppm, ends the staging
and the pending bit and puts the rate in force, with GRID_FREQ the rate quantised to 2^-32, a tie rounding upward.
Network time at that instant of RAW is as before for a RATE commit, moved by the step, modulo the range of instants,
for a STEP commit, and the instant given for a SET commit; STEP and SET start a grid alignment (no alarm being armed
in them). Before that instant nothing changes. A read of TIME_NOW gives its master the low word of network time, and
keeps T and RAW for it, at a RAW within the present nanosecond. Where the spec leaves a reading open, the model's is
that of log entries 3 and 27. -/
def Obligations.ServoCommits : Prop :=
  (∀ (s : State) (m : MasterIx) (v : Word) (k : Fin 3), s.hub.sys.powered = true → (m.val = 0 ∨ m.val = 8) →
    s.hub.accessOk m true Addr.SERVO_CTRL 4 = true →
    ∃ t, exec (match k with | 0 => .servoCommitRate m v | 1 => .servoCommitStep m v | _ => .servoCommitSet m v) s = .next t ∧
      regsKept (fun a => a == Addr.SERVO_STATUS) s t ∧ t.hub.dome = s.hub.dome ∧ t.raw = s.raw ∧
      (k ≠ 0 → s.hub.timeFixed = true →
        t.hub.fld Addr.SERVO_STATUS 0 8 = ESTATE ∧ t.hub.lan.staged = s.hub.lan.staged) ∧
      ((k = 0 ∨ s.hub.timeFixed = false) →
        (140737488355 < s.hub.servoRate.natAbs ∨
          999999999 < kxNs (s.hub.rd Addr.SERVO_SET0) (s.hub.rd Addr.SERVO_SET1) (s.hub.rd Addr.SERVO_SET2) →
          t.hub.fld Addr.SERVO_STATUS 0 8 = ERANGE ∧ t.hub.lan.staged = s.hub.lan.staged) ∧
        (s.hub.servoRate.natAbs ≤ 140737488355 →
          kxNs (s.hub.rd Addr.SERVO_SET0) (s.hub.rd Addr.SERVO_SET1) (s.hub.rd Addr.SERVO_SET2) ≤ 999999999 →
          (s.hub.lan.staged ≠ none →
            t.hub.fld Addr.SERVO_STATUS 0 8 = EBUSY ∧ t.hub.lan.staged = s.hub.lan.staged) ∧
          (s.hub.lan.staged = none → t.hub.fld Addr.SERVO_STATUS 0 8 = OK ∧ t.hub.bit Addr.SERVO_STATUS 8 = true ∧
            ∃ c : ServoStaged, t.hub.lan.staged = some c ∧ c.rate = s.hub.servoRate ∧ c.step = s.hub.servoStep ∧
              c.set = s.hub.instAt Addr.SERVO_SET0 ∧
              c.kind = (match k with | 0 => ServoKind.rate | 1 => ServoKind.step | _ => ServoKind.set) ∧
              s.raw.toNat + 4 * 65536 ≤ c.rc ∧ c.rc < s.raw.toNat + 5 * 65536 ∧ c.rc % 65536 = 0)))) ∧
  (∀ (s : State) (m : MasterIx) (v : Word) (k : Fin 3), s.hub.sys.powered = true → m.val ≠ 0 → m.val ≠ 8 →
    ∃ t, exec (match k with | 0 => .servoCommitRate m v | 1 => .servoCommitStep m v | _ => .servoCommitSet m v) s = .next t ∧
      logged 0 s t ∧ regsKept inLog s t ∧ t.hub.lan = s.hub.lan ∧ t.hub.dome = s.hub.dome) ∧
  (∀ (s : State) (c : ServoStaged), s.hub.sys.powered = true → s.hub.lan.staged = some c → c.rc ≤ s.raw.toNat →
    c.rate.natAbs ≤ 140737488355 →
    (c.kind = .rate ∨ ∀ a, a < 16 → s.hub.armed a = false) →
    ∃ t, exec .servoCommitApply s = .next t ∧ t.hub.lan.staged = none ∧ t.hub.bit Addr.SERVO_STATUS 8 = false ∧
      t.hub.rate = c.rate ∧ (t.hub.rd Addr.GRID_FREQ).toInt = (c.rate + 2 ^ 15) / 2 ^ 16 ∧ t.raw = s.raw ∧ t.hub.dome = s.hub.dome ∧
      (c.kind = .rate → t.hub.timeAt c.rc = s.hub.timeAt c.rc) ∧
      (c.kind = .step → (t.hub.timeAt c.rc : Int) = ((s.hub.timeAt c.rc : Int) + c.step) % (kxMod : Int) ∧
        t.hub.bit Addr.GRID_STATUS 2 = true) ∧
      (c.kind = .set → c.set < kxMod → t.hub.timeAt c.rc = c.set ∧ t.hub.bit Addr.GRID_STATUS 2 = true)) ∧
  (∀ (s : State) (c : ServoStaged), s.hub.sys.powered = true → s.hub.lan.staged = some c → s.raw.toNat < c.rc →
    exec .servoCommitApply s = .next s) ∧
  (∀ (s : State) (m : MasterIx), s.hub.sys.powered = true → s.hub.accessOk m false Addr.TIME_NOW0 4 = true →
    ∃ t r, exec (.timeNowRead m) s = .next t ∧ s.raw.toNat ≤ r ∧ r < s.raw.toNat + 65536 ∧
      SMap.get 0#32 t.hub.ctl.readData m = kxWord (s.hub.timeAt r) 0 ∧
      SMap.get (0, 0) t.hub.lan.snaps m = (s.hub.timeAt r, r) ∧ t.hub.regs = s.hub.regs ∧
      t.hub.dome = s.hub.dome)

/-- REFCLK_LOSS shows no lock, the loss and holdover of the PLL, makes the time state FREE and logs class TIME;
REFCLK_RETURN ends the holdover. SERVO_MEASUREMENT with a measurement, a source and no commit staged, Belfry running,
uses it once: with the measured offset, less what the hub's own commits changed since, it stages a RATE commit within
500 ppm where that is within 1 microsecond or time is fixed, else a STEP commit; in HOLDOVER an offset within the
threshold makes the state LOCKED and one beyond it FREE; FREE becomes LOCKED with the measurement that is the
LOCK_COUNT-th in a row within the threshold, and LOCKED becomes FREE, logged, with the fourth in a row beyond eight
times the threshold. Without a measurement nothing changes. TIME_HOLDOVER_ENTER three intervals after the last
measurement takes LOCKED to HOLDOVER; HOLDOVER_TIMEOUT after HOLD_MAX takes HOLDOVER to FREE and logs it. TIME_SOURCE
by command with an enabled source is answered OK and TIME_SRC names it, and a measurement of another source still
unused is dropped; PTP with no uplink enabled is answered ESTATE and changes no source; by a permitted write the
register takes the source. GRID_PHASE_MEASURE after the PLL's lock shows the error and the largest magnitude; an error
beyond 1 ns sets the fault bit, and logs class GRID where no entry was made within the last second, and only then.
REALIGN in BOOT, IDLE, and SERVICE without a plan starts an alignment: the grid is not aligned until
GRID_ALIGN_COMPLETE; in every other mode it is refused and logged. Where the spec leaves a reading open, the model's
is that of log entries 3, 8 and 27. -/
def Obligations.TimeSourcesAndTheGrid : Prop :=
  (∀ s : State, s.hub.sys.powered = true →
    ∃ t, exec .refclkLoss s = .next t ∧ t.hub.bit Addr.LAN_STATUS 0 = false ∧ t.hub.bit Addr.LAN_STATUS 1 = true ∧
      t.hub.bit Addr.LAN_STATUS 2 = true ∧ t.hub.timeState = 0 ∧ t.hub.tstate = 0 ∧ logged 15 s t ∧ t.raw = s.raw ∧
      regsKept (fun a => a == Addr.LAN_STATUS || a == Addr.TIME_STATE || inLog a) s t) ∧
  (∀ s : State, s.hub.sys.powered = true → s.hub.bit Addr.LAN_STATUS 2 = true →
    ∃ t, exec .refclkReturn s = .next t ∧ t.hub.bit Addr.LAN_STATUS 2 = false ∧
      t.hub.bit Addr.LAN_STATUS 0 = s.hub.sys.pllLocked ∧ onlyRegs (fun a => a == Addr.LAN_STATUS) s t) ∧
  (∀ (s : State) (m : Meas) (theta : Int), s.hub.sys.powered = true → s.hub.lan.meas = some m →
    s.hub.fld Addr.TIME_SRC 0 2 ≠ 0 → s.hub.ctl.belfryHeld = false → s.hub.lan.staged = none →
    m.theta * 65536 + ((s.hub.timeAt s.raw.toNat : Int) - m.clock.time s.raw.toNat) * 1000 = theta * 65536 →
    ∃ t, exec .servoMeasurement s = .next t ∧ t.hub.dome = s.hub.dome ∧ t.hub.lan.meas = none ∧
      t.hub.lan.measAt = s.raw.toNat ∧
      (∃ c, t.hub.lan.staged = some c ∧ c.rate.natAbs ≤ max 140737488355 s.hub.rate.natAbs ∧
        (theta.natAbs ≤ 1000000 ∨ s.hub.timeFixed = true → c.kind = .rate ∧ c.rate.natAbs ≤ 140737488355) ∧
        (1000000 < theta.natAbs → s.hub.timeFixed = false → c.kind = .step)) ∧
      (s.hub.timeState = 2 →
        t.hub.timeState = (if theta.natAbs ≤ 10 * s.hub.fld Addr.LOCK_CFG 0 16 then 1 else 0)) ∧
      (s.hub.timeState = 0 →
        (theta.natAbs ≤ 10 * s.hub.fld Addr.LOCK_CFG 0 16 → s.hub.lan.good + 1 < s.hub.fld Addr.LOCK_CFG 16 8 →
          t.hub.timeState = 0 ∧ t.hub.lan.good = s.hub.lan.good + 1) ∧
        (theta.natAbs ≤ 10 * s.hub.fld Addr.LOCK_CFG 0 16 → s.hub.fld Addr.LOCK_CFG 16 8 ≤ s.hub.lan.good + 1 →
          t.hub.timeState = 1) ∧
        (10 * s.hub.fld Addr.LOCK_CFG 0 16 < theta.natAbs → 0 < s.hub.fld Addr.LOCK_CFG 16 8 →
          t.hub.timeState = 0 ∧ t.hub.lan.good = 0)) ∧
      (s.hub.timeState = 1 →
        (theta.natAbs ≤ 80 * s.hub.fld Addr.LOCK_CFG 0 16 → t.hub.timeState = 1 ∧ t.hub.lan.bad = 0) ∧
        (80 * s.hub.fld Addr.LOCK_CFG 0 16 < theta.natAbs → s.hub.lan.bad < 3 →
          t.hub.timeState = 1 ∧ t.hub.lan.bad = s.hub.lan.bad + 1) ∧
        (80 * s.hub.fld Addr.LOCK_CFG 0 16 < theta.natAbs → 3 ≤ s.hub.lan.bad → t.hub.timeState = 0 ∧ logged 15 s t)) ∧
      regsKept (fun a => a == Addr.SERVO_STATUS || a == Addr.TIME_STATE || inLog a) s t) ∧
  (∀ s : State, s.hub.lan.meas = none ∨ s.hub.lan.staged ≠ none ∨ s.hub.ctl.belfryHeld = true →
    exec .servoMeasurement s = .next s) ∧
  (∀ s : State, s.hub.sys.powered = true → s.hub.timeState = 1 →
    s.hub.lan.measAt + 3 * measInterval (s.hub.fld Addr.TIME_SRC 0 2) ≤ s.raw.toNat →
    ∃ t, exec .timeHoldoverEnter s = .next t ∧ t.hub.timeState = 2 ∧ t.hub.lan.holdStart = s.raw.toNat ∧
      regsKept (fun a => a == Addr.TIME_STATE) s t ∧ t.hub.dome = s.hub.dome) ∧
  (∀ s : State, s.hub.sys.powered = true → s.hub.timeState = 2 →
    s.hub.lan.holdStart + s.hub.fld Addr.HOLD_MAX 0 16 * secU ≤ s.raw.toNat →
    ∃ t, exec .holdoverTimeout s = .next t ∧ t.hub.timeState = 0 ∧ t.hub.tstate = 0 ∧ logged 15 s t ∧
      regsKept (fun a => a == Addr.TIME_STATE || inLog a) s t) ∧
  (∀ (s : State) (ch : BoxIx) (src : Nat), commandWaits ch 0x52 src s → s.hub.mode ≠ .boot → src ≤ 3 →
    (src = 2 → s.hub.uplinkEnabled = true) →
    ∃ t, exec (.timeSource (.command ch)) s = .next t ∧ answered ch OK 0 s t ∧ t.hub.fld Addr.TIME_SRC 0 2 = src ∧
      (src ≠ s.hub.fld Addr.TIME_SRC 0 2 → t.hub.lan.meas = none)) ∧
  (∀ (s : State) (ch : BoxIx), commandWaits ch 0x52 2 s → s.hub.mode ≠ .boot → s.hub.uplinkEnabled = false →
    ∃ t, exec (.timeSource (.command ch)) s = .next t ∧ answered ch ESTATE s.hub.mode.code s t ∧
      t.hub.rd Addr.TIME_SRC = s.hub.rd Addr.TIME_SRC ∧
      t.hub.fld Addr.SYS_CMD_REJECT 0 16 = min (s.hub.fld Addr.SYS_CMD_REJECT 0 16 + 1) 65535) ∧
  (∀ (s : State) (m : MasterIx) (v : Word), s.hub.sys.powered = true → s.hub.accessOk m true Addr.TIME_SRC 4 = true →
    (bitsOf v 0 2 = 2 → s.hub.uplinkEnabled = true) →
    ∃ t, exec (.timeSource (.write m v)) s = .next t ∧ t.hub.fld Addr.TIME_SRC 0 2 = bitsOf v 0 2 ∧
      regsKept (fun a => a == Addr.TIME_SRC || a == Addr.LOCK_CFG || a == Addr.TIME_STATE) s t ∧ t.hub.dome = s.hub.dome) ∧
  (∀ (s : State) (e : Int), s.hub.sys.powered = true → s.hub.sys.pllLocked = true → -32768 ≤ e → e ≤ 32767 →
    ∃ t, exec (.gridPhaseMeasure e) s = .next t ∧ signed 16 (t.hub.fld Addr.GRID_ERR 0 16) = e ∧
      t.hub.fld Addr.GRID_ERR_MAX 0 16 = max (s.hub.fld Addr.GRID_ERR_MAX 0 16) e.natAbs ∧
      (1000 < e.natAbs → t.hub.bit Addr.GRID_STATUS 1 = true ∧ 
        (s.hub.lan.gridLogged = none ∨ (∃ g, s.hub.lan.gridLogged = some g ∧ g + secU ≤ s.hub.timeAt s.raw.toNat) →
          logged 16 s t ∧ t.hub.lan.gridLogged = some (s.hub.timeAt s.raw.toNat)) ∧
        (∀ g, s.hub.lan.gridLogged = some g → s.hub.timeAt s.raw.toNat < g + secU →
          t.hub.rd (Addr.ELOG_CLASS_CNT 16) = s.hub.rd (Addr.ELOG_CLASS_CNT 16) ∧ t.hub.lan.gridLogged = some g)) ∧
      (e.natAbs ≤ 1000 → t.hub.rd Addr.GRID_STATUS = s.hub.rd Addr.GRID_STATUS) ∧
      regsKept (fun a => a == Addr.GRID_ERR || a == Addr.GRID_ERR_MAX || a == Addr.GRID_PHASE || a == Addr.GRID_STATUS ||
        inLog a) s t ∧ t.hub.dome = s.hub.dome) ∧
  (∀ (s : State) (m : MasterIx) (v : Word), s.hub.sys.powered = true → s.hub.accessOk m true Addr.GRID_CTRL 4 = true →
    ∃ t, exec (.realign m v) s = .next t ∧
      ((s.hub.mode = .boot ∨ s.hub.mode = .idle ∨ (s.hub.mode = .service ∧ s.hub.servicePlan = false)) →
        t.hub.bit Addr.GRID_STATUS 0 = false ∧ t.hub.bit Addr.GRID_STATUS 2 = true ∧
        onlyStore m (fun a => a == Addr.GRID_STATUS) s t) ∧
      ((s.hub.mode = .armed ∨ s.hub.mode = .run ∨ s.hub.mode = .shadow ∨
        (s.hub.mode = .service ∧ s.hub.servicePlan = true)) → refusedStore m s t)) ∧
  (∀ s : State, s.hub.sys.powered = true → s.hub.bit Addr.GRID_STATUS 2 = true →
    ∃ t, exec .gridAlignComplete s = .next t ∧ t.hub.bit Addr.GRID_STATUS 2 = false ∧ t.hub.bit Addr.GRID_STATUS 0 = true ∧
      t.raw = s.raw ∧ t.hub.dome = s.hub.dome ∧ regsKept (fun a => a == Addr.GRID_STATUS || a == Addr.GRID_PHASE) s t)

/-- A selected edge of an enabled input is counted; with fewer than 16 stamps in the FIFO one more is kept with the edge's
direction, the reported time state and a time within 125 ps of network time at a RAW of the present nanosecond, else
the loss is counted; a rising edge of PPS_IN, the source, is a measurement for the servo. An edge that is not selected
changes nothing. A read of TRIG_IN_TS0 by a permitted master returns word 0 of the oldest stamp, puts the other words
and the information in the registers beside it, and takes the stamp out. PPS_OUT_PULSE at a whole second raises
PPS_OUT where it is enabled and time is not FREE or is let through, and only then; PPS_OUT_PULSE_END ends the pulse
once it has lasted WIDTH microseconds, and TRIG_OUT_PULSE_END that of a TRIG_OUT pin after WIDTH ns, where the pin
stands at its inactive level, POL; before that nothing changes. Where the spec leaves a reading open, the model's is
that of log entries 3, 6 and 27. -/
def Obligations.TriggerInputsAndOutputs : Prop :=
  (∀ (s : State) (k : TrigInIx) (rise : Bool), s.hub.sys.powered = true → s.hub.bit (Addr.TRIG_IN_CFG k) 0 = true →
    s.hub.bit (Addr.TRIG_IN_CFG k) (if rise then 1 else 2) = true →
    ∃ t, exec (.trigInEdge k rise) s = .next t ∧
      t.hub.rd (Addr.TRIG_IN_EDGE_CNT k) = s.hub.rd (Addr.TRIG_IN_EDGE_CNT k) + 1#32 ∧
      ((SMap.get [] s.hub.lan.fifos k).length < 16 → ∃ x : TrigStamp,
        SMap.get [] t.hub.lan.fifos k = SMap.get [] s.hub.lan.fifos k ++ [x] ∧ x.rise = rise ∧ x.tstate = s.hub.tstate ∧
        ∃ r, s.raw.toNat ≤ r ∧ r < s.raw.toNat + 65536 ∧ x.time < s.hub.timeAt r + 8192 ∧
          s.hub.timeAt r < x.time + 8192) ∧
      (k.val = 4 → rise = true → s.hub.fld Addr.TIME_SRC 0 2 = 3 → ∃ m, t.hub.lan.meas = some m ∧ m.clock = s.hub.clock) ∧
      (16 ≤ (SMap.get [] s.hub.lan.fifos k).length → t.hub.lan.fifos = s.hub.lan.fifos ∧
        t.hub.fld (Addr.TRIG_IN_OVF_CNT k) 0 16 = min (s.hub.fld (Addr.TRIG_IN_OVF_CNT k) 0 16 + 1) 65535)) ∧
  (∀ (s : State) (k : TrigInIx) (rise : Bool), s.hub.sys.powered = true →
    (s.hub.bit (Addr.TRIG_IN_CFG k) 0 = false ∨ s.hub.bit (Addr.TRIG_IN_CFG k) (if rise then 1 else 2) = false) →
    exec (.trigInEdge k rise) s = .next s) ∧
  (∀ (s : State) (m : MasterIx) (k : TrigInIx) (x : TrigStamp) (q : List TrigStamp), s.hub.sys.powered = true →
    s.hub.accessOk m false (Addr.TRIG_IN_TS0 k) 4 = true → SMap.get [] s.hub.lan.fifos k = x :: q →
    ∃ t, exec (.trigInPop m k) s = .next t ∧ SMap.get 0#32 t.hub.ctl.readData m = kxWord x.time 0 ∧
      t.hub.rd (Addr.TRIG_IN_TS1 k) = kxWord x.time 1 ∧ t.hub.rd (Addr.TRIG_IN_TS2 k) = kxWord x.time 2 ∧
      t.hub.bit (Addr.TRIG_IN_INFO k) 0 = true ∧ (t.hub.bit (Addr.TRIG_IN_INFO k) 1 = x.rise) ∧
      SMap.get [] t.hub.lan.fifos k = q ∧
      regsKept (fun a => a == Addr.TRIG_IN_TS1 k || a == Addr.TRIG_IN_TS2 k || a == Addr.TRIG_IN_INFO k) s t) ∧
  (∀ s : State, s.hub.sys.powered = true → s.hub.bit Addr.PPS_OUT_CFG 0 = true →
    (s.hub.tstate ≠ 0 ∨ s.hub.bit Addr.PPS_OUT_CFG 1 = true) →
    (s.hub.timeAt s.raw.toNat % 65536000000000 = 0 ∨ (65536 ≤ s.raw.toNat ∧
      s.hub.timeAt s.raw.toNat / 65536000000000 ≠ s.hub.timeAt (s.raw.toNat - 65536) / 65536000000000)) →
    exec .ppsOutPulse s = .next { s with hub := { s.hub with pins.ppsOut := some s.raw.toNat } }) ∧
  (∀ s : State, s.hub.bit Addr.PPS_OUT_CFG 0 = false ∨ (s.hub.tstate = 0 ∧ s.hub.bit Addr.PPS_OUT_CFG 1 = false) →
    exec .ppsOutPulse s = .next s) ∧
  (∀ (s : State) (r : Nat), s.hub.sys.powered = true → s.hub.pins.ppsOut = some r →
    exec .ppsOutPulseEnd s =
      (if r + s.hub.fld Addr.PPS_OUT_CFG 8 24 * 65536000 ≤ s.raw.toNat then
        .next { s with hub := { s.hub with pins.ppsOut := none } } else .next s)) ∧
  (∀ (s : State) (p : TrigOutIx) (r : Nat), s.hub.sys.powered = true → SMap.find s.hub.pins.trigOut p = some r →
    r + s.hub.fld (Addr.TRIG_OUT_CFG p) 8 24 * 65536 ≤ s.raw.toNat →
    ∃ t, exec (.trigOutPulseEnd p) s = .next t ∧ t.hub.trigOutLevel p = s.hub.bit (Addr.TRIG_OUT_CFG p) 5 ∧
      (∀ k, k ≠ p.val → SMap.find t.hub.pins.trigOut k = SMap.find s.hub.pins.trigOut k) ∧
      t = { s with hub := { s.hub with pins.trigOut := t.hub.pins.trigOut } }) ∧
  (∀ (s : State) (p : TrigOutIx), (∀ r, SMap.find s.hub.pins.trigOut p = some r →
      s.raw.toNat < r + s.hub.fld (Addr.TRIG_OUT_CFG p) 8 24 * 65536) →
    exec (.trigOutPulseEnd p) s = .next s)

/-- For an alarm that is not due, a permitted write of ARM (of alarm 15 by BELFRY or JTAG) with valid target words at
least 100 ns ahead and a period that is 0, or at least 1 microsecond and longer than the WIDTH of every TRIG_OUT pin
that selects the alarm, reports OK, arms it and latches target, period, action and mask; invalid words or another
period report ERANGE and a nearer target ETIME, and the alarm stays as it was, armed with what it was armed with or
not. DISARM disarms it. Another master's write to alarm 15 is refused and logged. ALARM_FIRE of an armed alarm whose
target has come, without the START action, counts it, disarms a one-shot alarm and moves a periodic one on by its
period; an alarm that is not armed, or whose target lies ahead, does not fire. START of alarm 15 in ARMED enters RUN
on an ACTIVE or LONE hub and on a claiming hub that holds a grant, and SHADOW on any other. Where the spec leaves a
reading open, the model's is that of log entries 3, 28 and 55. -/
def Obligations.Alarms : Prop :=
  (∀ (s : State) (m : MasterIx) (a : AlarmIx) (v : Word), s.hub.sys.powered = true →
    s.hub.accessOk m true (Addr.ALM_CTRL a) 4 = true → (a.val = 15 → m.val = 0 ∨ m.val = 8) →
    (s.hub.armed a = false ∨ s.hub.timeAt s.raw.toNat < (SMap.get {} s.hub.lan.alarms a).target) →
    v.getLsbD 1 = false →
    ∃ t, exec (.alarmArm m a v) s = .next t ∧ regsKept (fun x => x == Addr.ALM_STATUS a) s t ∧ t.hub.dome = s.hub.dome ∧
      (let w0 := s.hub.rd (Addr.ALM_TGT0 a); let w1 := s.hub.rd (Addr.ALM_TGT1 a); let w2 := s.hub.rd (Addr.ALM_TGT2 a)
       let per := s.hub.almPeriod a
       let fits : Prop := per = 0 ∨ (1000 * nsU ≤ per ∧ ∀ p, p < 4 → s.hub.fld (Addr.TRIG_OUT_CFG p) 1 4 = a.val →
         s.hub.fld (Addr.TRIG_OUT_CFG p) 8 24 * nsU < per)
       let refused (st : Nat) : Prop := t.hub.fld (Addr.ALM_STATUS a) 0 8 = st ∧ t.hub.armed a = s.hub.armed a ∧
         t.hub.lan = s.hub.lan
       (999999999 < kxNs w0 w1 w2 → refused ERANGE) ∧
       (kxNs w0 w1 w2 ≤ 999999999 → instOf w0 w1 w2 < s.hub.timeAt s.raw.toNat + 100 * nsU → refused ETIME) ∧
       (kxNs w0 w1 w2 ≤ 999999999 → s.hub.timeAt s.raw.toNat + 100 * nsU ≤ instOf w0 w1 w2 → ¬ fits → refused ERANGE) ∧
       (kxNs w0 w1 w2 ≤ 999999999 → s.hub.timeAt s.raw.toNat + 100 * nsU ≤ instOf w0 w1 w2 → fits →
         t.hub.fld (Addr.ALM_STATUS a) 0 8 = OK ∧ t.hub.armed a = true ∧
         SMap.get {} t.hub.lan.alarms a =
           { target := instOf w0 w1 w2, per := per, action := s.hub.fld (Addr.ALM_ACTION a) 0 4,
             capmask := s.hub.rd (Addr.ALM_CAPMASK a) }))) ∧
  (∀ (s : State) (m : MasterIx) (a : AlarmIx) (v : Word), s.hub.sys.powered = true →
    s.hub.accessOk m true (Addr.ALM_CTRL a) 4 = true → (a.val = 15 → m.val = 0 ∨ m.val = 8) →
    (s.hub.armed a = false ∨ s.hub.timeAt s.raw.toNat < (SMap.get {} s.hub.lan.alarms a).target) →
    v.getLsbD 0 = false →
    ∃ t, exec (.alarmDisarm m a v) s = .next t ∧ t.hub.armed a = false ∧
      onlyStore m (fun x => x == Addr.ALM_STATUS a) s t) ∧
  (∀ (s : State) (m : MasterIx) (v : Word), s.hub.sys.powered = true → s.hub.accessOk m true (Addr.ALM_CTRL 15) 4 = true →
    m.val ≠ 0 → m.val ≠ 8 → ∃ t, exec (.alarmArm m 15 v) s = .next t ∧ refusedStore m s t) ∧
  (∀ (s : State) (a : AlarmIx), s.hub.sys.powered = true → s.hub.armed a = true →
    (SMap.get {} s.hub.lan.alarms a).target ≤ s.hub.timeAt s.raw.toNat →
    (SMap.get {} s.hub.lan.alarms a).action.testBit 3 = false →
    ∃ t, exec (.alarmFire a) s = .next t ∧ t.hub.rd (Addr.ALM_FIRE_CNT a) = s.hub.rd (Addr.ALM_FIRE_CNT a) + 1#32 ∧
      ((SMap.get {} s.hub.lan.alarms a).per = 0 → t.hub.armed a = false) ∧
      ((SMap.get {} s.hub.lan.alarms a).per ≠ 0 → t.hub.armed a = true ∧ (SMap.get {} t.hub.lan.alarms a).target =
        (SMap.get {} s.hub.lan.alarms a).target + (SMap.get {} s.hub.lan.alarms a).per) ∧
      t.hub.dome = s.hub.dome) ∧
  (∀ (s : State) (a : AlarmIx), s.hub.sys.powered = true →
    (s.hub.armed a = false ∨ s.hub.timeAt s.raw.toNat < (SMap.get {} s.hub.lan.alarms a).target) →
    exec (.alarmFire a) s = .next s) ∧
  (∀ s : State, s.hub.sys.powered = true → s.hub.armed 15 = true → s.hub.mode = .armed →
    (SMap.get {} s.hub.lan.alarms 15).target ≤ s.hub.timeAt s.raw.toNat →
    (SMap.get {} s.hub.lan.alarms 15).action.testBit 3 = true →
    ∃ t, exec (.alarmFire 15) s = .next t ∧ t.hub.mode = startMode s)

/-- When a READY context whose PC names the instruction has a slot left in its budget and none of the registers named is
pending, each of ADD, SUB, MUL, MULH, AND, OR, XOR, SHL, SHR, SAR, MIN, MAX, ABS, CLZ, ADDI, LUI, ANDI and ORI answers
a next state in which gd holds the result of R232 or R233, the PC is the next word, one instruction of one slot is
counted, and no other register, context or state differs. Shift amounts are the immediate or gb[4:0]; the unsigned bit
selects unsigned MULH, MIN and MAX. Where the spec leaves a reading open, the model's is that of log entry 15. -/
def Obligations.ArithmeticInstructions : Prop :=
  (∀ (s : State) (c : CtxIx) (d a b : Fin 16), comesTo c (.add d a b) 1 { g := [d, a, b] } s →
    writesG c 1 d (s.hub.g c a + s.hub.g c b) s (exec (.amixelAdd c) s)) ∧
  (∀ (s : State) (c : CtxIx) (d a b : Fin 16), comesTo c (.sub d a b) 1 { g := [d, a, b] } s →
    writesG c 1 d (s.hub.g c a - s.hub.g c b) s (exec (.amixelSub c) s)) ∧
  (∀ (s : State) (c : CtxIx) (d a b : Fin 16), comesTo c (.mul d a b) 1 { g := [d, a, b] } s →
    writesG c 1 d (BitVec.ofNat 32 ((s.hub.g c a).toNat * (s.hub.g c b).toNat)) s (exec (.amixelMul c) s)) ∧
  (∀ (s : State) (c : CtxIx) (u : Bool) (d a b : Fin 16), comesTo c (.mulh u d a b) 1 { g := [d, a, b] } s →
    writesG c 1 d (if u then BitVec.ofNat 32 ((s.hub.g c a).toNat * (s.hub.g c b).toNat / 4294967296)
      else BitVec.ofInt 32 ((s.hub.g c a).toInt * (s.hub.g c b).toInt / 4294967296)) s (exec (.amixelMulh c) s)) ∧
  (∀ (s : State) (c : CtxIx) (d a b : Fin 16), comesTo c (.and_ d a b) 1 { g := [d, a, b] } s →
    writesG c 1 d (s.hub.g c a &&& s.hub.g c b) s (exec (.amixelAnd c) s)) ∧
  (∀ (s : State) (c : CtxIx) (d a b : Fin 16), comesTo c (.or_ d a b) 1 { g := [d, a, b] } s →
    writesG c 1 d (s.hub.g c a ||| s.hub.g c b) s (exec (.amixelOr c) s)) ∧
  (∀ (s : State) (c : CtxIx) (d a b : Fin 16), comesTo c (.xor_ d a b) 1 { g := [d, a, b] } s →
    writesG c 1 d (s.hub.g c a ^^^ s.hub.g c b) s (exec (.amixelXor c) s)) ∧
  (∀ (s : State) (c : CtxIx) (d a : Fin 16) (n : ShiftBy), comesTo c (.shl d a n) 1 { g := d :: a :: n.srcs } s →
    writesG c 1 d (BitVec.ofNat 32 ((s.hub.g c a).toNat * 2 ^ s.hub.shiftBy c n)) s (exec (.amixelShl c) s)) ∧
  (∀ (s : State) (c : CtxIx) (d a : Fin 16) (n : ShiftBy), comesTo c (.shr d a n) 1 { g := d :: a :: n.srcs } s →
    writesG c 1 d (BitVec.ofNat 32 ((s.hub.g c a).toNat / 2 ^ s.hub.shiftBy c n)) s (exec (.amixelShr c) s)) ∧
  (∀ (s : State) (c : CtxIx) (d a : Fin 16) (n : ShiftBy), comesTo c (.sar d a n) 1 { g := d :: a :: n.srcs } s →
    writesG c 1 d (BitVec.ofInt 32 ((s.hub.g c a).toInt / ((2 ^ s.hub.shiftBy c n : Nat) : Int))) s (exec (.amixelSar c) s)) ∧
  (∀ (s : State) (c : CtxIx) (u : Bool) (d a b : Fin 16), comesTo c (.min_ u d a b) 1 { g := [d, a, b] } s →
    writesG c 1 d (if u then BitVec.ofNat 32 (min (s.hub.g c a).toNat (s.hub.g c b).toNat)
      else BitVec.ofInt 32 (min (s.hub.g c a).toInt (s.hub.g c b).toInt)) s (exec (.amixelMin c) s)) ∧
  (∀ (s : State) (c : CtxIx) (u : Bool) (d a b : Fin 16), comesTo c (.max_ u d a b) 1 { g := [d, a, b] } s →
    writesG c 1 d (if u then BitVec.ofNat 32 (max (s.hub.g c a).toNat (s.hub.g c b).toNat)
      else BitVec.ofInt 32 (max (s.hub.g c a).toInt (s.hub.g c b).toInt)) s (exec (.amixelMax c) s)) ∧
  (∀ (s : State) (c : CtxIx) (d a : Fin 16), comesTo c (.abs_ d a) 1 { g := [d, a] } s →
    writesG c 1 d (BitVec.ofNat 32 (s.hub.g c a).toInt.natAbs) s (exec (.amixelAbs c) s)) ∧
  (∀ (s : State) (c : CtxIx) (d a : Fin 16), comesTo c (.clz d a) 1 { g := [d, a] } s →
    ∃ n, n ≤ 32 ∧ (s.hub.g c a).toNat < 2 ^ (32 - n) ∧ (n < 32 → 2 ^ (31 - n) ≤ (s.hub.g c a).toNat) ∧
      writesG c 1 d (BitVec.ofNat 32 n) s (exec (.amixelClz c) s)) ∧
  (∀ (s : State) (c : CtxIx) (d a : Fin 16) (imm : BitVec 14), comesTo c (.addi d a imm) 1 { g := [d, a] } s →
    writesG c 1 d (BitVec.ofInt 32 ((s.hub.g c a).toInt + imm.toInt)) s (exec (.amixelAddi c) s)) ∧
  (∀ (s : State) (c : CtxIx) (d : Fin 16) (imm : BitVec 18), comesTo c (.lui d imm) 1 { g := [d] } s →
    writesG c 1 d (BitVec.ofNat 32 (imm.toNat * 16384)) s (exec (.amixelLui c) s)) ∧
  (∀ (s : State) (c : CtxIx) (d a : Fin 16) (imm : BitVec 14), comesTo c (.andi d a imm) 1 { g := [d, a] } s →
    writesG c 1 d (s.hub.g c a &&& imm.zeroExtend 32) s (exec (.amixelAndi c) s)) ∧
  (∀ (s : State) (c : CtxIx) (d a : Fin 16) (imm : BitVec 14), comesTo c (.ori d a imm) 1 { g := [d, a] } s →
    writesG c 1 d (s.hub.g c a ||| imm.zeroExtend 32) s (exec (.amixelOri c) s))

/-- Issued as R211 and R215 allow with nothing they use pending, WACC, WSQ, WSUB, WSHR and WCLR write the wide register
with the exact sum, square, difference, shift or zero modulo 2^80; WRD writes gd truncated, limited, as binary32, or
as the floor of the square root limited to 32 bits, and faults with ERANGE on a negative operand of the root; CMP
combines its relation into qn; BR, BRQ, CALL, RET and LOOP set the PC to their target inside the code, CALL writing
the next word's index to its link register, BRQ clearing qn where its clear bit is set and LOOP decrementing its
counter. A branch that is taken and lies outside the code halts the context with ERANGE and writes no register.
Nothing else differs. Where the spec leaves a reading open, the model's is that of log entries 15 and 16. -/
def Obligations.WideAndFlowInstructions : Prop :=
  (∀ (s : State) (c : CtxIx) (d : Fin 4) (a : Fin 16) (f : Fin 3), comesTo c (.wacc d a f) 1 { g := [a], w := [d] } s →
    writesW c 1 d (BitVec.ofInt 80 ((s.hub.w c d).toInt + (match f with
      | 0 => (s.hub.g c a).toInt | 1 => (s.hub.g c a).toInt / 256 | 2 => (s.hub.g c a).toNat))) s (exec (.amixelWacc c) s)) ∧
  (∀ (s : State) (c : CtxIx) (d : Fin 4) (a : Fin 16) (f : Fin 3), comesTo c (.wsq d a f) 2 { g := [a], w := [d] } s →
    writesW c 2 d (BitVec.ofInt 80 ((s.hub.w c d).toInt + (match f with
      | 0 => (s.hub.g c a).toInt ^ 2 | 1 => ((s.hub.g c a).toInt / 256) ^ 2
      | 2 => ((s.hub.g c a).toNat : Int) ^ 2))) s (exec (.amixelWsq c) s)) ∧
  (∀ (s : State) (c : CtxIx) (d a b : Fin 4), comesTo c (.wsub d a b) 1 { w := [d, a, b] } s →
    writesW c 1 d (s.hub.w c a - s.hub.w c b) s (exec (.amixelWsub c) s)) ∧
  (∀ (s : State) (c : CtxIx) (d a : Fin 4) (n : WideBy), comesTo c (.wshr d a n) 1 { g := n.srcs, w := [d, a] } s →
    writesW c 1 d ((s.hub.w c a).sshiftRight (match n with | .imm k => k.val | .reg b => (s.hub.g c b).toNat % 128)) s
      (exec (.amixelWshr c) s)) ∧
  (∀ (s : State) (c : CtxIx) (d : Fin 4), comesTo c (.wclr d) 1 { w := [d] } s →
    writesW c 1 d 0#80 s (exec (.amixelWclr c) s)) ∧
  (∀ (s : State) (c : CtxIx) (d : Fin 16) (a : Fin 4) (k : Fin 128),
    (comesTo c (.wrd d a 0 k) 1 { g := [d], w := [a] } s →
      writesG c 1 d (((s.hub.w c a).sshiftRight k).truncate 32) s (exec (.amixelWrd c) s)) ∧
    (comesTo c (.wrd d a 1 k) 1 { g := [d], w := [a] } s →
      writesG c 1 d (BitVec.ofInt 32 (max (-2147483648) (min 2147483647 ((s.hub.w c a).toInt / ((2 ^ k.val : Nat) : Int))))) s
        (exec (.amixelWrd c) s)) ∧
    (comesTo c (.wrd d a 2 k) 2 { g := [d], w := [a] } s →
      writesG c 2 d (f32Word (ofFrac b32 (s.hub.w c a).toInt (2 ^ k.val))) s (exec (.amixelWrd c) s)) ∧
    (comesTo c (.wrd d a 3 k) 4 { g := [d], w := [a] } s → 0 ≤ (s.hub.w c a).toInt →
      ∃ n : Nat, n * n ≤ (s.hub.w c a).toNat / 2 ^ k.val ∧ (s.hub.w c a).toNat / 2 ^ k.val < (n + 1) * (n + 1) ∧
        writesG c 4 d (BitVec.ofNat 32 (min n 0xFFFFFFFF)) s (exec (.amixelWrd c) s)) ∧
    (comesTo c (.wrd d a 3 k) 4 { g := [d], w := [a] } s → (s.hub.w c a).toInt < 0 →
      ∃ t, exec (.amixelWrd c) s = .next t ∧ faulted c 4 ERANGE s t)) ∧
  (∀ (s : State) (c : CtxIx) (n : Fin 4) (m : Fin 3) (l : Fin 10) (a : Fin 16) (o : CmpWith),
    comesTo c (.cmp n m l a o) 1 { g := a :: o.srcs, q := [n] } s →
    (let x := s.hub.g c a; let y : Word := match o with | .reg b => s.hub.g c b | .imm v => v.signExtend 32
     let r : Bool := match l with
       | 0 => x == y | 1 => x != y | 2 => x.slt y | 3 => y.sle x | 4 => x.ult y | 5 => y.ule x
       | 6 => (x &&& y) != 0#32 | 7 => (x &&& y) == 0#32 | 8 => false | 9 => true
     ∃ t, exec (.amixelCmp c) s = .next t ∧
       t.hub.q c n = (match m with | 0 => r | 1 => s.hub.q c n && r | 2 => s.hub.q c n || r) ∧
       (∀ k, k < 4 → k ≠ n.val → t.hub.q c k = s.hub.q c k) ∧
       issued c 1 (s.hub.pc c + 1) (fun x => x == Addr.CTX_STATUS (c / 64) (c % 64)) s t)) ∧
  (∀ (s : State) (c : CtxIx) (off : BitVec 22) (p : Nat), ((s.hub.pc c : Nat) : Int) + off.toInt = p → p < s.hub.codeCount c →
    (comesTo c (.br off) 1 {} s → ∃ t, exec (.amixelBr c) s = .next t ∧ issued c 1 p (fun _ => false) s t) ∧
    (∀ (n : Fin 4) (sense clr : Bool), comesTo c (.brq n sense clr off) 1 { q := [n] } s →
      ∃ t, exec (.amixelBrq c) s = .next t ∧ t.hub.q c n = (s.hub.q c n && !clr) ∧
        (∀ k, k < 4 → k ≠ n.val → t.hub.q c k = s.hub.q c k) ∧
        issued c 1 (if s.hub.q c n = sense then s.hub.pc c + 1 else p)
          (fun x => x == Addr.CTX_STATUS (c / 64) (c % 64)) s t) ∧
    (∀ l : Fin 16, comesTo c (.call l off) 1 { g := [l] } s →
      ∃ t, exec (.amixelCall c) s = .next t ∧ t.hub.g c l = wd (s.hub.pc c + 1) ∧
        issued c 1 p (fun x => x == Addr.CTX_G (c / 64) (c % 64) l) s t) ∧
    (∀ l : Fin 16, comesTo c (.loop l off) 1 { g := [l] } s →
      ∃ t, exec (.amixelLoop c) s = .next t ∧ t.hub.g c l = s.hub.g c l - 1#32 ∧
        issued c 1 (if s.hub.g c l = 1#32 then s.hub.pc c + 1 else p) (fun x => x == Addr.CTX_G (c / 64) (c % 64) l) s t)) ∧
  (∀ (s : State) (c : CtxIx) (l : Fin 16), comesTo c (.ret l) 1 { g := [l] } s →
    (s.hub.g c l).toNat % 16384 < s.hub.codeCount c →
    ∃ t, exec (.amixelRet c) s = .next t ∧ issued c 1 ((s.hub.g c l).toNat % 16384) (fun _ => false) s t) ∧
  (∀ (s : State) (c : CtxIx) (off : BitVec 22), ((s.hub.pc c : Nat) : Int) + off.toInt < 0 ∨
      ((s.hub.codeCount c : Nat) : Int) ≤ (s.hub.pc c : Nat) + off.toInt → (
    (comesTo c (.br off) 1 {} s → ∃ t, exec (.amixelBr c) s = .next t ∧ haltedBy c ERANGE s t) ∧
    (∀ (n : Fin 4) (sense clr : Bool), comesTo c (.brq n sense clr off) 1 { q := [n] } s → s.hub.q c n ≠ sense →
      ∃ t, exec (.amixelBrq c) s = .next t ∧ haltedBy c ERANGE s t ∧ t.hub.q c n = s.hub.q c n) ∧
    (∀ l : Fin 16, comesTo c (.call l off) 1 { g := [l] } s →
      ∃ t, exec (.amixelCall c) s = .next t ∧ haltedBy c ERANGE s t) ∧
    (∀ l : Fin 16, comesTo c (.loop l off) 1 { g := [l] } s → s.hub.g c l ≠ 1#32 →
      ∃ t, exec (.amixelLoop c) s = .next t ∧ haltedBy c ERANGE s t))) ∧
  (∀ (s : State) (c : CtxIx) (l : Fin 16), comesTo c (.ret l) 1 { g := [l] } s →
    s.hub.codeCount c ≤ (s.hub.g c l).toNat % 16384 →
    ∃ t, exec (.amixelRet c) s = .next t ∧ haltedBy c ERANGE s t)

/-- An aligned LD or LDW in a region Turrets may read, and an aligned ST or STW in one they may write, answers a next
state with one more outstanding access and nothing else but the issue; elsewhere it faults with ERANGE and a load's
destination becomes 0. LOAD_COMPLETE delivers the bytes read, sign-extended for H and for LDW, and ends the access;
STORE_ACCEPTED stores the register's low bytes, so that every other byte reads as before. TAKE gives the last of n
elements and consumes n, PEEK gives element i and consumes none, and both fault with ESIZE on a short port and with
ESTATE on one that is no input. EMIT on a bound output of an enabled stream, with a later instant and a filled bucket,
queues one element with the value, the flags without bits 4 and 6, the index nearest to the time port's latest and its
instant by the epoch and period of the stream's first EMIT, for the Ledger; after SEAL the port's stream has no open
packet, and SEAL of a stream with nothing on its way and no open packet does nothing; both fault with ESTATE on a port
that is no output. Where the spec leaves a reading open, the model's is that of log entries 15 and 18. -/
def Obligations.MemoryAndStreamInstructions : Prop :=
  (∀ (s : State) (c : CtxIx) (z : Fin 3) (d a : Fin 16) (imm : BitVec 14),
    comesTo c (.ld z d a imm) 1 { g := [d, a], tag := true } s →
    (let x := (s.hub.g c a + imm.signExtend 32).toNat; let n : Nat := match z with | 0 => 4 | 1 => 2 | 2 => 1
     (x % n = 0 → (s.hub.region x).isSome = true → s.hub.region x ≠ some .journal →
      ∃ t, exec (.amixelLd c) s = .next t ∧ t.hub.pc c = (s.hub.pc c + 1) % 2 ^ 14 ∧ counted c 1 s t ∧
        (t.hub.ctx c).acc = (s.hub.ctx c).acc ++ [.load (.g d) x n (s.hub.pc c)] ∧ t.hub.dome = s.hub.dome ∧
        regsKept (issueReg c) s t) ∧
     (x % n ≠ 0 ∨ (s.hub.region x).isSome = false ∨ s.hub.region x = some .journal →
      ∃ t, exec (.amixelLd c) s = .next t ∧ t.hub.g c d = 0#32 ∧ (t.hub.ctx c).acc = (s.hub.ctx c).acc ∧
        t.hub.rd (Addr.CTX_FAULT (c / 64) (c % 64)) = wd (ERANGE + 256 * s.hub.pc c) ∧ logged 0 s t ∧
        ((s.hub.ctx c).stopAt = none → t.hub.dome = s.hub.dome)))) ∧
  (∀ (s : State) (c : CtxIx) (z : Fin 3) (d a : Fin 16) (imm : BitVec 14),
    comesTo c (.st z d a imm) 1 { g := [d, a], tag := true } s →
    (let x := (s.hub.g c a + imm.signExtend 32).toNat; let n : Nat := match z with | 0 => 4 | 1 => 2 | 2 => 1
     (x % n = 0 → (s.hub.region x = some .data ∨ s.hub.region x = some .capture) →
      ∃ t, exec (.amixelSt c) s = .next t ∧ t.hub.pc c = (s.hub.pc c + 1) % 2 ^ 14 ∧ counted c 1 s t ∧
        (t.hub.ctx c).acc = (s.hub.ctx c).acc ++ [.store x n ((s.hub.g c d).toNat % 2 ^ (8 * n))] ∧
        t.hub.dome = s.hub.dome ∧ regsKept (issueReg c) s t) ∧
     (x % n ≠ 0 ∨ (s.hub.region x ≠ some .data ∧ s.hub.region x ≠ some .capture) →
      ∃ t, exec (.amixelSt c) s = .next t ∧ faulted c 1 ERANGE s t ∧ logged 0 s t ∧
        (t.hub.ctx c).acc = (s.hub.ctx c).acc))) ∧
  (∀ (s : State) (c : CtxIx) (n : Fin 4) (a : Fin 16) (imm : BitVec 14),
    (let x := (s.hub.g c a + imm.signExtend 32).toNat
     (comesTo c (.ldw n a imm) 1 { g := [a], w := [n], tag := true } s →
       x % 8 ≠ 0 ∨ (s.hub.region x).isSome = false ∨ s.hub.region x = some .journal →
       ∃ t, exec (.amixelLdw c) s = .next t ∧ t.hub.w c n = 0#80 ∧ (t.hub.ctx c).acc = (s.hub.ctx c).acc ∧
         t.hub.rd (Addr.CTX_FAULT (c / 64) (c % 64)) = wd (ERANGE + 256 * s.hub.pc c) ∧ logged 0 s t) ∧
     (comesTo c (.stw n a imm) 1 { g := [a], w := [n], tag := true } s →
       x % 8 ≠ 0 ∨ (s.hub.region x ≠ some .data ∧ s.hub.region x ≠ some .capture) →
       ∃ t, exec (.amixelStw c) s = .next t ∧ faulted c 1 ERANGE s t ∧ logged 0 s t ∧
         (t.hub.ctx c).acc = (s.hub.ctx c).acc) ∧
     (x % 8 = 0 →
      (comesTo c (.ldw n a imm) 1 { g := [a], w := [n], tag := true } s →
        (s.hub.region x).isSome = true → s.hub.region x ≠ some .journal →
        ∃ t, exec (.amixelLdw c) s = .next t ∧ t.hub.pc c = (s.hub.pc c + 1) % 2 ^ 14 ∧ counted c 1 s t ∧
          (t.hub.ctx c).acc = (s.hub.ctx c).acc ++ [.load (.w n) x 8 (s.hub.pc c)] ∧ t.hub.dome = s.hub.dome ∧
          regsKept (issueReg c) s t) ∧
      (comesTo c (.stw n a imm) 1 { g := [a], w := [n], tag := true } s →
        (s.hub.region x = some .data ∨ s.hub.region x = some .capture) →
        ∃ t, exec (.amixelStw c) s = .next t ∧ t.hub.pc c = (s.hub.pc c + 1) % 2 ^ 14 ∧ counted c 1 s t ∧
          (t.hub.ctx c).acc = (s.hub.ctx c).acc ++ [.store x 8 ((s.hub.w c n).toNat % 2 ^ 64)] ∧
          t.hub.dome = s.hub.dome ∧ regsKept (issueReg c) s t)))) ∧
  (∀ (s : State) (c : CtxIx) (k : Nat) (a n pc : Nat), s.hub.sys.powered = true → s.hub.poisoned a = false →
    (∀ d : Fin 16, (s.hub.ctx c).ready k = some (.load (.g d) a n pc) → ∃ t, exec (.loadComplete c k) s = .next t ∧
      t.hub.g c d = (if n = 2 then BitVec.ofInt 32 (signed 16 (s.hub.domeRead a 2)) else BitVec.ofNat 32 (s.hub.domeRead a n)) ∧
      (t.hub.ctx c).acc = (s.hub.ctx c).acc.eraseIdx k ∧ (t.hub.ctx c).stalled = false ∧
      regsKept (fun x => x == Addr.CTX_G (c / 64) (c % 64) d) s t ∧
      t = { s with hub := { s.hub with regs := t.hub.regs, ctxs := t.hub.ctxs } }) ∧
    (∀ d : Fin 4, (s.hub.ctx c).ready k = some (.load (.w d) a n pc) → ∃ t, exec (.loadComplete c k) s = .next t ∧
      t.hub.w c d = BitVec.ofInt 80 (signed 64 (s.hub.domeRead a n)) ∧
      (t.hub.ctx c).acc = (s.hub.ctx c).acc.eraseIdx k ∧ regsKept (wideReg c d) s t ∧
      t = { s with hub := { s.hub with regs := t.hub.regs, ctxs := t.hub.ctxs } })) ∧
  (∀ (s : State) (c : CtxIx) (k a n v : Nat), s.hub.sys.powered = true → a + n ≤ domeSize →
    (s.hub.ctx c).ready k = some (.store a n v) →
    ∃ t, exec (.storeAccepted c k) s = .next t ∧ t.hub.domeRead a n = v % 2 ^ (8 * n) ∧
      (∀ x, x < a ∨ a + n ≤ x → t.hub.domeByte x = s.hub.domeByte x) ∧
      (t.hub.ctx c).acc = (s.hub.ctx c).acc.eraseIdx k ∧ t.hub.regs = s.hub.regs) ∧
  (∀ (s : State) (c : CtxIx) (d : Fin 8) (p : PortSel) (m : Fin 256),
    comesTo c (.take d p m) 1 { g := (2 * d.val) :: (2 * d.val + 1) :: p.srcs } s →
    (let q := s.hub.portOf c p
     (s.hub.isInput c q = true → m.val < ((s.hub.ctx c).buf q).fill → ∃ t, exec (.amixelTake c) s = .next t ∧
       t.hub.g c (2 * d.val) = (s.hub.portElem c q m).1 ∧ t.hub.g c (2 * d.val + 1) = (s.hub.portElem c q m).2 ∧
       ((t.hub.ctx c).buf q).fill = ((s.hub.ctx c).buf q).fill - (m.val + 1) ∧ t.hub.pc c = (s.hub.pc c + 1) % 2 ^ 14 ∧
       counted c 1 s t ∧ t.hub.dome = s.hub.dome ∧ regsKept (fun a => issueReg c a ||
         a == Addr.CTX_G (c / 64) (c % 64) (2 * d.val) || a == Addr.CTX_G (c / 64) (c % 64) (2 * d.val + 1)) s t) ∧
     (s.hub.isInput c q = true → ((s.hub.ctx c).buf q).fill ≤ m.val →
       ∃ t, exec (.amixelTake c) s = .next t ∧ faulted c 1 ESIZE s t) ∧
     (s.hub.isInput c q = false → ∃ t, exec (.amixelTake c) s = .next t ∧ faulted c 1 ESTATE s t))) ∧
  (∀ (s : State) (c : CtxIx) (d : Fin 8) (p : PortSel) (m : Fin 256),
    comesTo c (.peek d p m) 1 { g := (2 * d.val) :: (2 * d.val + 1) :: p.srcs } s →
    (let q := s.hub.portOf c p
     (s.hub.isInput c q = true → m.val < ((s.hub.ctx c).buf q).fill → ∃ t, exec (.amixelPeek c) s = .next t ∧
       t.hub.g c (2 * d.val) = (s.hub.portElem c q m).1 ∧ t.hub.g c (2 * d.val + 1) = (s.hub.portElem c q m).2 ∧
       issued c 1 (s.hub.pc c + 1) (fun a => a == Addr.CTX_G (c / 64) (c % 64) (2 * d.val) ||
         a == Addr.CTX_G (c / 64) (c % 64) (2 * d.val + 1)) s t) ∧
     (s.hub.isInput c q = true → ((s.hub.ctx c).buf q).fill ≤ m.val →
       ∃ t, exec (.amixelPeek c) s = .next t ∧ faulted c 1 ESIZE s t) ∧
     (s.hub.isInput c q = false → ∃ t, exec (.amixelPeek c) s = .next t ∧ faulted c 1 ESTATE s t))) ∧
  (∀ (s : State) (c : CtxIx) (d : Fin 8) (f : Fin 3) (p : EmitSel),
    comesTo c (.emit d f p) 1 { g := (2 * d.val) :: (2 * d.val + 1) :: p.srcs } s →
    (let q := (s.hub.emitPorts c p).1; let tp := (s.hub.emitPorts c p).2
     let o := SMap.get {} (s.hub.ctx c).ports q
     let fl := bitsOf (s.hub.g c (2 * d.val + 1)) 0 8 &&& 0xAF
     let v := if f = 0 then (s.hub.g c (2 * d.val) &&& 0xFFFFFF00#32) ||| wd fl else s.hub.g c (2 * d.val)
     let k := indexNear ((s.hub.ctx c).buf tp).kref (bitsOf (s.hub.g c (2 * d.val + 1)) 8 24)
     let (per, ep) := if o.fmt = none then s.hub.portClock c tp else (o.period, o.epochS)
     let inst := ((ep : Int) + k * (per : Nat)).toNat
     (s.hub.isOutput c q = true → s.hub.portKind c tp = 1 → (o.fmt = none ∨ o.fmt = some f.val) →
       (f = 2 → (f32Of v).isFin = true) → (∀ x, o.lastInst = some x → x < inst) → o.tokens = none → s.hub.streamOn (s.hub.portSrc c q) = true →
       ∃ t, exec (.amixelEmit c) s = .next t ∧ t.hub.pc c = (s.hub.pc c + 1) % 2 ^ 14 ∧ counted c 1 s t ∧
         (∃ e : LedElem, t.hub.led.inQ = s.hub.led.inQ ++ [e] ∧ e.stream = s.hub.portSrc c q ∧ e.kind = .derived ∧
           e.value = v ∧ e.flags = fl ∧ e.fmt = f.val ∧ e.inst = inst ∧ e.period = per ∧ e.epochS = ep ∧
           e.seq = some (unsigned 48 k)) ∧
         t.hub.dome = s.hub.dome ∧ regsKept (issueReg c) s t) ∧
     (s.hub.isOutput c q = false → ∃ t, exec (.amixelEmit c) s = .next t ∧ faulted c 1 ESTATE s t))) ∧
  (∀ (s : State) (c : CtxIx) (p : PortSel), comesTo c (.seal_ p) 2 { g := p.srcs } s →
    (let q := s.hub.portOf c p
     (s.hub.isOutput c q = true →
       ∃ t, exec (.amixelSeal c) s = .next t ∧ t.hub.pc c = (s.hub.pc c + 1) % 2 ^ 14 ∧ counted c 2 s t ∧
         (t.hub.stream (s.hub.portSrc c q)).opn = none ∧ regsKept (fun a => issueReg c a || inLedger a) s t ∧
         ((∀ e ∈ s.hub.led.inQ, e.stream ≠ s.hub.portSrc c q) → (s.hub.stream (s.hub.portSrc c q)).opn = none →
           t.hub.queues = s.hub.queues ∧ t.hub.streams = s.hub.streams ∧ t.hub.dome = s.hub.dome ∧
           regsKept (issueReg c) s t)) ∧
     (s.hub.isOutput c q = false → ∃ t, exec (.amixelSeal c) s = .next t ∧ faulted c 2 ESTATE s t)))

/-- CURVE with curve 0 and a finite input copies ga and clears qm; with a standard curve gives the ends of its range with
qm at and beyond its domain's ends (above), and else a value in the range, for platinum within 0.01 degC of the
inverse of R89's function; with a valid user curve gives the value of its segment. A reserved number or an input that
is not finite faults with ERANGE, an invalid user curve with ESTATE. XING, PEAKT and RFLOW on an aligned record wholly
where Turrets may write are queued for the measurement unit; on any other they fault with ERANGE. MEASUREMENT_COMPLETE
of an ABSENT XING sample clears PVALID and delivers 0; of another it counts a selected crossing, keeps its position,
by the line between consecutive samples of unlike value or else of the sample itself, and delivers the period. Of a
PEAKT sample it delivers MAX - MIN of the extremes that result, in S32 or F24, VALID unless RESET; of an ABSENT one
those there were. Of RFLOW it moves the candidate, pushes a turning point beyond HYST, counts the half or full cycle
it closes once, or the oldest half cycle of a full stack (a push that closes several is left out), flushes the
residue, or resets; on a record with SHIFT above 24, DEPTH above 64 or a reserved DIR it faults with ERANGE and
changes no byte. No byte outside the record changes. Where the spec leaves a reading open, the model's is that of log
entries 4, 15, 19, 50 and 55. -/
def Obligations.MeasurementInstructions : Prop :=
  (∀ (s : State) (c : CtxIx) (d a : Fin 16) (i : Fin 16) (m : Fin 4),
    comesTo c (.curve d a 0 i m) 4 { g := [d, a], q := [m] } s →
    ((f32Of (s.hub.g c a)).isFin = true → ∃ t, exec (.amixelCurve c) s = .next t ∧ t.hub.g c d = s.hub.g c a ∧
      t.hub.q c m = false ∧ (∀ k, k < 4 → k ≠ m.val → t.hub.q c k = s.hub.q c k) ∧
      issued c 4 (s.hub.pc c + 1) (fun x => x == Addr.CTX_G (c / 64) (c % 64) d ||
        x == Addr.CTX_STATUS (c / 64) (c % 64)) s t) ∧
    ((f32Of (s.hub.g c a)).isFin = false → ∃ t, exec (.amixelCurve c) s = .next t ∧ faulted c 4 ERANGE s t)) ∧
  (∀ (s : State) (c : CtxIx) (d a : Fin 16) (n : Fin 64) (i : Fin 16) (m : Fin 4),
    comesTo c (.curve d a n i m) 4 { g := [d, a], q := [m] } s →
    (curveReserved n = true → ∃ t, exec (.amixelCurve c) s = .next t ∧ faulted c 4 ERANGE s t) ∧
    (32 ≤ n.val → n.val ≤ 47 → s.hub.bit (userCurveBase i n + 8) 0 = false →
      ∃ t, exec (.amixelCurve c) s = .next t ∧ faulted c 4 ESTATE s t)) ∧
  (∀ (s : State) (c : CtxIx) (d a : Fin 16) (n : Fin 64) (i : Fin 16) (m : Fin 4),
    comesTo c (.curve d a n i m) 4 { g := [d, a], q := [m] } s → (f32Of (s.hub.g c a)).isFin = true →
    (let x := curveInput (f32Of (s.hub.g c a))
     let gives (o : Host.Outcome State Fault Refusal) (v : Word) (out : Bool) : Prop := ∃ t, o = .next t ∧ t.hub.g c d = v ∧
       t.hub.q c m = out ∧ (∀ k, k < 4 → k ≠ m.val → t.hub.q c k = s.hub.q c k) ∧
       issued c 4 (s.hub.pc c + 1) (fun x => x == Addr.CTX_G (c / 64) (c % 64) d ||
         x == Addr.CTX_STATUS (c / 64) (c % 64)) s t
     (∀ lo hi, curveRange n = some (lo, hi) →
       (fracLe (curveAt n lo 1) x.frac = false → gives (exec (.amixelCurve c) s) (f32Word (fpInt lo 0)) true) ∧
       (fracLe (curveAt n lo 1) x.frac = true → fracLe (curveAt n hi 1) x.frac = true →
         gives (exec (.amixelCurve c) s) (f32Word (fpInt hi 0)) true) ∧
       (fracLe (curveAt n lo 1) x.frac = true → fracLe (curveAt n hi 1) x.frac = false →
         ∃ v, gives (exec (.amixelCurve c) s) v false ∧ FP.lt (f32Of v) (fpInt lo 0) = false ∧
           FP.lt (fpInt hi 0) (f32Of v) = false ∧ (16 ≤ n.val → curveNear n lo hi x.frac (f32Of v) = true))) ∧
     (32 ≤ n.val → n.val ≤ 47 → s.hub.bit (userCurveBase i n + 8) 0 = true →
       gives (exec (.amixelCurve c) s) (f32Word (userCurve s.hub.rd (userCurveBase i n) x).1)
         (userCurve s.hub.rd (userCurveBase i n) x).2))) ∧
  (∀ (s : State) (c : CtxIx) (d : Fin 16) (a : Fin 8) (b : Fin 16) (f : Fin 2) (q : Fin 4) (e : Fin 3),
    comesTo c (.xing d a b f q e) 3 { g := [d, b, 2 * a.val, 2 * a.val + 1], q := [q], tag := true } s →
    (s.hub.recordOk (s.hub.g c b).toNat 32 = true → ∃ t, exec (.amixelXing c) s = .next t ∧
      t.hub.pc c = (s.hub.pc c + 1) % 2 ^ 14 ∧ counted c 3 s t ∧ t.hub.dome = s.hub.dome ∧ regsKept (issueReg c) s t ∧
      (t.hub.ctx c).acc = (s.hub.ctx c).acc ++ [.meas (.xing f q (e.val + 1)) d (s.hub.g c b).toNat
        (s.hub.g c (2 * a.val)) (s.hub.g c (2 * a.val + 1)) (s.hub.pc c)]) ∧
    (s.hub.recordOk (s.hub.g c b).toNat 32 = false →
      ∃ t, exec (.amixelXing c) s = .next t ∧ faulted c 3 ERANGE s t)) ∧
  (∀ (s : State) (c : CtxIx) (d : Fin 16) (a : Fin 8) (b : Fin 16) (f : Fin 2) (q : Fin 4) (z : Bool),
    comesTo c (.peakt d a b f q z) 2 { g := [d, b, 2 * a.val, 2 * a.val + 1], q := [q], tag := true } s →
    (s.hub.recordOk (s.hub.g c b).toNat 16 = true → ∃ t, exec (.amixelPeakt c) s = .next t ∧
      t.hub.pc c = (s.hub.pc c + 1) % 2 ^ 14 ∧ counted c 2 s t ∧ t.hub.dome = s.hub.dome ∧ regsKept (issueReg c) s t ∧
      (t.hub.ctx c).acc = (s.hub.ctx c).acc ++ [.meas (.peakt f q z) d (s.hub.g c b).toNat
        (s.hub.g c (2 * a.val)) (s.hub.g c (2 * a.val + 1)) (s.hub.pc c)]) ∧
    (s.hub.recordOk (s.hub.g c b).toNat 16 = false →
      ∃ t, exec (.amixelPeakt c) s = .next t ∧ faulted c 2 ERANGE s t)) ∧
  (∀ (s : State) (c : CtxIx) (d a b : Fin 16) (z : Fin 3),
    comesTo c (.rflow d a b z) 4 { g := [d, b, a], tag := true } s →
    (s.hub.recordOk (s.hub.g c b).toNat 0x4140 = true → ∃ t, exec (.amixelRflow c) s = .next t ∧
      t.hub.pc c = (s.hub.pc c + 1) % 2 ^ 14 ∧ counted c 4 s t ∧ t.hub.dome = s.hub.dome ∧ regsKept (issueReg c) s t ∧
      (t.hub.ctx c).acc = (s.hub.ctx c).acc ++ [.meas (.rflow z) d (s.hub.g c b).toNat (s.hub.g c a) 0#32 (s.hub.pc c)]) ∧
    (s.hub.recordOk (s.hub.g c b).toNat 0x4140 = false →
      ∃ t, exec (.amixelRflow c) s = .next t ∧ faulted c 4 ERANGE s t)) ∧
  (∀ (s : State) (c : CtxIx) (k : Nat) (f : Fin 2) (q : Fin 4) (e d : Nat) (a pc : Nat) (v i : Word), s.hub.sys.powered = true →
    a + 32 ≤ domeSize → d < 16 → (s.hub.ctx c).ready k = some (.meas (.xing f q e) d a v i pc) → i.getLsbD 7 = true →
    ∃ t, exec (.measurementComplete c k) s = .next t ∧ t.hub.g c d = 0#32 ∧ t.hub.q c q = false ∧
      (t.hub.domeWord (a + 12)).getLsbD 24 = false ∧
      (∀ x, x < a + 12 ∨ a + 16 ≤ x → t.hub.domeByte x = s.hub.domeByte x) ∧
      (t.hub.ctx c).acc = (s.hub.ctx c).acc.eraseIdx k ∧
      regsKept (fun x => x == Addr.CTX_G (c / 64) (c % 64) d || x == Addr.CTX_STATUS (c / 64) (c % 64)) s t) ∧
  (∀ (s : State) (c : CtxIx) (k : Nat) (f : Fin 2) (q : Fin 4) (e d : Nat) (a pc : Nat) (v i : Word), s.hub.sys.powered = true →
    a + 32 ≤ domeSize → d < 16 → (s.hub.ctx c).ready k = some (.meas (.xing f q e) d a v i pc) → i.getLsbD 7 = false →
    (let x := formVal f v; let p := s.hub.domeWord (a + 12); let n := bitsOf i 8 24
     let level := (s.hub.domeWord a).toInt; let hyst : Int := (s.hub.domeWord (a + 4)).toNat
     let prev := (s.hub.domeWord (a + 8)).toInt
     let rise := p.getLsbD 26 = true ∧ p.getLsbD 25 = false ∧ level + hyst ≤ x
     let fall := p.getLsbD 26 = true ∧ p.getLsbD 25 = true ∧ x ≤ level - hyst
     let hit := (rise ∧ e.testBit 0 = true) ∨ (fall ∧ e.testBit 1 = true)
     let next := p.getLsbD 24 = true ∧ n = (bitsOf p 0 24 + 1) % 2 ^ 24
     ∃ t, exec (.measurementComplete c k) s = .next t ∧
       t.hub.domeWord (a + 8) = wdInt x ∧ bitsOf (t.hub.domeWord (a + 12)) 0 24 = n ∧
       (t.hub.domeWord (a + 12)).getLsbD 24 = true ∧ (t.hub.domeWord (a + 12)).getLsbD 26 = true ∧
       ((t.hub.domeWord (a + 12)).getLsbD 25 = true ↔
         (if p.getLsbD 26 = false then level ≤ x else rise ∨ (p.getLsbD 25 = true ∧ ¬ fall))) ∧
       (∀ y, y < a + 8 ∨ a + 24 ≤ y → t.hub.domeByte y = s.hub.domeByte y) ∧
       (¬ hit → measured c k d 0#32 s t ∧ t.hub.q c q = false ∧ t.hub.domeWord (a + 16) = s.hub.domeWord (a + 16) ∧
         t.hub.domeWord (a + 20) = s.hub.domeWord (a + 20) ∧ (t.hub.domeWord (a + 12)).getLsbD 27 = p.getLsbD 27) ∧
       (hit → t.hub.q c q = true ∧ t.hub.domeWord (a + 20) = s.hub.domeWord (a + 20) + 1#32 ∧
         (t.hub.domeWord (a + 12)).getLsbD 27 = true ∧
         measured c k d (if p.getLsbD 27 then t.hub.domeWord (a + 16) - s.hub.domeWord (a + 16) else 0#32) s t ∧
         (¬ next → t.hub.domeWord (a + 16) = wd (n * 256)) ∧
         (next → x ≠ prev → t.hub.domeWord (a + 16) = wdInt ((bitsOf p 0 24 : Int) * 256 +
           max 0 (min 255 (Int.fdiv (256 * (level - prev)) (x - prev)))))))) ∧
  (∀ (s : State) (c : CtxIx) (k : Nat) (f : Fin 2) (q : Fin 4) (z : Bool) (d : Nat) (a pc : Nat) (v i : Word),
    s.hub.sys.powered = true → a + 16 ≤ domeSize → d < 16 →
    (s.hub.ctx c).ready k = some (.meas (.peakt f q z) d a v i pc) →
    (let old := (s.hub.domeWord (a + 4)).getLsbD 24; let x := formVal f v
     let mx := s.hub.domeWord a; let mn := s.hub.domeWord (a + 8)
     let up : Bool := !old || decide (mx.toInt < x); let down : Bool := !old || decide (x < mn.toInt)
     (i.getLsbD 7 = false → ∃ t, exec (.measurementComplete c k) s = .next t ∧
       t.hub.domeWord a = (if up then wdInt x else mx) ∧ t.hub.domeWord (a + 8) = (if down then wdInt x else mn) ∧
       bitsOf (t.hub.domeWord (a + 4)) 0 24 = (if up then bitsOf i 8 24 else bitsOf (s.hub.domeWord (a + 4)) 0 24) ∧
       bitsOf (t.hub.domeWord (a + 12)) 0 24 = (if down then bitsOf i 8 24 else bitsOf (s.hub.domeWord (a + 12)) 0 24) ∧
       measured c k d ((if up then wdInt x else mx) - (if down then wdInt x else mn)) s t ∧ t.hub.q c q = (up || down) ∧
       (t.hub.domeWord (a + 4)).getLsbD 24 = !z ∧
       (∀ y, y < a ∨ a + 16 ≤ y → t.hub.domeByte y = s.hub.domeByte y)) ∧
     (i.getLsbD 7 = true → ∃ t, exec (.measurementComplete c k) s = .next t ∧
       measured c k d (if old then mx - mn else 0#32) s t ∧ t.hub.q c q = false ∧
       (t.hub.domeWord (a + 4)).getLsbD 24 = (old && !z) ∧ bitsOf (t.hub.domeWord (a + 4)) 0 24 = bitsOf (s.hub.domeWord (a + 4)) 0 24 ∧
       (∀ y, y < a + 4 ∨ a + 8 ≤ y → t.hub.domeByte y = s.hub.domeByte y)))) ∧
  (∀ (s : State) (c : CtxIx) (k m d a pc dir depth : Nat) (have_ : Bool) (cand : Int) (v i : Word), s.hub.sys.powered = true →
    a + 0x4140 ≤ domeSize → d < 16 → (s.hub.ctx c).ready k = some (.meas (.rflow m) d a v i pc) →
    flowState a dir have_ depth cand s →
    (24 < bitsOf (s.hub.domeWord (a + 4)) 0 5 ∨ 64 < depth ∨ dir = 3 → ∃ t, exec (.measurementComplete c k) s = .next t ∧
      t.hub.rd (Addr.CTX_FAULT (c / 64) (c % 64)) = wd (ERANGE + 256 * pc) ∧ t.hub.g c d = s.hub.g c d ∧
      ((s.hub.ctx c).stopAt = none → t.hub.dome = s.hub.dome)) ∧
    (bitsOf (s.hub.domeWord (a + 4)) 0 5 ≤ 24 → depth ≤ 64 → dir ≠ 3 →
     (let x := v.toInt; let hyst : Int := (s.hub.domeWord (a + 8)).toNat
      let top := turning a (depth - 1) s; let below := turning a (depth - 2) s
      ∃ t, exec (.measurementComplete c k) s = .next t ∧
       (∀ y, y < a + 12 ∨ a + 0x4140 ≤ y → t.hub.domeByte y = s.hub.domeByte y) ∧
       (m = 2 → measured c k d 0#32 s t ∧ flowState a 0 false 0 cand t ∧ (t.hub.domeWord (a + 12)).getLsbD 10 = false ∧
         flowStill a s t) ∧
       (m = 1 → dir = 0 → measured c k d (wd (depth - 1)) s t ∧ flowState a 0 false 0 cand t ∧
         t.hub.domeWord (a + 0x14) = s.hub.domeWord (a + 0x14) + wd (depth - 1) ∧
         (depth = 2 → flowCounts a below top 1 s t)) ∧
       (m = 0 → have_ = false → depth = 0 → measured c k d 0#32 s t ∧ flowState a dir true 1 cand t ∧ turning a 0 t = x ∧
         flowStill a s t) ∧
       (m = 0 → have_ = true → dir = 0 → 0 < depth → measured c k d 0#32 s t ∧ flowStill a s t ∧
         (if hyst < ((x - top).natAbs : Int) then flowState a (if top < x then 1 else 2) true depth x t
          else flowState a 0 true depth cand t)) ∧
       (m = 0 → have_ = true → (dir = 1 ∧ x ≤ cand ∧ cand - x ≤ hyst) ∨ (dir = 2 ∧ cand ≤ x ∧ x - cand ≤ hyst) →
         measured c k d 0#32 s t ∧ flowStill a s t ∧ flowState a dir true depth cand t) ∧
       (m = 0 → have_ = true → (dir = 1 ∧ cand < x) ∨ (dir = 2 ∧ x < cand) →
         measured c k d 0#32 s t ∧ flowStill a s t ∧ flowState a dir true depth x t) ∧
       (m = 0 → have_ = true → (dir = 1 ∧ hyst < cand - x) ∨ (dir = 2 ∧ hyst < x - cand) →
         (depth < 64 → (2 ≤ depth → (cand - top).natAbs < (top - below).natAbs) →
           measured c k d 0#32 s t ∧ flowStill a s t ∧ flowState a (3 - dir) true (depth + 1) x t ∧ turning a depth t = cand) ∧
         (depth = 2 → (top - below).natAbs ≤ (cand - top).natAbs →
           measured c k d 1#32 s t ∧ flowCounts a below top 1 s t ∧ flowState a (3 - dir) true 2 x t ∧
           turning a 0 t = top ∧ turning a 1 t = cand) ∧
         (2 < depth → depth < 64 → (top - below).natAbs ≤ (cand - top).natAbs →
           (3 < depth → (cand - turning a (depth - 3) s).natAbs < (turning a (depth - 3) s - turning a (depth - 4) s).natAbs) →
           measured c k d 2#32 s t ∧ flowCounts a below top 2 s t ∧ flowState a (3 - dir) true (depth - 1) x t ∧
           turning a (depth - 2) t = cand) ∧
         (depth = 64 → (cand - top).natAbs < (top - below).natAbs →
           measured c k d 1#32 s t ∧ flowCounts a (turning a 0 s) (turning a 1 s) 1 s t ∧ flowState a (3 - dir) true 64 x t ∧
           (t.hub.domeWord (a + 12)).getLsbD 10 = true ∧ turning a 63 t = cand ∧
           ∀ j, j < 63 → turning a j t = turning a (j + 1) s)))))

/-- Issued with nothing they use pending: TIME asks for T, and TIME_REPLY writes the oldest request's time into its
triple; WAITT waits for a later valid target and WAITT_RESUME ends the wait at it; ALARM arms with the plan's action
and mask, or disarms, a due alarm firing first; ARM, DISARM and FIRE act on a unit; MIRROR does nothing on a standby,
and leaves a copy waiting where no TWIN lane takes it; POST fills a channel of this Turret, TAKEMB empties one; LOCKA
takes a free lock and LOCKR frees it, waiting for earlier stores; YIELD goes to WAIT or on to a pending activation at
CTX_ENTRY; HALT halts without a fault code (each to IDLE where a stop has met the activation); NOP only goes on. Each
faults with the code its entry gives. An undefined word halts with EUNKNOWN, a PC beyond COUNT with ERANGE, an
exceeded budget with EBUDGET; a pending register only stalls. Where the spec leaves a reading open, the model's is
that of log entries 15, 16, 28 and 55. -/
def Obligations.TimeCaptureAndFlowInstructions : Prop :=
  (∀ (s : State) (c : CtxIx) (d : Fin 14), comesTo c (.time d) 1 { g := [d, d + 1, d + 2] } s →
    ∃ t, exec (.amixelTime c) s = .next t ∧ t.hub.pc c = (s.hub.pc c + 1) % 2 ^ 14 ∧ counted c 1 s t ∧
      (t.hub.ctx c).timeReqs = (s.hub.ctx c).timeReqs ++ [(d.val, s.hub.timeAt s.raw.toNat)] ∧
      regsKept (issueReg c) s t ∧ t.hub.dome = s.hub.dome) ∧
  (∀ (s : State) (c : CtxIx) (d : Fin 14) (x : Nat) (q : List (Nat × Nat)), s.hub.sys.powered = true →
    (s.hub.ctx c).timeReqs = (d.val, x) :: q →
    ∃ t, exec (.timeReply c) s = .next t ∧ t.hub.g c d = kxWord x 0 ∧ t.hub.g c (d.val + 1) = kxWord x 1 ∧
      t.hub.g c (d.val + 2) = kxWord x 2 ∧ (t.hub.ctx c).timeReqs = q ∧
      regsKept (fun a => a == Addr.CTX_G (c / 64) (c % 64) d || a == Addr.CTX_G (c / 64) (c % 64) (d.val + 1) ||
        a == Addr.CTX_G (c / 64) (c % 64) (d.val + 2)) s t ∧ t.hub.dome = s.hub.dome) ∧
  (∀ (s : State) (c : CtxIx) (a : Fin 14), comesTo c (.waitt a) 1 { g := [a, a + 1, a + 2] } s →
    (let w0 := s.hub.g c a; let w1 := s.hub.g c (a.val + 1); let w2 := s.hub.g c (a.val + 2)
     (999999999 < kxNs w0 w1 w2 → ∃ t, exec (.amixelWaitt c) s = .next t ∧ faulted c 1 ERANGE s t) ∧
     (kxNs w0 w1 w2 ≤ 999999999 → instOf w0 w1 w2 ≤ s.hub.timeAt s.raw.toNat →
       ∃ t, exec (.amixelWaitt c) s = .next t ∧ faulted c 1 ETIME s t) ∧
     (kxNs w0 w1 w2 ≤ 999999999 → s.hub.timeAt s.raw.toNat < instOf w0 w1 w2 →
       ∃ t, exec (.amixelWaitt c) s = .next t ∧ (t.hub.ctx c).waitt = some (instOf w0 w1 w2) ∧
         t.hub.canIssue c = false ∧ t.hub.pc c = (s.hub.pc c + 1) % 2 ^ 14 ∧ counted c 1 s t ∧ regsKept (issueReg c) s t))) ∧
  (∀ (s : State) (c : CtxIx) (x : Nat), s.hub.sys.powered = true → (s.hub.ctx c).waitt = some x →
    (x ≤ s.hub.timeAt s.raw.toNat → ∃ t, exec (.waittResume c) s = .next t ∧
      t.hub.ctx c = { s.hub.ctx c with waitt := none } ∧ (∀ y, y ≠ c.val → t.hub.ctx y = s.hub.ctx y) ∧
      t = { s with hub := { s.hub with ctxs := t.hub.ctxs } }) ∧
    (s.hub.timeAt s.raw.toNat < x → exec (.waittResume c) s = .next s)) ∧
  (∀ (s : State) (c : CtxIx) (a : Fin 14) (n : Fin 16), comesTo c (.alarmArm a n) 1 { g := [a, a + 1, a + 2] } s →
    (let w0 := s.hub.g c a; let w1 := s.hub.g c (a.val + 1); let w2 := s.hub.g c (a.val + 2)
     (n.val = 15 → ∃ t, exec (.amixelAlarm c) s = .next t ∧ faulted c 1 ELOCKED s t) ∧
     (n.val ≠ 15 → s.hub.armed n = true → s.hub.timeAt s.raw.toNat < (SMap.get {} s.hub.lan.alarms n).target →
       ∃ t, exec (.amixelAlarm c) s = .next t ∧ faulted c 1 ESTATE s t) ∧
     (n.val ≠ 15 → s.hub.armed n = false → kxNs w0 w1 w2 ≤ 999999999 → s.hub.almPeriod n = 0 →
       (instOf w0 w1 w2 < s.hub.timeAt s.raw.toNat + 100 * nsU →
         ∃ t, exec (.amixelAlarm c) s = .next t ∧ faulted c 1 ETIME s t) ∧
       (s.hub.timeAt s.raw.toNat + 100 * nsU ≤ instOf w0 w1 w2 →
         ∃ t, exec (.amixelAlarm c) s = .next t ∧ t.hub.armed n = true ∧ SMap.get {} t.hub.lan.alarms n =
           { target := instOf w0 w1 w2, per := 0, action := s.hub.fld (Addr.ALM_ACTION n) 0 4,
             capmask := s.hub.rd (Addr.ALM_CAPMASK n) } ∧ t.hub.pc c = (s.hub.pc c + 1) % 2 ^ 14 ∧ counted c 1 s t ∧
           regsKept (fun x => issueReg c x || x == Addr.ALM_STATUS n) s t)))) ∧
  (∀ (s : State) (c : CtxIx) (n : Fin 16), comesTo c (.alarmDisarm n) 1 {} s → n.val ≠ 15 →
    (s.hub.armed n = true → s.hub.timeAt s.raw.toNat < (SMap.get {} s.hub.lan.alarms n).target →
      ∃ t, exec (.amixelAlarm c) s = .next t ∧ t.hub.armed n = false ∧
        issued c 1 (s.hub.pc c + 1) (fun x => x == Addr.ALM_STATUS n) s t) ∧
    (s.hub.armed n = true → (SMap.get {} s.hub.lan.alarms n).target ≤ s.hub.timeAt s.raw.toNat →
      ∃ t, exec (.amixelAlarm c) s = .next t ∧ t.hub.armed n = false ∧
        t.hub.rd (Addr.ALM_FIRE_CNT n) = s.hub.rd (Addr.ALM_FIRE_CNT n) + 1#32) ∧
    (s.hub.armed n = false → ∃ t, exec (.amixelAlarm c) s = .next t ∧ faulted c 1 ESTATE s t)) ∧
  (∀ (s : State) (c : CtxIx) (u : UnitSel), comesTo c (.armUnit u) 1 { g := u.srcs } s →
    (let n := s.hub.unitOf c u
     (s.hub.running = true → s.hub.capState n = capDISARMED →
       s.hub.capConfigOk n (fun g => (s.hub.chan g).jShift) = true → s.hub.capPlaced n = true → 1 ≤ s.hub.nrec n →
       (s.hub.unit n).recs = [] →
       ∃ t, exec (.amixelArmUnit c) s = .next t ∧ t.hub.capState n = capARMED ∧
         t.hub.fld (Addr.CAP_STATE n) 8 4 = c.val / 64 + 1 ∧ t.hub.fld (Addr.CAP_STATE n) 12 8 = c.val ∧
         t.hub.pc c = (s.hub.pc c + 1) % 2 ^ 14 ∧ counted c 1 s t ∧
         (∀ x, x < s.hub.capBase n ∨ s.hub.capBase n + s.hub.recBytes n ≤ x → t.hub.domeByte x = s.hub.domeByte x) ∧
         regsKept (fun x => issueReg c x || x == Addr.CAP_STATE n || x == Addr.CAP_SLOTS n) s t) ∧
     (s.hub.running = true → s.hub.capState n ≠ capDISARMED → ∃ t, exec (.amixelArmUnit c) s = .next t ∧
       faulted c 1 (if s.hub.fld (Addr.CAP_STATE n) 8 4 = c.val / 64 + 1 ∧ s.hub.fld (Addr.CAP_STATE n) 12 8 = c.val
         then ESTATE else EBUSY) s t))) ∧
  (∀ (s : State) (c : CtxIx) (u : UnitSel), comesTo c (.disarmUnit u) 1 { g := u.srcs } s →
    (let n := s.hub.unitOf c u
     (s.hub.capState n = capARMED → s.hub.fld (Addr.CAP_STATE n) 8 4 = c.val / 64 + 1 →
       s.hub.fld (Addr.CAP_STATE n) 12 8 = c.val → ∃ t, exec (.amixelDisarmUnit c) s = .next t ∧
         t.hub.capState n = capDISARMED ∧ issued c 1 (s.hub.pc c + 1) (fun x => x == Addr.CAP_STATE n) s t) ∧
     (s.hub.capState n ≠ capDISARMED → (s.hub.fld (Addr.CAP_STATE n) 8 4 ≠ c.val / 64 + 1 ∨
         s.hub.fld (Addr.CAP_STATE n) 12 8 ≠ c.val) →
       ∃ t, exec (.amixelDisarmUnit c) s = .next t ∧ faulted c 1 EBUSY s t) ∧
     (s.hub.capState n = capDISARMED → ∃ t, exec (.amixelDisarmUnit c) s = .next t ∧ faulted c 1 ESTATE s t))) ∧
  (∀ (s : State) (c : CtxIx) (u : UnitSel),
    (let n := s.hub.unitOf c u
     (comesTo c (.fireUnit u none) 1 { g := u.srcs } s → s.hub.capState n ≠ capDISARMED →
       ∃ t, exec (.amixelFireUnit c) s = .next t ∧ (t.hub.unit n).queue = (s.hub.unit n).queue ++
         [{ arrived := s.raw.toNat, time := s.hub.timeAt s.raw.toNat, src := 4, detail := c.val }] ∧
         t.hub.pc c = (s.hub.pc c + 1) % 2 ^ 14 ∧ counted c 1 s t ∧ regsKept (issueReg c) s t) ∧
     (comesTo c (.fireUnit u none) 1 { g := u.srcs } s → s.hub.capState n = capDISARMED →
       ∃ t, exec (.amixelFireUnit c) s = .next t ∧ faulted c 1 ESTATE s t) ∧
     (∀ b : Fin 14, comesTo c (.fireUnit u (some b)) 1 { g := u.srcs ++ [b.val, b.val + 1, b.val + 2] } s →
       s.hub.capState n ≠ capDISARMED →
       s.hub.timeAt s.raw.toNat < instOf (s.hub.g c b) (s.hub.g c (b.val + 1)) (s.hub.g c (b.val + 2)) →
       kxNs (s.hub.g c b) (s.hub.g c (b.val + 1)) (s.hub.g c (b.val + 2)) ≤ 999999999 →
       ∃ t, exec (.amixelFireUnit c) s = .next t ∧ faulted c 1 ETIME s t))) ∧
  (∀ (s : State) (c : CtxIx) (g w q : Nat),
    (s.hub.standby = true → comesTo c .mirror 2 {} s →
      ∃ t, exec (.amixelMirror c) s = .next t ∧ issued c 2 (s.hub.pc c + 1) (fun _ => false) s t) ∧
    (s.hub.standby = false → s.hub.ctxEntry c = none → comesTo c .mirror 2 {} s →
      ∃ t, exec (.amixelMirror c) s = .next t ∧ faulted c 2 ESTATE s t) ∧
    (s.hub.mirrors = true → s.hub.ctxEntry c = some (g, w, q) → SMap.find s.hub.sel.waiting c = none →
      s.hub.bit Addr.SEL_STATUS 13 = true →
      comesTo c .mirror 2 { g := maskBits 16 g, w := maskBits 4 w, q := maskBits 4 q } s →
      ∃ t, exec (.amixelMirror c) s = .next t ∧ t.hub.pc c = (s.hub.pc c + 1) % 2 ^ 14 ∧ counted c 2 s t ∧
        SMap.find t.hub.sel.waiting c = some (s.hub.takeCopy c g w q) ∧ t.hub.lanes = s.hub.lanes ∧
        regsKept (issueReg c) s t)) ∧
  (∀ (s : State) (c : CtxIx) (a : Fin 16) (ch : BoxIx), comesTo c (.post a ch) 1 { g := [a] } s →
    (s.hub.mbValid ch = true → s.hub.mbSender ch = c.val / 64 + 1 →
      (s.hub.mbFull ch = true → ∃ t, exec (.amixelPost c) s = .next t ∧ faulted c 1 EBUSY s t) ∧
      (s.hub.mbFull ch = false → (s.hub.mbReceiver ch = 0 ∨ 5 ≤ s.hub.mbReceiver ch) →
        ∃ t, exec (.amixelPost c) s = .next t ∧ t.hub.mbFull ch = true ∧ t.hub.rd (Addr.MB_PEEK ch) = s.hub.g c a ∧
          t.hub.dbGet 0 (s.hub.mbReceiver ch) ch = true ∧
          issued c 1 (s.hub.pc c + 1) (fun x => x == Addr.MB_PEEK ch || x == Addr.MB_STATUS ch ||
            x == dbAddr 0 (s.hub.mbReceiver ch) ch) s t)) ∧
    (s.hub.mbValid ch = false ∨ s.hub.mbSender ch ≠ c.val / 64 + 1 →
      ∃ t, exec (.amixelPost c) s = .next t ∧ faulted c 1 EBOUND s t ∧ logged 4 s t)) ∧
  (∀ (s : State) (c : CtxIx) (d : Fin 16) (ch : BoxIx), comesTo c (.takemb d ch) 1 { g := [d] } s →
    (s.hub.mbValid ch = true → s.hub.mbReceiver ch = c.val / 64 + 1 →
      (s.hub.mbFull ch = false → ∃ t, exec (.amixelTakemb c) s = .next t ∧ faulted c 1 ESTATE s t) ∧
      (s.hub.mbFull ch = true → ∃ t, exec (.amixelTakemb c) s = .next t ∧ t.hub.g c d = s.hub.rd (Addr.MB_PEEK ch) ∧
        t.hub.mbFull ch = false ∧ t.hub.dbGet 0 (c.val / 64 + 1) ch = false ∧
        issued c 1 (s.hub.pc c + 1) (fun x => x == Addr.CTX_G (c / 64) (c % 64) d || x == Addr.MB_STATUS ch ||
          x == Addr.MB_LASTREAD ch || x == dbAddr 0 (c.val / 64 + 1) ch || x == dbAddr 1 (s.hub.mbSender ch) ch) s t)) ∧
    (s.hub.mbValid ch = false ∨ s.hub.mbReceiver ch ≠ c.val / 64 + 1 →
      ∃ t, exec (.amixelTakemb c) s = .next t ∧ faulted c 1 EBOUND s t)) ∧
  (∀ (s : State) (c : CtxIx) (l : LockIx), comesTo c (.locka l) 1 {} s → s.hub.lockCtx l = none →
    (s.hub.lockHeld l = false → ∃ t, exec (.amixelLocka c) s = .next t ∧ t.hub.lockHeld l = true ∧
      t.hub.lockOwner l = c.val / 64 + 1 ∧ t.hub.lockCtx l = some c.val ∧ t.hub.pc c = (s.hub.pc c + 1) % 2 ^ 14 ∧
      counted c 1 s t ∧ regsKept (fun x => issueReg c x || x == Addr.LOCK_PEEK l) s t) ∧
    (s.hub.lockHeld l = true → ∃ t, exec (.amixelLocka c) s = .next t ∧ faulted c 1 EBUSY s t)) ∧
  (∀ (s : State) (c : CtxIx) (l : LockIx), comesTo c (.lockr l) 1 {} s →
    (let w := (s.hub.ctx c).acc.any fun a => match a with | .store _ _ _ => true | _ => false
     (w = false → s.hub.lockCtx l = some c.val → ∃ t, exec (.amixelLockr c) s = .next t ∧ t.hub.lockHeld l = false ∧
       t.hub.lockCtx l = none ∧ t.hub.pc c = (s.hub.pc c + 1) % 2 ^ 14 ∧ counted c 1 s t ∧
       regsKept (fun x => issueReg c x || x == Addr.LOCK_PEEK l) s t) ∧
     (w = false → s.hub.lockCtx l ≠ some c.val → ∃ t, exec (.amixelLockr c) s = .next t ∧ faulted c 1 ESTATE s t) ∧
     (w = true → exec (.amixelLockr c) s =
       .next { s with hub := s.hub.setCtx c { s.hub.ctx c with stalled := true } }))) ∧
  (∀ (s : State) (c : CtxIx), comesTo c .yield_ 1 {} s → SMap.find s.hub.sel.copies c = none →
    (s.hub.fld (Addr.CTX_PEND (c / 64) (c % 64)) 0 16 = 0 → ∃ t, exec (.amixelYield c) s = .next t ∧
      endsIn c .wait s t ∧ counted c 1 s t ∧ ((s.hub.ctx c).stopAt = none → regsKept (issueReg c) s t)) ∧
    ((s.hub.ctx c).stopAt = none → s.hub.fld (Addr.CTX_PEND (c / 64) (c % 64)) 0 16 ≠ 0 → ∃ t, exec (.amixelYield c) s = .next t ∧
      (t.hub.ctx c).st = .ready ∧ (t.hub.ctx c).slots = 0 ∧
      t.hub.pc c = s.hub.fld (Addr.CTX_ENTRY (c / 64) (c % 64)) 0 14 ∧
      t.hub.fld (Addr.CTX_PEND (c / 64) (c % 64)) 0 16 = s.hub.fld (Addr.CTX_PEND (c / 64) (c % 64)) 0 16 - 1 ∧
      t.hub.rd (Addr.CTX_ACT_CNT (c / 64) (c % 64)) = s.hub.rd (Addr.CTX_ACT_CNT (c / 64) (c % 64)) + 1#32 ∧
      regsKept (fun x => issueReg c x || x == Addr.CTX_PEND (c / 64) (c % 64) || x == Addr.CTX_ACT_CNT (c / 64) (c % 64)) s t)) ∧
  (∀ (s : State) (c : CtxIx), comesTo c .halt 1 {} s → ∃ t, exec (.amixelHalt c) s = .next t ∧
    endsIn c .halted s t ∧ counted c 1 s t ∧
    t.hub.rd (Addr.CTX_FAULT (c / 64) (c % 64)) = s.hub.rd (Addr.CTX_FAULT (c / 64) (c % 64)) ∧
    ((s.hub.ctx c).stopAt = none → (∀ l, l < 32 → s.hub.lockCtx l ≠ some c.val) → regsKept (issueReg c) s t)) ∧
  (∀ (s : State) (c : CtxIx), comesTo c .nop 1 {} s →
    ∃ t, exec (.amixelNop c) s = .next t ∧ issued c 1 (s.hub.pc c + 1) (fun _ => false) s t) ∧
  (∀ (s : State) (c : CtxIx), s.hub.sys.powered = true → s.hub.canIssue c = true → s.hub.fetched c = none →
    ∃ t, exec (.undefinedWordIssue c) s = .next t ∧
      haltedBy c (if s.hub.pc c < s.hub.codeCount c then EUNKNOWN else ERANGE) s t) ∧
  (∀ (s : State) (c : CtxIx), s.hub.sys.powered = true → s.hub.canIssue c = true → s.hub.fetched c = some .nop →
    s.hub.fld (Addr.CTX_BUDGET (c / 64) (c % 64)) 0 24 < (s.hub.ctx c).slots + 1 →
    ∃ t, exec (.amixelNop c) s = .next t ∧ haltedBy c EBUDGET s t ∧
      t.hub.rd (Addr.TUR_ISSUE_CNT (c / 64)) = s.hub.rd (Addr.TUR_ISSUE_CNT (c / 64))) ∧
  (∀ (s : State) (c : CtxIx) (d a b : Fin 16), s.hub.sys.powered = true → s.hub.canIssue c = true →
    s.hub.fetched c = some (.add d a b) →
    (s.hub.ctx c).slots + 1 ≤ s.hub.fld (Addr.CTX_BUDGET (c / 64) (c % 64)) 0 24 →
    s.hub.stalls c { g := [d, a, b] } = true →
    exec (.amixelAdd c) s = .next { s with hub := s.hub.setCtx c { s.hub.ctx c with stalled := true } })

/-- LOAD_PLAN in BOOT, ARMED, RUN, SHADOW and SERVICE with a plan running is answered ESTATE with the mode's code,
counted, and loads nothing. Where a check of steps 1 to 11 fails, the response and PLAN_STATUS carry its status and
record index, the failure is logged in class PLAN, and the plan, the contexts and the Dome are as before; of the
loader only its load buffer moves, which takes an image that step 1 passes; an image whose LENGTH is not the one given
fails with ESIZE, a wrong MAGIC with ESIG, a wrong version with EVERSION, each with index 0xFFFF. Where all checks
pass and SETUP is empty, the response is OK with 0xFFFF, PLAN_STATUS shows LOADED, PLAN_ID, PLAN_REV and PLAN_SIGNED
show the image's, and the Turrets hold its code. (The image's LENGTH must equal the length read: the model's reading,
see the log.) Where the spec leaves a reading open, the model's is that of log entries 31, 32, 33, 34 and 35. -/
def Obligations.PlansAreCheckedAndLoaded : Prop :=
  (∀ (s : State) (ch : BoxIx) (slot : Nat), commandWaits ch 0x10 slot s →
    (s.hub.mode ≠ .idle ∧ (s.hub.mode ≠ .service ∨ s.hub.servicePlan = true)) →
    ∃ t, exec (.loadPlan ch) s = .next t ∧ answered ch ESTATE s.hub.mode.code s t ∧ t.hub.sys = sysAnswered ch s ∧
      t.hub.dome = s.hub.dome ∧ t.hub.rd Addr.SYS_PLAN_STATUS = s.hub.rd Addr.SYS_PLAN_STATUS ∧
      t.hub.fld Addr.SYS_CMD_REJECT 0 16 = min (s.hub.fld Addr.SYS_CMD_REJECT 0 16 + 1) 65535) ∧
  (∀ (s : State) (ch : BoxIx) (slot : Nat), commandWaits ch 0x10 slot s →
    (s.hub.mode = .idle ∨ (s.hub.mode = .service ∧ s.hub.servicePlan = false)) → slot ≤ 255 →
    (let h := s.hub.commandTake ch
     let a := (s.hub.slotWord slot 0).toNat; let n := (s.hub.slotWord slot 1).toNat
     (∀ st ix, h.checkPlan a n = .error (st, ix) → st < 256 → ix < 65536 →
       ∃ t, exec (.loadPlan ch) s = .next t ∧ answered ch st ix s t ∧
         t.hub.fld Addr.SYS_PLAN_STATUS 8 8 = st ∧ t.hub.fld Addr.SYS_PLAN_STATUS 16 16 = ix ∧
         t.hub.planLoaded = s.hub.planLoaded ∧ logged 8 s t ∧ t.hub.dome = s.hub.dome ∧
         t.hub.sys = { sysAnswered ch s with planBuf := if s.hub.planPlaced a n then (List.range n).map (fun i => s.hub.domeByte (a + i))
                                                 else s.hub.sys.planBuf } ∧
         t.hub.mode = s.hub.mode) ∧
     ((s.hub.domeWord (a + 8)).toNat ≠ n → h.checkPlan a n = .error (ESIZE, 0xFFFF)) ∧
     (a % 8 = 0 → 160 ≤ n → n ≤ 2097152 → a + n ≤ domeSize → (s.hub.domeWord (a + 8)).toNat = n →
       ((s.hub.domeWord a).toNat ≠ 0x4E414C50 → h.checkPlan a n = .error (ESIG, 0xFFFF)) ∧
       ((s.hub.domeWord a).toNat = 0x4E414C50 → (s.hub.domeWord (a + 4)).toNat ≠ 2 →
         h.checkPlan a n = .error (EVERSION, 0xFFFF))) ∧
     (∀ c, h.checkPlan a n = .ok c → c.img.sz 0 = 0 →
       ∃ t, exec (.loadPlan ch) s = .next t ∧ answered ch OK 0xFFFF s t ∧ t.hub.planLoaded = true ∧
         t.hub.fld Addr.SYS_PLAN_STATUS 8 24 = 0xFFFF00 ∧ t.hub.rd Addr.SYS_PLAN_ID = s.hub.domeWord (a + 16) ∧
         t.hub.rd Addr.SYS_PLAN_REV = s.hub.domeWord (a + 20) ∧ t.hub.bit Addr.SYS_PLAN_SIGNED 0 = c.proven ∧
         t.hub.mode = s.hub.mode ∧
         ∀ (u : TurretIx) (i : Nat), i < (c.code.getD u (0, 0)).2 → i < 16384 →
           t.hub.codeWord u i = c.img.w ((c.code.getD u (0, 0)).1 + 4 * i))))

/-- The oldest element on its way to a port with room is stored in its buffer, value first, then flags and index, and no
other byte changes; at a full buffer nothing is stored, and the interval of the instants lost so far is kept. An
element on the only channel port of a context in WAIT that it activates as STREAM starts it: READY, PC at CTX_ENTRY,
no slots used, one activation counted. A paced activation is released once 1 / CTX_RATE has passed and not before.
HALT by CTX_CTRL halts a READY context (to IDLE where a stop has met its activation) and no other; RESTART takes a
HALTED one to WAIT in RUN and SHADOW, else to IDLE, with the fault code and the pending activations cleared and the
buffers empty. TURRET_RESET is answered OK and holds the Turret, its clock gated, the events in the crossings towards
it gone, its input buffers as they were: PC, CTX_FAULT, CTX_PEND, CTX_SLOTS_MAX and CTX_FAULT_CNT of its contexts
become 0, used contexts go to IDLE without waits, requests or accesses, a g or w register takes the value SETUP gives
it, and the other registers and q stay; the Dome does not change where no activation ends a run. TURRET_RESET_END
releases it; contexts resume in WAIT in RUN and SHADOW. TURRET_UNGATE in a free inrush slot ungates the lowest waiting
Turret, and does nothing before. Where the spec leaves a reading open, the model's is that of log entries 3, 17 and
18. -/
def Obligations.ContextsActivateHaltAndRestart : Prop :=
  (∀ (s : State) (c : CtxIx) (p : Fin 32) (e : PortElem) (q : List (Nat × Nat × PortElem)) (base : Nat),
    s.hub.sys.powered = true → s.hub.stageIn = (c.val, p.val, e) :: q → s.hub.stageBase c p = some base →
    base + 8 * s.hub.portCap c p ≤ domeSize → e.flags < 256 → (s.hub.ctx c).trig = [] →
    (let b := (s.hub.ctx c).buf p; let a := base + 8 * (b.wr % s.hub.portCap c p)
     (b.fill < s.hub.portCap c p → ¬((s.hub.actKind c = 1 ∨ s.hub.actKind c = 2) ∧ s.hub.actSrc c = p.val) →
       ∃ t, exec .stageElementArrive s = .next t ∧ t.hub.stageIn = q ∧ t.hub.domeWord a = e.value ∧
         t.hub.domeWord (a + 4) = wd (e.flags + 256 * (e.k % 2 ^ 24)) ∧
         (∀ x, x < a ∨ a + 8 ≤ x → t.hub.domeByte x = s.hub.domeByte x) ∧
         ((t.hub.ctx c).buf p).fill = b.fill + 1 ∧ ((t.hub.ctx c).buf p).kref = e.k ∧ (t.hub.ctx c).st = (s.hub.ctx c).st ∧
         (∀ y, y ≠ c.val → t.hub.ctx y = s.hub.ctx y) ∧ regsKept (fun y => y == Addr.TUR_BACKLOG_MAX (c / 64)) s t) ∧
     (s.hub.portCap c p ≤ b.fill → ∃ t, exec .stageElementArrive s = .next t ∧ t.hub.stageIn = q ∧
       t.hub.dome = s.hub.dome ∧ ((t.hub.ctx c).buf p).fill = b.fill ∧
       ((t.hub.ctx c).buf p).lost = some ((b.lost.map Prod.fst).getD (s.hub.portInstant c p e.k), s.hub.portInstant c p e.k) ∧
       ((t.hub.ctx c).buf p).kref = e.k ∧ (t.hub.ctx c).st = (s.hub.ctx c).st ∧
       regsKept (fun y => y == Addr.TUR_BACKLOG_MAX (c / 64)) s t) ∧
     (b.fill < s.hub.portCap c p → s.hub.actKind c = 1 → s.hub.actSrc c = p.val → (s.hub.ctx c).st = .wait →
       (∀ y, y < 32 → y ≠ p.val → s.hub.portKind c y ≠ 1) → SMap.find s.hub.sel.copies c = none →
       ∃ t, exec .stageElementArrive s = .next t ∧ (t.hub.ctx c).st = .ready ∧ (t.hub.ctx c).slots = 0 ∧
         t.hub.pc c = s.hub.fld (Addr.CTX_ENTRY (c / 64) (c % 64)) 0 14 ∧ t.hub.domeWord a = e.value ∧
         t.hub.rd (Addr.CTX_ACT_CNT (c / 64) (c % 64)) = s.hub.rd (Addr.CTX_ACT_CNT (c / 64) (c % 64)) + 1#32))) ∧
  (∀ (s : State) (c : CtxIx), s.hub.sys.powered = true → SMap.find s.hub.sel.copies c = none →
    ((s.hub.ctx c).paced = true → s.hub.paceOver s.raw.toNat c = true → (s.hub.ctx c).st = .wait →
      ∃ t, exec (.activationPacingRelease c) s = .next t ∧ (t.hub.ctx c).st = .ready ∧ (t.hub.ctx c).paced = false ∧
        (t.hub.ctx c).lastAct = some (s.hub.timeAt s.raw.toNat) ∧
        t.hub.pc c = s.hub.fld (Addr.CTX_ENTRY (c / 64) (c % 64)) 0 14 ∧ t.hub.dome = s.hub.dome ∧
        regsKept (fun x => x == Addr.CTX_PC (c / 64) (c % 64) || x == Addr.CTX_ACT_CNT (c / 64) (c % 64)) s t) ∧
    ((s.hub.ctx c).paced = false ∨ s.hub.paceOver s.raw.toNat c = false →
      exec (.activationPacingRelease c) s = .next s)) ∧
  (∀ (s : State) (m : MasterIx) (c : CtxIx) (v : Word), s.hub.sys.powered = true →
    s.hub.accessOk m true (Addr.CTX_CTRL (c / 64) (c % 64)) 4 = true →
    (v.getLsbD 0 = false → ∃ t, exec (.ctxCtrlHalt m c v) s = .next t ∧
      ((s.hub.ctx c).st = .ready → endsIn c .halted s t ∧ (t.hub.ctx c).waitt = none) ∧
      ((s.hub.ctx c).st ≠ .ready → t = { s with hub := s.hub.setOk m true }) ∧
      t.hub.rd (Addr.CTX_FAULT (c / 64) (c % 64)) = s.hub.rd (Addr.CTX_FAULT (c / 64) (c % 64)) ∧
      ((s.hub.ctx c).stopAt = none → t.hub.dome = s.hub.dome) ∧
      (∀ y, y ≠ c.val → t.hub.ctx y = s.hub.ctx y) ∧
      ((s.hub.ctx c).stopAt = none → (∀ l, l < 32 → s.hub.lockCtx l ≠ some c.val) → regsKept (fun _ => false) s t)) ∧
    (v.getLsbD 1 = false → SMap.find s.hub.sel.copies c = none → (∀ l, l < 32 → s.hub.lockCtx l ≠ some c.val) →
      ∃ t, exec (.ctxCtrlRestart m c v) s = .next t ∧
        ((s.hub.ctx c).st = .halted →
          (t.hub.ctx c).st = (if s.hub.mode = .run ∨ s.hub.mode = .shadow then .wait else .idle) ∧
          t.hub.fld (Addr.CTX_FAULT (c / 64) (c % 64)) 0 8 = 0 ∧ t.hub.rd (Addr.CTX_PEND (c / 64) (c % 64)) = 0#32 ∧
          (t.hub.ctx c).trig = [] ∧ ∀ p, ((t.hub.ctx c).buf p).fill = 0 ∧
            ((t.hub.ctx c).buf p).kref = ((s.hub.ctx c).buf p).kref) ∧
        ((s.hub.ctx c).st ≠ .halted → t = { s with hub := s.hub.setOk m true }) ∧ t.hub.dome = s.hub.dome ∧
        (∀ y, y ≠ c.val → t.hub.ctx y = s.hub.ctx y) ∧
        regsKept (fun x => x == Addr.CTX_FAULT (c / 64) (c % 64) || x == Addr.CTX_PEND (c / 64) (c % 64)) s t)) ∧
  (∀ (s : State) (ch : BoxIx) (u : TurretIx), commandWaits ch 0x70 u s → s.hub.mode ≠ .boot →
    ∃ t, exec (.turretReset ch) s = .next t ∧ answered ch OK 0 s t ∧ t.hub.sys.turHeld.contains u.val = true ∧
      t.hub.sys.ungated.contains u.val = false ∧
      ((∀ l, l < 64 → (s.hub.ctx (64 * u.val + l)).stopAt = none) → t.hub.dome = s.hub.dome) ∧ t.hub.mode = s.hub.mode ∧
      t.hub.rd (Addr.RESET_EPOCH (u.val + 1)) = putBits (s.hub.rd (Addr.RESET_EPOCH (u.val + 1))) 0 8
        (s.hub.fld (Addr.RESET_EPOCH (u.val + 1)) 0 8 + 1) ∧
      t.hub.rd (Addr.TUR_ISSUE_CNT u) = 0#32 ∧ t.hub.rd (Addr.TUR_IDLE_CNT u) = 0#32 ∧
      t.hub.rd (Addr.TUR_STALL_CNT u) = 0#32 ∧
      ∀ l : Fin 64, (let c := 64 * u.val + l.val
        SMap.find t.hub.ctl.toggles c = none ∧ t.hub.rd (Addr.CTX_PC u l) = 0#32 ∧ t.hub.rd (Addr.CTX_FAULT u l) = 0#32 ∧
        t.hub.rd (Addr.CTX_PEND u l) = 0#32 ∧ t.hub.rd (Addr.CTX_SLOTS_MAX u l) = 0#32 ∧
        t.hub.rd (Addr.CTX_FAULT_CNT u l) = 0#32 ∧ (∀ j, j < 4 → t.hub.q c j = s.hub.q c j) ∧
        ((s.hub.ctx c).st ≠ .unused →
          ((s.hub.ctx c).stopAt = none → (t.hub.ctx c).bufs = (s.hub.ctx c).bufs) ∧
          (t.hub.ctx c).st = .idle ∧ (t.hub.ctx c).acc = [] ∧ (t.hub.ctx c).timeReqs = [] ∧ (t.hub.ctx c).waitt = none ∧
          ∀ a, (a ∈ (List.range 16).map (Addr.CTX_G u l) ∨ a ∈ (List.range 4).flatMap
              (fun j => [Addr.CTX_W_LO u l j, Addr.CTX_W_MID u l j, Addr.CTX_W_HI u l j])) →
            ((∀ x ∈ s.hub.sys.plan.setup, x.1 ≠ a) → t.hub.rd a = s.hub.rd a) ∧
            ∀ v, (a, v) ∈ s.hub.sys.plan.setup → (∀ x ∈ s.hub.sys.plan.setup, x.1 = a → x.2 = v) → t.hub.rd a = v))) ∧
  (∀ (s : State) (u : TurretIx), s.hub.sys.powered = true → s.hub.sys.turHeld.contains u.val = true →
    s.hub.rd (dbAddr 0 (u.val + 1) 0) = 0#32 → s.hub.rd (dbAddr 0 (u.val + 1) 32) = 0#32 →
    ∃ t, exec (.turretResetEnd u) s = .next t ∧ t.hub.sys.turHeld.contains u.val = false ∧ t.hub.dome = s.hub.dome ∧
      (s.hub.mode = .run ∨ s.hub.mode = .shadow → ∀ c ∈ s.hub.sys.plan.used, c / 64 = u.val →
        (t.hub.ctx c).st = .wait ∧ t.hub.bit Addr.INRUSH_PEND (16 + u) = true) ∧
      (s.hub.mode ≠ .run → s.hub.mode ≠ .shadow → t.hub.ctxs = s.hub.ctxs)) ∧
  (∀ (s : State) (u : TurretIx), s.hub.sys.powered = true → s.hub.sys.turHeld.contains u.val = false →
    exec (.turretResetEnd u) s = .next s) ∧
  (∀ (s : State) (u : TurretIx), s.hub.inrushFree s.raw.toNat = false → exec (.turretUngate u) s = .next s) ∧
  (∀ (s : State) (u : TurretIx), s.hub.sys.powered = true → s.hub.inrushFree s.raw.toNat = true →
    s.hub.bit Addr.INRUSH_PEND (16 + u) = true → (∀ x, x < u.val → s.hub.bit Addr.INRUSH_PEND (16 + x) = false) →
    ∃ t, exec (.turretUngate u) s = .next t ∧ t.hub.sys.ungated.contains u.val = true ∧
      t.hub.sys.inrushAt = some s.raw.toNat ∧ t.hub.bit Addr.INRUSH_PEND (16 + u) = false ∧ regsKept (fun a => a == Addr.INRUSH_PEND) s t ∧
      t.hub.ctxs = s.hub.ctxs ∧ t.hub.dome = s.hub.dome)

/-- For a permitted write of CAP_CTRL: ARM of a DISARMED unit without records, in RUN, SHADOW or SERVICE, its
configuration and allocation valid, arms it for the master and reports OK; of a unit that is armed it reports ESTATE
to its owner and EBUSY to another master, and of any unit in BOOT, IDLE or ARMED it reports ESTATE, with the unit as
it was. DISARM by the owner or BELFRY of an ARMED unit disarms it, of a RECORDING one it also queues the record for
measurement; another master gets EBUSY. FIRE hands an armed unit a trigger with the present time, source HOST and the
master as detail. RELEASE of a slot with a complete record under HOLD without delivery frees the slot, and arms a FULL
unit in it, marked invalid; otherwise ESTATE. CAP_RESULT holds the status and the master, and nothing but that unit,
its area's marks and those registers changes. Where the spec leaves a reading open, the model's is that of log entries
30 and 55. -/
def Obligations.CaptureUnitsByCommand : Prop :=
  (∀ (s : State) (m : MasterIx) (u : UnitIx) (v : Word), s.hub.sys.powered = true →
    s.hub.accessOk m true (Addr.CAP_CTRL u) 4 = true →
    (s.hub.mode = .run ∨ s.hub.mode = .shadow ∨ s.hub.mode = .service → s.hub.capState u = capDISARMED →
      s.hub.capConfigOk u (fun g => (s.hub.chan g).jShift) = true → s.hub.capPlaced u = true → 1 ≤ s.hub.nrec u →
      (s.hub.unit u).recs = [] →
      ∃ t, exec (.capCtrlArm m u v) s = .next t ∧ t.hub.rd (Addr.CAP_RESULT u) = wd (OK + 256 * m.val) ∧
        t.hub.capState u = capARMED ∧ t.hub.fld (Addr.CAP_STATE u) 8 4 = m.val ∧
        (∀ k, k ≠ u.val → t.hub.unit k = s.hub.unit k) ∧
        (∀ x, x < s.hub.capBase u ∨ s.hub.capBase u + s.hub.recBytes u ≤ x → t.hub.domeByte x = s.hub.domeByte x) ∧
        regsKept (fun a => a == Addr.CAP_STATE u || a == Addr.CAP_SLOTS u || a == Addr.CAP_RESULT u) s t) ∧
    (s.hub.mode = .run ∨ s.hub.mode = .shadow ∨ s.hub.mode = .service → s.hub.capState u ≠ capDISARMED →
      ∃ t, exec (.capCtrlArm m u v) s = .next t ∧ t.hub.rd (Addr.CAP_RESULT u) =
          wd ((if s.hub.fld (Addr.CAP_STATE u) 8 4 = m.val then ESTATE else EBUSY) + 256 * m.val) ∧
        t.hub.cape = s.hub.cape ∧ onlyStore m (fun a => a == Addr.CAP_RESULT u) s t) ∧
    (s.hub.mode = .boot ∨ s.hub.mode = .idle ∨ s.hub.mode = .armed →
      ∃ t, exec (.capCtrlArm m u v) s = .next t ∧ t.hub.rd (Addr.CAP_RESULT u) = wd (ESTATE + 256 * m.val) ∧
        onlyStore m (fun a => a == Addr.CAP_RESULT u) s t)) ∧
  (∀ (s : State) (m : MasterIx) (u : UnitIx) (v : Word), s.hub.sys.powered = true →
    s.hub.accessOk m true (Addr.CAP_CTRL u) 4 = true →
    (s.hub.capState u = capARMED → (s.hub.fld (Addr.CAP_STATE u) 8 4 = m.val ∨ m.val = 0) →
      ∃ t, exec (.capCtrlDisarm m u v) s = .next t ∧ t.hub.capState u = capDISARMED ∧
        t.hub.rd (Addr.CAP_RESULT u) = wd (OK + 256 * m.val) ∧
        onlyStore m (fun a => a == Addr.CAP_STATE u || a == Addr.CAP_RESULT u) s t) ∧
    (s.hub.capState u = capRECORDING → s.hub.capStream u = false →
      (s.hub.fld (Addr.CAP_STATE u) 8 4 = m.val ∨ m.val = 0) →
      ∃ t, exec (.capCtrlDisarm m u v) s = .next t ∧ t.hub.capState u = capDISARMED ∧
        t.hub.cape.measQ = s.hub.cape.measQ ++ [(u.val, s.hub.capSlot u)] ∧
        (∃ x, (t.hub.unit u).recs = (s.hub.unit u).recs ++ [x] ∧ x.slot = s.hub.capSlot u ∧ x.st = .closed ∧
          x.status.testBit 2 = true) ∧ t.hub.dome = s.hub.dome ∧
        regsKept (fun a => a == Addr.CAP_STATE u || a == Addr.CAP_RESULT u) s t) ∧
    (s.hub.capState u ≠ capDISARMED → s.hub.fld (Addr.CAP_STATE u) 8 4 ≠ m.val → m.val ≠ 0 →
      ∃ t, exec (.capCtrlDisarm m u v) s = .next t ∧ t.hub.rd (Addr.CAP_RESULT u) = wd (EBUSY + 256 * m.val) ∧
        onlyStore m (fun a => a == Addr.CAP_RESULT u) s t)) ∧
  (∀ (s : State) (m : MasterIx) (u : UnitIx) (v : Word), s.hub.sys.powered = true →
    s.hub.accessOk m true (Addr.CAP_CTRL u) 4 = true →
    (s.hub.capState u ≠ capDISARMED → ∃ t, exec (.capCtrlFire m u v) s = .next t ∧
      (t.hub.unit u).queue = (s.hub.unit u).queue ++
        [{ arrived := s.raw.toNat, time := s.hub.timeAt s.raw.toNat, src := 5, detail := m.val }] ∧
      t.hub.rd (Addr.CAP_RESULT u) = wd (OK + 256 * m.val) ∧ (∀ k, k ≠ u.val → t.hub.unit k = s.hub.unit k) ∧
      t.hub.dome = s.hub.dome ∧ regsKept (fun a => a == Addr.CAP_RESULT u) s t) ∧
    (s.hub.capState u = capDISARMED → ∃ t, exec (.capCtrlFire m u v) s = .next t ∧
      t.hub.rd (Addr.CAP_RESULT u) = wd (ESTATE + 256 * m.val) ∧ onlyStore m (fun a => a == Addr.CAP_RESULT u) s t)) ∧
  (∀ (s : State) (m : MasterIx) (u : UnitIx) (v : Word), s.hub.sys.powered = true →
    s.hub.accessOk m true (Addr.CAP_CTRL u) 4 = true →
    (s.hub.bit (Addr.CAP_CFG u) 16 = false → s.hub.bit (Addr.CAP_CFG u) 17 = false → s.hub.capState u ≠ capFULL →
      (∃ x ∈ (s.hub.unit u).recs, x.slot = bitsOf v 8 5 ∧ x.st = .complete) →
      ∃ t, exec (.capCtrlRelease m u v) s = .next t ∧ (∀ x ∈ (t.hub.unit u).recs, x.slot ≠ bitsOf v 8 5) ∧
        t.hub.bit (Addr.CAP_SLOTS u) (bitsOf v 8 5) = false ∧ t.hub.rd (Addr.CAP_RESULT u) = wd (OK + 256 * m.val) ∧
        t.hub.dome = s.hub.dome ∧ regsKept (fun a => a == Addr.CAP_SLOTS u || a == Addr.CAP_RESULT u) s t) ∧
    (s.hub.bit (Addr.CAP_CFG u) 16 = false → s.hub.bit (Addr.CAP_CFG u) 17 = false → s.hub.capState u = capFULL →
      (∃ x ∈ (s.hub.unit u).recs, x.slot = bitsOf v 8 5 ∧ x.st = .complete) → bitsOf v 8 5 < s.hub.nrec u →
      (∀ k, k < s.hub.nrec u → k ≠ bitsOf v 8 5 → ∃ x ∈ (s.hub.unit u).recs, x.slot = k) → s.hub.capStream u = false →
      s.hub.slotAddr u (bitsOf v 8 5) + s.hub.recBytes u ≤ domeSize →
      ∃ t, exec (.capCtrlRelease m u v) s = .next t ∧ t.hub.capState u = capARMED ∧ t.hub.capSlot u = bitsOf v 8 5 ∧
        (∀ x ∈ (t.hub.unit u).recs, x.slot ≠ bitsOf v 8 5) ∧ (t.hub.unit u).next = (t.hub.unit u).first ∧
        t.hub.bit (Addr.CAP_SLOTS u) (bitsOf v 8 5) = false ∧ t.hub.rd (Addr.CAP_RESULT u) = wd (OK + 256 * m.val) ∧
        t.hub.domeWord (s.hub.slotAddr u (bitsOf v 8 5)) = 0xFFFFFFFF#32 ∧
        t.hub.domeWord (s.hub.slotAddr u (bitsOf v 8 5) + s.hub.recBytes u - 8) = 0xFFFFFFFF#32 ∧
        (∀ x, x < s.hub.slotAddr u (bitsOf v 8 5) ∨ s.hub.slotAddr u (bitsOf v 8 5) + s.hub.recBytes u ≤ x →
          t.hub.domeByte x = s.hub.domeByte x) ∧
        regsKept (fun a => a == Addr.CAP_STATE u || a == Addr.CAP_SLOTS u || a == Addr.CAP_RESULT u) s t) ∧
    ((s.hub.bit (Addr.CAP_CFG u) 16 = true ∨ s.hub.bit (Addr.CAP_CFG u) 17 = true ∨
        ∀ x ∈ (s.hub.unit u).recs, x.slot = bitsOf v 8 5 → x.st ≠ .complete) →
      ∃ t, exec (.capCtrlRelease m u v) s = .next t ∧ t.hub.rd (Addr.CAP_RESULT u) = wd (ESTATE + 256 * m.val) ∧
        onlyStore m (fun a => a == Addr.CAP_RESULT u) s t))

/-- In its turn, a complete set of an ARMED unit is stored in its area, each sample in its bytes (S16 codes of RAW as they
are, 0 for a missing one), and no other byte changes; a set not complete, or out of turn, is not. The last set of a
RECORDING unit closes and queues the record; a later set that has found the FIFO full closes it with OVERFLOW and is
counted. A stream-through unit hands each set to the Ledger as it stores it, and a trailer with COUNT at the last. A
trigger later than every stored set takes an ARMED unit to PENDING and is counted TAKEN; else s0 is the first stored
set at or after its time: no longer in the area it is counted TOO_LATE, else the record opens with PRE_N the smaller
of CAP_PRE and the sets before s0 there, RECORDING, closed at once where its last set is stored; a stream-through unit
sends its header and its stored sets. In CLOSING a trigger is counted MISSED_REARM, in FULL MISSED_FULL, else BUSY,
each missed; a DISARMED unit drops it. CAPTURE_REARM takes CLOSING to DISARMED without AUTO_REARM, to ARMED with it
and no records, to FULL with it and a record in every slot under HOLD. RECORD_MEASURED of a unit that mirrors nothing
makes the oldest closed record complete, writes SEQ before and after its samples and each channel's block, NSAMP
first, marks its slot and counts it, writing no byte beyond the record; a FULL unit under RECYCLE is armed again.
RECORD_DELIVER hands a complete record, byte for byte, to the Ledger, and on a standby does nothing. Where the spec
leaves a reading open, the model's is that of log entries 3, 4 and 55. -/
def Obligations.CaptureUnitsInRun : Prop :=
  (∀ (s : State) (u : UnitIx), s.hub.sys.powered = true → s.hub.capState u = capARMED →
    (s.hub.setReady u (s.hub.unit u).next (s.hub.timeAt s.raw.toNat) = true → s.hub.capTurn u (s.hub.timeAt s.raw.toNat) = true →
      ∃ t, exec (.captureSetStored u) s = .next t ∧ (t.hub.unit u).next = (s.hub.unit u).next + 1 ∧
        (t.hub.unit u).first = (s.hub.unit u).first ∧ t.hub.regs = s.hub.regs ∧ t.hub.cape.served = u.val ∧
        (∀ k, k ≠ u.val → t.hub.unit k = s.hub.unit k) ∧
        (s.hub.areaN u = 0 → t.hub.dome = s.hub.dome) ∧
        (let b := (s.hub.capChans u).flatMap fun c => (s.hub.sampleOf u c (s.hub.unit u).next).1
         let a := s.hub.areaAddr u (s.hub.capSlot u) + s.hub.areaPos u (s.hub.unit u).next * s.hub.setBytes u
         s.hub.areaN u ≠ 0 → a + b.length ≤ domeSize →
           (∀ i, i < b.length → t.hub.domeByte (a + i) = b.getD i 0#8) ∧
           (s.hub.capTap u = 0 → s.hub.capFmt u = 0 → s.hub.boxK u = 0 → ∀ j, j < s.hub.nch u →
             t.hub.domeRead (a + 2 * j) 2 = unsigned 16
               ((((s.hub.chan (s.hub.capChan u j)).raw.find? fun y => y.idx = (s.hub.unit u).next).map (·.code)).getD 0))) ∧
        (s.hub.capFmt u = (if s.hub.capTap u = 2 then 2 else if s.hub.capTap u = 1 then 1 else s.hub.capFmt u % 2) →
          ∀ x, x < s.hub.areaAddr u (s.hub.capSlot u) + s.hub.areaPos u (s.hub.unit u).next * s.hub.setBytes u ∨
            s.hub.areaAddr u (s.hub.capSlot u) + (s.hub.areaPos u (s.hub.unit u).next + 1) * s.hub.setBytes u ≤ x →
            t.hub.domeByte x = s.hub.domeByte x)) ∧
    (s.hub.setReady u (s.hub.unit u).next (s.hub.timeAt s.raw.toNat) = false ∨
        s.hub.capTurn u (s.hub.timeAt s.raw.toNat) = false →
      exec (.captureSetStored u) s = .next s)) ∧
  (∀ (s : State) (u : UnitIx), s.hub.sys.powered = true → s.hub.capState u = capRECORDING → s.hub.capStream u = false →
    s.hub.setReady u (s.hub.unit u).next (s.hub.timeAt s.raw.toNat) = true → s.hub.capTurn u (s.hub.timeAt s.raw.toNat) = true →
    (s.hub.setLostFull u (s.hub.timeAt s.raw.toNat) = false → (s.hub.unit u).next + 1 = (s.hub.unit u).s0 + (s.hub.capPost u : Nat) →
      ∃ t, exec (.captureSetStored u) s = .next t ∧ t.hub.capState u = capCLOSING ∧
        t.hub.cape.measQ = s.hub.cape.measQ ++ [(u.val, s.hub.capSlot u)] ∧
        (∃ x, (t.hub.unit u).recs = (s.hub.unit u).recs ++ [x] ∧ x.slot = s.hub.capSlot u ∧ x.st = .closed) ∧
        regsKept (fun a => a == Addr.CAP_STATE u) s t) ∧
    (s.hub.setLostFull u (s.hub.timeAt s.raw.toNat) = true →
      ∃ t, exec (.captureSetStored u) s = .next t ∧ t.hub.capState u = capCLOSING ∧
      t.hub.fld Addr.CAPE_OVF_CNT 0 16 = min (s.hub.fld Addr.CAPE_OVF_CNT 0 16 + 1) 65535 ∧
      (∃ x, (t.hub.unit u).recs = (s.hub.unit u).recs ++ [x] ∧ x.status.testBit 1 = true) ∧ t.hub.dome = s.hub.dome ∧
      regsKept (fun a => a == Addr.CAP_STATE u || a == Addr.CAPE_OVF_CNT) s t)) ∧
  (∀ (s : State) (u : UnitIx), s.hub.sys.powered = true → s.hub.capState u = capSTREAMING → s.hub.capStream u = true →
    s.hub.setReady u (s.hub.unit u).next (s.hub.timeAt s.raw.toNat) = true → s.hub.capTurn u (s.hub.timeAt s.raw.toNat) = true →
    s.hub.setLostFull u (s.hub.timeAt s.raw.toNat) = false →
    (let e : LedElem := { stream := s.hub.fld (Addr.CAP_STREAM u) 0 10, kind := .streamcap,
                          inst := ((s.hub.unit u).trig.map (·.time)).getD 0,
                          bytes := (s.hub.capChans u).flatMap fun c => (s.hub.sampleOf u c (s.hub.unit u).next).1 }
     let last : Int := (s.hub.unit u).s0 + (s.hub.capPost u : Nat)
     (s.hub.capPost u = 0 ∨ (s.hub.unit u).next + 1 < last → ∃ t, exec (.captureSetStored u) s = .next t ∧
       t.hub.capState u = capSTREAMING ∧ t.hub.led.inQ = s.hub.led.inQ ++ [e] ∧ t.hub.regs = s.hub.regs) ∧
     (s.hub.capPost u ≠ 0 → (s.hub.unit u).next + 1 = last → ∃ t, exec (.captureSetStored u) s = .next t ∧
       t.hub.capState u = capCLOSING ∧ ∃ x : LedElem, t.hub.led.inQ = s.hub.led.inQ ++ [e, x] ∧ x.stream = e.stream ∧
         x.kind = .streamcap ∧ x.ends = true ∧ x.bytes.length = 16 ∧
         (x.bytes.drop 8).take 4 = bytesOf ((s.hub.unit u).preN + s.hub.capPost u) 4))) ∧
  (∀ (s : State) (u : UnitIx) (x : CapTrig), s.hub.sys.powered = true → (∀ n, n < 16 → (s.hub.filt n).hits = []) →
    (s.hub.unit u).queue = [x] → s.hub.bit (Addr.CAP_CFG u) 19 = false →
    ∃ t, exec (.captureTrigger u) s = .next t ∧ (t.hub.unit u).queue = [] ∧
      (s.hub.capState u ≠ capARMED ∨ s.hub.capStream u = false → t.hub.dome = s.hub.dome) ∧
      (s.hub.capState u = capDISARMED → t.hub.regs = s.hub.regs) ∧
      (s.hub.capState u = capARMED →
        (s.hub.unit u).next ≤ (s.hub.unit u).first ∨ s.hub.setInstant u ((s.hub.unit u).next - 1) < x.time →
        t.hub.capState u = capPENDING ∧ (t.hub.unit u).trig = some x ∧
        t.hub.rd (Addr.CAPE_REASON_CNT 0) = s.hub.rd (Addr.CAPE_REASON_CNT 0) + 1#32) ∧
      (s.hub.capState u = capARMED → (s.hub.unit u).first < (s.hub.unit u).next →
        x.time ≤ s.hub.setInstant u ((s.hub.unit u).next - 1) →
        ∃ s0 : Int, (s.hub.unit u).first ≤ s0 ∧ s0 < (s.hub.unit u).next ∧ x.time ≤ s.hub.setInstant u s0 ∧
          ((s.hub.unit u).first < s0 → s.hub.setInstant u (s0 - 1) < x.time) ∧
          (s0 < s.hub.oldestSet u → t.hub.capState u = capARMED ∧ (t.hub.unit u).trig = (s.hub.unit u).trig ∧
            t.hub.rd (Addr.CAPE_REASON_CNT 4) = s.hub.rd (Addr.CAPE_REASON_CNT 4) + 1#32 ∧
            t.hub.rd (Addr.CAP_MISSED u) = s.hub.rd (Addr.CAP_MISSED u) + 1#32) ∧
          (s.hub.oldestSet u ≤ s0 → t.hub.rd (Addr.CAPE_REASON_CNT 0) = s.hub.rd (Addr.CAPE_REASON_CNT 0) + 1#32 ∧
            (let pre := min (s.hub.capPre u) (s0 - s.hub.oldestSet u).toNat
             (s.hub.capStream u = false → (s.hub.unit u).next < s0 + (s.hub.capPost u : Nat) →
               t.hub.capState u = capRECORDING ∧ (t.hub.unit u).trig = some x ∧ (t.hub.unit u).s0 = s0 ∧
               (t.hub.unit u).preN = pre) ∧
             (s.hub.capStream u = false → s0 + (s.hub.capPost u : Nat) ≤ (s.hub.unit u).next →
               t.hub.capState u = capCLOSING ∧ ∃ y : CapRec, (t.hub.unit u).recs = (s.hub.unit u).recs ++ [y] ∧
                 y.trig = x ∧ y.preN = pre ∧ y.count = pre + s.hub.capPost u ∧
                 (y.status.testBit 0 = decide (pre < s.hub.capPre u))) ∧
             (s.hub.capStream u = true → s.hub.capPost u = 0 →
               t.hub.capState u = capSTREAMING ∧ ∃ y : LedElem, y.starts = true ∧ y.bytes.length = 128 ∧
                 t.hub.led.inQ = s.hub.led.inQ ++ y ::
                   (List.range ((s.hub.unit u).next - (s0 - (pre : Nat))).toNat).map fun j =>
                     { stream := s.hub.fld (Addr.CAP_STREAM u) 0 10, kind := .streamcap, inst := x.time,
                       bytes := s.hub.areaSet u (s0 - (pre : Nat) + (j : Nat)) })))) ∧
      (s.hub.capState u = capCLOSING → t.hub.capState u = capCLOSING ∧
        t.hub.rd (Addr.CAPE_REASON_CNT 2) = s.hub.rd (Addr.CAPE_REASON_CNT 2) + 1#32 ∧
        t.hub.rd (Addr.CAP_MISSED u) = s.hub.rd (Addr.CAP_MISSED u) + 1#32) ∧
      (s.hub.capState u = capFULL → t.hub.capState u = capFULL ∧
        t.hub.rd (Addr.CAPE_REASON_CNT 3) = s.hub.rd (Addr.CAPE_REASON_CNT 3) + 1#32 ∧
        t.hub.rd (Addr.CAP_MISSED u) = s.hub.rd (Addr.CAP_MISSED u) + 1#32) ∧
      (s.hub.capState u = capPENDING ∨ s.hub.capState u = capRECORDING ∨ s.hub.capState u = capSTREAMING →
        t.hub.capState u = s.hub.capState u ∧ (t.hub.unit u).missed = (s.hub.unit u).missed + 1 ∧
        t.hub.rd (Addr.CAPE_REASON_CNT 1) = s.hub.rd (Addr.CAPE_REASON_CNT 1) + 1#32 ∧
        t.hub.rd (Addr.CAP_MISSED u) = s.hub.rd (Addr.CAP_MISSED u) + 1#32)) ∧
  (∀ (s : State) (u : UnitIx), s.hub.sys.powered = true →
    (s.hub.capState u = capCLOSING →
      (s.hub.bit (Addr.CAP_CFG u) 15 = false → ∃ t, exec (.captureRearm u) s = .next t ∧ t.hub.capState u = capDISARMED ∧
        onlyRegs (fun a => a == Addr.CAP_STATE u) s t) ∧
      (s.hub.bit (Addr.CAP_CFG u) 15 = true → (s.hub.unit u).recs = [] → s.hub.nrec u ≠ 0 →
        ∃ t, exec (.captureRearm u) s = .next t ∧ t.hub.capState u = capARMED ∧
          t.hub.capSlot u = (s.hub.capSlot u + 1) % s.hub.nrec u ∧
          regsKept (fun a => a == Addr.CAP_STATE u || a == Addr.CAP_SLOTS u) s t) ∧
      (s.hub.bit (Addr.CAP_CFG u) 15 = true → s.hub.bit (Addr.CAP_CFG u) 17 = false → s.hub.capStream u = false →
        (∀ k, k < s.hub.nrec u → ∃ x ∈ (s.hub.unit u).recs, x.slot = k) →
        ∃ t, exec (.captureRearm u) s = .next t ∧ t.hub.capState u = capFULL ∧
          onlyRegs (fun a => a == Addr.CAP_STATE u) s t)) ∧
    (s.hub.capState u ≠ capCLOSING → exec (.captureRearm u) s = .next s)) ∧
  (∀ (s : State) (u : UnitIx) (k : Fin 32) (q : List (Nat × Nat)) (x : CapRec), s.hub.sys.powered = true →
    s.hub.cape.measQ = (u.val, k.val) :: q → s.hub.mirrors = false → (s.hub.unit u).recs = [x] → x.slot = k.val →
    x.st = .closed → s.hub.slotAddr u k + s.hub.recBytes u ≤ domeSize →
    (s.hub.capState u = capFULL → s.hub.recycles u = true → s.hub.nrec u ≠ 0 →
      ∃ t, exec .recordMeasured s = .next t ∧ t.hub.capState u = capARMED ∧ t.hub.cape.measQ = q) ∧
    (s.hub.capState u ≠ capFULL ∨ s.hub.recycles u = false → ∃ t, exec .recordMeasured s = .next t ∧ t.hub.cape.measQ = q ∧
      (∃ y, (t.hub.unit u).recs = [y] ∧ y.slot = k.val ∧ y.st = .complete ∧ y.trig = x.trig ∧ y.count = x.count) ∧
      t.hub.bit (Addr.CAP_SLOTS u) k = true ∧ t.hub.rd (Addr.CAP_SEQ u) = s.hub.rd (Addr.CAP_SEQ u) + 1#32 ∧
      t.hub.domeWord (s.hub.slotAddr u k + s.hub.recBytes u - 8) = s.hub.rd (Addr.CAP_SEQ u) ∧
      t.hub.domeWord (s.hub.slotAddr u k) = s.hub.rd (Addr.CAP_SEQ u) ∧
      (∀ i, i < s.hub.nch u →
        (let pre := (List.range x.preN).map (s.hub.recSample u x i)
         let post := (List.range (x.count - x.preN)).map fun j => s.hub.recSample u x i (x.preN + j)
         let a := s.hub.slotAddr u k + 128 + 80 * i
         (∀ j, j < 80 → t.hub.domeByte (a + j) = (measureBlock (f32Of (s.hub.rd (Addr.CAP_MEAS_THR u)))
           (f32Of (s.hub.rd (Addr.CAP_MEAS_HYST u))) (s.hub.bit (Addr.CAP_CFG u) 18) x.ts pre post).1.getD j 0#8) ∧
         (t.hub.domeWord (a + 4)).toNat = (post.filter (·.present)).length % 2 ^ 32 ∧
         ((∀ y ∈ post, y.present = false) → (t.hub.domeWord a).getLsbD 10 = true ∧
           ∀ j, 4 ≤ j → j < 80 → t.hub.domeByte (a + j) = 0#8))) ∧
      (∀ z, z < s.hub.slotAddr u k ∨ s.hub.slotAddr u k + s.hub.recBytes u ≤ z → t.hub.domeByte z = s.hub.domeByte z) ∧
      regsKept (fun a => a == Addr.CAP_SLOTS u || a == Addr.CAP_SEQ u) s t)) ∧
  (∀ (s : State) (u : UnitIx) (x : CapRec), s.hub.sys.powered = true → (s.hub.unit u).recs = [x] → x.st = .complete →
    s.hub.bit (Addr.CAP_CFG u) 16 = true → s.hub.capStream u = false → s.hub.activeRole = true →
    s.hub.led.takeover = none → (s.hub.unit u).tokens = none →
    ∃ t, exec (.recordDeliver u) s = .next t ∧
      (∃ e : LedElem, t.hub.led.inQ = s.hub.led.inQ ++ [e] ∧ e.stream = s.hub.fld (Addr.CAP_STREAM u) 0 10 ∧
        e.kind = .record ∧ e.inst = x.trig.time ∧
        e.bytes = (List.range (s.hub.recBytes u)).map fun i => s.hub.domeByte (s.hub.slotAddr u x.slot + i)) ∧
      (∃ n, (t.hub.unit u).recs = [{ x with st := .delivering n }]) ∧ t.hub.regs = s.hub.regs ∧ t.hub.dome = s.hub.dome) ∧
  (∀ (s : State) (u : UnitIx), s.hub.activeRole = false →
    exec (.recordDeliver u) s = .next s)

/-- The oldest element on its way to the Ledger, plain or derived with nothing to be declared missing, opens its stream's
packet or joins it where it follows in sequence with the same format, epoch and period and room is left; NEXT to be
produced moves on. PACKET_SEAL_TIMEOUT, from the queue's SEAL time on, writes the open packet at W, header and payload
byte for byte, wrapping at the queue's end, last in the queue, and no byte outside the queue changes; before, nothing
does. Where it does not fit and the packet at M suffices, that one is evicted, sent or not, counted and shown; its GAP
EVICTED with its range, an evicted GAP's reason in MERGED, goes before the new packet, or the stream's unsent one just
before the range is extended. PACKET_SEND sends the packet at S of the next queue by the open way and moves S, word 7
carrying LED_EPOCH, after a DESC where one is due; with all parity good the payload is as the journal holds it; a
payload word of wrong parity sets POISON in PFLAGS and in every element, a header word puts a GAP POISON in its place
from the packet before to the one after, each counted. With both ways blocked what would be sent is counted
unreachable. A hub that does not deliver, or whose frames wait, sends nothing. DESC_PERIODIC sends one DESC a live
stream, with its next packet's epoch and period. ACK_TIMEOUT's rewind makes a DESC due on each stream to be sent
again. (Premises: offsets lie within the queue; what is acknowledged has been released.) Where the spec leaves a
reading open, the model's is that of log entries 3 and 18. -/
def Obligations.LedgerPackets : Prop :=
  (∀ (s : State) (e : LedElem) (es : List LedElem), s.hub.sys.powered = true → s.hub.led.inQ = e :: es →
    (e.kind = .plain ∨ e.kind = .derived) → e.gaps = [] →
    (let st := s.hub.stream e.stream; let k := e.seq.getD st.prod
     (st.opn = none → ∃ t, exec .ledgerElementArrive s = .next t ∧ t.hub.led.inQ = es ∧ t.hub.regs = s.hub.regs ∧
       t.hub.dome = s.hub.dome ∧ t.hub.queues = s.hub.queues ∧ (t.hub.stream e.stream).prod = k + 1 ∧
       ∃ p, (t.hub.stream e.stream).opn = some p ∧ p.count = 1 ∧ p.seq = k ∧ p.last = k ∧ p.time = e.inst ∧
         p.body = bytesOf e.value.toNat 4) ∧
     (∀ p, st.opn = some p → p.count < maxCount e.kind p.fmt → p.fmt = e.fmt → p.epochS = e.epochS → p.period = e.period →
       k = p.last + 1 → ∃ t, exec .ledgerElementArrive s = .next t ∧ t.hub.led.inQ = es ∧ t.hub.regs = s.hub.regs ∧
         t.hub.dome = s.hub.dome ∧ t.hub.queues = s.hub.queues ∧ (t.hub.stream e.stream).prod = k + 1 ∧
         (t.hub.stream e.stream).opn = some
           { p with count := p.count + 1, last := k, body := p.body ++ bytesOf e.value.toNat 4,
                    flagBlock := (if e.fmt = 0 then [] else p.flagBlock ++ [BitVec.ofNat 8 e.flags]) }))) ∧
  (∀ (s : State) (k : StreamIx) (p : Packet), s.hub.sys.powered = true → (s.hub.stream k).opn = some p → p.stream = k.val →
    (let q := s.hub.streamQueue k; let a := s.hub.queueAddr q 0
     (p.opened + s.hub.sealTime k ≤ s.hub.timeAt s.raw.toNat → s.hub.queueUsed q + p.len8 ≤ s.hub.queueCap q →
       a + 8 * s.hub.queueCap q ≤ domeSize → (s.hub.stream k).ack ≤ p.last →
       (∀ x, (s.hub.queue q).pkts.head? = some x → (s.hub.stream x.stream).ack ≤ x.last) →
       ∃ t, exec (.packetSealTimeout k) s = .next t ∧ (t.hub.stream k).opn = none ∧
         (∃ p', (t.hub.queue q).pkts = (s.hub.queue q).pkts ++ [p'] ∧ p'.stream = k.val ∧ p'.seq = p.seq ∧ p'.count = p.count ∧
           p'.body = p.body ∧ p'.off = s.hub.wPtr q ∧ p'.words = p.len8 ∧ p'.tstate = s.hub.tstate ∧
           p'.pflags = p.pflags ||| (if (s.hub.stream k).first then 2 ^ 5 else 0) ∧ p'.payload = p.payload ∧
           (s.hub.wPtr q % 2 ^ 22 < s.hub.queueCap q → ∀ i, i < 8 * p.len8 →
             t.hub.domeByte (s.hub.queueAddr q ((s.hub.wPtr q % 2 ^ 22 + i / 8) % s.hub.queueCap q) + i % 8) =
               (wordBytes (s.hub.headerWords p' 0#32) ++ p.payload).getD i 0#8)) ∧
         t.hub.rd (Addr.LED_Q_WR q) = wd (ptrAdd (s.hub.queueCap q) (s.hub.wPtr q) p.len8) ∧
         (∀ x, x < a ∨ a + 8 * s.hub.queueCap q ≤ x → t.hub.domeByte x = s.hub.domeByte x) ∧
         regsKept (fun x => x == Addr.LED_Q_WR q || x == Addr.LED_Q_FILL_MAX q) s t) ∧
     (s.hub.timeAt s.raw.toNat < p.opened + s.hub.sealTime k → exec (.packetSealTimeout k) s = .next s) ∧
     (∀ (v : Packet) (ps : List Packet), p.opened + s.hub.sealTime k ≤ s.hub.timeAt s.raw.toNat → (s.hub.stream k).ack ≤ p.last →
       (s.hub.queue q).pkts = v :: ps → s.hub.queueCap q < s.hub.queueUsed q + p.len8 →
       (∀ x ∈ v :: ps, (s.hub.stream x.stream).ack ≤ x.last ∧ x.off % 2 ^ 22 < s.hub.queueCap q) →
       s.hub.wPtr q % 2 ^ 22 < s.hub.queueCap q →
       ((s.hub.evictOne q).extendable q (v.loss (s.hub.timeAt s.raw.toNat)) = none →
         (s.hub.evictOne q).queueUsed q + p.len8 + 8 ≤ s.hub.queueCap q →
         ∃ t g p', exec (.packetSealTimeout k) s = .next t ∧ (t.hub.queue q).pkts = ps ++ [g, p'] ∧
           (t.hub.queue q).sentN = (s.hub.queue q).sentN - 1 ∧ g.kind = .gap ∧ g.stream = v.stream ∧ g.seq = v.firstSeq ∧
           g.last = v.last ∧ g.reason = 1 ∧ (v.kind ≠ .gap → g.merged = 0) ∧
           (v.kind = .gap → v.reason ≠ 1 → 1 ≤ v.reason → v.reason ≤ 8 → g.merged.testBit (v.reason - 1) = true) ∧
           p'.stream = k.val ∧ p'.seq = p.seq ∧ p'.body = p.body ∧
           t.hub.rd (Addr.LED_Q_EVICT_CNT q) = s.hub.rd (Addr.LED_Q_EVICT_CNT q) + 1#32 ∧
           t.hub.bit (Addr.LED_Q_STATUS q) 2 = true ∧ t.hub.rd Addr.LED_GAP_CNT = s.hub.rd Addr.LED_GAP_CNT + 1#32) ∧
       (∀ i g0, (s.hub.evictOne q).extendable q (v.loss (s.hub.timeAt s.raw.toNat)) = some i → ps[i]? = some g0 →
         (s.hub.evictOne q).queueUsed q + p.len8 ≤ s.hub.queueCap q →
         ∃ t g p', exec (.packetSealTimeout k) s = .next t ∧ (t.hub.queue q).pkts = ps.set i g ++ [p'] ∧ g.kind = .gap ∧
           g.stream = v.stream ∧ g.seq = g0.seq ∧ g.last = v.last ∧ g.off = g0.off ∧ p'.seq = p.seq ∧ p'.body = p.body ∧
           t.hub.rd (Addr.LED_Q_EVICT_CNT q) = s.hub.rd (Addr.LED_Q_EVICT_CNT q) + 1#32 ∧
           t.hub.rd Addr.LED_GAP_CNT = s.hub.rd Addr.LED_GAP_CNT)))) ∧
  (∀ (s : State) (q : Nat) (p : Packet), s.hub.sys.powered = true → s.hub.delivers = true → s.hub.ledgerWaits = false →
    s.hub.nextQueue = some q → (s.hub.queue q).pkts[(s.hub.queue q).sentN]? = some p → s.hub.led.takeover = none →
    ∃ t, exec .packetSend s = .next t ∧ (t.hub.queue q).sentN = (s.hub.queue q).sentN + 1 ∧
      (t.hub.queue q).pkts.length = (s.hub.queue q).pkts.length ∧ (∀ j, j ≠ q → t.hub.queue j = s.hub.queue j) ∧
      t.hub.dome = s.hub.dome ∧ regsKept (fun a => a == Addr.LED_POISON_CNT || a == Addr.CNT_UNREACH) s t ∧
      (let o := p.off % 2 ^ 22
       let head := s.hub.queuePoisoned q o 4
       let pay := s.hub.queuePoisoned q (o + 4) (p.words - 4)
       t.hub.fld Addr.LED_POISON_CNT 0 16 =
         (if head || pay then min (s.hub.fld Addr.LED_POISON_CNT 0 16 + 1) 65535 else s.hub.fld Addr.LED_POISON_CNT 0 16) ∧
       (s.hub.ledgerLane = none → t.hub.led.out = s.hub.led.out ∧ t.hub.fld Addr.CNT_UNREACH 0 16 =
         min (s.hub.fld Addr.CNT_UNREACH 0 16 + (if s.hub.descFirst p then 2 else 1)) 65535) ∧
       (∀ l n, s.hub.ledgerLane = some (l, n) → t.hub.rd Addr.CNT_UNREACH = s.hub.rd Addr.CNT_UNREACH ∧
         ∃ x : SentPacket, x.lane = l ∧ x.ttl = n ∧ x.header.getD 7 0#32 = s.hub.rd Addr.LED_EPOCH ∧
           t.hub.led.out = s.hub.led.out ++ (if s.hub.descFirst p then
             [{ s.hub.descPacket (s.hub.timeAt s.raw.toNat) p.stream (s.hub.stream p.stream) p.epochS p.period with
                lane := l, ttl := n }, x] else [x]) ∧
           (head = false → pay = false → x.payload = s.hub.queueBytes q (o + 4) (p.words - 4)) ∧
           (head = false → pay = true → (x.header.getD 2 0#32).getLsbD 16 = true ∧
             x.payload.length = 8 * (p.words - 4) ∧
             (let pos (j : Nat) : Nat := (if p.kind = .derived then 8 else 0) + (if p.fmt = 0 then 4 * j else 4 * p.count + j)
              (p.kind = .plain ∨ p.kind = .derived →
                (∀ j, j < p.count → pos j < x.payload.length → (x.payload.getD (pos j) 0#8).getLsbD 6 = true) ∧
                ∀ i, (∀ j, j < p.count → i ≠ pos j) →
                  x.payload.getD i 0#8 = (s.hub.queueBytes q (o + 4) (p.words - 4)).getD i 0#8) ∧
              (p.kind ≠ .plain → p.kind ≠ .derived → x.payload = s.hub.queueBytes q (o + 4) (p.words - 4)))) ∧
           (head = true → bitsOf (x.header.getD 0 0#32) 0 10 = p.stream % 1024 ∧ bitsOf (x.header.getD 0 0#32) 10 3 = 5 ∧
             x.payload.getD 6 0#8 = 5#8 ∧
             (∀ y, 0 < (s.hub.queue q).sentN → (s.hub.queue q).pkts[(s.hub.queue q).sentN - 1]? = some y → y.stream = p.stream →
               x.header.getD 1 0#32 = wd (y.last + 1)) ∧
             (∀ y, (s.hub.queue q).pkts[(s.hub.queue q).sentN + 1]? = some y → y.stream = p.stream →
               x.payload.take 4 = bytesOf ((y.seq - 1) % 2 ^ 32) 4))))) ∧
  (∀ s : State, s.hub.sys.powered = true → (s.hub.delivers = false ∨ s.hub.ledgerWaits = true) →
    exec .packetSend s = .next s ∧ exec .descPeriodic s = .next s) ∧
  (∀ (s : State) (l n : Nat), s.hub.sys.powered = true → s.hub.delivers = true → s.hub.ledgerWaits = false →
    s.hub.ledgerLane = some (l, n) →
    (let ks := (List.range 1024).filter s.hub.streamLive
     ∃ (t : State) (ds : List SentPacket), exec .descPeriodic s = .next t ∧ t.hub.led.out = s.hub.led.out ++ ds ∧ ds.length = ks.length ∧
      (∀ i k : Nat, ks[i]? = some k → ∃ x : SentPacket, ds[i]? = some x ∧ x.lane = l ∧ x.ttl = n ∧
        bitsOf (x.header.getD 0 0#32) 0 10 = k ∧ bitsOf (x.header.getD 0 0#32) 10 3 = 6 ∧
        x.payload.drop 24 = wordBytes [s.hub.rd Addr.SYS_PLAN_ID, s.hub.rd Addr.SYS_PLAN_REV] ∧
        (let d (ep per : Nat) : SentPacket :=
           { s.hub.descPacket (s.hub.timeAt s.raw.toNat) k (s.hub.stream k) ep per with lane := l, ttl := n }
         (∀ p, s.hub.nextPacket k = some p → x = d p.epochS p.period) ∧
         (s.hub.nextPacket k = none → s.hub.streamKind k ≠ .derived ∨ (s.hub.stream k).period ≠ 0 →
           x = d (s.hub.stream k).epochS (s.hub.stream k).period))) ∧
      t.hub.queues = s.hub.queues ∧ t.hub.streams = s.hub.streams ∧ t.hub.regs = s.hub.regs ∧ t.hub.dome = s.hub.dome)) ∧
  (∀ (s : State) (q : QueueIx) (p : Packet) (ps : List Packet) (at_ : Nat), s.hub.sys.powered = true →
    (s.hub.queue q).pkts = p :: ps → p.sentAt = some at_ → (s.hub.queue q).sentN ≠ 0 →
    at_ + s.hub.afld (Addr.LED_Q_TIME q) 16 10 * 1000000 * nsU < s.hub.timeAt s.raw.toNat →
    ∃ t, exec (.ackTimeout q) s = .next t ∧
      (∀ x ∈ p :: ps, x.sent = true → (t.hub.stream x.stream).descDue = true) ∧
      ∀ k, (∀ x ∈ p :: ps, x.sent = true → x.stream ≠ k) → t.hub.stream k = s.hub.stream k)

/-- An ACK entry that the hub takes moves the stream's acknowledged NEXT up to the given value, never down and never past
what was produced, and where it moved, no queue keeps at M a packet that NEXT has passed; an entry that is not taken
is counted in LED_ACK_IGN_CNT and changes nothing else. A NACK entry does what an ACK of it does, and where the packet
holding NEXT then lies before S its queue rewinds, S := M, counted; else it does no more. A commit with valid timing,
layout and bindings puts the written layout in force, reports OK, keeps the packets of a queue whose place did not
change and discards and counts those of one whose place did; a timing field out of range is reported as ERANGE with
the queue, then a queue beyond JOURNAL or on another one as ESIZE, then an enabled stream on a disabled queue as
ESTATE with both, with nothing in force changed. Where the spec leaves a reading open, the model's is that of log
entry 38. -/
def Obligations.LedgerAcknowledgement : Prop :=
  (∀ (s : State) (m : AckMsg) (k n : Nat), s.hub.sys.powered = true → m.entries = [(k, n)] →
    (s.hub.ackTaken m k = true → s.hub.ackHeld k = false →
      ∃ t, exec (.ack m) s = .next t ∧
        (t.hub.stream k).ack = max (s.hub.stream k).ack (min n (s.hub.stream k).prod) ∧
        (t.hub.stream k).prod = (s.hub.stream k).prod ∧ (∀ j, j ≠ k → t.hub.stream j = s.hub.stream j) ∧
        ((s.hub.stream k).ack < min n (s.hub.stream k).prod → ∀ q p, (t.hub.queue q).pkts.head? = some p →
          (t.hub.stream p.stream).ack ≤ p.last) ∧
        (min n (s.hub.stream k).prod ≤ (s.hub.stream k).ack → t = s) ∧ t.hub.regs = s.hub.regs ∧ t.hub.dome = s.hub.dome) ∧
    (s.hub.ackTaken m k = false → ∀ nack : Bool, ∃ t, exec (if nack then .nack m else .ack m) s = .next t ∧
      t.hub.fld Addr.LED_ACK_IGN_CNT 0 16 = min (s.hub.fld Addr.LED_ACK_IGN_CNT 0 16 + 1) 65535 ∧
      onlyRegs (fun a => a == Addr.LED_ACK_IGN_CNT) s t)) ∧
  (∀ (s : State) (m : AckMsg) (k n : Nat), s.hub.sys.powered = true → m.entries = [(k, n)] → s.hub.ackTaken m k = true →
    s.hub.ackHeld k = false →
    ∃ u t, exec (.ack m) s = .next u ∧ exec (.nack m) s = .next t ∧
      (t.hub.stream k).ack = max (s.hub.stream k).ack (min n (s.hub.stream k).prod) ∧
      (∀ q i, u.hub.holding k n = some (q, i) → i < (u.hub.queue q).sentN → (t.hub.queue q).sentN = 0 ∧
        (t.hub.queue q).pkts = (u.hub.queue q).pkts ∧ (∀ j, j ≠ q → t.hub.queue j = u.hub.queue j) ∧
        t.hub.fld (Addr.LED_Q_REWIND_CNT q) 16 16 = (s.hub.fld (Addr.LED_Q_REWIND_CNT q) 16 16 + 1) % 65536 ∧
        t.hub.fld (Addr.LED_Q_REWIND_CNT q) 0 16 = s.hub.fld (Addr.LED_Q_REWIND_CNT q) 0 16 ∧
        regsKept (fun a => a == Addr.LED_Q_REWIND_CNT q) s t ∧ t.hub.dome = s.hub.dome) ∧
      (u.hub.holding k n = none → t = u) ∧
      (∀ q i, u.hub.holding k n = some (q, i) → (u.hub.queue q).sentN ≤ i → t = u) ∧
      (∀ q i, u.hub.holding k n = some (q, i) → ∃ x ∈ u.hub.queues, x.1 = q ∧ ∃ p, x.2.pkts[i]? = some p ∧ p.stream = k ∧
        n ≤ p.last ∧ (s.hub.streamKind k = .derived ∨ p.firstSeq ≤ n))) ∧
  (∀ (s : State) (m : MasterIx) (v : Word), s.hub.sys.powered = true → s.hub.accessOk m true Addr.LED_CTRL 4 = true →
    (s.hub.timingFault = none → s.hub.layoutFault = none → s.hub.bindingFault = none →
      ∃ t, exec (.ledgerCommit m v) s = .next t ∧ t.hub.rd Addr.LED_COMMIT_STATUS = 0#32 ∧ t.hub.dome = s.hub.dome ∧
        (∀ q : QueueIx, t.hub.active (Addr.LED_Q_CFG q) = s.hub.rd (Addr.LED_Q_CFG q) ∧
          t.hub.active (Addr.LED_Q_TIME q) = s.hub.rd (Addr.LED_Q_TIME q) ∧
          t.hub.queue q = (if s.hub.fld (Addr.LED_Q_CFG q) 0 20 = s.hub.afld (Addr.LED_Q_CFG q) 0 20 then s.hub.queue q else {})) ∧
        t.hub.fld Addr.LED_DISCARD_CNT 0 32 = min (s.hub.fld Addr.LED_DISCARD_CNT 0 32 + (((List.range 64).filter fun q =>
          s.hub.fld (Addr.LED_Q_CFG q) 0 20 != s.hub.afld (Addr.LED_Q_CFG q) 0 20).map
            fun q => (s.hub.queue q).pkts.length).sum) (2 ^ 32 - 1) ∧
        (∀ k : StreamIx, t.hub.active (Addr.LED_STREAM k) = s.hub.rd (Addr.LED_STREAM k)) ∧
        regsKept (fun a => inLedger a || inLog a) s t) ∧
    (∀ q, s.hub.timingFault = some q → q < 64 →
      ∃ t, exec (.ledgerCommit m v) s = .next t ∧ t.hub.rd Addr.LED_COMMIT_STATUS = wd (ERANGE + 256 * q) ∧
        onlyStore m (fun a => a == Addr.LED_COMMIT_STATUS) s t) ∧
    (∀ q, s.hub.timingFault = none → s.hub.layoutFault = some q → q < 64 →
      ∃ t, exec (.ledgerCommit m v) s = .next t ∧ t.hub.rd Addr.LED_COMMIT_STATUS = wd (ESIZE + 256 * q) ∧
        onlyStore m (fun a => a == Addr.LED_COMMIT_STATUS) s t) ∧
    (∀ k, s.hub.timingFault = none → s.hub.layoutFault = none → s.hub.bindingFault = some k → k < 1024 →
      ∃ t, exec (.ledgerCommit m v) s = .next t ∧
        t.hub.rd Addr.LED_COMMIT_STATUS = wd (ESTATE + 256 * s.hub.fld (Addr.LED_STREAM k) 0 6 + 16384 * k) ∧
        onlyStore m (fun a => a == Addr.LED_COMMIT_STATUS) s t))

/-- Where a queue's M is not S, and the packet at M was last sent more than ACK_TIMEOUT ms ago, ACK_TIMEOUT moves S back
to M, keeps the packets, increments the 16-bit count REWIND_CNT of the queue, and changes no other queue, no other
register and no byte; where less time has passed, or M is S, it changes nothing. The reset value of ACK_TIMEOUT is 20. -/
def Obligations.UnacknowledgedPacketsAreSentAgain : Prop :=
  (∀ (s : State) (q : QueueIx) (p : Packet) (ps : List Packet) (at_ : Nat), s.hub.sys.powered = true →
    (s.hub.queue q).pkts = p :: ps → p.sentAt = some at_ →
    (let due := at_ + s.hub.afld (Addr.LED_Q_TIME q) 16 10 * 1000000 * nsU
     ((s.hub.queue q).sentN ≠ 0 → due < s.hub.timeAt s.raw.toNat →
       ∃ t, exec (.ackTimeout q) s = .next t ∧ t.hub.queue q = { s.hub.queue q with sentN := 0 } ∧
         (∀ j, j ≠ q.val → t.hub.queue j = s.hub.queue j) ∧
         t.hub.fld (Addr.LED_Q_REWIND_CNT q) 0 16 = (s.hub.fld (Addr.LED_Q_REWIND_CNT q) 0 16 + 1) % 65536 ∧
         regsKept (fun a => a == Addr.LED_Q_REWIND_CNT q) s t ∧ t.hub.dome = s.hub.dome) ∧
     ((s.hub.queue q).sentN = 0 ∨ s.hub.timeAt s.raw.toNat ≤ due → exec (.ackTimeout q) s = .next s))) ∧
  (∀ q : QueueIx, bitsOf (State.reset.hub.rd (Addr.LED_Q_TIME q)) 16 10 = 20 ∧ State.reset.hub.afld (Addr.LED_Q_TIME q) 16 10 = 20)

/-- A permitted write of LANE_CFG in BOOT, IDLE or SERVICE that doubles no role of an enabled lane, and names another
protocol than Wembe for an uplink only, is stored; EN = 1 takes a DISABLED lane to DETECT with the role, protocol and
media written, TX_DISABLE high, and EN = 0 takes a lane to DISABLED. In another mode, and for a doubled role or a
wrong protocol, it is refused. DETECT ends in TRAIN, with the scrambler all ones, or in LOCK for an Ethernet uplink,
TX_DISABLE low; TRAIN, its transmitter having sent training blocks, in LOCK from 20 ms on, or after 200 ms in DETECT,
counted; LOCK of a Wembe lane in EXCHANGE, with a new NONCE, no credits and nothing heard of the partner; 10 ms in
LOCK or 50 ms in EXCHANGE take the lane back to TRAIN, and at the third failure in a row to DETECT with TX_DISABLE
held high until TX_DISABLE_HOLD_END, 100 ms later. A timeout that is not due does nothing. RETRAIN, and LINK_RETRAIN
by command, take an enabled lane to TRAIN with LANE_CFG in force, or an Ethernet uplink to DETECT. A lane that was
ACTIVE shows DOWN and its waiting frames are gone. Where the spec leaves a reading open, the model's is that of log
entries 3, 9 and 39. -/
def Obligations.LaneBringUp : Prop :=
  (∀ (s : State) (m : MasterIx) (l : LaneIx) (v : Word), s.hub.sys.powered = true →
    s.hub.accessOk m true (Addr.LANE_CFG l) 4 = true →
    ∃ t, exec (.laneCfgWrite m l v) s = .next t ∧
      (s.hub.setupMode = false → refusedStore m s t) ∧
      (s.hub.setupMode = true → bitsOf v 3 2 ≠ 0 → bitsOf v 1 2 ≠ rUPLINK → refusedStore m s t) ∧
      (s.hub.setupMode = true → v.getLsbD 0 = true →
        (∃ k, k < 4 ∧ k ≠ l.val ∧ s.hub.laneEn k = true ∧ s.hub.laneRole k = bitsOf v 1 2) → refusedStore m s t) ∧
      (s.hub.setupMode = true → (bitsOf v 3 2 = 0 ∨ bitsOf v 1 2 = rUPLINK) →
        (v.getLsbD 0 = true → ∀ k, k < 4 → k ≠ l.val → s.hub.laneEn k = true → s.hub.laneRole k ≠ bitsOf v 1 2) →
        t.hub.rd (Addr.LANE_CFG l) = v &&& 0x7F#32 ∧
        (v.getLsbD 0 = true → s.hub.stageOf l = sDISABLED → (s.hub.lane l).inReset = false →
          t.hub.stageOf l = sDETECT ∧ t.hub.bit (Addr.MOD_STATUS l) 2 = true ∧ t.hub.liveRole l = bitsOf v 1 2 ∧
          t.hub.optical l = !v.getLsbD 5 ∧ t.hub.protoNow l = (if bitsOf v 3 2 = 3 then 0 else bitsOf v 3 2) ∧
          t.hub.lane l = { s.hub.lane l with cfg := v &&& 0x7F#32, stageAt := s.raw.toNat, protoAt := s.raw.toNat }) ∧
        (v.getLsbD 0 = true → s.hub.stageOf l ≠ sDISABLED → onlyStore m (fun a => a == Addr.LANE_CFG l) s t) ∧
        (v.getLsbD 0 = false → t.hub.stageOf l = sDISABLED ∧
          (s.hub.stageOf l = sDISABLED → onlyStore m (fun a => a == Addr.LANE_CFG l) s t) ∧
          (s.hub.stageOf l ≠ sDISABLED → t.hub.bit (Addr.MOD_STATUS l) 2 = true) ∧
          (s.hub.stageOf l ≠ sDISABLED → s.hub.stageOf l ≠ sACTIVE →
            t.hub.lane l = { s.hub.lane l with stageAt := s.raw.toNat }) ∧
          (s.hub.stageOf l = sACTIVE → t.hub.bit (Addr.LANE_STATUS l) 9 = true ∧ (t.hub.lane l).txq = [])) ∧
        (s.hub.stageOf l ≠ sACTIVE → regsKept (fun a => a == Addr.LANE_CFG l || stageReg l a) s t ∧
          ∀ k, k ≠ l.val → t.hub.lane k = s.hub.lane k) ∧ t.hub.dome = s.hub.dome)) ∧
  (∀ (s : State) (l : LaneIx), s.hub.sys.powered = true →
    (s.hub.stageOf l = sDETECT → (s.hub.lane l).holdTx = none →
      ∃ t, exec (.laneDetectDone l) s = .next t ∧
        (s.hub.isEth l = true → t.hub.stageOf l = sLOCK) ∧ (s.hub.isEth l = false → inTrain l t) ∧
        t.hub.bit (Addr.MOD_STATUS l) 2 = false ∧ t.hub.bit (Addr.LANE_STATUS l) 7 = true ∧
        (s.hub.optical l = true → t.hub.bit (Addr.MOD_STATUS l) 0 = false) ∧ entered l s t ∧ onlyLaneDrawn (stageReg l) l s t) ∧
    (s.hub.stageOf l = sDETECT → (s.hub.lane l).holdTx ≠ none → exec (.laneDetectDone l) s = .next s) ∧
    (s.hub.stageOf l = sTRAIN →
      ((s.hub.lane l).stageAt + 20 * msU ≤ s.raw.toNat →
        ∃ t, exec (.laneTrainDone l) s = .next t ∧ t.hub.stageOf l = sLOCK ∧
          t.hub.bit (Addr.MOD_STATUS l) 2 = (s.hub.lane l).holdTx.isSome ∧ entered l s t ∧
          (s.hub.isEth l = false → ∃ n, (t.hub.lane l).tx = (s.hub.lane l).tx.train n) ∧ onlyLaneDrawn (stageReg l) l s t) ∧
      (s.raw.toNat < (s.hub.lane l).stageAt + 20 * msU → exec (.laneTrainDone l) s = .next s) ∧
      ((s.hub.lane l).stageAt + 200 * msU ≤ s.raw.toNat →
        ∃ t, exec (.laneTrainTimeout l) s = .next t ∧ t.hub.stageOf l = sDETECT ∧ t.hub.bit (Addr.MOD_STATUS l) 2 = true ∧
          t.hub.fld (Addr.CNT_TRAIN_FAIL l) 0 16 = min (s.hub.fld (Addr.CNT_TRAIN_FAIL l) 0 16 + 1) 65535 ∧ entered l s t ∧
          onlyLaneDrawn (fun a => stageReg l a || a == Addr.CNT_TRAIN_FAIL l) l s t) ∧
      (s.raw.toNat < (s.hub.lane l).stageAt + 200 * msU → exec (.laneTrainTimeout l) s = .next s)) ∧
    (s.hub.stageOf l = sLOCK → s.hub.isEth l = false →
      ∃ t, exec (.laneLockDone l) s = .next t ∧ t.hub.stageOf l = sEXCHANGE ∧
        t.hub.lane l = { s.hub.lane l with
          nonce := (t.hub.lane l).nonce, peerNonce := none, echoed := none, heardEcho := false, freed := [0, 0, 0, 0],
          heard := [0, 0, 0, 0], creds := [0, 0, 0, 0], adv := s.hub.rd (Addr.CRED_ADV l), stageAt := s.raw.toNat } ∧
        (∀ k, k ≠ l.val → t.hub.lane k = s.hub.lane k) ∧
        t = { s with hub := { s.hub with regs := t.hub.regs, lanes := t.hub.lanes, free := s.hub.free + 1 } } ∧
        regsKept (stageReg l) s t) ∧
    ((s.hub.stageOf l = sLOCK ∨ s.hub.stageOf l = sEXCHANGE) → s.hub.isEth l = false →
      ((s.hub.lane l).stageAt + (if s.hub.stageOf l = sLOCK then 10 else 50) * msU ≤ s.raw.toNat →
        ∃ t, exec (.laneLockTimeout l) s = .next t ∧ onlyLane (stageReg l) l s t ∧
          ((s.hub.lane l).fails < 2 → inTrain l t ∧ (t.hub.lane l).fails = (s.hub.lane l).fails + 1) ∧
          (2 ≤ (s.hub.lane l).fails → t.hub.stageOf l = sDETECT ∧ t.hub.bit (Addr.MOD_STATUS l) 2 = true ∧
            t.hub.lane l = { s.hub.lane l with fails := 0, holdTx := some s.raw.toNat, stageAt := s.raw.toNat })) ∧
      (s.raw.toNat < (s.hub.lane l).stageAt + (if s.hub.stageOf l = sLOCK then 10 else 50) * msU →
        exec (.laneLockTimeout l) s = .next s)) ∧
    (∀ a, (s.hub.lane l).holdTx = some a → a + 100 * msU ≤ s.raw.toNat →
      ∃ t, exec (.txDisableHoldEnd l) s = .next t ∧ t.hub.stageOf l = s.hub.stageOf l ∧
        t.hub.lane l = { s.hub.lane l with holdTx := none } ∧
        t.hub.bit (Addr.MOD_STATUS l) 2 = decide (s.hub.stageOf l ≤ sDETECT) ∧ onlyLane (stageReg l) l s t)) ∧
  (∀ (s : State) (m : MasterIx) (l : LaneIx) (v : Word), s.hub.sys.powered = true →
    s.hub.accessOk m true (Addr.LANE_CTRL l) 4 = true → s.hub.stageOf l ≠ sDISABLED →
    ∃ t, exec (.retrain m l v) s = .next t ∧ (t.hub.lane l).cfg = s.hub.rd (Addr.LANE_CFG l) ∧
      (if s.hub.laneRole l = rUPLINK ∧ (s.hub.fld (Addr.LANE_CFG l) 3 2 = 1 ∨ s.hub.fld (Addr.LANE_CFG l) 3 2 = 2)
        then t.hub.stageOf l = sDETECT else inTrain l t) ∧
      (s.hub.stageOf l = sACTIVE → t.hub.bit (Addr.LANE_STATUS l) 9 = true ∧ (t.hub.lane l).txq = [] ∧
        t.hub.fld (Addr.CNT_DOWN l) 0 32 = (s.hub.fld (Addr.CNT_DOWN l) 0 32 + 1) % 2 ^ 32) ∧
      (s.hub.stageOf l ≠ sACTIVE → regsKept (stageReg l) s t ∧ ∀ k, k ≠ l.val → t.hub.lane k = s.hub.lane k) ∧
      t.hub.dome = s.hub.dome) ∧
  (∀ (s : State) (ch : BoxIx) (l : LaneIx), commandWaits ch 0x50 l s → s.hub.mode ≠ .boot → s.hub.stageOf l ≠ sDISABLED →
    ∃ t, exec (.linkRetrain ch) s = .next t ∧ answered ch OK 0 s t ∧ (t.hub.lane l).cfg = s.hub.rd (Addr.LANE_CFG l) ∧
      (if s.hub.laneRole l = rUPLINK ∧ (s.hub.fld (Addr.LANE_CFG l) 3 2 = 1 ∨ s.hub.fld (Addr.LANE_CFG l) 3 2 = 2)
        then t.hub.stageOf l = sDETECT else inTrain l t) ∧
      (s.hub.stageOf l = sACTIVE → t.hub.bit (Addr.LANE_STATUS l) 9 = true ∧ (t.hub.lane l).txq = []) ∧
      (s.hub.stageOf l ≠ sACTIVE → ∀ k, k ≠ l.val → t.hub.lane k = s.hub.lane k) ∧ t.hub.dome = s.hub.dome)

/-- CAP_SEND starts the lane's CAP, echoing the NONCE heard, and counts it. A CAP heard gives its words to PEER_CAP; once
each side has echoed the other's NONCE, on the later of the two, the partner's words are judged: a compatible lane
becomes ACTIVE with the smaller version, the features common to both and the partner's credits, an incompatible one
INCOMPAT with the reason of R337, logged in class LANE. Loss of an ACTIVE Wembe lane, its code violations counted,
takes it to LOCK with DOWN set, CNT_DOWN counted and the frames held for it, the Ledger's among them, discarded and
counted; a span lane's segment is reported down, and shown down. MODULE_REMOVAL and a rising LOS take an optical lane
that is past their stages to DETECT, and show the pins; a falling LOS shows its pin. SEGMENT_UP_REPORT of a lane
ACTIVE again for 100 ms reports its segment up, RING_REPEAT sends both segments' reports again, each by RING frames on
every ACTIVE span lane; of an end never reported it makes the first report. A RING frame heard with a newer sequence
replaces the report of that end, and the segment is down exactly when either end says so; an older one changes no
report. A hub passes on every frame with hops to go, and drops its own. Where the spec leaves a reading open, the
model's is that of log entries 3, 4, 9, 39 and 40. -/
def Obligations.CapabilityExchangeAndTheRing : Prop :=
  (∀ (s : State) (l : LaneIx), s.hub.sys.powered = true → (s.hub.stageOf l = sEXCHANGE ∨ s.hub.stageOf l = sINCOMPAT) →
    ∃ t f, exec (.capSend l) s = .next t ∧ f.type = tCAP ∧ f.addr = aPOS ∧ f.dst = s.hub.partnerPos l ∧
      f.payload = s.hub.capWords l ∧ (t.hub.lane l).sent = some f ∧ (t.hub.lane l).echoed = (s.hub.lane l).peerNonce ∧
      ((s.hub.stageOf l = sINCOMPAT ∨ (s.hub.lane l).heardEcho = false ∨ (s.hub.lane l).peerNonce = none) →
        startedOn l f s t ∧ t.hub.stageOf l = s.hub.stageOf l ∧ regsKept (fun a => a == Addr.FRAMES_TX l) s t ∧
        (∀ k, k ≠ l.val → t.hub.lane k = s.hub.lane k) ∧
        t = { s with hub := { s.hub with regs := t.hub.regs, lanes := t.hub.lanes, free := t.hub.free } }) ∧
      (s.hub.stageOf l = sEXCHANGE → (s.hub.lane l).heardEcho = true → (s.hub.lane l).peerNonce ≠ none →
        judged l ((List.range 9).map fun k => s.hub.rd (Addr.PEER_CAP l k)) s t)) ∧
  (∀ (s : State) (l : LaneIx) (x : RxFrame) (y : Frame), catches l y x s → y.type = tCAP →
    (s.hub.stageOf l = sEXCHANGE ∨ s.hub.stageOf l = sINCOMPAT) →
    (let p := (List.range 9).map fun k => y.payload.getD k 0#32
     ∃ t, exec (.cap l x) s = .next t ∧ (∀ k, k < 9 → t.hub.rd (Addr.PEER_CAP l k) = p.getD k 0#32) ∧
       (t.hub.lane l).peerNonce = some (p.getD 6 0#32) ∧ t.hub.dome = s.hub.dome ∧
       ((s.hub.stageOf l = sINCOMPAT ∨ (((s.hub.lane l).heardEcho = true ∨ p.getD 7 0#32 = (s.hub.lane l).nonce) ∧
          (s.hub.lane l).echoed = some (p.getD 6 0#32))) → judged l p s t) ∧
       (s.hub.stageOf l = sEXCHANGE → (((s.hub.lane l).heardEcho = false ∧ p.getD 7 0#32 ≠ (s.hub.lane l).nonce) ∨
          (s.hub.lane l).echoed ≠ some (p.getD 6 0#32)) →
         t.hub.stageOf l = sEXCHANGE ∧
         (t.hub.lane l).heardEcho = ((s.hub.lane l).heardEcho || p.getD 7 0#32 == (s.hub.lane l).nonce) ∧
         onlyLane (fun a => a == Addr.FRAMES_RX l || (List.range 9).any fun k => a == Addr.PEER_CAP l k) l s t))) ∧
  (∀ (s : State) (l : LaneIx) (line : List Bool), s.hub.sys.powered = true → s.hub.stageOf l = sACTIVE → s.hub.isEth l = false →
    ∃ t, exec (.laneLoss l line) s = .next t ∧ t.hub.stageOf l = sLOCK ∧ t.hub.bit (Addr.LANE_STATUS l) 9 = true ∧
      (t.hub.lane l).stageAt = s.raw.toNat ∧
      (t.hub.lane l).txq = [] ∧ t.hub.fld (Addr.CNT_DOWN l) 0 32 = (s.hub.fld (Addr.CNT_DOWN l) 0 32 + 1) % 2 ^ 32 ∧
      t.hub.fld (Addr.CNT_DISCARD l) 0 16 = min (s.hub.fld (Addr.CNT_DISCARD l) 0 16 +
          ((s.hub.lane l).txq.length + (s.hub.led.out.filter (·.lane = l.val)).length)) 65535 ∧
      t.hub.led.out = s.hub.led.out.filter (·.lane ≠ l.val) ∧
      t.hub.fld (Addr.CNT_CODE l) 0 16 =
        min (s.hub.fld (Addr.CNT_CODE l) 0 16 + (Ear.hear { rx := (s.hub.lane l).rx } line).viols) 65535 ∧
      (∀ k, s.hub.laneKey l = some k → k < 128 → t.hub.segDown (k / 2) = true ∧
        ringOut k ((s.hub.gate.ringSeq + 1) % 65536) false s t) ∧
      (s.hub.liveRole l = rTWIN → t.hub.bit Addr.SEL_STATUS 13 = true) ∧ t.hub.dome = s.hub.dome ∧
      regsKept (fun a => stageReg l a || ringReg a || a == Addr.CNT_DOWN l || a == Addr.CNT_CODE l || a == Addr.SEL_STATUS ||
        a == Addr.TIME_STATE) s t) ∧
  (∀ (s : State) (l : LaneIx), s.hub.sys.powered = true →
    (∃ t, exec (.moduleRemoval l) s = .next t ∧ t.hub.bit (Addr.MOD_STATUS l) 0 = true ∧
      t.hub.bit (Addr.MOD_STATUS l) 3 = false ∧ (t.hub.lane l).ddm = false ∧ t.hub.dome = s.hub.dome ∧
      (s.hub.optical l = true → s.hub.stageOf l ≠ sDISABLED → t.hub.stageOf l = sDETECT ∧
        t.hub.bit (Addr.MOD_STATUS l) 2 = true) ∧
      (s.hub.optical l = true → t.hub.bit (Addr.LANE_STATUS l) 7 = false) ∧
      (s.hub.stageOf l = sDISABLED → onlyLane (stageReg l) l s t) ∧
      (s.hub.optical l = false → onlyLane (fun a => a == Addr.MOD_STATUS l) l s t)) ∧
    (∀ high, ∃ t, exec (.los l high) s = .next t ∧ t.hub.bit (Addr.MOD_STATUS l) 1 = high ∧
      t.hub.bit (Addr.LANE_STATUS l) 8 = high ∧ t.hub.dome = s.hub.dome ∧
      (high = true → s.hub.optical l = true → sLOCK ≤ s.hub.stageOf l →
        t.hub.stageOf l = sDETECT ∧ t.hub.bit (Addr.MOD_STATUS l) 2 = true) ∧
      ((high = false ∨ s.hub.optical l = false ∨ s.hub.stageOf l < sLOCK) →
        t.hub.stageOf l = s.hub.stageOf l ∧ onlyRegs (stageReg l) s t))) ∧
  (∀ (s : State) (l : LaneIx) (k : Nat), s.hub.sys.powered = true → (s.hub.lane l).upPending = true →
    s.hub.stageOf l = sACTIVE → s.hub.laneKey l = some k →
    ((s.hub.lane l).activeAt + 100 * msU ≤ s.raw.toNat →
      ∃ t, exec (.segmentUpReport l) s = .next t ∧ (t.hub.lane l).upPending = false ∧
        SMap.find t.hub.gate.reports k = some ((s.hub.gate.ringSeq + 1) % 65536, true) ∧
        ringOut k ((s.hub.gate.ringSeq + 1) % 65536) true s t ∧ regsKept ringReg s t ∧ t.hub.dome = s.hub.dome) ∧
    (s.raw.toNat < (s.hub.lane l).activeAt + 100 * msU → exec (.segmentUpReport l) s = .next s)) ∧
  (∀ s : State, s.hub.sys.powered = true →
    ∃ t, exec .ringRepeat s = .next t ∧ regsKept ringReg s t ∧ t.hub.dome = s.hub.dome ∧
      ((∀ p ∈ s.hub.ownKeys, (SMap.find s.hub.gate.reports p.2).isSome = true) →
        t = { s with hub := { s.hub with lanes := t.hub.lanes } } ∧
        ∀ p ∈ s.hub.ownKeys, ∀ n u, SMap.find s.hub.gate.reports p.2 = some (n, u) → ringOut p.2 n u s t) ∧
      (∀ p ∈ s.hub.ownKeys, SMap.find s.hub.gate.reports p.2 = none →
        ∃ n, SMap.find t.hub.gate.reports p.2 = some (n, (s.hub.activeLane p.1).isSome) ∧
          ∀ east j, t.hub.activeLane (wayRole east) = some j → ∃ y ∈ (t.hub.lane j).txq, y.frame.type = tRING ∧
            y.frame.payload = (s.hub.ringFrame p.2 n (s.hub.activeLane p.1).isSome).payload)) ∧
  (∀ (s : State) (l : LaneIx) (x : RxFrame) (y : Frame), hears l y x s → y.type = tRING → s.hub.liveRole l ≤ rSPANW →
    (y.src = s.hub.hubPos → ∃ t, exec (.ring l x) s = .next t ∧ freedOnly l s t ∧
      onlyLane (fun a => a == Addr.FRAMES_RX l) l s t) ∧
    (y.src ≠ s.hub.hubPos →
    (let w := y.payload.getD 0 0#32; let n := bitsOf (y.payload.getD 1 0#32) 0 16; let g := bitsOf w 6 6
     let k := 2 * g + (if bitsOf w 0 6 = g then 0 else 1)
     ∃ t, exec (.ring l x) s = .next t ∧ t.hub.dome = s.hub.dome ∧
       regsKept (fun a => ringReg a || a == Addr.FRAMES_RX l || (List.range 4).any fun j => a == Addr.FRAMES_TX j) s t ∧
       (∀ j, j ≠ k → SMap.find t.hub.gate.reports j = SMap.find s.hub.gate.reports j) ∧
       (SMap.find s.hub.gate.reports k = none →
         SMap.find t.hub.gate.reports k = some (n, w.getLsbD 12)) ∧
       (∀ o u, SMap.find s.hub.gate.reports k = some (o, u) →
         SMap.find t.hub.gate.reports k =
           (if 0 < (n + 65536 - o) % 65536 ∧ (n + 65536 - o) % 65536 < 32768 then some (n, w.getLsbD 12) else some (o, u))) ∧
       (SMap.find t.hub.gate.reports k ≠ SMap.find s.hub.gate.reports k → (t.hub.segDown g = true ↔
         (∃ j c, j / 2 = g ∧ SMap.find t.hub.gate.reports j = some (c, false)))) ∧
       (∀ j, 1 < y.ttl → s.hub.activeLane (if s.hub.liveRole l = rSPANW then rSPANE else rSPANW) = some j →
         passedOn l j { y with ttl := y.ttl - 1 } s t))))

/-- LINK_SEND, 3 us or more after the start of the last and with none waiting, queues a LINK for the partner with the
credits freed per class; a LINK heard gives back, per class, what was freed since the last one. FRAME_TRANSMIT_START
on an idle lane starts a frame of the highest class that is ready and has credits, or BULK that has waited 100 us
since it came and since BULK last started, forwarded and own in turn, takes its credits, counts it, and stamps a
SYNC's t1 and a RESP's t3 past the delimiter; with none ready it changes nothing. With a frame under way it inserts a
TIME frame at an insertion point, stamped there, and else waits. SYNC_SEND queues a SYNC with its sequence, HOPS by
R334 (0 from the gateway) and the previous t1 and t4. A SYNC heard on a span lane is stamped t2, at its SOF, and
answered with a RESP; where it completes an exchange, delay and offset of the lane are those of R189 to less than one
picosecond (rounding: log entry 6), and those of the only lane heard become the servo's measurement, with the time
parameters at t2; otherwise they stay. A RESP heard is stamped t4 at its SOF. A span trigger heard with RX_EN = 1
reaches every unit with its ID enabled, or is counted as a duplicate. A LEDGER frame heard on a span lane goes on at
the gateway to its uplink, elsewhere to the next hop, or is counted in CNT_TTL; a LACK frame for the pair carries an
ACK to the Ledger. Where the spec leaves a reading open, the model's is that of log entries 9, 27 and 40. -/
def Obligations.FramesBetweenHubs : Prop :=
  (∀ (s : State) (l : LaneIx), s.hub.sys.powered = true → s.hub.stageOf l = sACTIVE → s.hub.isEth l = false →
    ((∀ a, (s.hub.lane l).linkAt = some a → a + 3000 * nsU ≤ s.raw.toNat) → (∀ z ∈ (s.hub.lane l).txq, z.frame.type ≠ tLINK) →
      ∃ t y, exec (.linkSend l) s = .next t ∧ onlyLane (fun _ => false) l s t ∧
        t.hub.lane l = { s.hub.lane l with txq := (s.hub.lane l).txq ++ [y] } ∧
        y.frame.type = tLINK ∧ y.frame.dst = s.hub.partnerPos l ∧
        y.frame.payload = [wd ((s.hub.lane l).freed.getD 0 0 + 65536 * (s.hub.lane l).freed.getD 1 0),
          wd ((s.hub.lane l).freed.getD 2 0 + 65536 * (s.hub.lane l).freed.getD 3 0), 0#32, 0#32]) ∧
    ((∃ a, (s.hub.lane l).linkAt = some a ∧ s.raw.toNat < a + 3000 * nsU) ∨ (∃ z ∈ (s.hub.lane l).txq, z.frame.type = tLINK) →
      exec (.linkSend l) s = .next s)) ∧
  (∀ (s : State) (l : LaneIx) (x : RxFrame) (y : Frame), hears l y x s → y.type = tLINK →
    (let now := [bitsOf (y.payload.getD 0 0#32) 0 16, bitsOf (y.payload.getD 0 0#32) 16 16,
       bitsOf (y.payload.getD 1 0#32) 0 16, bitsOf (y.payload.getD 1 0#32) 16 16]
     ∃ t, exec (.link l x) s = .next t ∧ onlyLane (fun a => a == Addr.FRAMES_RX l) l s t ∧
       t.hub.lane l = { s.hub.lane l with rx := (t.hub.lane l).rx, rxAge := (t.hub.lane l).rxAge, heard := now, creds := (t.hub.lane l).creds } ∧
       ∀ k, k < 4 → (t.hub.lane l).creds.getD k 0 = (s.hub.lane l).creds.getD k 0 +
         (now.getD k 0 + 65536 - (s.hub.lane l).heard.getD k 0 % 65536) % 65536)) ∧
  (∀ (s : State) (l : LaneIx), s.hub.sys.powered = true → s.hub.cape.spanOut = [] → s.hub.stageOf l = sACTIVE →
    s.hub.laneMute l (s.hub.timeAt s.raw.toNat) = false → (s.hub.isEth l = true → s.hub.ptp.reqDue = false) →
    (s.hub.laneBusy l s.raw.toNat = false → s.hub.nextFrame l (s.hub.timeAt s.raw.toNat) = none →
      exec (.frameTransmitStart l) s = .next s) ∧
    (∀ x, s.hub.laneBusy l s.raw.toNat = false → s.hub.nextFrame l (s.hub.timeAt s.raw.toNat) = some x →
      ∃ t, exec (.frameTransmitStart l) s = .next t ∧ startedOn l x.frame s t ∧
        (∀ y ∈ s.hub.startable l (s.hub.timeAt s.raw.toNat), classOf x.frame.type ≤ classOf y.frame.type ∨
          (classOf x.frame.type = cBULK ∧ ∃ z ∈ s.hub.startable l (s.hub.timeAt s.raw.toNat), classOf z.frame.type = cBULK ∧
            max z.since (s.hub.lane l).bulkAt + 100000 * nsU ≤ s.hub.timeAt s.raw.toNat)) ∧
        ((∃ z ∈ s.hub.startable l (s.hub.timeAt s.raw.toNat), classOf z.frame.type = cBULK ∧
          max z.since (s.hub.lane l).bulkAt + 100000 * nsU ≤ s.hub.timeAt s.raw.toNat) → classOf x.frame.type = cBULK) ∧
        ((∃ y ∈ s.hub.startable l (s.hub.timeAt s.raw.toNat), classOf y.frame.type = classOf x.frame.type ∧
          y.fromLane.isSome = (s.hub.lane l).turn.getD (classOf x.frame.type) false) →
          x.fromLane.isSome = (s.hub.lane l).turn.getD (classOf x.frame.type) false) ∧
        (t.hub.lane l).linkAt = (if x.frame.type = tLINK then some s.raw.toNat else (s.hub.lane l).linkAt) ∧
        (t.hub.lane l).bulkAt = (if classOf x.frame.type = cBULK then s.hub.timeAt s.raw.toNat else (s.hub.lane l).bulkAt) ∧
        (x.frame.type = tLINK ∨ s.hub.isEth l = true ∨
          x.frame.need ≤ (s.hub.lane l).creds.getD (classOf x.frame.type) 0) ∧
        (t.hub.lane l).txq = (s.hub.lane l).txq.erase x ∧
        (t.hub.lane l).creds = (if x.frame.type = tLINK then (s.hub.lane l).creds
          else (s.hub.lane l).creds.modify (classOf x.frame.type) fun n => n - x.frame.need) ∧
        t.hub.led = (if x ∈ (s.hub.lane l).txq then s.hub.led else { s.hub.led with out := s.hub.led.out.eraseP (·.lane = l.val) }) ∧
        (x.frame.type = tSYNC → ∃ k, k < (s.hub.stampMode l).perNs ∧ ∀ i, i < 3 →
          t.hub.rd (Addr.TS_T1 l i) = kxWord (s.hub.stampOf l k true s.raw.toNat (s.hub.stampBits l)) i) ∧
        (x.frame.type = tRESP → ∃ k, k < (s.hub.stampMode l).perNs ∧ ∀ i, i < 3 →
          t.hub.rd (Addr.TS_T3 l i) = kxWord (s.hub.stampOf l k true s.raw.toNat (s.hub.stampBits l)) i) ∧
        t.hub.dome = s.hub.dome ∧
        regsKept (fun a => a == Addr.FRAMES_TX l || (x.frame.type == tSYNC && decide (Addr.TS_T1 l 0 ≤ a ∧ a ≤ Addr.TS_T1 l 2)) ||
          (x.frame.type == tRESP && decide (Addr.TS_T3 l 0 ≤ a ∧ a ≤ Addr.TS_T3 l 2)) || a == Addr.TS_SEQ l) s t) ∧
    (∀ p a x, s.hub.laneBusy l s.raw.toNat = true → s.hub.insertAt l s.raw.toNat = some (p, a) →
      s.hub.nextTime l (s.hub.timeAt s.raw.toNat) = some x →
      ∃ t, exec (.frameTransmitStart l) s = .next t ∧ classOf x.frame.type = cTIME ∧ (t.hub.lane l).sent = some x.frame ∧
        (s.hub.lane l).air = some a ∧ (t.hub.lane l).air = some (a.insert p x.frame.content) ∧
        (x.frame.type = tSYNC → ∃ k, k < (s.hub.stampMode l).perNs ∧ ∀ i, i < 3 →
          t.hub.rd (Addr.TS_T1 l i) = kxWord (s.hub.stampOf l k true a.start (a.sofBits p + 18)) i) ∧
        (x.frame.type = tRESP → ∃ k, k < (s.hub.stampMode l).perNs ∧ ∀ i, i < 3 →
          t.hub.rd (Addr.TS_T3 l i) = kxWord (s.hub.stampOf l k true a.start (a.sofBits p + 18)) i) ∧
        (t.hub.lane l).txq = (s.hub.lane l).txq.erase x ∧
        t.hub.fld (Addr.FRAMES_TX l) 0 32 = (s.hub.fld (Addr.FRAMES_TX l) 0 32 + 1) % 2 ^ 32) ∧
    (s.hub.laneBusy l s.raw.toNat = true →
      (s.hub.insertAt l s.raw.toNat = none ∨ s.hub.nextTime l (s.hub.timeAt s.raw.toNat) = none) →
      exec (.frameTransmitStart l) s = .next s)) ∧
  (∀ (s : State) (l : LaneIx), s.hub.sys.powered = true → s.hub.stageOf l = sACTIVE → s.hub.liveRole l ≤ rSPANW →
    (let now := s.hub.timeAt s.raw.toNat
     ∃ t y, exec (.syncSend l) s = .next t ∧ queuedOn l y s t ∧ (t.hub.lane l).syncSeq = ((s.hub.lane l).syncSeq + 1) % 256 ∧
      t = { s with hub := { s.hub with regs := t.hub.regs, lanes := t.hub.lanes, pins := t.hub.pins } } ∧
      regsKept (fun a => a == Addr.TIME_STATE) s t ∧ (∀ k, k ≠ l.val → t.hub.lane k = s.hub.lane k) ∧
      y.frame.type = tSYNC ∧ y.frame.dst = s.hub.partnerPos l ∧
      bitsOf (y.frame.payload.getD 0 0#32) 0 8 = (s.hub.lane l).syncSeq % 256 ∧
      bitsOf (y.frame.payload.getD 0 0#32) 8 6 = t.hub.fld Addr.TIME_STATE 4 6 ∧
      bitsOf (y.frame.payload.getD 0 0#32) 14 2 = t.hub.fld Addr.TIME_STATE 2 2 ∧
      (s.hub.isGateway = true → t.hub.fld Addr.TIME_STATE 4 6 = 0) ∧
      (s.hub.isGateway = false → s.hub.upLane now = none → t.hub.fld Addr.TIME_STATE 4 6 = 63) ∧
      (∀ j, s.hub.isGateway = false → s.hub.upLane now = some j →
        t.hub.fld Addr.TIME_STATE 4 6 = min 63 (s.hub.hopsHeard j now + 1) ∧ t.hub.fld Addr.TIME_STATE 10 2 = j) ∧
      (y.frame.payload.getD 0 0#32).getLsbD 16 = s.hub.isGateway ∧
      (∀ k, k < 3 → y.frame.payload.getD (1 + k) 0#32 = s.hub.rd (Addr.TS_T1 l k)) ∧
      (∀ k, k < 3 → y.frame.payload.getD (4 + k) 0#32 = (if (s.hub.lane l).respGot then s.hub.rd (Addr.TS_T4 l k) else 0#32)))) ∧
  (∀ (s : State) (l : LaneIx) (x : RxFrame) (y : Frame), hears l y x s → y.type = tSYNC → s.hub.liveRole l ≤ rSPANW →
    (let now := s.hub.timeAt s.raw.toNat; let w (k : Nat) : Word := y.payload.getD k 0#32
     let seq := bitsOf (w 0) 0 8; let n := (seq + 255) % 256
     let t1 : Int := instOf (w 1) (w 2) (w 3); let t4 : Int := instOf (w 4) (w 5) (w 6)
     let t2 : Int := s.hub.instAt (Addr.TS_T2 l 0); let t3 : Int := s.hub.instAt (Addr.TS_T3 l 0)
     let asym := (s.hub.rd (Addr.ASYM l)).toInt
     let nd := ((t2 - t1) + (t4 - t3)) * 1000; let no := ((t2 - t1) - (t4 - t3)) * 1000 - asym * 65536
     let complete := s.hub.fld (Addr.TS_SEQ l) 8 8 = n ∧ s.hub.fld (Addr.TS_SEQ l) 16 8 = n ∧ bitsOf (w 7) 0 8 = n ∧
       ¬(w 4 = 0#32 ∧ w 5 = 0#32 ∧ w 6 = 0#32) ∧ ∃ a, (s.hub.lane l).syncAt = some a ∧ now ≤ a + 125 * msU
     ∃ t z, exec (.sync l x) s = .next t ∧ queuedOn l z s t ∧ z.frame.type = tRESP ∧ z.frame.dst = s.hub.partnerPos l ∧
       z.frame.payload = [BitVec.ofNat 32 seq, 0#32] ∧
       (∃ k, k < (s.hub.stampMode l).perNs ∧ ∀ i, i < 3 →
         t.hub.rd (Addr.TS_T2 l i) = kxWord (s.hub.stampOf l k false s.raw.toNat ((t.hub.lane l).rxAge + 6)) i) ∧
       t.hub.fld (Addr.TS_SEQ l) 8 8 = seq ∧ (t.hub.lane l).syncAt = some now ∧ (t.hub.lane l).t2Clock = s.hub.clock ∧
       (now, bitsOf (w 0) 8 6) ∈ SMap.get [] t.hub.lan.laneHops l ∧ t.hub.dome = s.hub.dome ∧
       regsKept (fun a => a == Addr.FRAMES_RX l || decide (Addr.TS_T2 l 0 ≤ a ∧ a ≤ Addr.TS_T2 l 2) || a == Addr.TS_SEQ l ||
         a == Addr.TIME_STATE || a == Addr.LANE_MEAS_DELAY l || a == Addr.LANE_MEAS_OFFSET l || a == Addr.MEAS_DELAY ||
         a == Addr.MEAS_OFFSET) s t ∧
       (complete → 0 ≤ nd → nd / 131072 < 2 ^ 32 - 1 → -(2 ^ 31) ≤ no / 131072 → no / 131072 < 2 ^ 31 - 1 →
         (nd - 131072 * ((t.hub.rd (Addr.LANE_MEAS_DELAY l)).toNat : Int)).natAbs < 131072 ∧
         (no - 131072 * (t.hub.rd (Addr.LANE_MEAS_OFFSET l)).toInt).natAbs < 131072) ∧
       (complete → s.hub.fld Addr.TIME_SRC 0 2 = 1 → s.hub.isGateway = false → s.hub.activeLane (s.hub.liveRole l) = some l.val →
         s.hub.activeLane (1 - s.hub.liveRole l) = none →
         (∃ th : Int, t.hub.lan.meas = some { theta := th, clock := (s.hub.lane l).t2Clock } ∧
           (no - 131072 * th).natAbs < 131072) ∧
         t.hub.rd Addr.MEAS_DELAY = t.hub.rd (Addr.LANE_MEAS_DELAY l) ∧
         t.hub.rd Addr.MEAS_OFFSET = t.hub.rd (Addr.LANE_MEAS_OFFSET l)) ∧
       (¬complete → t.hub.rd (Addr.LANE_MEAS_DELAY l) = s.hub.rd (Addr.LANE_MEAS_DELAY l) ∧
         t.hub.rd (Addr.LANE_MEAS_OFFSET l) = s.hub.rd (Addr.LANE_MEAS_OFFSET l) ∧ t.hub.lan.meas = s.hub.lan.meas))) ∧
  (∀ (s : State) (l : LaneIx) (x : RxFrame) (y : Frame), hears l y x s → y.type = tRESP → s.hub.liveRole l ≤ rSPANW →
    ∃ t, exec (.resp l x) s = .next t ∧ (∃ k, k < (s.hub.stampMode l).perNs ∧ ∀ i, i < 3 →
        t.hub.rd (Addr.TS_T4 l i) = kxWord (s.hub.stampOf l k false s.raw.toNat ((t.hub.lane l).rxAge + 6)) i) ∧
      t.hub.fld (Addr.TS_SEQ l) 24 8 = bitsOf (y.payload.getD 0 0#32) 0 8 ∧
      (t.hub.lane l).respGot = decide (bitsOf (y.payload.getD 0 0#32) 0 8 = s.hub.fld (Addr.TS_SEQ l) 0 8) ∧
      t = { s with hub := { s.hub with regs := t.hub.regs, lanes := t.hub.lanes, free := t.hub.free } } ∧
      (∀ k, k ≠ l.val → t.hub.lane k = s.hub.lane k) ∧
      regsKept (fun a => a == Addr.FRAMES_RX l || a == Addr.TS_SEQ l || decide (Addr.TS_T4 l 0 ≤ a ∧ a ≤ Addr.TS_T4 l 2)) s t) ∧
  (∀ (s : State) (l : LaneIx) (x : RxFrame) (y : Frame), hears l y x s → y.type = tSPANTRIG → takes l y s →
    s.hub.bit Addr.CAPE_SPAN_CFG 0 = true →
    (let m := y.spanMsg; let now := s.hub.timeAt s.raw.toNat
     ∃ t, exec (.spanTrig l x) s = .next t ∧ t.hub.dome = s.hub.dome ∧
       ((∃ a ∈ s.hub.cape.accepted, a.1 = m.pos ∧ a.2.1 = m.id ∧ a.2.2.1 = m.seq ∧ now < a.2.2.2 + 10000000 * nsU) →
         t.hub.cape = s.hub.cape ∧ t.hub.fld Addr.CAPE_SPAN_DUP_CNT 0 16 = min (s.hub.fld Addr.CAPE_SPAN_DUP_CNT 0 16 + 1) 65535) ∧
       ((∀ a ∈ s.hub.cape.accepted, a.1 = m.pos → a.2.1 = m.id → a.2.2.1 = m.seq → a.2.2.2 + 10000000 * nsU ≤ now) →
         t.hub.fld Addr.CAPE_SPAN_RX_CNT 0 32 = (s.hub.fld Addr.CAPE_SPAN_RX_CNT 0 32 + 1) % 2 ^ 32 ∧
         ∀ u : UnitIx, (t.hub.unit u).queue = (s.hub.unit u).queue ++
           (if s.hub.bit (Addr.CAP_TRIG u) (16 + m.id) then
             [{ arrived := s.raw.toNat, time := m.time, src := 3, detail := m.pos + 64 * m.id }] else [])) ∧
       regsKept (fun a => a == Addr.FRAMES_RX l || a == Addr.CAPE_SPAN_DUP_CNT || a == Addr.CAPE_SPAN_RX_CNT || ringReg a ||
         (List.range 4).any fun j => a == Addr.FRAMES_TX j) s t)) ∧
  (∀ (s : State) (l : LaneIx) (x : RxFrame) (y : Frame), hears l y x s → y.type = tLEDGER → s.hub.liveRole l ≤ rSPANW →
    y.src ≠ s.hub.hubPos →
    (∀ j, ((s.hub.isGateway = true ∧ s.hub.activeLane rUPLINK = some j) ∨ (s.hub.isGateway = false ∧ 1 < y.ttl ∧
        s.hub.activeLane (if s.hub.liveRole l = rSPANW then rSPANE else rSPANW) = some j)) →
      ∃ t, exec (.ledger l x) s = .next t ∧ passedOn l j { y with ttl := if s.hub.isGateway then y.ttl else y.ttl - 1 } s t ∧
        freedOnly l s t ∧ (∀ k, k ≠ l.val → k ≠ j → t.hub.lane k = s.hub.lane k) ∧
        t = { s with hub := { s.hub with regs := t.hub.regs, lanes := t.hub.lanes, free := t.hub.free } } ∧
        regsKept (fun a => a == Addr.FRAMES_RX l || a == Addr.FRAMES_TX j) s t) ∧
    (s.hub.isGateway = false → y.ttl ≤ 1 → ∃ t, exec (.ledger l x) s = .next t ∧ freedOnly l s t ∧
      t.hub.fld Addr.CNT_TTL 0 16 = min (s.hub.fld Addr.CNT_TTL 0 16 + 1) 65535 ∧
      onlyLane (fun a => a == Addr.FRAMES_RX l || a == Addr.CNT_TTL) l s t)) ∧
  (∀ (s : State) (l : LaneIx) (x : RxFrame) (y : Frame) (k n : Nat), hears l y x s → y.type = tLACK → takes l y s →
    bitsOf (y.payload.getD 0 0#32) 0 4 = 1 → y.ackMsg.entries = [(k, n)] → s.hub.ackTaken y.ackMsg k = true →
    s.hub.ackHeld k = false →
    ∃ t, exec (.lack l x) s = .next t ∧
      (t.hub.stream k).ack = max (s.hub.stream k).ack (min n (s.hub.stream k).prod) ∧
      (∀ j, j ≠ k → t.hub.stream j = s.hub.stream j) ∧ t.hub.dome = s.hub.dome ∧
      regsKept (fun a => a == Addr.FRAMES_RX l || ringReg a || (List.range 4).any fun j => a == Addr.FRAMES_TX j) s t)

/-- An Ethernet uplink in LOCK becomes ACTIVE on link-up and goes to DETECT after 500 ms; ACTIVE, it goes to DETECT on
loss, with DOWN set; with PROTO AUTO the next protocol is tried after 1 s. A timeout that is not due does nothing.
PAUSE adds its quanta to CNT_PAUSE and sets the end of the pause in quanta of 512 bit times, PAUSE_END ends it. A PTP
message of the hub's profile feeds the client: Announce its server, the best dataset heard within three intervals
being chosen; Sync t2; Follow_Up t1; Delay_Req (its frame; log entry 56) t3, and waits while the lane starts no frames
(ETH_SRC 0, a PAUSE) or one is on its way out, first of those that wait; Delay_Resp to the hub's clockIdentity t4,
which completes delay and offset (rounding: log entry 6), the servo's measurement; others are ignored and counted,
with SRC not PTP in CNT_MALF off the gateway. MODULE_INSERT, DDM_POLL and MOD_ACC show presence, diagnostics and
results, ETIME and class MODULE on a failed access. EYE_START starts a point or reads EBUSY, ESTATE or ERANGE;
EYE_STOP ends it; EYE_POINT_DONE gives the count, or writes it into the scan's result, the last one with the head;
EYE_SCAN starts a scan or is answered its refusal. Where the spec leaves a reading open, the model's is that of log
entries 3, 9, 27, 36, 39 and 41. -/
def Obligations.EthernetUplinkPtpModulesAndEye : Prop :=
  (∀ (s : State) (l : LaneIx), s.hub.sys.powered = true → s.hub.isEth l = true →
    (s.hub.stageOf l = sLOCK →
      (∃ t, exec (.ethLinkUp l) s = .next t ∧ t.hub.stageOf l = sACTIVE ∧ onlyLane (stageReg l) l s t) ∧
      ((s.hub.lane l).stageAt + 500 * msU ≤ s.raw.toNat →
        ∃ t, exec (.ethLockTimeout l) s = .next t ∧ t.hub.stageOf l = sDETECT ∧ entered l s t ∧ onlyLane (stageReg l) l s t) ∧
      (s.raw.toNat < (s.hub.lane l).stageAt + 500 * msU → exec (.ethLockTimeout l) s = .next s)) ∧
    (s.hub.stageOf l = sACTIVE →
      (∃ t, exec (.ethLinkLoss l) s = .next t ∧ t.hub.stageOf l = sDETECT ∧ t.hub.bit (Addr.LANE_STATUS l) 9 = true ∧
        (t.hub.lane l).txq = [] ∧ t.hub.dome = s.hub.dome ∧
        regsKept (fun a => stageReg l a || a == Addr.CNT_DOWN l || a == Addr.CNT_DISCARD l) s t) ∧
      ∀ q : PauseTime, ∃ t, exec (.pause l q) s = .next t ∧
        t.hub.fld (Addr.CNT_PAUSE l) 0 32 = (s.hub.fld (Addr.CNT_PAUSE l) 0 32 + q.val) % 2 ^ 32 ∧
        (t.hub.lane l).pause = (if q.val = 0 then none else some (s.hub.timeAt s.raw.toNat +
          (if s.hub.protoNow l = 1 then q.val * 512 * nsU / 10 else q.val * 512 * nsU))) ∧
        onlyLane (fun a => a == Addr.CNT_PAUSE l) l s t)) ∧
  (∀ (s : State) (l : LaneIx) (e : Nat), s.hub.sys.powered = true → (s.hub.lane l).pause = some e →
    (e ≤ s.hub.timeAt s.raw.toNat → ∃ t, exec (.pauseEnd l) s = .next t ∧
      t.hub.lane l = { s.hub.lane l with pause := none } ∧ onlyLane (fun _ => false) l s t) ∧
    (s.hub.timeAt s.raw.toNat < e → exec (.pauseEnd l) s = .next s)) ∧
  (∀ (s : State) (l : LaneIx), s.hub.sys.powered = true → s.hub.liveRole l = rUPLINK → bitsOf (s.hub.lane l).cfg 3 2 = 3 →
    s.hub.stageOf l ≠ sACTIVE → s.hub.stageOf l ≠ sDISABLED →
    ((s.hub.lane l).protoAt + 1000 * msU ≤ s.raw.toNat →
      ∃ t, exec (.protoAutoTimeout l) s = .next t ∧ t.hub.stageOf l = sDETECT ∧
        t.hub.protoNow l = (s.hub.protoNow l + 1) % 3 ∧ onlyLane (stageReg l) l s t ∧
        t.hub.lane l = { s.hub.lane l with protoAt := s.raw.toNat, stageAt := s.raw.toNat }) ∧
    (s.raw.toNat < (s.hub.lane l).protoAt + 1000 * msU → exec (.protoAutoTimeout l) s = .next s)) ∧
  (∀ (s : State) (l : Nat) (m : PtpHead) (d : PtpDataset) (b : Bool) (o p rx : Nat), s.hub.sys.powered = true →
    s.hub.ptpLane = some l → l < 4 →
    (s.hub.ptpOurs l m = false → ∃ t, exec (.announce m d) s = .next t ∧ exec (.ptpSync m b) s = .next t ∧
      exec (.followUp m o) s = .next t ∧ exec (.delayResp m p rx) s = .next t ∧
      t.hub.fld (Addr.CNT_PTP_IGN l) 0 16 = min (s.hub.fld (Addr.CNT_PTP_IGN l) 0 16 + 1) 65535 ∧
      onlyRegs (fun a => a == Addr.CNT_PTP_IGN l) s t) ∧
    (s.hub.ptpOurs l m = true →
      (∃ t, exec (.announce m d) s = .next t ∧ regsKept inLog s t ∧ t.hub.dome = s.hub.dome ∧
        (∃ x ∈ t.hub.ptp.servers, x.ident = m.sender ∧ x.heard = s.hub.timeAt s.raw.toNat) ∧
        ∃ x ∈ t.hub.ptp.servers, t.hub.ptp.chosen = some x.ident ∧
          ∀ y ∈ t.hub.ptp.servers, lexLt y.dataset x.dataset = false) ∧
      (s.hub.ptp.chosen = some m.sender →
        (∃ t k, exec (.ptpSync m true) s = .next t ∧ k < (s.hub.stampMode l).perNs ∧
          t.hub.ptp.sync = some (m.seq, s.hub.stampOf l k false s.raw.toNat 0, m.corr) ∧ t.hub.ptp.syncClock = s.hub.clock ∧
          (∀ i, i < 3 → t.hub.rd (Addr.TS_T2 l i) = kxWord (s.hub.stampOf l k false s.raw.toNat 0) i) ∧
          regsKept (fun a => decide (Addr.TS_T2 l 0 ≤ a ∧ a ≤ Addr.TS_T2 l 2) || a == Addr.TS_SEQ l) s t) ∧
        (∀ t2 c, s.hub.ptp.sync = some (m.seq, t2, c) → ∃ t, exec (.followUp m o) s = .next t ∧
          t.hub.ptp.t12 = some ((o : Int) + c + m.corr, t2) ∧ t.hub.ptp.t2Clock = s.hub.ptp.syncClock ∧ t = { s with hub := { s.hub with ptp := t.hub.ptp } }) ∧
        (∀ t1 t2 t3 : Nat, s.hub.ptp.req = some (m.seq, t3) → s.hub.ptp.t12 = some ((t1 : Int), t2) →
          (p ≠ s.hub.clockIdentity l → exec (.delayResp m p rx) s = .next s) ∧
          (let nd : Int := (((t2 : Int) - t1) + ((rx - m.corr) - t3)) * 1000
           let no : Int := (((t2 : Int) - t1) - ((rx - m.corr) - t3)) * 1000 - (s.hub.rd (Addr.ASYM l)).toInt * 65536
           ∃ t, exec (.delayResp m (s.hub.clockIdentity l) rx) s = .next t ∧ t.hub.ptp.req = none ∧
             (∃ th : Int, (no - 131072 * th).natAbs < 131072 ∧
               t.hub.lan.meas = some { theta := th, clock := s.hub.ptp.t2Clock } ∧
               (t.hub.rd (Addr.LANE_MEAS_OFFSET l)).toInt = max (-(2 ^ 31)) (min (2 ^ 31 - 1) th)) ∧
             (0 ≤ nd → nd / 131072 < 2 ^ 32 - 1 →
               (nd - 131072 * ((t.hub.rd (Addr.LANE_MEAS_DELAY l)).toNat : Int)).natAbs < 131072) ∧
             t.hub.rd Addr.MEAS_DELAY = t.hub.rd (Addr.LANE_MEAS_DELAY l) ∧
             t.hub.rd Addr.MEAS_OFFSET = t.hub.rd (Addr.LANE_MEAS_OFFSET l) ∧
             regsKept (fun a => a == Addr.LANE_MEAS_DELAY l || a == Addr.LANE_MEAS_OFFSET l || a == Addr.MEAS_DELAY ||
               a == Addr.MEAS_OFFSET) s t)))) ∧
    (s.hub.ptpOurs l m = true → (s.hub.ptp.chosen ≠ some m.sender ∨ b = false) →
      ∃ t, exec (.ptpSync m b) s = .next t ∧
        t.hub.fld (Addr.CNT_PTP_IGN l) 0 16 = min (s.hub.fld (Addr.CNT_PTP_IGN l) 0 16 + 1) 65535 ∧
        onlyRegs (fun a => a == Addr.CNT_PTP_IGN l) s t) ∧
    (s.hub.ptp.chosen = none → exec .delayReqSend s = .next s) ∧
    (∀ c, s.hub.ptp.chosen = some c →
      ((s.hub.laneMute l (s.hub.timeAt s.raw.toNat) = true ∨ s.hub.laneBusy l s.raw.toNat = true) →
        exec .delayReqSend s = .next { s with hub := { s.hub with ptp.reqDue := true } }) ∧
      (s.hub.laneMute l (s.hub.timeAt s.raw.toNat) = false → s.hub.laneBusy l s.raw.toNat = false →
        ∃ t, exec .delayReqSend s = .next t ∧ delayReqSent l s t))) ∧
  (∀ (s : State) (l : LaneIx), s.hub.sys.powered = true → s.hub.stageOf l = sACTIVE → s.hub.isEth l = true →
    s.hub.ptp.reqDue = true → (s.hub.flushSpan (s.hub.timeAt s.raw.toNat)) = s.hub →
    s.hub.laneMute l (s.hub.timeAt s.raw.toNat) = false → s.hub.laneBusy l s.raw.toNat = false →
    ∃ t, exec (.frameTransmitStart l) s = .next t ∧ delayReqSent l s t) ∧
  (∀ (s : State) (l : Nat) (m : PtpHead) (d : PtpDataset) (b : Bool) (o p rx : Nat), s.hub.sys.powered = true →
    s.hub.fld Addr.TIME_SRC 0 2 ≠ 2 → s.hub.activeLane rUPLINK = some l → s.hub.isEth l = true → s.hub.isGateway = false → l < 4 →
    ∃ t, exec (.announce m d) s = .next t ∧ exec (.ptpSync m b) s = .next t ∧ exec (.followUp m o) s = .next t ∧
      exec (.delayResp m p rx) s = .next t ∧
      t.hub.fld (Addr.CNT_MALF l) 0 16 = min (s.hub.fld (Addr.CNT_MALF l) 0 16 + 1) 65535 ∧
      onlyRegs (fun a => a == Addr.CNT_MALF l) s t) ∧
  (∀ s : State, s.hub.sys.powered = true → ∃ t, exec .announceTimeout s = .next t ∧ regsKept inLog s t ∧
    t.hub.ptp.servers = s.hub.ptp.servers.filter (fun x => decide (s.hub.timeAt s.raw.toNat ≤ x.heard + 3 * x.interval)) ∧
    (t.hub.ptp.servers = [] → t.hub.ptp.chosen = none) ∧ t.hub.dome = s.hub.dome) ∧
  (∀ (s : State) (l : LaneIx) (v : List Nat), s.hub.sys.powered = true →
    (∀ i : Option Bool, ∃ t, exec (.moduleInsert l i) s = .next t ∧ t.hub.bit (Addr.MOD_STATUS l) 0 = false ∧
      (t.hub.lane l).ddm = (i == some true) ∧ (i = none → logged 18 s t) ∧ t.hub.dome = s.hub.dome ∧
      t.hub.bit (Addr.LANE_STATUS l) 7 = (s.hub.optical l || s.hub.bit (Addr.LANE_STATUS l) 7) ∧
      regsKept (fun a => stageReg l a || (i.isNone && inLog a)) s t) ∧
    ((s.hub.lane l).ddm = true →
      (∃ t, exec (.ddmPoll l (some v)) s = .next t ∧ t.hub.bit (Addr.MOD_STATUS l) 3 = true ∧
        (∀ k, k < 5 → (t.hub.rd (Addr.DDM_TEMP l + 4 * k)).toNat = v.getD k 0 % 65536) ∧
        onlyRegs (fun a => a == Addr.MOD_STATUS l || decide (Addr.DDM_TEMP l ≤ a ∧ a ≤ Addr.DDM_RXPWR l)) s t) ∧
      (∃ t, exec (.ddmPoll l none) s = .next t ∧ logged 18 s t ∧ regsKept inLog s t)) ∧
    ((s.hub.lane l).ddm = false → exec (.ddmPoll l (some v)) s = .next s ∧ exec (.ddmPoll l none) s = .next s) ∧
    (s.hub.bit (Addr.MOD_ACC l) 24 = true → ∀ byte : Option Nat, ∃ t, exec (.modAccComplete l byte) s = .next t ∧
      t.hub.bit (Addr.MOD_ACC l) 24 = false ∧ t.hub.bit (Addr.MOD_RES l) 16 = true ∧
      t.hub.fld (Addr.MOD_RES l) 8 8 = (if byte.isSome then OK else ETIME) ∧
      (∀ b, byte = some b → s.hub.bit (Addr.MOD_ACC l) 9 = false → t.hub.fld (Addr.MOD_RES l) 0 8 = b % 256) ∧
      (byte = none → logged 18 s t) ∧
      regsKept (fun a => a == Addr.MOD_ACC l || a == Addr.MOD_RES l || (byte.isNone && inLog a)) s t)) ∧
  (∀ (s : State) (m : MasterIx) (l : LaneIx) (v : Word), s.hub.sys.powered = true →
    (s.hub.accessOk m true (Addr.MOD_ACC l) 4 = true → ∃ t, exec (.modAccGo m l v) s = .next t ∧
      (s.hub.bit (Addr.MOD_ACC l) 24 = false → t.hub.rd (Addr.MOD_ACC l) = (v ||| 0x1000000#32) &&& 0x01FF03FF#32 ∧
        t.hub.rd (Addr.MOD_RES l) = 0#32 ∧ onlyStore m (fun a => a == Addr.MOD_ACC l || a == Addr.MOD_RES l) s t) ∧
      (s.hub.bit (Addr.MOD_ACC l) 24 = true → t.hub.fld (Addr.MOD_RES l) 8 8 = EBUSY ∧
        onlyStore m (fun a => a == Addr.MOD_RES l) s t)) ∧
    (s.hub.accessOk m true (Addr.EYE_CTRL l) 4 = true →
      (v.getLsbD 1 = false → ∃ t, exec (.eyeStart m l v) s = .next t ∧ onlyStore m (fun a => a == Addr.EYE_STATUS l) s t ∧
        (let dwell := s.hub.fld (Addr.EYE_PT l) 16 6
         (s.hub.bit (Addr.EYE_STATUS l) 0 = true → t.hub.fld (Addr.EYE_STATUS l) 8 8 = EBUSY) ∧
         (s.hub.bit (Addr.EYE_STATUS l) 0 = false → s.hub.stageOf l ≠ sACTIVE → t.hub.fld (Addr.EYE_STATUS l) 8 8 = ESTATE) ∧
         (s.hub.bit (Addr.EYE_STATUS l) 0 = false → s.hub.stageOf l = sACTIVE →
           ((s.hub.fld (Addr.EYE_PT l) 0 8 = 128 ∨ dwell < 10 ∨ 40 < dwell) → t.hub.fld (Addr.EYE_STATUS l) 8 8 = ERANGE) ∧
           (s.hub.fld (Addr.EYE_PT l) 0 8 ≠ 128 → 10 ≤ dwell → dwell ≤ 40 →
             (32 < dwell → s.hub.mode ≠ .service → t.hub.fld (Addr.EYE_STATUS l) 8 8 = ESTATE) ∧
             ((dwell ≤ 32 ∨ s.hub.mode = .service) → t.hub.rd (Addr.EYE_STATUS l) = 1#32))))) ∧
      (v.getLsbD 0 = false → s.hub.bit (Addr.EYE_STATUS l) 0 = true → (s.hub.lane l).eyeScan = none →
        ∃ t, exec (.eyeStop m l v) s = .next t ∧ t.hub.bit (Addr.EYE_STATUS l) 0 = false ∧
          onlyStore m (fun a => a == Addr.EYE_STATUS l) s t))) ∧
  (∀ (s : State) (l : LaneIx) (n : Nat), s.hub.sys.powered = true → s.hub.bit (Addr.EYE_STATUS l) 0 = true →
    ((s.hub.lane l).eyeScan = none → ∃ t, exec (.eyePointDone l n) s = .next t ∧ t.hub.rd (Addr.EYE_STATUS l) = 2#32 ∧
      (t.hub.rd (Addr.EYE_CNT_LO l)).toNat = n % 2 ^ 32 ∧ (t.hub.rd (Addr.EYE_CNT_HI l)).toNat = n / 2 ^ 32 % 512 ∧
      onlyRegs (fun a => a == Addr.EYE_STATUS l || a == Addr.EYE_CNT_LO l || a == Addr.EYE_CNT_HI l) s t) ∧
    (∀ e : EyeScan, (s.hub.lane l).eyeScan = some e → e.addr + 16 + 8 * (e.done + 1) ≤ domeSize →
      ∃ t, exec (.eyePointDone l n) s = .next t ∧ t.hub.domeRead (e.addr + 16 + 8 * e.done) 8 = n % 2 ^ 64 ∧
        (∀ a, (a < e.addr ∨ e.addr + 16 + 8 * (e.done + 1) ≤ a) → t.hub.domeByte a = s.hub.domeByte a) ∧
        (e.done + 1 < e.vs.length * e.ps.length → (t.hub.lane l).eyeScan = some { e with done := e.done + 1 } ∧
          t.hub.regs = s.hub.regs) ∧
        (e.vs.length * e.ps.length ≤ e.done + 1 → (t.hub.lane l).eyeScan = none ∧ t.hub.rd (Addr.EYE_STATUS l) = 2#32 ∧
          t.hub.domeWord e.addr = wd l ∧ t.hub.domeWord (e.addr + 4) = wd (e.done + 1) ∧
          t.hub.domeWord (e.addr + 8) = wd e.dwell ∧ t.hub.domeWord (e.addr + 12) = wd OK))) ∧
  (∀ (s : State) (ch : BoxIx) (a : Nat), commandWaits ch 0x51 a s → s.hub.mode ≠ .boot → a ≤ 255 →
    (let w := s.hub.slotWord a
     ((s.hub.eyeScanStart ch w).1 = OK → ∃ t, exec (.eyeScan ch) s = .next t ∧ inFlight ch t ∧
       t.hub.rd (Addr.EYE_STATUS (bitsOf (w 0) 0 2)) = 1#32 ∧ t.hub.dome = s.hub.dome ∧
       ∃ e, (t.hub.lane (bitsOf (w 0) 0 2)).eyeScan = some e ∧ e.ch = ch ∧ e.done = 0 ∧ e.addr = (w 4).toNat ∧
         e.dwell = bitsOf (w 3) 0 6) ∧
     ((signed 8 (bitsOf (w 1) 8 8) < signed 8 (bitsOf (w 1) 0 8) ∨ bitsOf (w 2) 8 7 < bitsOf (w 2) 0 7 ∨
        bitsOf (w 1) 16 8 = 0 ∨ bitsOf (w 2) 16 7 = 0) → ∃ t, exec (.eyeScan ch) s = .next t ∧ answered ch ERANGE 0 s t ∧
          t.hub.lanes = s.hub.lanes ∧ t.hub.dome = s.hub.dome)))

/-- An ACTIVE hub under a warden sends RENEW and HEARTBEAT; other states send none. The warden extends a holder's lease,
and drops a claim held to its end, or takes a sender where there is none, to its arrival + 4 ms and grants it; another
sender is denied LEASE_HELD and the entry stays. A GRANT sets an ACTIVE hub's warden lease end, or is kept by a
CLAIMING one. A DENY is counted. A standby that hears an acting peer of version 2 promises 4 ms and answers; a reply
extends the active hub's peer lease end; a claim is withdrawn when the peer acts or shares no version. Each miss of
1.1 ms is counted, on an ACTIVE hub too; from the third on the peer is unreachable and a hub that may claim is
CLAIMING, its handover given up, with CLAIM to the warden, as does the start-up rule of R356; CLAIM_SEND repeats it.
The warden grants a claim with no running lease the next epoch and 4 ms, holds one while a lease runs and denies it
WARDEN_WAIT, holds all in its start-up time, and grants a held claim when the lease has ended. Where the spec leaves a
reading open, the model's is that of log entries 3, 10, 42 and 44. -/
def Obligations.LeaseAndClaims : Prop :=
  (∀ s : State, s.hub.sys.powered = true →
    (s.hub.selState = selACTIVE → s.hub.pinWarden = false → ∃ t, exec .renewSend s = .next t ∧
      sentTo s.hub.wardenPos mRENEW false [] s t ∧ t.hub.sel = { s.hub.sel with seqs := t.hub.sel.seqs } ∧
      t.hub.dome = s.hub.dome ∧ regsKept (fun a => a == Addr.CNT_UNREACH) s t) ∧
    (s.hub.selState = selACTIVE → ∃ t, exec .heartbeatSend s = .next t ∧ t.hub.sel.tellRole = false ∧
      sentPeer mHEARTBEAT false ([s.hub.hbWord s.raw.toNat false, 0#32] ++ instWords (s.hub.leaseEnd.getD 0)) s t ∧
      t.hub.sel = { s.hub.sel with seqs := t.hub.sel.seqs, tellRole := false } ∧ t.hub.dome = s.hub.dome ∧
      regsKept (fun a => a == Addr.CNT_UNREACH) s t) ∧
    (s.hub.selState ≠ selACTIVE → exec .renewSend s = .next s ∧ exec .heartbeatSend s = .next s) ∧
    (s.hub.selState = selCLAIMING → s.hub.sel.grant = none → s.hub.pinWarden = false → s.hub.sel.noVer = false →
      ∃ t, exec .claimSend s = .next t ∧ sentTo s.hub.wardenPos mCLAIM false [0#32] s t ∧
        t.hub.sel = { s.hub.sel with seqs := t.hub.sel.seqs } ∧ regsKept (fun a => a == Addr.CNT_UNREACH) s t) ∧
    (s.hub.sel.noVer = true → exec .claimSend s = .next s)) ∧
  (∀ (s : State) (l : LaneIx) (x : RxFrame) (y : Frame) (p : Nat), hearsMsg l mRENEW false y x s → s.hub.bit Addr.SEL_CFG 19 = true → y.src < 64 →
    s.hub.wEntry y.selPair = some p → SMap.find s.hub.sel.wCut p = none →
    (let pair := y.selPair; let ep := (y.payload.getD 1 0#32).toNat
     let e := s.hub.timeAt s.raw.toNat + 4 * msU
     ((s.hub.wUsed p = true ∧ s.hub.wHolder p = y.src) ∨ s.hub.wUsed p = false ∨ SMap.find s.hub.sel.wEnd p = none →
       ∃ t, exec (.renew l x) s = .next t ∧
         entryHolds p pair y.src (max (if s.hub.wUsed p then s.hub.wEpoch p else 0) ep) e t ∧
         sentTo y.src mGRANT false
           (instWords e ++ [wd (max (if s.hub.wUsed p then s.hub.wEpoch p else 0) ep), 0#32] ++ instWords 0) s t ∧
         t.hub.sel.claims = s.hub.sel.claims.filter (fun c => !(c.pair = pair && !c.revert)) ∧
         t.hub.dome = s.hub.dome ∧ regsKept (fun a => wardenReg a || frameReg l a) s t) ∧
     (s.hub.wUsed p = true → s.hub.wHolder p ≠ y.src → (SMap.find s.hub.sel.wEnd p).isSome = true →
       ∃ t, exec (.renew l x) s = .next t ∧ sentTo y.src mDENY false [1#32] s t ∧ t.hub.sel.wEnd = s.hub.sel.wEnd ∧
         t.hub.dome = s.hub.dome ∧ regsKept (frameReg l) s t))) ∧
  (∀ (s : State) (l : LaneIx) (x : RxFrame) (y : Frame), hearsMsg l mGRANT false y x s → s.hub.paired = true → y.selPair = s.hub.pairId →
    (let e := instOf (y.payload.getD 6 0#32) (y.payload.getD 7 0#32) (y.payload.getD 8 0#32)
     (s.hub.selState = selACTIVE → ∃ t, exec (.grant l x) s = .next t ∧ t.hub.sel.leaseWarden = some e ∧
       (∀ k, k < 3 → t.hub.rd (Addr.SEL_LEASE_END0 + 4 * k) = kxWord (max e (if s.hub.sver = 1 then 0 else s.hub.sel.leasePeer.getD 0)) k) ∧
       t.hub.sel = { s.hub.sel with leaseWarden := some e } ∧ t.hub.dome = s.hub.dome) ∧
     (s.hub.selState = selCLAIMING → (y.payload.getD 10 0#32).getLsbD 1 = false →
       ∃ t, exec (.grant l x) s = .next t ∧
         t.hub.sel = { s.hub.sel with leaseWarden := some e,
                                      grant := some (s.hub.timeAt s.raw.toNat, (y.payload.getD 9 0#32).toNat) } ∧
         t.hub.selState = selCLAIMING ∧ t.hub.dome = s.hub.dome))) ∧
  (∀ (s : State) (l : LaneIx) (x : RxFrame) (y : Frame), hearsMsg l mDENY false y x s → s.hub.paired = true →
    ∃ t, exec (.deny l x) s = .next t ∧
      t.hub.fld Addr.SEL_DENY_CNT 0 16 = min (s.hub.fld Addr.SEL_DENY_CNT 0 16 + 1) 65535 ∧
      onlyLane (fun a => a == Addr.SEL_DENY_CNT || a == Addr.FRAMES_RX l) l s t) ∧
  (∀ (s : State) (l : LaneIx) (x : RxFrame) (y : Frame), hearsMsg l mHEARTBEAT false y x s → s.hub.fromPeer y = true →
    (let w := y.payload.getD 6 0#32; let now := s.hub.timeAt s.raw.toNat
     (commonVersion (bitsOf w 8 8) (bitsOf w 16 8) = some 2 →
     ∃ t, exec (.heartbeat l x) s = .next t ∧ t.hub.sel.misses = 0 ∧ t.hub.sel.lastHb = some s.raw.toNat ∧
       t.hub.sel.peerEpoch = (y.payload.getD 1 0#32).toNat ∧ t.hub.sver = 2 ∧ t.hub.sel.noVer = false ∧
       t.hub.fld Addr.SEL_STATUS 8 5 = bitsOf w 3 5 ∧ t.hub.dome = s.hub.dome ∧
       (s.hub.mode ≠ .run → regsKept (fun a => frameReg l a || a == Addr.SEL_STATUS || a == Addr.SEL_CFG ||
         decide (Addr.SEL_LEASE_END0 ≤ a ∧ a ≤ Addr.SEL_LEASE_END0 + 8)) s t) ∧
       (w.getLsbD 24 = true → s.hub.selState = selACTIVE → t.hub.sel.leasePeer = some (instOf (y.payload.getD 8 0#32)
         (y.payload.getD 9 0#32) (y.payload.getD 10 0#32)) ∧ t.hub.sel.promise = s.hub.sel.promise) ∧
       (w.getLsbD 24 = false → (bitsOf w 0 3 = selACTIVE ∨ bitsOf w 0 3 = selHANDOVER) →
         (s.hub.selState = selSTANDBY ∨ s.hub.selState = selCLAIMING) →
         t.hub.selState = selSTANDBY ∧ t.hub.sel.promise = some (now + 4 * msU) ∧ t.hub.sel.lastActHb = some s.raw.toNat ∧
         ∃ h, sentPeer mHEARTBEAT false ([h, y.payload.getD 5 0#32] ++ instWords (now + 4 * msU)) s t ∧
           h.getLsbD 24 = true ∧ bitsOf h 8 16 = 0x102)) ∧
     (commonVersion (bitsOf w 8 8) (bitsOf w 16 8) = none → w.getLsbD 24 = false →
       ∃ t, exec (.heartbeat l x) s = .next t ∧ t.hub.sver = 0 ∧ t.hub.sel.noVer = true ∧ logged 21 s t ∧
         (s.hub.selState = selCLAIMING → t.hub.selState = selSTANDBY ∧ t.hub.sel.grant = none ∧
           t.hub.mode = (if s.hub.mode = .run then .shadow else s.hub.mode)) ∧
         (s.hub.selState ≠ selCLAIMING → t.hub.selState = s.hub.selState) ∧ t.hub.dome = s.hub.dome))) ∧
  (∀ (s : State) (a : Nat), s.hub.sys.powered = true → s.hub.paired = true →
    s.hub.sel.lastHb = some a →
    (s.raw.toNat < a + (s.hub.sel.misses + 1) * 1100000 * nsU → exec .heartbeatMiss s = .next s) ∧
    (a + (s.hub.sel.misses + 1) * 1100000 * nsU ≤ s.raw.toNat → ∃ t, exec .heartbeatMiss s = .next t ∧ t.hub.sel.misses = s.hub.sel.misses + 1 ∧
      t.hub.fld Addr.SEL_HB_MISS_CNT 0 16 = min (s.hub.fld Addr.SEL_HB_MISS_CNT 0 16 + 1) 65535 ∧ t.hub.dome = s.hub.dome ∧
      ((s.hub.sel.misses < 2 ∨ ¬mayClaim s) → t.hub.selState = s.hub.selState) ∧ (2 ≤ s.hub.sel.misses → mayClaim s → claims s t) ∧ (2 ≤ s.hub.sel.misses → t.hub.pathOk = false) ∧
      regsKept (fun b => b == Addr.SEL_HB_MISS_CNT || b == Addr.SEL_STATUS || b == Addr.CNT_UNREACH) s t)) ∧
  (∀ s : State, s.hub.sys.powered = true → (s.hub.mode = .idle ∨ s.hub.mode = .armed) → mayClaim s →
    (s.hub.isPrimary = true → s.hub.sel.lastActHb = none ∨
      (∃ a, s.hub.sel.lastActHb = some a ∧ a + 100 * msU ≤ s.raw.toNat)) →
    (s.hub.isPrimary = false → s.hub.sel.idleAt + 100 * msU ≤ s.raw.toNat ∧ (s.hub.sel.lastHb = none ∨
      (∃ a, s.hub.sel.lastHb = some a ∧ a + 100 * msU ≤ s.raw.toNat))) →
    ∃ t, exec .startupClaimEval s = .next t ∧ claims s t ∧
      regsKept (fun b => b == Addr.SEL_STATUS || b == Addr.CNT_UNREACH) s t ∧ t.hub.dome = s.hub.dome) ∧
  (∀ (s : State) (l : LaneIx) (x : RxFrame) (y : Frame) (p : Nat), hearsMsg l mCLAIM false y x s → s.hub.bit Addr.SEL_CFG 19 = true → y.src < 64 →
    (y.payload.getD 6 0#32).getLsbD 0 = false → s.hub.wEntry y.selPair = some p →
    (let pair := y.selPair; let ep := (y.payload.getD 1 0#32).toNat
     let now := s.hub.timeAt s.raw.toNat
     let e := max (if s.hub.wUsed p then s.hub.wEpoch p else 0) ep + 1
     let c : HeldClaim := { pair := pair, pos := y.src, epoch := ep, revert := false }
     ∃ t, exec (.claim l x) s = .next t ∧ t.hub.dome = s.hub.dome ∧
       (s.hub.sel.holdStart = true → c ∈ t.hub.sel.claims ∧ onlyWarden l s t) ∧
       (s.hub.sel.holdStart = false → s.hub.wRuns p now = false → e < 2 ^ 32 →
         entryHolds p pair y.src e (now + 4 * msU) t ∧ (∀ d ∈ t.hub.sel.claims, d.pair ≠ pair) ∧
         sentTo y.src mGRANT false (instWords (now + 4 * msU) ++ [wd e, 1#32] ++ instWords 0) s t ∧
         regsKept (fun a => wardenReg a || frameReg l a) s t) ∧
       (s.hub.sel.holdStart = false → s.hub.wRuns p now = true → c ∈ t.hub.sel.claims ∧ onlyWarden l s t ∧
         sentTo y.src mDENY false [3#32] s t))) ∧
  (∀ (s : State) (c : HeldClaim) (p : Nat), s.hub.sys.powered = true → s.hub.sel.claims = [c] → c.pos < 64 → c.pair < 65536 →
    s.hub.wEntry c.pair = some p → s.hub.wRuns p (s.hub.timeAt s.raw.toNat) = false → SMap.find s.hub.sel.wCut p = none →
    (let now := s.hub.timeAt s.raw.toNat; let e := max (if s.hub.wUsed p then s.hub.wEpoch p else 0) c.epoch + 1
     e < 2 ^ 32 →
     (s.hub.bit Addr.SEL_CFG 19 = true → s.hub.sel.holdStart = false → s.hub.wUsed p = true →
       ∃ t, exec .wardenLeaseExpiry s = .next t ∧ entryHolds p c.pair c.pos e (now + 4 * msU) t ∧ t.hub.sel.claims = [] ∧
         sentTo c.pos mGRANT false (instWords (now + 4 * msU) ++ [wd e, 1#32] ++ instWords 0) s t ∧
         t.hub.dome = s.hub.dome ∧ regsKept (fun a => wardenReg a || a == Addr.CNT_UNREACH) s t) ∧
     (s.hub.sel.holdStart = true →
       ∃ t, exec .wardenStartupHoldEnd s = .next t ∧ t.hub.sel.holdStart = false ∧
         entryHolds p c.pair c.pos e (now + 4 * msU) t ∧ t.hub.sel.claims = [] ∧
         sentTo c.pos mGRANT false (instWords (now + 4 * msU) ++ [wd e, 1#32] ++ instWords 0) s t ∧
         t.hub.dome = s.hub.dome ∧ regsKept (fun a => wardenReg a || a == Addr.CNT_UNREACH) s t)))

/-- PROMOTION of a CLAIMING hub whose grant and promise have come makes it ACTIVE with the new epoch, drives excitation
per EXC_CFG, counts the takeover and turns SHADOW into RUN; before that nothing but the pin's bit changes. XSW_TIME
after it XSW_TIME_END ends the hold of CHARGE samples and requests every CHARGE channel's reset. Reaching the lease
end, a fault outside R358, and a falling ARB_GRANT_IN fence an ACTIVE hub; FENCE_BOUNDARY makes it STANDBY, RUN
becoming SHADOW. A rising pin makes a healthy standby CLAIMING with the epoch of R359. RELINQUISH frees the warden's
entry, or makes the peer claim. A PRIMARY healthy for REVERT_HOLD proposes if it may claim, and so does a standby
whose active peer does; the active hub accepts, sealing the content packets it has open, with F_h the first frame
boundary at least 20 ms ahead; the claimant with F_h and the grant confirms, and so does the active hub; CANCEL, and
lack of confirmation 5 ms before F_h, abandon it, and the claimant retries after 1 s; at the warden CANCEL takes back
the claim and the cut; 5 us before F_h the active hub closes and sends the final LEDGER_M; at F_h it is STANDBY and
the claimant is promoted. Where the spec leaves a reading open, the model's is that of log entries 3, 43 and 44. -/
def Obligations.TakeoverAndHandover : Prop :=
  (∀ (s : State) (b : Bool) (a e : Nat), s.hub.sys.powered = true → s.hub.selState = selCLAIMING → s.hub.sel.grant = some (a, e) →
    (let b0 := frameOf (s.hub.timeAt s.raw.toNat) * frameU
    (a ≤ b0 → (s.hub.bit Addr.SEL_CFG 20 = false ∨ b = false) →
      (s.hub.pinWarden = true ∨ s.hub.sel.promise.getD 0 ≤ b0) →
      ∃ t, exec (.promotion b) s = .next t ∧ promoted e s t ∧ t.hub.sel.promotedAt = b0 ∧ t.hub.bit Addr.SEL_STATUS 16 = b) ∧
    ((b0 < a ∨ (s.hub.bit Addr.SEL_CFG 20 = true ∧ b = true) ∨
        (s.hub.pinWarden = false ∧ b0 < s.hub.sel.promise.getD 0)) →
      ∃ t, exec (.promotion b) s = .next t ∧ t.hub.bit Addr.SEL_STATUS 16 = b ∧ t.hub.selState = selCLAIMING ∧
        onlyRegs (fun x => x == Addr.SEL_STATUS) s t))) ∧
  (∀ s : State, s.hub.sys.powered = true →
    s.hub.timeAt s.raw.toNat < s.hub.sel.promotedAt + s.hub.fld Addr.SEL_TIMING 16 16 * 1000 * nsU → exec .xswTimeEnd s = .next s) ∧
  (∀ s : State, s.hub.sys.powered = true →
    s.hub.sel.promotedAt + s.hub.fld Addr.SEL_TIMING 16 16 * 1000 * nsU ≤ s.hub.timeAt s.raw.toNat →
    ∃ t, exec .xswTimeEnd s = .next t ∧ t.hub.dome = s.hub.dome ∧
    (∀ g, g < 512 → (t.hub.chan g).xswHold = false) ∧
    (∀ n c, n < 16 → c < 32 → (s.hub.chan (chNo n c)).xswHold = true → s.hub.feMode n c = mCHARGE →
      (s.hub.chan (chNo n c)).chg = .track → (t.hub.chan (chNo n c)).chgReq = true ∧ t.hub.bit (Addr.FE_CHG_RESET n) c = true) ∧
    regsKept (fun a => (List.range 16).any fun n => a == Addr.FE_CHG_RESET n) s t) ∧
  (∀ (s : State) (e : Nat), s.hub.sys.powered = true → s.hub.selState = selACTIVE → s.hub.pinWarden = false →
    s.hub.leaseEnd = some e →
    (e ≤ s.hub.timeAt s.raw.toNat → ∃ t, exec .leaseExpiry s = .next t ∧ fenced s t) ∧
    (s.hub.timeAt s.raw.toNat < e → exec .leaseExpiry s = .next s)) ∧
  (∀ s : State, s.hub.sys.powered = true → s.hub.paired = true →
    (s.hub.selOk s.raw.toNat = false → ∃ t, exec .selfFault s = .next t ∧ t.hub.sel.faulted = true ∧
      (s.hub.sel.faulted = false → logged 21 s t) ∧ (s.hub.selState = selACTIVE → fenced s t) ∧
      (s.hub.selState = selCLAIMING → t.hub.selState = selSTANDBY ∧ t.hub.sel.grant = none) ∧
      (s.hub.selState ≠ selACTIVE → s.hub.mode ≠ .run →
        regsKept (fun a => inLog a || a == Addr.SEL_STATUS) s t ∧ t.hub.dome = s.hub.dome)) ∧
    (s.hub.pinWarden = true → s.hub.selState = selACTIVE → ∃ t, exec .arbGrantFall s = .next t ∧ fenced s t ∧
      t.hub.bit Addr.SEL_STATUS 17 = false) ∧
    (s.hub.pinWarden = true → s.hub.selState = selCLAIMING → ∃ t, exec .arbGrantFall s = .next t ∧
      t.hub.selState = selSTANDBY ∧ t.hub.sel.grant = none ∧ t.hub.bit Addr.SEL_STATUS 17 = false ∧
      t.hub.mode = (if s.hub.mode = .run then .shadow else s.hub.mode) ∧ t.hub.dome = s.hub.dome) ∧
    (s.hub.pinWarden = true → (s.hub.selState = selSTANDBY ∨ s.hub.selState = selCLAIMING) → s.hub.mayClaim s.raw.toNat = true →
      ∃ t, exec .arbGrantRise s = .next t ∧ t.hub.selState = selCLAIMING ∧ t.hub.bit Addr.SEL_STATUS 17 = true ∧
        t.hub.sel.grant = some (s.hub.timeAt s.raw.toNat, max (s.hub.rd Addr.SEL_EPOCH).toNat s.hub.sel.peerEpoch + 1) ∧
        t.hub.pins.arbGrantIn = true ∧ regsKept (fun a => a == Addr.SEL_STATUS) s t ∧ t.hub.dome = s.hub.dome) ∧
    (s.hub.mayClaim s.raw.toNat = false → ∃ t, exec .arbGrantRise s = .next t ∧ t.hub.selState = s.hub.selState ∧
      t.hub.sel = s.hub.sel ∧ t.hub.bit Addr.SEL_STATUS 17 = true) ∧
    (s.hub.selState = selFENCED → frameOf (s.hub.timeAt s.raw.toNat) ≤ s.hub.sel.fenceFrame → exec .fenceBoundary s = .next s) ∧
    (s.hub.selState = selFENCED → s.hub.sel.fenceFrame < frameOf (s.hub.timeAt s.raw.toNat) → ∃ t, exec .fenceBoundary s = .next t ∧ t.hub.selState = selSTANDBY ∧
      t.hub.mode = (if s.hub.mode = .run then .shadow else s.hub.mode) ∧ t.hub.dome = s.hub.dome)) ∧
  (∀ (s : State) (l : LaneIx) (x : RxFrame) (y : Frame), hearsMsg l mRELINQUISH false y x s →
    (s.hub.fromPeer y = true → mayClaim s →
      ∃ t, exec (.relinquish l x) s = .next t ∧ claims s t ∧ t.hub.sel.misses = 0 ∧ t.hub.dome = s.hub.dome ∧
        regsKept (fun a => frameReg l a || a == Addr.SEL_STATUS) s t) ∧
    (∀ p, s.hub.fromPeer y = false → s.hub.bit Addr.SEL_CFG 19 = true →
      (List.range 32).find? (fun q => s.hub.wUsed q && s.hub.wPair q = y.selPair &&
        s.hub.wHolder q = y.src) = some p → s.hub.sel.claims = [] →
      ∃ t, exec (.relinquish l x) s = .next t ∧ SMap.find t.hub.sel.wEnd p = none ∧ t.hub.dome = s.hub.dome ∧
        (∀ q, q ≠ p → SMap.find t.hub.sel.wEnd q = SMap.find s.hub.sel.wEnd q) ∧
        t.hub.rd (Addr.SEL_WTBL_END_SEC p) = 0#32 ∧
        regsKept (fun a => frameReg l a || a == Addr.SEL_WTBL_END_NS p || a == Addr.SEL_WTBL_END_SEC p) s t)) ∧
  (∀ s : State, s.hub.sys.powered = true → s.hub.bothLocked = true → s.hub.selState = selSTANDBY → s.hub.sel.hand = none →
    (s.hub.mayClaim s.raw.toNat = false → exec .revertHoldElapsed s = .next s ∧
      ∃ t, exec .handoverRetry s = .next t ∧ t.hub.sel.hand = none ∧ t.hub.lanes = s.hub.lanes ∧ t.hub.regs = s.hub.regs) ∧
    (s.hub.mayClaim s.raw.toNat = true →
    (∀ a, s.hub.bit Addr.SEL_CFG 21 = true → s.hub.isPrimary = true → s.hub.health s.raw.toNat = 31 →
      s.hub.sel.healthySince = some a →
      (a + s.hub.fld Addr.SEL_TIMING 0 8 * 1000 * msU ≤ s.raw.toNat → ∃ t, exec .revertHoldElapsed s = .next t ∧ proposes s t) ∧
      (s.raw.toNat < a + s.hub.fld Addr.SEL_TIMING 0 8 * 1000 * msU → exec .revertHoldElapsed s = .next s)) ∧
    (s.hub.sel.retry = true →
      (s.hub.sel.abandonedAt + 1000 * msU ≤ s.raw.toNat → ∃ t, exec .handoverRetry s = .next t ∧ proposes s t) ∧
      (s.raw.toNat < s.hub.sel.abandonedAt + 1000 * msU → exec .handoverRetry s = .next s)))) ∧
  (∀ (s : State) (l : LaneIx) (x : RxFrame) (y : Frame),
    (fromTwin l 0 y x s → s.hub.bothLocked = true → s.hub.selState = selACTIVE →
      ∃ t fh, exec (.handoverPropose l x) s = .next t ∧ t.hub.sel.hand = some { claimant := false, fh := some fh } ∧
        fh % frameU = 0 ∧ s.hub.timeAt s.raw.toNat + 20 * msU ≤ fh ∧ fh < s.hub.timeAt s.raw.toNat + 20 * msU + frameU ∧
        sentPeer mHANDOVER false (instWords fh ++ [1#32]) s t ∧
        (∀ k p, k < 1024 → (t.hub.stream k).opn = some p → p.kind ≠ .record ∧ p.kind ≠ .streamcap ∧ p.kind ≠ .event) ∧
        ((∀ k p, k < 1024 → (s.hub.stream k).opn = some p → p.kind ≠ .record ∧ p.kind ≠ .streamcap ∧ p.kind ≠ .event) →
          t.hub.streams = s.hub.streams ∧ t.hub.dome = s.hub.dome ∧ regsKept (frameReg l) s t)) ∧
    (fromTwin l 0 y x s → s.hub.bothLocked = true → s.hub.selState = selSTANDBY → s.hub.sel.hand = none → s.hub.mayClaim s.raw.toNat = true →
      ∃ t, exec (.handoverPropose l x) s = .next t ∧ proposed s t ∧ t.hub.dome = s.hub.dome ∧ regsKept (frameReg l) s t) ∧
    (∀ v : Handover, fromTwin l 1 y x s → s.hub.pinWarden = false → s.hub.sel.hand = some v → v.claimant = true →
      ∃ t, exec (.handoverAccept l x) s = .next t ∧ t.hub.dome = s.hub.dome ∧ regsKept (frameReg l) s t ∧
        (v.granted = none → t.hub.sel.hand = some { v with fh := some (handTime y) }) ∧
        (v.granted.isSome = true → v.confirmed = false →
          t.hub.sel.hand = some { v with fh := some (handTime y), confirmed := true } ∧
          sentPeer mHANDOVER false (instWords (handTime y) ++ [2#32]) s t)) ∧
    (∀ (v : Handover) (fh : Nat), fromTwin l 2 y x s → s.hub.sel.hand = some v → v.fh = some fh →
      ∃ t, exec (.handoverConfirm l x) s = .next t ∧ t.hub.dome = s.hub.dome ∧ regsKept (frameReg l) s t ∧
        t.hub.sel.hand = some { v with peerConfirmed := true, confirmed := !v.claimant || v.confirmed } ∧
        (v.claimant = false → v.confirmed = false → sentPeer mHANDOVER false (instWords fh ++ [2#32]) s t)) ∧
    (∀ v : Handover, fromTwin l 3 y x s → s.hub.sel.hand = some v →
      ∃ t, exec (.handoverCancel l x) s = .next t ∧ t.hub.sel.hand = none ∧ t.hub.sel.retry = v.claimant ∧
        t.hub.sel.abandonedAt = s.raw.toNat ∧ t.hub.dome = s.hub.dome ∧ regsKept (frameReg l) s t) ∧
    (hearsMsg l mHANDOVER false y x s → y.handKind = 3 → s.hub.fromPeer y = false →
      ∃ t, exec (.handoverCancel l x) s = .next t ∧ t.hub.dome = s.hub.dome ∧ regsKept (frameReg l) s t ∧
        t.hub.sel = { s.hub.sel with claims := s.hub.sel.claims.filter (fun c => !(c.pair = y.selPair && c.revert)),
                                     wCut := s.hub.sel.wCut.filter fun c => s.hub.wPair c.1 ≠ y.selPair })) ∧
  (∀ (s : State) (v : Handover) (fh : Nat), s.hub.sys.powered = true → s.hub.sel.hand = some v → v.fh = some fh →
    (let now := s.hub.timeAt s.raw.toNat
     (fh ≤ now + 5 * msU → (v.confirmed = false ∨ v.peerConfirmed = false) →
       ∃ t, exec .handoverConfirmTimeout s = .next t ∧ t.hub.sel.hand = none ∧ t.hub.sel.retry = v.claimant ∧
         sentPeer mHANDOVER false (instWords fh ++ [3#32]) s t ∧ t.hub.dome = s.hub.dome ∧
         regsKept (fun a => a == Addr.CNT_UNREACH) s t) ∧
     ((now + 5 * msU < fh ∨ (v.confirmed = true ∧ v.peerConfirmed = true)) → exec .handoverConfirmTimeout s = .next s) ∧
     (v.confirmed = true → v.peerConfirmed = true →
       (s.hub.mirrors = true → v.claimant = false → v.closed = false → fh ≤ now + 5000 * nsU →
         ((List.range 1024).filter s.hub.streamLive).length ≤ 125 →
         ∃ t, exec .handoverSendStop s = .next t ∧ t.hub.sel.hand = some { v with closed := true } ∧
           sentPeer mLEDGERM true (ledgerMBody fh s.hub) s t ∧ t.hub.dome = s.hub.dome ∧
           regsKept (fun a => a == Addr.CNT_UNREACH) s t) ∧
       (fh ≤ now → v.claimant = false → s.hub.selState = selACTIVE →
         ∃ t, exec .handoverFrame s = .next t ∧ t.hub.selState = selSTANDBY ∧ t.hub.sel.hand = none ∧ t.hub.led.out = [] ∧
           (∀ n, n < 16 → (t.hub.spire n).exc = .hiz) ∧ t.hub.leaseEnd = none ∧
           t.hub.mode = (if s.hub.mode = .run then .shadow else s.hub.mode) ∧ t.hub.dome = s.hub.dome) ∧
       (∀ e, fh ≤ now → v.claimant = true → v.granted = some e → s.hub.selState = selSTANDBY →
         ∃ t, exec .handoverFrame s = .next t ∧ promoted e s t))))

/-- A mirroring hub sends every enabled stream's NEXT and next produced in LEDGER_M (one frame up to 125 streams), a
waiting CONTEXT copy at its ring slot, 10 ms or more after the last, the histogram words that differ from those sent
last, and baselines and noise in THRESHOLDS, which in version 1 only count; a hub that does not mirror sends nothing.
A hub that is not ACTIVE applies what its peer sends: a LEDGER_M set when LAST comes, moving NEXT; one not yet
complete is kept, and lost and counted when another begins or LAST comes without every enabled stream; a CONTEXT copy
at once in WAIT, else it waits; histogram words to DATA with LAST, else only to MIRROR, a set with a frame missing in
its midst or before its first being given up and counted (log entry 56); thresholds to each named channel's detector;
a complete CAPTURE record to the ring in MIRROR, its parts being kept until then, one with a part lost being counted
once. A copy queued for the TWIN lane replaces, and counts, one still waiting. MIRROR_PATH_RETURN goes back to a TWIN
lane ACTIVE for 100 ms. Where the spec leaves a reading open, the model's is that of log entry 37. -/
def Obligations.MirrorOfTheActiveHub : Prop :=
  (∀ s : State, s.hub.sys.powered = true →
    (s.hub.mirrors = true → ((List.range 1024).filter s.hub.streamLive).length ≤ 125 →
      ∃ t, exec .ledgerMSend s = .next t ∧ sentPeer mLEDGERM true (ledgerMBody (s.hub.timeAt s.raw.toNat) s.hub) s t ∧
        t.hub.sel = { s.hub.sel with seqs := t.hub.sel.seqs } ∧ t.hub.dome = s.hub.dome ∧
        regsKept (fun a => a == Addr.CNT_UNREACH) s t) ∧
    (s.hub.mirrors = false → exec .ledgerMSend s = .next s ∧ exec .histogramSend s = .next s ∧ exec .thresholdsSend s = .next s) ∧
    (∀ j, s.hub.activeLane rTWIN = some j →
      ((s.hub.lane j).activeAt + 100 * msU ≤ s.raw.toNat → ∃ t, exec .mirrorPathReturn s = .next t ∧
        t.hub.bit Addr.SEL_STATUS 13 = false ∧ onlyRegs (fun a => a == Addr.SEL_STATUS) s t) ∧
      (s.raw.toNat < (s.hub.lane j).activeAt + 100 * msU → exec .mirrorPathReturn s = .next s)) ∧
    (s.hub.activeLane rTWIN = none → exec .mirrorPathReturn s = .next s)) ∧
  (∀ (s : State) (c : CtxIx) (k : CtxCopy), s.hub.sys.powered = true → s.hub.mirrors = true →
    SMap.find s.hub.sel.waiting c = some k →
    (∀ a, SMap.find s.hub.sel.slotAt c = some a → s.raw.toNat < a + 10 * msU → exec (.contextFallbackSlot c) s = .next s) ∧
    ((∀ a, SMap.find s.hub.sel.slotAt c = some a → a + 10 * msU ≤ s.raw.toNat) →
    ∃ t, exec (.contextFallbackSlot c) s = .next t ∧ SMap.find t.hub.sel.waiting c = none ∧
      SMap.find t.hub.sel.slotAt c = some s.raw.toNat ∧
      sentPeer mCONTEXT true (k.body c) s t ∧ (∀ d, d ≠ c.val → SMap.find t.hub.sel.waiting d = SMap.find s.hub.sel.waiting d) ∧
      t.hub.ctxs = s.hub.ctxs ∧ t.hub.dome = s.hub.dome ∧ regsKept (fun a => a == Addr.CNT_UNREACH) s t)) ∧
  (∀ (s : State) (i a n o : Nat), s.hub.sys.powered = true → s.hub.mirrors = true → s.hub.histMap = [(i, a, n, o)] →
    a + n ≤ s.hub.mirrorBase → s.hub.mirrorBase + o + n ≤ domeSize →
    (let ks := (List.range (n / 8)).filter fun k => s.hub.domeRead (a + 8 * k) 8 ≠ s.hub.domeRead (s.hub.mirrorBase + o + 8 * k) 8
     ks.length ≤ 167 → ∃ t, exec .histogramSend s = .next t ∧ t.hub.sel.histPeriod = (s.hub.sel.histPeriod + 1) % 2 ^ 32 ∧
       sentPeer mHISTOGRAM true ([wd i, wd (ks.length + 65536), wd s.hub.sel.histPeriod] ++ ks.flatMap fun k =>
         [wd (8 * k), wd (s.hub.domeRead (a + 8 * k) 8), wd (s.hub.domeRead (a + 8 * k) 8 / 2 ^ 32)]) s t ∧
       (∀ k, k < n / 8 → t.hub.domeRead (s.hub.mirrorBase + o + 8 * k) 8 = s.hub.domeRead (a + 8 * k) 8) ∧
       (∀ b, b < s.hub.mirrorBase + o ∨ s.hub.mirrorBase + o + n ≤ b → t.hub.domeByte b = s.hub.domeByte b) ∧
       regsKept (fun a => a == Addr.CNT_UNREACH) s t)) ∧
  (∀ (s : State) (first count : Nat), s.hub.sys.powered = true → s.hub.mirrors = true →
    s.hub.sys.plan.mirror = [.thresholds first count] → 0 < count → count ≤ 252 →
    (s.hub.sver ≠ 1 → ∃ t, exec .thresholdsSend s = .next t ∧ t.hub.dome = s.hub.dome ∧
      sentPeer mTHRESHOLDS true ([wd first, wd count] ++ (List.range count).flatMap fun i =>
        [wdInt ((s.hub.chan (first + i)).sen.base.getD 0), wdInt (s.hub.chan (first + i)).sen.noise]) s t ∧
      regsKept (fun a => a == Addr.CNT_UNREACH) s t) ∧
    (s.hub.sver = 1 → ∃ t, exec .thresholdsSend s = .next t ∧
      t.hub.fld Addr.SEL_MIRROR_LOST_CNT 0 16 = min (s.hub.fld Addr.SEL_MIRROR_LOST_CNT 0 16 + 1) 65535 ∧
      onlyRegs (fun a => a == Addr.SEL_MIRROR_LOST_CNT) s t)) ∧
  (∀ (s : State) (l : LaneIx) (x : RxFrame) (y : Frame), hearsMsg l mLEDGERM true y x s → s.hub.fromPeer y = true →
    s.hub.selState ≠ selACTIVE →
    (let w (k : Nat) : Word := y.payload.getD k 0#32
     let tm := instOf (w 6) (w 7) (w 8); let k := bitsOf (w 10) 0 10
     let next := 2 ^ 32 * bitsOf (w 10) 16 16 + (w 11).toNat; let prod := (w 12).toNat + 2 ^ 32 * bitsOf (w 13) 0 16
     (s.hub.sel.setM = none → (w 9).getLsbD 16 = true → bitsOf (w 9) 0 16 = 1 → s.hub.wholeSet [(k, next, prod)] = false →
       ∃ t, exec (.ledgerM l x) s = .next t ∧ t.hub.streams = s.hub.streams ∧ t.hub.led = s.hub.led ∧ t.hub.sel.setM = none ∧
         t.hub.fld Addr.SEL_MIRROR_LOST_CNT 0 16 = min (s.hub.fld Addr.SEL_MIRROR_LOST_CNT 0 16 + 1) 65535) ∧
     (s.hub.sel.setM = none → (w 9).getLsbD 16 = true → bitsOf (w 9) 0 16 = 1 → s.hub.wholeSet [(k, next, prod)] = true →
       ∃ t, exec (.ledgerM l x) s = .next t ∧ (t.hub.stream k).mirNext = next ∧ (t.hub.stream k).mirProd = prod ∧
         (t.hub.stream k).ack = max (s.hub.stream k).ack (min next (s.hub.stream k).prod) ∧ t.hub.led.tm = some tm ∧
         t.hub.sel.setM = none ∧ (∀ j, j ≠ k → t.hub.stream j = s.hub.stream j) ∧ t.hub.dome = s.hub.dome ∧
         regsKept (frameReg l) s t) ∧
     ((w 9).getLsbD 16 = false → ∃ t, exec (.ledgerM l x) s = .next t ∧ t.hub.streams = s.hub.streams ∧ t.hub.led = s.hub.led ∧
       t.hub.sel.setM.map Prod.fst = some tm ∧ t.hub.dome = s.hub.dome ∧
       (∀ o es, s.hub.sel.setM = some (o, es) → o ≠ tm →
         t.hub.fld Addr.SEL_MIRROR_LOST_CNT 0 16 = min (s.hub.fld Addr.SEL_MIRROR_LOST_CNT 0 16 + 1) 65535) ∧
       (s.hub.sel.setM = none → regsKept (frameReg l) s t)))) ∧
  (∀ (s : State) (l : LaneIx) (x : RxFrame) (y : Frame), hearsMsg l mCONTEXT true y x s → s.hub.fromPeer y = true →
    s.hub.selState ≠ selACTIVE →
    (let c := bitsOf (y.payload.getD 6 0#32) 0 8; let gs := maskBits 16 (bitsOf (y.payload.getD 6 0#32) 16 16)
     ∃ t, exec (.context l x) s = .next t ∧ t.hub.ctxs = s.hub.ctxs ∧ t.hub.dome = s.hub.dome ∧
       ((s.hub.ctx c).st = .wait → SMap.find t.hub.sel.copies c = none ∧
         (∀ i j, gs[i]? = some j → t.hub.g c j = y.payload.getD (8 + i) 0#32) ∧
         (∀ j : Fin 16, j.val ∉ gs → t.hub.g c j = s.hub.g c j) ∧ t.hub.pc c = s.hub.pc c) ∧
       ((s.hub.ctx c).st ≠ .wait → (∃ k, SMap.find t.hub.sel.copies c = some k ∧ k.g.map Prod.fst = gs) ∧
         regsKept (frameReg l) s t))) ∧
  (∀ (s : State) (l : LaneIx) (x : RxFrame) (y : Frame) (a n o : Nat), hearsMsg l mHISTOGRAM true y x s → s.hub.fromPeer y = true →
    s.hub.selState ≠ selACTIVE → s.hub.sel.hist = none → bitsOf (y.payload.getD 7 0#32) 0 16 = 1 →
    s.hub.histMap.find? (fun e => e.1 = (y.payload.getD 6 0#32).toNat) =
      some ((y.payload.getD 6 0#32).toNat, a, n, o) →
    (let b := (y.payload.getD 9 0#32).toNat; let seq := (y.payload.getD 5 0#32).toNat
     let v := (y.payload.getD 10 0#32).toNat + 2 ^ 32 * (y.payload.getD 11 0#32).toNat
     let follows := s.hub.sel.histSeq = none ∨ ∃ q, s.hub.sel.histSeq = some q ∧ seq = (q + 1) % 2 ^ 32
     b + 8 ≤ n → a + n ≤ s.hub.mirrorBase → s.hub.mirrorBase + o + n ≤ domeSize →
     ∃ t, exec (.histogram l x) s = .next t ∧ t.hub.domeRead (s.hub.mirrorBase + o + b) 8 = v ∧ t.hub.sel.histSeq = some seq ∧
       ((y.payload.getD 7 0#32).getLsbD 16 = true → t.hub.sel.hist = none ∧
         (follows → t.hub.domeRead (a + b) 8 = v ∧ regsKept (frameReg l) s t) ∧
         (¬follows → t.hub.fld Addr.SEL_MIRROR_LOST_CNT 0 16 = min (s.hub.fld Addr.SEL_MIRROR_LOST_CNT 0 16 + 1) 65535 ∧
           ∀ d, d < s.hub.mirrorBase → t.hub.domeByte d = s.hub.domeByte d)) ∧
       ((y.payload.getD 7 0#32).getLsbD 16 = false →
         t.hub.sel.hist = some ((y.payload.getD 8 0#32).toNat, [(a + b, v)]) ∧ (t.hub.sel.histBad = true ↔ ¬follows) ∧
         regsKept (frameReg l) s t ∧ ∀ d, d < s.hub.mirrorBase → t.hub.domeByte d = s.hub.domeByte d) ∧
       (∀ d, (d < a + b ∨ a + b + 8 ≤ d) → (d < s.hub.mirrorBase + o + b ∨ s.hub.mirrorBase + o + b + 8 ≤ d) →
         t.hub.domeByte d = s.hub.domeByte d))) ∧
  (∀ (s : State) (l : LaneIx) (x : RxFrame) (y : Frame), hearsMsg l mTHRESHOLDS true y x s → s.hub.fromPeer y = true →
    s.hub.selState ≠ selACTIVE →
    (let f := (y.payload.getD 6 0#32).toNat; let n := min 252 (y.payload.getD 7 0#32).toNat
     ∃ t, exec (.thresholds l x) s = .next t ∧ t.hub.dome = s.hub.dome ∧ regsKept (frameReg l) s t ∧
       (∀ i, i < n → f + i < 512 → t.hub.chan (f + i) = { s.hub.chan (f + i) with sen := { (s.hub.chan (f + i)).sen with
         loaded := some ((y.payload.getD (8 + 2 * i) 0#32).toInt, (y.payload.getD (9 + 2 * i) 0#32).toInt) } }) ∧
       ∀ g, (g < f ∨ f + n ≤ g) → t.hub.chan g = s.hub.chan g)) ∧
  (∀ (s : State) (l : LaneIx) (x : RxFrame) (y : Frame), hearsMsg l mCAPTURE true y x s → s.hub.fromPeer y = true →
    s.hub.selState ≠ selACTIVE → bitsOf (y.payload.getD 6 0#32) 8 8 = 0 →
    SMap.find s.hub.sel.capParts (bitsOf (y.payload.getD 6 0#32) 0 5) = none →
    (let u := bitsOf (y.payload.getD 6 0#32) 0 5; let ws := y.payload.drop 8; let n := 4 * ws.length
     let o := if s.hub.mirrorHalf < s.hub.sel.capPos + n then 0 else s.hub.sel.capPos
     let a := s.hub.mirrorBase + s.hub.mirrorHalf + o
     ∃ t, exec (.captureMirror l x) s = .next t ∧ regsKept (frameReg l) s t ∧
       ((y.payload.getD 6 0#32).getLsbD 16 = false → t.hub.dome = s.hub.dome ∧
         SMap.find t.hub.sel.capParts u = some (1, (y.payload.getD 7 0#32).toNat, ws)) ∧
       ((y.payload.getD 6 0#32).getLsbD 16 = true → n ≤ s.hub.mirrorHalf → a + n ≤ domeSize →
         t.hub.sel.capPos = o + n ∧ (∀ i, i < n → t.hub.domeByte (a + i) = (wordBytes ws).getD i 0#8) ∧
         ∀ d, (d < a ∨ a + n ≤ d) → t.hub.domeByte d = s.hub.domeByte d))) ∧
  (∀ (s : State) (l : LaneIx) (x : RxFrame) (y : Frame), hearsMsg l mCAPTURE true y x s → s.hub.fromPeer y = true →
    s.hub.selState ≠ selACTIVE →
    (let u := bitsOf (y.payload.getD 6 0#32) 0 5; let part := bitsOf (y.payload.getD 6 0#32) 8 8
     let seq := (y.payload.getD 7 0#32).toNat
     (part ≠ 0 → SMap.find s.hub.sel.capParts u = none → ∃ t, exec (.captureMirror l x) s = .next t ∧ t.hub.dome = s.hub.dome ∧
       t.hub.fld Addr.SEL_MIRROR_LOST_CNT 0 16 = min (s.hub.fld Addr.SEL_MIRROR_LOST_CNT 0 16 + 1) 65535) ∧
     (∀ p ws, part < 255 → SMap.find s.hub.sel.capParts u = some (p, seq, ws) → p < 256 →
       (y.payload.getD 6 0#32).getLsbD 16 = false →
       ∃ t, exec (.captureMirror l x) s = .next t ∧ t.hub.dome = s.hub.dome ∧
         (p = part → SMap.find t.hub.sel.capParts u = some (part + 1, seq, ws ++ y.payload.drop 8) ∧ regsKept (frameReg l) s t) ∧
         (p ≠ part → part ≠ 0 → SMap.find t.hub.sel.capParts u = some (capLOST, seq, []) ∧
           t.hub.fld Addr.SEL_MIRROR_LOST_CNT 0 16 = min (s.hub.fld Addr.SEL_MIRROR_LOST_CNT 0 16 + 1) 65535)))) ∧
  (∀ (s : State) (c : CtxIx) (l : Nat) (k old : CtxCopy), s.hub.twinPath = some l → SMap.find s.hub.sel.waiting c = some old →
    SMap.find (s.hub.queueCopy (s.hub.timeAt s.raw.toNat) c k).sel.waiting c = none ∧
    (s.hub.queueCopy (s.hub.timeAt s.raw.toNat) c k).fld Addr.SEL_MIRROR_REPL_CNT 0 16 = min (s.hub.fld Addr.SEL_MIRROR_REPL_CNT 0 16 + 1 +
      ((s.hub.lane l).txq.filter fun x => x.frame.isCopy c).length) 65535)

/-- BOOT_ROM_START goes to LOAD_A, WAIT_HOST, or for 0b11 to HALTED with EUNKNOWN and IRQ_N low. A loaded flash image is
in stage VERIFY in the firmware store; verified on the next step without a command (log entry 2), one that passes R374
starts the firmware with the bindings of R375; the first that fails makes the ROM try image B, the second makes it
wait for the host with FLASH_HOST and halt otherwise, each with the status in ERR and class BOOT. In WAIT_HOST a
permitted write of BOOT_CTRL with a length of 0 or above 1 048 576 is refused with ESIZE; with another length the
image in the Dome from 0x800000 is verified, and one that fails leaves the ROM in WAIT_HOST; elsewhere the write has
no effect. A lockstep mismatch or a watchdog expiry counts and is logged after the restart; while the firmware runs it
resets master BELFRY, ends the trim hold, aborts a save or a restore and takes LOCKED to HOLDOVER; the restart logs
LOCKSTEP or BELFRY_RESET, ends HELD, and answers a command in flight with EABORT, its tag and 0xFFFF, in an EYE_SCAN's
head too; a store that fails halts it (log entry 56). Where the spec leaves a reading open, the model's is that of log
entries 3, 45 and 46. -/
def Obligations.BootAndBelfryResets : Prop :=
  (∀ (s : State) (sel : BootSel), s.hub.sys.powered = true →
    (s.hub.mode = .boot → s.hub.bootStage = stageROM →
      ∃ t, exec (.bootRomStart sel) s = .next t ∧ t.hub.fld Addr.SYS_BOOT_STATUS 16 2 = sel.val ∧ t.hub.mode = .boot ∧
        t.hub.bootStage = (if sel.val = 1 then stageWAITHOST else if sel.val = 3 then stageHALTED else stageLOADA) ∧
        (sel.val = 3 → t.hub.fld Addr.SYS_BOOT_STATUS 8 8 = EUNKNOWN ∧ logged 7 s t ∧ t.hub.irq = true) ∧
        regsKept (fun a => a == Addr.SYS_BOOT_STATUS || (sel.val = 3 && inLog a)) s t ∧ t.hub.dome = s.hub.dome) ∧
    (s.hub.bootStage ≠ stageROM ∨ s.hub.mode ≠ .boot → exec (.bootRomStart sel) s = .next s)) ∧
  (∀ (s : State) (img : List Byte) (cfg : List SetupWrite), s.hub.sys.powered = true →
    (s.hub.bootStage = stageLOADA → ∃ t, exec (.firmwareLoaded img cfg) s = .next t ∧ verifies 0 img cfg s t) ∧
    (s.hub.bootStage = stageLOADB → ∃ t, exec (.firmwareLoaded img cfg) s = .next t ∧ verifies 1 img cfg s t) ∧
    (s.hub.bootStage ≠ stageLOADA → s.hub.bootStage ≠ stageLOADB → exec (.firmwareLoaded img cfg) s = .next s)) ∧
  (∀ (s : State) (source : Nat) (cfg : List SetupWrite), s.hub.sys.powered = true → s.pending = [] → s.hub.sys.pllLocked = false →
    s.hub.sys.verify = some (source, cfg) → source ≤ 2 →
    (imageFault s.hub.sys.fwStore = none → ∃ t, step s = .next t ∧ firmwareRuns source s t) ∧
    (∀ st, imageFault s.hub.sys.fwStore = some st → ∃ t, step s = .next t ∧ t.hub.sys.verify = none ∧
      imageFailed st (if source = 0 then stageLOADB else if source = 2 ∨ s.hub.fld Addr.SYS_BOOT_STATUS 16 2 = 2 then
        stageWAITHOST else stageHALTED) s t)) ∧
  (∀ (s : State) (m : MasterIx) (v : Word) (cfg : List SetupWrite), s.hub.sys.powered = true →
    s.hub.accessOk m true Addr.SYS_BOOT_CTRL 4 = true →
    (s.hub.bootStage ≠ stageWAITHOST →
      ∃ t, exec (.bootCtrlWrite m v cfg) s = .next t ∧ onlyStore m (fun _ => false) s t) ∧
    (s.hub.bootStage = stageWAITHOST →
      (let img := (List.range (bitsOf v 0 21)).map fun i => s.hub.domeByte (0x800000 + i)
       ((bitsOf v 0 21 = 0 ∨ 1048576 < bitsOf v 0 21) →
         ∃ t, exec (.bootCtrlWrite m v cfg) s = .next t ∧ imageFailed ESIZE stageWAITHOST s t) ∧
       (0 < bitsOf v 0 21 → bitsOf v 0 21 ≤ 1048576 →
         ∃ t, exec (.bootCtrlWrite m v cfg) s = .next t ∧ verifies 2 img cfg s t)))) ∧
  (∀ (s : State) (pc : Word), s.hub.sys.powered = true → s.hub.firmware = true →
    (∃ t, exec (.lockstepMismatch pc) s = .next t ∧ belfryHeldReset 26 s t ∧
      t.hub.fld Addr.SYS_LOCKSTEP_CNT 0 16 = min (s.hub.fld Addr.SYS_LOCKSTEP_CNT 0 16 + 1) 65535 ∧
      regsKept (fun a => a == Addr.SYS_LOCKSTEP_CNT || boxReg a || lockReg a || inLog a || a == Addr.CALC_STATUS ||
        a == Addr.CALC_SAVE_STATUS || a == Addr.TIME_STATE) s t) ∧
    (∃ t, exec .watchdogExpiry s = .next t ∧ belfryHeldReset 27 s t ∧
      t.hub.fld Addr.SYS_WDOG_CNT 0 16 = min (s.hub.fld Addr.SYS_WDOG_CNT 0 16 + 1) 65535 ∧
      regsKept (fun a => a == Addr.SYS_WDOG_CNT || boxReg a || lockReg a || inLog a || a == Addr.CALC_STATUS ||
        a == Addr.CALC_SAVE_STATUS || a == Addr.TIME_STATE) s t)) ∧
  (∀ (s : State) (pc : Word), s.hub.sys.powered = true → s.hub.firmware = false →
    (∃ t, exec (.lockstepMismatch pc) s = .next t ∧ t.hub.ctl.restartLog = s.hub.ctl.restartLog ++ [(26, pc)] ∧
      t.hub.fld Addr.SYS_LOCKSTEP_CNT 0 16 = min (s.hub.fld Addr.SYS_LOCKSTEP_CNT 0 16 + 1) 65535 ∧
      regsKept (fun a => a == Addr.SYS_LOCKSTEP_CNT) s t ∧
      t = { s with hub := { s.hub with regs := t.hub.regs, ctl.restartLog := t.hub.ctl.restartLog } }) ∧
    (∃ t, exec .watchdogExpiry s = .next t ∧ t.hub.ctl.restartLog = s.hub.ctl.restartLog ++ [(27, 0#32)] ∧
      t.hub.fld Addr.SYS_WDOG_CNT 0 16 = min (s.hub.fld Addr.SYS_WDOG_CNT 0 16 + 1) 65535 ∧
      regsKept (fun a => a == Addr.SYS_WDOG_CNT) s t ∧
      t = { s with hub := { s.hub with regs := t.hub.regs, ctl.restartLog := t.hub.ctl.restartLog } })) ∧
  (∀ s : State, s.hub.sys.powered = true →
    (∀ st, s.hub.ctl.belfryHeld = true → s.hub.sys.fwOk = false → imageFault s.hub.sys.fwStore = some st →
      ∃ t, exec .belfryRestart s = .next t ∧ t.hub.ctl.belfryHeld = true ∧ imageFailed st stageHALTED s t) ∧
    (s.hub.ctl.belfryHeld = true → (s.hub.sys.fwOk = true ∨ imageFault s.hub.sys.fwStore = none) →
      ∃ t, exec .belfryRestart s = .next t ∧ t.hub.ctl.belfryHeld = false ∧ t.hub.ctl.restartLog = [] ∧ t.hub.mode = s.hub.mode ∧
        ((∀ l, l < 4 → (s.hub.lane l).eyeScan = none) → t.hub.dome = s.hub.dome) ∧
        (∀ l e, l < 4 → (s.hub.lane l).eyeScan = some e → e.ch < 64 → s.hub.inflight e.ch = true →
          (∀ ch, ch < 64 → ch ≠ e.ch → s.hub.inflight ch = false) → (∀ k, k < 4 → k ≠ l → (s.hub.lane k).eyeScan = none) →
          e.addr + 16 ≤ domeSize →
          (t.hub.lane l).eyeScan = none ∧ t.hub.bit (Addr.EYE_STATUS l) 0 = false ∧ t.hub.domeWord e.addr = wd l ∧
            t.hub.domeWord (e.addr + 4) = wd e.done ∧ t.hub.domeWord (e.addr + 12) = wd EABORT ∧
            ∀ d, (d < e.addr ∨ e.addr + 16 ≤ d) → t.hub.domeByte d = s.hub.domeByte d) ∧
        (∀ k d, k = 26 ∨ k = 27 → s.hub.ctl.restartLog = [(k, d)] → logged k s t) ∧
        (∀ ch, ch < 64 → s.hub.mbValid ch = true → s.hub.mbReceiver ch = belfry → t.hub.bit (Addr.MB_STATUS ch) 2 = false) ∧
        (∀ ch, ch < 64 → s.hub.inflight ch = true → t.hub.inflight ch = true →
          s.hub.respOk ch = true ∧ t.hub.ctl.waiting ≠ s.hub.ctl.waiting) ∧
        (∀ ch, ch < 64 → s.hub.inflight ch = true → s.hub.respOk ch = true → s.hub.mbFull (s.hub.mbResp ch) = false →
          (∀ k, k < 64 → k ≠ ch → s.hub.inflight k = true → s.hub.mbResp k ≠ s.hub.mbResp ch) →
          t.hub.mbFull (s.hub.mbResp ch) = true ∧ t.hub.inflight ch = false ∧
          t.hub.rd (Addr.MB_PEEK (s.hub.mbResp ch)) = respWord EABORT (s.hub.fld (Addr.MB_LASTREAD ch) 16 8) 0xFFFF)) ∧
    (s.hub.ctl.belfryHeld = false → exec .belfryRestart s = .next s))

/-- A write of MB_DATA by another master than the bound sender, or to an unbound channel, is not performed and logged with
class MAILBOX; to a full channel it leaves EBUSY in POST_STATUS; otherwise the word is stored, FULL and SENDER_EPOCH
set, ABORTED cleared and the receiver's MSG bit set. A read of MB_DATA by the receiver of a full channel returns the
word, empties the channel, copies the word to MB_LASTREAD, clears the MSG bit and with ACK_DB rings the sender;
CMD_INFLIGHT follows Belfry's takes and its posts on the RESP_CH; every other read returns 0 and changes nothing. A
write of another master's DB_MASK is denied, and one of its doorbell bits too, save that BELFRY and JTAG clear the
bits written 1. BIND is written by BELFRY, and by SPI, UPLINK and JTAG from entry 8 on, unless locked, full or naming
bad masters; every other write is refused and logged. LOCK = 1 sets BIND_LOCK. SPI, UPLINK and JTAG reset themselves
by CP_MASTER_RESET, JTAG by TRST_N too, others are denied. A response waiting for a full channel is posted once that
is free. Where the spec leaves a reading open, the model's is that of log entry 35. -/
def Obligations.MailboxesAndBindings : Prop :=
  (∀ (s : State) (m : MasterIx) (ch : BoxIx) (v : Word), s.hub.sys.powered = true →
    s.hub.accessOk m true (Addr.MB_DATA ch) 4 = true →
    ∃ t, exec (.mailboxPost m ch v) s = .next t ∧ SMap.get true t.hub.ctl.readOk m = true ∧ t.hub.dome = s.hub.dome ∧
      (s.hub.mbValid ch = false ∨ s.hub.mbSender ch ≠ m.val → logged 4 s t ∧ regsKept inLog s t ∧
        t = { s with hub := { s.hub with regs := t.hub.regs, ctl.elog := t.hub.ctl.elog,
                                         ctl.readOk := SMap.put s.hub.ctl.readOk m true } }) ∧
      (s.hub.mbValid ch = true → s.hub.mbSender ch = m.val → s.hub.mbFull ch = true →
        t.hub.fld (Addr.MB_STATUS ch) 8 8 = EBUSY ∧ t.hub.rd (Addr.MB_PEEK ch) = s.hub.rd (Addr.MB_PEEK ch) ∧
        onlyStore m (fun a => a == Addr.MB_STATUS ch) s t) ∧
      (s.hub.mbValid ch = true → s.hub.mbSender ch = m.val → s.hub.mbFull ch = false →
        t.hub.mbFull ch = true ∧ t.hub.rd (Addr.MB_PEEK ch) = v ∧ t.hub.bit (Addr.MB_STATUS ch) 1 = false ∧
        t.hub.fld (Addr.MB_STATUS ch) 8 8 = OK ∧ t.hub.fld (Addr.MB_STATUS ch) 16 8 = s.hub.fld (Addr.RESET_EPOCH m) 0 8 ∧
        t.hub.bit (Addr.MB_STATUS ch) 2 = s.hub.masterHeld (s.hub.mbReceiver ch) ∧
        t.hub.dbGet 0 (s.hub.mbReceiver ch) ch = true ∧
        (∀ k, k < 64 → t.hub.inflight k = (s.hub.inflight k && !(m.val == 0 && s.hub.mbValid k && s.hub.mbReceiver k == 0 &&
          s.hub.mbResp k == ch.val))) ∧
        (let p := fun a => a == Addr.MB_STATUS ch || a == Addr.MB_PEEK ch || a == dbAddr 0 (s.hub.mbReceiver ch) ch ||
           (m.val == 0 && inflightReg a)
         regsKept (fun a => p a || turretRegs a) s t ∧
         (s.hub.mbReceiver ch = 0 ∨ 4 < s.hub.mbReceiver ch → onlyStore m p s t)))) ∧
  (∀ (s : State) (m : MasterIx) (ch : BoxIx), s.hub.sys.powered = true →
    s.hub.accessOk m false (Addr.MB_DATA ch) 4 = true →
    ∃ t, exec (.mailboxTake m ch) s = .next t ∧
      t = { s with hub := { s.hub with regs := t.hub.regs, ctl.readOk := SMap.put s.hub.ctl.readOk m true,
                                       ctl.readData := t.hub.ctl.readData } } ∧
      (s.hub.mbValid ch = true → s.hub.mbReceiver ch = m.val → s.hub.mbFull ch = true →
        SMap.get 0#32 t.hub.ctl.readData m = s.hub.rd (Addr.MB_PEEK ch) ∧
        t.hub.rd (Addr.MB_LASTREAD ch) = s.hub.rd (Addr.MB_PEEK ch) ∧ t.hub.mbFull ch = false ∧ t.hub.dbGet 0 m ch = false ∧
        (s.hub.mbAckDb ch = true → t.hub.dbGet 1 (s.hub.mbSender ch) ch = true) ∧
        (∀ k, k < 64 → t.hub.inflight k = (s.hub.inflight k || (m.val == 0 && k == ch.val))) ∧
        regsKept (fun a => a == Addr.MB_STATUS ch || a == Addr.MB_LASTREAD ch || a == dbAddr 0 m ch || (m.val == 0 && inflightReg a) ||
          (s.hub.mbAckDb ch && a == dbAddr 1 (s.hub.mbSender ch) ch)) s t) ∧
      (s.hub.mbValid ch = false ∨ s.hub.mbReceiver ch ≠ m.val ∨ s.hub.mbFull ch = false →
        SMap.get 0#32 t.hub.ctl.readData m = 0#32 ∧ t.hub.regs = s.hub.regs)) ∧
  (∀ (s : State) (m x : MasterIx) (a : Nat) (v : Word), s.hub.sys.powered = true → s.hub.accessOk m true a 4 = true → m ≠ x →
    (a = Addr.DB_MASK x → ∃ t, exec (.registerWrite m (wd a) .word v) s = .next t ∧ deniedStore m s t) ∧
    (a ∈ [Addr.DB_MSG_LO x, Addr.DB_MSG_HI x, Addr.DB_ACK_LO x, Addr.DB_ACK_HI x, Addr.DB_ABT_LO x, Addr.DB_ABT_HI x] →
      ∃ t, exec (.registerWrite m (wd a) .word v) s = .next t ∧
        ((m.val = 0 ∨ m.val = 8) → t.hub.rd a = s.hub.rd a &&& ~~~v ∧ onlyStore m (fun b => b == a) s t) ∧
        (m.val ≠ 0 → m.val ≠ 8 → deniedStore m s t))) ∧
  (∀ (s : State) (m : MasterIx) (ch : BoxIx) (v : Word), s.hub.sys.powered = true →
    s.hub.accessOk m true (Addr.BIND ch) 4 = true →
    (let bad := v.getLsbD 14 = true ∧ (bitsOf v 0 4 = bitsOf v 4 4 ∨ 8 < bitsOf v 0 4 ∨ 8 < bitsOf v 4 4)
     let may := m.val = 0 ∨ (8 ≤ ch.val ∧ (m.val = 5 ∨ m.val = 6 ∨ m.val = 8))
     ∃ t, exec (.bindWrite m ch v) s = .next t ∧
       (may → s.hub.bit Addr.BIND_LOCK 0 = false → s.hub.mbFull ch = false → ¬bad →
         t.hub.rd (Addr.BIND ch) = v &&& 0xFFFF#32 ∧ onlyStore m (fun a => a == Addr.BIND ch) s t) ∧
       (may → (s.hub.bit Addr.BIND_LOCK 0 = true ∨ s.hub.mbFull ch = true ∨ bad) → refusedStore m s t) ∧
       (ch.val < 8 → m.val ≠ 0 → refusedStore m s t) ∧
       (8 ≤ ch.val → (1 ≤ m.val ∧ m.val ≤ 4) ∨ m.val = 7 → deniedStore m s t))) ∧
  (∀ (s : State) (m : MasterIx) (v : Word), s.hub.sys.powered = true → s.hub.accessOk m true Addr.BIND_LOCK 4 = true →
    ∃ t, exec (.bindLock m v) s = .next t ∧ t.hub.bit Addr.BIND_LOCK 0 = true ∧
      onlyStore m (fun a => a == Addr.BIND_LOCK) s t) ∧
  (∀ (s : State) (m : MasterIx), s.hub.sys.powered = true → s.hub.accessOk m true Addr.CP_MASTER_RESET 4 = true →
    ((m.val = 5 ∨ m.val = 6 ∨ m.val = 8) → ∃ t, exec (.masterReset m) s = .next t ∧ masterWasReset m s t ∧
      regsKept (fun a => boxReg a || lockReg a || inLog a) s t) ∧
    (¬(m.val = 5 ∨ m.val = 6 ∨ m.val = 8) → ∃ t, exec (.masterReset m) s = .next t ∧ deniedStore m s t)) ∧
  (∀ s : State, s.hub.sys.powered = true → ∃ t, exec .trstNLow s = .next t ∧ masterWasReset jtag s t ∧
    regsKept (fun a => boxReg a || lockReg a || inLog a) s t) ∧
  (∀ (s : State) (ch : BoxIx), s.hub.sys.powered = true →
    (∀ w, s.hub.ctl.waiting.find? (fun p => p.1 = ch.val) = some (ch.val, w) → s.hub.respOk ch = true →
      (s.hub.mbFull (s.hub.mbResp ch) = false → s.hub.ctl.belfryHeld = false →
        ∃ t, exec (.responsePost ch) s = .next t ∧ t.hub.mbFull (s.hub.mbResp ch) = true ∧
          t.hub.rd (Addr.MB_PEEK (s.hub.mbResp ch)) = w ∧ t.hub.inflight ch = false ∧
          t.hub.ctl.waiting = s.hub.ctl.waiting.filter (fun q => q.1 != ch.val) ∧ commandMoved (fun _ => false) ch s t) ∧
      (s.hub.mbFull (s.hub.mbResp ch) = true ∨ s.hub.ctl.belfryHeld = true → exec (.responsePost ch) s = .next s)) ∧
    ((∀ w, (ch.val, w) ∉ s.hub.ctl.waiting) → exec (.responsePost ch) s = .next s))

/-- A permitted read of a free lock returns 0 and makes the reader its owner; of a held lock it returns 0x80000000 and the
owner and changes nothing. The owner's write of its own ID frees the lock; another master's is not performed and
logged in class LOCK. LOCK_FORCE by BELFRY or JTAG frees a held lock, logged in class LOCK, and leaves a free one;
another master's is denied. ELOG_QUEUE_WRITE makes the oldest queued report the newest entry while the log has room.
ELOG_FREE of 1 to 64 frees that many of the oldest entries, or all, and is refused otherwise. ERRLOG_DRAIN copies up
to 8 of the oldest entries into its slot in the layout of R403, frees them, and answers the number copied and the
number left; a slot above 255 is answered ERANGE. Where the spec leaves a reading open, the model's is that of log
entry 51. -/
def Obligations.LocksAndTheErrorLog : Prop :=
  (∀ (s : State) (m : MasterIx) (l : LockIx), s.hub.sys.powered = true → s.hub.accessOk m false (Addr.LOCK l) 4 = true →
    ∃ t, exec (.lockAcquire m l) s = .next t ∧ t.hub.lockHeld l = true ∧
      t = { s with hub := { s.hub with regs := t.hub.regs, ctl.readOk := SMap.put s.hub.ctl.readOk m true,
                                       ctl.readData := t.hub.ctl.readData } } ∧
      (s.hub.lockHeld l = false → SMap.get 0#32 t.hub.ctl.readData m = 0#32 ∧ t.hub.lockOwner l = m.val ∧
        regsKept (fun a => a == Addr.LOCK_PEEK l) s t) ∧
      (s.hub.lockHeld l = true → SMap.get 0#32 t.hub.ctl.readData m = wd (0x80000000 + s.hub.lockOwner l) ∧
        t.hub.regs = s.hub.regs)) ∧
  (∀ (s : State) (m : MasterIx) (l : LockIx), s.hub.sys.powered = true → s.hub.accessOk m true (Addr.LOCK l) 4 = true →
    ∃ t, exec (.lockRelease m l) s = .next t ∧
      (s.hub.lockHeld l = true → s.hub.lockOwner l = m.val → t.hub.rd (Addr.LOCK_PEEK l) = 0#32 ∧
        regsKept (fun a => a == Addr.LOCK_PEEK l) s t ∧ t.hub.dome = s.hub.dome) ∧
      (s.hub.lockHeld l = false ∨ s.hub.lockOwner l ≠ m.val → logged 5 s t ∧ regsKept inLog s t ∧
        t = { s with hub := { s.hub with regs := t.hub.regs, ctl.elog := t.hub.ctl.elog,
                                         ctl.readOk := SMap.put s.hub.ctl.readOk m true } })) ∧
  (∀ (s : State) (m : MasterIx) (v : Word), s.hub.sys.powered = true → s.hub.accessOk m true Addr.LOCK_FORCE 4 = true →
    ∃ t, exec (.lockForce m v) s = .next t ∧
      ((m.val = 0 ∨ m.val = 8) → s.hub.lockHeld (bitsOf v 0 5) = true → logged 5 s t ∧
        t.hub.rd (Addr.LOCK_PEEK (bitsOf v 0 5)) = 0#32 ∧ t.hub.lockCtx (bitsOf v 0 5) = none ∧
        regsKept (fun a => a == Addr.LOCK_PEEK (bitsOf v 0 5) || inLog a) s t ∧ t.hub.dome = s.hub.dome) ∧
      ((m.val = 0 ∨ m.val = 8) → s.hub.lockHeld (bitsOf v 0 5) = false → onlyStore m (fun _ => false) s t) ∧
      (m.val ≠ 0 → m.val ≠ 8 → deniedStore m s t)) ∧
  (∀ s : State, s.hub.sys.powered = true →
    (∀ e q, s.hub.ctl.elog.queue = e :: q → s.hub.ctl.elog.entries.length < 64 →
      ∃ t, exec .elogQueueWrite s = .next t ∧ t.hub.ctl.elog.entries = s.hub.ctl.elog.entries ++ [e] ∧
        t.hub.ctl.elog.queue = q ∧ t.hub.ctl.elog.head = s.hub.ctl.elog.head ∧
        t.hub.ctl.elog.written = s.hub.ctl.elog.written + 1 ∧
        t = { s with hub := { s.hub with ctl.elog := t.hub.ctl.elog } }) ∧
    (s.hub.ctl.elog.queue = [] ∨ 64 ≤ s.hub.ctl.elog.entries.length → exec .elogQueueWrite s = .next s)) ∧
  (∀ (s : State) (m : MasterIx) (v : Word), s.hub.sys.powered = true → s.hub.accessOk m true Addr.ELOG_FREE 4 = true →
    ∃ t, exec (.elogFree m v) s = .next t ∧
      (1 ≤ bitsOf v 0 7 → bitsOf v 0 7 ≤ 64 → t.hub.ctl.elog.entries = s.hub.ctl.elog.entries.drop (bitsOf v 0 7) ∧
        t.hub.ctl.elog.queue = s.hub.ctl.elog.queue ∧
        t = { s with hub := { s.hub with ctl.elog := t.hub.ctl.elog, ctl.readOk := SMap.put s.hub.ctl.readOk m true } }) ∧
      (bitsOf v 0 7 = 0 ∨ 64 < bitsOf v 0 7 → refusedStore m s t)) ∧
  (∀ (s : State) (ch : BoxIx) (slot : Nat), commandWaits ch 0x60 slot s →
    (slot ≤ 255 → (let es := s.hub.ctl.elog.entries; let n := min 8 es.length
      ∃ t, exec (.errlogDrain ch) s = .next t ∧ answered ch OK (n + 256 * (es.length - n)) s t ∧
        t.hub.ctl.elog.entries = es.drop n ∧
        (∀ j i, j < n → i < 8 → t.hub.domeWord (256 * slot + 32 * j + 4 * i) = (es.getD j ⟨0, 0, 0, 0#32, 1, 0, 0⟩).words.getD i 0#32) ∧
        (∀ b, b < 256 * slot ∨ 256 * slot + 32 * n ≤ b → t.hub.domeByte b = s.hub.domeByte b) ∧
        regsKept (mailReg ch s) s t)) ∧
    (255 < slot → ∃ t, exec (.errlogDrain ch) s = .next t ∧ answered ch ERANGE 0 s t ∧
      commandMoved (fun _ => false) ch s t ∧ t.hub.ctl.elog = s.hub.ctl.elog))

/-- Every SPI frame shows SPI_STAT and the last READ's result and is counted. A WRITE stores its word in the Dome or posts
it to a mailbox, a forbidden one is logged with ERANGE; a READ starts and makes RDY 0; with BUSY both are dropped with
EBUSY. A NOP does nothing more, a bad frame is counted. The READ's end leaves its word, or 0 with ERANGE. A management
READ answers the words read, a WRITE stores its words in order; the first access not performed stops either with
ERANGE, one held with ETIME, a wrong COUNT with ESIZE, MGMT_RO a WRITE with ELOCKED, MGMT_CFG with ERANGE, another OP
with EUNKNOWN; each RESP is kept. A request that matches a kept RESP is not executed again, and one on a lane not
enabled is discarded, both logged with class MGMT; on an uplink of a hub that is not the gateway the latter counts in
CNT_MALF. DOORBELL carries the six words of master 6. The OTP sequence in IDLE by SPI or JTAG starts the programming
of the staged hash, or of the fuse; outside IDLE or by another master, with a hash programmed, all zero, while busy,
or after 1 ms it is refused; 20 ms later the hash, or the fuse with the TAP's four instructions alone, is there. Where
the spec leaves a reading open, the model's is that of log entries 3, 47 and 48. -/
def Obligations.PortsAndOneTimeMemory : Prop :=
  (∀ (s : State) (w v : Word), s.hub.sys.powered = true →
    (s.hub.ctl.spi.busy = true → ∃ t, exec (.spiWrite w v) s = .next t ∧ spiSeen s t ∧ t.hub.ctl.spi.status = EBUSY ∧
      t.hub.ctl.spi.busy = true ∧ onlySpi (fun _ => false) s t) ∧
    (s.hub.ctl.spi.busy = false → s.hub.accessOk 5 true (w.toNat / 4 * 4) 4 = true →
      (w.toNat / 4 * 4 < domeSize → ∃ t, exec (.spiWrite w v) s = .next t ∧ spiSeen s t ∧ t.hub.ctl.spi.status = OK ∧
        t.hub.domeWord (w.toNat / 4 * 4) = v ∧
        (∀ b, b < w.toNat / 4 * 4 ∨ w.toNat / 4 * 4 + 4 ≤ b → t.hub.domeByte b = s.hub.domeByte b) ∧
        regsKept (fun _ => false) s t) ∧
      (∀ ch : BoxIx, w.toNat / 4 * 4 = Addr.MB_DATA ch → s.hub.mbValid ch = true → s.hub.mbSender ch = spi →
        s.hub.mbFull ch = false → ∃ t, exec (.spiWrite w v) s = .next t ∧ spiSeen s t ∧ t.hub.ctl.spi.status = OK ∧
          t.hub.mbFull ch = true ∧ t.hub.rd (Addr.MB_PEEK ch) = v ∧ t.hub.dbGet 0 (s.hub.mbReceiver ch) ch = true)) ∧
    (s.hub.ctl.spi.busy = false → s.hub.accessOk 5 true (w.toNat / 4 * 4) 4 = false →
      ∃ t, exec (.spiWrite w v) s = .next t ∧ spiSeen s t ∧ t.hub.ctl.spi.status = ERANGE ∧ logged 0 s t ∧
        regsKept inLog s t ∧ t.hub.dome = s.hub.dome) ∧
    (s.hub.ctl.spi.busy = true → ∃ t, exec (.spiRead w) s = .next t ∧ spiSeen s t ∧ t.hub.ctl.spi.status = EBUSY ∧
      t.hub.ctl.spi.addr = s.hub.ctl.spi.addr ∧ onlySpi (fun _ => false) s t) ∧
    (s.hub.ctl.spi.busy = false → ∃ t, exec (.spiRead w) s = .next t ∧ spiSeen s t ∧ t.hub.ctl.spi.busy = true ∧
      t.hub.ctl.spi.rdy = false ∧ t.hub.ctl.spi.addr = w.toNat / 4 * 4 ∧ onlySpi (fun _ => false) s t)) ∧
  (∀ s : State, s.hub.sys.powered = true →
    (∃ t, exec .spiNop s = .next t ∧ spiSeen s t ∧ t.hub.ctl.spi.status = s.hub.ctl.spi.status ∧
      t.hub.ctl.spi.busy = s.hub.ctl.spi.busy ∧ t.hub.ctl.spi.rdy = s.hub.ctl.spi.rdy ∧ onlySpi (fun _ => false) s t) ∧
    (∃ t, exec .spiBadFrame s = .next t ∧ spiSeen s t ∧ t.hub.ctl.spi.status = s.hub.ctl.spi.status ∧
      t.hub.ctl.spi.busy = s.hub.ctl.spi.busy ∧ t.hub.ctl.spi.rdy = s.hub.ctl.spi.rdy ∧
      t.hub.fld Addr.SYS_SPI_ERR_CNT 0 16 = min (s.hub.fld Addr.SYS_SPI_ERR_CNT 0 16 + 1) 65535 ∧
      onlySpi (fun a => a == Addr.SYS_SPI_ERR_CNT) s t) ∧
    (s.hub.ctl.spi.busy = false → exec .spiReadComplete s = .next s) ∧
    (s.hub.ctl.spi.busy = true →
      ∃ t, exec .spiReadComplete s = .next t ∧ t.hub.ctl.spi.busy = false ∧ t.hub.ctl.spi.rdy = true ∧
        t.hub.ctl.spi.seq = s.hub.ctl.spi.seq ∧
        (s.hub.accessOk 5 false s.hub.ctl.spi.addr 4 = true → t.hub.ctl.spi.status = OK ∧
          (s.hub.ctl.spi.addr < domeSize → t.hub.ctl.spi.result = s.hub.domeWord s.hub.ctl.spi.addr ∧
            regsKept (fun _ => false) s t) ∧
          (∀ x, domeSize ≤ s.hub.ctl.spi.addr → regRef s.hub.ctl.spi.addr = some x → x.row.base ≠ Addr.MB_DATA 0 →
            x.row.base ≠ Addr.LOCK 0 → x.row.base ≠ Addr.TIME_NOW0 → x.row.base ≠ Addr.TRIG_IN_TS0 0 →
            t.hub.ctl.spi.result = (s.hub.view s.raw.toNat spi s.hub.ctl.spi.addr).getD 0#32 ∧
            t.hub.rd s.hub.ctl.spi.addr = s.hub.rd s.hub.ctl.spi.addr &&& ~~~x.row.rc ∧
            regsKept (fun a => a == s.hub.ctl.spi.addr) s t)) ∧
        (s.hub.accessOk 5 false s.hub.ctl.spi.addr 4 = false → t.hub.ctl.spi.status = ERANGE ∧
          t.hub.ctl.spi.result = 0#32 ∧ logged 0 s t ∧ regsKept inLog s t) ∧ t.hub.dome = s.hub.dome)) ∧
  (∀ (s : State) (l : LaneIx) (x : RxFrame) (y : Frame) (bulk : Bool) (held : Option Nat), requests bulk 1 y →
    (let n := bitsOf (y.payload.getD 0 0#32) 16 9
     let a := (y.payload.getD 1 0#32).toNat
     bridgeTakes l y x s →
     ((n = 0 ∨ (if bulk then 510 else 64) < n ∨ y.payload.length ≠ 2) →
       ∃ t, exec (.mgmtRead l x bulk held) s = .next t ∧ bridgeAnswers l ESIZE 0 [] y s t ∧ t.hub.dome = s.hub.dome ∧
         regsKept (frameReg l) s t) ∧
     (1 ≤ n → n ≤ (if bulk then 510 else 64) → y.payload.length = 2 →
       (held = none → (y.payload.getD 0 0#32).getLsbD 4 = false → a + 4 * n ≤ domeSize →
         (∀ i, i < n → s.hub.accessOk 6 false (a + 4 * i) 4 = true) →
         ∃ t, exec (.mgmtRead l x bulk held) s = .next t ∧
           bridgeAnswers l OK n ((List.range n).map fun i => s.hub.domeWord (a + 4 * i)) y s t ∧ t.hub.dome = s.hub.dome ∧
           regsKept (frameReg l) s t) ∧
       (held ≠ some 0 → s.hub.accessOk 6 false a 4 = false →
         ∃ t, exec (.mgmtRead l x bulk held) s = .next t ∧ bridgeAnswers l ERANGE 0 [] y s t ∧ logged 0 s t ∧
           t.hub.dome = s.hub.dome ∧ regsKept (fun r => frameReg l r || inLog r) s t) ∧
       (held = some 0 → ∃ t, exec (.mgmtRead l x bulk held) s = .next t ∧ bridgeAnswers l ETIME 0 [] y s t ∧ logged 2 s t ∧
         t.hub.ctl.abandoned = s.hub.ctl.abandoned ++ [(uplink, a)] ∧ t.hub.dome = s.hub.dome ∧
         regsKept (fun r => frameReg l r || inLog r) s t)))) ∧
  (∀ (s : State) (l : LaneIx) (x : RxFrame) (y : Frame) (bulk : Bool), requests bulk 2 y →
    (let n := bitsOf (y.payload.getD 0 0#32) 16 9
     let a := (y.payload.getD 1 0#32).toNat
     bridgeTakes l y x s →
     ((n = 0 ∨ (if bulk then 510 else 64) < n ∨ y.payload.length ≠ 2 + n) →
       ∃ t, exec (.mgmtWrite l x bulk) s = .next t ∧ bridgeAnswers l ESIZE 0 [] y s t ∧ t.hub.dome = s.hub.dome ∧
         regsKept (frameReg l) s t) ∧
     (1 ≤ n → n ≤ (if bulk then 510 else 64) → y.payload.length = 2 + n →
       (s.hub.bit Addr.SYS_MGMT_CFG 4 = true →
         ∃ t, exec (.mgmtWrite l x bulk) s = .next t ∧ bridgeAnswers l ELOCKED 0 [] y s t ∧ t.hub.dome = s.hub.dome ∧
           regsKept (frameReg l) s t) ∧
       (s.hub.bit Addr.SYS_MGMT_CFG 4 = false →
         ((y.payload.getD 0 0#32).getLsbD 4 = false → a + 4 * n ≤ domeSize →
           (∀ i, i < n → s.hub.accessOk 6 true (a + 4 * i) 4 = true) →
           ∃ t, exec (.mgmtWrite l x bulk) s = .next t ∧ bridgeAnswers l OK n [] y s t ∧
             (∀ i, i < n → t.hub.domeWord (a + 4 * i) = y.payload.getD (2 + i) 0#32) ∧
             (∀ b, b < a ∨ a + 4 * n ≤ b → t.hub.domeByte b = s.hub.domeByte b) ∧ regsKept (frameReg l) s t) ∧
         (s.hub.accessOk 6 true a 4 = false ∨ a = Addr.SYS_MGMT_CFG →
           ∃ t, exec (.mgmtWrite l x bulk) s = .next t ∧ bridgeAnswers l ERANGE 0 [] y s t ∧ logged 0 s t ∧
             t.hub.dome = s.hub.dome ∧ regsKept (fun r => frameReg l r || inLog r) s t))))) ∧
  (∀ (s : State) (l : LaneIx) (x : RxFrame) (y : Frame) (bulk : Bool) (op : MgmtOp), requests bulk (mgmtOtherOp op) y →
    bridgeTakes l y x s →
    ∃ t, exec (.mgmtUnexpected l x bulk op) s = .next t ∧ bridgeAnswers l EUNKNOWN 0 [] y s t ∧ t.hub.dome = s.hub.dome ∧
      regsKept (frameReg l) s t) ∧
  (∀ (s : State) (l : LaneIx) (x : RxFrame) (y : Frame) (bulk : Bool), requests bulk 2 y → hears l y x s → forOne y →
    (takes l y s →
      (s.hub.bit Addr.SYS_MGMT_CFG l = false ∨
        (s.hub.bit Addr.SYS_MGMT_CFG l = true ∧ ∃ k ∈ s.hub.ctl.resps, k.src = y.src ∧
          k.tag = bitsOf (y.payload.getD 0 0#32) 8 8 ∧ k.up = (y.payload.getD 0 0#32).getLsbD 5 ∧
          s.raw.toNat ≤ k.sent + 100 * msU)) →
      ∃ t, exec (.mgmtWrite l x bulk) s = .next t ∧ logged 24 s t ∧ t.hub.ctl.resps = s.hub.ctl.resps ∧
        t.hub.dome = s.hub.dome ∧ regsKept (fun r => frameReg l r || inLog r) s t) ∧
    (s.hub.liveRole l = rUPLINK → s.hub.isGateway = false → s.hub.bit Addr.SYS_MGMT_CFG l = false →
      ∃ t, exec (.mgmtWrite l x bulk) s = .next t ∧ freedOnly l s t ∧
        t.hub.fld (Addr.CNT_MALF l) 0 16 = min (s.hub.fld (Addr.CNT_MALF l) 0 16 + 1) 65535 ∧
        onlyLane (fun a => a == Addr.FRAMES_RX l || a == Addr.CNT_MALF l) l s t)) ∧
  (∀ s : State, s.hub.sys.powered = true →
    (s.hub.bit Addr.SYS_MGMT_CFG 5 = true → s.hub.dbPending uplink = true →
      (let body := wd (4 + 65536 * 6) :: [Addr.DB_MSG_LO 6, Addr.DB_MSG_HI 6, Addr.DB_ACK_LO 6, Addr.DB_ACK_HI 6,
         Addr.DB_ABT_LO 6, Addr.DB_ABT_HI 6].map s.hub.rd
       ∃ t, exec .doorbellFrameSend s = .next t ∧ t.hub.dome = s.hub.dome ∧ regsKept (fun a => a == Addr.CNT_UNREACH) s t ∧
         (s.hub.bit Addr.SYS_MGMT_CFG 6 = false → ∀ east n j, s.hub.fld Addr.SYS_MGMT_CFG 7 6 ≠ s.hub.hubPos →
           s.hub.wayTo (s.hub.fld Addr.SYS_MGMT_CFG 7 6) = some (east, n) → s.hub.activeLane (wayRole east) = some j →
           ∃ z ∈ (t.hub.lane j).txq, z.frame.type = tMGMT ∧ z.frame.addr = aPOS ∧
             z.frame.dst = s.hub.fld Addr.SYS_MGMT_CFG 7 6 ∧ z.frame.payload = body) ∧
         (s.hub.bit Addr.SYS_MGMT_CFG 6 = true → ∀ j, s.hub.isGateway = true → s.hub.activeLane rUPLINK = some j →
           ∃ z ∈ (t.hub.lane j).txq, z.frame.type = tMGMT ∧ z.frame.addr = aUP ∧ z.frame.payload = body))) ∧
    (s.hub.bit Addr.SYS_MGMT_CFG 5 = false ∨ s.hub.dbPending uplink = false → exec .doorbellFrameSend s = .next s)) ∧
  (∀ (s : State) (m : MasterIx), s.hub.sys.powered = true → s.hub.accessOk m true Addr.SYS_OTP_CTRL 4 = true →
    (let words := (List.range 8).map fun k => SMap.get 0#32 s.hub.sys.otpStage k
     let may := s.hub.mode = .idle ∧ (m.val = 5 ∨ m.val = 8)
     let zero := ∀ w ∈ s.hub.sys.otpOwner, w = 0#32
     (may → zero → s.hub.sys.otpRun = none → (∃ w ∈ words, w ≠ 0#32) →
       ∃ t, exec (.otpProgramHash m) s = .next t ∧ t.hub.sys = { s.hub.sys with
           otpStep := none, otpAt := s.raw.toNat, otpRun := some (some words), otpRunAt := s.raw.toNat } ∧
         t.hub.otpStatus.getLsbD 2 = true ∧ regsKept (fun _ => false) s t ∧ t.hub.dome = s.hub.dome) ∧
     (¬may → ∃ t, exec (.otpProgramHash m) s = .next t ∧ otpRefused ESTATE s t) ∧
     (may → (¬zero ∨ ∃ w, s.hub.sys.otpRun = some (some w)) → ∃ t, exec (.otpProgramHash m) s = .next t ∧ otpRefused ELOCKED s t) ∧
     (may → zero → s.hub.sys.otpRun = some none → (∃ w ∈ words, w ≠ 0#32) →
       ∃ t, exec (.otpProgramHash m) s = .next t ∧ otpRefused EBUSY s t) ∧
     (may → zero → s.hub.sys.otpRun = none → (∀ w ∈ words, w = 0#32) →
       ∃ t, exec (.otpProgramHash m) s = .next t ∧ otpRefused ERANGE s t) ∧
     (may → s.hub.sys.otpRun = none →
       ∃ t, exec (.otpBlowDebugLock m) s = .next t ∧ t.hub.sys = { s.hub.sys with
           otpStep := none, otpAt := s.raw.toNat, otpRun := some none, otpRunAt := s.raw.toNat } ∧
         t.hub.otpStatus.getLsbD 2 = true ∧ regsKept (fun _ => false) s t ∧ t.hub.dome = s.hub.dome) ∧
     (¬may → ∃ t, exec (.otpBlowDebugLock m) s = .next t ∧ otpRefused ESTATE s t) ∧
     (may → s.hub.sys.otpRun ≠ none → ∃ t, exec (.otpBlowDebugLock m) s = .next t ∧ otpRefused EBUSY s t))) ∧
  (∀ s : State, s.hub.sys.powered = true →
    (s.hub.sys.otpStep ≠ none → s.hub.sys.otpAt + msU ≤ s.raw.toNat →
      ∃ t, exec .otpSequenceTimeout s = .next t ∧ otpRefused ESTATE s t) ∧
    ((s.hub.sys.otpStep = none ∨ s.raw.toNat < s.hub.sys.otpAt + msU) → exec .otpSequenceTimeout s = .next s) ∧
    (∀ words, s.hub.sys.otpRun = some (some words) → s.hub.sys.otpRunAt + 20 * msU ≤ s.raw.toNat →
      ∃ t, exec .otpProgramComplete s = .next t ∧ t.hub.sys = { s.hub.sys with otpRun := none, otpOwner := words } ∧
        t.hub.fld Addr.SYS_OTP_STATUS 8 8 = OK ∧ onlyRegs (fun a => a == Addr.SYS_OTP_STATUS)
          { s with hub := { s.hub with sys := t.hub.sys } } t) ∧
    (s.hub.sys.otpRun = some none → s.hub.sys.otpRunAt + 20 * msU ≤ s.raw.toNat →
      ∃ t, exec .otpProgramComplete s = .next t ∧ t.hub.sys = { s.hub.sys with otpRun := none, otpLock := true } ∧
        t.hub.pins = { s.hub.pins with tap := if s.hub.pins.tap = .other then .bypass else s.hub.pins.tap } ∧
        t.hub.fld Addr.SYS_OTP_STATUS 8 8 = OK ∧ (∀ w a n, t.hub.accessOk jtag w a n = false) ∧
        onlyRegs (fun a => a == Addr.SYS_OTP_STATUS) { s with hub := { s.hub with sys := t.hub.sys, pins := t.hub.pins } } t) ∧
    ((s.hub.sys.otpRun = none ∨ s.raw.toNat < s.hub.sys.otpRunAt + 20 * msU) → exec .otpProgramComplete s = .next s))

/-- A word with an opcode the table lacks is answered EUNKNOWN; one whose RESP_CH is not bound to its sender is discarded
and logged. PING answers its ARG, NOP 0, STATUS its summary with eight registers in the slot. ARM in IDLE with a plan,
unaltered, and an aligned grid makes ARMED pending for the next frame boundary, is ETIME in FREE without FREE_OK, else
ESTATE. START in ARMED arms alarm 15 for a frame instant at least 10 ms on; a bad instant is ERANGE, an early one
ETIME, and within 10 ms of the armed start EBUSY. STOP at a valid frame instant at least 1 ms on, or the next, and
ABORT, in a run answer STARTED and schedule it; in ARMED they disarm alarm 15 and schedule it unless the start is due,
which comes first. ABORT in IDLE is OK. SERVICE_EXIT schedules a stop at the next frame. At the stop frame the hub
enters IDLE with alarm 15 disarmed. TRIM_NOW makes a spire's trim PENDING with reason 4; TRIM_HOLD and TRIM_RELEASE
set and clear HELD. PROMOTE on a healthy standby that may claim proposes, else is ESTATE, in a takeover EBUSY. DEMOTE
on an ACTIVE hub proposes to a healthy peer, a handover then in progress, or fences. SET_PREFERRED sets the role, or
is EBUSY. SERVICE_ENTER makes SERVICE pending for the next frame boundary, and with PLAN arms the start at the first
frame at least 10 ms on. HUB_RESET queues its reset, its 1 ms from the response on, or is ERANGE, or ESTATE in BOOT.
In another mode each is ESTATE; an ARG above its range ERANGE. Where the spec leaves a reading open, the model's is
that of log entries 10, 29, 35, 36 and 43. -/
def Obligations.CommandsOfModesAndRuns : Prop :=
  (∀ (s : State) (ch : BoxIx) (op a : Nat), commandWaits ch op a s →
    (op ∉ opcodes → ∃ t, exec (.nopCommand ch) s = .next t ∧ answered ch EUNKNOWN 0 s t ∧
      commandMoved (fun _ => false) ch s t) ∧
    (op = 0 → ∃ t, exec (.nopCommand ch) s = .next t ∧ answered ch (if a = 0 then OK else ERANGE) 0 s t ∧
      commandMoved (fun _ => false) ch s t) ∧
    (op = 1 → ∃ t, exec (.ping ch) s = .next t ∧ answered ch OK a s t ∧ commandMoved (fun _ => false) ch s t)) ∧
  (∀ (s : State) (ch : BoxIx), s.hub.sys.powered = true → s.hub.commandReady ch = true → s.hub.respOk ch = false →
    bitsOf (s.hub.rd (Addr.MB_PEEK ch)) 24 8 = 1 →
    ∃ t, exec (.ping ch) s = .next t ∧ t.hub.mbFull ch = false ∧ t.hub.inflight ch = false ∧ logged 6 s t ∧
      commandMoved inLog ch s t) ∧
  (∀ (s : State) (ch : BoxIx) (a : Nat), commandWaits ch 0x11 a s →
    (s.hub.mode ≠ .idle → ∃ t, exec (.arm ch) s = .next t ∧ rejected ch s t) ∧
    (s.hub.mode = .idle → 1 < a → ∃ t, exec (.arm ch) s = .next t ∧ answered ch ERANGE 0 s t ∧ t.hub.mode = .idle) ∧
    (s.hub.mode = .idle → a ≤ 1 →
      ((s.hub.planLoaded = false ∨ s.hub.bit Addr.SYS_PLAN_STATUS 1 = true ∨ s.hub.bit Addr.GRID_STATUS 0 = false) →
        ∃ t, exec (.arm ch) s = .next t ∧ rejected ch s t) ∧
      (s.hub.planLoaded = true → s.hub.bit Addr.SYS_PLAN_STATUS 1 = false → s.hub.bit Addr.GRID_STATUS 0 = true →
        (s.hub.tstate = 0 → a = 0 → ∃ t, exec (.arm ch) s = .next t ∧ answered ch ETIME 0 s t ∧ t.hub.mode = .idle ∧
          commandMoved (fun _ => false) ch s t) ∧
        (s.hub.tstate ≠ 0 ∨ a = 1 → ∃ t, exec (.arm ch) s = .next t ∧ answered ch OK 0 s t ∧ changesTo .armed ch s t ∧
          (∀ c ∈ s.hub.sys.plan.used, c < 256 → s.hub.sys.ungated.contains (c / 64) = false →
            t.hub.bit Addr.INRUSH_PEND (16 + c / 64) = true) ∧
          commandMoved (fun x => x == Addr.SYS_MODE || x == Addr.INRUSH_PEND) ch s t)))) ∧
  (∀ (s : State) (ch : BoxIx) (a : Nat), commandWaits ch 0x02 a s →
    (255 < a → ∃ t, exec (.status ch) s = .next t ∧ answered ch ERANGE 0 s t ∧ commandMoved (fun _ => false) ch s t) ∧
    (a ≤ 255 → ∃ t, exec (.status ch) s = .next t ∧
      answered ch OK (s.hub.mode.code + 8 * s.hub.fld Addr.TIME_STATE 2 2 + 32 * bitsOf (s.hub.selStatus s.raw.toNat) 0 3 +
        (if s.hub.planLoaded then 256 else 0) + (if s.hub.drained then 512 else 0) +
        (if s.hub.bit Addr.FIRST_ERR 31 then 1024 else 0)) s t ∧
      (∀ p ∈ [(0, Addr.SYS_MODE), (1, Addr.TIME_STATE), (2, Addr.SEL_STATUS), (3, Addr.CALC_STATUS), (4, Addr.LED_STATUS),
        (5, Addr.ELOG_STATUS), (6, Addr.SAG_STATUS), (7, Addr.SYS_PLAN_ID)],
        some (t.hub.slotWord a p.1) = s.hub.view s.raw.toNat belfry p.2) ∧
      (∀ b, (b < 256 * a ∨ 256 * a + 32 ≤ b) → t.hub.domeByte b = s.hub.domeByte b) ∧
      regsKept (mailReg ch s) s t)) ∧
  (∀ (s : State) (ch : BoxIx) (a : Nat), commandWaits ch 0x12 a s →
    (let now := s.hub.timeAt s.raw.toNat
     let w := fun k => s.hub.slotWord a k
     let e := instOf (w 0) (w 1) (w 2)
     let named := a ≤ 255 ∧ kxNs (w 0) (w 1) (w 2) ≤ 999999999 ∧ kxNs (w 0) (w 1) (w 2) % 80 = 0 ∧ bitsOf (w 0) 0 16 = 0 ∧
       e ≤ now + 86400 * secU
     let near := s.hub.armed 15 = true ∧ (SMap.get {} s.hub.lan.alarms 15).target ≤ now + 10 * msU
     (s.hub.mode ≠ .armed → ∃ t, exec (.start ch) s = .next t ∧ rejected ch s t) ∧
     (s.hub.mode = .armed →
       (¬named → ∃ t, exec (.start ch) s = .next t ∧ answered ch ERANGE 0 s t ∧ commandMoved (fun _ => false) ch s t) ∧
       (named → e < now + 10 * msU → ∃ t, exec (.start ch) s = .next t ∧ answered ch ETIME 0 s t ∧
         commandMoved (fun _ => false) ch s t) ∧
       (named → now + 10 * msU ≤ e → near → ∃ t, exec (.start ch) s = .next t ∧ answered ch EBUSY 0 s t ∧
         commandMoved (fun _ => false) ch s t) ∧
       (named → now + 10 * msU ≤ e → ¬near → ∃ t, exec (.start ch) s = .next t ∧ answered ch OK 0 s t ∧
         t.hub.mode = .armed ∧ t.hub.armed 15 = true ∧
         SMap.get {} t.hub.lan.alarms 15 = { target := e, per := 0, action := 8, capmask := s.hub.rd (Addr.ALM_CAPMASK 15) } ∧
         commandMoved (fun x => x == Addr.ALM_TGT0 15 || x == Addr.ALM_TGT1 15 || x == Addr.ALM_TGT2 15 ||
           x == Addr.ALM_PER 15 || x == Addr.ALM_PER_FRAC 15 || x == Addr.ALM_ACTION 15 || x == Addr.ALM_STATUS 15) ch s t)))) ∧
  (∀ (s : State) (ch : BoxIx) (a : Nat), commandWaits ch 0x20 a s →
    (s.hub.mode = .boot → ∃ t, exec (.trimNow ch) s = .next t ∧ rejected ch s t) ∧
    (s.hub.mode ≠ .boot → 15 < a → ∃ t, exec (.trimNow ch) s = .next t ∧ answered ch ERANGE 0 s t ∧
      commandMoved (fun _ => false) ch s t) ∧
    (s.hub.mode ≠ .boot → a ≤ 15 → ∃ t, exec (.trimNow ch) s = .next t ∧ answered ch OK 0 s t ∧
      commandMoved (fun x => x == Addr.TRIM_STATUS a || x == Addr.CALC_TRIM_PEND) ch s t ∧
      (s.hub.trimState a = trimNONE → t.hub.trimState a = trimPENDING ∧ t.hub.fld (Addr.TRIM_STATUS a) 2 3 = 4 ∧
        t.hub.bit Addr.CALC_TRIM_PEND a = true ∧ (t.hub.spire a).trimAt = s.hub.timeAt s.raw.toNat) ∧
      (s.hub.trimState a = trimPENDING → t.hub.trimState a = trimPENDING ∧ t.hub.fld (Addr.TRIM_STATUS a) 2 3 = 4) ∧
      (s.hub.trimState a = trimACTIVE → t.hub.trimState a = trimACTIVE ∧ (t.hub.spire a).trimNow = true) ∧
      (s.hub.trimState a = trimISSUED → t.hub.trimState a = trimISSUED ∧ t.hub.spires = s.hub.spires))) ∧
  (∀ (s : State) (ch : BoxIx) (a : Nat), commandWaits ch 0x13 a s →
    (let now := s.hub.timeAt s.raw.toNat
     let w := fun k => s.hub.slotWord a k
     let e := if a = 0xFFFF then nextFrame now else instOf (w 0) (w 1) (w 2)
     let named := a ≤ 255 ∧ kxNs (w 0) (w 1) (w 2) ≤ 999999999 ∧ kxNs (w 0) (w 1) (w 2) % 80 = 0 ∧ bitsOf (w 0) 0 16 = 0 ∧
       e ≤ now + 86400 * secU
     let good := a = 0xFFFF ∨ (named ∧ now + msU ≤ e)
     let begun := s.hub.mode = .armed ∨ s.hub.mode = .run ∨ s.hub.mode = .shadow
     (¬begun → ∃ t, exec (.stop ch) s = .next t ∧ rejected ch s t) ∧
     (begun → a ≠ 0xFFFF → ¬named → ∃ t, exec (.stop ch) s = .next t ∧ answered ch ERANGE 0 s t ∧ t.hub.sys = sysAnswered ch s ∧
       commandMoved (fun _ => false) ch s t) ∧
     (begun → a ≠ 0xFFFF → named → e < now + msU → ∃ t, exec (.stop ch) s = .next t ∧ answered ch ETIME 0 s t ∧
       t.hub.sys = sysAnswered ch s ∧ commandMoved (fun _ => false) ch s t) ∧
     (s.hub.mode = .run ∨ s.hub.mode = .shadow → good → ∃ t, exec (.stop ch) s = .next t ∧ answered ch OK 1 s t ∧
       stopsAt e ch s t ∧ commandMoved stopReg ch s t) ∧
     (s.hub.mode = .armed → good →
       (notDue 15 s → ∃ t, exec (.stop ch) s = .next t ∧ answered ch OK 0 s t ∧ stopsAt e ch s t ∧
         t.hub.armed 15 = false ∧ commandMoved (fun x => stopReg x || x == Addr.ALM_STATUS 15) ch s t) ∧
       (startDue s → ∃ t, exec (.stop ch) s = .next t ∧ answered ch OK 1 s t ∧ startedThenStops s t)))) ∧
  (∀ (s : State) (ch : BoxIx), commandWaits ch 0x14 0 s → (∀ l, l < 4 → (s.hub.lane l).eyeScan = none) →
    (s.hub.mode = .boot → ∃ t, exec (.abort ch) s = .next t ∧ rejected ch s t) ∧
    (s.hub.mode = .idle → ∃ t, exec (.abort ch) s = .next t ∧ answered ch OK 0 s t ∧ t.hub.sys = sysAnswered ch s ∧
      commandMoved (fun _ => false) ch s t) ∧
    (s.hub.mode = .run ∨ s.hub.mode = .shadow ∨ s.hub.mode = .service →
      ∃ t, exec (.abort ch) s = .next t ∧ answered ch OK (if s.hub.mode = .service ∧ s.hub.servicePlan = false then 0 else 1) s t ∧
        stopsAt (nextFrame (s.hub.timeAt s.raw.toNat)) ch s t ∧ commandMoved stopReg ch s t) ∧
    (s.hub.mode = .armed → notDue 15 s → ∃ t, exec (.abort ch) s = .next t ∧ answered ch OK 0 s t ∧
      stopsAt (nextFrame (s.hub.timeAt s.raw.toNat)) ch s t ∧ t.hub.armed 15 = false ∧
      commandMoved (fun x => stopReg x || x == Addr.ALM_STATUS 15) ch s t) ∧
    (s.hub.mode = .armed → startDue s → ∃ t, exec (.abort ch) s = .next t ∧ answered ch OK 1 s t ∧ startedThenStops s t)) ∧
  (∀ (s : State) (e : Nat), s.hub.sys.powered = true → s.hub.sys.stopAt = some e →
    (e ≤ s.hub.timeAt s.raw.toNat → ∃ t, exec .stopFrame s = .next t ∧ ended e s t) ∧
    (s.hub.timeAt s.raw.toNat < e → exec .stopFrame s = .next s)) ∧
  (∀ (s : State) (ch : BoxIx) (a : Nat), s.hub.mode ≠ .boot → 0 < a →
    (commandWaits ch 0x14 a s → ∃ t, exec (.abort ch) s = .next t ∧ answered ch ERANGE 0 s t ∧
      commandMoved (fun _ => false) ch s t) ∧
    (commandWaits ch 0x21 a s → ∃ t, exec (.trimHold ch) s = .next t ∧ answered ch ERANGE 0 s t ∧
      commandMoved (fun _ => false) ch s t) ∧
    (commandWaits ch 0x22 a s → ∃ t, exec (.trimRelease ch) s = .next t ∧ answered ch ERANGE 0 s t ∧
      commandMoved (fun _ => false) ch s t) ∧
    (commandWaits ch 0x30 a s → s.hub.mode = .idle ∨ s.hub.mode = .armed ∨ s.hub.mode = .shadow →
      ∃ t, exec (.promote ch) s = .next t ∧ answered ch ERANGE 0 s t ∧ commandMoved (fun _ => false) ch s t) ∧
    (commandWaits ch 0x31 a s → s.hub.mode = .idle ∨ s.hub.mode = .armed ∨ s.hub.mode = .run →
      ∃ t, exec (.demote ch) s = .next t ∧ answered ch ERANGE 0 s t ∧ commandMoved (fun _ => false) ch s t) ∧
    (commandWaits ch 0x40 a s → 1 < a → s.hub.mode = .idle →
      ∃ t, exec (.serviceEnter ch) s = .next t ∧ answered ch ERANGE 0 s t ∧ commandMoved (fun _ => false) ch s t) ∧
    (commandWaits ch 0x41 a s → s.hub.mode = .service →
      ∃ t, exec (.serviceExit ch) s = .next t ∧ answered ch ERANGE 0 s t ∧ commandMoved (fun _ => false) ch s t)) ∧
  (∀ (s : State) (ch : BoxIx), s.hub.mode ≠ .boot →
    (commandWaits ch 0x21 0 s → ∃ t, exec (.trimHold ch) s = .next t ∧ answered ch OK 0 s t ∧
      t.hub.bit Addr.CALC_STATUS 1 = true ∧ commandMoved (fun x => x == Addr.CALC_STATUS) ch s t) ∧
    (commandWaits ch 0x22 0 s → ∃ t, exec (.trimRelease ch) s = .next t ∧ answered ch OK 0 s t ∧
      t.hub.bit Addr.CALC_STATUS 1 = false ∧ commandMoved (fun x => x == Addr.CALC_STATUS) ch s t)) ∧
  (∀ (s : State) (ch : BoxIx), commandWaits ch 0x30 0 s →
    (s.hub.mode = .boot ∨ s.hub.mode = .run ∨ s.hub.mode = .service → ∃ t, exec (.promote ch) s = .next t ∧ rejected ch s t) ∧
    (s.hub.mode = .idle ∨ s.hub.mode = .armed ∨ s.hub.mode = .shadow →
      ((s.hub.paired = false ∨ s.hub.selState = selACTIVE) → ∃ t, exec (.promote ch) s = .next t ∧ rejected ch s t) ∧
      (s.hub.paired = true → s.hub.selState ≠ selACTIVE → s.hub.pairBusy = true →
        ∃ t, exec (.promote ch) s = .next t ∧ answered ch EBUSY 0 s t ∧ commandMoved (fun _ => false) ch s t) ∧
      (s.hub.paired = true → s.hub.selState ≠ selACTIVE → s.hub.pairBusy = false →
        (s.hub.selState ≠ selSTANDBY ∨ s.hub.health s.raw.toNat ≠ 31 ∨ s.hub.bothLocked = false ∨
          s.hub.mayClaim s.raw.toNat = false) →
        ∃ t, exec (.promote ch) s = .next t ∧ rejected ch s t) ∧
      (s.hub.paired = true → s.hub.selState = selSTANDBY → s.hub.pairBusy = false → s.hub.health s.raw.toNat = 31 →
        s.hub.bothLocked = true → s.hub.mayClaim s.raw.toNat = true → ∃ t, exec (.promote ch) s = .next t ∧ answered ch OK 0 s t ∧ proposed s t ∧
          commandMoved (fun x => x == Addr.CNT_UNREACH) ch s t))) ∧
  (∀ (s : State) (ch : BoxIx), commandWaits ch 0x31 0 s →
    (s.hub.mode = .boot ∨ s.hub.mode = .shadow ∨ s.hub.mode = .service → ∃ t, exec (.demote ch) s = .next t ∧ rejected ch s t) ∧
    (s.hub.mode = .idle ∨ s.hub.mode = .armed ∨ s.hub.mode = .run →
      ((s.hub.paired = false ∨ s.hub.selState = selSTANDBY ∨ (s.hub.pairBusy = false ∧ s.hub.selState ≠ selACTIVE)) →
        ∃ t, exec (.demote ch) s = .next t ∧ rejected ch s t) ∧
      (s.hub.paired = true → s.hub.selState ≠ selSTANDBY → s.hub.pairBusy = true →
        ∃ t, exec (.demote ch) s = .next t ∧ answered ch EBUSY 0 s t ∧ commandMoved (fun _ => false) ch s t) ∧
      (s.hub.paired = true → s.hub.pairBusy = false → s.hub.selState = selACTIVE →
        (s.hub.fld Addr.SEL_STATUS 8 5 = 31 → s.hub.bothLocked = true →
          ∃ t, exec (.demote ch) s = .next t ∧ answered ch OK 0 s t ∧ sentPeer mHANDOVER false (instWords 0 ++ [0#32]) s t ∧
            t.hub.selState = selACTIVE ∧ t.hub.sel.hand = some { claimant := false } ∧ t.hub.pairBusy = true ∧
            commandMoved (fun x => x == Addr.CNT_UNREACH) ch s t) ∧
        (s.hub.fld Addr.SEL_STATUS 8 5 ≠ 31 ∨ s.hub.bothLocked = false →
          ∃ t, exec (.demote ch) s = .next t ∧ answered ch OK 0 s t ∧ fenced s t)))) ∧
  (∀ (s : State) (ch : BoxIx) (a : Nat), commandWaits ch 0x32 a s → s.hub.mode ≠ .boot →
    (1 < a → ∃ t, exec (.setPreferred ch) s = .next t ∧ answered ch ERANGE 0 s t ∧ commandMoved (fun _ => false) ch s t) ∧
    (a ≤ 1 → s.hub.pathOk = false → ∃ t, exec (.setPreferred ch) s = .next t ∧ answered ch EBUSY 0 s t ∧
      commandMoved (fun _ => false) ch s t) ∧
    (a ≤ 1 → s.hub.pathOk = true → ∃ t, exec (.setPreferred ch) s = .next t ∧ answered ch OK 0 s t ∧
      t.hub.bit Addr.SEL_CFG 17 = decide (a = 0) ∧ t.hub.sel.tellRole = true ∧ t.hub.selState = s.hub.selState ∧
      commandMoved (fun x => x == Addr.SEL_CFG) ch s t)) ∧
  (∀ (s : State) (ch : BoxIx) (a : Nat), commandWaits ch 0x40 a s →
    (s.hub.mode ≠ .idle → ∃ t, exec (.serviceEnter ch) s = .next t ∧ rejected ch s t) ∧
    (s.hub.mode = .idle → a = 1 → s.hub.planLoaded = false → ∃ t, exec (.serviceEnter ch) s = .next t ∧ rejected ch s t) ∧
    (s.hub.mode = .idle → a = 0 → ∃ t, exec (.serviceEnter ch) s = .next t ∧ answered ch OK 0 s t ∧ changesTo .service ch s t ∧
      t.hub.sys = { sysAnswered ch s with modeNext := t.hub.sys.modeNext } ∧ t.hub.sel = s.hub.sel ∧
      commandMoved (fun x => x == Addr.SYS_MODE) ch s t) ∧
    (s.hub.mode = .idle → a = 1 → s.hub.planLoaded = true → s.hub.timeAt s.raw.toNat + 11 * msU < kxMod →
      ∃ t e, exec (.serviceEnter ch) s = .next t ∧ answered ch OK 0 s t ∧ changesTo .service ch s t ∧
        t.hub.sys.serviceStart = true ∧ t.hub.armed 15 = true ∧
        SMap.get {} t.hub.lan.alarms 15 = { target := e, per := 0, action := 8, capmask := s.hub.rd (Addr.ALM_CAPMASK 15) } ∧
        e % frameU = 0 ∧ s.hub.timeAt s.raw.toNat + 10 * msU ≤ e ∧ e < s.hub.timeAt s.raw.toNat + 10 * msU + frameU)) ∧
  (∀ (s : State) (ch : BoxIx), commandWaits ch 0x41 0 s →
    (s.hub.mode = .service → ∃ t, exec (.serviceExit ch) s = .next t ∧ answered ch OK 0 s t ∧
      stopsAt (nextFrame (s.hub.timeAt s.raw.toNat)) ch s t ∧ commandMoved stopReg ch s t) ∧
    (s.hub.mode ≠ .service → ∃ t, exec (.serviceExit ch) s = .next t ∧ rejected ch s t)) ∧
  (∀ (s : State) (ch : BoxIx) (a : Nat), commandWaits ch 0x71 a s →
    (s.hub.mode = .boot → a % 16 ≠ 0 → ∃ t, exec (.hubReset ch) s = .next t ∧ rejected ch s t) ∧
    (s.hub.mode ≠ .boot ∨ a % 16 = 0 →
      (let inst := a / 16 % 16
       let kind := a % 16
       let known := a / 256 = 0xA5 ∧ ((kind ≤ 1 ∧ inst = 0) ∨ kind = 2 ∨ (kind = 3 ∧ inst ≤ 3))
       (¬known → ∃ t, exec (.hubReset ch) s = .next t ∧ answered ch ERANGE 0 s t ∧ t.hub.sys = sysAnswered ch s ∧
         commandMoved (fun _ => false) ch s t) ∧
       (known → ∃ t, exec (.hubReset ch) s = .next t ∧ answered ch OK 0 s t ∧ commandMoved (fun _ => false) ch s t ∧
         t.hub.sys = { s.hub.sys with resets := (sysAnswered ch s).resets ++ [{
           kind := if kind = 0 then .hub else if kind = 1 then .belfry else if kind = 2 then .spire inst else .lane inst,
           ch := ch, posted := some s.raw.toNat }] }))))

/-- A trip to a deeper level shows it, throttles by R427, counts, keeps the deepest and the time, and logs class SAG; no
other trip does anything. A shallower level is taken once the present one was held 10 us, never below a forced one.
TP_ARM with the two words from one master within 1 ms in RUN arms; 0 disarms and disables every perturbation; every
other word restarts with ESTATE. An enabling write is accepted in SERVICE, and in RUN when armed where R458 allows it:
counted and logged in class TEST; outside that ESTATE, with a field out of range ERANGE, both logged with no effect;
the range is checked with EN = 0 too, and in the Belfry cycle of a TP_ARM of 0 every enabling write is ESTATE.
TP_TJIT's waits are at most MAX. TP_SAG's level is entered at once where deeper; TP_SWAPFAIL with no spire is not
enabled; INJECT inverts the parity of its word. STARVE_END ends a starving whose DUR is over. A held ACK is applied
HOLD ms after arrival, the oldest first. 1 ms after HUB_RESET's answer RESET_DELAY_EXPIRY resets what the oldest one
asked for, and earlier nothing. SPIRE_RESET_END ends the reset after 1 000 frames; LANE_RESET_END after 1 ms lets an
enabled lane start in DETECT. Where the spec leaves a reading open, the model's is that of log entries 3, 45 and 49. -/
def Obligations.SagTestBlockAndResetsEnding : Prop :=
  (∀ (s : State) (k : SagIx), s.hub.sys.powered = true →
    (s.hub.sagLevel < k.val →
      ∃ t, exec (.sagTrip k) s = .next t ∧ t.hub.sagLevel = k.val ∧
        t.hub.rd Addr.CLK_THROTTLE_NOW = wd (min k.val 2 + 4 * k.val + 16 * k.val + 64 * k.val) ∧
        t.hub.fld Addr.SAG_MAX 0 2 = max (s.hub.fld Addr.SAG_MAX 0 2) k.val ∧
        t.hub.fld (Addr.SAG_TRIP_CNT (k.val - 1)) 0 16 = min (s.hub.fld (Addr.SAG_TRIP_CNT (k.val - 1)) 0 16 + 1) 65535 ∧
        t.hub.rd Addr.SAG_LAST0 = kxWord (s.hub.timeAt s.raw.toNat) 0 ∧
        t.hub.rd Addr.SAG_LAST1 = kxWord (s.hub.timeAt s.raw.toNat) 1 ∧
        t.hub.rd Addr.SAG_LAST2 = kxWord (s.hub.timeAt s.raw.toNat) 2 ∧ t.hub.sag.since = s.raw.toNat ∧ logged 22 s t ∧
        (∀ i, i < 4 → t.hub.fld Addr.CLK_THROTTLE_MAX (2 * i) 2 = max (s.hub.fld Addr.CLK_THROTTLE_MAX (2 * i) 2)
          (if i = 0 then min k.val 2 else k.val)) ∧
        t.hub.dome = s.hub.dome ∧ t.hub.mode = s.hub.mode ∧
        regsKept (fun a => a == Addr.SAG_STATUS || a == Addr.SAG_MAX || a == Addr.SAG_TRIP_CNT (k.val - 1) ||
          a == Addr.SAG_LAST0 || a == Addr.SAG_LAST1 || a == Addr.SAG_LAST2 || a == Addr.CLK_THROTTLE_NOW ||
          a == Addr.CLK_THROTTLE_MAX || inLog a) s t) ∧
    (k.val ≤ s.hub.sagLevel → exec (.sagTrip k) s = .next s) ∧
    (k.val < s.hub.sagLevel → s.hub.sag.since + 10000 * nsU ≤ s.raw.toNat → s.hub.forcedSag ≤ k.val →
      ∃ t, exec (.sagLevelLeave k) s = .next t ∧ t.hub.sagLevel = k.val ∧ t.hub.sag.since = s.raw.toNat ∧
        t.hub.rd Addr.CLK_THROTTLE_NOW = wd (min k.val 2 + 4 * k.val + 16 * k.val + 64 * k.val) ∧ t.hub.dome = s.hub.dome ∧
        regsKept (fun a => a == Addr.SAG_STATUS || a == Addr.CLK_THROTTLE_NOW || a == Addr.CLK_THROTTLE_MAX) s t) ∧
    ((s.hub.sagLevel ≤ k.val ∨ s.raw.toNat < s.hub.sag.since + 10000 * nsU ∨ k.val < s.hub.forcedSag) →
      exec (.sagLevelLeave k) s = .next s)) ∧
  (∀ (s : State) (m : MasterIx) (v : Word), s.hub.sys.powered = true → s.hub.accessOk m true Addr.TP_ARM 4 = true →
    (v = 0#32 → s.hub.led.held = [] → ∃ t, exec (.tpArm m v) s = .next t ∧ t.hub.tpArmed = false ∧
      (∀ p ∈ tpEn, t.hub.bit p.1 p.2 = false) ∧ t.hub.tpStep = none ∧ t.hub.tpOffAt = some s.raw.toNat ∧ t.hub.fld Addr.TP_STATUS 8 8 = OK ∧
      t.hub.dome = s.hub.dome ∧ regsKept (fun a => a == Addr.TP_STATUS || tpEn.any fun p => a == p.1) s t) ∧
    (v ≠ 0#32 → ∃ t, exec (.tpArm m v) s = .next t ∧ t.hub.dome = s.hub.dome ∧ regsKept (fun a => a == Addr.TP_STATUS) s t ∧
      (s.hub.tpStep = none → v = 0x5450#32 → s.hub.mode = .run → t.hub.tpStep = some (m.val, s.raw.toNat) ∧
        t.hub.tpArmed = s.hub.tpArmed ∧ t.hub.fld Addr.TP_STATUS 8 8 = OK) ∧
      (∀ r, s.hub.tpStep = some (m.val, r) → v = 0x4152#32 → s.hub.mode = .run → s.raw.toNat ≤ r + 1000000 * nsU →
        t.hub.tpArmed = true ∧ t.hub.tpStep = none ∧ t.hub.fld Addr.TP_STATUS 8 8 = OK) ∧
      (s.hub.mode ≠ .run ∨ (s.hub.tpStep = none ∧ v ≠ 0x5450#32) ∨
        (∃ x r, s.hub.tpStep = some (x, r) ∧ (x ≠ m.val ∨ v ≠ 0x4152#32 ∨ r + 1000000 * nsU < s.raw.toNat)) →
        t.hub.tpStep = none ∧ t.hub.tpArmed = s.hub.tpArmed ∧ t.hub.fld Addr.TP_STATUS 8 8 = ESTATE))) ∧
  (∀ (s : State) (m : MasterIx) (v : Word), s.hub.sys.powered = true →
    (s.hub.accessOk m true Addr.TP_XDELAY 4 = true →
      perturbs m Addr.TP_XDELAY (putBit v 16 true &&& 0x1FFFF#32) false
        (decide (0x2A < bitsOf v 0 8) || decide (bitsOf v 8 8 = 0)) s (exec (.tpXdelay m v) s)) ∧
    (s.hub.accessOk m true Addr.TP_STARVE 4 = true →
      perturbs m Addr.TP_STARVE (putBit v 11 true &&& 0xFFFF0FFF#32) (v.getLsbD 0 || decide (2 ≤ bitsOf v 3 2))
        (decide (bitsOf v 16 16 = 0)) s (exec (.tpStarve m v) s)) ∧
    (s.hub.accessOk m true Addr.TP_ACKHOLD 4 = true →
      perturbs m Addr.TP_ACKHOLD (putBit v 17 true &&& 0x3FFFF#32) true
        (decide (bitsOf v 0 10 = 0) || decide (1000 < bitsOf v 0 10)) s (exec (.tpAckhold m v) s)) ∧
    (s.hub.accessOk m true Addr.TP_DROP 4 = true →
      perturbs m Addr.TP_DROP (putBit v 24 true &&& 0x1FFFFFF#32) (decide (bitsOf v 4 2 = 0)) false s (exec (.tpDrop m v) s)) ∧
    (s.hub.accessOk m true Addr.TP_TJIT 4 = true →
      perturbs m Addr.TP_TJIT (putBit v 12 true &&& 0x1FFF#32) false (decide (bitsOf v 4 8 = 0)) s (exec (.tpTjit m v) s)) ∧
    (s.hub.accessOk m true Addr.TP_TJIT 4 = true → s.hub.mode = .service → s.hub.tpOffNow s.raw.toNat = false → 0 < bitsOf v 4 8 →
      ∃ t, exec (.tpTjit m v) s = .next t ∧
        ∀ k, k < 4 → SMap.get 0 t.hub.sys.jit k ≤ (if v.getLsbD k then bitsOf v 4 8 else 0)) ∧
    (s.hub.accessOk m true Addr.TP_XDELAY 4 = true → v.getLsbD 16 = false →
      ((0x2A < bitsOf v 0 8 ∨ bitsOf v 8 8 = 0) →
        ∃ t, exec (.registerWrite m (wd Addr.TP_XDELAY) .word v) s = .next t ∧ perturbRefused m ERANGE s t) ∧
      (bitsOf v 0 8 ≤ 0x2A → bitsOf v 8 8 ≠ 0 →
        ∃ t, exec (.registerWrite m (wd Addr.TP_XDELAY) .word v) s = .next t ∧ t.hub.rd Addr.TP_XDELAY = v &&& 0x1FFFF#32 ∧
          t.hub.fld Addr.TP_STATUS 8 8 = OK ∧ onlyStore m (fun a => a == Addr.TP_XDELAY || a == Addr.TP_STATUS) s t)) ∧
    (s.hub.accessOk m true Addr.TP_SKEW 4 = true →
      perturbs m Addr.TP_SKEW (putBit v 7 true) false (decide (5 < bitsOf v 4 3)) s (exec (.tpSkew m v) s)) ∧
    (s.hub.accessOk m true Addr.TP_SAG 4 = true → (s.hub.mode = .service → bitsOf v 0 2 = 0 ∨ bitsOf v 0 2 ≤ s.hub.sagLevel) →
      s.hub.forcedSag ≤ s.hub.sagLevel →
      perturbs m Addr.TP_SAG (putBit v 2 true &&& 7#32) false (decide (bitsOf v 0 2 = 0)) s (exec (.tpSag m v) s)) ∧
    (s.hub.accessOk m true Addr.TP_SAG 4 = true → s.hub.mode = .service → s.hub.sagLevel < bitsOf v 0 2 →
      s.hub.tpOffNow s.raw.toNat = false → ∃ t, exec (.tpSag m v) s = .next t ∧ perturbed m Addr.TP_SAG (putBit v 2 true &&& 7#32) s t ∧
        t.hub.sagLevel = bitsOf v 0 2 ∧ logged 22 s t) ∧
    (s.hub.accessOk m true Addr.TP_SWAPFAIL 4 = true → bitsOf v 0 16 ≠ 0 → s.hub.fld Addr.TP_SWAPFAIL 0 16 ≠ 0 →
      perturbs m Addr.TP_SWAPFAIL (putBit v 18 true &&& 0x7FFFF#32) false
        (decide (bitsOf v 16 2 = 0) || decide (bitsOf v 16 2 = 3)) s (exec (.tpSwapfail m v) s)) ∧
    (s.hub.accessOk m true Addr.TP_SWAPFAIL 4 = true → s.hub.mode = .service → bitsOf v 0 16 = 0 →
      (bitsOf v 16 2 = 1 ∨ bitsOf v 16 2 = 2) → s.hub.tpOffNow s.raw.toNat = false →
      ∃ t, exec (.tpSwapfail m v) s = .next t ∧ t.hub.bit Addr.TP_SWAPFAIL 18 = false ∧ t.hub.dome = s.hub.dome)) ∧
  (∀ (s : State) (m : MasterIx) (v : Word), s.hub.sys.powered = true → s.hub.accessOk m true Addr.TP_PAR_CTRL 4 = true →
    (let a := (s.hub.rd Addr.TP_PAR_ADDR).toNat
     ∃ t, exec (.inject m v) s = .next t ∧ t.hub.dome = s.hub.dome ∧
       (s.hub.mode = .service ∨ (s.hub.mode = .run ∧ s.hub.tpArmed = true ∧ s.hub.region a = some .journal) →
         t.hub.poisoned a = !s.hub.poisoned a ∧ (∀ b, b / 8 ≠ a / 8 → t.hub.poisoned b = s.hub.poisoned b) ∧
         t.hub.rd Addr.TP_USE_CNT = s.hub.rd Addr.TP_USE_CNT + 1#32 ∧ t.hub.fld Addr.TP_STATUS 8 8 = OK ∧ logged 23 s t ∧
         regsKept (fun x => x == Addr.TP_STATUS || x == Addr.TP_USE_CNT || inLog x) s t) ∧
       (s.hub.mode ≠ .service → (s.hub.mode ≠ .run ∨ s.hub.tpArmed = false ∨ s.hub.region a ≠ some .journal) →
         perturbRefused m ESTATE s t))) ∧
  (∀ s : State, s.hub.sys.powered = true →
    (let due := s.hub.starveAt + s.hub.fld Addr.TP_STARVE 16 16 * 1000 * nsU
     (s.hub.bit Addr.TP_STARVE 11 = true → due ≤ s.raw.toNat →
       ∃ t, exec .starveEnd s = .next t ∧ t.hub.bit Addr.TP_STARVE 11 = false ∧ onlyRegs (fun a => a == Addr.TP_STARVE) s t) ∧
     ((s.hub.bit Addr.TP_STARVE 11 = false ∨ s.raw.toNat < due) → exec .starveEnd s = .next s)) ∧
    (s.hub.led.held = [] → exec .ackholdRelease s = .next s) ∧
    (∀ (q k next e : Nat) (nack : Bool) rest, s.hub.led.held = (q, k, next, nack, e) :: rest →
      (s.hub.timeAt s.raw.toNat < e + s.hub.fld Addr.TP_ACKHOLD 0 10 * 1000000 * nsU →
        exec .ackholdRelease s = .next s) ∧
      (e + s.hub.fld Addr.TP_ACKHOLD 0 10 * 1000000 * nsU ≤ s.hub.timeAt s.raw.toNat → nack = false →
        ∃ t, exec .ackholdRelease s = .next t ∧ t.hub.led.held = rest ∧
          (t.hub.stream k).ack = max (s.hub.stream k).ack (min next (s.hub.stream k).prod) ∧
          (∀ j, j ≠ k → t.hub.stream j = s.hub.stream j) ∧ t.hub.dome = s.hub.dome))) ∧
  (∀ (s : State) (n : SpireIx), s.hub.sys.powered = true →
    (let due := (s.hub.spire n).resetFrame + 1000
     ((s.hub.spire n).inReset = true → due ≤ frameOf (s.hub.timeAt s.raw.toNat) →
       ∃ t, exec (.spireResetEnd n) s = .next t ∧
         t.hub.spire n = { s.hub.spire n with inReset := false, marks := (t.hub.spire n).marks } ∧
         onlyRegsSpire (fun _ => false) n s t) ∧
     (((s.hub.spire n).inReset = false ∨ frameOf (s.hub.timeAt s.raw.toNat) < due) → exec (.spireResetEnd n) s = .next s))) ∧
  (∀ (s : State) (l : LaneIx), s.hub.sys.powered = true →
    (((s.hub.lane l).inReset = false ∨ s.raw.toNat < (s.hub.lane l).stageAt + msU) → exec (.laneResetEnd l) s = .next s) ∧
    ((s.hub.lane l).inReset = true → (s.hub.lane l).stageAt + msU ≤ s.raw.toNat → s.hub.stageOf l = sDISABLED →
      ∃ t, exec (.laneResetEnd l) s = .next t ∧ (t.hub.lane l).inReset = false ∧
        (s.hub.laneEn l = true → t.hub.stageOf l = sDETECT ∧ t.hub.bit (Addr.MOD_STATUS l) 2 = true ∧
          (t.hub.lane l).cfg = s.hub.rd (Addr.LANE_CFG l)) ∧
        (s.hub.laneEn l = false → t.hub.stageOf l = sDISABLED) ∧ onlyLane (stageReg l) l s t)) ∧
  (∀ (s : State) (x : ResetReq) (p : Nat) (rest : List ResetReq), s.hub.sys.powered = true → s.hub.sys.resets = x :: rest →
    x.posted = some p → p + msU ≤ s.raw.toNat →
    (x.kind = .belfry → s.hub.firmware = true →
      ∃ t, exec .resetDelayExpiry s = .next t ∧ belfryHeldReset 27 { s with hub := { s.hub with sys.resets := rest } } t) ∧
    (x.kind = .belfry → s.hub.firmware = false →
      ∃ t, exec .resetDelayExpiry s = .next t ∧
        t = { s with hub := { s.hub with sys.resets := rest, ctl.restartLog := s.hub.ctl.restartLog ++ [(27, 0#32)] } }) ∧
    (∀ n, n < 16 → x.kind = .spire n →
      (∀ e ∈ (s.hub.spire n).injQ ++ (s.hub.spire n).injWait, ∀ m, e.who = .ext m → m < 9) →
      ∃ t, exec .resetDelayExpiry s = .next t ∧ spireWasReset n s t ∧ t.hub.sys = { s.hub.sys with resets := rest }) ∧
    (∀ l, l < 4 → x.kind = .lane l →
      ∃ t, exec .resetDelayExpiry s = .next t ∧
        ((s.hub.lane l).eyeScan = none → t.hub.sys = { s.hub.sys with resets := rest }) ∧
        t.hub.stageOf l = sDISABLED ∧ t.hub.bit (Addr.MOD_STATUS l) 2 = true ∧ (t.hub.lane l).inReset = true ∧
        (t.hub.lane l).stageAt = s.raw.toNat ∧ (t.hub.lane l).txq = [] ∧ (t.hub.lane l).eyeScan = none ∧
        (∀ a ∈ laneResetRegs l, t.hub.rd a = resetValue a) ∧ t.hub.rd (Addr.LANE_CFG l) = s.hub.rd (Addr.LANE_CFG l))) ∧
  (∀ s : State, (∀ x ∈ s.hub.sys.resets, ∀ p, x.posted = some p → s.raw.toNat < p + msU) → exec .resetDelayExpiry s = .next s)
end

