-- ==== Sys2Proof/Laws/Bits.lean ====
section
/-!
SUPPORT. Reading the fields of words that were written field by field.
-/

namespace Sys2Proof.Machine

/-- Bit `i` of a word with a field replaced. -/
theorem getLsbD_putBits (w : Word) (lo n v i : Nat) (hi : i < 32) :
    (putBits w lo n v).getLsbD i = if lo ≤ i ∧ i < lo + n then v.testBit (i - lo) else w.getLsbD i := by
  have hm : ((2 ^ n - 1) * 2 ^ lo).testBit i = decide (lo ≤ i ∧ i < lo + n) := by
    rw [Nat.testBit_mul_two_pow, Nat.testBit_two_pow_sub_one]
    by_cases h1 : lo ≤ i <;> by_cases h2 : i < lo + n <;> simp [h1, h2] <;> omega
  have hv : (v % 2 ^ n * 2 ^ lo).testBit i = (decide (lo ≤ i ∧ i < lo + n) && v.testBit (i - lo)) := by
    rw [Nat.testBit_mul_two_pow, Nat.testBit_mod_two_pow]
    by_cases h1 : lo ≤ i
    · have e : (i - lo < n) ↔ (i < lo + n) := by omega
      simp [h1, e]
    · simp [h1]
  simp only [putBits, BitVec.getLsbD_or, BitVec.getLsbD_and, BitVec.getLsbD_not, BitVec.getLsbD_ofNat, hi, decide_true,
    Bool.true_and, hm, hv]
  by_cases h : lo ≤ i ∧ i < lo + n <;> simp [h]

theorem testBit_bitsOf (w : Word) (lo n i : Nat) : (bitsOf w lo n).testBit i = (decide (i < n) && w.getLsbD (lo + i)) := by
  rw [bitsOf, Nat.testBit_mod_two_pow, ← Nat.shiftRight_eq_div_pow, Nat.testBit_shiftRight]
  rfl

/-- The field just written reads as the value modulo its width. -/
theorem bitsOf_putBits_same (w : Word) (lo n v : Nat) (h : lo + n ≤ 32) : bitsOf (putBits w lo n v) lo n = v % 2 ^ n := by
  apply Nat.eq_of_testBit_eq
  intro i
  rw [testBit_bitsOf, Nat.testBit_mod_two_pow]
  by_cases hi : i < n
  · rw [getLsbD_putBits _ _ _ _ _ (by omega)]
    have : lo ≤ lo + i ∧ lo + i < lo + n := by omega
    simp [hi]
  · simp [hi]

/-- A field apart from the one written reads as before. -/
theorem bitsOf_putBits_apart (w : Word) (lo n v lo' n' : Nat) (h : lo' + n' ≤ lo ∨ lo + n ≤ lo') (h' : lo' + n' ≤ 32) :
    bitsOf (putBits w lo n v) lo' n' = bitsOf w lo' n' := by
  apply Nat.eq_of_testBit_eq
  intro i
  rw [testBit_bitsOf, testBit_bitsOf]
  by_cases hi : i < n'
  · rw [getLsbD_putBits _ _ _ _ _ (by omega)]
    have : ¬ (lo ≤ lo' + i ∧ lo' + i < lo + n) := by omega
    simp [hi, this]
  · simp [hi]

theorem getLsbD_putBit (w : Word) (i j : Nat) (b : Bool) (hj : j < 32) :
    (putBit w i b).getLsbD j = if j = i then b else w.getLsbD j := by
  rw [putBit, getLsbD_putBits _ _ _ _ _ hj]
  by_cases h : j = i
  · subst h
    have : j ≤ j ∧ j < j + 1 := by omega
    cases b <;> simp
  · rw [if_neg (by omega), if_neg h]

/-- The bit just written. -/
@[simp] theorem getLsbD_putBit_same (w : Word) (i : Nat) (b : Bool) (hi : i < 32) : (putBit w i b).getLsbD i = b := by
  simp [getLsbD_putBit _ _ _ _ hi]

/-- A field apart from the bit written reads as before. -/
theorem bitsOf_putBit_apart (w : Word) (i : Nat) (b : Bool) (lo n : Nat) (h : lo + n ≤ i ∨ i < lo) (h' : lo + n ≤ 32) :
    bitsOf (putBit w i b) lo n = bitsOf w lo n := bitsOf_putBits_apart _ _ _ _ _ _ (by omega) h'

/-- A bit apart from the field written reads as before. -/
theorem getLsbD_putBits_apart (w : Word) (lo n v i : Nat) (h : i < lo ∨ lo + n ≤ i) (hi : i < 32) :
    (putBits w lo n v).getLsbD i = w.getLsbD i := by
  rw [getLsbD_putBits _ _ _ _ _ hi]
  have : ¬ (lo ≤ i ∧ i < lo + n) := by omega
  simp [this]

end Sys2Proof.Machine
end

