-- ==== Sys2Proof/Laws/Dome.lean ====
section
/-!
SUPPORT. The Dome's memory: every operation keeps the canonical form, a read after a write, and what a write leaves alone.
-/

namespace Sys2Proof.Machine

/-- Every listed address lies above `a`. -/
theorem Memory.wf_head {a : Nat} {b : Byte} {t : List Host.Cell} (w : Memory.wf ((a, b) :: t) = true) :
    a < domeSize ∧ Memory.wf t = true := by
  simp only [Memory.wf, Bool.and_eq_true, decide_eq_true_eq] at w
  exact ⟨w.1.1, w.2⟩

theorem Memory.wf_put (l : List Host.Cell) (a : Nat) (b : Byte) (ha : a < domeSize) (w : Memory.wf l = true) :
    Memory.wf (SMap.put l a b) = true := by
  induction l with
  | nil => simp [SMap.put, Memory.wf, ha]
  | cons p t ih =>
    obtain ⟨j, x⟩ := p
    have hj := Memory.wf_head w
    simp only [SMap.put]
    by_cases h1 : a = j
    · subst h1; simpa [Memory.wf] using w
    · by_cases h2 : a < j
      · simp only [h1, if_false, h2, if_true]
        simp only [Memory.wf, Bool.and_eq_true, decide_eq_true_eq]
        exact ⟨⟨ha, h2⟩, by simpa [Memory.wf] using w⟩
      · simp only [h1, if_false, h2]
        have ht := ih hj.2
        have hlt : j < a := by omega
        cases t with
        | nil => simp [SMap.put, Memory.wf, hj.1, ha, hlt]
        | cons q u =>
          obtain ⟨k, y⟩ := q
          have hjk : j < k := by
            simp only [Memory.wf, Bool.and_eq_true, decide_eq_true_eq] at w
            exact w.1.2
          simp only [SMap.put] at ht ⊢
          by_cases h3 : a = k
          · simp only [h3, if_true] at ht ⊢
            simp only [Memory.wf, Bool.and_eq_true, decide_eq_true_eq] at ht ⊢
            exact ⟨⟨hj.1, by omega⟩, ht⟩
          · by_cases h4 : a < k
            · simp only [h3, if_false, h4, if_true] at ht ⊢
              simp only [Memory.wf, Bool.and_eq_true, decide_eq_true_eq] at ht ⊢
              exact ⟨⟨hj.1, hlt⟩, ht⟩
            · simp only [h3, if_false, h4] at ht ⊢
              simp only [Memory.wf, Bool.and_eq_true, decide_eq_true_eq] at ht ⊢
              exact ⟨⟨hj.1, hjk⟩, ht⟩

theorem Memory.wf_filter (l : List Host.Cell) (lo : Nat) (w : Memory.wf l = true) :
    Memory.wf (l.filter fun c => c.1 < lo) = true ∧
      ∀ a, (∀ c ∈ l, a < c.1) → ∀ c ∈ l.filter (fun c => c.1 < lo), a < c.1 := by
  refine ⟨?_, fun a h c hc => h c (List.mem_filter.mp hc).1⟩
  induction l with
  | nil => rfl
  | cons p t ih =>
    obtain ⟨j, x⟩ := p
    have hj := Memory.wf_head w
    have ht := ih hj.2
    by_cases h : j < lo
    · simp only [List.filter_cons, h, decide_true, if_true]
      have all : ∀ (u : List Host.Cell) (i : Nat) (z : Byte), Memory.wf ((i, z) :: u) = true → ∀ c ∈ u, i < c.1 := by
        intro u
        induction u with
        | nil => intro _ _ _ c hc; cases hc
        | cons q v ihv =>
          obtain ⟨k, y⟩ := q
          intro i z hw c hc
          simp only [Memory.wf, Bool.and_eq_true, decide_eq_true_eq] at hw
          rcases List.mem_cons.mp hc with rfl | hc
          · exact hw.1.2
          · have := ihv k y (by simpa [Memory.wf] using hw.2) c hc
            omega
      cases hf : t.filter fun c => decide (c.1 < lo) with
      | nil => simp [Memory.wf, hj.1]
      | cons q u =>
        obtain ⟨k, y⟩ := q
        have hk : (k, y) ∈ t := by
          have : (k, y) ∈ t.filter fun c => decide (c.1 < lo) := by rw [hf]; exact List.mem_cons_self
          exact (List.mem_filter.mp this).1
        have hjk := all t j x w (k, y) hk
        rw [hf] at ht
        simp only [Memory.wf, Bool.and_eq_true, decide_eq_true_eq] at ht ⊢
        exact ⟨⟨hj.1, hjk⟩, ht⟩
    · simpa [List.filter_cons, h] using ht

theorem Hub.domeByteWrite_wf (h : Hub) (a : Nat) (b : Byte) (w : Memory.wf h.dome = true) :
    Memory.wf (h.domeByteWrite a b).dome = true := by
  unfold Hub.domeByteWrite
  split
  · exact Memory.wf_put h.dome a b (by assumption) w
  · exact w

theorem Hub.domeBytes_wf (l : List Byte) : ∀ (h : Hub) (a : Nat), Memory.wf h.dome = true →
    Memory.wf (h.domeBytes a l).dome = true := by
  induction l with
  | nil => intro h a w; exact w
  | cons b t ih => intro h a w; exact ih _ _ (h.domeByteWrite_wf a b w)

theorem Hub.domeWrite_wf (h : Hub) (a n v : Nat) (w : Memory.wf h.dome = true) :
    Memory.wf (h.domeWrite a n v).dome = true := Hub.domeBytes_wf _ _ _ w

theorem Hub.domeUndefine_wf (h : Hub) (lo : Nat) (w : Memory.wf h.dome = true) :
    Memory.wf (h.domeUndefine lo).dome = true := (Memory.wf_filter h.dome lo w).1

theorem Hub.domeByte_domeByteWrite (h : Hub) (a a' : Nat) (b : Byte) :
    (h.domeByteWrite a b).domeByte a' = if a < domeSize ∧ a' = a then b else h.domeByte a' := by
  unfold Hub.domeByteWrite Hub.domeByte
  by_cases hs : a < domeSize
  · simp only [hs, if_true, SMap.find_put]
    by_cases e : a' = a <;> simp [e]
  · simp [hs]

/-- A write of bytes leaves every byte outside them alone. -/
theorem Hub.domeByte_domeBytes_other (l : List Byte) : ∀ (h : Hub) (a a' : Nat), a' < a ∨ a + l.length ≤ a' →
    (h.domeBytes a l).domeByte a' = h.domeByte a' := by
  induction l with
  | nil => intro h a a' _; rfl
  | cons b t ih =>
    intro h a a' hx
    simp only [List.length_cons] at hx
    have : ¬ a' = a := by omega
    unfold Hub.domeBytes
    rw [ih _ _ _ (by omega), Hub.domeByte_domeByteWrite]
    simp [this]

/-- Byte `i` of what was written reads back. -/
theorem Hub.domeByte_domeBytes (l : List Byte) : ∀ (h : Hub) (a i : Nat) (_ : a + l.length ≤ domeSize) (hi : i < l.length),
    (h.domeBytes a l).domeByte (a + i) = l[i] := by
  induction l with
  | nil => intro h a i _ hi; exact absurd hi (Nat.not_lt_zero i)
  | cons b t ih =>
    intro h a i hs hi
    simp only [List.length_cons] at hs hi
    unfold Hub.domeBytes
    cases i with
    | zero =>
      rw [Hub.domeByte_domeBytes_other _ _ _ _ (by omega), Hub.domeByte_domeByteWrite]
      have : a < domeSize := by omega
      simp [this]
    | succ k =>
      have := ih (h.domeByteWrite a b) (a + 1) k (by omega) (by omega)
      simpa [Nat.add_assoc, Nat.add_comm 1 k] using this

end Sys2Proof.Machine
end

