-- ==== Sys2Proof/Laws/State.lean ====
section
/-!
SUPPORT. What each update of the machine and of the hub leaves of each field, true by rfl.
-/

namespace Sys2Proof.Machine

/-! ### The machine -/

theorem State.onHub_next (s : State) (f : Nat → Hub → Hub) :
    s.onHub f = .next { s with hub := if s.hub.sys.powered then f s.raw.toNat s.hub else s.hub } := rfl

theorem State.onHub_powered (s : State) (f : Nat → Hub → Hub) (h : s.hub.sys.powered = true) :
    s.onHub f = .next { s with hub := f s.raw.toNat s.hub } := by simp [State.onHub, h]

theorem State.onHubRaw_next (s : State) (z : Hub → Bool) (f : Nat → Hub → Hub) :
    s.onHubRaw z f = .next { s with raw := if s.hub.sys.powered && z s.hub then 0#80 else s.raw,
                                    hub := if s.hub.sys.powered then f s.raw.toNat s.hub else s.hub } := rfl

theorem State.onPower_next (s : State) (p : Hub → Bool) (f : Hub → Hub) :
    s.onPower p f = .next { s with raw := if p s.hub then 0#80 else s.raw, hub := if p s.hub then f s.hub else s.hub } := rfl

theorem step_empty (s : State) (h : s.pending = []) : step s = .next s.tick := by simp [step, h]

theorem step_cons (s : State) (c : Instr) (rest : List Instr) (h : s.pending = c :: rest) :
    step s = exec c { s with pending := rest } := by simp [step, h]

@[simp] theorem State.tick_pending (s : State) : s.tick.pending = s.pending := rfl
@[simp] theorem State.tick_raw (s : State) :
    s.tick.raw = if s.hub.sys.pllLocked then s.raw + rawTick else s.raw := rfl
@[simp] theorem State.tick_hub (s : State) : s.tick.hub = s.hub.tickTo s.tick.raw.toNat := rfl

/-! ### The hub's tables and registers -/

@[simp] theorem Hub.wr_regs (h : Hub) (a : Nat) (v : Word) : (h.wr a v).regs = SMap.put h.regs a v := rfl
@[simp] theorem Hub.wr_act (h : Hub) (a : Nat) (v : Word) : (h.wr a v).act = h.act := rfl
@[simp] theorem Hub.wr_dome (h : Hub) (a : Nat) (v : Word) : (h.wr a v).dome = h.dome := rfl
@[simp] theorem Hub.wr_domeEpoch (h : Hub) (a : Nat) (v : Word) : (h.wr a v).domeEpoch = h.domeEpoch := rfl
@[simp] theorem Hub.wr_badParity (h : Hub) (a : Nat) (v : Word) : (h.wr a v).badParity = h.badParity := rfl
@[simp] theorem Hub.wr_free (h : Hub) (a : Nat) (v : Word) : (h.wr a v).free = h.free := rfl
@[simp] theorem Hub.wr_ctl (h : Hub) (a : Nat) (v : Word) : (h.wr a v).ctl = h.ctl := rfl
@[simp] theorem Hub.wr_lan (h : Hub) (a : Nat) (v : Word) : (h.wr a v).lan = h.lan := rfl
@[simp] theorem Hub.wr_spires (h : Hub) (a : Nat) (v : Word) : (h.wr a v).spires = h.spires := rfl
@[simp] theorem Hub.wr_chans (h : Hub) (a : Nat) (v : Word) : (h.wr a v).chans = h.chans := rfl
@[simp] theorem Hub.wr_filts (h : Hub) (a : Nat) (v : Word) : (h.wr a v).filts = h.filts := rfl
@[simp] theorem Hub.wr_stageIn (h : Hub) (a : Nat) (v : Word) : (h.wr a v).stageIn = h.stageIn := rfl
@[simp] theorem Hub.wr_ctxs (h : Hub) (a : Nat) (v : Word) : (h.wr a v).ctxs = h.ctxs := rfl
@[simp] theorem Hub.wr_led (h : Hub) (a : Nat) (v : Word) : (h.wr a v).led = h.led := rfl
@[simp] theorem Hub.wr_queues (h : Hub) (a : Nat) (v : Word) : (h.wr a v).queues = h.queues := rfl
@[simp] theorem Hub.wr_streams (h : Hub) (a : Nat) (v : Word) : (h.wr a v).streams = h.streams := rfl
@[simp] theorem Hub.wr_sys (h : Hub) (a : Nat) (v : Word) : (h.wr a v).sys = h.sys := rfl
@[simp] theorem Hub.wr_pins (h : Hub) (a : Nat) (v : Word) : (h.wr a v).pins = h.pins := rfl
@[simp] theorem Hub.wr_cape (h : Hub) (a : Nat) (v : Word) : (h.wr a v).cape = h.cape := rfl
@[simp] theorem Hub.wr_sel (h : Hub) (a : Nat) (v : Word) : (h.wr a v).sel = h.sel := rfl
@[simp] theorem Hub.wr_lanes (h : Hub) (a : Nat) (v : Word) : (h.wr a v).lanes = h.lanes := rfl
@[simp] theorem Hub.wr_gate (h : Hub) (a : Nat) (v : Word) : (h.wr a v).gate = h.gate := rfl
@[simp] theorem Hub.wr_ptp (h : Hub) (a : Nat) (v : Word) : (h.wr a v).ptp = h.ptp := rfl
@[simp] theorem Hub.wr_sag (h : Hub) (a : Nat) (v : Word) : (h.wr a v).sag = h.sag := rfl
@[simp] theorem Hub.wr_tpStep (h : Hub) (a : Nat) (v : Word) : (h.wr a v).tpStep = h.tpStep := rfl
@[simp] theorem Hub.wr_tpOffAt (h : Hub) (a : Nat) (v : Word) : (h.wr a v).tpOffAt = h.tpOffAt := rfl
@[simp] theorem Hub.wr_starveAt (h : Hub) (a : Nat) (v : Word) : (h.wr a v).starveAt = h.starveAt := rfl

@[simp] theorem Hub.setActive_regs (h : Hub) (a : Nat) (v : Word) : (h.setActive a v).regs = h.regs := rfl
@[simp] theorem Hub.setActive_act (h : Hub) (a : Nat) (v : Word) : (h.setActive a v).act = SMap.put h.act a v := rfl
@[simp] theorem Hub.setActive_dome (h : Hub) (a : Nat) (v : Word) : (h.setActive a v).dome = h.dome := rfl
@[simp] theorem Hub.setActive_domeEpoch (h : Hub) (a : Nat) (v : Word) : (h.setActive a v).domeEpoch = h.domeEpoch := rfl
@[simp] theorem Hub.setActive_badParity (h : Hub) (a : Nat) (v : Word) : (h.setActive a v).badParity = h.badParity := rfl
@[simp] theorem Hub.setActive_free (h : Hub) (a : Nat) (v : Word) : (h.setActive a v).free = h.free := rfl
@[simp] theorem Hub.setActive_ctl (h : Hub) (a : Nat) (v : Word) : (h.setActive a v).ctl = h.ctl := rfl
@[simp] theorem Hub.setActive_lan (h : Hub) (a : Nat) (v : Word) : (h.setActive a v).lan = h.lan := rfl
@[simp] theorem Hub.setActive_spires (h : Hub) (a : Nat) (v : Word) : (h.setActive a v).spires = h.spires := rfl
@[simp] theorem Hub.setActive_chans (h : Hub) (a : Nat) (v : Word) : (h.setActive a v).chans = h.chans := rfl
@[simp] theorem Hub.setActive_filts (h : Hub) (a : Nat) (v : Word) : (h.setActive a v).filts = h.filts := rfl
@[simp] theorem Hub.setActive_stageIn (h : Hub) (a : Nat) (v : Word) : (h.setActive a v).stageIn = h.stageIn := rfl
@[simp] theorem Hub.setActive_ctxs (h : Hub) (a : Nat) (v : Word) : (h.setActive a v).ctxs = h.ctxs := rfl
@[simp] theorem Hub.setActive_led (h : Hub) (a : Nat) (v : Word) : (h.setActive a v).led = h.led := rfl
@[simp] theorem Hub.setActive_queues (h : Hub) (a : Nat) (v : Word) : (h.setActive a v).queues = h.queues := rfl
@[simp] theorem Hub.setActive_streams (h : Hub) (a : Nat) (v : Word) : (h.setActive a v).streams = h.streams := rfl
@[simp] theorem Hub.setActive_sys (h : Hub) (a : Nat) (v : Word) : (h.setActive a v).sys = h.sys := rfl
@[simp] theorem Hub.setActive_pins (h : Hub) (a : Nat) (v : Word) : (h.setActive a v).pins = h.pins := rfl
@[simp] theorem Hub.setActive_cape (h : Hub) (a : Nat) (v : Word) : (h.setActive a v).cape = h.cape := rfl
@[simp] theorem Hub.setActive_sel (h : Hub) (a : Nat) (v : Word) : (h.setActive a v).sel = h.sel := rfl
@[simp] theorem Hub.setActive_lanes (h : Hub) (a : Nat) (v : Word) : (h.setActive a v).lanes = h.lanes := rfl
@[simp] theorem Hub.setActive_gate (h : Hub) (a : Nat) (v : Word) : (h.setActive a v).gate = h.gate := rfl
@[simp] theorem Hub.setActive_ptp (h : Hub) (a : Nat) (v : Word) : (h.setActive a v).ptp = h.ptp := rfl
@[simp] theorem Hub.setActive_sag (h : Hub) (a : Nat) (v : Word) : (h.setActive a v).sag = h.sag := rfl
@[simp] theorem Hub.setActive_tpStep (h : Hub) (a : Nat) (v : Word) : (h.setActive a v).tpStep = h.tpStep := rfl
@[simp] theorem Hub.setActive_tpOffAt (h : Hub) (a : Nat) (v : Word) : (h.setActive a v).tpOffAt = h.tpOffAt := rfl
@[simp] theorem Hub.setActive_starveAt (h : Hub) (a : Nat) (v : Word) : (h.setActive a v).starveAt = h.starveAt := rfl

@[simp] theorem Hub.setSpire_regs (h : Hub) (n : Nat) (x : Spire) : (h.setSpire n x).regs = h.regs := rfl
@[simp] theorem Hub.setSpire_act (h : Hub) (n : Nat) (x : Spire) : (h.setSpire n x).act = h.act := rfl
@[simp] theorem Hub.setSpire_dome (h : Hub) (n : Nat) (x : Spire) : (h.setSpire n x).dome = h.dome := rfl
@[simp] theorem Hub.setSpire_domeEpoch (h : Hub) (n : Nat) (x : Spire) : (h.setSpire n x).domeEpoch = h.domeEpoch := rfl
@[simp] theorem Hub.setSpire_badParity (h : Hub) (n : Nat) (x : Spire) : (h.setSpire n x).badParity = h.badParity := rfl
@[simp] theorem Hub.setSpire_free (h : Hub) (n : Nat) (x : Spire) : (h.setSpire n x).free = h.free := rfl
@[simp] theorem Hub.setSpire_ctl (h : Hub) (n : Nat) (x : Spire) : (h.setSpire n x).ctl = h.ctl := rfl
@[simp] theorem Hub.setSpire_lan (h : Hub) (n : Nat) (x : Spire) : (h.setSpire n x).lan = h.lan := rfl
@[simp] theorem Hub.setSpire_spires (h : Hub) (n : Nat) (x : Spire) : (h.setSpire n x).spires = SMap.put h.spires n x := rfl
@[simp] theorem Hub.setSpire_chans (h : Hub) (n : Nat) (x : Spire) : (h.setSpire n x).chans = h.chans := rfl
@[simp] theorem Hub.setSpire_filts (h : Hub) (n : Nat) (x : Spire) : (h.setSpire n x).filts = h.filts := rfl
@[simp] theorem Hub.setSpire_stageIn (h : Hub) (n : Nat) (x : Spire) : (h.setSpire n x).stageIn = h.stageIn := rfl
@[simp] theorem Hub.setSpire_ctxs (h : Hub) (n : Nat) (x : Spire) : (h.setSpire n x).ctxs = h.ctxs := rfl
@[simp] theorem Hub.setSpire_led (h : Hub) (n : Nat) (x : Spire) : (h.setSpire n x).led = h.led := rfl
@[simp] theorem Hub.setSpire_queues (h : Hub) (n : Nat) (x : Spire) : (h.setSpire n x).queues = h.queues := rfl
@[simp] theorem Hub.setSpire_streams (h : Hub) (n : Nat) (x : Spire) : (h.setSpire n x).streams = h.streams := rfl
@[simp] theorem Hub.setSpire_sys (h : Hub) (n : Nat) (x : Spire) : (h.setSpire n x).sys = h.sys := rfl
@[simp] theorem Hub.setSpire_pins (h : Hub) (n : Nat) (x : Spire) : (h.setSpire n x).pins = h.pins := rfl
@[simp] theorem Hub.setSpire_cape (h : Hub) (n : Nat) (x : Spire) : (h.setSpire n x).cape = h.cape := rfl
@[simp] theorem Hub.setSpire_sel (h : Hub) (n : Nat) (x : Spire) : (h.setSpire n x).sel = h.sel := rfl
@[simp] theorem Hub.setSpire_lanes (h : Hub) (n : Nat) (x : Spire) : (h.setSpire n x).lanes = h.lanes := rfl
@[simp] theorem Hub.setSpire_gate (h : Hub) (n : Nat) (x : Spire) : (h.setSpire n x).gate = h.gate := rfl
@[simp] theorem Hub.setSpire_ptp (h : Hub) (n : Nat) (x : Spire) : (h.setSpire n x).ptp = h.ptp := rfl
@[simp] theorem Hub.setSpire_sag (h : Hub) (n : Nat) (x : Spire) : (h.setSpire n x).sag = h.sag := rfl
@[simp] theorem Hub.setSpire_tpStep (h : Hub) (n : Nat) (x : Spire) : (h.setSpire n x).tpStep = h.tpStep := rfl
@[simp] theorem Hub.setSpire_tpOffAt (h : Hub) (n : Nat) (x : Spire) : (h.setSpire n x).tpOffAt = h.tpOffAt := rfl
@[simp] theorem Hub.setSpire_starveAt (h : Hub) (n : Nat) (x : Spire) : (h.setSpire n x).starveAt = h.starveAt := rfl

@[simp] theorem Hub.setFilt_regs (h : Hub) (n : Nat) (x : Filt) : (h.setFilt n x).regs = h.regs := rfl
@[simp] theorem Hub.setFilt_act (h : Hub) (n : Nat) (x : Filt) : (h.setFilt n x).act = h.act := rfl
@[simp] theorem Hub.setFilt_dome (h : Hub) (n : Nat) (x : Filt) : (h.setFilt n x).dome = h.dome := rfl
@[simp] theorem Hub.setFilt_domeEpoch (h : Hub) (n : Nat) (x : Filt) : (h.setFilt n x).domeEpoch = h.domeEpoch := rfl
@[simp] theorem Hub.setFilt_badParity (h : Hub) (n : Nat) (x : Filt) : (h.setFilt n x).badParity = h.badParity := rfl
@[simp] theorem Hub.setFilt_free (h : Hub) (n : Nat) (x : Filt) : (h.setFilt n x).free = h.free := rfl
@[simp] theorem Hub.setFilt_ctl (h : Hub) (n : Nat) (x : Filt) : (h.setFilt n x).ctl = h.ctl := rfl
@[simp] theorem Hub.setFilt_lan (h : Hub) (n : Nat) (x : Filt) : (h.setFilt n x).lan = h.lan := rfl
@[simp] theorem Hub.setFilt_spires (h : Hub) (n : Nat) (x : Filt) : (h.setFilt n x).spires = h.spires := rfl
@[simp] theorem Hub.setFilt_chans (h : Hub) (n : Nat) (x : Filt) : (h.setFilt n x).chans = h.chans := rfl
@[simp] theorem Hub.setFilt_filts (h : Hub) (n : Nat) (x : Filt) : (h.setFilt n x).filts = SMap.put h.filts n x := rfl
@[simp] theorem Hub.setFilt_stageIn (h : Hub) (n : Nat) (x : Filt) : (h.setFilt n x).stageIn = h.stageIn := rfl
@[simp] theorem Hub.setFilt_ctxs (h : Hub) (n : Nat) (x : Filt) : (h.setFilt n x).ctxs = h.ctxs := rfl
@[simp] theorem Hub.setFilt_led (h : Hub) (n : Nat) (x : Filt) : (h.setFilt n x).led = h.led := rfl
@[simp] theorem Hub.setFilt_queues (h : Hub) (n : Nat) (x : Filt) : (h.setFilt n x).queues = h.queues := rfl
@[simp] theorem Hub.setFilt_streams (h : Hub) (n : Nat) (x : Filt) : (h.setFilt n x).streams = h.streams := rfl
@[simp] theorem Hub.setFilt_sys (h : Hub) (n : Nat) (x : Filt) : (h.setFilt n x).sys = h.sys := rfl
@[simp] theorem Hub.setFilt_pins (h : Hub) (n : Nat) (x : Filt) : (h.setFilt n x).pins = h.pins := rfl
@[simp] theorem Hub.setFilt_cape (h : Hub) (n : Nat) (x : Filt) : (h.setFilt n x).cape = h.cape := rfl
@[simp] theorem Hub.setFilt_sel (h : Hub) (n : Nat) (x : Filt) : (h.setFilt n x).sel = h.sel := rfl
@[simp] theorem Hub.setFilt_lanes (h : Hub) (n : Nat) (x : Filt) : (h.setFilt n x).lanes = h.lanes := rfl
@[simp] theorem Hub.setFilt_gate (h : Hub) (n : Nat) (x : Filt) : (h.setFilt n x).gate = h.gate := rfl
@[simp] theorem Hub.setFilt_ptp (h : Hub) (n : Nat) (x : Filt) : (h.setFilt n x).ptp = h.ptp := rfl
@[simp] theorem Hub.setFilt_sag (h : Hub) (n : Nat) (x : Filt) : (h.setFilt n x).sag = h.sag := rfl
@[simp] theorem Hub.setFilt_tpStep (h : Hub) (n : Nat) (x : Filt) : (h.setFilt n x).tpStep = h.tpStep := rfl
@[simp] theorem Hub.setFilt_tpOffAt (h : Hub) (n : Nat) (x : Filt) : (h.setFilt n x).tpOffAt = h.tpOffAt := rfl
@[simp] theorem Hub.setFilt_starveAt (h : Hub) (n : Nat) (x : Filt) : (h.setFilt n x).starveAt = h.starveAt := rfl

@[simp] theorem Hub.setChan_regs (h : Hub) (g : Nat) (x : Chan) : (h.setChan g x).regs = h.regs := rfl
@[simp] theorem Hub.setChan_act (h : Hub) (g : Nat) (x : Chan) : (h.setChan g x).act = h.act := rfl
@[simp] theorem Hub.setChan_dome (h : Hub) (g : Nat) (x : Chan) : (h.setChan g x).dome = h.dome := rfl
@[simp] theorem Hub.setChan_domeEpoch (h : Hub) (g : Nat) (x : Chan) : (h.setChan g x).domeEpoch = h.domeEpoch := rfl
@[simp] theorem Hub.setChan_badParity (h : Hub) (g : Nat) (x : Chan) : (h.setChan g x).badParity = h.badParity := rfl
@[simp] theorem Hub.setChan_free (h : Hub) (g : Nat) (x : Chan) : (h.setChan g x).free = h.free := rfl
@[simp] theorem Hub.setChan_ctl (h : Hub) (g : Nat) (x : Chan) : (h.setChan g x).ctl = h.ctl := rfl
@[simp] theorem Hub.setChan_lan (h : Hub) (g : Nat) (x : Chan) : (h.setChan g x).lan = h.lan := rfl
@[simp] theorem Hub.setChan_spires (h : Hub) (g : Nat) (x : Chan) : (h.setChan g x).spires = h.spires := rfl
@[simp] theorem Hub.setChan_chans (h : Hub) (g : Nat) (x : Chan) : (h.setChan g x).chans = SMap.put h.chans g x := rfl
@[simp] theorem Hub.setChan_filts (h : Hub) (g : Nat) (x : Chan) : (h.setChan g x).filts = h.filts := rfl
@[simp] theorem Hub.setChan_stageIn (h : Hub) (g : Nat) (x : Chan) : (h.setChan g x).stageIn = h.stageIn := rfl
@[simp] theorem Hub.setChan_ctxs (h : Hub) (g : Nat) (x : Chan) : (h.setChan g x).ctxs = h.ctxs := rfl
@[simp] theorem Hub.setChan_led (h : Hub) (g : Nat) (x : Chan) : (h.setChan g x).led = h.led := rfl
@[simp] theorem Hub.setChan_queues (h : Hub) (g : Nat) (x : Chan) : (h.setChan g x).queues = h.queues := rfl
@[simp] theorem Hub.setChan_streams (h : Hub) (g : Nat) (x : Chan) : (h.setChan g x).streams = h.streams := rfl
@[simp] theorem Hub.setChan_sys (h : Hub) (g : Nat) (x : Chan) : (h.setChan g x).sys = h.sys := rfl
@[simp] theorem Hub.setChan_pins (h : Hub) (g : Nat) (x : Chan) : (h.setChan g x).pins = h.pins := rfl
@[simp] theorem Hub.setChan_cape (h : Hub) (g : Nat) (x : Chan) : (h.setChan g x).cape = h.cape := rfl
@[simp] theorem Hub.setChan_sel (h : Hub) (g : Nat) (x : Chan) : (h.setChan g x).sel = h.sel := rfl
@[simp] theorem Hub.setChan_lanes (h : Hub) (g : Nat) (x : Chan) : (h.setChan g x).lanes = h.lanes := rfl
@[simp] theorem Hub.setChan_gate (h : Hub) (g : Nat) (x : Chan) : (h.setChan g x).gate = h.gate := rfl
@[simp] theorem Hub.setChan_ptp (h : Hub) (g : Nat) (x : Chan) : (h.setChan g x).ptp = h.ptp := rfl
@[simp] theorem Hub.setChan_sag (h : Hub) (g : Nat) (x : Chan) : (h.setChan g x).sag = h.sag := rfl
@[simp] theorem Hub.setChan_tpStep (h : Hub) (g : Nat) (x : Chan) : (h.setChan g x).tpStep = h.tpStep := rfl
@[simp] theorem Hub.setChan_tpOffAt (h : Hub) (g : Nat) (x : Chan) : (h.setChan g x).tpOffAt = h.tpOffAt := rfl
@[simp] theorem Hub.setChan_starveAt (h : Hub) (g : Nat) (x : Chan) : (h.setChan g x).starveAt = h.starveAt := rfl

@[simp] theorem Hub.setCtx_regs (h : Hub) (c : Nat) (x : Ctx) : (h.setCtx c x).regs = h.regs := rfl
@[simp] theorem Hub.setCtx_act (h : Hub) (c : Nat) (x : Ctx) : (h.setCtx c x).act = h.act := rfl
@[simp] theorem Hub.setCtx_dome (h : Hub) (c : Nat) (x : Ctx) : (h.setCtx c x).dome = h.dome := rfl
@[simp] theorem Hub.setCtx_domeEpoch (h : Hub) (c : Nat) (x : Ctx) : (h.setCtx c x).domeEpoch = h.domeEpoch := rfl
@[simp] theorem Hub.setCtx_badParity (h : Hub) (c : Nat) (x : Ctx) : (h.setCtx c x).badParity = h.badParity := rfl
@[simp] theorem Hub.setCtx_free (h : Hub) (c : Nat) (x : Ctx) : (h.setCtx c x).free = h.free := rfl
@[simp] theorem Hub.setCtx_ctl (h : Hub) (c : Nat) (x : Ctx) : (h.setCtx c x).ctl = h.ctl := rfl
@[simp] theorem Hub.setCtx_lan (h : Hub) (c : Nat) (x : Ctx) : (h.setCtx c x).lan = h.lan := rfl
@[simp] theorem Hub.setCtx_spires (h : Hub) (c : Nat) (x : Ctx) : (h.setCtx c x).spires = h.spires := rfl
@[simp] theorem Hub.setCtx_chans (h : Hub) (c : Nat) (x : Ctx) : (h.setCtx c x).chans = h.chans := rfl
@[simp] theorem Hub.setCtx_filts (h : Hub) (c : Nat) (x : Ctx) : (h.setCtx c x).filts = h.filts := rfl
@[simp] theorem Hub.setCtx_stageIn (h : Hub) (c : Nat) (x : Ctx) : (h.setCtx c x).stageIn = h.stageIn := rfl
@[simp] theorem Hub.setCtx_ctxs (h : Hub) (c : Nat) (x : Ctx) : (h.setCtx c x).ctxs = SMap.put h.ctxs c x := rfl
@[simp] theorem Hub.setCtx_led (h : Hub) (c : Nat) (x : Ctx) : (h.setCtx c x).led = h.led := rfl
@[simp] theorem Hub.setCtx_queues (h : Hub) (c : Nat) (x : Ctx) : (h.setCtx c x).queues = h.queues := rfl
@[simp] theorem Hub.setCtx_streams (h : Hub) (c : Nat) (x : Ctx) : (h.setCtx c x).streams = h.streams := rfl
@[simp] theorem Hub.setCtx_sys (h : Hub) (c : Nat) (x : Ctx) : (h.setCtx c x).sys = h.sys := rfl
@[simp] theorem Hub.setCtx_pins (h : Hub) (c : Nat) (x : Ctx) : (h.setCtx c x).pins = h.pins := rfl
@[simp] theorem Hub.setCtx_cape (h : Hub) (c : Nat) (x : Ctx) : (h.setCtx c x).cape = h.cape := rfl
@[simp] theorem Hub.setCtx_sel (h : Hub) (c : Nat) (x : Ctx) : (h.setCtx c x).sel = h.sel := rfl
@[simp] theorem Hub.setCtx_lanes (h : Hub) (c : Nat) (x : Ctx) : (h.setCtx c x).lanes = h.lanes := rfl
@[simp] theorem Hub.setCtx_gate (h : Hub) (c : Nat) (x : Ctx) : (h.setCtx c x).gate = h.gate := rfl
@[simp] theorem Hub.setCtx_ptp (h : Hub) (c : Nat) (x : Ctx) : (h.setCtx c x).ptp = h.ptp := rfl
@[simp] theorem Hub.setCtx_sag (h : Hub) (c : Nat) (x : Ctx) : (h.setCtx c x).sag = h.sag := rfl
@[simp] theorem Hub.setCtx_tpStep (h : Hub) (c : Nat) (x : Ctx) : (h.setCtx c x).tpStep = h.tpStep := rfl
@[simp] theorem Hub.setCtx_tpOffAt (h : Hub) (c : Nat) (x : Ctx) : (h.setCtx c x).tpOffAt = h.tpOffAt := rfl
@[simp] theorem Hub.setCtx_starveAt (h : Hub) (c : Nat) (x : Ctx) : (h.setCtx c x).starveAt = h.starveAt := rfl

@[simp] theorem Hub.setQueue_regs (h : Hub) (q : Nat) (x : Queue) : (h.setQueue q x).regs = h.regs := rfl
@[simp] theorem Hub.setQueue_act (h : Hub) (q : Nat) (x : Queue) : (h.setQueue q x).act = h.act := rfl
@[simp] theorem Hub.setQueue_dome (h : Hub) (q : Nat) (x : Queue) : (h.setQueue q x).dome = h.dome := rfl
@[simp] theorem Hub.setQueue_domeEpoch (h : Hub) (q : Nat) (x : Queue) : (h.setQueue q x).domeEpoch = h.domeEpoch := rfl
@[simp] theorem Hub.setQueue_badParity (h : Hub) (q : Nat) (x : Queue) : (h.setQueue q x).badParity = h.badParity := rfl
@[simp] theorem Hub.setQueue_free (h : Hub) (q : Nat) (x : Queue) : (h.setQueue q x).free = h.free := rfl
@[simp] theorem Hub.setQueue_ctl (h : Hub) (q : Nat) (x : Queue) : (h.setQueue q x).ctl = h.ctl := rfl
@[simp] theorem Hub.setQueue_lan (h : Hub) (q : Nat) (x : Queue) : (h.setQueue q x).lan = h.lan := rfl
@[simp] theorem Hub.setQueue_spires (h : Hub) (q : Nat) (x : Queue) : (h.setQueue q x).spires = h.spires := rfl
@[simp] theorem Hub.setQueue_chans (h : Hub) (q : Nat) (x : Queue) : (h.setQueue q x).chans = h.chans := rfl
@[simp] theorem Hub.setQueue_filts (h : Hub) (q : Nat) (x : Queue) : (h.setQueue q x).filts = h.filts := rfl
@[simp] theorem Hub.setQueue_stageIn (h : Hub) (q : Nat) (x : Queue) : (h.setQueue q x).stageIn = h.stageIn := rfl
@[simp] theorem Hub.setQueue_ctxs (h : Hub) (q : Nat) (x : Queue) : (h.setQueue q x).ctxs = h.ctxs := rfl
@[simp] theorem Hub.setQueue_led (h : Hub) (q : Nat) (x : Queue) : (h.setQueue q x).led = h.led := rfl
@[simp] theorem Hub.setQueue_queues (h : Hub) (q : Nat) (x : Queue) : (h.setQueue q x).queues = SMap.put h.queues q x := rfl
@[simp] theorem Hub.setQueue_streams (h : Hub) (q : Nat) (x : Queue) : (h.setQueue q x).streams = h.streams := rfl
@[simp] theorem Hub.setQueue_sys (h : Hub) (q : Nat) (x : Queue) : (h.setQueue q x).sys = h.sys := rfl
@[simp] theorem Hub.setQueue_pins (h : Hub) (q : Nat) (x : Queue) : (h.setQueue q x).pins = h.pins := rfl
@[simp] theorem Hub.setQueue_cape (h : Hub) (q : Nat) (x : Queue) : (h.setQueue q x).cape = h.cape := rfl
@[simp] theorem Hub.setQueue_sel (h : Hub) (q : Nat) (x : Queue) : (h.setQueue q x).sel = h.sel := rfl
@[simp] theorem Hub.setQueue_lanes (h : Hub) (q : Nat) (x : Queue) : (h.setQueue q x).lanes = h.lanes := rfl
@[simp] theorem Hub.setQueue_gate (h : Hub) (q : Nat) (x : Queue) : (h.setQueue q x).gate = h.gate := rfl
@[simp] theorem Hub.setQueue_ptp (h : Hub) (q : Nat) (x : Queue) : (h.setQueue q x).ptp = h.ptp := rfl
@[simp] theorem Hub.setQueue_sag (h : Hub) (q : Nat) (x : Queue) : (h.setQueue q x).sag = h.sag := rfl
@[simp] theorem Hub.setQueue_tpStep (h : Hub) (q : Nat) (x : Queue) : (h.setQueue q x).tpStep = h.tpStep := rfl
@[simp] theorem Hub.setQueue_tpOffAt (h : Hub) (q : Nat) (x : Queue) : (h.setQueue q x).tpOffAt = h.tpOffAt := rfl
@[simp] theorem Hub.setQueue_starveAt (h : Hub) (q : Nat) (x : Queue) : (h.setQueue q x).starveAt = h.starveAt := rfl

@[simp] theorem Hub.setStream_regs (h : Hub) (k : Nat) (x : Stream) : (h.setStream k x).regs = h.regs := rfl
@[simp] theorem Hub.setStream_act (h : Hub) (k : Nat) (x : Stream) : (h.setStream k x).act = h.act := rfl
@[simp] theorem Hub.setStream_dome (h : Hub) (k : Nat) (x : Stream) : (h.setStream k x).dome = h.dome := rfl
@[simp] theorem Hub.setStream_domeEpoch (h : Hub) (k : Nat) (x : Stream) : (h.setStream k x).domeEpoch = h.domeEpoch := rfl
@[simp] theorem Hub.setStream_badParity (h : Hub) (k : Nat) (x : Stream) : (h.setStream k x).badParity = h.badParity := rfl
@[simp] theorem Hub.setStream_free (h : Hub) (k : Nat) (x : Stream) : (h.setStream k x).free = h.free := rfl
@[simp] theorem Hub.setStream_ctl (h : Hub) (k : Nat) (x : Stream) : (h.setStream k x).ctl = h.ctl := rfl
@[simp] theorem Hub.setStream_lan (h : Hub) (k : Nat) (x : Stream) : (h.setStream k x).lan = h.lan := rfl
@[simp] theorem Hub.setStream_spires (h : Hub) (k : Nat) (x : Stream) : (h.setStream k x).spires = h.spires := rfl
@[simp] theorem Hub.setStream_chans (h : Hub) (k : Nat) (x : Stream) : (h.setStream k x).chans = h.chans := rfl
@[simp] theorem Hub.setStream_filts (h : Hub) (k : Nat) (x : Stream) : (h.setStream k x).filts = h.filts := rfl
@[simp] theorem Hub.setStream_stageIn (h : Hub) (k : Nat) (x : Stream) : (h.setStream k x).stageIn = h.stageIn := rfl
@[simp] theorem Hub.setStream_ctxs (h : Hub) (k : Nat) (x : Stream) : (h.setStream k x).ctxs = h.ctxs := rfl
@[simp] theorem Hub.setStream_led (h : Hub) (k : Nat) (x : Stream) : (h.setStream k x).led = h.led := rfl
@[simp] theorem Hub.setStream_queues (h : Hub) (k : Nat) (x : Stream) : (h.setStream k x).queues = h.queues := rfl
@[simp] theorem Hub.setStream_streams (h : Hub) (k : Nat) (x : Stream) : (h.setStream k x).streams = SMap.put h.streams k x := rfl
@[simp] theorem Hub.setStream_sys (h : Hub) (k : Nat) (x : Stream) : (h.setStream k x).sys = h.sys := rfl
@[simp] theorem Hub.setStream_pins (h : Hub) (k : Nat) (x : Stream) : (h.setStream k x).pins = h.pins := rfl
@[simp] theorem Hub.setStream_cape (h : Hub) (k : Nat) (x : Stream) : (h.setStream k x).cape = h.cape := rfl
@[simp] theorem Hub.setStream_sel (h : Hub) (k : Nat) (x : Stream) : (h.setStream k x).sel = h.sel := rfl
@[simp] theorem Hub.setStream_lanes (h : Hub) (k : Nat) (x : Stream) : (h.setStream k x).lanes = h.lanes := rfl
@[simp] theorem Hub.setStream_gate (h : Hub) (k : Nat) (x : Stream) : (h.setStream k x).gate = h.gate := rfl
@[simp] theorem Hub.setStream_ptp (h : Hub) (k : Nat) (x : Stream) : (h.setStream k x).ptp = h.ptp := rfl
@[simp] theorem Hub.setStream_sag (h : Hub) (k : Nat) (x : Stream) : (h.setStream k x).sag = h.sag := rfl
@[simp] theorem Hub.setStream_tpStep (h : Hub) (k : Nat) (x : Stream) : (h.setStream k x).tpStep = h.tpStep := rfl
@[simp] theorem Hub.setStream_tpOffAt (h : Hub) (k : Nat) (x : Stream) : (h.setStream k x).tpOffAt = h.tpOffAt := rfl
@[simp] theorem Hub.setStream_starveAt (h : Hub) (k : Nat) (x : Stream) : (h.setStream k x).starveAt = h.starveAt := rfl

@[simp] theorem Hub.setUnit_regs (h : Hub) (u : Nat) (x : CapUnit) : (h.setUnit u x).regs = h.regs := rfl
@[simp] theorem Hub.setUnit_act (h : Hub) (u : Nat) (x : CapUnit) : (h.setUnit u x).act = h.act := rfl
@[simp] theorem Hub.setUnit_dome (h : Hub) (u : Nat) (x : CapUnit) : (h.setUnit u x).dome = h.dome := rfl
@[simp] theorem Hub.setUnit_domeEpoch (h : Hub) (u : Nat) (x : CapUnit) : (h.setUnit u x).domeEpoch = h.domeEpoch := rfl
@[simp] theorem Hub.setUnit_badParity (h : Hub) (u : Nat) (x : CapUnit) : (h.setUnit u x).badParity = h.badParity := rfl
@[simp] theorem Hub.setUnit_free (h : Hub) (u : Nat) (x : CapUnit) : (h.setUnit u x).free = h.free := rfl
@[simp] theorem Hub.setUnit_ctl (h : Hub) (u : Nat) (x : CapUnit) : (h.setUnit u x).ctl = h.ctl := rfl
@[simp] theorem Hub.setUnit_lan (h : Hub) (u : Nat) (x : CapUnit) : (h.setUnit u x).lan = h.lan := rfl
@[simp] theorem Hub.setUnit_spires (h : Hub) (u : Nat) (x : CapUnit) : (h.setUnit u x).spires = h.spires := rfl
@[simp] theorem Hub.setUnit_chans (h : Hub) (u : Nat) (x : CapUnit) : (h.setUnit u x).chans = h.chans := rfl
@[simp] theorem Hub.setUnit_filts (h : Hub) (u : Nat) (x : CapUnit) : (h.setUnit u x).filts = h.filts := rfl
@[simp] theorem Hub.setUnit_stageIn (h : Hub) (u : Nat) (x : CapUnit) : (h.setUnit u x).stageIn = h.stageIn := rfl
@[simp] theorem Hub.setUnit_ctxs (h : Hub) (u : Nat) (x : CapUnit) : (h.setUnit u x).ctxs = h.ctxs := rfl
@[simp] theorem Hub.setUnit_led (h : Hub) (u : Nat) (x : CapUnit) : (h.setUnit u x).led = h.led := rfl
@[simp] theorem Hub.setUnit_queues (h : Hub) (u : Nat) (x : CapUnit) : (h.setUnit u x).queues = h.queues := rfl
@[simp] theorem Hub.setUnit_streams (h : Hub) (u : Nat) (x : CapUnit) : (h.setUnit u x).streams = h.streams := rfl
@[simp] theorem Hub.setUnit_sys (h : Hub) (u : Nat) (x : CapUnit) : (h.setUnit u x).sys = h.sys := rfl
@[simp] theorem Hub.setUnit_pins (h : Hub) (u : Nat) (x : CapUnit) : (h.setUnit u x).pins = h.pins := rfl
@[simp] theorem Hub.setUnit_cape (h : Hub) (u : Nat) (x : CapUnit) : (h.setUnit u x).cape = { h.cape with units := SMap.put h.cape.units u x } := rfl
@[simp] theorem Hub.setUnit_sel (h : Hub) (u : Nat) (x : CapUnit) : (h.setUnit u x).sel = h.sel := rfl
@[simp] theorem Hub.setUnit_lanes (h : Hub) (u : Nat) (x : CapUnit) : (h.setUnit u x).lanes = h.lanes := rfl
@[simp] theorem Hub.setUnit_gate (h : Hub) (u : Nat) (x : CapUnit) : (h.setUnit u x).gate = h.gate := rfl
@[simp] theorem Hub.setUnit_ptp (h : Hub) (u : Nat) (x : CapUnit) : (h.setUnit u x).ptp = h.ptp := rfl
@[simp] theorem Hub.setUnit_sag (h : Hub) (u : Nat) (x : CapUnit) : (h.setUnit u x).sag = h.sag := rfl
@[simp] theorem Hub.setUnit_tpStep (h : Hub) (u : Nat) (x : CapUnit) : (h.setUnit u x).tpStep = h.tpStep := rfl
@[simp] theorem Hub.setUnit_tpOffAt (h : Hub) (u : Nat) (x : CapUnit) : (h.setUnit u x).tpOffAt = h.tpOffAt := rfl
@[simp] theorem Hub.setUnit_starveAt (h : Hub) (u : Nat) (x : CapUnit) : (h.setUnit u x).starveAt = h.starveAt := rfl

@[simp] theorem Hub.setLane_regs (h : Hub) (l : Nat) (x : Lane) : (h.setLane l x).regs = h.regs := rfl
@[simp] theorem Hub.setLane_act (h : Hub) (l : Nat) (x : Lane) : (h.setLane l x).act = h.act := rfl
@[simp] theorem Hub.setLane_dome (h : Hub) (l : Nat) (x : Lane) : (h.setLane l x).dome = h.dome := rfl
@[simp] theorem Hub.setLane_domeEpoch (h : Hub) (l : Nat) (x : Lane) : (h.setLane l x).domeEpoch = h.domeEpoch := rfl
@[simp] theorem Hub.setLane_badParity (h : Hub) (l : Nat) (x : Lane) : (h.setLane l x).badParity = h.badParity := rfl
@[simp] theorem Hub.setLane_free (h : Hub) (l : Nat) (x : Lane) : (h.setLane l x).free = h.free := rfl
@[simp] theorem Hub.setLane_ctl (h : Hub) (l : Nat) (x : Lane) : (h.setLane l x).ctl = h.ctl := rfl
@[simp] theorem Hub.setLane_lan (h : Hub) (l : Nat) (x : Lane) : (h.setLane l x).lan = h.lan := rfl
@[simp] theorem Hub.setLane_spires (h : Hub) (l : Nat) (x : Lane) : (h.setLane l x).spires = h.spires := rfl
@[simp] theorem Hub.setLane_chans (h : Hub) (l : Nat) (x : Lane) : (h.setLane l x).chans = h.chans := rfl
@[simp] theorem Hub.setLane_filts (h : Hub) (l : Nat) (x : Lane) : (h.setLane l x).filts = h.filts := rfl
@[simp] theorem Hub.setLane_stageIn (h : Hub) (l : Nat) (x : Lane) : (h.setLane l x).stageIn = h.stageIn := rfl
@[simp] theorem Hub.setLane_ctxs (h : Hub) (l : Nat) (x : Lane) : (h.setLane l x).ctxs = h.ctxs := rfl
@[simp] theorem Hub.setLane_led (h : Hub) (l : Nat) (x : Lane) : (h.setLane l x).led = h.led := rfl
@[simp] theorem Hub.setLane_queues (h : Hub) (l : Nat) (x : Lane) : (h.setLane l x).queues = h.queues := rfl
@[simp] theorem Hub.setLane_streams (h : Hub) (l : Nat) (x : Lane) : (h.setLane l x).streams = h.streams := rfl
@[simp] theorem Hub.setLane_sys (h : Hub) (l : Nat) (x : Lane) : (h.setLane l x).sys = h.sys := rfl
@[simp] theorem Hub.setLane_pins (h : Hub) (l : Nat) (x : Lane) : (h.setLane l x).pins = h.pins := rfl
@[simp] theorem Hub.setLane_cape (h : Hub) (l : Nat) (x : Lane) : (h.setLane l x).cape = h.cape := rfl
@[simp] theorem Hub.setLane_sel (h : Hub) (l : Nat) (x : Lane) : (h.setLane l x).sel = h.sel := rfl
@[simp] theorem Hub.setLane_lanes (h : Hub) (l : Nat) (x : Lane) : (h.setLane l x).lanes = SMap.put h.lanes l x := rfl
@[simp] theorem Hub.setLane_gate (h : Hub) (l : Nat) (x : Lane) : (h.setLane l x).gate = h.gate := rfl
@[simp] theorem Hub.setLane_ptp (h : Hub) (l : Nat) (x : Lane) : (h.setLane l x).ptp = h.ptp := rfl
@[simp] theorem Hub.setLane_sag (h : Hub) (l : Nat) (x : Lane) : (h.setLane l x).sag = h.sag := rfl
@[simp] theorem Hub.setLane_tpStep (h : Hub) (l : Nat) (x : Lane) : (h.setLane l x).tpStep = h.tpStep := rfl
@[simp] theorem Hub.setLane_tpOffAt (h : Hub) (l : Nat) (x : Lane) : (h.setLane l x).tpOffAt = h.tpOffAt := rfl
@[simp] theorem Hub.setLane_starveAt (h : Hub) (l : Nat) (x : Lane) : (h.setLane l x).starveAt = h.starveAt := rfl

/-! ### Reading what was written -/

theorem Hub.rd_wr (h : Hub) (a b : Nat) (v : Word) : (h.wr a v).rd b = if b = a then v else h.rd b := by
  unfold Hub.rd
  rw [Hub.wr_regs, SMap.find_put]
  by_cases e : b = a <;> simp [e]

@[simp] theorem Hub.rd_wr_same (h : Hub) (a : Nat) (v : Word) : (h.wr a v).rd a = v := by simp [Hub.rd_wr]

theorem Hub.rd_wr_other (h : Hub) (a b : Nat) (v : Word) (e : b ≠ a) : (h.wr a v).rd b = h.rd b := by simp [Hub.rd_wr, e]

@[simp] theorem Hub.active_wr (h : Hub) (a b : Nat) (v : Word) : (h.wr a v).active b = h.active b := rfl

theorem Hub.active_setActive (h : Hub) (a b : Nat) (v : Word) :
    (h.setActive a v).active b = if b = a then v else h.active b := by
  unfold Hub.active
  rw [Hub.setActive_act, SMap.find_put]
  by_cases e : b = a <;> simp [e]

@[simp] theorem Hub.rd_setActive (h : Hub) (a : Nat) (v : Word) (b : Nat) : (h.setActive a v).rd b = h.rd b := rfl
@[simp] theorem Hub.rd_setSpire (h : Hub) (n : Nat) (x : Spire) (b : Nat) : (h.setSpire n x).rd b = h.rd b := rfl
@[simp] theorem Hub.rd_setFilt (h : Hub) (n : Nat) (x : Filt) (b : Nat) : (h.setFilt n x).rd b = h.rd b := rfl
@[simp] theorem Hub.rd_setChan (h : Hub) (g : Nat) (x : Chan) (b : Nat) : (h.setChan g x).rd b = h.rd b := rfl
@[simp] theorem Hub.rd_setCtx (h : Hub) (c : Nat) (x : Ctx) (b : Nat) : (h.setCtx c x).rd b = h.rd b := rfl
@[simp] theorem Hub.rd_setQueue (h : Hub) (q : Nat) (x : Queue) (b : Nat) : (h.setQueue q x).rd b = h.rd b := rfl
@[simp] theorem Hub.rd_setStream (h : Hub) (k : Nat) (x : Stream) (b : Nat) : (h.setStream k x).rd b = h.rd b := rfl
@[simp] theorem Hub.rd_setUnit (h : Hub) (u : Nat) (x : CapUnit) (b : Nat) : (h.setUnit u x).rd b = h.rd b := rfl
@[simp] theorem Hub.rd_setLane (h : Hub) (l : Nat) (x : Lane) (b : Nat) : (h.setLane l x).rd b = h.rd b := rfl

theorem Hub.spire_setSpire (h : Hub) (k j : Nat) (x : Spire) :
    (h.setSpire k x).spire j = if j = k then x else h.spire j := by
  simp [Hub.spire, Hub.setSpire, SMap.get_put]

theorem Hub.filt_setFilt (h : Hub) (k j : Nat) (x : Filt) :
    (h.setFilt k x).filt j = if j = k then x else h.filt j := by
  simp [Hub.filt, Hub.setFilt, SMap.get_put]

theorem Hub.chan_setChan (h : Hub) (k j : Nat) (x : Chan) :
    (h.setChan k x).chan j = if j = k then x else h.chan j := by
  simp [Hub.chan, Hub.setChan, SMap.get_put]

theorem Hub.ctx_setCtx (h : Hub) (k j : Nat) (x : Ctx) :
    (h.setCtx k x).ctx j = if j = k then x else h.ctx j := by
  simp [Hub.ctx, Hub.setCtx, SMap.get_put]

theorem Hub.queue_setQueue (h : Hub) (k j : Nat) (x : Queue) :
    (h.setQueue k x).queue j = if j = k then x else h.queue j := by
  simp [Hub.queue, Hub.setQueue, SMap.get_put]

theorem Hub.stream_setStream (h : Hub) (k j : Nat) (x : Stream) :
    (h.setStream k x).stream j = if j = k then x else h.stream j := by
  simp [Hub.stream, Hub.setStream, SMap.get_put]

theorem Hub.lane_setLane (h : Hub) (k j : Nat) (x : Lane) :
    (h.setLane k x).lane j = if j = k then x else h.lane j := by
  simp [Hub.lane, Hub.setLane, SMap.get_put]

theorem Hub.unit_setUnit (h : Hub) (k j : Nat) (x : CapUnit) :
    (h.setUnit k x).unit j = if j = k then x else h.unit j := by
  simp [Hub.unit, Hub.setUnit, SMap.get_put]

end Sys2Proof.Machine
end

