-- ==== Sys2Proof/Laws/Report.lean ====
section
/-!
SUPPORT. Everything the error log can do when it takes a report (R391): it counts the class, and touches nothing but its
own registers, its entries and its queue.
-/

namespace Sys2Proof.Machine

open Sys2Proof.Safety

theorem putBits_zero_all (w : Word) (v : Nat) : putBits w 0 32 v = BitVec.ofNat 32 v := by
  apply BitVec.eq_of_getLsbD_eq
  intro i hi
  rw [getLsbD_putBits _ _ _ _ _ hi, if_pos ⟨Nat.zero_le i, by omega⟩, BitVec.getLsbD_ofNat, Nat.sub_zero, decide_eq_true hi,
    Bool.true_and]

/-- A 32-bit counter counts modulo 2^32. -/
theorem Hub.rd_incWrap_word (h : Hub) (a k : Nat) : (h.incWrap a 0 32 k).rd a = h.rd a + BitVec.ofNat 32 k := by
  simp only [Hub.incWrap, Hub.setFld, Hub.rd_wr_same, putBits_zero_all, Hub.fld]
  apply BitVec.eq_of_toNat_eq
  have := (h.rd a).isLt
  simp [bitsOf, Nat.mod_eq_of_lt this]

theorem Hub.rd_setFld (h : Hub) (a lo n v b : Nat) :
    (h.setFld a lo n v).rd b = if b = a then putBits (h.rd a) lo n v else h.rd b := by
  simp [Hub.setFld, Hub.rd_wr]

theorem Hub.rd_setBit (h : Hub) (a i b : Nat) (v : Bool) :
    (h.setBit a i v).rd b = if b = a then putBit (h.rd a) i v else h.rd b := by
  simp [Hub.setBit, Hub.rd_wr]

theorem Hub.rd_incWrap_other (h : Hub) (a lo n k b : Nat) (e : b ≠ a) : (h.incWrap a lo n k).rd b = h.rd b := by
  simp [Hub.incWrap, Hub.rd_setFld, e]

theorem Hub.rd_incSat_other (h : Hub) (a lo n k b : Nat) (e : b ≠ a) : (h.incSat a lo n k).rd b = h.rd b := by
  simp [Hub.incSat, Hub.rd_setFld, e]

theorem Hub.rd_wrInst_other (h : Hub) (a t b : Nat) (e : b < a ∨ a + 8 < b) : (h.wrInst a t).rd b = h.rd b := by
  have e1 : b ≠ a := by omega
  have e2 : b ≠ a + 4 := by omega
  have e3 : b ≠ a + 8 := by omega
  simp [Hub.wrInst, Hub.wr3, Hub.rd_wr, e1, e2, e3]

/-- Two hubs that differ at most in registers of the error log and in the log itself. -/
def sameButLog (h h' : Hub) : Prop :=
  (∀ a, inLog a = false → h'.rd a = h.rd a) ∧ h' = { h with regs := h'.regs, ctl.elog := h'.ctl.elog }

theorem sameButLog.refl (h : Hub) : sameButLog h h := ⟨fun _ _ => rfl, rfl⟩

theorem sameButLog.trans {h h' h'' : Hub} (p : sameButLog h h') (q : sameButLog h' h'') : sameButLog h h'' := by
  refine ⟨fun a ha => (q.1 a ha).trans (p.1 a ha), ?_⟩
  rw [q.2, p.2]

theorem sameButLog.wr (h : Hub) (a : Nat) (v : Word) (ha : inLog a = true) : sameButLog h (h.wr a v) := by
  refine ⟨fun b hb => ?_, rfl⟩
  have : b ≠ a := fun e => by rw [e, ha] at hb; cases hb
  simp [Hub.rd_wr, this]

theorem sameButLog.elog (h : Hub) (l : ErrorLog) : sameButLog h { h with ctl.elog := l } := ⟨fun _ _ => rfl, rfl⟩

theorem inLog_of (a : Nat) (h1 : 0x40002000 ≤ a) (h2 : a < 0x40003000) : inLog a = true := by
  simp [inLog, h1, h2]

theorem Hub.logCount_same (h : Hub) (t cls code master : Nat) (detail : Word) (hc : cls < 32) :
    sameButLog h (h.logCount t cls code master detail) := by
  have h1 : sameButLog h (h.incWrap (Addr.ELOG_CLASS_CNT cls) 0 32 1) :=
    sameButLog.wr _ _ _ (inLog_of _ (by simp [Addr.ELOG_CLASS_CNT]; omega) (by simp [Addr.ELOG_CLASS_CNT]; omega))
  unfold Hub.logCount
  dsimp only
  split
  · exact h1
  · refine h1.trans ?_
    simp only [Hub.wrInst, Hub.wr3]
    exact ((((sameButLog.wr _ _ _ (by decide)).trans (sameButLog.wr _ _ _ (by decide))).trans
      (sameButLog.wr _ _ _ (by decide))).trans (sameButLog.wr _ _ _ (by decide))).trans (sameButLog.wr _ _ _ (by decide))

theorem Hub.logCount_class (h : Hub) (t cls code master : Nat) (detail : Word) (hc : cls < 32) :
    (h.logCount t cls code master detail).rd (Addr.ELOG_CLASS_CNT cls) = h.rd (Addr.ELOG_CLASS_CNT cls) + 1#32 := by
  have e : ∀ k : Nat, k < 32 → Addr.ELOG_CLASS_CNT k ≠ Addr.FIRST_ERR ∧ Addr.ELOG_CLASS_CNT k ≠ Addr.FIRST_DETAIL ∧
      Addr.FIRST_TIME 0 + 8 < Addr.ELOG_CLASS_CNT k := by
    intro k _; simp only [Addr.ELOG_CLASS_CNT, Addr.FIRST_ERR, Addr.FIRST_DETAIL, Addr.FIRST_TIME]; omega
  obtain ⟨e1, e2, e3⟩ := e cls hc
  unfold Hub.logCount
  dsimp only
  split
  · exact Hub.rd_incWrap_word _ _ _
  · rw [Hub.rd_wrInst_other _ _ _ _ (Or.inr e3), Hub.rd_wr_other _ _ _ _ e2, Hub.rd_wr_other _ _ _ _ e1]
    exact Hub.rd_incWrap_word _ _ _

/-- Filing a counted report: taken, merged or queued, or lost. -/
theorem Hub.logFile_cases (h : Hub) (e : LogEntry) :
    (∃ l : ErrorLog, h.logFile e = { h with ctl.elog := l }) ∨
    h.logFile e = (h.incSat (Addr.ELOG_OVF_CNT e.cls) 0 16 1).setBit Addr.ELOG_LOST e.cls true := by
  unfold Hub.logFile
  dsimp only
  split
  · exact .inl ⟨_, rfl⟩
  · split
    · exact .inl ⟨_, rfl⟩
    · split
      · exact .inl ⟨_, rfl⟩
      · split
        · exact .inl ⟨_, rfl⟩
        · exact .inr rfl

/-- A report changes nothing but the error log (R391). -/
theorem Hub.reportAt_same (h : Hub) (t cls code master : Nat) (detail : Word) (hc : cls < 32) :
    sameButLog h (h.reportAt t cls code master detail) := by
  have h1 := h.logCount_same t cls code master detail hc
  unfold Hub.reportAt
  rcases Hub.logFile_cases (h.logCount t cls code master detail) _ with ⟨l, e⟩ | e
  · rw [e]; exact h1.trans (sameButLog.elog _ _)
  · rw [e]
    refine h1.trans (.trans (sameButLog.wr _ _ _ (inLog_of _ ?_ ?_)) (sameButLog.wr _ _ _ (by decide))) <;>
      (simp only [Addr.ELOG_OVF_CNT]; omega)

/-- A report counts its class (R391). -/
theorem Hub.reportAt_class (h : Hub) (t cls code master : Nat) (detail : Word) (hc : cls < 32) :
    (h.reportAt t cls code master detail).rd (Addr.ELOG_CLASS_CNT cls) = h.rd (Addr.ELOG_CLASS_CNT cls) + 1#32 := by
  have h1 := h.logCount_class t cls code master detail hc
  unfold Hub.reportAt
  rcases Hub.logFile_cases (h.logCount t cls code master detail) _ with ⟨l, e⟩ | e
  · rw [e]; exact h1
  · have e1 : Addr.ELOG_CLASS_CNT cls ≠ Addr.ELOG_LOST := by simp only [Addr.ELOG_CLASS_CNT, Addr.ELOG_LOST]; omega
    have e2 : Addr.ELOG_CLASS_CNT cls ≠ Addr.ELOG_OVF_CNT cls := by
      simp only [Addr.ELOG_CLASS_CNT, Addr.ELOG_OVF_CNT]; omega
    rw [e, Hub.rd_setBit, if_neg e1, Hub.rd_incSat_other _ _ _ _ _ _ e2]
    exact h1

theorem Hub.report_same (h : Hub) (r cls code master : Nat) (detail : Word) (hc : cls < 32) :
    sameButLog h (h.report r cls code master detail) := Hub.reportAt_same _ _ _ _ _ _ hc

theorem Hub.report_class (h : Hub) (r cls code master : Nat) (detail : Word) (hc : cls < 32) :
    (h.report r cls code master detail).rd (Addr.ELOG_CLASS_CNT cls) = h.rd (Addr.ELOG_CLASS_CNT cls) + 1#32 :=
  Hub.reportAt_class _ _ _ _ _ _ hc

/-- A register outside the error log reads through a report. -/
theorem Hub.rd_report (h : Hub) (r cls code master : Nat) (detail : Word) (a : Nat) (hc : cls < 32)
    (ha : inLog a = false) : (h.report r cls code master detail).rd a = h.rd a :=
  (h.report_same r cls code master detail hc).1 a ha

theorem Hub.deny_same (h : Hub) (r m a st : Nat) : sameButLog h (h.deny r m a st) := Hub.report_same _ _ _ _ _ _ (by decide)

theorem Hub.refuse_same (h : Hub) (r m a st : Nat) : sameButLog h (h.refuse r m a st) :=
  Hub.report_same _ _ _ _ _ _ (by decide)

end Sys2Proof.Machine
end

