-- ==== Sys2Proof/Laws/Ops.lean ====
section
/-!
SUPPORT. What the shared operations can do, said once: loops over tables, drawing free values, the issue of an
instruction, a command of Belfry, a master's write, event records, mailboxes and locks, waiting modes, resets and the boot ROM.
-/

namespace Sys2Proof.Machine

/-! ### Loops -/

/-- What every step of a loop over a list keeps, the loop keeps. -/
theorem forIn'_keeps {α β : Type} (P : α → Prop) (f : β → α → α) (hf : ∀ b a, P a → P (f b a)) :
    ∀ (l : List β) (a : α), P a → P (forIn' l f a)
  | [], _, h => h
  | b :: l, a, h => forIn'_keeps P f hf l (f b a) (hf b a h)

/-- What every step of a loop over indices keeps, the loop keeps. -/
theorem forN_keeps {α : Type} (P : α → Prop) (n : Nat) (f : Nat → α → α) (hf : ∀ i a, P a → P (f i a)) (a : α) (h : P a) :
    P (forN n f a) := forIn'_keeps P f hf (List.range n) a h

/-- A projection that no step of a loop changes is the same after it. -/
theorem forN_same {α γ : Type} (g : α → γ) (n : Nat) (f : Nat → α → α) (hf : ∀ i a, g (f i a) = g a) (a : α) :
    g (forN n f a) = g a :=
  forN_keeps (fun b => g b = g a) n f (fun i b h => (hf i b).trans h) a rfl

theorem forIn'_same {α β γ : Type} (g : α → γ) (f : β → α → α) (hf : ∀ b a, g (f b a) = g a) (l : List β) (a : α) :
    g (forIn' l f a) = g a :=
  forIn'_keeps (fun b => g b = g a) f (fun i b h => (hf i b).trans h) l a rfl

/-! ### Free values -/

/-- A draw changes nothing but the counter of free values. -/
theorem Hub.drawWord_snd (h : Hub) : h.drawWord.2 = { h with free := h.free + 1 } := rfl

theorem Hub.drawInt_snd (h : Hub) (lo hi : Int) : (h.drawInt lo hi).2 = { h with free := h.free + 1 } := rfl

/-- A drawn integer lies in its range. -/
theorem Hub.drawInt_range (h : Hub) (lo hi : Int) (e : lo ≤ hi) : lo ≤ (h.drawInt lo hi).1 ∧ (h.drawInt lo hi).1 ≤ hi := by
  simp only [Hub.drawInt]; omega

/-- A quotient without a stated rounding is within one of the exact quotient. -/
theorem Hub.drawQuotient_near (h : Hub) (num : Int) (den : Nat) :
    num / (den : Int) ≤ (h.drawQuotient num den).1 ∧ (h.drawQuotient num den).1 ≤ num / (den : Int) + 1 := by
  unfold Hub.drawQuotient
  split
  · exact ⟨Int.le_refl _, by omega⟩
  · exact Hub.drawInt_range h _ _ (by omega)

/-- A quotient touches at most the counter of free values. -/
theorem Hub.drawQuotient_snd (h : Hub) (num : Int) (den : Nat) :
    (h.drawQuotient num den).2 = h ∨ (h.drawQuotient num den).2 = { h with free := h.free + 1 } := by
  unfold Hub.drawQuotient
  split
  · exact .inl rfl
  · exact .inr rfl

/-! ### Issue (R211, R215, R222) -/

/-- Everything the issue of an instruction can do. -/
theorem Hub.issue_cases (h : Hub) (r c k : Nat) (u : Uses) (f : Hub → Fx) :
    (h.canIssue c = false ∧ h.issue r c k u f = h) ∨
    (h.canIssue c = true ∧ h.codeCount c ≤ h.pc c ∧ h.issue r c k u f = h.ctxFault r c ERANGE (h.pc c) true) ∨
    (h.canIssue c = true ∧ h.pc c < h.codeCount c ∧ h.fld (Addr.CTX_BUDGET (c / 64) (c % 64)) 0 24 < (h.ctx c).slots + k ∧
      h.issue r c k u f = h.ctxFault r c EBUDGET (h.pc c) true) ∨
    (h.canIssue c = true ∧ h.pc c < h.codeCount c ∧ (h.ctx c).slots + k ≤ h.fld (Addr.CTX_BUDGET (c / 64) (c % 64)) 0 24 ∧
      h.stalls c u = true ∧ h.issue r c k u f = h.modCtx c fun x => { x with stalled := true }) ∨
    (h.canIssue c = true ∧ h.pc c < h.codeCount c ∧ (h.ctx c).slots + k ≤ h.fld (Addr.CTX_BUDGET (c / 64) (c % 64)) 0 24 ∧
      h.stalls c u = false ∧ h.issue r c k u f = (f (h.countIssue c k)).done r c (h.pc c)) := by
  cases e1 : h.canIssue c with
  | false => exact .inl ⟨rfl, by simp [Hub.issue, e1]⟩
  | true =>
    right
    by_cases e2 : h.codeCount c ≤ h.pc c
    · exact .inl ⟨rfl, e2, by simp [Hub.issue, e1, e2]⟩
    right
    by_cases e3 : h.fld (Addr.CTX_BUDGET (c / 64) (c % 64)) 0 24 < (h.ctx c).slots + k
    · exact .inl ⟨rfl, by omega, e3, by simp [Hub.issue, e1, e2, e3]⟩
    right
    cases e4 : h.stalls c u with
    | true => exact .inl ⟨rfl, by omega, by omega, rfl, by simp [Hub.issue, e1, e2, e3, e4]⟩
    | false => exact .inr ⟨rfl, by omega, by omega, rfl, by simp [Hub.issue, e1, e2, e3, e4]⟩

/-- An instruction that does not fault ends at its jump or at the next word. -/
theorem Fx.done_ok (x : Fx) (r c pc : Nat) (e : x.fault = none) : x.done r c pc = x.hub.setPc c (x.jump.getD (pc + 1)) := by
  simp [Fx.done, e]

/-! ### Commands (R385, R414) -/

/-- Everything a command row can do with the word of its channel. -/
theorem command_cases (r ch op : Nat) (legal : Hub → Nat → Bool) (f : Nat → Hub → Reply) (h : Hub) :
    command r ch op legal f h = h ∨
    ∃ h0 : Hub, h0 = h.commandTake ch ∧
      (command r ch op legal f h = (h0.setInflight ch false).report r 6 EBOUND 15 (h.rd (Addr.MB_PEEK ch)) ∨
       command r ch op legal f h = h0.respond r ch EUNKNOWN 0 ∨
       command r ch op legal f h = h0.rejectState r ch ∨
       (∃ st res h', f (bitsOf (h.rd (Addr.MB_PEEK ch)) 0 16) h0 = .now st res h' ∧
          command r ch op legal f h = h'.respond r ch st res) ∨
       (∃ h', f (bitsOf (h.rd (Addr.MB_PEEK ch)) 0 16) h0 = .later h' ∧ command r ch op legal f h = h')) := by
  simp only [command]
  split
  · exact .inl rfl
  · right
    refine ⟨_, rfl, ?_⟩
    split
    · exact .inl rfl
    · split
      · exact .inr (.inl rfl)
      · split
        · exact .inr (.inr (.inl rfl))
        · split
          · rename_i st res h' e
            split
            · exact .inr (.inr (.inl rfl))
            · exact .inr (.inr (.inr (.inl ⟨st, res, h', e, rfl⟩)))
          · rename_i h' e
            exact .inr (.inr (.inr (.inr ⟨h', e, rfl⟩)))

/-! ### A master's write (R11, R36, R37) -/

/-- A write that is not performed is logged, and nothing else changes but the master's own result. -/
theorem Hub.busWrite_denied (h : Hub) (r m a size : Nat) (v : Word) (cfg : List SetupWrite)
    (e : h.accessOk m true a size = false) : h.busWrite r m a size v cfg = (h.deny r m a).setOk m false := by
  simp [Hub.busWrite, e]

/-- A performed write of the Dome stores its bytes. -/
theorem Hub.busWrite_dome (h : Hub) (r m a size : Nat) (v : Word) (cfg : List SetupWrite)
    (e : h.accessOk m true a size = true) (d : a < domeSize) :
    h.busWrite r m a size v cfg = (h.domeWrite a size v.toNat).setOk m true := by
  have : a ≠ Addr.SYS_MGMT_CFG := by simp only [domeSize, Addr.SYS_MGMT_CFG] at *; omega
  simp [Hub.busWrite, e, d, this]

/-- A performed write of a register is that register's own. -/
theorem Hub.busWrite_register (h : Hub) (r m a size : Nat) (v : Word) (cfg : List SetupWrite)
    (e : h.accessOk m true a size = true) (d : domeSize ≤ a) (u : ¬ (m = uplink ∧ a = Addr.SYS_MGMT_CFG)) :
    h.busWrite r m a size v cfg = (h.registerWrite r m a v cfg).setOk m true := by
  have : ¬ a < domeSize := by omega
  have hu : (decide (m = uplink) && decide (a = Addr.SYS_MGMT_CFG)) = false := by
    cases hx : (decide (m = uplink) && decide (a = Addr.SYS_MGMT_CFG)) with
    | false => rfl
    | true => exact absurd (by simpa using hx) u
  simp [Hub.busWrite, e, this, hu]

/-- A write the hub refuses by state or value touches nothing but the error log. -/
theorem Hub.restrictedStore_refused (h : Hub) (r m a : Nat) (v : Word) (e : h.mode ≠ .service)
    (e' : h.planLoaded = true ∨ (h.mode ≠ .boot ∧ h.mode ≠ .idle)) : h.restrictedStore r m a v = h.refuse r m a ESTATE := by
  rcases e' with e' | ⟨e1, e2⟩
  · simp [Hub.restrictedStore, e, e']
  · simp [Hub.restrictedStore, e, e1, e2]

/-! ### Event records, mailboxes and locks (R299, R377, R387) -/

/-- An event record is one element on its way to the Ledger, or one count of the dropped ones. -/
theorem Hub.eventRecord_cases (h : Hub) (ty time : Nat) (body : List Word) :
    h.eventRecord ty time body = h.incSat Addr.LED_EVT_DROP_CNT 0 16 1 ∨
    ∃ e : LedElem, e.kind = .event ∧ e.inst = time ∧ h.eventRecord ty time body = { h with led.inQ := h.led.inQ ++ [e] } := by
  simp only [Hub.eventRecord]
  split
  · exact .inl rfl
  · exact .inr ⟨_, rfl, rfl, rfl⟩

/-- An event record leaves every register but the count of dropped ones, and the Dome. -/
theorem Hub.eventRecord_same (h : Hub) (ty time : Nat) (body : List Word) :
    (∀ a, a ≠ Addr.LED_EVT_DROP_CNT → (h.eventRecord ty time body).rd a = h.rd a) ∧
    (h.eventRecord ty time body).dome = h.dome := by
  rcases h.eventRecord_cases ty time body with e | ⟨x, -, -, e⟩ <;> rw [e]
  · exact ⟨fun a ha => Hub.rd_incSat_other _ _ _ _ _ _ ha, rfl⟩
  · exact ⟨fun _ _ => rfl, rfl⟩

/-- Everything a post can do. -/
theorem Hub.mbPost_cases (h : Hub) (r ch m : Nat) (v : Word) :
    ((h.mbValid ch = false ∨ h.mbSender ch ≠ m) ∧ h.mbPost r ch m v = (EBOUND, h.report r 4 EBOUND m (wd ch))) ∨
    (h.mbValid ch = true ∧ h.mbSender ch = m ∧ h.mbFull ch = true ∧
      h.mbPost r ch m v = (EBUSY, h.setFld (Addr.MB_STATUS ch) 8 8 EBUSY)) ∨
    (h.mbValid ch = true ∧ h.mbSender ch = m ∧ h.mbFull ch = false ∧
      h.mbPost r ch m v = (OK, (((h.wr (Addr.MB_PEEK ch) v).wr (Addr.MB_STATUS ch)
        (wd (1 + (if h.masterHeld (h.mbReceiver ch) then 4 else 0) + 65536 * h.fld (Addr.RESET_EPOCH m) 0 8))).ringMsg r
          (h.mbReceiver ch) ch).postAnswers m ch)) := by
  cases e1 : h.mbValid ch with
  | false => exact .inl ⟨.inl rfl, by simp [Hub.mbPost, e1]⟩
  | true =>
    by_cases e2 : h.mbSender ch = m
    · cases e3 : h.mbFull ch with
      | true => exact .inr (.inl ⟨rfl, e2, rfl, by simp [Hub.mbPost, e1, e2, e3]⟩)
      | false => exact .inr (.inr ⟨rfl, e2, rfl, by simp [Hub.mbPost, e1, e2, e3]⟩)
    · exact .inl ⟨.inr e2, by simp [Hub.mbPost, e2]⟩

/-- A read that is no take answers 0 and changes nothing. -/
theorem Hub.mbTake_none (h : Hub) (ch m : Nat) (e : (h.mbValid ch && h.mbReceiver ch = m && h.mbFull ch) = false) :
    h.mbTake ch m = (0#32, h) := by simp [Hub.mbTake, e]

/-- Everything a read of a lock can do: the owner of a held one, or the reader becomes the owner of a free one. -/
theorem Hub.lockRead_cases (h : Hub) (l m : Nat) :
    (h.lockHeld l = true ∧ h.lockRead l m = (wd (2 ^ 31 + h.lockOwner l), h)) ∨
    (h.lockHeld l = false ∧ h.lockRead l m = (0#32, h.wr (Addr.LOCK_PEEK l) (wd (2 ^ 31 + m)))) := by
  cases e : h.lockHeld l with
  | true => exact .inl ⟨rfl, by simp [Hub.lockRead, e]⟩
  | false => exact .inr ⟨rfl, by simp [Hub.lockRead, e]⟩

/-! ### Waiting modes, resets and the boot ROM -/

/-- Everything a tick can do of a waiting mode: it is entered once its frame boundary has come. -/
theorem Hub.modeDue_cases (h : Hub) (r : Nat) :
    (h.sys.modeNext = none ∧ h.modeDue r = h) ∨
    (∃ m t, h.sys.modeNext = some (m, t) ∧ h.timeAt r < t ∧ h.modeDue r = h) ∨
    ∃ m t, h.sys.modeNext = some (m, t) ∧ t ≤ h.timeAt r ∧
      h.modeDue r = ({ h with sys.modeNext := none } : Hub).enterMode r m := by
  unfold Hub.modeDue
  rcases e : h.sys.modeNext with _ | ⟨m, t⟩
  · exact .inl ⟨rfl, rfl⟩
  · by_cases d : t ≤ h.timeAt r
    · exact .inr (.inr ⟨m, t, rfl, d, by simp [d]⟩)
    · exact .inr (.inl ⟨m, t, rfl, by omega, by simp [d]⟩)

/-- Everything the end of a verification can do: nothing, the firmware runs, or the failure is reported. -/
theorem Hub.verifyDone_cases (h : Hub) (r : Nat) :
    (h.sys.verify = none ∧ h.verifyDone r = h) ∨
    (∃ src cfg, h.sys.verify = some (src, cfg) ∧ imageFault h.sys.fwStore = none ∧
      h.verifyDone r = ({ h with sys.verify := none } : Hub).runFirmware r src cfg) ∨
    ∃ src cfg st, h.sys.verify = some (src, cfg) ∧ imageFault h.sys.fwStore = some st ∧
      h.verifyDone r = (({ h with sys.verify := none } : Hub).bootError r st).setBootStage
        (({ h with sys.verify := none } : Hub).afterFailure src) := by
  unfold Hub.verifyDone
  rcases e : h.sys.verify with _ | ⟨src, cfg⟩
  · exact .inl ⟨rfl, rfl⟩
  · generalize f : imageFault h.sys.fwStore = x
    right
    cases x with
    | none => exact .inl ⟨src, cfg, rfl, rfl, by simp only [f]⟩
    | some st => exact .inr ⟨src, cfg, st, rfl, rfl, by simp only [f]⟩

/-- An instant that a deadline `k` later has passed. -/
theorem any_passed (r k : Nat) (o : Option Nat) (e : (o.any fun t => decide (t + k ≤ r)) = true) :
    ∃ t, o = some t ∧ t + k ≤ r := by
  cases o with
  | none => simp at e
  | some t => exact ⟨t, rfl, by simpa using e⟩

/-- What RESET_DELAY_EXPIRY finds due was answered at least 1 ms before (R424). -/
theorem Hub.resetDue_posted (h : Hub) (r : Nat) (x : ResetReq) (e : h.resetDue r = some x) :
    x ∈ h.sys.resets ∧ ∃ t, x.posted = some t ∧ t + msU ≤ r := by
  unfold Hub.resetDue at e
  exact ⟨List.mem_of_find?_eq_some e,
    any_passed r msU _ (List.find?_some (p := fun x : ResetReq => x.posted.any fun t => decide (t + msU ≤ r)) e)⟩

/-- The path in use to the twin is a lane of role TWIN (R364). -/
theorem Hub.twinPath_some (h : Hub) (l : Nat) (e : h.twinPath = some l) :
    h.bit Addr.SEL_STATUS 13 = false ∧ h.activeLane rTWIN = some l := by
  unfold Hub.twinPath at e
  cases b : h.bit Addr.SEL_STATUS 13 with
  | true => simp [b] at e
  | false => exact ⟨rfl, by simpa [b] using e⟩

end Sys2Proof.Machine
end

