-- ==== Sys2Proof/WellFormed.lean ====
section
/-!
DEFINITION. Which operand values the outside can bring: the widths of codes, counts and frame fields. `exec` is total and
asks for none of it; the encodings of Amixel words that are not instructions are refused by `decodeWord` (R228, R229).
-/

namespace Sys2Proof

open Sys2Proof.Machine

/-- A slice code (R98): 16 bits, signed. -/
def isCode (c : Int) : Bool := decide (-32768 ≤ c) && decide (c ≤ 32767)

/-- The widths of an acknowledgement message (R305). -/
def Machine.AckMsg.wf (m : AckMsg) : Bool :=
  decide (m.ver < 16) && decide (m.pairId < 65536) && decide (m.epoch < 2 ^ 32) && decide (1 ≤ m.entries.length) &&
    decide (m.entries.length ≤ 255) && m.entries.all fun e => decide (e.1 < 1024) && decide (e.2 < 2 ^ 48)

/-- The widths of a PTP header (R342). -/
def Machine.PtpHead.wf (m : PtpHead) : Bool := decide (m.domain < 256) && decide (m.ver < 16) && decide (m.seq < 65536)

/-- An internal request: a probe or a charge test of a local channel (R108). -/
def Machine.InjWho.wf : InjWho → Bool
  | .ext _ => false
  | .probe c => decide (c < 32)
  | .ctest c => decide (c < 32)

/-- The operands of a command lie in their ranges. -/
def Instr.wf : Instr → Bool
  | .chargeResetAuto _ _ code => isCode code
  | .rawCodeConvert _ _ _ code pair => isCode code && pair.all fun p => isCode p.1 && isCode p.2
  | .internalInjRequest _ who _ => who.wf
  | .sliceCalComplete _ _ _ _ coef => decide (coef.length = 32)
  | .bootCalComplete b => b.slices.all fun x => decide (x.2.2.1.coef.length = 32) && decide (x.2.2.2.coef.length = 32)
  | .trimEnd _ v => decide (v.chans.length = 32)
  | .ack m => m.wf
  | .nack m => m.wf
  | .announce m _ => m.wf
  | .ptpSync m _ => m.wf
  | .followUp m _ => m.wf
  | .delayResp m _ _ => m.wf
  | .ddmPoll _ vals => (vals.getD []).all fun v => decide (v < 65536)
  | .modAccComplete _ byte => decide (byte.getD 0 < 256)
  | .eyePointDone _ count => decide (count < 2 ^ 64)
  | .chargeTestComplete .. | .excSenseBreak .. | .probeBallRead .. | .refCheckAverage .. | .injComplete .. | .swapCompareDone ..
  | .tempUpdate .. | .cap .. | .ring .. | .link .. | .sync .. | .resp ..
  | .spanTrig .. | .ledger .. | .lack .. | .renew .. | .grant .. | .deny ..
  | .heartbeat .. | .claim .. | .relinquish .. | .ledgerM .. | .context .. | .histogram ..
  | .thresholds .. | .captureMirror .. | .handoverPropose .. | .handoverAccept .. | .handoverConfirm .. | .handoverCancel ..
  | .mgmtRead .. | .mgmtWrite .. | .mgmtUnexpected ..
  | .registerWrite .. | .rcFieldRead .. | .crossingStuck .. | .bridgeTimeout .. | .abandonedReadComplete
  | .toggleAckComplete .. | .domeRegionSizeWrite .. | .feCfgWrite .. | .feCfgTakeEffect .. | .commonModeTrip ..
  | .rtdComplianceExceeded .. | .chargeRailReached .. | .clampConduct .. | .clampSuspectEnd .. | .feChgResetWrite ..
  | .chargeResetPeriodic .. | .chargeResetStart .. | .chargeResetSwitchOpen .. | .chargeResetSettled ..
  | .chargeTestDue .. | .excEnable .. | .inrushExcEnable .. | .excDisable .. | .excLimitEnter .. | .excLimitExit ..
  | .excTrip .. | .excTripRestart .. | .reverseNow .. | .excReversal .. | .breakClear .. | .userCurveWrite ..
  | .schedCommit .. | .schedCommitApply .. | .injReq .. | .spareCalStart .. | .rotEnable .. | .swapVerdict ..
  | .drainQueueClose .. | .drainForced .. | .sliceSwap .. | .filterOutput .. | .filterCommit ..
  | .filterCommitApply .. | .sentryHitStart .. | .hitLostLog .. | .sentryHitEnd .. | .sentryHitLong ..
  | .sentryLockoutEnd .. | .dieTempRead .. | .trimEvaluation | .trimHoldMaxReached .. | .trimStart ..
  | .calSave .. | .calSaveSnapshot | .calRestore .. | .calRestoreApply | .pllLock | .refclkLoss
  | .refclkReturn | .servoCommitRate .. | .servoCommitStep .. | .servoCommitSet .. | .servoCommitApply
  | .timeNowRead .. | .trigInEdge .. | .trigInPop .. | .gridPhaseMeasure .. | .realign .. | .gridAlignComplete
  | .servoMeasurement .. | .timeHoldoverEnter | .holdoverTimeout | .timeSource .. | .alarmArm .. | .alarmDisarm ..
  | .alarmFire .. | .ppsOutPulse | .loadPlan .. | .stageElementArrive | .activationPacingRelease .. | .ctxCtrlHalt ..
  | .ctxCtrlRestart .. | .turretReset .. | .turretUngate .. | .amixelAdd .. | .amixelSub .. | .amixelMul ..
  | .amixelMulh .. | .amixelAnd .. | .amixelOr .. | .amixelXor .. | .amixelShl .. | .amixelShr .. | .amixelSar ..
  | .amixelMin .. | .amixelMax .. | .amixelAbs .. | .amixelClz .. | .amixelAddi .. | .amixelLui .. | .amixelAndi ..
  | .amixelOri .. | .amixelWacc .. | .amixelWsq .. | .amixelWsub .. | .amixelWshr .. | .amixelWrd .. | .amixelWclr ..
  | .amixelCmp .. | .amixelBr .. | .amixelBrq .. | .amixelCall .. | .amixelRet .. | .amixelLoop .. | .amixelLd ..
  | .amixelSt .. | .amixelLdw .. | .amixelStw .. | .loadComplete .. | .amixelTake .. | .amixelPeek ..
  | .amixelEmit .. | .amixelSeal .. | .amixelCurve .. | .amixelXing .. | .amixelPeakt .. | .amixelRflow ..
  | .measurementComplete .. | .amixelTime .. | .timeReply .. | .amixelWaitt .. | .waittResume .. | .amixelAlarm ..
  | .amixelArmUnit .. | .amixelDisarmUnit .. | .amixelFireUnit .. | .amixelMirror .. | .amixelPost ..
  | .amixelTakemb .. | .amixelLocka .. | .amixelLockr .. | .amixelYield .. | .amixelHalt .. | .amixelNop ..
  | .undefinedWordIssue .. | .capCtrlArm .. | .capCtrlDisarm .. | .capCtrlFire .. | .capCtrlRelease ..
  | .captureSetStored .. | .captureTrigger .. | .captureRearm .. | .recordMeasured | .recordDeliver ..
  | .ledgerElementArrive | .packetSealTimeout .. | .packetSend | .descPeriodic | .ackTimeout .. | .ledgerCommit ..
  | .laneCfgWrite .. | .laneDetectDone .. | .laneTrainDone .. | .laneTrainTimeout .. | .laneLockDone ..
  | .laneLockTimeout .. | .txDisableHoldEnd .. | .capSend .. | .laneLoss .. | .moduleRemoval .. | .los ..
  | .retrain .. | .linkRetrain .. | .segmentUpReport .. | .ringRepeat | .linkSend .. | .frameTransmitStart ..
  | .syncSend .. | .pause .. | .pauseEnd .. | .ethLockTimeout .. | .protoAutoTimeout .. | .delayReqSend
  | .moduleInsert .. | .modAccGo .. | .eyeStart .. | .eyeStop .. | .eyeScan .. | .renewSend | .heartbeatSend
  | .heartbeatMiss | .claimSend | .wardenLeaseExpiry | .wardenStartupHoldEnd | .startupClaimEval | .promotion ..
  | .xswTimeEnd | .leaseExpiry | .selfFault | .fenceBoundary | .arbGrantFall | .arbGrantRise | .ledgerMSend
  | .histogramSend | .thresholdsSend | .mirrorPathReturn | .revertHoldElapsed | .handoverConfirmTimeout
  | .handoverRetry | .handoverSendStop | .handoverFrame | .lockstepMismatch .. | .watchdogExpiry | .belfryRestart
  | .bootRomStart .. | .firmwareLoaded .. | .bootCtrlWrite .. | .mailboxPost .. | .mailboxTake .. | .bindWrite ..
  | .bindLock .. | .masterReset .. | .responsePost .. | .lockAcquire .. | .lockRelease .. | .lockForce ..
  | .elogQueueWrite | .elogFree .. | .errlogDrain .. | .spiWrite .. | .spiRead .. | .spiNop | .spiBadFrame
  | .spiReadComplete | .doorbellFrameSend | .otpProgramHash .. | .otpBlowDebugLock .. | .otpSequenceTimeout
  | .otpProgramComplete | .ping .. | .status .. | .nopCommand .. | .arm .. | .start .. | .stop .. | .abort ..
  | .stopFrame | .trimNow .. | .trimHold .. | .trimRelease .. | .promote .. | .demote .. | .setPreferred ..
  | .serviceEnter .. | .serviceExit .. | .hubReset .. | .resetDelayExpiry | .powerOnRelease | .resetNAssert
  | .brownout | .spireResetEnd .. | .laneResetEnd .. | .sagTrip .. | .sagLevelLeave .. | .tpArm .. | .tpXdelay ..
  | .tpStarve .. | .starveEnd | .tpAckhold .. | .ackholdRelease | .tpDrop .. | .inject .. | .tpTjit .. | .tpSag ..
  | .tpSkew .. | .tpSwapfail .. | .turretResetEnd .. | .trstNLow | .storeAccepted .. | .powerLoss | .ethLinkUp ..
  | .ethLinkLoss .. | .announceTimeout | .trigOutPulseEnd .. | .ppsOutPulseEnd | .contextFallbackSlot .. => true

end Sys2Proof
end

