-- ==== Sys2Proof/Tests/Slice0.lean ====
section
/-!
SUPPORT. Tests of the model: for each statement a concrete state and operands that meet its hypotheses, with what the rules
of spec/ give there; decoded words of the spec; and a term that each check of WellFormed refuses.
-/

namespace Sys2Proof.Tests

open Sys2Proof.Machine Sys2Proof.Safety

-- Each test is a kernel evaluation; one at a time keeps memory low.
set_option Elab.async false

/-- A hub whose firmware runs, in mode `m`, with these registers, changed by `f`, at RAW `r` nanoseconds. -/
def st (m : Nat) (l : List (Nat × Word)) (f : Hub → Hub := id) (r : Nat := 0) : State :=
  { State.reset with
    raw := BitVec.ofNat 80 (65536 * r)
    hub := f (forIn' l (fun p h => h.wr p.1 p.2)
      ((State.reset.hub.wr Addr.SYS_BOOT_STATUS 5#32).wr Addr.SYS_MODE (wd m))) }

/-- The hub after a command, given to `p`; registers that `k` does not name read as before. -/
def ok (s : State) (c : Instr) (p : Hub → Bool) (k : Nat → Bool := fun _ => true) : Bool :=
  match exec c s with
  | .next t => p t.hub && (s.hub.regs ++ t.hub.regs).all fun x => k x.1 || t.hub.rd x.1 == s.hub.rd x.1
  | .fault _ => false
  | .refused _ => false

/-- The command changes nothing. -/
def same (s : State) (c : Instr) : Bool :=
  match exec c s with
  | .next t => decide (t = s)
  | .fault _ => false
  | .refused _ => false

/-- A report of class `k` more than in `s`. -/
def lg (k : Nat) (s : State) (h : Hub) : Bool :=
  h.rd (Addr.ELOG_CLASS_CNT k) == s.hub.rd (Addr.ELOG_CLASS_CNT k) + 1#32

/-- The master may make an access of four bytes. -/
def may (s : State) (m : Nat) (a : Nat) (w : Bool := true) : Bool := s.hub.accessOk m w a 4

/-- Frame `f` as it comes in on a lane of Wembe's line, to a receiver that has heard only zeros. -/
def onLine (f : Frame) : RxFrame := .line ({ start := 0, tx := { reg := 0 }, cls := 0, content := f.content } : Air).line.1

/-- Lane `l` hears `x` as the good frame `y`. -/
def heardAs (l : Nat) (y : Frame) (x : RxFrame) (s : State) : Bool :=
  let r := s.hub.listen l x
  r.2.regs == s.hub.regs && r.1.any fun z => z.frame == y && z.fault.isNone
/-- Meets the hypotheses of ResetState. -/
theorem test_reset_is_boot :
    (State.reset.hub.mode = .boot) ∧
    (State.reset.raw.toNat % 65536 = 0) ∧
    (State.reset.hub.rd Addr.SYS_CHIP_ID = 0x51200001#32) := by
  decide +kernel

/-- The hub after a step. -/
def after (s : State) : Hub := match step s with | .next t => t.hub | .fault _ => s.hub | .refused _ => s.hub
def ticks (m : Option (Mode × Nat)) (f : Hub → Hub := id) : State :=
  { st 1 [(Addr.TP_TJIT, 0x1032#32)] (fun h => f { h with
      sys.pllLocked := true, sys.modeNext := m, sys.ungated := [1], sys.jit := [(1, 2)], ctxs := [(64, { st := .ready })] })
    with raw := 65536#80 }

/-- Meets the hypotheses of IdleStepAdvancesRaw, RawCountsWholeNanoseconds, StepRunsFront. -/
theorem test_idle_step_counts_a_nanosecond :
    ((match step { st 1 [] with hub := { (st 1 []).hub with sys.pllLocked := true } } with
        | .next t => t.raw | .fault _ => 0#80 | .refused _ => 0#80) = 65536#80) ∧
    ((match step { st 1 [] with pending := [.spiNop] } with
        | .next t => t.pending | .fault _ => [.spiNop] | .refused _ => [.spiNop]) = []) ∧
    ((after (ticks (some (.armed, 65536)))).mode = .armed ∧ (after (ticks (some (.armed, 65536)))).fld Addr.SYS_MODE 4 3 = 1) ∧
    ((after (ticks (some (.service, 0)) fun h => h.setFld Addr.SEL_STATUS 0 3 selACTIVE)).mode = .service) ∧
    ((after (ticks none)).rd (Addr.TUR_STALL_CNT 1) = 1#32 ∧ (after (ticks none)).sys.jit = [(1, 1)]) ∧
    ((after (ticks none fun h => { h with ctxs := [(64, { st := .wait })] })).rd (Addr.TUR_IDLE_CNT 1) = 1#32) := by
  decide +kernel

def rz : State := st 4 [(Addr.TP_XDELAY, 5#32)] (fun h =>
  { h.domeBytes 0x120000 [1] with sys.resets := [{ kind := .hub, ch := 0, posted := some 0 }], sys.otpLock := true }) 1000000

/-- Meets the hypotheses of RawIsTouchedByNoCommandButResets. -/
theorem test_raw_is_touched_by_no_command_but_resets :
    (ok rz .resetNAssert (fun h => h.mode = .boot && h.dome == [] && h.sys.otpLock && h.rd Addr.SYS_RESET_CAUSE == 1#32) fun _ => true) ∧
    (ok rz .brownout (fun h => h.mode = .boot && h.rd Addr.SYS_RESET_CAUSE == 3#32 && h.rd Addr.TP_XDELAY == 0#32)) ∧
    (ok rz .resetDelayExpiry (fun h => h.sys.resets == [] && h.rd Addr.SYS_RESET_CAUSE == 2#32)) ∧
    (ok (st 0 []) .pllLock (fun h => h.sys.pllLocked && h.bit Addr.LAN_STATUS 0) fun a => a == Addr.LAN_STATUS) ∧
    ((match exec .resetDelayExpiry rz with | .next t => t.raw | .fault _ => 1#80 | .refused _ => 1#80) = 0#80) ∧
    ((match exec .pllLock { st 0 [] with raw := 5#80 } with | .next t => t.raw | .fault _ => 1#80 | .refused _ => 1#80) = 0#80) ∧
    (same { rz with raw := 65535999999#80 } .resetDelayExpiry ∧ same (st 1 []) .pllLock ∧ same rz .powerOnRelease) ∧
    (ok rz .powerLoss (fun h => h.mode = .boot && !h.sys.powered)) := by
  decide +kernel

/-- Meets the hypotheses of UnpoweredHubIsHeld. -/
theorem test_unpowered_hub_is_held :
    (same { st 1 [] with hub := { (st 1 []).hub with sys.powered := false } } (.crossingStuck 0)) ∧
    (ok { st 1 [] with hub := { (st 1 []).hub with sys.powered := false } } .powerOnRelease fun h => h.sys.powered) := by
  decide +kernel

def dm : State := st 1 [] fun h => h.domeBytes 0x120000 [1, 2, 3, 4, 5]

/-- Meets the hypotheses of DomeAccessesStoreAndReturnBytes, ForbiddenWriteDoesNothing, ReadingAnRcFieldClearsIt. -/
theorem test_dome_access :
    (may dm 1 0x120000 ∧ dm.hub.accessOk 1 true 0x120004 1 ∧ may dm 6 0x300000 false) ∧
    (ok dm (.registerWrite 1 0x120000#32 .word 0xAABBCCDD#32) (fun h => h.domeWord 0x120000 == 0xAABBCCDD#32 &&
        h.domeByte 0x120000 == 0xDD#8 && h.domeByte 0x120004 == 5#8) fun _ => false) ∧
    (ok dm (.registerWrite 5 0x120003#32 .byte 9#32) (fun h => h.domeWord 0x120000 == 0x09030201#32) fun _ => false) ∧
    (ok dm (.rcFieldRead 6 0x120000#32 .word) (fun h => SMap.get 0#32 h.ctl.readData 6 == 0x04030201#32) fun _ => false) ∧
    (ok dm (.rcFieldRead 6 0x120003#32 .byte) (fun h => SMap.get 0#32 h.ctl.readData 6 == 4#32) fun _ => false) ∧
    (may dm 1 0x120002 false = false ∧ ok dm (.rcFieldRead 1 0x120002#32 .word) (fun h => lg 0 dm h &&
        SMap.get 1#32 h.ctl.readData 1 == 0#32) inLog) := by
  decide +kernel

/-- Meets the hypotheses of ForbiddenWriteDoesNothing. -/
theorem test_forbidden_write :
    (may dm 1 0x800000 = false ∧ may dm 7 0x46000090 = false) ∧
    (ok dm (.registerWrite 1 0x800000#32 .word 1#32) (fun h => lg 0 dm h && h.dome == dm.hub.dome) inLog) := by
  decide +kernel

/-- Meets the hypotheses of AccessPermissions. -/
theorem test_access_permissions :
    (dm.hub.bootStage ≠ stageWAITHOST ∧ dm.hub.region 0x120000 = some .data ∧ dm.hub.region 0x1FFFFFF = some .journal) ∧
    (may dm 0 0x1FFFFFC ∧ may dm 8 0x1FFFFFC ∧ may dm 5 0x1FFFC ∧ may dm 5 0x20000 = false ∧ may dm 7 0x3FFFFC) ∧
    (may dm 4 0x400000 ∧ may dm 4 0x7FFFFC ∧ may dm 4 0x800000 false = false ∧ may dm 7 0x3FFFFC false = false) ∧
    (isMapped 0x40000000 ∧ may dm 7 0x40000000 ∧ may dm 2 0x43140000 ∧ may dm 2 0x43040000 = false) := by
  decide +kernel

def rs : State := { dm with hub := { dm.hub with queues := [(1, {})] } }

/-- A check of its own. -/
theorem test_region_size_write :
    (may rs 5 Addr.SYS_DOME_DATA_SIZE ∧ rs.hub.setupMode ∧ rs.hub.servicePlan = false) ∧
    (ok rs (.domeRegionSizeWrite 5 1 30#32) (fun h => h.rd Addr.SYS_DOME_JOURNAL_SIZE == 384#32 &&
        h.rd Addr.SYS_DOME_MIRROR_BASE == 0x300000#32 && (SMap.find h.dome 0x120000).isNone)
        fun a => decide (0x40004100 ≤ a ∧ a < 0x40004140)) ∧
    (ok rs (.domeRegionSizeWrite 5 3 0x1B1#32) (fun h => lg 1 rs h) inLog) ∧
    (ok (st 3 []) (.domeRegionSizeWrite 5 1 40#32) (fun h => lg 1 (st 3 []) h) inLog) := by
  decide +kernel

def rc : State := st 1 [(Addr.SYS_SPI_ERR_CNT, 7#32)]
def wb : State := st 3 [(Addr.TUR_BACKLOG_MAX 0, 9#32)] fun h => { h with ctxs := [(0, { bufs := [(0, { fill := 1 })] })] }

/-- Meets the hypotheses of DomeAccessesStoreAndReturnBytes, ReadingAnRcFieldClearsIt. -/
theorem test_rc_field_read :
    (may rc 5 Addr.SYS_SPI_ERR_CNT false ∧ (regRef Addr.SYS_SPI_ERR_CNT).any fun x => x.row.rc != 0#32) ∧
    (ok rc (.rcFieldRead 5 (wd Addr.SYS_SPI_ERR_CNT) .word) (fun h => h.rd Addr.SYS_SPI_ERR_CNT == 0#32 &&
        SMap.get 0#32 h.ctl.readData 5 == 7#32) fun a => a == Addr.SYS_SPI_ERR_CNT) ∧
    ((wb.hub.view 0 5 (Addr.TUR_BACKLOG_MAX 0)).isSome ∧ ok wb (.rcFieldRead 5 (wd (Addr.TUR_BACKLOG_MAX 0)) .word) (fun h =>
        SMap.get 0#32 h.ctl.readData 5 == 9#32 && h.rd (Addr.TUR_BACKLOG_MAX 0) == 1#32) fun a => a == Addr.TUR_BACKLOG_MAX 0) := by
  decide +kernel

def cr : State := st 1 [(Addr.CLK_CROSS_STUCK_CNT, 0xFFFF#32)] fun h =>
  { h with ctl.spi.busy := true, ctl.spi.addr := 0x40001000, ctl.abandoned := [(5, Addr.LOCK 31)],
           ctl.toggles := [(0, false), (255, true)] }

/-- Meets the hypotheses of CrossingsAndHeldReads. -/
theorem test_crossings_and_held_reads :
    (ok cr (.crossingStuck 0x2A) (fun h => h.rd Addr.CLK_CROSS_STUCK_CNT == 0xFFFF#32 && lg 3 cr h) inLog) ∧
    (ok cr (.bridgeTimeout 8 0x40001000#32) (fun h => lg 2 cr h && h.ctl.abandoned == [(5, Addr.LOCK 31), (8, 0x40001000)]) inLog) ∧
    (ok cr (.bridgeTimeout 5 0#32) (fun h => h.ctl.spi.rdy && !h.ctl.spi.busy && h.ctl.spi.status == ETIME && lg 2 cr h) inLog) ∧
    (may cr 5 (Addr.LOCK 31) false ∧ cr.hub.lockHeld 31 = false ∧ ok cr .abandonedReadComplete (fun h => !h.lockHeld 31 &&
        h.ctl.abandoned == []) fun a => a == Addr.LOCK_PEEK 31 || inLog a) ∧
    (ok cr (.toggleAckComplete 0) (fun h => SMap.find h.ctl.toggles 0 == none && SMap.find h.ctl.toggles 255 == some true)
        fun _ => false) ∧
    (ok cr (.toggleAckComplete 255) (fun h => SMap.find h.ctl.toggles 255 == some false && SMap.find h.ctl.toggles 0 == some false)) ∧
    (ok { cr with hub := { cr.hub with ctl.abandoned := [(5, Addr.SYS_SPI_ERR_CNT)], regs := rc.hub.regs } } .abandonedReadComplete
        (fun h => h.rd Addr.SYS_SPI_ERR_CNT == 0#32 && h.ctl.abandoned == []) fun a => a == Addr.SYS_SPI_ERR_CNT) := by
  decide +kernel

def fe : State := st 1 []

/-- Meets the hypotheses of FrontEndConfiguration. -/
theorem test_front_end_configuration :
    (may fe 5 (Addr.FE_CFG 15 31) ∧ may fe 5 (Addr.FE_AUX 0 0) ∧ fe.hub.planLoaded = false) ∧
    (ok fe (.feCfgWrite 5 15 31 false 0xFF000005#32) (fun h => h.rd (Addr.FE_CFG 15 31) == 5#32) fun a => a == Addr.FE_CFG 15 31) ∧
    (ok fe (.feCfgWrite 5 15 31 false 5#32) (fun h => h.rd (Addr.FE_CFG 15 31) == 5#32) fun a => a == Addr.FE_CFG 15 31) ∧
    (ok fe (.feCfgWrite 5 0 0 true 0xFFFFFFFF#32) (fun h => h.rd (Addr.FE_AUX 0 0) == 0xFFFFFFFF#32) fun a => a == Addr.FE_AUX 0 0) ∧
    (ok fe (.feCfgWrite 5 15 31 false 6#32) (fun h => lg 1 fe h) inLog) ∧
    (ok (st 3 []) (.feCfgWrite 5 15 31 false 1#32) (fun h => lg 1 (st 3 []) h) inLog) ∧
    (ok (st 1 [(Addr.FE_CFG 1 2, 1#32)]) (.feCfgTakeEffect 1 2) (fun h => h.feMode 1 2 == 1) fun _ => false) ∧
    (may (st 5 []) 5 (Addr.FE_CFG 15 31) ∧ ok (st 5 []) (.feCfgWrite 5 15 31 false 5#32) (fun h => h.rd (Addr.FE_CFG 15 31) == 5#32)
        fun a => a == Addr.FE_CFG 15 31) ∧
    (ok (st 5 [(Addr.SYS_PLAN_STATUS, 1#32)]) (.feCfgWrite 5 15 31 true 5#32) (fun h => h.bit Addr.SYS_PLAN_STATUS 1)
        fun a => a == Addr.FE_AUX 15 31 || a == Addr.SYS_PLAN_STATUS) ∧
    ((st 1 [(Addr.SYS_PLAN_STATUS, 1#32)]).hub.planLoaded ∧ ok (st 1 [(Addr.SYS_PLAN_STATUS, 1#32)]) (.feCfgWrite 5 15 31 false 5#32)
        (fun h => lg 1 (st 1 []) h) inLog) := by
  decide +kernel

def rtd : State := st 1 [] fun h => h.setActive (Addr.FE_CFG 0 3) (wd mRTD)
def chg : State := st 1 [] fun h => h.setActive (Addr.FE_CFG 0 3) (wd mCHARGE + 0x200#32)

/-- Meets the hypotheses of DetectorsReplaceTheCode. -/
theorem test_detectors :
    (ok fe (.commonModeTrip 0 3 .inside .above) (fun h => (h.chanAt 0 3 0).code 5 == (32767, true)) fun _ => false) ∧
    (ok fe (.commonModeTrip 0 3 .below .above) (fun h => (h.chanAt 0 3 0).code 5 == (-32768, true)) fun _ => false) ∧
    (rtd.hub.feMode 0 3 = mRTD ∧ ok rtd (.rtdComplianceExceeded 0 3 true) (fun h => (h.chanAt 0 3 0).code 32766 == (32766, true)) fun _ => false) ∧
    (chg.hub.feMode 0 3 = mCHARGE ∧ ok chg (.chargeRailReached 0 3 .below) (fun h => (h.chanAt 0 3 0).code 7 == (-32768, true)) fun _ => false) ∧
    (ok fe (.clampConduct 0 3 .above .inside) (fun h => h.bit (Addr.FE_CLAMP_NOW 0) 3 && h.clampSuspect 0 4 0 &&
        h.clampSuspect 0 32 0 && !h.clampSuspect 0 3 0 && (h.chanAt 0 3 0).code 0 == (32767, true)) fun a => a == Addr.FE_CLAMP_NOW 0 || a == Addr.FE_CLAMP 0) ∧
    (ok (st 1 [] fun h => h.setSpire 0 { clampTail := 8 }) (.clampSuspectEnd 0 3) (fun h => !h.clampSuspect 0 4 0) fun _ => false) := by
  decide +kernel

def chan (c : Chan) (l : List (Nat × Word) := []) (cfg : Word := 0x200#32) : State :=
  st 1 l fun h => (h.setActive (Addr.FE_CFG 0 3) (wd mCHARGE + cfg)).setChan (chNo 0 3) c

/-- Meets the hypotheses of ChargeResets. -/
theorem test_charge_resets :
    (may chg 5 (Addr.FE_CHG_RESET 0) ∧ ok chg (.feChgResetWrite 5 0 0xFF#32) (fun h => h.rd (Addr.FE_CHG_RESET 0) == 8#32)
        fun a => a == Addr.FE_CHG_RESET 0) ∧
    (chg.hub.afld (Addr.FE_CFG 0 3) 9 2 = 1 ∧ ok chg (.chargeResetAuto 0 3 (-26542)) (fun h => (h.chan 3).chgReq &&
        h.bit (Addr.FE_CHG_RESET 0) 3) fun a => a == Addr.FE_CHG_RESET 0) ∧
    (same (chan { chg := .settle }) (.chargeResetAuto 0 3 26542)) ∧
    (ok (st 1 [] fun h => (h.setActive (Addr.FE_CFG 0 3) (wd mCHARGE + 0x400#32)).setActive (Addr.FE_AUX 0 3) 0x40#32)
        (.chargeResetPeriodic 0 3) (fun h => (h.chan 3).chgReq) fun a => a == Addr.FE_CHG_RESET 0) ∧
    (ok (chan { chgReq := true } [(Addr.FE_CHG_RESET 0, 8#32)]) (.chargeResetStart 0 3) (fun h => (h.chan 3).chg == .reset &&
        h.rd (Addr.FE_CHG_RESET 0) == 0#32 && h.rd (Addr.FE_CHG_RESET_ACT 0) == 8#32)) ∧
    (ok (chan { chg := .reset }) (.chargeResetSwitchOpen 0 3) (fun h => (h.chan 3).chg == .settle) fun _ => false) ∧
    (ok (chan { chg := .settle } [(Addr.FE_CHG_RESET_ACT 0, 8#32)]) (.chargeResetSettled 0 3) (fun h => (h.chan 3).chg == .track &&
        h.rd (Addr.FE_CHG_RESET_ACT 0) == 0#32)) ∧
    ((chan {} [] 0x40000#32).hub.standby = false ∧ ok { chan {} [] 0x40000#32 with raw := 6144000000#80 } (.chargeTestDue 0 3) (fun h => (h.spire 0).injQ == [{ who := .ctest 3, node := 0, hold := 1172 }])
        fun a => a == Addr.INJ_QUEUE 0) ∧
    (ok { chan { chg := .reset } [] 0x40000#32 with raw := 6144000000#80 } (.chargeTestDue 0 3) (fun h => (h.chan 3).ctestDue && (h.chan 3).ctestLast == some 1171) fun _ => false) := by
  decide +kernel

def prb (code : Int) : State := st 1 [] (fun h => (h.setActive (Addr.FE_CFG 0 3) (wd mVDIFF + 0x20000#32)).setChan 3
  { probe := [(0, true, 100), (0, false, 30000)] } |>.setSpire 0
  { injQ := [{ who := .probe 3, node := 7 }, { who := .probe 3, node := 6, hold := 1, codes := [(1, code)] }] })
  50000000
def sbk (s f : Int) : State := st 1 [(Addr.EXC_CFG 0, 12#32)] (fun h => (h.setActive (Addr.FE_CFG 0 3) (wd mBRIDGE)).setSpire 0
  { exc := .on, senseRd := [(9, s), (8, s), (7, s)], forceRd := [(9, f), (8, f), (7, f)] })

/-- Meets the hypotheses of WireBreaks. -/
theorem test_wire_breaks :
    ((prb 0).hub.feMode 0 3 = mVDIFF ∧ ok (prb 6654) (.probeBallRead 0 3 true) (fun h => (h.chan 3).brks.map Prod.fst == [.probe] &&
        h.bit (Addr.FE_BREAK 0) 3 && h.bit (Addr.FE_BREAK_NOW 0) 3 && (h.spire 0).injQ == [{ who := .probe 3, node := 7 }])
        fun a => a == Addr.FE_BREAK 0 || a == Addr.FE_BREAK_NOW 0 || a == Addr.LED_EVT_DROP_CNT || a == Addr.INJ_QUEUE 0) ∧
    (ok (prb 6653) (.probeBallRead 0 3 true) (fun h => (h.chan 3).brks == []) fun a => a == Addr.INJ_QUEUE 0) ∧
    (ok (st 1 [] (fun h => ((h.setActive (Addr.FE_CFG 0 3) (wd mCHARGE)).setActive (Addr.FE_AUX 0 3) 0xFA000000#32).setSpire 0
        { injQ := [{ who := .ctest 3, node := 0, hold := 4, codes := [(4, 0), (5, 8192)] }] } |>.setChan 3 { lowTests := 1 }))
        (.chargeTestComplete 0 3) (fun h => (h.chan 3).brks.map Prod.fst == [.charge] &&
          h.rd (Addr.FE_CHG_CS 0 3) == wd (124 * cfPf 0))) ∧
    ((sbk 30000 30000).hub.spireAt 0 8 = (sbk 0 0).hub.spireMarks 0 ∧ ok (sbk 0 0) (.excSenseBreak 0) (fun h =>
        h.bit (Addr.EXC_STATUS 0) 5 && !h.bit (Addr.EXC_STATUS 0) 6 && (h.chan 3).brks.map Prod.fst == [.excitation])
        fun a => a == Addr.EXC_STATUS 0 || a == Addr.FE_BREAK 0 || a == Addr.FE_BREAK_NOW 0 || a == Addr.LED_EVT_DROP_CNT) ∧
    (ok (sbk 0 32000) (.excSenseBreak 0) (fun h => h.bit (Addr.EXC_STATUS 0) 4 && h.bit (Addr.EXC_STATUS 0) 6 &&
        (h.chan 3).brks.map Prod.fst == [.excitation])) ∧
    (ok (st 1 [(Addr.FE_BREAK_NOW 0, 8#32)] (fun h => h.setChan 3 { brks := [(.probe, 5), (.excitation, 6)] })) (.breakClear 0 3 .probe)
        (fun h => (h.chan 3).brks == [(.excitation, 6)] && h.rd (Addr.FE_BREAK_NOW 0) == 8#32 && (h.chan 3).repairs == [(1, h.stages 0 3)])) ∧
    (ok (st 1 [(Addr.FE_BREAK_NOW 0, 8#32)] (fun h => h.setChan 3 { brks := [(.probe, 5)] })) (.breakClear 0 3 .probe)
        (fun h => (h.chan 3).brks == [] && h.rd (Addr.FE_BREAK_NOW 0) == 0#32 && !(h.chanAt 0 3 1).brk)) := by
  decide +kernel

def drv (x : ExcState) (cfg : Word := 4#32) (l : List (Nat × Word) := []) : State :=
  st 1 ([(Addr.EXC_CFG 15, cfg)] ++ l) fun h => h.setSpire 15 { exc := x }

/-- Meets the hypotheses of ExcitationDriver, ReversalByHandIsRefusedWhileScheduled. -/
theorem test_excitation :
    (may (drv .off 0#32) 5 (Addr.EXC_CFG 15) ∧ ok (drv .off 0#32) (.excEnable 5 15 6#32) (fun h => h.bit Addr.INRUSH_PEND 15 &&
        h.rd (Addr.EXC_CFG 15) == 6#32) fun a => a == Addr.EXC_CFG 15 || a == Addr.INRUSH_PEND) ∧
    (ok (drv .off 4#32 [(Addr.INRUSH_PEND, 0x8000#32)]) (.inrushExcEnable 15) (fun h => (h.spire 15).exc == .on &&
        SMap.get false h.pins.excOut 15 && h.rd Addr.INRUSH_PEND == 0#32) fun a => a == Addr.EXC_STATUS 15 || a == Addr.INRUSH_PEND) ∧
    (ok (drv .on) (.excLimitEnter 15 120000) (fun h => (h.spire 15).exc == .limit && h.rd (Addr.EXC_LIMIT_CNT 15) == 1#32)) ∧
    (ok (drv .limit) (.excLimitExit 15 134999) (fun h => (h.spire 15).exc == .on)) ∧
    (ok (drv .limit) (.excTrip 15) (fun h => (h.spire 15).exc == .tripped && h.bit (Addr.EXC_STATUS 15) 3 && lg 13 (drv .limit) h)
        fun a => a == Addr.EXC_STATUS 15 || inLog a) ∧
    (ok (drv .tripped 4#32 [(Addr.EXC_STATUS 15, 8#32)]) (.excTripRestart 5 15 8#32) (fun h => (h.spire 15).exc == .tripped &&
        !h.bit (Addr.EXC_STATUS 15) 3 && h.bit Addr.INRUSH_PEND 15) fun a => a == Addr.EXC_STATUS 15 || a == Addr.INRUSH_PEND) ∧
    (ok (drv .on) (.excDisable 5 15 0#32) (fun h => (h.spire 15).exc == .off && !h.bit (Addr.EXC_CFG 15) 2)
        fun a => a == Addr.EXC_CFG 15 || a == Addr.EXC_STATUS 15 || a == Addr.INRUSH_PEND) ∧
    (ok (drv .on) (.reverseNow 5 15 1#32) (fun h => h.bit (Addr.EXC_STATUS 15) 1) fun a => a == Addr.EXC_STATUS 15) ∧
    (may (drv .on 0x24#32) 5 (Addr.EXC_CTRL 15) ∧ ok (drv .on 0x24#32) (.reverseNow 5 15 1#32) (fun h => lg 1 (drv .on 0x24#32) h &&
        !h.bit (Addr.EXC_STATUS 15) 1) inLog) ∧
    (ok (drv .on 0x24#32) (.excReversal 15) (fun h => h.bit (Addr.EXC_STATUS 15) 1 && (h.spire 15).blankEnd == 16 * frameU && h.polarity 15 0 == -1)
        fun a => a == Addr.EXC_STATUS 15) := by
  decide +kernel

def slt : State := st 1 []
def sltOdd : State := st 1 [(Addr.SLOT_TBL 15 31, 0x40#32), (Addr.FE_CFG 15 0, wd mVDIFF)]
def sltOn : State := st 1 [(Addr.SPIRE_STATUS 15, 2#32)] fun h => h.setSpire 15
  { staged := some { slots := (List.range 32).map fun i => wd (i + 0x40), apts := [] } }

/-- Meets the hypotheses of SlotTableCommit. -/
theorem test_slot_table_commit :
    (may slt 5 (Addr.SCHED_CTRL 15) ∧ slt.hub.schedFault 15 = none ∧ ok slt (.schedCommit 5 15 1#32) (fun h =>
        h.rd (Addr.SCHED_STATUS 15) == 0x3F00#32 && h.bit (Addr.SPIRE_STATUS 15) 1 && (h.spire 15).staged.isSome)
        fun a => a == Addr.SCHED_STATUS 15 || a == Addr.SPIRE_STATUS 15) ∧
    (sltOdd.hub.schedFault 15 = some (31, 0, 1) ∧ ok sltOdd (.schedCommit 5 15 1#32) (fun h =>
        h.rd (Addr.SCHED_STATUS 15) == 0x01001F08#32) fun a => a == Addr.SCHED_STATUS 15) ∧
    (ok sltOn (.schedCommit 5 15 1#32) (fun h => h.fld (Addr.SCHED_STATUS 15) 0 8 == 2) fun a => a == Addr.SCHED_STATUS 15) ∧
    (ok sltOn (.schedCommitApply 15) (fun h => h.active (Addr.SLOT_TBL 15 31) == 0x5F#32 && (h.spire 15).staged.isNone &&
        h.bit (Addr.SPIRE_STATUS 15) 0 && h.active (Addr.SLOT_TBL 14 31) == 0x5F#32) fun a => a == Addr.SPIRE_STATUS 15) := by
  decide +kernel

def vdiff : State := st 1 [] fun h => h.setActive (Addr.FE_CFG 3 8) (wd mVDIFF)
def vrun : State := st 3 [] fun h => h.setActive (Addr.FE_CFG 3 8) (wd mVDIFF)

/-- Meets the hypotheses of ConversionsReachTheirChannel. -/
theorem test_conversions_reach_their_channel :
    (vdiff.hub.sampling 3 ∧ vdiff.hub.slotEntry 3 2 = some (8, false) ∧ vdiff.hub.feMode 3 8 = mVDIFF ∧
        ok vdiff (.rawCodeConvert 3 33 0 (-2) none) (fun h => h.rd (Addr.EXC_FORCE 3) == 0xFFFE#32 && (h.spire 3).forceRd == [(0, -2)])
        fun a => a == Addr.EXC_FORCE 3) ∧
    (ok vdiff (.rawCodeConvert 3 34 0 5 none) (fun h => (h.spire 3).refSum == 5 && (h.spire 3).refCount == 1) fun _ => false) ∧
    (ok vdiff (.rawCodeConvert 3 35 0 7 none) (fun h => (h.spire 3).tempSum == 7 && (h.spire 3).tempCount == 1) fun _ => false) ∧
    (same { vdiff with raw := 5242880#80 } (.rawCodeConvert 3 35 1 7 none) ∧ same vdiff (.rawCodeConvert 3 33 1 7 none)) ∧
    (ok (st 1 [] fun h => h.setSpire 3 { injQ := [{ who := .ext 5, node := 1, hold := 1 }, { who := .ctest 8, node := 0 }] })
        (.rawCodeConvert 3 36 0 9 none) (fun h => (h.spire 3).injQ.map (fun e => e.codes) == [[], [(0, 9)]] &&
          (h.chan 104).ctestAt == some 0) fun _ => false) ∧
    (same (st 1 [] fun h => (h.setActive (Addr.FE_CFG 3 8) (wd mVDIFF)).setActive (Addr.SLOT_TBL 3 2) 8#32) (.rawCodeConvert 3 2 0 5 none)) ∧
    (same (st 0 []) (.rawCodeConvert 3 2 0 5 none)) ∧
    (vrun.hub.acquires 0 ∧ vrun.hub.missingAt 3 8 (vrun.hub.heldAt 3 8 0 false) = false ∧ ok vrun (.rawCodeConvert 3 2 0 32767 none) (fun h =>
        (h.chan 104).raw.map (fun x => (x.idx, x.code, x.ovr)) == [(0, 32767, true)] &&
        h.bit (Addr.FE_OVR 3) 8) fun a => a == Addr.FE_OVR 3 || a == Addr.SEN_NOISE 3 8) ∧
    (ok (st 1 [(Addr.ROT_STATUS 3, wd (64 * rotSHADOW))] fun h => h.setActive (Addr.FE_CFG 3 8) (wd mVDIFF))
        (.rawCodeConvert 3 2 0 5 (some (100, -60))) (fun h => (h.spire 3).cmpPairs == 1 && (h.spire 3).cmpSum == -160 &&
          (h.spire 3).cmpPeak == 160)) ∧
    (ok (st 1 [(Addr.ROT_STATUS 3, wd (64 * rotSHADOW))] fun h => h.setActive (Addr.FE_CFG 3 8) (wd mVDIFF))
        (.rawCodeConvert 3 2 0 5 (some (524287, -60))) (fun h => (h.spire 3).cmpPairs == 0)) ∧
    (ok (st 1 [] fun h => h.setSpire 3 { refSum := 4096 * 16384 + 16385, refCount := 4096 }) (.refCheckAverage 3) (fun h =>
        h.bit (Addr.SPIRE_STATUS 3) 4 && lg 11 vdiff h && h.trimState 3 == 1 && (h.spire 3).refCount == 0 &&
        h.fld (Addr.TRIM_STATUS 3) 2 3 == 2 && h.bit Addr.CALC_TRIM_PEND 3)
        fun a => a == Addr.SPIRE_STATUS 3 || a == Addr.TRIM_STATUS 3 || a == Addr.CALC_TRIM_PEND || inLog a) ∧
    (ok (st 1 [] fun h => h.setSpire 3 { refSum := 4096 * 16384 - 16384, refCount := 4096 }) (.refCheckAverage 3)
        (fun h => (h.spire 3).refCount == 0) fun _ => false) ∧
    (same (st 1 [] fun h => h.setSpire 3 { refSum := 0, refCount := 4095 }) (.refCheckAverage 3)) ∧
    (same vdiff (.rawCodeConvert 3 2 0 5 none)) ∧
    ((vdiff.hub.spireAt 3 0).off = false ∧ ok vdiff (.rawCodeConvert 3 32 0 (-7) none) (fun h => h.rd (Addr.EXC_SENSE 3) == 0xFFF9#32 &&
        (h.spire 3).senseRd == [(0, -7)] && (h.spire 3).sense.map (·.code) == [-7]) fun a => a == Addr.EXC_SENSE 3) := by
  decide +kernel

def inj (q : List InjEntry) (l : List (Nat × Word) := []) : State := st 1 l fun h => h.setSpire 15 { injQ := q }

/-- Meets the hypotheses of InjectedConversions. -/
theorem test_injected_conversions :
    (may (inj []) 5 (Addr.INJ_REQ 15) ∧ ok (inj []) (.injReq 5 15 0x4A#32) (fun h => h.rd (Addr.INJ_RES 15 5) == 0x01030000#32)
        fun a => a == Addr.INJ_RES 15 5) ∧
    (ok (inj [] [(Addr.INJ_RES 15 5, 0x02000000#32), (Addr.INJ_BUSY_CNT 15, 0xFFFF#32)]) (.injReq 5 15 0x49#32)
        (fun h => h.rd (Addr.INJ_BUSY_CNT 15) == 0xFFFF#32) fun _ => false) ∧
    (ok (inj [] [(Addr.INJ_QUEUE 15, 0x60#32)]) (.injReq 5 15 0x49#32) (fun h => h.fld (Addr.INJ_RES 15 5) 16 8 == 2 &&
        h.bit (Addr.INJ_RES 15 5) 24 && h.rd (Addr.INJ_BUSY_CNT 15) == 1#32)
        fun a => a == Addr.INJ_RES 15 5 || a == Addr.INJ_BUSY_CNT 15) ∧
    (ok (inj [{ who := .ext 1, node := 3 }, { who := .probe 2, node := 3 }, { who := .probe 3, node := 3 }] [(Addr.INJ_QUEUE 15, 0xB#32)]) (.injReq 5 15 0x49#32)
        (fun h => h.bit (Addr.INJ_RES 15 5) 25 && (h.spire 15).injQ.length == 4 && h.rd (Addr.INJ_QUEUE 15) == 0x14#32)
        fun a => a == Addr.INJ_RES 15 5 || a == Addr.INJ_QUEUE 15) ∧
    (ok (inj [{ who := .ext 1, node := 3 }]) (.internalInjRequest 15 (.probe 2) 64) (fun h => (h.spire 15).injQ.map (·.hold) == [0, 1] &&
        h.fld (Addr.INJ_QUEUE 15) 0 3 == 2) fun a => a == Addr.INJ_QUEUE 15) ∧
    (ok (inj [] [(Addr.INJ_QUEUE 15, 0xA0#32)]) (.internalInjRequest 15 (.probe 2) 64) (fun h => (h.spire 15).injQ.isEmpty &&
        (h.spire 15).injWait.length == 1) fun _ => false) ∧
    ((inj []).hub.standby = false ∧ ok (inj [{ who := .probe 2, node := 3 }, { who := .ext 1, node := 3, hold := 12500001, codes := [(12500001, -32768)] }]
        [(Addr.INJ_RES 15 1, 0x02000000#32)]) (.injComplete 15) (fun h => h.rd (Addr.INJ_RES 15 1) == 0x05008000#32 &&
        h.rd (Addr.INJ_TIME 15 1) == 80#32 && (h.spire 15).injQ.length == 1)
        fun a => a == Addr.INJ_RES 15 1 || a == Addr.INJ_TIME 15 1 || a == Addr.INJ_QUEUE 15) := by
  decide +kernel

def rot (s : Nat) (f : Hub → Hub := id) (l : List (Nat × Word) := []) : State :=
  st 1 l fun h => f (h.setFld (Addr.ROT_STATUS 2) 6 3 s)

def cmp (k : Nat) (sum : Int) (peak : Nat) : State := { rot rotSHADOW (fun h => h.setSpire 2
  { cmpPairs := k, cmpSum := sum, cmpPeak := peak }) with raw := BitVec.ofNat 80 (20480 * 65536) }

/-- Meets the hypotheses of SliceRotation. -/
theorem test_slice_rotation :
    (ok (rot rotCAL id [(Addr.CALC_STATUS, 1#32)]) (.spareCalStart 2) (fun h => (h.spire 2).calRunning) fun _ => false) ∧
    (solveOk 4096 1105954078 (-64) ∧ ok (rot rotCAL fun h => h.setSpire 2 { calRunning := true }) (.sliceCalComplete 2 4096 1105954078 (-64) [1#32, 2#32])
        (fun h => h.rd (Addr.SLICE_COEF 2 5 1) == 2#32 && h.rotState 2 == rotSHADOW && !(h.spire 2).calRunning)
        fun a => a == Addr.ROT_STATUS 2 || (List.range 32).any fun k => a == Addr.SLICE_COEF 2 5 k) ∧
    (may (rot rotPARKED) 5 (Addr.ROT_CFG 2) ∧ ok (rot rotPARKED) (.rotEnable 5 2 0x10101#32) (fun h => h.rotState 2 == rotSHADOW &&
        h.rd (Addr.ROT_CFG 2) == 0x10101#32) fun a => a == Addr.ROT_CFG 2 || a == Addr.ROT_STATUS 2) ∧
    (ok (cmp 1024 8192 512) (.swapCompareDone 2) (fun h => h.rotState 2 == rotVERDICT && h.fld (Addr.SWAP_RESULT 2) 24 3 == 0 &&
        h.fld (Addr.SWAP_RESULT 2) 0 16 == 8) fun a => a == Addr.SWAP_RESULT 2 || a == Addr.ROT_STATUS 2) ∧
    (ok (cmp 1024 (-9216) 512) (.swapCompareDone 2) (fun h => h.fld (Addr.SWAP_RESULT 2) 24 3 == 1)) ∧
    (ok (cmp 1024 0 528) (.swapCompareDone 2) (fun h => h.fld (Addr.SWAP_RESULT 2) 24 3 == 2)) ∧
    (ok (cmp 1023 0 528) (.swapCompareDone 2) (fun h => h.fld (Addr.SWAP_RESULT 2) 24 3 == 3)) ∧
    (same { cmp 1024 0 0 with raw := BitVec.ofNat 80 (20479 * 65536) } (.swapCompareDone 2)) ∧
    (ok (rot rotVERDICT id [(Addr.SWAP_RESULT 2, 0#32)]) (.swapVerdict 2) (fun h => h.rotState 2 == rotGAPWAIT) fun a => a == Addr.ROT_STATUS 2) ∧
    (ok (rot rotVERDICT (fun h => h.setFld (Addr.ROT_STATUS 2) 3 3 4) [(Addr.SWAP_RESULT 2, 0#32)]) (.swapVerdict 2) (fun h => h.rotState 2 == rotDRAIN)
        fun a => a == Addr.ROT_STATUS 2) ∧
    (ok (rot rotVERDICT id [(Addr.SWAP_RESULT 2, 0x03000000#32)]) (.swapVerdict 2) (fun h => h.rotState 2 == rotSHADOW)
        fun a => a == Addr.ROT_STATUS 2) ∧
    (ok (rot rotVERDICT id [(Addr.SWAP_RESULT 2, 0x01000000#32)]) (.swapVerdict 2) (fun h => h.rotState 2 == rotCAL &&
        h.fld (Addr.ROT_STATUS 2) 15 4 == 1 && (h.spire 2).calRunning && h.rd (Addr.SWAP_ABORT_CNT 2) == 1#32)
        fun a => a == Addr.ROT_STATUS 2 || a == Addr.SWAP_ABORT_CNT 2 || inLog a) ∧
    (ok (rot rotVERDICT id [(Addr.SWAP_RESULT 2, 0x02000000#32), (Addr.ROT_CFG 2, 0xA0101#32)]) (.swapVerdict 2) (fun h =>
        h.rotState 2 == rotSTALLED && h.bit (Addr.SPIRE_STATUS 2) 5 && h.bit (Addr.ROT_STATUS 2) 14)
        fun a => a == Addr.ROT_STATUS 2 || a == Addr.SPIRE_STATUS 2 || inLog a) ∧
    (ok (rot rotDRAIN) (.drainQueueClose 2) (fun h => h.rotState 2 == rotGAPWAIT && h.rd (Addr.INJ_QUEUE 2) == 0x60#32)
        fun a => a == Addr.ROT_STATUS 2 || a == Addr.INJ_QUEUE 2 || a == Addr.SPIRE_STATUS 2) ∧
    (ok (rot rotDRAIN id [(Addr.INJ_QUEUE 2, 0x9#32)]) (.drainForced 2) (fun h => h.rotState 2 == rotDRAIN &&
        h.bit (Addr.ROT_STATUS 2) 19 && h.bit (Addr.INJ_QUEUE 2) 5)
        fun a => a == Addr.ROT_STATUS 2 || a == Addr.INJ_QUEUE 2 || a == Addr.SPIRE_STATUS 2) ∧
    ((rot rotGAPWAIT).hub.swapDue 2 ∧ (rot rotGAPWAIT).hub.sys.swapAt = none ∧
        ok (rot rotGAPWAIT) (.sliceSwap 2) (fun h => h.rd (Addr.SLICE_MAP 2) == 0x043215#32 && h.rotState 2 == rotCAL &&
        h.rd (Addr.SWAP_CNT 2) == 1#32 && h.target 2 == 1)
        fun a => a == Addr.SLICE_MAP 2 || a == Addr.ROT_STATUS 2 || a == Addr.SWAP_CNT 2) := by
  decide +kernel

def fic (l : List (Nat × Word) := []) (f : Hub → Hub := id) : State := st 1 l f
def ucv : List (Nat × Word) := [(userCurveBase 15 47 + 4, 0x3F800000#32)]

/-- Meets the hypotheses of FilterCommit. -/
theorem test_filter_commit :
    (may (fic) 5 (Addr.FI_CTRL 15) ∧ (fic).hub.planLoaded = false ∧ ((List.range 32).all fun c => (filtFault (fic).hub 15 c).isNone) ∧
        ok (fic) (.filterCommit 5 15 1#32) (fun h => h.bit (Addr.FI_STATUS 15) 0 && ((h.filt 15).staged.map List.length) == some 256)
        fun a => a == Addr.FI_STATUS 15) ∧
    (ok (fic [(Addr.FI_STATUS 15, 1#32)]) (.filterCommit 5 15 1#32) (fun h => h.fld (Addr.FI_COMMIT_STATUS 15) 0 8 == 2)
        fun a => a == Addr.FI_COMMIT_STATUS 15) ∧
    (ok (fic [(Addr.FCH_CFG 15 31, 7#32), (Addr.FCH_CFG 15 30, 0x335#32)]) (.filterCommit 5 15 1#32)
        (fun h => h.rd (Addr.FI_COMMIT_STATUS 15) == 0x00041E03#32) fun a => a == Addr.FI_COMMIT_STATUS 15) ∧
    (ok (fic [] fun h => h.setFilt 15 { staged := some [(Addr.FCH_CFG 15 31, 0x31#32)] }) (.filterCommitApply 15)
        (fun h => h.active (Addr.FCH_CFG 15 31) == 0x31#32 && (h.filt 15).staged.isNone && h.active (Addr.FCH_CFG 15 30) == 0x35#32)
        fun a => a == Addr.SEN_NOISE 15 31 || a == Addr.FI_STATUS 15) ∧
    (may (fic) 5 (userCurveBase 15 47 + 1036) ∧ ok (fic) (.userCurveWrite 5 15 15 259 7#32)
        (fun h => h.rd (userCurveBase 15 47 + 1036) == 7#32) fun a => a == userCurveBase 15 47 + 1036) ∧
    (ok (fic) (.userCurveWrite 5 15 15 3 7#32) (fun _ => true) (fun _ => false) ∧
        ok (fic) (.userCurveWrite 5 15 15 511 7#32) (fun _ => true) fun _ => false) ∧
    (ok (fic ucv) (.userCurveWrite 5 15 15 2 0xFFFFFFF9#32) (fun h => h.rd (userCurveBase 15 47 + 8) == 1#32)
        fun a => a == userCurveBase 15 47 + 8) ∧
    (ok (fic ucv) (.userCurveWrite 5 15 15 2 4#32) (fun h => lg 1 (fic ucv) h) inLog) ∧
    (ok (fic) (.userCurveWrite 5 15 15 2 1#32) (fun h => lg 1 (fic) h) inLog) ∧
    (ok (st 4 []) (.userCurveWrite 5 15 15 0 1#32) (fun h => lg 1 (st 4 []) h) inLog) := by
  decide +kernel

def flt (k : Nat) : State := st 3 [] fun h => (((h.setActive (Addr.FCH_CFG 15 31) 0x10#32).setActive (Addr.FCH_LEN1 15 31)
  1#32).setActive (Addr.FCH_DECIM 15 31) 1#32).setChan 511 { nextK := k }

def fls (x : RawSample) : State := st 3 [(Addr.TRIM_GAIN 15 31, 0x40000000#32)] fun h => ((((h.setActive (Addr.FCH_CFG 15 31) 0x10#32).setActive
  (Addr.FCH_LEN1 15 31) 1#32).setActive (Addr.FCH_DECIM 15 31) 1#32).setActive (Addr.FE_CFG 15 31) (wd mVDIFF)).setChan 511
  { raw := [x] }

/-- Meets the hypotheses of FilterOutputs. -/
theorem test_filter_outputs :
    ((flt 0).hub.running ∧ ok (flt 0) (.filterOutput 15 31) (fun h => (h.chan 511).outs.map (fun o => (o.k, o.flags, o.instant)) ==
        [(0, 136, 0)] && h.rd (Addr.FI_HOLE_CNT 15) == 1#32 && h.rd (Addr.FI_ABSENT_CNT 15) == 1#32)) ∧
    ((flt 1).hub.timeAt 0 = 0 ∧ ok (flt 1) (.filterOutput 15 31) (fun h => (h.chan 511).outs.isEmpty) fun _ => false) ∧
    ((st 1 []).hub.running = false ∧ ok (st 1 []) (.filterOutput 15 31) (fun h => (h.chan 511).outs.isEmpty) fun _ => false) ∧
    ((fls { idx := 0, code := 1000 }).hub.running ∧ ok (fls { idx := 0, code := 1000 }) (.filterOutput 15 31) (fun h => (h.chan 511).outs.map (fun o => (o.value, o.flags)) ==
        [(0x02710000#32, 0)] && (h.chan 511).nextK == 1)) ∧
    (ok (fls { idx := 0, code := 1000, brk := true }) (.filterOutput 15 31) (fun h => (h.chan 511).outs.map (·.flags) == [32])) := by
  decide +kernel

def sen (q : Sentry) (f : Hub → Hub := id) : State := st 1 [(Addr.SEN_CFG 15 31, 0x4061#32)] fun h => f (h.setChan 511 { sen := q })
def crossed : Sentry := { cross := true, tapIdx := some 40, dev := 9 }

/-- Meets the hypotheses of SentryHits. -/
theorem test_sentry_hits :
    (ok (sen crossed) (.sentryHitStart 15 31) (fun h => (h.chan 511).sen.st == .hit && (h.chan 511).sen.hit.counts == 1 &&
        (h.chan 511).sen.hit.peak == 9 && h.rd (Addr.SEN_HIT_CNT 15 31) == 1#32 && (h.filt 15).hits.length == 1)
        fun a => a == Addr.SEN_HIT_CNT 15 31) ∧
    (ok (sen crossed fun h => h.setFilt 15 { hits := List.replicate 64 (0, 0) }) (.sentryHitStart 15 31) (fun h =>
        (h.filt 15).hits.length == 64 && (h.filt 15).lost.length == 1 && h.rd (Addr.SEN_LOST_CNT 15) == 1#32)
        fun a => a == Addr.SEN_HIT_CNT 15 31 || a == Addr.SEN_LOST_CNT 15) ∧
    ((sen {} fun h => h.setFilt 15 { hits := List.replicate 63 (0, 0), lost := [(511, 7)] }).hub.sys.powered ∧
        ((sen {} fun h => h.setFilt 15 { hits := List.replicate 63 (0, 0), lost := [(511, 7)] }).hub.filt 15).lost = [(511, 7)]) ∧
    (ok (sen { st := .hit, tapIdx := some 10000 }) (.sentryHitEnd 15 31) (fun h => (h.chan 511).sen.st == .lockout) fun _ => false) ∧
    (same (sen { st := .hit, tapIdx := some 9999 }) (.sentryHitEnd 15 31)) ∧
    (ok (sen { st := .hit, tapIdx := some 1048576 }) (.sentryHitLong 15 31) (fun h => (h.chan 511).sen.st == .lockout) fun _ => false) ∧
    (ok (sen { st := .lockout, tapIdx := some 22500 }) (.sentryLockoutEnd 15 31) (fun h => (h.chan 511).sen.st == .quiet) fun _ => false) := by
  decide +kernel

def trm (x : Nat) (l : List (Nat × Word) := []) (f : Hub → Hub := id) : State := st 1 ((Addr.TRIM_STATUS 15, wd x) :: l) f
def trimmed : TrimResult := { chans := [(0#32, 0x40000000#32, 1#32), (0x08000001#32, 0x40000000#32, 1#32)], snsOfs := 5#32,
                              snsGain := 6#32, vref := 7#32 }

/-- Meets the hypotheses of TrimScheduling. -/
theorem test_trim_scheduling :
    (ok (trm 0 [] fun h => h.setSpire 15 { tempSum := -640, tempCount := 10 }) (.tempUpdate 15) (fun h => h.rd (Addr.TEMP_NOW 15) == 0xFFC0#32 && h.rd (Addr.TRIM_STATUS 15) == 5#32 &&
        h.bit Addr.CALC_TRIM_PEND 15) fun a => a == Addr.TEMP_NOW 15 || a == Addr.TRIM_STATUS 15 || a == Addr.CALC_TRIM_PEND) ∧
    (ok (trm 0) (.tempUpdate 15) (fun _ => true) fun _ => false) ∧
    (ok (trm 0 [] fun h => { h with sys.pllLocked := true }) (.dieTempRead 0x12345#32) (fun h => h.rd Addr.CALC_DIE_TEMP == 0x2345#32)
        fun a => a == Addr.CALC_DIE_TEMP) ∧
    (ok (trm 1 [(Addr.CALC_TRIM_CFG, 0x80000#32)]) (.trimHoldMaxReached 15) (fun h => h.rd (Addr.TRIM_STATUS 15) == 0x21#32) fun a => a == Addr.TRIM_STATUS 15) ∧
    (same (trm 1) (.trimHoldMaxReached 15)) ∧
    ((trm 1).hub.trimChoice = some 15 ∧ ok (trm 1 [(Addr.TEMP_NOW 15, 9#32)]) .trimEvaluation (fun h => h.trimState 15 == trimISSUED &&
        h.fld Addr.CALC_STATUS 3 5 == 15 && h.rd (Addr.TEMP_LAST_TRIM 15) == 9#32 && h.rd (Addr.INJ_QUEUE 15) == 0xA0#32)) ∧
    (same (trm 2) .trimEvaluation ∧ same (trm 3) .trimEvaluation) ∧
    (ok (trm 2 [] fun h => h.setRot 15 rotVERDICT) (.trimStart 15) (fun h => h.trimState 15 == trimACTIVE && h.bit (Addr.SPIRE_STATUS 15) 2 &&
        h.rotState 15 == rotSHADOW) fun a => a == Addr.TRIM_STATUS 15 || a == Addr.SPIRE_STATUS 15 || a == Addr.ROT_STATUS 15) ∧
    (ok (trm 3 [(Addr.SPIRE_STATUS 15, 4#32)]) (.trimEnd 15 trimmed) (fun h => h.trimState 15 == trimNONE && !h.bit (Addr.SPIRE_STATUS 15) 2 &&
        h.rd (Addr.TRIM_CNT 15) == 1#32 && h.rd (Addr.SNS_TRIM_OFS 15) == 5#32 && h.rd (Addr.TRIM_IRTD 15 0) == 1#32 &&
        h.bit (Addr.TRIM_FAIL_MASK 15) 1 && !h.bit (Addr.TRIM_FAIL_MASK 15) 0)) ∧
    (same { (trm 3 [] fun h => { h with sys.trimLast := some 0 }) with raw := BitVec.ofNat 80 (4999 * frameU) } (.trimEnd 15 trimmed)) := by
  decide +kernel

def cmd (op arg m : Nat) (l : List (Nat × Word) := []) (f : Hub → Hub := id) : State :=
  st m ([(Addr.BIND 0, bindWord spi belfry 1 true), (Addr.BIND 1, bindWord belfry spi 0 true), (Addr.MB_STATUS 0, 1#32),
    (Addr.MB_PEEK 0, wd (op * 2 ^ 24 + 0x5A0000 + arg))] ++ l) f
def waits (s : State) (op arg : Nat) : Bool :=
  s.hub.sys.powered && s.hub.commandReady 0 && s.hub.respOk 0 && s.hub.mbSender 0 != belfry && !s.hub.mbFull (s.hub.mbResp 0) &&
    bitsOf (s.hub.rd (Addr.MB_PEEK 0)) 24 8 == op && bitsOf (s.hub.rd (Addr.MB_PEEK 0)) 0 16 == arg
def resp (w : Word) (h : Hub) : Bool :=
  !h.mbFull 0 && !h.inflight 0 && h.mbFull 1 && h.rd (Addr.MB_PEEK 1) == w
def flying (h : Hub) : Bool := !h.mbFull 0 && h.inflight 0

/-- Meets the hypotheses of CalibrationStore. -/
theorem test_calibration_store :
    ((st 0 [] fun h => { h with sys.pllLocked := true }).hub.mode = .boot ∧ (st 0 []).hub.firmware ∧ (st 0 []).hub.sys.image = [] ∧
        (st 0 []).hub.bit Addr.CALC_STATUS 0 = false) ∧
    (waits (cmd 0x23 0 1) 0x23 0 ∧ ok (cmd 0x23 0 1) (.calSave 0) (fun h => flying h && h.sys.calSave == some 0 && h.bit Addr.CALC_STATUS 2)) ∧
    (ok (cmd 0x23 0 1 [] fun h => { h with sys.calSave := some 7 }) (.calSave 0) (fun h => resp 0x025A0000#32 h)) ∧
    ((st 1 [] fun h => { h with sys.calSave := some 7 }).hub.noTrimActive) ∧
    (waits (cmd 0x24 0 1) 0x24 0 ∧ ok (cmd 0x24 0 1 [] fun h => h.domeBytes saveBase [0, 0, 0, 0]) (.calRestore 0) (fun h => resp 0x075A0000#32 h &&
        h.fld Addr.CALC_SAVE_STATUS 8 8 == 7)) ∧
    (ok (st 1 [] fun h => { h with sys.calRestore := some 7, sys.calImage := [(Addr.TRIM_OFS 15 31, 5#32), (Addr.SLICE_COEF 15 5 31, 9#32)] })
        .calRestoreApply (fun h => h.rd (Addr.TRIM_OFS 15 31) == 5#32 && h.rd (Addr.SLICE_COEF 15 5 31) == 0#32 && h.sys.calRestore.isNone)) := by
  decide +kernel

def srv (l : List (Nat × Word) := []) (m : Nat := 1) (f : Hub → Hub := id) : State := st m l f 1000
def ppm : List (Nat × Word) := [(Addr.SERVO_RATE_LO, 0x6BCC41E3#32 + 0x2FB36F80#32)]
def due (k : ServoKind) : State :=
  srv [] 1 fun h => { h with lan.staged := some { kind := k, rate := 140737488355, step := -65536, set := 5, rc := 65536 * 1000 } }

/-- Meets the hypotheses of ServoCommits. -/
theorem test_servo_commits :
    (may (srv) 0 Addr.SERVO_CTRL ∧ (srv).hub.timeFixed = false ∧ (srv).hub.servoRate = 0 ∧ (srv).hub.lan.staged = none ∧
        ok (srv) (.servoCommitStep 8 2#32) (fun h => h.rd Addr.SERVO_STATUS == 0x100#32 &&
        (h.lan.staged.map fun c => (c.kind, c.rc)) == some (.step, 65536 * 1004)) fun a => a == Addr.SERVO_STATUS) ∧
    ((srv [(Addr.SERVO_RATE_LO, 0xC49BA5E3#32), (Addr.SERVO_RATE_HI, 0x20#32)]).hub.servoRate = 140737488355 ∧
        ok (srv [(Addr.SERVO_RATE_LO, 0xC49BA5E4#32), (Addr.SERVO_RATE_HI, 0x20#32)]) (.servoCommitRate 0 1#32)
        (fun h => h.rd Addr.SERVO_STATUS == 3#32 && h.lan.staged.isNone) fun a => a == Addr.SERVO_STATUS) ∧
    (ok (srv [(Addr.SERVO_SET0, 0xCA000000#32), (Addr.SERVO_SET1, 0x3B9A#32)]) (.servoCommitSet 0 3#32)
        (fun h => h.rd Addr.SERVO_STATUS == 3#32) fun a => a == Addr.SERVO_STATUS) ∧
    (ok (due .rate) (.servoCommitRate 0 1#32) (fun h => h.rd Addr.SERVO_STATUS == 2#32) fun a => a == Addr.SERVO_STATUS) ∧
    ((srv [] 3).hub.timeFixed ∧ ok (srv [] 3) (.servoCommitSet 8 2#32) (fun h => h.rd Addr.SERVO_STATUS == 1#32) fun a => a == Addr.SERVO_STATUS) ∧
    (ok (srv) (.servoCommitRate 1 1#32) (fun h => lg 0 (srv) h && h.lan.staged.isNone) inLog) ∧
    ((due .step).hub.armed 15 = false ∧ ok (due .rate) .servoCommitApply (fun h => h.rate == 140737488355 && h.lan.staged.isNone &&
        h.timeAt (65536 * 1000) == 65536 * 1000)) ∧
    (ok (due .step) .servoCommitApply (fun h => h.timeAt (65536 * 1000) == 65536 * 999 && h.bit Addr.GRID_STATUS 2)) ∧
    (ok (due .set) .servoCommitApply (fun h => h.timeAt (65536 * 1000) == 5 && h.bit Addr.GRID_STATUS 2)) ∧
    (same { due .set with raw := BitVec.ofNat 80 (65536 * 1000 - 1) } .servoCommitApply) ∧
    (may (srv) 4 Addr.TIME_NOW0 false ∧ ok (srv) (.timeNowRead 4) (fun h => (SMap.find h.lan.snaps 4).isSome) fun _ => false) := by
  decide +kernel

def tmS (x : Nat) (l : List (Nat × Word) := []) (m : Nat := 1) (f : Hub → Hub := id) : State := st m ((Addr.TIME_STATE, wd x) :: l) f (14400 * 10 ^ 9)
def lcks : List (Nat × Word) := [(Addr.TIME_SRC, 1#32), (Addr.LOCK_CFG, 0x1000C8#32)]

def lkM (t : Nat) (x : Int) (g b : Nat) : State :=
  tmS t lcks 1 fun h => { h with lan.meas := some { theta := x, clock := h.clock }, lan.good := g, lan.bad := b }
def tmG (x : Nat) : State := tmS 0 [] 1 fun h => { h with sys.pllLocked := true, lan.gridLogged := some x }
def tmM (x : Int) : State := tmS 2 lcks 1 fun h => { h with lan.meas := some { theta := x, clock := h.clock } }

/-- Meets the hypotheses of TimeSourcesAndTheGrid. -/
theorem test_time_sources_and_the_grid :
    (ok (tmS 1) .refclkLoss (fun h => h.rd Addr.LAN_STATUS == 6#32 && h.timeState == 0 && lg 15 (tmS 1) h)
        fun a => a == Addr.LAN_STATUS || a == Addr.TIME_STATE || inLog a) ∧
    (ok (tmS 0 [(Addr.LAN_STATUS, 6#32)] 1 fun h => { h with sys.pllLocked := true }) .refclkReturn (fun h => h.rd Addr.LAN_STATUS == 3#32)
        fun a => a == Addr.LAN_STATUS) ∧
    ((tmS 2 lcks).hub.fld Addr.TIME_SRC 0 2 ≠ 0 ∧ ok (tmM (-2000)) .servoMeasurement
        (fun h => h.timeState == 1 && (h.lan.staged.map (·.kind)) == some .rate) fun a => a == Addr.SERVO_STATUS || a == Addr.TIME_STATE) ∧
    (same (tmS 2 lcks) .servoMeasurement ∧ (tmM 7).hub.lan.meas = some { theta := 7, clock := (tmM 7).hub.clock }) ∧
    (ok (tmM 1000001) .servoMeasurement (fun h => h.timeState == 0 && (h.lan.staged.map (·.kind)) == some .step)
        fun a => a == Addr.SERVO_STATUS || a == Addr.TIME_STATE) ∧
    (ok (tmS 1) .timeHoldoverEnter (fun h => h.timeState == 2 && h.lan.holdStart == 65536 * 14400 * 10 ^ 9) fun a => a == Addr.TIME_STATE) ∧
    (ok (tmS 2) .holdoverTimeout (fun h => h.timeState == 0 && lg 15 (tmS 2) h) fun a => a == Addr.TIME_STATE || inLog a) ∧
    (waits (cmd 0x52 3 1) 0x52 3 ∧ ok (cmd 0x52 3 1) (.timeSource (.command 0)) (fun h => resp 0x005A0000#32 h && h.rd Addr.TIME_SRC == 3#32)) ∧
    (waits (cmd 0x52 2 1) 0x52 2 ∧ (cmd 0x52 2 1).hub.uplinkEnabled = false ∧
        ok (cmd 0x52 2 1) (.timeSource (.command 0)) (fun h => resp 0x015A0001#32 h && h.fld Addr.SYS_CMD_REJECT 0 16 == 1)) ∧
    (may (tmS 1) 5 Addr.TIME_SRC ∧ ok (tmS 1) (.timeSource (.write 5 1#32)) (fun h => h.rd Addr.TIME_SRC == 1#32)
        fun a => a == Addr.TIME_SRC || a == Addr.LOCK_CFG || a == Addr.TIME_STATE) ∧
    (ok (tmS 0 [] 1 fun h => { h with sys.pllLocked := true }) (.gridPhaseMeasure (-1001)) (fun h => h.rd Addr.GRID_ERR == 0xFC17#32 &&
        h.fld Addr.GRID_ERR_MAX 0 16 == 1001 && h.bit Addr.GRID_STATUS 1 && h.rd (Addr.ELOG_CLASS_CNT 16) == 1#32)
        fun a => a == Addr.GRID_ERR || a == Addr.GRID_ERR_MAX || a == Addr.GRID_PHASE || a == Addr.GRID_STATUS || inLog a) ∧
    (ok (tmS 0 [] 1 fun h => { h with sys.pllLocked := true }) (.gridPhaseMeasure 1000) (fun h => !h.bit Addr.GRID_STATUS 1)
        fun a => a == Addr.GRID_ERR || a == Addr.GRID_ERR_MAX || a == Addr.GRID_PHASE) ∧
    (may (tmS 0) 5 Addr.GRID_CTRL ∧ ok (tmS 0 [(Addr.GRID_STATUS, 1#32)]) (.realign 5 1#32) (fun h => h.rd Addr.GRID_STATUS == 4#32)
        fun a => a == Addr.GRID_STATUS) ∧
    (ok (tmS 0 [] 2) (.realign 5 1#32) (fun h => lg 1 (tmS 0 [] 2) h) inLog) ∧
    (ok (tmS 0 [(Addr.GRID_STATUS, 4#32)]) .gridAlignComplete (fun h => h.rd Addr.GRID_STATUS == 1#32)
        fun a => a == Addr.GRID_STATUS || a == Addr.GRID_PHASE) ∧
    (ok (lkM 0 2000 15 0) .servoMeasurement (fun h => h.timeState == 1) ∧
        ok (lkM 0 2000 14 0) .servoMeasurement (fun h => h.timeState == 0 && h.lan.good == 15)) ∧
    (ok (lkM 0 2001 15 0) .servoMeasurement (fun h => h.timeState == 0 && h.lan.good == 0)) ∧
    (ok (lkM 1 16001 0 3) .servoMeasurement (fun h => h.timeState == 0 && lg 15 (lkM 1 16001 0 3) h) ∧
        ok (lkM 1 (-16001) 0 2) .servoMeasurement (fun h => h.timeState == 1 && h.lan.bad == 3)) ∧
    (ok (tmG (14399 * 10 ^ 9 * 65536)) (.gridPhaseMeasure (-1001)) (fun h => h.rd (Addr.ELOG_CLASS_CNT 16) == 1#32)) ∧
    (ok (tmG (14399 * 10 ^ 9 * 65536 + 1)) (.gridPhaseMeasure 1001) (fun h => h.rd (Addr.ELOG_CLASS_CNT 16) == 0#32 && h.bit Addr.GRID_STATUS 1)) := by
  decide +kernel

def stamp (r : Nat) : TrigStamp := { time := 65536 * r, rise := true, tstate := 0 }
def tri (n : Nat) (l : List (Nat × Word) := [(Addr.TRIG_IN_CFG 4, 3#32)]) : State :=
  st 1 l (fun h => { h with lan.fifos := [(4, (List.range n).map stamp)] }) 1000

/-- Meets the hypotheses of TriggerInputsAndOutputs. -/
theorem test_trigger_inputs_and_outputs :
    ((tri 15).hub.fld (Addr.TRIG_IN_CFG 4) 0 3 = 3 ∧ (SMap.get [] (tri 15).hub.lan.fifos 4).length = 15 ∧ (SMap.get [] (tri 16).hub.lan.fifos 4).length = 16) ∧
    (same (tri 0) (.trigInEdge 4 false) ∧ same (tri 0 [(Addr.TRIG_IN_CFG 4, 6#32)]) (.trigInEdge 4 true)) ∧
    (may (tri 2) 1 (Addr.TRIG_IN_TS0 4) false ∧
        ok (st 1 [] fun h => { h with lan.fifos := [(4, [stamp 1])] }) (.trigInPop 1 4) (fun h => SMap.get 0#32 h.ctl.readData 1 == 0x10000#32 &&
        h.rd (Addr.TRIG_IN_INFO 4) == 3#32 && (SMap.get [] h.lan.fifos 4).isEmpty)
        fun a => a == Addr.TRIG_IN_TS1 4 || a == Addr.TRIG_IN_TS2 4 || a == Addr.TRIG_IN_INFO 4) ∧
    ((tri 0).hub.tstate = 0 ∧ ok (st 1 [(Addr.PPS_OUT_CFG, 3#32)]) .ppsOutPulse (fun h => h.pins.ppsOut == some 0) fun _ => false) ∧
    (same (tri 0 [(Addr.PPS_OUT_CFG, 3#32)]) .ppsOutPulse ∧ same (st 1 [(Addr.PPS_OUT_CFG, 1#32)]) .ppsOutPulse) ∧
    (ok (st 1 [(Addr.PPS_OUT_CFG, 0x103#32)] (fun h => { h with pins.ppsOut := some 0 }) 1000) .ppsOutPulseEnd (fun h => h.pins.ppsOut.isNone)
        fun _ => false) ∧
    (same (st 1 [(Addr.PPS_OUT_CFG, 0x103#32)] (fun h => { h with pins.ppsOut := some 0 }) 999) .ppsOutPulseEnd) ∧
    (ok (st 1 [(Addr.TRIG_OUT_CFG 3, 0xA20#32)] (fun h => { h with pins.trigOut := [(2, 0), (3, 65536)] }) 11) (.trigOutPulseEnd 3)
        (fun h => h.trigOutLevel 3 && h.trigOutLevel 2) fun _ => false) ∧
    (same (st 1 [(Addr.TRIG_OUT_CFG 3, 0xA20#32)] (fun h => { h with pins.trigOut := [(3, 65536)] }) 10) (.trigOutPulseEnd 3)) := by
  decide +kernel

def alm (x : Nat) (tgt : Nat) (act : Nat := 0) (m : Nat := 1) (per : Nat := 0) : State :=
  st m [(Addr.ALM_STATUS 15, wd x), (Addr.ALM_TGT0 15, wd (65536 * tgt)), (Addr.ALM_ACTION 15, wd act)]
    (fun h => { h with lan.alarms := [(15, { target := 65536 * tgt, action := act, per := per })] }) 1000
def prd (n : Nat) : State := { alm 0 1100 with hub := (alm 0 1100).hub.wr (Addr.ALM_PER 15) (wd n) }

/-- Meets the hypotheses of Alarms. -/
theorem test_alarms :
    (may (alm 0 1100) 8 (Addr.ALM_CTRL 15) ∧ ok (alm 0 1100 5) (.alarmArm 8 15 1#32) (fun h => h.rd (Addr.ALM_STATUS 15) == 0x100#32 &&
        SMap.get {} h.lan.alarms 15 == { target := 65536 * 1100, action := 5 }) fun a => a == Addr.ALM_STATUS 15) ∧
    (ok (alm 0 1099) (.alarmArm 0 15 1#32) (fun h => h.rd (Addr.ALM_STATUS 15) == 12#32) fun a => a == Addr.ALM_STATUS 15) ∧
    (ok (st 1 [(Addr.ALM_TGT1 0, 0x3B9A#32), (Addr.ALM_TGT0 0, 0xCA000000#32)]) (.alarmArm 5 0 1#32) (fun h => h.fld (Addr.ALM_STATUS 0) 0 8 == 3)
        fun a => a == Addr.ALM_STATUS 0) ∧
    (ok (alm 0x100 1001) (.alarmDisarm 8 15 2#32) (fun h => h.rd (Addr.ALM_STATUS 15) == 0#32) fun a => a == Addr.ALM_STATUS 15) ∧
    (may (alm 0 1100) 5 (Addr.ALM_CTRL 15) ∧ ok (alm 0 1100) (.alarmArm 5 15 1#32) (fun h => lg 1 (alm 0 1100) h) inLog) ∧
    (ok (alm 0x100 1000) (.alarmFire 15) (fun h => h.rd (Addr.ALM_FIRE_CNT 15) == 1#32 && !h.armed 15)
        fun a => a == Addr.ALM_STATUS 15 || a == Addr.ALM_FIRE_CNT 15) ∧
    (ok (alm 0x100 1000 0 1 65536) (.alarmFire 15) (fun h => h.armed 15 && (SMap.get {} h.lan.alarms 15).target == 65536 * 1001)) ∧
    (same (alm 0x100 1001) (.alarmFire 15) ∧ same (alm 0 999) (.alarmFire 15)) ∧
    ((alm 0x100 1000 8 2).hub.armed 15 ∧ (alm 0x100 1000 8 2).hub.mode = .armed ∧
        (SMap.get {} (alm 0x100 1000 8 2).hub.lan.alarms 15).target ≤ (alm 0x100 1000 8 2).hub.timeAt (65536 * 1000)) ∧
    (ok (prd 1000) (.alarmArm 8 15 1#32) (fun h => h.armed 15 && (SMap.get {} h.lan.alarms 15).per == 65536 * 1000) fun a => a == Addr.ALM_STATUS 15) ∧
    (ok (prd 999) (.alarmArm 8 15 1#32) (fun h => h.rd (Addr.ALM_STATUS 15) == 3#32 && !h.armed 15) fun a => a == Addr.ALM_STATUS 15) ∧
    (ok { prd 1000 with hub := (prd 1000).hub.wr (Addr.TRIG_OUT_CFG 3) 0x3E81E#32 } (.alarmArm 8 15 1#32)
        (fun h => h.fld (Addr.ALM_STATUS 15) 0 8 == 3) fun a => a == Addr.ALM_STATUS 15) := by
  decide +kernel

/-- Context 69 of Turret 1, READY at word 3 of 4, which is `w`; `g` and `l` give registers. -/
def ax (w : Word) (g : List (Nat × Word) := []) (l : List (Nat × Word) := []) (f : Hub → Hub := id) (x : Ctx := {}) (m : Nat := 3) : State :=
  st m ([(Addr.CTX_PC 1 5, 3#32), (Addr.CTX_BUDGET 1 5, 100#32)] ++ g.map (fun p => (Addr.CTX_G 1 5 p.1, p.2)) ++ l)
    (fun h => f ({ h with sys.count := [(1, 4)], sys.ungated := [1], sys.code := [(16387, w)] }.setCtx 69 { x with st := .ready })) 1000

/-- What `comesTo` asks. -/
def comes (i : Amixel) (k : Nat) (u : Uses) (s : State) : Bool :=
  s.hub.sys.powered && s.hub.fetched 69 == some i && s.hub.canIssue 69 && !s.hub.jitters 1 &&
    decide ((s.hub.ctx 69).slots + k ≤ s.hub.fld (Addr.CTX_BUDGET 1 5) 0 24) && !s.hub.stalls 69 u

/-- The instruction goes through in `k` slots with its PC at `n`; registers that `p` does not name read as before. -/
def thru (s : State) (i : Amixel) (k : Nat) (u : Uses) (c : Instr) (n : Nat) (q : Hub → Bool) (p : Nat → Bool := fun _ => false) : Bool :=
  comes i k u s && ok s c (fun h => h.pc 69 == n && h.rd (Addr.TUR_ISSUE_CNT 1) == 1#32 && (h.ctx 69).slots == (s.hub.ctx 69).slots + k && q h)
    fun a => a == Addr.CTX_PC 1 5 || a == Addr.TUR_ISSUE_CNT 1 || a == Addr.CTX_SLOTS_MAX 1 5 || p a

/-- The instruction of `k` slots faults with `code`. -/
def flts (s : State) (i : Amixel) (k : Nat) (u : Uses) (c : Instr) (code : Nat) : Bool :=
  comes i k u s && ok s c (fun h => h.rd (Addr.CTX_FAULT 1 5) == wd (code + 768) && ((h.ctx 69).st == .halted || h.q 69 3))

/-- The context halts with ERANGE, whatever its policy (R222). -/
def hlts (s : State) (i : Amixel) (k : Nat) (u : Uses) (c : Instr) (z : CtxState := .halted) : Bool :=
  comes i k u s && ok s c (fun h => h.rd (Addr.CTX_FAULT 1 5) == 0x303#32 && (h.ctx 69).st == z && lg 20 s h)

def toG (d : Nat) (a : Nat) : Bool := a == Addr.CTX_G 1 5 d
def toW (d : Nat) (a : Nat) : Bool := a == Addr.CTX_W_LO 1 5 d || a == Addr.CTX_W_MID 1 5 d || a == Addr.CTX_W_HI 1 5 d
def toQ (a : Nat) : Bool := a == Addr.CTX_STATUS 1 5
def wreg (j : Nat) (v : BitVec 80) : List (Nat × Word) :=
  [(Addr.CTX_W_LO 1 5 j, wd v.toNat), (Addr.CTX_W_MID 1 5 j, wd (v.toNat / 2 ^ 32)), (Addr.CTX_W_HI 1 5 j, wd (v.toNat / 2 ^ 64))]

/-- Meets the hypotheses of ArithmeticInstructions. -/
theorem test_arithmetic_instructions_three :
    (thru (ax 0x07FB4000#32 [(14, 0xFFFFFFFF#32), (13, 2#32)]) (.add 15 14 13) 1 { g := [15, 14, 13] } (.amixelAdd 69) 4 (fun h => h.g 69 15 == 1#32) (toG 15)) ∧
    (thru (ax 0x0BFB4000#32 [(14, 1#32), (13, 2#32)]) (.sub 15 14 13) 1 { g := [15, 14, 13] } (.amixelSub 69) 4 (fun h => h.g 69 15 == 0xFFFFFFFF#32) (toG 15)) ∧
    (thru (ax 0x0FFB4000#32 [(14, 0x80000001#32), (13, 2#32)]) (.mul 15 14 13) 1 { g := [15, 14, 13] } (.amixelMul 69) 4 (fun h => h.g 69 15 == 2#32) (toG 15)) ∧
    (thru (ax 0x13FB4000#32 [(14, 0xFFFFFFFF#32), (13, 2#32)]) (.mulh false 15 14 13) 1 { g := [15, 14, 13] } (.amixelMulh 69) 4 (fun h => h.g 69 15 == 0xFFFFFFFF#32) (toG 15)) ∧
    (thru (ax 0x13FB4001#32 [(14, 0xFFFFFFFF#32), (13, 2#32)]) (.mulh true 15 14 13) 1 { g := [15, 14, 13] } (.amixelMulh 69) 4 (fun h => h.g 69 15 == 1#32) (toG 15)) ∧
    (thru (ax 0x17FB4000#32 [(14, 12#32), (13, 10#32)]) (.and_ 15 14 13) 1 { g := [15, 14, 13] } (.amixelAnd 69) 4 (fun h => h.g 69 15 == 8#32) (toG 15)) ∧
    (thru (ax 0x1BFB4000#32 [(14, 12#32), (13, 10#32)]) (.or_ 15 14 13) 1 { g := [15, 14, 13] } (.amixelOr 69) 4 (fun h => h.g 69 15 == 14#32) (toG 15)) ∧
    (thru (ax 0x1FFB4000#32 [(14, 12#32), (13, 10#32)]) (.xor_ 15 14 13) 1 { g := [15, 14, 13] } (.amixelXor 69) 4 (fun h => h.g 69 15 == 6#32) (toG 15)) := by
  decide +kernel

/-- Meets the hypotheses of ArithmeticInstructions. -/
theorem test_arithmetic_instructions_shift :
    (thru (ax 0x23F8003F#32 [(14, 0x80000003#32)]) (.shl 15 14 (.imm 31)) 1 { g := [15, 14] } (.amixelShl 69) 4 (fun h => h.g 69 15 == 0x80000000#32) (toG 15)) ∧
    (thru (ax 0x23FB4000#32 [(14, 0x80000003#32), (13, 33#32)]) (.shl 15 14 (.reg 13)) 1 { g := [15, 14, 13] } (.amixelShl 69) 4 (fun h => h.g 69 15 == 6#32) (toG 15)) ∧
    (thru (ax 0x27F8003F#32 [(14, 0x80000003#32)]) (.shr 15 14 (.imm 31)) 1 { g := [15, 14] } (.amixelShr 69) 4 (fun h => h.g 69 15 == 1#32) (toG 15)) ∧
    (thru (ax 0x27FB4000#32 [(14, 0x80000003#32), (13, 33#32)]) (.shr 15 14 (.reg 13)) 1 { g := [15, 14, 13] } (.amixelShr 69) 4 (fun h => h.g 69 15 == 0x40000001#32) (toG 15)) ∧
    (thru (ax 0x2BF8003F#32 [(14, 0x80000003#32)]) (.sar 15 14 (.imm 31)) 1 { g := [15, 14] } (.amixelSar 69) 4 (fun h => h.g 69 15 == 0xFFFFFFFF#32) (toG 15)) ∧
    (thru (ax 0x2BFB4000#32 [(14, 0x80000003#32), (13, 33#32)]) (.sar 15 14 (.reg 13)) 1 { g := [15, 14, 13] } (.amixelSar 69) 4 (fun h => h.g 69 15 == 0xC0000001#32) (toG 15)) := by
  decide +kernel

/-- Meets the hypotheses of ArithmeticInstructions. -/
theorem test_arithmetic_instructions_other :
    (thru (ax 0x2FFB4000#32 [(14, 0xFFFFFFFF#32), (13, 2#32)]) (.min_ false 15 14 13) 1 { g := [15, 14, 13] } (.amixelMin 69) 4 (fun h => h.g 69 15 == 0xFFFFFFFF#32) (toG 15)) ∧
    (thru (ax 0x2FFB4001#32 [(14, 0xFFFFFFFF#32), (13, 2#32)]) (.min_ true 15 14 13) 1 { g := [15, 14, 13] } (.amixelMin 69) 4 (fun h => h.g 69 15 == 2#32) (toG 15)) ∧
    (thru (ax 0x33FB4000#32 [(14, 0xFFFFFFFF#32), (13, 2#32)]) (.max_ false 15 14 13) 1 { g := [15, 14, 13] } (.amixelMax 69) 4 (fun h => h.g 69 15 == 2#32) (toG 15)) ∧
    (thru (ax 0x33FB4001#32 [(14, 0xFFFFFFFF#32), (13, 2#32)]) (.max_ true 15 14 13) 1 { g := [15, 14, 13] } (.amixelMax 69) 4 (fun h => h.g 69 15 == 0xFFFFFFFF#32) (toG 15)) ∧
    (thru (ax 0x37F80000#32 [(14, 0x80000000#32)]) (.abs_ 15 14) 1 { g := [15, 14] } (.amixelAbs 69) 4 (fun h => h.g 69 15 == 0x80000000#32) (toG 15)) ∧
    (thru (ax 0x3BF80000#32 [(14, 0#32)]) (.clz 15 14) 1 { g := [15, 14] } (.amixelClz 69) 4 (fun h => h.g 69 15 == 32#32) (toG 15)) ∧
    (thru (ax 0x3BF80000#32 [(14, 0x00010000#32)]) (.clz 15 14) 1 { g := [15, 14] } (.amixelClz 69) 4 (fun h => h.g 69 15 == 15#32) (toG 15)) ∧
    (thru (ax 0x3FF82000#32 [(14, 1#32)]) (.addi 15 14 0x2000#14) 1 { g := [15, 14] } (.amixelAddi 69) 4 (fun h => h.g 69 15 == 0xFFFFE001#32) (toG 15)) ∧
    (thru (ax 0x43C3FFFF#32) (.lui 15 0x3FFFF#18) 1 { g := [15] } (.amixelLui 69) 4 (fun h => h.g 69 15 == 0xFFFFC000#32) (toG 15)) ∧
    (thru (ax 0x47F83FFF#32 [(14, 0xFFFFFFFF#32)]) (.andi 15 14 0x3FFF#14) 1 { g := [15, 14] } (.amixelAndi 69) 4 (fun h => h.g 69 15 == 0x3FFF#32) (toG 15)) ∧
    (thru (ax 0x4BF82000#32 [(14, 0x80000000#32)]) (.ori 15 14 0x2000#14) 1 { g := [15, 14] } (.amixelOri 69) 4 (fun h => h.g 69 15 == 0x80002000#32) (toG 15)) := by
  decide +kernel

/-- Meets the hypotheses of WideAndFlowInstructions. -/
theorem test_wide_instructions :
    (thru (ax 0x4F380000#32 [(14, 0xFFFFFFF6#32)] (wreg 3 5#80)) (.wacc 3 14 0) 1 { g := [14], w := [3] } (.amixelWacc 69) 4 (fun h => h.w 69 3 == (-5)) (toW 3)) ∧
    (thru (ax 0x4F380001#32 [(14, 0xFFFFFF7F#32)] (wreg 3 5#80)) (.wacc 3 14 1) 1 { g := [14], w := [3] } (.amixelWacc 69) 4 (fun h => h.w 69 3 == 4#80) (toW 3)) ∧
    (thru (ax 0x4F380002#32 [(14, 0xFFFFFFFF#32)] (wreg 3 5#80)) (.wacc 3 14 2) 1 { g := [14], w := [3] } (.amixelWacc 69) 4 (fun h => h.w 69 3 == 0x100000004#80) (toW 3)) ∧
    (thru (ax 0x53380000#32 [(14, 0x80000000#32)] (wreg 3 5#80)) (.wsq 3 14 0) 2 { g := [14], w := [3] } (.amixelWsq 69) 4 (fun h => h.w 69 3 == 0x4000000000000005#80) (toW 3)) ∧
    (thru (ax 0x53380001#32 [(14, 0xFFFFFE80#32)] (wreg 3 5#80)) (.wsq 3 14 1) 2 { g := [14], w := [3] } (.amixelWsq 69) 4 (fun h => h.w 69 3 == 9#80) (toW 3)) ∧
    (thru (ax 0x53380002#32 [(14, 0xFFFFFFFF#32)] (wreg 3 5#80)) (.wsq 3 14 2) 2 { g := [14], w := [3] } (.amixelWsq 69) 4 (fun h => h.w 69 3 == 0xFFFFFFFE00000006#80) (toW 3)) ∧
    (thru (ax 0x55C02000#32 [] (wreg 3 1#80 ++ wreg 2 2#80)) (.wsub 1 3 2) 1 { w := [1, 3, 2] } (.amixelWsub 69) 4 (fun h => h.w 69 1 == -1) (toW 1)) ∧
    (thru (ax 0x59C0007F#32 [] (wreg 3 (-256))) (.wshr 1 3 (.imm 127)) 1 { w := [1, 3] } (.amixelWshr 69) 4 (fun h => h.w 69 1 == -1) (toW 1)) ∧
    (thru (ax 0x59C34080#32 [(13, 0x84#32)] (wreg 3 (-256))) (.wshr 1 3 (.reg 13)) 1 { g := [13], w := [1, 3] } (.amixelWshr 69) 4 (fun h => h.w 69 1 == -16) (toW 1)) ∧
    (thru (ax 0x63000000#32 [] (wreg 3 7#80)) (.wclr 3) 1 { w := [3] } (.amixelWclr 69) 4 (fun h => h.w 69 3 == 0) (toW 3)) ∧
    (thru (ax 0x5CFC0008#32 [] (wreg 3 0xFFFFFFFFFF00#80)) (.wrd 15 3 0 8) 1 { g := [15], w := [3] } (.amixelWrd 69) 4 (fun h => h.g 69 15 == 0xFFFFFFFF#32) (toG 15)) ∧
    (thru (ax 0x5CFC0108#32 [] (wreg 3 0xFFFFFFFFFF00#80)) (.wrd 15 3 1 8) 1 { g := [15], w := [3] } (.amixelWrd 69) 4 (fun h => h.g 69 15 == 0x7FFFFFFF#32) (toG 15)) ∧
    (thru (ax 0x5CFC0201#32 [] (wreg 3 3#80)) (.wrd 15 3 2 1) 2 { g := [15], w := [3] } (.amixelWrd 69) 4 (fun h => h.g 69 15 == 0x3FC00000#32) (toG 15)) ∧
    (thru (ax 0x5CFC0302#32 [] (wreg 3 0x64#80)) (.wrd 15 3 3 2) 4 { g := [15], w := [3] } (.amixelWrd 69) 4 (fun h => h.g 69 15 == 5#32) (toG 15)) ∧
    (flts (ax 0x5CFC037F#32 [] (wreg 3 (-1))) (.wrd 15 3 3 127) 4 { g := [15], w := [3] } (.amixelWrd 69) 3) := by
  decide +kernel

/-- Meets the hypotheses of WideAndFlowInstructions. -/
theorem test_compare_and_flow_instructions :
    (thru (ax 0x64FB4000#32 [(14, 4#32), (13, 4#32)] [(Addr.CTX_STATUS 1 5, 0#32)]) (.cmp 3 0 0 14 (.reg 13)) 1 { g := [14, 13], q := [3] } (.amixelCmp 69) 4 (fun h => h.q 69 3 == true) toQ) ∧
    (thru (ax 0x65FB4009#32 [(14, 4#32), (13, 4#32)] [(Addr.CTX_STATUS 1 5, 0#32)]) (.cmp 3 1 9 14 (.reg 13)) 1 { g := [14, 13], q := [3] } (.amixelCmp 69) 4 (fun h => h.q 69 3 == false) toQ) ∧
    (thru (ax 0x66FB4008#32 [(14, 4#32), (13, 4#32)] [(Addr.CTX_STATUS 1 5, 0x80#32)]) (.cmp 3 2 8 14 (.reg 13)) 1 { g := [14, 13], q := [3] } (.amixelCmp 69) 4 (fun h => h.q 69 3 == true) toQ) ∧
    (thru (ax 0x643BFFF2#32 [(14, 0xFFFFFFFE#32)] [(Addr.CTX_STATUS 1 5, 0#32)]) (.cmp 0 0 2 14 (.imm 0x1FFF#13)) 1 { g := [14], q := [0] } (.amixelCmp 69) 4 (fun h => h.q 69 0 == true) toQ) ∧
    (thru (ax 0x64380014#32 [(14, 0xFFFFFFFE#32)] [(Addr.CTX_STATUS 1 5, 0#32)]) (.cmp 0 0 4 14 (.imm 0#13)) 1 { g := [14], q := [0] } (.amixelCmp 69) 4 (fun h => h.q 69 0 == false) toQ) ∧
    (thru (ax 0x64380057#32 [(14, 1#32)] [(Addr.CTX_STATUS 1 5, 0#32)]) (.cmp 0 0 7 14 (.imm 2#13)) 1 { g := [14], q := [0] } (.amixelCmp 69) 4 (fun h => h.q 69 0 == true) toQ) ∧
    (thru (ax 0x683FFFFD#32 [] []) (.br 0x3FFFFD#22) 1 {} (.amixelBr 69) 0 (fun _ => true) (fun _ => false)) ∧
    ((ax 0#32).hub.codeCount 69 = 4) ∧
    (thru (ax 0x6EFFFFFF#32 [] [(Addr.CTX_STATUS 1 5, 0x80#32)]) (.brq 3 false true 0x3FFFFF#22) 1 { q := [3] } (.amixelBrq 69) 2 (fun h => !h.q 69 3) (toQ)) ∧
    (thru (ax 0x6DFFFFFF#32 [] [(Addr.CTX_STATUS 1 5, 0x80#32)]) (.brq 3 true false 0x3FFFFF#22) 1 { q := [3] } (.amixelBrq 69) 4 (fun h => h.q 69 3) (toQ)) ∧
    (thru (ax 0x73C00000#32 [] []) (.call 15 0#22) 1 { g := [15] } (.amixelCall 69) 3 (fun h => h.g 69 15 == 4#32) (toG 15)) ∧
    (thru (ax 0x7BFFFFFE#32 [] []) (.loop 15 0x3FFFFE#22) 1 { g := [15] } (.amixelLoop 69) 1 (fun h => h.g 69 15 == 0xFFFFFFFF#32) (toG 15)) ∧
    (thru (ax 0x7BFFFFFE#32 [(15, 1#32)] []) (.loop 15 0x3FFFFE#22) 1 { g := [15] } (.amixelLoop 69) 4 (fun h => h.g 69 15 == 0#32) (toG 15)) ∧
    (thru (ax 0x77C00000#32 [(15, 0x4003#32)] []) (.ret 15) 1 { g := [15] } (.amixelRet 69) 3 (fun _ => true) (fun _ => false)) ∧
    (flts (ax 0x68000001#32) (.br 1#22) 1 {} (.amixelBr 69) 3 ∧ flts (ax 0x683FFFFC#32) (.br 0x3FFFFC#22) 1 {} (.amixelBr 69) 3) ∧
    (flts (ax 0x73C00001#32) (.call 15 1#22) 1 { g := [15] } (.amixelCall 69) 3) ∧
    (hlts (ax 0x6EC00001#32 [] [(Addr.CTX_STATUS 1 5, 0x80#32)]) (.brq 3 false true 1#22) 1 { q := [3] } (.amixelBrq 69)) ∧
    (hlts (ax 0x78400001#32) (.loop 1 1#22) 1 { g := [1] } (.amixelLoop 69)) ∧
    (hlts (ax 0x77C00000#32 [(15, 0x4004#32)]) (.ret 15) 1 { g := [15] } (.amixelRet 69)) ∧
    (hlts (ax 0x68000001#32 [] [] id { stopAt := some 1 }) (.br 1#22) 1 {} (.amixelBr 69) .idle) := by
  decide +kernel

/-- Meets the hypotheses of MemoryAndStreamInstructions. -/
theorem test_memory_instructions :
    (thru (ax 0x7FF83FFE#32 [(14, 0x120006#32)]) (.ld 0 15 14 0x3FFE#14) 1 { g := [15, 14], tag := true } (.amixelLd 69) 4 (fun h => (h.ctx 69).acc == [.load (.g 15) 0x120004 4 3]) (fun _ => false)) ∧
    (thru (ax 0x7FF84000#32 [(14, 0x7FFFFE#32)]) (.ld 1 15 14 0#14) 1 { g := [15, 14], tag := true } (.amixelLd 69) 4 (fun h => (h.ctx 69).acc == [.load (.g 15) 0x7FFFFE 2 3]) (fun _ => false)) ∧
    (flts (ax 0x7FF84000#32 [(14, 0x7FFFFF#32)]) (.ld 1 15 14 0#14) 1 { g := [15, 14], tag := true } (.amixelLd 69) 3 ∧ flts (ax 0x7FF88000#32 [(14, 0x800000#32)]) (.ld 2 15 14 0#14) 1 { g := [15, 14], tag := true } (.amixelLd 69) 3) ∧
    (thru (ax 0x83F88001#32 [(14, 0x120000#32), (15, 0x12345678#32)]) (.st 2 15 14 1#14) 1 { g := [15, 14], tag := true } (.amixelSt 69) 4 (fun h => (h.ctx 69).acc == [.store 0x120001 1 0x78]) (fun _ => false)) ∧
    (flts (ax 0x83F80000#32 [(14, 0x300000#32)]) (.st 0 15 14 0#14) 1 { g := [15, 14], tag := true } (.amixelSt 69) 3) ∧
    (thru (ax 0x84F80008#32 [(14, 0x120000#32)]) (.ldw 3 14 8#14) 1 { g := [14], w := [3], tag := true } (.amixelLdw 69) 4 (fun h => (h.ctx 69).acc == [.load (.w 3) 0x120008 8 3]) (fun _ => false)) ∧
    (thru (ax 0x88F80000#32 [(14, 0x400000#32)] (wreg 3 (-1))) (.stw 3 14 0#14) 1 { g := [14], w := [3], tag := true } (.amixelStw 69) 4 (fun h => (h.ctx 69).acc == [.store 0x400000 8 0xFFFFFFFFFFFFFFFF]) (fun _ => false)) ∧
    (ok (ax 0#32 [] [] (fun h => h.domeBytes 0x120000 [0xFE, 0xFF]) { acc := [.load (.g 15) 0x120000 2 3] }) (.loadComplete 69 0) (fun h => h.g 69 15 == 0xFFFFFFFE#32 && (h.ctx 69).acc.isEmpty) (toG 15)) ∧
    (ok (ax 0#32 [] [] (fun h => h.domeBytes 0x120000 (List.replicate 8 0xFF)) { acc := [.load (.w 3) 0x120000 8 3] }) (.loadComplete 69 0) (fun h => h.w 69 3 == -1) (toW 3)) ∧
    (ok (ax 0#32 [] [] id { acc := [.load (.g 1) 0x120008 4 3, .store 0x120000 4 0x11223344] }) (.storeAccepted 69 1) (fun h => h.domeWord 0x120000 == 0x11223344#32 && (h.ctx 69).acc.length == 1) fun _ => false) ∧
    (flts (ax 0x84F80004#32 [(14, 0x120000#32)]) (.ldw 3 14 4#14) 1 { g := [14], w := [3], tag := true } (.amixelLdw 69) 3 ∧ ok (ax 0x84F80004#32 [(14, 0x120000#32)]) (.amixelLdw 69) fun h => lg 0 (ax 0#32) h && h.w 69 3 == 0) ∧
    (flts (ax 0x84F80000#32 [(14, 0x800000#32)]) (.ldw 3 14 0#14) 1 { g := [14], w := [3], tag := true } (.amixelLdw 69) 3) ∧
    (flts (ax 0x88F80004#32 [(14, 0x400000#32)]) (.stw 3 14 4#14) 1 { g := [14], w := [3], tag := true } (.amixelStw 69) 3 ∧ ok (ax 0x88F80004#32 [(14, 0x400000#32)]) (.amixelStw 69) (lg 0 (ax 0#32))) ∧
    (flts (ax 0x88F80000#32 [(14, 0x300000#32)]) (.stw 3 14 0#14) 1 { g := [14], w := [3], tag := true } (.amixelStw 69) 3) := by
  decide +kernel

def port (w : Word) (n : Nat) (g : List (Nat × Word) := []) : State :=
  ax w g [(Addr.CTX_PORT 1 5 31, 1#32), (Addr.CTX_PORT 1 5 32, 7#32), (Addr.CTX_PORT_LIM 1 5 32, 10#32)]
    (fun h => { h.domeBytes 0x20000 [1, 0, 0, 0, 8, 0, 0, 0, 2, 0, 0, 0, 8, 1, 0, 0] with sys.plan.stage := [(69, 31, 0x20000)] })
    { bufs := [(31, { wr := 2, fill := n })] }

/-- Meets the hypotheses of MemoryAndStreamInstructions. -/
theorem test_port_instructions :
    (thru (port 0x8F9F0001#32 2) (.take 7 (.direct 31) 1) 1 { g := [14, 15] } (.amixelTake 69) 4 (fun h => h.g 69 14 == 2#32 && h.g 69 15 == 0x108#32 && ((h.ctx 69).buf 31).fill == 0) (fun a => toG 14 a || toG 15 a)) ∧
    (flts (port 0x8F9F0002#32 2) (.take 7 (.direct 31) 2) 1 { g := [14, 15] } (.amixelTake 69) 8) ∧
    (flts (port 0x8F80E800#32 2 [(13, 30#32)]) (.take 7 (.indirect 13) 0) 1 { g := [14, 15, 13] } (.amixelTake 69) 1) ∧
    (thru (port 0x9380E800#32 2 [(13, 31#32)]) (.peek 7 (.indirect 13) 0) 1 { g := [14, 15, 13] } (.amixelPeek 69) 4 (fun h => h.g 69 14 == 1#32 && h.g 69 15 == 8#32) (fun a => toG 14 a || toG 15 a)) ∧
    (flts (port 0x939F0001#32 1) (.peek 7 (.direct 31) 1) 1 { g := [14, 15] } (.amixelPeek 69) 8) ∧
    (flts (port 0x93A00001#32 1) (.peek 7 (.direct 32) 1) 1 { g := [14, 15] } (.amixelPeek 69) 1) ∧
    ((port 0#32 0).hub.isOutput 69 32 ∧ (port 0#32 0).hub.portKind 69 31 = 1 ∧ (port 0#32 0).hub.streamOn 1 = false) ∧
    (thru ({ port 0x97A000F9#32 0 [(14, 7#32), (15, 0x15F#32)] with hub := (port 0x97A000F9#32 0 [(14, 7#32), (15, 0x15F#32)]).hub.setActive (Addr.LED_STREAM 1) 0x40#32 }) (.emit 7 1 (.direct 32 31)) 1 { g := [14, 15] } (.amixelEmit 69) 4 (fun h => h.led.inQ.map (fun e => (e.stream, e.value, e.flags, e.seq)) == [(1, 7#32, 0xF, some 1)]) (fun _ => false)) ∧
    (flts (port 0x97A100F9#32 0) (.emit 7 1 (.direct 33 31)) 1 { g := [14, 15] } (.amixelEmit 69) 1) ∧
    (thru (port 0x98200000#32 0) (.seal_ (.direct 32)) 2 {} (.amixelSeal 69) 4 (fun h => h.queues.isEmpty) (fun _ => false)) ∧
    (flts (port 0x98210000#32 0) (.seal_ (.direct 33)) 2 {} (.amixelSeal 69) 1) := by
  decide +kernel

def leB (l : List Nat) : List Byte := l.flatMap fun w => (List.range 4).map fun i => BitVec.ofNat 8 (w / 256 ^ i)
/-- The measurement unit does `op` on the record with words `b` at 0x120000, with value `v` and index word `i`. -/
def meas (op : MeasOp) (v i : Word) (b : List Nat) (p : Hub → Bool) : Bool :=
  ok (ax 0#32 [] [] (fun h => h.domeBytes 0x120000 (leB b)) { acc := [.meas op 15 0x120000 v i 3] }) (.measurementComplete 69 0)
    (fun h => (h.ctx 69).acc.isEmpty && p h) (fun a => toG 15 a || toQ a)
/-- Words from `a` on read `l`. -/
def words (a : Nat) (l : List Nat) (h : Hub) : Bool := (List.range l.length).map (fun i => (h.domeWord (a + 4 * i)).toNat) == l
/-- An RFLOW record with SHIFT 0, HYST 5, `state`, CAND and `stack`; what mode `m` with input `v` gives in `gd`, and its words. -/
def flow (m : Nat) (v : Word) (state cand : Nat) (stack : List Nat) (gd : Nat) (st' : List Nat) (stk' : List Nat) : Bool :=
  meas (.rflow m) v 0#32 ([0, 0, 5, state, cand, 3, 0, 0] ++ stack) fun h =>
    h.g 69 15 == wd gd && words 0x12000C st' h && words 0x120020 stk' h
def zig (n : Nat) : List Nat := (List.range n).map fun i => if i % 2 = 0 then 200 - i else 0x100000000 - (200 - i)

/-- Meets the hypotheses of MeasurementInstructions. -/
theorem test_measurement_instructions :
    (thru (ax 0x9FF80FC0#32 [(14, 0x3F800000#32)] [(Addr.CTX_STATUS 1 5, 0x80#32)]) (.curve 15 14 0 15 3) 4 { g := [15, 14], q := [3] } (.amixelCurve 69) 4 (fun h => h.g 69 15 == 0x3F800000#32 && !h.q 69 3) (fun a => toG 15 a || toQ a)) ∧
    (flts (ax 0x9FF80000#32 [(14, 0x7F800000#32)]) (.curve 15 14 0 0 0) 4 { g := [15, 14], q := [0] } (.amixelCurve 69) 3) ∧
    (flts (ax 0x9FF80008#32) (.curve 15 14 8 0 0) 4 { g := [15, 14], q := [0] } (.amixelCurve 69) 3 ∧ curveReserved 8) ∧
    (flts (ax 0x9FF803EF#32) (.curve 15 14 47 15 0) 4 { g := [15, 14], q := [0] } (.amixelCurve 69) 1) ∧
    (thru (ax 0xA3EB403D#32 [(13, 0x7FFFE0#32), (10, 5#32), (11, 0x80#32)]) (.xing 15 5 13 1 3 2) 3 { g := [15, 13, 10, 11], q := [3], tag := true } (.amixelXing 69) 4 (fun h => (h.ctx 69).acc == [.meas (.xing 1 3 3) 15 0x7FFFE0 5#32 0x80#32 3]) (fun _ => false)) ∧
    (flts (ax 0xA3EB403D#32 [(13, 0x7FFFE8#32)]) (.xing 15 5 13 1 3 2) 3 { g := [15, 13, 10, 11], q := [3], tag := true } (.amixelXing 69) 3) ∧
    (thru (ax 0xA7EB404C#32 [(13, 0x120000#32)]) (.peakt 15 5 13 0 3 true) 2 { g := [15, 13, 10, 11], q := [3], tag := true } (.amixelPeakt 69) 4 (fun h => (h.ctx 69).acc.length == 1) (fun _ => false)) ∧
    (flts (ax 0xA7EB404C#32 [(13, 0x120004#32)]) (.peakt 15 5 13 0 3 true) 2 { g := [15, 13, 10, 11], q := [3], tag := true } (.amixelPeakt 69) 3) ∧
    (thru (ax 0xABFB4002#32 [(13, 0x120000#32)]) (.rflow 15 14 13 2) 4 { g := [15, 13, 14], tag := true } (.amixelRflow 69) 4 (fun h => (h.ctx 69).acc.length == 1) (fun _ => false)) ∧
    (flts (ax 0xABFB4002#32 [(13, 0x7FC000#32)]) (.rflow 15 14 13 2) 4 { g := [15, 13, 14], tag := true } (.amixelRflow 69) 3) ∧
    (ok (ax 0#32 [] [] (fun h => h.domeBytes 0x120000 (List.replicate 32 0xFF)) { acc := [.meas (.xing 0 3 3) 15 0x120000 5#32 0x80#32 3] }) (.measurementComplete 69 0) (fun h => h.g 69 15 == 0#32 && !h.q 69 3 && h.domeWord 0x12000C == 0xFEFFFFFF#32) (fun a => toG 15 a || toQ a)) ∧
    (ok (ax 0#32 [] [] (fun h => h.domeBytes 0x120000 (List.replicate 16 0)) { acc := [.meas (.peakt 0 3 false) 15 0x120000 5#32 0x100#32 3] }) (.measurementComplete 69 0) (fun h => h.g 69 15 == 0#32 && h.q 69 3 && h.domeWord 0x120000 == 5#32 && h.domeWord 0x120004 == 0x1000001#32) (fun a => toG 15 a || toQ a)) ∧
    (ok (ax 0#32 [] [] (fun h => h.domeBytes 0x120000 [5, 0, 0, 0, 1, 0, 0, 1, 5, 0, 0, 0, 1, 0, 0, 0]) { acc := [.meas (.peakt 0 3 false) 15 0x120000 (-5) 0x200#32 3] }) (.measurementComplete 69 0) (fun h => h.g 69 15 == 10#32 && h.domeWord 0x120008 == 0xFFFFFFFB#32 && h.domeWord 0x12000C == 2#32) (fun a => toG 15 a || toQ a)) ∧
    (ok (ax 0#32 [] [] (fun h => h.domeBytes 0x120000 (List.replicate 20 0)) { acc := [.meas (.rflow 2) 15 0x120000 5#32 0#32 3] }) (.measurementComplete 69 0) (fun h => h.g 69 15 == 0#32 && h.domeWord 0x12000C == 0#32) (toG 15)) ∧
    (ok (ax 0#32 [] [] (fun h => h.domeBytes 0x120000 ([0, 0, 0, 0, 25, 0, 0, 0] ++ List.replicate 12 0)) { acc := [.meas (.rflow 2) 15 0x120000 5#32 0#32 3] }) (.measurementComplete 69 0) (fun h => h.rd (Addr.CTX_FAULT 1 5) == 0x303#32) (fun _ => true)) ∧
    (thru (ax 0x9FF80C10#32 [(14, 0x41200000#32)]) (.curve 15 14 16 0 3) 4 { g := [15, 14], q := [3] } (.amixelCurve 69) 4 (fun h => h.g 69 15 == 0xC3480000#32 && h.q 69 3) (fun a => toG 15 a || toQ a)) ∧
    (thru (ax 0x9FF80C10#32 [(14, 0x43C80000#32)]) (.curve 15 14 16 0 3) 4 { g := [15, 14], q := [3] } (.amixelCurve 69) 4 (fun h => h.g 69 15 == 0x44548000#32 && h.q 69 3) (fun a => toG 15 a || toQ a)) ∧
    (comes (.curve 15 14 16 0 3) 4 { g := [15, 14], q := [3] } (ax 0x9FF80C10#32 [(14, 0x43000000#32)]) ∧ fracLe (curveAt 16 (-200) 1) (curveInput (f32Of 0x43000000#32)).frac ∧ fracLe (curveAt 16 850 1) (curveInput (f32Of 0x43000000#32)).frac = false) ∧
    (thru (ax 0x9FF803EF#32 [(14, 0x40200000#32)] [(0x420FF804, 0x3F800000#32), (0x420FF808, 1#32), (0x420FF830, 0x40400000#32)]) (.curve 15 14 47 15 0) 4 { g := [15, 14], q := [0] } (.amixelCurve 69) 4 (fun h => h.g 69 15 == 0x40400000#32 && !h.q 69 0) (fun a => toG 15 a || toQ a)) ∧
    (meas (.xing 0 3 3) 20#32 0x600#32 [10, 2, 0, 0xD000005, 0x100, 7] fun h => h.g 69 15 == 0x480#32 && h.q 69 3 && words 0x120008 [20, 0xF000006, 1408, 8] h) ∧
    (meas (.xing 1 3 1) 0x1400#32 0x900#32 [10, 2, 0, 0x5000005, 0x100, 7] fun h => h.g 69 15 == 0#32 && h.q 69 3 && words 0x120008 [20, 0xF000009, 2304, 8] h) ∧
    (meas (.xing 0 3 1) 0#32 0x600#32 [10, 2, 20, 0xF000005, 0x100, 7] fun h => h.g 69 15 == 0#32 && !h.q 69 3 && words 0x120008 [0, 0xD000006, 0x100, 7] h) ∧
    (meas (.xing 0 3 3) 10#32 0x600#32 [10, 2, 20, 0, 0x100, 7] fun h => !h.q 69 3 && words 0x120008 [10, 0x7000006, 0x100, 7] h) ∧
    (meas (.xing 0 3 2) 8#32 0x600#32 [10, 2, 8, 0xF000005, 0x100, 7] fun h => h.q 69 3 && h.domeWord 0x120014 == 8#32 && h.domeWord 0x12000C == 0xD000006#32) ∧
    (meas (.peakt 1 3 true) 0x1234#32 0x300#32 [5, 0x1000001, 5, 1] fun h => h.g 69 15 == 13#32 && h.q 69 3 && words 0x120000 [18, 3, 5, 1] h) ∧
    (meas (.peakt 0 3 true) 9#32 0x380#32 [5, 0x1000001, 3, 1] fun h => h.g 69 15 == 2#32 && !h.q 69 3 && words 0x120000 [5, 1, 3, 1] h) ∧
    (meas (.peakt 0 3 false) 9#32 0x380#32 [5, 1, 3, 1] fun h => h.g 69 15 == 0#32 && words 0x120000 [5, 1, 3, 1] h) ∧
    (ok (ax 0#32 [] [] (fun h => h.domeBytes 0x120000 (leB [0, 0, 5, 0x20C, 0, 0, 0, 0])) { acc := [.meas (.rflow 0) 15 0x120000 5#32 0#32 3] }) (.measurementComplete 69 0) (fun h => h.rd (Addr.CTX_FAULT 1 5) == 0x303#32) ∧ ok (ax 0#32 [] [] (fun h => h.domeBytes 0x120000 (leB [0, 0, 5, 7, 0, 0, 0, 0])) { acc := [.meas (.rflow 0) 15 0x120000 5#32 0#32 3] }) (.measurementComplete 69 0) (fun h => h.rd (Addr.CTX_FAULT 1 5) == 0x303#32)) ∧
    (flow 2 9#32 0x414 20 [1, 2] 0 [0, 20, 3, 0] [1, 2]) ∧
    (flow 1 9#32 0x14 0 [10, 20] 1 [0, 0, 4, 0] [10, 20] ∧ ok (ax 0#32 [] [] (fun h => (h.domeBytes 0x120000 (leB [0, 0, 5, 0x14, 0, 3, 0, 0, 10, 20])).domeBytes 0x120B7C (leB [6])) { acc := [.meas (.rflow 1) 15 0x120000 0#32 0#32 3] }) (.measurementComplete 69 0) fun h => h.domeWord 0x120B7C == 7#32) ∧
    (flow 0 7#32 0 0 [] 0 [0xC, 0, 3, 0] [7] ∧ flow 0 20#32 0xC 0 [7] 0 [0xD, 20, 3, 0] [7] ∧ flow 0 12#32 0xC 0 [7] 0 [0xC, 0, 3, 0] [7] ∧ flow 0 1#32 0xC 0 [7] 0 [0xE, 1, 3, 0] [7]) ∧
    (flow 0 18#32 0xD 20 [7] 0 [0xD, 20, 3, 0] [7] ∧ flow 0 25#32 0xD 20 [7] 0 [0xD, 25, 3, 0] [7] ∧ flow 0 10#32 0xD 20 [7] 0 [0x16, 10, 3, 0] [7, 20]) ∧
    (flow 0 20#32 0x15 30 [10, 0] 1 [0x16, 20, 4, 0] [0, 30] ∧ flow 0 10#32 0x1D 22 [0, 20, 5] 2 [0x16, 10, 5, 0] [0, 22]) ∧
    (flow 0 40#32 0x26 10 [0, 100, 20, 30] 2 [0x1D, 40, 5, 0] [0, 100, 10]) ∧
    (flow 0 0#32 0x205 130 (zig 64) 1 [0x606, 0, 4, 1] (zig 64 |>.tail)) := by
  decide +kernel

/-- Meets the hypotheses of TimeCaptureAndFlowInstructions. -/
theorem test_time_instructions :
    (thru (ax 0xAF400000#32) (.time 13) 1 { g := [13, 14, 15] } (.amixelTime 69) 4 (fun h => (h.ctx 69).timeReqs == [(13, 65536000)]) (fun _ => false)) ∧
    (ok (ax 0#32 [] [] id { timeReqs := [(13, 65536 * 1000000001)] }) (.timeReply 69) (fun h => h.g 69 13 == 0x10000#32 && h.g 69 14 == 0x10000#32 && h.g 69 15 == 0#32 && (h.ctx 69).timeReqs.isEmpty) fun a => toG 13 a || toG 14 a || toG 15 a) ∧
    (flts (ax 0xB0340000#32 [(13, 0xCA000000#32), (14, 0x3B9A#32)]) (.waitt 13) 1 { g := [13, 14, 15] } (.amixelWaitt 69) 3) ∧
    (flts (ax 0xB0340000#32 [(13, 0x3E80000#32)]) (.waitt 13) 1 { g := [13, 14, 15] } (.amixelWaitt 69) 12) ∧
    (thru (ax 0xB0340000#32 [(13, 0x3E80001#32)]) (.waitt 13) 1 { g := [13, 14, 15] } (.amixelWaitt 69) 4 (fun h => (h.ctx 69).waitt == some 65536001 && !h.canIssue 69) (fun _ => false)) ∧
    (ok (ax 0#32 [] [] id { waitt := some 65536000 }) (.waittResume 69) (fun h => (h.ctx 69).waitt.isNone) (fun _ => false) ∧ same (ax 0#32 [] [] id { waitt := some 65536001 }) (.waittResume 69)) ∧
    (flts (ax 0xB434000F#32) (.alarmArm 13 15) 1 { g := [13, 14, 15] } (.amixelAlarm 69) 5) ∧
    (flts (ax 0xB434000E#32 [] [(Addr.ALM_STATUS 14, 0x100#32)] fun h => { h with lan.alarms := [(14, { target := 65536 * 1001 })] }) (.alarmArm 13 14) 1 { g := [13, 14, 15] } (.amixelAlarm 69) 1) ∧
    (flts (ax 0xB434000E#32 [(13, 0x44BFFFF#32)]) (.alarmArm 13 14) 1 { g := [13, 14, 15] } (.amixelAlarm 69) 12) ∧
    (thru (ax 0xB434000E#32 [(13, 0x44C0000#32)] [(Addr.ALM_ACTION 14, 5#32)]) (.alarmArm 13 14) 1 { g := [13, 14, 15] } (.amixelAlarm 69) 4 (fun h => h.armed 14 && SMap.get {} h.lan.alarms 14 == { target := 65536 * 1100, action := 5 }) (fun a => a == Addr.ALM_STATUS 14)) ∧
    (thru (ax 0xB400001E#32 [] [(Addr.ALM_STATUS 14, 0x100#32)] fun h => { h with lan.alarms := [(14, { target := 65536 * 1001 })] })
        (.alarmDisarm 14) 1 {} (.amixelAlarm 69) 4 (fun h => !h.armed 14) (fun a => a == Addr.ALM_STATUS 14)) ∧
    (thru (ax 0xB400001E#32 [] [(Addr.ALM_STATUS 14, 0x100#32)] fun h => { h with lan.alarms := [(14, { target := 65536 * 1000 })] })
        (.alarmDisarm 14) 1 {} (.amixelAlarm 69) 4 (fun h => !h.armed 14 && h.rd (Addr.ALM_FIRE_CNT 14) == 1#32)
        (fun a => a == Addr.ALM_STATUS 14 || a == Addr.ALM_FIRE_CNT 14)) ∧
    (flts (ax 0xB4000010#32) (.alarmDisarm 0) 1 {} (.amixelAlarm 69) 1) := by
  decide +kernel

def unit (w : Word) (st : Nat) (g : List (Nat × Word) := []) : State :=
  ax w g [(Addr.CAP_STATE 31, wd st), (Addr.CAP_SIZE 31, 0x1000#32)]

/-- Meets the hypotheses of TimeCaptureAndFlowInstructions. -/
theorem test_capture_instructions :
    (thru (unit 0xB800001F#32 0) (.armUnit (.direct 31)) 1 {} (.amixelArmUnit 69) 4 (fun h => h.capState 31 == capARMED && h.fld (Addr.CAP_STATE 31) 8 4 == 2 && h.fld (Addr.CAP_STATE 31) 12 8 == 69) (fun a => a == Addr.CAP_STATE 31 || a == Addr.CAP_SLOTS 31)) ∧
    (flts (unit 0xB8382000#32 0x45201 [(14, 31#32)]) (.armUnit (.indirect 14)) 1 { g := [14] } (.amixelArmUnit 69) 1) ∧
    (flts (unit 0xB800001F#32 0x46201) (.armUnit (.direct 31)) 1 {} (.amixelArmUnit 69) 2) ∧
    (thru (unit 0xBC00001F#32 0x45201) (.disarmUnit (.direct 31)) 1 {} (.amixelDisarmUnit 69) 4 (fun h => h.capState 31 == capDISARMED) (fun a => a == Addr.CAP_STATE 31)) ∧
    (flts (unit 0xBC00001F#32 0x46201) (.disarmUnit (.direct 31)) 1 {} (.amixelDisarmUnit 69) 2) ∧
    (flts (unit 0xBC00001F#32 0) (.disarmUnit (.direct 31)) 1 {} (.amixelDisarmUnit 69) 1) ∧
    (thru (unit 0xC000001F#32 0x46201) (.fireUnit (.direct 31) none) 1 {} (.amixelFireUnit 69) 4 (fun h => (h.unit 31).queue == [{ arrived := 65536000, time := 65536000, src := 4, detail := 69 }]) (fun _ => false)) ∧
    (flts (unit 0xC000001F#32 0) (.fireUnit (.direct 31) none) 1 {} (.amixelFireUnit 69) 1) ∧
    (flts (unit 0xC003403F#32 0x46201 [(13, 0x3E80001#32)]) (.fireUnit (.direct 31) (some 13)) 1 { g := [13, 14, 15] } (.amixelFireUnit 69) 12) ∧
    (thru (ax 0xC4000000#32 [] [(Addr.SEL_CFG, 0x10000#32)]) (.mirror) 2 {} (.amixelMirror 69) 4 (fun _ => true) (fun _ => false)) ∧
    (flts (ax 0xC4000000#32) (.mirror) 2 {} (.amixelMirror 69) 1) ∧
    (thru (ax 0xC4000000#32 [(15, 9#32)] [(Addr.SEL_CFG, 0x10000#32), (Addr.SEL_STATUS, 0x2003#32)] (fun h => { h with sys.plan.mirror := [.context 69 0x8000 0 1] })) (.mirror) 2 { g := [15], w := [], q := [0] } (.amixelMirror 69) 4 (fun h => (SMap.find h.sel.waiting 69).map (·.g) == some [(15, 9#32)]) (fun _ => false)) := by
  decide +kernel

/-- Context 69 with channel 63 from `snd` to `rcv`, `full` or not, holding 7. -/
def box (w : Word) (snd rcv full : Nat) (g : List (Nat × Word) := []) : State :=
  ax w g [(Addr.BIND 63, bindWord snd rcv 0 true), (Addr.MB_STATUS 63, wd full), (Addr.MB_PEEK 63, 7#32)]
def lok (w : Word) (v : Nat) (who : Option Nat) (x : Ctx := {}) : State :=
  ax w [] [(Addr.LOCK_PEEK 31, wd v)] (fun h => { h with ctl.lockCtx := (who.map fun c => (31, c)).toList }) x

/-- Meets the hypotheses of TimeCaptureAndFlowInstructions. -/
theorem test_control_and_flow_instructions :
    (thru (box 0xC838003F#32 2 5 0 [(14, 9#32)]) (.post 14 63) 1 { g := [14] } (.amixelPost 69) 4 (fun h => h.mbFull 63 && h.rd (Addr.MB_PEEK 63) == 9#32 && h.dbGet 0 5 63) (fun a => a == Addr.MB_PEEK 63 || a == Addr.MB_STATUS 63 || a == dbAddr 0 5 63)) ∧
    (flts (box 0xC838003F#32 2 5 1) (.post 14 63) 1 { g := [14] } (.amixelPost 69) 2) ∧
    (flts (box 0xC838003F#32 3 5 0) (.post 14 63) 1 { g := [14] } (.amixelPost 69) 4) ∧
    (thru (box 0xCFC0003F#32 5 2 1) (.takemb 15 63) 1 { g := [15] } (.amixelTakemb 69) 4 (fun h => h.g 69 15 == 7#32 && !h.mbFull 63) (fun a => toG 15 a || a == Addr.MB_STATUS 63 || a == Addr.MB_LASTREAD 63 || a == dbAddr 0 2 63 || a == dbAddr 1 5 63)) ∧
    (flts (box 0xCFC0003F#32 5 2 0) (.takemb 15 63) 1 { g := [15] } (.amixelTakemb 69) 1) ∧
    (flts (box 0xCFC0003F#32 5 3 1) (.takemb 15 63) 1 { g := [15] } (.amixelTakemb 69) 4) ∧
    (thru (lok 0xD000001F#32 0 none) (.locka 31) 1 {} (.amixelLocka 69) 4 (fun h => h.lockHeld 31 && h.lockOwner 31 == 2 && h.lockCtx 31 == some 69) (fun a => a == Addr.LOCK_PEEK 31)) ∧
    (flts (lok 0xD000001F#32 0x80000003 none) (.locka 31) 1 {} (.amixelLocka 69) 2) ∧
    (thru (lok 0xD400001F#32 0x80000002 (some 69)) (.lockr 31) 1 {} (.amixelLockr 69) 4 (fun h => !h.lockHeld 31 && h.lockCtx 31 == none) (fun a => a == Addr.LOCK_PEEK 31)) ∧
    (flts (lok 0xD400001F#32 0x80000002 (some 70)) (.lockr 31) 1 {} (.amixelLockr 69) 1) ∧
    (ok (lok 0xD400001F#32 0x80000002 (some 69) { acc := [.store 0x120000 4 0] }) (.amixelLockr 69) (fun h => (h.ctx 69).stalled && h.lockHeld 31) fun _ => false) ∧
    (ok (ax 0xD8000000#32) (.amixelYield 69) (fun h => (h.ctx 69).st == .wait) fun a => a == Addr.TUR_ISSUE_CNT 1 || a == Addr.CTX_SLOTS_MAX 1 5 || a == Addr.CTX_PC 1 5) ∧
    (ok (ax 0xD8000000#32 [] [(Addr.CTX_PEND 1 5, 0xFFFF#32), (Addr.CTX_ENTRY 1 5, 2#32)]) (.amixelYield 69) fun h => (h.ctx 69).st == .ready && h.pc 69 == 2 && (h.ctx 69).slots == 0 && h.rd (Addr.CTX_PEND 1 5) == 0xFFFE#32 && h.rd (Addr.CTX_ACT_CNT 1 5) == 1#32) ∧
    (comes .yield_ 1 {} (ax 0xD8000000#32) ∧ comes .halt 1 {} (ax 0xDC000000#32) ∧ ok (ax 0xDC000000#32) (.amixelHalt 69) (fun h => (h.ctx 69).st == .halted) fun a => a == Addr.TUR_ISSUE_CNT 1 || a == Addr.CTX_SLOTS_MAX 1 5 || a == Addr.CTX_PC 1 5) ∧
    (thru (ax 0xE0000000#32) (.nop) 1 {} (.amixelNop 69) 4 (fun _ => true) (fun _ => false)) ∧
    ((ax 0#32).hub.fetched 69 = none ∧ ok (ax 0#32) (.undefinedWordIssue 69) (fun h => (h.ctx 69).st == .halted && h.rd (Addr.CTX_FAULT 1 5) == 0x30D#32 && lg 20 (ax 0#32) h)) ∧
    (ok (ax 0#32 [] [(Addr.CTX_PC 1 5, 4#32)]) (.undefinedWordIssue 69) (fun h => (h.ctx 69).st == .halted && h.rd (Addr.CTX_FAULT 1 5) == 0x403#32)) ∧
    (ok (ax 0xE0000000#32 [] [] id { slots := 100 }) (.amixelNop 69) (fun h => (h.ctx 69).st == .halted && h.rd (Addr.CTX_FAULT 1 5) == 0x309#32 && h.rd (Addr.TUR_ISSUE_CNT 1) == 0#32)) ∧
    ((ax 0x07FB4000#32 [] [] id { timeReqs := [(11, 0)] }).hub.stalls 69 { g := [15, 14, 13] } ∧ ok (ax 0x07FB4000#32 [] [] id { timeReqs := [(11, 0)] }) (.amixelAdd 69) (fun h => (h.ctx 69).stalled && h.pc 69 == 3) fun _ => false) ∧
    (ok (ax 0xD8000000#32 [] [] id { stopAt := some 1 }) (.amixelYield 69) (fun h => (h.ctx 69).st == .idle) ∧ ok (ax 0xDC000000#32 [] [] id { stopAt := some 1 }) (.amixelHalt 69) (fun h => (h.ctx 69).st == .idle)) := by
  decide +kernel

/-- An image of 208 bytes without records, code or budget entries; `d` spoils its first words. -/
def image (d : List Word) : List Word :=
  d ++ [208#32, 0x302#32, 7#32, 8#32, 6#32].drop (d.length - 2) ++ List.replicate 9 0#32 ++
  [1#32, 0xA0#32, 0#32, 0#32, 2#32, 0xA0#32, 32#32, 0#32, 3#32, 0xC0#32, 0#32, 0#32, 4#32, 0xC0#32, 0#32, 0#32,
   5#32, 0xC0#32, 16#32, 0#32, 6#32, 0xD0#32, 0#32, 0#32] ++ List.replicate 12 0#32
def pl (d : List Word) (m : Nat := 1) (n : Word := 208#32) : State :=
  cmd 0x10 255 m [] fun h => (h.domeBytes 65280 (wordBytes [0x120000#32, n])).domeBytes 0x120000 (wordBytes (image d))
def good : List Word := [0x4E414C50#32, 2#32]
def failing (s : State) : Option (Nat × Nat) :=
  match ((s.hub.mbTake 0 belfry).2.setInflight 0 true).checkPlan 0x120000 208 with
  | .error e => some e
  | .ok _ => none

/-- Meets the hypotheses of PlansAreCheckedAndLoaded. -/
theorem test_plans_are_checked_and_loaded :
    (waits (pl good 2) 0x10 255 ∧ ok (pl good 2) (.loadPlan 0) (fun h => resp 0x015A0002#32 h && h.fld Addr.SYS_CMD_REJECT 0 16 == 1)) ∧
    ((image good).length = 52 ∧ failing (pl [0x4E414C51#32, 2#32]) = some (7, 65535) ∧ failing (pl [0x4E414C50#32, 1#32]) = some (6, 65535)) ∧
    (failing (pl [0x4E414C50#32, 2#32, 200#32]) = some (8, 65535) ∧ ok (pl [0x4E414C50#32, 2#32, 200#32]) (.loadPlan 0) (fun h => h.sys.planBuf.isEmpty) ∧ ok (pl [0x4E414C50#32, 1#32]) (.loadPlan 0) (fun h => h.sys.planBuf.length == 208)) ∧
    (ok (pl [0x4E414C51#32, 2#32]) (.loadPlan 0) fun h => resp 0x075AFFFF#32 h && h.rd Addr.SYS_PLAN_STATUS == 0xFFFF0700#32 && lg 8 (pl good) h) := by
  decide +kernel

def arr (n act : Nat) (x : CtxState := .wait) : State :=
  st 3 [(Addr.CTX_PORT 1 5 31, 1#32), (Addr.CTX_ACT 1 5, wd (act + 31 * 8)), (Addr.CTX_ENTRY 1 5, 2#32)] fun h =>
    { h with sys.plan.stage := [(69, 31, 0x20000)], stageIn := [(69, 31, { value := 7#32, flags := 8, k := 3 })] }.setCtx 69
      { st := x, bufs := [(31, { wr := 256, fill := n })] }
def ctl (x : CtxState) (m : Nat := 3) : State :=
  st m [(Addr.CTX_FAULT 1 5, 0x303#32), (Addr.CTX_PEND 1 5, 5#32)] fun h => h.setCtx 69 { st := x, bufs := [(31, { fill := 2 })], waitt := some 5 }

/-- Meets the hypotheses of ContextsActivateHaltAndRestart. -/
theorem test_contexts_activate_halt_and_restart :
    (ok (arr 255 0) .stageElementArrive (fun h => h.stageIn.isEmpty && h.domeWord 0x20000 == 7#32 && h.domeWord 0x20004 == 0x308#32 &&
        ((h.ctx 69).buf 31).fill == 256) fun a => a == Addr.TUR_BACKLOG_MAX 1) ∧
    (ok (arr 256 0) .stageElementArrive (fun h => ((h.ctx 69).buf 31).lost == some (h.portInstant 69 31 3, h.portInstant 69 31 3) && h.dome.isEmpty) fun a => a == Addr.TUR_BACKLOG_MAX 1) ∧
    (ok (arr 0 1) .stageElementArrive fun h => (h.ctx 69).st == .ready && h.pc 69 == 2 && h.rd (Addr.CTX_ACT_CNT 1 5) == 1#32 && h.domeWord 0x20000 == 7#32) ∧
    (ok (st 3 [(Addr.CTX_RATE 1 5, 10#32)] (fun h => h.setCtx 69 { st := .wait, paced := true, lastAct := some 0 }) 100000000) (.activationPacingRelease 69)
        (fun h => (h.ctx 69).st == .ready && !(h.ctx 69).paced) fun a => a == Addr.CTX_PC 1 5 || a == Addr.CTX_ACT_CNT 1 5) ∧
    (same (st 3 [(Addr.CTX_RATE 1 5, 10#32)] (fun h => h.setCtx 69 { st := .wait, paced := true, lastAct := some 0 }) 99999999) (.activationPacingRelease 69)) ∧
    (may (ctl .ready) 5 (Addr.CTX_CTRL 1 5) ∧ ok (ctl .ready) (.ctxCtrlHalt 5 69 2#32) (fun h => (h.ctx 69).st == .halted && (h.ctx 69).waitt.isNone) fun _ => false) ∧
    (ok (ctl .wait) (.ctxCtrlHalt 5 69 2#32) (fun h => (h.ctx 69).st == .wait) fun _ => false) ∧
    (ok (ctl .halted) (.ctxCtrlRestart 5 69 1#32) (fun h => (h.ctx 69).st == .wait && ((h.ctx 69).buf 31).fill == 0 && h.rd (Addr.CTX_PEND 1 5) == 0#32 &&
        h.rd (Addr.CTX_FAULT 1 5) == 0x300#32) fun a => a == Addr.CTX_FAULT 1 5 || a == Addr.CTX_PEND 1 5) ∧
    (ok (ctl .halted 1) (.ctxCtrlRestart 5 69 1#32) fun h => (h.ctx 69).st == .idle) ∧
    (ok (ctl .ready) (.ctxCtrlRestart 5 69 1#32) (fun h => (h.ctx 69).st == .ready) fun _ => false) ∧
    (waits (cmd 0x70 3 3) 0x70 3 ∧ ((cmd 0x70 3 3 [] fun h => h.setCtx 255 { st := .ready }).hub.ctx 255).st ≠ .unused) ∧
    (ok (st 3 [] fun h => { h with sys.turHeld := [3], sys.plan.used := [255] }.setCtx 255 { st := .idle }) (.turretResetEnd 3) fun h =>
        !h.sys.turHeld.contains 3 && (h.ctx 255).st == .wait && h.bit Addr.INRUSH_PEND 19) ∧
    (ok (st 1 [] fun h => { h with sys.turHeld := [3] }) (.turretResetEnd 3) (fun h => h.ctxs.isEmpty) (fun _ => true) ∧ same (st 1 []) (.turretResetEnd 3)) ∧
    (ok (st 3 [(Addr.INRUSH_PEND, 0x80000#32)]) (.turretUngate 3) (fun h => h.sys.ungated.contains 3 && h.rd Addr.INRUSH_PEND == 0#32) fun a => a == Addr.INRUSH_PEND) ∧
    (ok (st 3 [] fun h => h.setCtx 69 { st := .ready, stopAt := some 1 }) (.ctxCtrlHalt 5 69 2#32) fun h => (h.ctx 69).st == .idle) := by
  decide +kernel

def cu (x : Nat) (l : List (Nat × Word) := []) (f : Hub → Hub := id) (m : Nat := 3) : State :=
  st m ([(Addr.CAP_STATE 31, wd x), (Addr.CAP_SIZE 31, 0x1000#32)] ++ l) f 1000
def recOf (k : Nat) (s : RecState) : CapRec :=
  { slot := k, st := s, trig := { arrived := 0, time := 9, src := 5, detail := 0 }, tstate := 0, firstTime := 0, ts := 0, preN := 0,
    count := 1, areaN := 1, firstOfs := 0, status := 0, missed := 0, desc := 0 }

/-- Meets the hypotheses of CaptureUnitsByCommand. -/
theorem test_capture_units_by_command :
    (may (cu 0) 5 (Addr.CAP_CTRL 31) ∧ (cu 0).hub.capConfigOk 31 (fun g => ((cu 0).hub.chan g).jShift) ∧ (cu 0).hub.capPlaced 31 ∧ 1 ≤ (cu 0).hub.nrec 31 ∧ ok (cu 0) (.capCtrlArm 5 31 1#32) (fun h =>
        h.rd (Addr.CAP_RESULT 31) == 0x500#32 && h.capState 31 == capARMED && h.fld (Addr.CAP_STATE 31) 8 4 == 5)
        fun a => a == Addr.CAP_STATE 31 || a == Addr.CAP_SLOTS 31 || a == Addr.CAP_RESULT 31) ∧
    (ok (cu 0x501) (.capCtrlArm 5 31 1#32) (fun h => h.rd (Addr.CAP_RESULT 31) == 0x501#32) fun a => a == Addr.CAP_RESULT 31) ∧
    (ok (cu 0x401) (.capCtrlArm 5 31 1#32) (fun h => h.rd (Addr.CAP_RESULT 31) == 0x502#32) fun a => a == Addr.CAP_RESULT 31) ∧
    (ok (cu 0 [] id 1) (.capCtrlArm 5 31 1#32) (fun h => h.rd (Addr.CAP_RESULT 31) == 0x501#32) fun a => a == Addr.CAP_RESULT 31) ∧
    (ok (cu 0x401) (.capCtrlDisarm 0 31 2#32) (fun h => h.capState 31 == capDISARMED && h.rd (Addr.CAP_RESULT 31) == 0#32)
        fun a => a == Addr.CAP_STATE 31 || a == Addr.CAP_RESULT 31) ∧
    (ok (cu 0x503) (.capCtrlDisarm 5 31 2#32) (fun h => h.capState 31 == capDISARMED && h.cape.measQ == [(31, 0)] &&
        (h.unit 31).recs.map (fun x => (x.slot, x.status)) == [(0, 4)])) ∧
    (ok (cu 0x401) (.capCtrlDisarm 5 31 2#32) (fun h => h.rd (Addr.CAP_RESULT 31) == 0x502#32) fun a => a == Addr.CAP_RESULT 31) ∧
    (ok (cu 0x401) (.capCtrlFire 5 31 4#32) (fun h => h.rd (Addr.CAP_RESULT 31) == 0x500#32 && (h.unit 31).queue ==
        [{ arrived := 65536000, time := 65536000, src := 5, detail := 5 }]) fun a => a == Addr.CAP_RESULT 31) ∧
    (ok (cu 0) (.capCtrlFire 5 31 4#32) (fun h => h.rd (Addr.CAP_RESULT 31) == 0x501#32) fun a => a == Addr.CAP_RESULT 31) ∧
    (ok (cu 0 [(Addr.CAP_SLOTS 31, 0x80000000#32)] fun h => h.modUnit 31 fun u => { u with recs := [recOf 31 .complete] }) (.capCtrlRelease 5 31 0x1F08#32) (fun h =>
        h.rd (Addr.CAP_RESULT 31) == 0x500#32 && (h.unit 31).recs.isEmpty && h.rd (Addr.CAP_SLOTS 31) == 0#32)
        fun a => a == Addr.CAP_SLOTS 31 || a == Addr.CAP_RESULT 31) ∧
    (ok (cu 0 [] fun h => h.modUnit 31 fun u => { u with recs := [recOf 31 .closed] }) (.capCtrlRelease 5 31 0x1F08#32) (fun h =>
        h.rd (Addr.CAP_RESULT 31) == 0x501#32) fun a => a == Addr.CAP_RESULT 31) ∧
    ((cu 0 [] id 5).hub.mode = .service ∧ ok (cu 0 [] id 5) (.capCtrlArm 5 31 1#32) (fun h => h.rd (Addr.CAP_RESULT 31) == 0x500#32 && h.capState 31 == capARMED) ∧
        ok (cu 0x501 [] id 5) (.capCtrlArm 5 31 1#32) (fun h => h.rd (Addr.CAP_RESULT 31) == 0x501#32)) ∧
    (ok (cu 0x506 [(Addr.CAP_SIZE 31, 0x100#32), (Addr.CAP_SLOTS 31, 1#32)] fun h => h.modUnit 31 fun u => { u with recs := [recOf 0 .complete] }) (.capCtrlRelease 5 31 8#32)
        (fun h => h.capState 31 == capARMED && (h.unit 31).recs.isEmpty && h.domeWord 0x400000 == 0xFFFFFFFF#32 && h.domeWord 0x4000F8 == 0xFFFFFFFF#32)
        fun a => a == Addr.CAP_STATE 31 || a == Addr.CAP_SLOTS 31 || a == Addr.CAP_RESULT 31) := by
  decide +kernel

/-- A unit with PRE 2, POST 3 whose sets up to `n` are stored, and a trigger at instant 10, between its sets 0 and 1. -/
def cst (n : Int) (cfg : Word) (post : Word) : State :=
  cu 1 [(Addr.CAP_CFG 31, cfg), (Addr.CAP_PRE 31, 2#32), (Addr.CAP_POST 31, post), (Addr.CAP_LATE 31, 2#32)] fun h =>
    h.modUnit 31 fun _ => { next := n, queue := [{ arrived := 65536000, time := 10, src := 5, detail := 0 }] }
/-- A stream-through unit in its record, of `post` sets from set 1 on. -/
def sth (post : Word) : State :=
  cu 4 [(Addr.CAP_CFG 31, 0x8201#32), (Addr.CAP_POST 31, post), (Addr.CAP_STREAM 31, 9#32)] fun h => h.modUnit 31 fun _ => { next := 2, s0 := 1, preN := 1 }

def cr1 (x : Nat) (c : CapUnit := {}) (l : List (Nat × Word) := []) (f : Hub → Hub := id) : State :=
  cu x l fun h => f (h.modUnit 31 fun _ => c)
/-- Unit 30 holds a complete set too, and unit 29 was served last. -/
def crw : State := cr1 1 {} [(Addr.CAP_STATE 30, 1#32)] fun h => { h with cape.served := 29 }
/-- As many sets wait as the FIFO holds. -/
def crf : State := cr1 3 { next := -((cr1 3).hub.fifoSets 31 : Int) }
def atrig : CapTrig := { arrived := 5, time := 9, src := 5, detail := 0 }

/-- Meets the hypotheses of CaptureUnitsInRun. -/
theorem test_capture_units_in_run :
    ((cr1 1).hub.setReady 31 0 65536000 ∧ (cr1 1).hub.capTurn 31 65536000 ∧ ok (cr1 1) (.captureSetStored 31) (fun h => (h.unit 31).next == 1 && h.domeByte 0x4000D0 == 0x00#8)
        fun _ => false) ∧
    ((cr1 1 { next := 1000 }).hub.setReady 31 1000 65536000 = false ∧ same (cr1 1 { next := 1000 }) (.captureSetStored 31)) ∧
    ((crw.hub.setReady 31 0 65536000 ∧ crw.hub.capTurn 31 65536000 = false) ∧ same crw (.captureSetStored 31)) ∧
    ((cr1 3).hub.setLostFull 31 65536000 = false ∧ ok (cr1 3) (.captureSetStored 31) (fun h => h.capState 31 == capCLOSING && h.cape.measQ == [(31, 0)] && (h.unit 31).recs.length == 1)
        fun a => a == Addr.CAP_STATE 31) ∧
    (crf.hub.setLostFull 31 65536000 ∧ ok crf (.captureSetStored 31) (fun h => h.capState 31 == capCLOSING && h.rd Addr.CAPE_OVF_CNT == 1#32 &&
        (h.unit 31).recs.map (·.status) == [2]) fun a => a == Addr.CAP_STATE 31 || a == Addr.CAPE_OVF_CNT) ∧
    (ok (cr1 0 { queue := [atrig] }) (.captureTrigger 31) (fun h => (h.unit 31).queue.isEmpty) fun _ => false) ∧
    (ok (cr1 1 { queue := [atrig] }) (.captureTrigger 31) (fun h => h.capState 31 == capPENDING && h.rd (Addr.CAPE_REASON_CNT 0) == 1#32)) ∧
    (ok (cr1 capCLOSING { queue := [atrig] }) (.captureTrigger 31) (fun h => h.rd (Addr.CAPE_REASON_CNT 2) == 1#32 && h.rd (Addr.CAP_MISSED 31) == 1#32)) ∧
    (ok (cr1 capFULL { queue := [atrig] }) (.captureTrigger 31) (fun h => h.rd (Addr.CAPE_REASON_CNT 3) == 1#32 && h.rd (Addr.CAP_MISSED 31) == 1#32)) ∧
    (ok (cr1 2 { queue := [atrig] }) (.captureTrigger 31) (fun h => h.rd (Addr.CAPE_REASON_CNT 1) == 1#32 && (h.unit 31).missed == 1)) ∧
    (ok (cr1 capCLOSING {} [(Addr.CAP_CFG 31, 0x200#32)]) (.captureRearm 31) (fun h => h.capState 31 == capDISARMED) fun a => a == Addr.CAP_STATE 31) ∧
    (ok (cr1 capCLOSING) (.captureRearm 31) (fun h => h.capState 31 == capARMED && h.capSlot 31 == 1) fun a => a == Addr.CAP_STATE 31 || a == Addr.CAP_SLOTS 31) ∧
    ((cr1 capCLOSING {} [(Addr.CAP_SIZE 31, 0x100#32)]).hub.nrec 31 = 1 ∧
        ok (cr1 capCLOSING { recs := [recOf 0 .closed] } [(Addr.CAP_SIZE 31, 0x100#32)]) (.captureRearm 31) (fun h => h.capState 31 == capFULL) fun a => a == Addr.CAP_STATE 31) ∧
    (same (cr1 3) (.captureRearm 31)) ∧
    (ok (cr1 0 { recs := [recOf 1 .closed] } [(Addr.CAP_SEQ 31, 7#32)] fun h => { h with cape.measQ := [(31, 1)] }) .recordMeasured (fun h =>
        (h.unit 31).recs.map (fun x => (x.slot, x.st == .complete, x.seq)) == [(1, true, 7)] && h.rd (Addr.CAP_SLOTS 31) == 2#32 && h.rd (Addr.CAP_SEQ 31) == 8#32 &&
        h.domeWord (0x400000 + 512 - 8) == 7#32) fun a => a == Addr.CAP_SLOTS 31 || a == Addr.CAP_SEQ 31) ∧
    (ok (cr1 capFULL { recs := [recOf 1 .closed] } [(Addr.CAP_CFG 31, 0x20200#32)] fun h => { h with cape.measQ := [(31, 1)] }) .recordMeasured (fun h =>
        h.capState 31 == capARMED && h.cape.measQ.isEmpty)) ∧
    (ok (cr1 0 { recs := [recOf 1 .complete] } [(Addr.CAP_CFG 31, 0x10200#32), (Addr.CAP_STREAM 31, 1023#32)]) (.recordDeliver 31) (fun h =>
        h.led.inQ.map (fun e => (e.stream, e.bytes.length)) == [(1023, 256)]) fun _ => false) ∧
    (same (cu 0 [(Addr.SEL_CFG, 2#32)] id) (.recordDeliver 31)) ∧
    ((cr1 1).hub.areaN 31 ≠ 0 ∧ (cr1 1).hub.capTap 31 = 0 ∧ (cr1 1).hub.capFmt 31 = 0 ∧ (cr1 1).hub.boxK 31 = 0) ∧
    (ok (cst 20 0x8200#32 3#32) (.captureTrigger 31) (fun h => h.capState 31 == capARMED && h.rd (Addr.CAPE_REASON_CNT 4) == 1#32 && h.rd (Addr.CAP_MISSED 31) == 1#32) ∧
        1 < (cst 20 0x8200#32 3#32).hub.oldestSet 31 ∧ 10 ≤ (cst 20 0x8200#32 3#32).hub.setInstant 31 19) ∧
    (ok (cst 3 0x8200#32 3#32) (.captureTrigger 31) (fun h => h.capState 31 == capRECORDING && (h.unit 31).s0 == 1 && (h.unit 31).preN == 1 && h.rd (Addr.CAPE_REASON_CNT 0) == 1#32)) ∧
    (ok (cst 5 0x8200#32 3#32) (.captureTrigger 31) (fun h => h.capState 31 == capCLOSING && (h.unit 31).recs.map (fun x => (x.preN, x.count, x.status)) == [(1, 4, 1)])) ∧
    (ok (cst 3 0x8201#32 0#32) (.captureTrigger 31) (fun h => h.capState 31 == capSTREAMING && h.led.inQ.map (fun e => (e.starts, e.bytes.length)) == [(true, 128), (false, 2), (false, 2), (false, 2)])) ∧
    ((sth 0#32).hub.setLostFull 31 65536000 = false ∧ ok (sth 0#32) (.captureSetStored 31) (fun h => h.capState 31 == capSTREAMING && h.led.inQ.map (fun e => (e.stream, e.bytes)) == [(9, [0, 0])]) fun _ => false) ∧
    ((sth 2#32).hub.setReady 31 2 65536000 ∧ (sth 2#32).hub.capTurn 31 65536000 ∧ ok (sth 2#32) (.captureSetStored 31) (fun h =>
        h.capState 31 == capCLOSING && h.led.inQ.map (fun e => (e.ends, e.bytes.length)) == [(false, 2), (true, 16)] &&
        (h.led.inQ.getLast?.map fun e => (e.bytes.drop 8).take 4) == some [3, 0, 0, 0])) ∧
    (ok (cr1 0 { recs := [recOf 1 .closed] } [(Addr.CAP_SEQ 31, 7#32)] fun h => { h with cape.measQ := [(31, 1)] }) .recordMeasured (fun h =>
        h.domeWord 0x400100 == 7#32 && h.domeWord 0x400184 == 1#32)) ∧
    (ok (cr1 0 { recs := [{ recOf 1 .closed with holes := [(0, 0, true)] }] } [] fun h => { h with cape.measQ := [(31, 1)] }) .recordMeasured (fun h =>
        h.domeWord 0x400184 == 0#32 && (h.domeWord 0x400180).getLsbD 10)) := by
  decide +kernel

def elm (k fmt inst : Nat) : LedElem :=
  { stream := 700, kind := .plain, seq := some k, inst := inst, fmt := fmt, flags := 3, value := 0x01020304#32, period := 10 }
def opened : Packet :=
  { stream := 700, kind := .plain, fmt := 1, seq := 5, last := 5, count := 1, time := 77, period := 10, body := [9, 9, 9, 9], flagBlock := [1], opened := 100 }
/-- Stream 700 on queue 63 of the gateway, whose uplink is ACTIVE, with an open packet. -/
def lq (o : Option Packet) (q : Queue := {}) (l : List (Nat × Word) := []) (f : Hub → Hub := id) (r : Nat := 0) : State :=
  st 3 ([(Addr.LANE_CFG 3, 7#32), (Addr.LANE_STATUS 3, wd sACTIVE)] ++ l) (fun h => f { (((((h.setActive (Addr.LED_STREAM 700) 0x7F#32).setActive (Addr.LED_Q_CFG 63) 0x302400#32).setActive
    (Addr.LED_Q_TIME 63) 0x140001#32).setQueue 63 q).setStream 700 { opn := o, prod := 5, first := false, nextFrom := 5 }).setLane 3 { cfg := 7#32 } with led.inQ := [elm 6 1 88] }) r
def held (a b : Nat) : Packet := { opened with seq := a, last := b, words := 6, off := 6 * a, sentAt := some 0 }
def lost (a b : Nat) : Packet := { held a b with kind := .gap, reason := 1 }
/-- A full queue with `v` at M and `p` behind it, and an open packet whose time has come. -/
def full (v p : Packet) : State := lq (some opened) { pkts := [{ v with off := 0 }, { p with off := 30000 }] } [(Addr.LED_Q_WR 63, 0x400000#32)] id 1001
/-- No lane is ACTIVE, at position 1 of a span whose gateway is at 0; the stream has its DESC of this epoch and period, or not. -/
def out (d : Option Nat) : State :=
  lq none { pkts := [held 0 4] } [(Addr.LANE_STATUS 3, 0#32), (Addr.SPAN_CFG, 257#32)] fun h => h.modStream 700 fun x => { x with descDue := false, descEpoch := d.map fun e => (e, 10) }

/-- Meets the hypotheses of LedgerPackets. -/
theorem test_packets_are_built_sealed_and_sent :
    (ok (lq none) .ledgerElementArrive (fun h => h.led.inQ.isEmpty && (h.stream 700).prod == 7 && (h.stream 700).opn.any fun p =>
        p.count == 1 && p.seq == 6 && p.time == 88 && p.body == [4, 3, 2, 1] && p.flagBlock == [3]) fun _ => false) ∧
    (ok (lq (some opened)) .ledgerElementArrive (fun h => (h.stream 700).opn.any fun p => p.count == 2 && p.last == 6 && p.time == 77 &&
        p.body == [9, 9, 9, 9, 4, 3, 2, 1] && p.flagBlock == [1, 3]) fun _ => false) ∧
    ((lq none).hub.sealTime 700 = 65536000 ∧ (lq none).hub.queueCap 63 = 73728 ∧ (lq none).hub.streamQueue 700 = 63) ∧
    (same (lq (some opened) {} [] id 1000) (.packetSealTimeout 700)) ∧
    ((lq (some opened)).hub.queueAddr 63 0 + 8 * 73728 ≤ domeSize ∧ ok (lq (some opened) {} [] id 1001) (.packetSealTimeout 700) (fun h =>
        (h.stream 700).opn.isNone && (h.queue 63).pkts.map (fun p => (p.seq, p.count, p.off, p.words)) == [(5, 1, 0, 5)] &&
        h.rd (Addr.LED_Q_WR 63) == 5#32 && h.domeByte (h.queueAddr 63 4) == 9#8 && h.domeByte (h.queueAddr 63 4 + 4) == 1#8)
        fun a => a == Addr.LED_Q_WR 63 || a == Addr.LED_Q_FILL_MAX 63) ∧
    ((lq none { pkts := [held 0 4] }).hub.delivers ∧ (lq none { pkts := [held 0 4] }).hub.nextQueue = some 63 ∧ (lq none { pkts := [held 0 4] }).hub.led.takeover = none ∧
        ok (lq none { pkts := [held 0 4] } [(Addr.LED_EPOCH, 77#32)]) .packetSend (fun h => (h.queue 63).sentN == 1 && h.led.out.length == 2 &&
        h.led.out.all (fun x => x.header.getD 7 0#32 == 77#32) && h.led.out.map (·.payload.length) == [32, 16]) fun _ => false) ∧
    ((lq none {} [] fun h => h.wr Addr.SYS_MODE 0#32).hub.delivers = false ∧ same (lq none {} [] fun h => h.wr Addr.SYS_MODE 0#32) .packetSend) ∧
    (same (lq none {} [] fun h => h.wr Addr.SYS_MODE 0#32) .descPeriodic) ∧
    ((lq none).hub.ledgerLane = some (3, 0) ∧ (lq none).hub.ledgerWaits = false ∧ (lq none { pkts := [held 0 4] }).hub.descFirst (held 0 4)) ∧
    ((full (held 0 4) (held 5 9)).hub.queueUsed 63 = 73728 ∧ ((full (held 0 4) (held 5 9)).hub.evictOne 63).extendable 63 ((held 0 4).loss 65601536) = none ∧
        ok (full (held 0 4) (held 5 9)) (.packetSealTimeout 700) (fun h => (h.queue 63).pkts.map (fun p => (p.kind, p.seq, p.last)) ==
          [(.plain, 5, 9), (.gap, 0, 4), (.plain, 5, 5)] && h.rd (Addr.LED_Q_EVICT_CNT 63) == 1#32 && h.bit (Addr.LED_Q_STATUS 63) 2 && h.rd Addr.LED_GAP_CNT == 1#32)) ∧
    (ok (full { lost 0 4 with reason := 5 } (held 5 9)) (.packetSealTimeout 700) (fun h =>
        (h.queue 63).pkts.map (fun p => (p.kind, p.reason, p.merged)) == [(.plain, 0, 0), (.gap, 1, 16), (.plain, 0, 0)])) ∧
    (((full (held 5 9) (lost 2 4)).hub.evictOne 63).extendable 63 ((held 5 9).loss 65601536) = some 0 ∧
        ok (full (held 5 9) (lost 2 4)) (.packetSealTimeout 700) (fun h => (h.queue 63).pkts.map (fun p => (p.kind, p.seq, p.last, p.off)) ==
          [(.gap, 2, 9, 30000), (.plain, 5, 5, 0x400000)] && h.rd Addr.LED_GAP_CNT == 0#32)) ∧
    (ok (lq none { pkts := [held 0 4] } [] fun h => { h.domeBytes (h.queueAddr 63 0) (List.replicate 48 0#8) with badParity := [h.queueAddr 63 4 / 8] }) .packetSend (fun h => h.rd Addr.LED_POISON_CNT == 1#32 &&
        h.led.out.map (fun x => ((x.header.getD 2 0#32).getLsbD 16, (x.payload.getD 4 0#8).getLsbD 6)) == [(false, false), (true, true)])) ∧
    (ok (lq none { pkts := [held 0 2, held 5 6, held 9 9], sentN := 1 } [] fun h => { h with badParity := [h.queueAddr 63 30 / 8] }) .packetSend (fun h =>
        h.rd Addr.LED_POISON_CNT == 1#32 && (h.led.out.getLast?.map fun x => (x.header.getD 1 0#32, x.payload.take 8)) == some (3#32, [8, 0, 0, 0, 0, 0, 5, 0]))) ∧
    ((out none).hub.ledgerLane = none ∧ (out none).hub.ledgerWaits = false ∧ ok (out (some 0)) .packetSend (fun h => h.led.out.isEmpty && h.rd Addr.CNT_UNREACH == 1#32 && (h.queue 63).sentN == 1)
        fun a => a == Addr.CNT_UNREACH) ∧
    (ok (out none) .packetSend fun h => h.rd Addr.CNT_UNREACH == 2#32) ∧
    ((lq none { pkts := [held 0 4] } [(Addr.LANE_STATUS 3, 0#32)]).hub.ledgerWaits ∧ same (lq none { pkts := [held 0 4] } [(Addr.LANE_STATUS 3, 0#32)]) .packetSend) ∧
    ((lq none { pkts := [held 0 4] }).hub.nextPacket 700 = some (held 0 4) ∧ (lq none).hub.nextPacket 700 = none ∧ (lq none).hub.streamKind 700 ≠ .derived) ∧
    ((lq none).hub.streamLive 700 ∧ (lq none).hub.delivers) := by
  decide +kernel

def msg (k n e : Nat) : AckMsg := { pairId := 0, epoch := e, entries := [(k, n)] }
/-- Stream 700 with packets 0 to 4 and 5 to 9 in queue 63, the first sent. -/
def lk (l : List (Nat × Word) := []) (n : Nat := 1) (r : Nat := 0) : State :=
  lq none { pkts := [{ held 0 4 with sent := true }, held 5 9], sentN := n } ((Addr.LED_EPOCH, 7#32) :: (Addr.SYS_PLAN_STATUS, 1#32) :: l)
    (fun h => { h.modStream 700 fun x => { x with prod := 10 } with sys.plan.used := [1] }) r

/-- Meets the hypotheses of LedgerPackets, LedgerAcknowledgement, UnacknowledgedPacketsAreSentAgain. -/
theorem test_packets_are_acknowledged :
    (lk.hub.ackTaken (msg 700 5 7) 700 ∧ lk.hub.ackHeld 700 = false ∧ lk.hub.ackTaken (msg 700 5 8) 700 = false) ∧
    (ok lk (.ack (msg 700 5 7)) (fun h => (h.stream 700).ack == 5 && (h.queue 63).pkts == [held 5 9] && (h.queue 63).sentN == 0) fun _ => false) ∧
    (ok lk (.ack (msg 700 99 7)) (fun h => (h.stream 700).ack == 10 && (h.queue 63).pkts.isEmpty) fun _ => false) ∧
    (same lk (.ack (msg 700 0 7))) ∧
    (ok lk (.ack (msg 700 5 8)) (fun h => h.rd Addr.LED_ACK_IGN_CNT == 1#32 && h.stream 700 == lk.hub.stream 700) fun a => a == Addr.LED_ACK_IGN_CNT) ∧
    (ok (lk [(Addr.LED_ACK_IGN_CNT, 65535#32)]) (.nack (msg 701 5 7)) (fun h => h.rd Addr.LED_ACK_IGN_CNT == 65535#32) fun _ => false) ∧
    (lk.hub.holding 700 0 = some (63, 0) ∧ ok (lk [(Addr.LED_Q_REWIND_CNT 63, 0xFFFFFFFF#32)]) (.nack (msg 700 0 7)) (fun h =>
        (h.queue 63).sentN == 0 && (h.queue 63).pkts.length == 2 && h.rd (Addr.LED_Q_REWIND_CNT 63) == 0x0000FFFF#32)
        fun a => a == Addr.LED_Q_REWIND_CNT 63) ∧
    (same (lk [] 0) (.nack (msg 700 0 7))) ∧
    (same (lk [] 1 20000000) (.ackTimeout 63)) ∧
    (same (lk [] 0 20000001) (.ackTimeout 63)) ∧
    (ok (lk [(Addr.LED_Q_REWIND_CNT 63, 0x1FFFF#32)] 1 20000001) (.ackTimeout 63) (fun h => (h.queue 63).sentN == 0 && (h.stream 700).descDue &&
        h.rd (Addr.LED_Q_REWIND_CNT 63) == 0x10000#32) fun a => a == Addr.LED_Q_REWIND_CNT 63) ∧
    (ok (lk [] 2) (.nack (msg 700 5 7)) (fun h => (h.stream 700).ack == 5 && (h.queue 63).pkts == [held 5 9] && (h.queue 63).sentN == 0 &&
        h.rd (Addr.LED_Q_REWIND_CNT 63) == 0x10000#32) fun a => a == Addr.LED_Q_REWIND_CNT 63) ∧
    (ok (lk [] 1) (.nack (msg 700 5 7)) (fun h => (h.stream 700).ack == 5 && h.rd (Addr.LED_Q_REWIND_CNT 63) == 0#32) fun _ => false) ∧
    (ok lk (.nack (msg 700 99 7)) (fun h => (h.stream 700).ack == 10 && (h.queue 63).pkts.isEmpty) fun _ => false) := by
  decide +kernel

def lay (l : List (Nat × Word)) : State := st 1 l

/-- Meets the hypotheses of LedgerAcknowledgement. -/
theorem test_layouts_are_checked :
    (may (lay []) 0 Addr.LED_CTRL ∧ (lay []).hub.timingFault = none ∧ (lay []).hub.layoutFault = none) ∧
    ((lay [(Addr.LED_Q_TIME 63, 0x010001#32)]).hub.timingFault = some 63 ∧ (lay [(Addr.LED_Q_TIME 63, 0x3E80001#32)]).hub.timingFault = none) ∧
    (ok (lay [(Addr.LED_Q_TIME 63, 0x3E90001#32)]) (.ledgerCommit 0 1#32) (fun h => h.rd Addr.LED_COMMIT_STATUS == 0x3F03#32) fun a => a == Addr.LED_COMMIT_STATUS) ∧
    ((lay [(Addr.LED_Q_CFG 1, 0x402#32)]).hub.layoutFault = some 1 ∧ ok (lay [(Addr.LED_Q_CFG 1, 0x402#32)]) (.ledgerCommit 0 1#32)
        (fun h => h.rd Addr.LED_COMMIT_STATUS == wd (ESIZE + 256)) fun a => a == Addr.LED_COMMIT_STATUS) ∧
    ((lay [(Addr.LED_STREAM 700, 0x7F#32), (Addr.LED_Q_CFG 63, 0#32)]).hub.bindingFault = some 700 ∧ ok (lay [(Addr.LED_STREAM 700, 0x7F#32), (Addr.LED_Q_CFG 63, 0#32)])
        (.ledgerCommit 0 1#32) (fun h => h.rd Addr.LED_COMMIT_STATUS == wd (ESTATE + 256 * 63 + 16384 * 700)) fun a => a == Addr.LED_COMMIT_STATUS) := by
  decide +kernel

/-- Lane 3 with this LANE_CFG and status, at position 1 of a span of 4 whose gateway is at 0. -/
def ln (cfg stage : Nat) (x : Lane := {}) (l : List (Nat × Word) := []) (f : Hub → Hub := id) (m : Nat := 1) (r : Nat := 1000) : State :=
  st m ([(Addr.LANE_CFG 3, wd cfg), (Addr.LANE_STATUS 3, wd stage), (Addr.SPAN_CFG, 257#32)] ++ l)
    (fun h => f (h.setLane 3 { x with cfg := wd cfg })) r
def pins3 (a : Nat) : Bool := a == Addr.LANE_STATUS 3 || a == Addr.MOD_STATUS 3 || a == Addr.LANE_CFG 3

/-- Meets the hypotheses of LaneBringUp. -/
theorem test_lanes_come_up :
    (may (ln 0 0) 0 (Addr.LANE_CFG 3) ∧ (ln 0 0).hub.setupMode ∧ ok (ln 0 0) (.laneCfgWrite 0 3 3#32) (fun h => h.stageOf 3 == sDETECT && h.bit (Addr.MOD_STATUS 3) 2 &&
        h.liveRole 3 == rSPANW && h.optical 3 && h.rd (Addr.LANE_CFG 3) == 3#32) pins3) ∧
    (ok (ln 0 0 {} [] id 3) (.laneCfgWrite 0 3 3#32) (fun h => lg 1 (ln 0 0 {} [] id 3) h) inLog) ∧
    (ok (ln 0 0) (.laneCfgWrite 0 3 0x0B#32) (fun h => lg 1 (ln 0 0) h) inLog) ∧
    (ok (ln 0 0 {} [(Addr.LANE_CFG 0, 3#32)]) (.laneCfgWrite 0 3 3#32) (fun h => lg 1 (ln 0 0) h) inLog) ∧
    (ok (ln 3 sTRAIN) (.laneCfgWrite 0 3 1#32) (fun h => h.liveRole 3 == rSPANW && h.rd (Addr.LANE_CFG 3) == 1#32) fun a => a == Addr.LANE_CFG 3) ∧
    (ok (ln 3 sTRAIN) (.laneCfgWrite 0 3 2#32) (fun h => h.stageOf 3 == sDISABLED) pins3) ∧
    (ok (ln 5 sACTIVE { txq := [{ frame := { type := tMGMT } }] }) (.laneCfgWrite 0 3 4#32) fun h => h.stageOf 3 == sDISABLED && h.bit (Addr.LANE_STATUS 3) 9 && (h.lane 3).txq.isEmpty) ∧
    (ok (ln 3 sDETECT) (.laneDetectDone 3) (fun h => h.stageOf 3 == sTRAIN && h.bit (Addr.LANE_STATUS 3) 7) pins3) ∧
    (ok (ln 0x0F (sDETECT + 8)) (.laneDetectDone 3) (fun h => h.stageOf 3 == sLOCK) pins3) ∧
    (ok (ln 3 sTRAIN { holdTx := some 0 } [] id 1 20000000) (.laneTrainDone 3) (fun h => h.stageOf 3 == sLOCK && h.bit (Addr.MOD_STATUS 3) 2) pins3) ∧
    (ok (ln 3 sTRAIN {} [] id 1 200000000) (.laneTrainTimeout 3) (fun h => h.stageOf 3 == sDETECT && h.rd (Addr.CNT_TRAIN_FAIL 3) == 1#32) fun a => pins3 a || a == Addr.CNT_TRAIN_FAIL 3) ∧
    (same (ln 3 sTRAIN {} [] id 1 19999999) (.laneTrainDone 3) ∧ same (ln 3 sTRAIN {} [] id 1 199999999) (.laneTrainTimeout 3)) ∧
    (same (ln 3 sEXCHANGE {} [] id 1 49999999) (.laneLockTimeout 3) ∧ same (ln 3 sDETECT { holdTx := some 0 }) (.laneDetectDone 3)) ∧
    (ok (ln 3 sLOCK) (.laneLockDone 3) (fun h => h.stageOf 3 == sEXCHANGE && (h.lane 3).peerNonce.isNone && (h.lane 3).adv == h.rd (Addr.CRED_ADV 3)) pins3) ∧
    ((ln 3 sLOCK).hub.isEth 3 = false ∧ (ln 3 sLOCK).hub.stageOf 3 = sLOCK) ∧
    (ok (ln 3 sEXCHANGE { fails := 1 } [] id 1 50000000) (.laneLockTimeout 3) (fun h => h.stageOf 3 == sTRAIN && (h.lane 3).fails == 2) pins3) ∧
    (ok (ln 3 sLOCK { fails := 2 } [] id 1 10000000) (.laneLockTimeout 3) (fun h => h.stageOf 3 == sDETECT && (h.lane 3).holdTx == some 655360000000 && (h.lane 3).fails == 0) pins3) ∧
    (ok (ln 3 sTRAIN { holdTx := some 0 } [] id 1 100000000) (.txDisableHoldEnd 3) (fun h => (h.lane 3).holdTx.isNone && !h.bit (Addr.MOD_STATUS 3) 2) pins3) ∧
    (may (ln 3 sLOCK) 8 (Addr.LANE_CTRL 3) ∧ ok (ln 3 sLOCK {} [(Addr.LANE_CFG 3, 1#32)]) (.retrain 8 3 1#32) (fun h => h.stageOf 3 == sTRAIN && h.liveRole 3 == rSPANE) pins3) ∧
    (ok (ln 0x0F (sACTIVE + 8)) (.retrain 8 3 1#32) fun h => h.stageOf 3 == sDETECT && h.bit (Addr.LANE_STATUS 3) 9) ∧
    (waits (cmd 0x50 3 3 [(Addr.LANE_CFG 3, 3#32), (Addr.LANE_STATUS 3, 2#32)]) 0x50 3 ∧ ok (cmd 0x50 3 3 [(Addr.LANE_CFG 3, 3#32), (Addr.LANE_STATUS 3, 2#32)])
        (.linkRetrain 0) fun h => resp 0x005A0000#32 h && h.stageOf 3 == sTRAIN) := by
  decide +kernel

def capFrame (w0 : Word) : Frame :=
  { type := tCAP, payload := [w0, 0#32, 0#32, 0#32, 7#32, 0x01020304#32, 9#32, 7#32, 0#32] }
/-- A CAP of the west neighbour, version 2, span of 4 at position 0, echoing our NONCE 7. -/
def capOf (w0 : Word) : RxFrame :=
  onLine (capFrame w0)
def west : Word := 0x04000102#32
def exch (e : Word := 9#32) : State := ln 3 sEXCHANGE { nonce := 7#32, echoed := some e }
def up2 (k : Nat) (f : Hub → Hub := id) (x : Lane := {}) (r : Nat := 1000) : State := ln 3 k x [(Addr.LANE_CFG 0, 1#32), (Addr.LANE_STATUS 0, 5#32)] (fun h => f (h.setLane 0 { cfg := 1#32 })) 1 r
def ringOf (w : Word) (n : Nat) (src ttl : Nat) : RxFrame :=
  onLine { type := tRING, addr := aBCAST, src := src, ttl := ttl, payload := [w, wd n, 0#32, 0#32] }

/-- Meets the hypotheses of CapabilityExchangeAndTheRing. -/
theorem test_lanes_exchange_and_heal :
    (ok (ln 3 sEXCHANGE { peerNonce := some 9#32 }) (.capSend 3) (fun h => (h.lane 3).echoed == some 9#32 && (h.lane 3).sent.any (fun f => f.type == tCAP) &&
        h.rd (Addr.FRAMES_TX 3) == 1#32) fun a => a == Addr.FRAMES_TX 3) ∧
    (exch.hub.capReason 3 (capFrame west).payload = 0 ∧ heardAs 3 (capFrame west) (capOf west) exch ∧ ok exch (.cap 3 (capOf west)) fun h => h.stageOf 3 == sACTIVE && (h.lane 3).creds == [4, 3, 8, 1] &&
        h.fld (Addr.LANE_STATUS 3) 5 2 == 2 && h.rd (Addr.LANE_FEAT 3) == 7#32 && h.rd (Addr.PEER_CAP 3 5) == 0x01020304#32) ∧
    (ok exch (.cap 3 (capOf (west + 0x10000#32))) fun h => h.stageOf 3 == sINCOMPAT && h.fld (Addr.LANE_STATUS 3) 10 4 == 2 && lg 17 exch h) ∧
    (ok exch (.cap 3 (capOf (west + 0x40000#32))) fun h => h.stageOf 3 == sINCOMPAT && h.fld (Addr.LANE_STATUS 3) 10 4 == 3) ∧
    (ok exch (.cap 3 (capOf 0x04000303#32)) fun h => h.stageOf 3 == sINCOMPAT && h.fld (Addr.LANE_STATUS 3) 10 4 == 1) ∧
    (ok (exch 0#32) (.cap 3 (capOf west)) fun h => h.stageOf 3 == sEXCHANGE) ∧
    (ok (up2 sACTIVE id { txq := [{ frame := { type := tMGMT } }] }) (.laneLoss 3 (List.replicate 100 false)) fun h => h.stageOf 3 == sLOCK && (h.lane 3).txq.isEmpty && h.segDown 0 && h.rd (Addr.CNT_CODE 3) == 6#32 &&
        h.rd (Addr.CNT_DISCARD 3) == 1#32 && h.castTtl true == 3 && (h.lane 0).txq.map (fun y => (y.frame.type, y.frame.ttl)) == [(tRING, 3)]) ∧
    (ok (ln 5 sACTIVE) (.laneLoss 3 []) fun h => h.bit Addr.SEL_STATUS 13 && h.stageOf 3 == sLOCK) ∧
    (ok (ln 3 sTRAIN { ddm := true }) (.moduleRemoval 3) (fun h => h.stageOf 3 == sDETECT && h.bit (Addr.MOD_STATUS 3) 0 && !(h.lane 3).ddm) pins3) ∧
    (ok (ln 0x23 sTRAIN) (.moduleRemoval 3) (fun h => h.stageOf 3 == sTRAIN && h.bit (Addr.MOD_STATUS 3) 0) pins3) ∧
    (ok (ln 3 sLOCK) (.los 3 true) (fun h => h.stageOf 3 == sDETECT && h.bit (Addr.LANE_STATUS 3) 8) pins3) ∧
    (ok (ln 3 sTRAIN {} [(Addr.LANE_STATUS 3, 0x102#32), (Addr.MOD_STATUS 3, 2#32)]) (.los 3 false) (fun h => !h.bit (Addr.MOD_STATUS 3) 1 && !h.bit (Addr.LANE_STATUS 3) 8) pins3) ∧
    (ok (ln 3 sTRAIN) (.los 3 true) (fun h => h.stageOf 3 == sTRAIN && h.bit (Addr.MOD_STATUS 3) 1) pins3) ∧
    (same (up2 sACTIVE id { upPending := true } 99999999) (.segmentUpReport 3) ∧ ok (up2 sACTIVE id { upPending := true } 100000000) (.segmentUpReport 3) fun h => !(h.lane 3).upPending && SMap.find h.gate.reports 1 == some (1, true) &&
        (h.lane 0).txq.map (fun y => (y.frame.ttl, y.frame.payload.getD 0 0#32)) == [(2, 0x1001#32)]) ∧
    (ok (up2 sTRAIN fun h => { h with gate.reports := [(1, (5, false)), (2, (6, true))] }) .ringRepeat fun h =>
        (h.lane 0).txq.map (fun y => (y.frame.payload.take 2)) == [[0x1041#32, 6#32], [0x0001#32, 5#32]]) ∧
    (ok (up2 sACTIVE fun h => { h with gate.reports := [(5, (10, true))] }) (.ring 3 (ringOf 0x83#32 11 2 2)) fun h => h.segDown 2 && SMap.find h.gate.reports 5 == some (11, false) &&
        (h.lane 0).txq.map (fun y => (y.frame.ttl, y.fromLane)) == [(1, some 3)]) ∧
    (ok (up2 sACTIVE fun h => { h with gate.reports := [(5, (10, true))] }) (.ring 3 (ringOf 0x83#32 10 2 0)) fun h => !h.segDown 2 && (h.lane 0).txq.isEmpty) ∧
    (ok (up2 sACTIVE fun h => (h.setLane 0 { cfg := 1#32, txq := [{ frame := { type := tMGMT } }] }).wr Addr.SPAN_CFG 257#32) (.ring 3 (ringOf 0x83#32 11 2 1)) fun h =>
        SMap.find h.gate.reports 5 == some (11, false) && (h.lane 0).txq.map (·.frame.type) == [tMGMT]) ∧
    (ok (up2 sACTIVE) (.ring 3 (ringOf 0x83#32 11 1 2)) (fun h => h.gate.reports.isEmpty) fun a => a == Addr.FRAMES_RX 3) ∧
    (ok (ln 3 sEXCHANGE { heardEcho := true, peerNonce := some 9#32 } ((List.range 9).map fun k => (Addr.PEER_CAP 3 k, (capFrame west).payload.getD k 0#32))) (.capSend 3)
        fun h => h.stageOf 3 == sACTIVE) ∧
    (ok (up2 sACTIVE fun h => { h with led.out := [{ header := [], payload := [], lane := 3 }, { header := [], payload := [], lane := 0 }] }) (.laneLoss 3 []) fun h =>
        h.led.out.map (·.lane) == [0] && h.rd (Addr.CNT_DISCARD 3) == 1#32) ∧
    (ok (ln 2 0x80) (.moduleRemoval 3) (fun h => h.stageOf 3 == sDISABLED && h.bit (Addr.MOD_STATUS 3) 0 && !h.bit (Addr.LANE_STATUS 3) 7) pins3) := by
  decide +kernel

def fr (t : Nat) (p : List Word) (a : Nat := 0) (src : Nat := 2) (dst : Nat := 1) (ttl : Nat := 1) : Frame :=
  { type := t, addr := a, src := src, dst := dst, ttl := ttl, payload := p }
def rx (t : Nat) (p : List Word) (a : Nat := 0) (src : Nat := 2) (dst : Nat := 1) (ttl : Nat := 1) : RxFrame :=
  onLine (fr t p a src dst ttl)
def act (x : Lane := {}) (l : List (Nat × Word) := []) (f : Hub → Hub := id) : State := ln 3 sACTIVE { x with creds := [1, 1, 1, 1] } l f
def wait2 (since : Nat) : Lane := { creds := [1, 1, 1, 40], txq := [{ frame := fr tCAP [], since := 0 }, { frame := fr tMGMTBULK [1#32], since := since }] }

/-- Meets the hypotheses of FramesBetweenHubs. -/
theorem test_frames_are_sent :
    (ok (act { freed := [1, 2, 3, 4] }) (.linkSend 3) (fun h => (h.lane 3).txq.map (fun y => (y.frame.type, y.frame.payload)) ==
        [(tLINK, [0x20001#32, 0x40003#32, 0#32, 0#32])] && (h.lane 3).linkAt == none) fun _ => false) ∧
    (same (act { linkAt := some 0 }) (.linkSend 3)) ∧
    (ok (ln 3 sACTIVE { heard := [65535, 0, 0, 9], creds := [1, 2, 3, 4] }) (.link 3 (rx tLINK [0x00000001#32, 0x000A0000#32, 0#32, 0#32])) (fun h =>
        (h.lane 3).creds == [3, 2, 3, 5] && (h.lane 3).heard == [1, 0, 0, 10]) fun a => a == Addr.FRAMES_RX 3) ∧
    (same (act) (.frameTransmitStart 3) ∧ (act).hub.nextFrame 3 65536000 = none) ∧
    (ok (ln 3 sACTIVE (wait2 65536000)) (.frameTransmitStart 3) (fun h => (h.lane 3).sent == some (fr tCAP []) && (h.lane 3).creds == [1, 0, 1, 40]) fun a => a == Addr.FRAMES_TX 3) ∧
    (ok (ln 3 sACTIVE (wait2 0) [] id 1 100000) (.frameTransmitStart 3) (fun h => (h.lane 3).sent == some (fr tMGMTBULK [1#32]) && (h.lane 3).creds == [1, 1, 1, 39]) fun a => a == Addr.FRAMES_TX 3) ∧
    (ok (ln 3 sACTIVE { creds := [1], txq := [{ frame := fr tSYNC (5#32 :: List.replicate 7 0#32) }] }) (.frameTransmitStart 3) (fun h =>
        h.fld (Addr.TS_SEQ 3) 0 8 == 5 && (h.lane 3).creds == [0])
        fun a => a == Addr.FRAMES_TX 3 || a == Addr.TS_SEQ 3 || a == Addr.TS_T1 3 0 || a == Addr.TS_T1 3 1 || a == Addr.TS_T1 3 2) ∧
    (ok (act {} [(Addr.SYS_MODE, 3#32), (Addr.SPAN_CFG, 0x2101#32)] fun h => { h with led.out := [{ header := [1#32], payload := [1, 0, 0, 0] }] }) (.frameTransmitStart 3) (fun h =>
        h.led.out.length == 1) fun _ => false) ∧
    (ok (act {} [(Addr.SYS_MODE, 3#32)] fun h => { h with led.out := [{ header := [1#32], payload := [2, 0, 0, 0], lane := 3, ttl := 1 }] }) (.frameTransmitStart 3) (fun h =>
        h.led.out.isEmpty && (h.lane 3).sent.any fun f => f.payload == [1#32, 2#32] && f.type == tLEDGER) fun a => a == Addr.FRAMES_TX 3) ∧
    (ok (act { syncSeq := 255 } [(Addr.TS_T1 3 1, 7#32), (Addr.TS_T4 3 2, 8#32)]) (.syncSend 3) (fun h => (h.lane 3).syncSeq == 0 && (h.lane 3).txq.any fun y =>
        bitsOf (y.frame.payload.getD 0 0#32) 0 8 == 255 && y.frame.payload.getD 2 0#32 == 7#32 && y.frame.payload.getD 6 0#32 == 0#32) fun a => a == Addr.TIME_STATE) ∧
    (same (act { txq := [{ frame := fr tLINK [0#32, 0#32, 0#32, 0#32] }] }) (.linkSend 3) ∧ ok (act { txq := [{ frame := fr tLINK [0#32, 0#32, 0#32, 0#32] }] }) (.frameTransmitStart 3)
        (fun h => (h.lane 3).linkAt == some 65536000) fun a => a == Addr.FRAMES_TX 3) ∧
    (ok (ln 3 sACTIVE { wait2 0 with bulkAt := 1 } [] id 1 100000) (.frameTransmitStart 3) (fun h => (h.lane 3).sent == some (fr tCAP [])) fun a => a == Addr.FRAMES_TX 3) ∧
    (ok (ln 3 sACTIVE { creds := [9, 9, 9, 9], turn := [false, false, false, true], txq := [{ frame := fr tMGMTBULK [1#32] }, { frame := fr tMGMTBULK [2#32], fromLane := some 0 }] }) (.frameTransmitStart 3)
        fun h => (h.lane 3).sent == some (fr tMGMTBULK [2#32])) ∧
    (ok (ln 3 sACTIVE { wait2 0 with txq := { frame := fr tMGMTBULK [2#32], since := 5, fromLane := some 0 } :: (wait2 0).txq, turn := [false, false, false, true] } [] id 1 200000) (.frameTransmitStart 3)
        fun h => (h.lane 3).sent == some (fr tMGMTBULK [2#32]) && (h.lane 3).bulkAt == 200000 * 65536) := by
  decide +kernel

/-- SYNC 0, answering our SYNC 255: t1 = 20 µs, t2 = 20.1 µs, t3 = 20.3 µs, t4 = 20.4 µs; an asymmetry of 500 ps. -/
def syn (n : Word) : RxFrame :=
  rx tSYNC [0#32, kxWord (20000 * nsU) 0, kxWord (20000 * nsU) 1, kxWord (20000 * nsU) 2,
    kxWord (20400 * nsU) 0, kxWord (20400 * nsU) 1, kxWord (20400 * nsU) 2, n]
def exc (s : Word) : State :=
  ln 3 sACTIVE { syncAt := some 0 } [(Addr.TS_SEQ 3, s), (Addr.ASYM 3, 500#32), (Addr.TS_T2 3 0, kxWord (20100 * nsU) 0), (Addr.TS_T2 3 1, kxWord (20100 * nsU) 1),
    (Addr.TS_T2 3 2, kxWord (20100 * nsU) 2), (Addr.TS_T3 3 0, kxWord (20300 * nsU) 0), (Addr.TS_T3 3 1, kxWord (20300 * nsU) 1), (Addr.TS_T3 3 2, kxWord (20300 * nsU) 2)]
def strgF : Frame := fr tSPANTRIG [0x3C02#32, kxWord 99 0, kxWord 99 1, kxWord 99 2] aBCAST 2 0 0
def strg : RxFrame := onLine strgF
def spn (a : List (Nat × Nat × Nat × Nat)) : State :=
  act {} [(Addr.CAPE_SPAN_CFG, 1#32), (Addr.CAP_TRIG 31, 0x10000#32)] fun h => { h with cape.accepted := a }
def lackF : Frame := fr tLACK [0x01000021#32, 7#32, 0x502BC#32, 0#32] aPAIR 2
def lackOf : RxFrame := onLine lackF

/-- A LINK with one bit of its CRC wrong. -/
def crcOff : RxFrame :=
  .line ({ start := 0, tx := { reg := 0 }, cls := 0, content := (fr tLINK [0#32, 0#32, 0#32, 0#32]).content.modify 280 (!·) } : Air).line.1
/-- A frame is under way on lane 3, which inserts TIME frames, and a SYNC waits. -/
def bulk3 : Air := { start := 65536000 - 10 * nsU, tx := {}, cls := 3, content := (fr tMGMTBULK [1#32, 2#32, 3#32, 4#32]).content }
def busy3 : State :=
  ln 3 sACTIVE { creds := [9, 9, 9, 9], air := some bulk3, txq := [{ frame := fr tSYNC (List.replicate 8 0#32) }] } [(Addr.LANE_FEAT 3, 7#32)]

/-- Meets the hypotheses of FramesBetweenHubs. -/
theorem test_frames_are_heard :
    (ok (exc 0xFFFF#32) (.sync 3 (syn 0xFF#32)) fun h => (h.lane 3).txq.map (fun y => (y.frame.type, y.frame.payload)) == [(tRESP, [0#32, 0#32])] &&
        h.fld (Addr.TS_SEQ 3) 8 8 == 0) ∧
    (ok (exc 0xFFFF00#32) (.sync 3 (syn 0xFF#32)) fun h => h.rd (Addr.LANE_MEAS_DELAY 3) == 100000#32 && h.rd (Addr.LANE_MEAS_OFFSET 3) == (0#32 - 250#32)) ∧
    (ok (exc 0xFFFF00#32) (.sync 3 (syn 0xFE#32)) fun h => h.rd (Addr.LANE_MEAS_DELAY 3) == 0#32 && h.rd (Addr.LANE_MEAS_OFFSET 3) == 0#32) ∧
    (ok (act {} [(Addr.TS_SEQ 3, 9#32)]) (.resp 3 (rx tRESP [9#32, 0#32])) (fun h => (h.lane 3).respGot && h.rd (Addr.TS_SEQ 3) == 0x09000009#32) fun a => a == Addr.FRAMES_RX 3 || a == Addr.TS_SEQ 3 || decide (Addr.TS_T4 3 0 ≤ a ∧ a ≤ Addr.TS_T4 3 2)) ∧
    (strgF.spanMsg.id = 0 ∧ strgF.spanMsg.seq = 15 ∧ ok (spn []) (.spanTrig 3 strg) (fun h => (h.unit 31).queue == [{ arrived := 65536000, time := 99, src := 3, detail := 2 }] &&
        (h.unit 30).queue.isEmpty && h.rd Addr.CAPE_SPAN_RX_CNT == 1#32) fun a => a == Addr.FRAMES_RX 3 || a == Addr.CAPE_SPAN_RX_CNT) ∧
    (ok (spn [(2, 0, 15, 0)]) (.spanTrig 3 strg) (fun h => (h.unit 31).queue.isEmpty && h.rd Addr.CAPE_SPAN_DUP_CNT == 1#32) fun a => a == Addr.FRAMES_RX 3 || a == Addr.CAPE_SPAN_DUP_CNT) ∧
    (ok (up2 sACTIVE) (.ledger 3 (rx tLEDGER [1#32] aUP 2 0 2)) (fun h => (h.lane 0).txq.map (fun y => (y.frame.ttl, y.fromLane)) == [(1, some 3)]) fun a => a == Addr.FRAMES_RX 3) ∧
    (ok (ln 3 sACTIVE {} [(Addr.SPAN_CFG, 256#32), (Addr.LANE_CFG 2, 7#32), (Addr.LANE_STATUS 2, 5#32)] fun h => h.setLane 2 { cfg := 7#32 }) (.ledger 3 (rx tLEDGER [1#32] aUP 2 0 9))
        (fun h => (h.lane 2).txq.map (fun y => (y.frame.ttl, y.fromLane)) == [(9, some 3)]) fun a => a == Addr.FRAMES_RX 3) ∧
    (lackF.ackMsg.entries = [(700, 5)] ∧ ok { lk with hub := ((lk.hub.setLane 3 { cfg := 3#32 }).wr (Addr.LANE_STATUS 3) 5#32).wr (Addr.LANE_CFG 3) 3#32 } (.lack 3 lackOf)
        (fun h => (h.stream 700).ack == 5) fun a => a == Addr.FRAMES_RX 3) ∧
    (ok (up2 sACTIVE) (.link 3 crcOff) (fun h => h.rd (Addr.CNT_CRC 3) == 1#32) fun a => a == Addr.CNT_CRC 3) ∧
    (ok (up2 sACTIVE) (.link 3 (rx tLINK [0#32, 0#32, 0#32, 0#32] aUP)) (fun h => h.rd (Addr.CNT_MALF 3) == 1#32) fun a => a == Addr.CNT_MALF 3) ∧
    (busy3.hub.laneBusy 3 65536000 ∧ (busy3.hub.insertAt 3 65536000).isSome ∧ ok busy3 (.frameTransmitStart 3) (fun h => (h.lane 3).txq.isEmpty &&
        (h.lane 3).air.any (fun a => a.cuts.length == 1) && (h.lane 3).sent.any fun f => f.type == tSYNC)) ∧
    (same { busy3 with hub := busy3.hub.wr (Addr.LANE_FEAT 3) 0#32 } (.frameTransmitStart 3)) ∧
    (ok (ln 3 sACTIVE {} [(Addr.LANE_CFG 0, 1#32), (Addr.LANE_STATUS 0, 5#32)] fun h => h.setLane 0 { cfg := 1#32, creds := [9, 9, 9, 9] }) (.ledger 3 (rx tLEDGER [1#32] aUP 2 0 2))
        (fun h => (h.lane 0).txq.isEmpty && (h.lane 0).sent.any (fun f => f.ttl == 1 && f.payload == [1#32]) && (h.lane 0).air.any fun a => !a.abort)
        fun a => a == Addr.FRAMES_RX 3 || a == Addr.FRAMES_TX 0) ∧
    (ok (up2 sACTIVE) (.ledger 3 (rx tLEDGER [1#32] aUP 2 0 1)) (fun h => h.rd Addr.CNT_TTL == 1#32 && (h.lane 0).txq.isEmpty) fun a => a == Addr.FRAMES_RX 3 || a == Addr.CNT_TTL) ∧
    (((({} : LineTx).segs [.delim dSOF, .data true (List.replicate 20 true ++ [false])]).1.drop 24) =
        List.replicate 16 true ++ [false] ++ List.replicate 4 true ++ [false]) ∧
    ((({} : LineTx).segs [.delim dSOF]).1 = [false] ++ List.replicate 17 true ++ [false, true, true, false, false, false]) := by
  decide +kernel

/-- Lane 3 as an Ethernet uplink at 10 Gb/s (PROTO 1), in this stage. -/
def et (stage : Nat) (x : Lane := {}) (l : List (Nat × Word) := []) (f : Hub → Hub := id) (cfg : Nat := 0x0F) (r : Nat := 1000) : State := ln cfg (stage + 8) x l f 1 r

/-- Meets the hypotheses of EthernetUplinkPtpModulesAndEye. -/
theorem test_ethernet_uplink_and_pause :
    ((et sLOCK).hub.isEth 3 ∧ ok (et sLOCK) (.ethLinkUp 3) (fun h => h.stageOf 3 == sACTIVE) pins3) ∧
    (same (et sLOCK {} [] id 0x0F 499999999) (.ethLockTimeout 3)) ∧
    (ok (et sLOCK {} [] id 0x0F 500000000) (.ethLockTimeout 3) (fun h => h.stageOf 3 == sDETECT) pins3) ∧
    (ok (et sACTIVE { txq := [{ frame := { type := tMGMT } }] }) (.ethLinkLoss 3) (fun h => h.stageOf 3 == sDETECT && h.bit (Addr.LANE_STATUS 3) 9 && (h.lane 3).txq.isEmpty)
        fun a => pins3 a || a == Addr.CNT_DOWN 3 || a == Addr.CNT_DISCARD 3) ∧
    (ok (et sACTIVE) (.pause 3 65535) (fun h => (h.lane 3).pause == some (65536000 + 65535 * 512 * 65536 / 10) && h.rd (Addr.CNT_PAUSE 3) == 65535#32) fun a => a == Addr.CNT_PAUSE 3) ∧
    (ok (ln 0x17 (sACTIVE + 16)) (.pause 3 1) (fun h => (h.lane 3).pause == some (65536000 + 512 * 65536))) ∧
    (ok (et sACTIVE { pause := some 9 }) (.pause 3 0) (fun h => (h.lane 3).pause == none) fun _ => false) ∧
    (ok (et sACTIVE { pause := some 65536000 }) (.pauseEnd 3) (fun h => (h.lane 3).pause == none) fun _ => false) ∧
    (same (et sACTIVE { pause := some 65536001 }) (.pauseEnd 3)) ∧
    (same (ln 0x1F (sLOCK + 16) {} [] id 1 999999999) (.protoAutoTimeout 3)) ∧
    (ok (ln 0x1F (sLOCK + 16) {} [] id 1 1000000000) (.protoAutoTimeout 3) (fun h => h.stageOf 3 == sDETECT && h.protoNow 3 == 0) pins3) := by
  decide +kernel

def hd (d : Nat) (s : Nat := 9) : PtpHead := { domain := d, sender := s, seq := 65535, corr := 65536 }
def ds (v : List Nat) : PtpDataset := { values := v, arb := false, interval := 10 ^ 9 }
def ptpOn (p : Ptp := {}) : State := et sACTIVE {} [(Addr.TIME_SRC, 2#32), (Addr.PTP_CFG 3, 24#32), (Addr.ETH_SRC_LO 3, 5#32)] fun h => { h with ptp := p }
def heardBy (v : List Nat) (t : Nat) : PtpServer := { dataset := v, arb := false, heard := t, interval := 1000 }
def chose : Ptp := { servers := [heardBy [1, 9] 65536000], chosen := some 9 }

/-- Meets the hypotheses of EthernetUplinkPtpModulesAndEye. -/
theorem test_ptp_client_listens :
    (ptpOn.hub.ptpLane = some 3 ∧ ptpOn.hub.ptpOurs 3 (hd 24) ∧ ptpOn.hub.ptpOurs 3 (hd 25) = false) ∧
    (ok ptpOn (.announce (hd 25) (ds [1])) (fun h => h.rd (Addr.CNT_PTP_IGN 3) == 1#32) fun a => a == Addr.CNT_PTP_IGN 3) ∧
    (ok ptpOn (.followUp (hd 25) 0) (fun h => h.rd (Addr.CNT_PTP_IGN 3) == 1#32) fun a => a == Addr.CNT_PTP_IGN 3) ∧
    (ok (ptpOn chose) (.announce (hd 24 8) (ds [0])) (fun h => h.ptp.chosen == some 8 && h.ptp.servers.length == 2) inLog) ∧
    (ok (ptpOn chose) (.announce (hd 24 8) (ds [2])) (fun h => h.ptp.chosen == some 9 && h.ptp.servers.length == 2) inLog) ∧
    (ok (ptpOn chose) (.ptpSync (hd 24) true) (fun h => h.ptp.sync.any fun x => x.1 == 65535 && x.2.2 == 65536)
        fun a => decide (Addr.TS_T2 3 0 ≤ a ∧ a ≤ Addr.TS_T2 3 2) || a == Addr.TS_SEQ 3) ∧
    (ok (ptpOn { chose with sync := some (65535, 50, 7) }) (.followUp (hd 24) 100) (fun h => h.ptp.t12 == some (65643, 50)) fun _ => false) ∧
    (ok (ptpOn { chose with reqSeq := 65535 }) .delayReqSend (fun h => h.ptp.req.any (fun x => x.1 == 65535) && h.ptp.reqSeq == 0)
        fun a => decide (Addr.TS_T3 3 0 ≤ a ∧ a ≤ Addr.TS_T3 3 2) || a == Addr.TS_SEQ 3) ∧
    (ok (ptpOn { chose with req := some (65535, 300 * nsU), t12 := some (0, 100 * nsU) }) (.delayResp (hd 24) (ptpOn.hub.clockIdentity 3) (501 * nsU)) (fun h =>
        h.rd (Addr.LANE_MEAS_DELAY 3) == 150000#32 && h.rd Addr.MEAS_DELAY == 150000#32 && h.ptp.req.isNone && h.rd Addr.MEAS_OFFSET == h.rd (Addr.LANE_MEAS_OFFSET 3))) ∧
    (same (ptpOn { chose with req := some (65535, 300 * nsU), t12 := some (0, 100 * nsU) }) (.delayResp (hd 24) 0 (501 * nsU))) ∧
    (same ptpOn .delayReqSend ∧ { ptpOn with hub := ptpOn.hub.wr (Addr.ETH_SRC_LO 3) 0#32 }.hub.noSource 3 ∧ ok { ptpOn chose with hub := (ptpOn chose).hub.wr (Addr.ETH_SRC_LO 3) 0#32 } .delayReqSend (fun h => h.ptp.reqDue && h.ptp.req.isNone) fun _ => false) ∧
    (ok (ptpOn { chose with servers := [heardBy [1, 9] (65536000 - 3000)] }) .announceTimeout (fun h => h.ptp.chosen == some 9) inLog) ∧
    (ok (ptpOn { chose with servers := [heardBy [1, 9] (65536000 - 3001)] }) .announceTimeout (fun h => h.ptp.chosen == none && h.ptp.servers.isEmpty) inLog) ∧
    (ok (ptpOn chose) (.ptpSync (hd 24 8) true) (fun h => h.rd (Addr.CNT_PTP_IGN 3) == 1#32) fun a => a == Addr.CNT_PTP_IGN 3) ∧
    (ok (ptpOn chose) (.ptpSync (hd 24) false) (fun h => h.rd (Addr.CNT_PTP_IGN 3) == 1#32) fun a => a == Addr.CNT_PTP_IGN 3) ∧
    ((ptpOn chose).hub.laneMute 3 65536000 = false ∧ (ptpOn chose).hub.laneBusy 3 65536000 = false ∧ (ptpOn { chose with reqDue := true }).hub.flushSpan 65536000 = (ptpOn { chose with reqDue := true }).hub ∧
        ok (ptpOn { chose with reqDue := true }) (.frameTransmitStart 3) (fun h => !h.ptp.reqDue && h.ptp.req.any fun x => x.1 == 0)) ∧
    ({ ptpOn with hub := ptpOn.hub.wr Addr.TIME_SRC 0#32 }.hub.isGateway = false ∧ ok { ptpOn with hub := ptpOn.hub.wr Addr.TIME_SRC 0#32 } (.ptpSync (hd 24) true)
        (fun h => h.rd (Addr.CNT_MALF 3) == 1#32) fun a => a == Addr.CNT_MALF 3) := by
  decide +kernel

def md (l : List (Nat × Word) := []) (x : Lane := {}) (m : Nat := 1) : State := ln 3 sACTIVE x l id m
def eye (pt : Word) (s : Word := 0#32) (m : Nat := 1) : State := md [(Addr.EYE_PT 3, pt), (Addr.EYE_STATUS 3, s)] {} m
def scan (w1 : Word) (st : Word := 0#32) : State :=
  cmd 0x51 255 1 [(Addr.LANE_CFG 3, 3#32), (Addr.LANE_STATUS 3, 5#32), (Addr.EYE_STATUS 3, st)] fun h =>
    h.domeBytes 65280 (wordBytes [3#32, w1, 0x011010#32, 10#32, 0x120000#32])
def sc (n : Nat) : EyeScan := { ch := 0, vs := [0, 1], ps := [5], dwell := 10, addr := 0x120000, done := n }

/-- Meets the hypotheses of EthernetUplinkPtpModulesAndEye. -/
theorem test_modules_and_eyes :
    (ok (md) (.moduleInsert 3 (some true)) (fun h => !h.bit (Addr.MOD_STATUS 3) 0 && (h.lane 3).ddm) pins3) ∧
    (ok (md) (.moduleInsert 3 none) (fun h => lg 18 md h) fun a => pins3 a || inLog a) ∧
    (ok (md [] { ddm := true }) (.ddmPoll 3 (some [1, 2, 3, 4, 65541])) (fun h => h.bit (Addr.MOD_STATUS 3) 3 && h.rd (Addr.DDM_TEMP 3) == 1#32 && h.rd (Addr.DDM_RXPWR 3) == 5#32)
        fun a => a == Addr.MOD_STATUS 3 || decide (Addr.DDM_TEMP 3 ≤ a ∧ a ≤ Addr.DDM_RXPWR 3)) ∧
    (ok (md [] { ddm := true }) (.ddmPoll 3 none) (fun h => lg 18 md h) inLog) ∧
    (same md (.ddmPoll 3 none)) ∧
    (ok (md [(Addr.MOD_ACC 3, 0x1000000#32)]) (.modAccComplete 3 (some 257)) (fun h => h.rd (Addr.MOD_RES 3) == 0x10001#32 && !h.bit (Addr.MOD_ACC 3) 24)
        fun a => a == Addr.MOD_ACC 3 || a == Addr.MOD_RES 3) ∧
    (ok (md [(Addr.MOD_ACC 3, 0x1000000#32)]) (.modAccComplete 3 none) (fun h => h.fld (Addr.MOD_RES 3) 8 8 == 12 && lg 18 md h)) ∧
    (may md 8 (Addr.MOD_ACC 3) ∧ may md 6 (Addr.EYE_CTRL 3) ∧ ok md (.modAccGo 8 3 0xFFFFFFFF#32) (fun h => h.rd (Addr.MOD_ACC 3) == 0x01FF03FF#32) fun a => a == Addr.MOD_ACC 3) ∧
    (ok (md [(Addr.MOD_ACC 3, 0x1000000#32)]) (.modAccGo 8 3 0#32) (fun h => h.fld (Addr.MOD_RES 3) 8 8 == 2) fun a => a == Addr.MOD_RES 3) ∧
    (ok (eye 0xA0000#32) (.eyeStart 8 3 1#32) (fun h => h.rd (Addr.EYE_STATUS 3) == 1#32) fun a => a == Addr.EYE_STATUS 3) ∧
    (ok (eye 0x210000#32 0#32 5) (.eyeStart 8 3 1#32) (fun h => h.rd (Addr.EYE_STATUS 3) == 1#32)) ∧
    (ok (eye 0x210000#32) (.eyeStart 8 3 1#32) (fun h => h.fld (Addr.EYE_STATUS 3) 8 8 == 1)) ∧
    (ok (eye 0xA0080#32) (.eyeStart 8 3 1#32) (fun h => h.fld (Addr.EYE_STATUS 3) 8 8 == 3)) ∧
    (ok (eye 0xA0000#32 1#32) (.eyeStart 8 3 1#32) (fun h => h.fld (Addr.EYE_STATUS 3) 8 8 == 2)) ∧
    (ok (eye 0xA0000#32 1#32) (.eyeStop 8 3 2#32) (fun h => !h.bit (Addr.EYE_STATUS 3) 0) fun a => a == Addr.EYE_STATUS 3) ∧
    (ok (eye 0#32 1#32) (.eyePointDone 3 0x1F600000005) (fun h => h.rd (Addr.EYE_CNT_LO 3) == 5#32 && h.rd (Addr.EYE_CNT_HI 3) == 0x1F6#32 && h.rd (Addr.EYE_STATUS 3) == 2#32)) ∧
    (ok (md [(Addr.EYE_STATUS 3, 1#32)] { eyeScan := some (sc 0) }) (.eyePointDone 3 7) (fun h => (h.lane 3).eyeScan == some (sc 1) && h.domeRead 0x120010 8 == 7) fun _ => false) ∧
    (ok (md [(Addr.EYE_STATUS 3, 1#32)] { eyeScan := some (sc 1) }) (.eyePointDone 3 7) (fun h => (h.lane 3).eyeScan == none && h.domeRead 0x120018 8 == 7 &&
        h.domeWord 0x120000 == 3#32 && h.domeWord 0x120004 == 2#32 && h.domeWord 0x120008 == 10#32 && h.domeWord 0x12000C == 0#32)) ∧
    (waits (scan 0x010100#32) 0x51 255 ∧ ok (scan 0x010100#32) (.eyeScan 0) (fun h => flying h && h.rd (Addr.EYE_STATUS 3) == 1#32 &&
        (h.lane 3).eyeScan.any fun e => e.vs == [0, 1] && e.ps == [16] && e.addr == 0x120000 && e.dwell == 10)) ∧
    (ok (scan 0x010001#32) (.eyeScan 0) (fun h => resp 0x035A0000#32 h)) ∧
    (ok (scan 0x010100#32 1#32) (.eyeScan 0) (fun h => resp 0x025A0000#32 h)) ∧
    (ok (ln 2 0) (.moduleInsert 3 none) fun h => h.stageOf 3 == sDISABLED && h.bit (Addr.LANE_STATUS 3) 7 && !h.bit (Addr.MOD_STATUS 3) 0) := by
  decide +kernel

/-- Pair 7 at position 1 with peer 2 and warden 0, both west by lane 3: SEL_STATUS.STATE `x`, further SEL_CFG bits `c`. -/
def tw (x : Nat) (c : Nat := 0) (l : List (Nat × Word) := []) (f : Hub → Hub := id) (m : Nat := 1) : State :=
  ln 3 sACTIVE {} ([(Addr.SEL_CFG, wd (c + 0x10007)), (Addr.SEL_WARDEN, 0x200#32), (Addr.SEL_STATUS, wd (x + 0xA000)), (Addr.TIME_STATE, 1#32), (Addr.SEL_EPOCH, 5#32)] ++ l) f m 200000000
def now2 : Nat := 200000000 * nsU
/-- Selail message `msg` with these body words from `src`, for this hub. -/
def sm (msg : Nat) (p : List Word) (src : Nat := 0) (ep : Word := 6#32) (pair : Nat := 7) : RxFrame :=
  rx (if msg < 16 then tSELAIL else tSELAILBULK) ([wd (65536 * pair + 512 + msg), ep, 0#32, 0#32, 0#32, 0#32] ++ p) aPOS src 1 0
/-- What waits for lane 3, by message, destination and the words from `k` up. -/
def mails (k : Nat) (h : Hub) : List (Nat × Nat × List Word) :=
  (h.lane 3).txq.map fun y => (bitsOf (y.frame.payload.getD 0 0#32) 0 8, y.frame.dst, y.frame.payload.drop k)
def frg (a : Nat) : Bool := a == Addr.CNT_UNREACH || a == Addr.FRAMES_RX 3
/-- The warden of pair 9, held by position `p` with epoch 4 until `e`. -/
def wdn (p : Nat) (e : Option Nat) (f : Hub → Hub := id) : State :=
  tw 0 0x80000 [(Addr.SEL_WTBL_PAIR 0, wd (0x80000009 + 65536 * p)), (Addr.SEL_WTBL_EPOCH 0, 4#32)]
    (fun h => f { h with sel.holdStart := false, sel.wEnd := match e with | some x => [(0, x)] | none => [] })

/-- Meets the hypotheses of LeaseAndClaims. -/
theorem test_leases_are_renewed_and_claimed :
    (ok (tw selACTIVE) .renewSend (fun h => mails 6 h == [(mRENEW, 0, [])]) frg) ∧
    (ok (tw selACTIVE 0 [] fun h => { h with sel.tellRole := true, sel.leaseWarden := some 9 }) .heartbeatSend (fun h =>
        mails 7 h == [(mHEARTBEAT, 2, 0#32 :: instWords 9)] && !h.sel.tellRole) frg) ∧
    (same (tw selSTANDBY) .renewSend ∧ same (tw selCLAIMING) .heartbeatSend) ∧
    (ok (tw selCLAIMING) .claimSend (fun h => mails 6 h == [(mCLAIM, 0, [0#32])]) frg) ∧
    ((wdn 3 none).hub.wEntry 9 = some 0 ∧ ok (wdn 3 (some now2)) (.renew 3 (sm mRENEW [] 3 6#32 9)) (fun h => h.wHolder 0 == 3 && h.wEpoch 0 == 6 &&
        SMap.find h.sel.wEnd 0 == some (now2 + 4 * msU) && h.rd (Addr.SEL_WTBL_END_NS 0) == 204000000#32) fun a => frg a || a == Addr.SEL_WTBL_EPOCH 0 ||
        a == Addr.SEL_WTBL_PAIR 0 || a == Addr.SEL_WTBL_END_NS 0 || a == Addr.SEL_WTBL_END_SEC 0) ∧
    (ok (wdn 0 (some now2)) (.renew 3 (sm mRENEW [] 2 6#32 9)) (fun h => mails 6 h == [(mDENY, 2, [1#32])] && h.wHolder 0 == 0 && h.wEpoch 0 == 4) frg) ∧
    (ok (wdn 0 none) (.renew 3 (sm mRENEW [] 2 3#32 9)) fun h => mails 6 h == [(mGRANT, 2, instWords (now2 + 4 * msU) ++ [4#32, 0#32] ++ instWords 0)] && h.wHolder 0 == 2) ∧
    (ok (tw selACTIVE 0 [] fun h => { h with sel.leasePeer := some 70000000 }) (.grant 3 (sm mGRANT (instWords 66000000 ++ [9#32, 0#32] ++ instWords 0))) (fun h =>
        h.sel.leaseWarden == some 66000000 && h.rd Addr.SEL_LEASE_END0 == kxWord 70000000 0 && h.rd (Addr.SEL_LEASE_END0 + 8) == kxWord 70000000 2)) ∧
    (ok (tw selCLAIMING) (.grant 3 (sm mGRANT (instWords 66000000 ++ [9#32, 1#32] ++ instWords 0))) (fun h => h.sel.grant == some (now2, 9) && h.selState == selCLAIMING)) ∧
    (ok (tw selCLAIMING) (.deny 3 (sm mDENY [3#32])) (fun h => h.rd Addr.SEL_DENY_CNT == 1#32) fun a => frg a || a == Addr.SEL_DENY_CNT) ∧
    (same (tw selCLAIMING 0 [] fun h => { h with sel.noVer := true }) .claimSend) ∧
    (ok (wdn 3 (some now2) fun h => { h with sel.claims := [{ pair := 9, pos := 2, epoch := 7, revert := false }, { pair := 9, pos := 2, epoch := 7, revert := true }, { pair := 8, pos := 2, epoch := 7, revert := false }] })
        (.renew 3 (sm mRENEW [] 3 6#32 9)) fun h => h.sel.claims.map (fun c => (c.pair, c.revert)) == [(9, true), (8, false)]) := by
  decide +kernel

/-- Meets the hypotheses of LeaseAndClaims. -/
theorem test_hubs_claim_the_lease :
    (commonVersion 2 1 = some 2 ∧ commonVersion 1 1 = some 1 ∧ commonVersion 3 3 = none) ∧
    (ok (tw selACTIVE) (.heartbeat 3 (sm mHEARTBEAT ([0x01010200#32 + 4#32, 0#32] ++ instWords 777) 2)) (fun h => h.sel.leasePeer == some 777 && h.sel.misses == 0 && h.sel.lastHb == some now2)) ∧
    (ok (tw selCLAIMING) (.heartbeat 3 (sm mHEARTBEAT ([0x00010203#32, 0#32] ++ instWords 0) 2)) (fun h => h.selState == selSTANDBY && h.sel.promise == some (now2 + 4 * msU) &&
        mails 8 h == [(mHEARTBEAT, 2, instWords (now2 + 4 * msU))])) ∧
    (ok (tw selSTANDBY 0 [(Addr.SEL_HB_MISS_CNT, 65535#32)] fun h => { h with sel.lastHb := some (now2 - 3300000 * nsU), sel.misses := 2 }) .heartbeatMiss (fun h =>
        h.selState == selCLAIMING && mails 6 h == [(mCLAIM, 0, [0#32])] && h.rd Addr.SEL_HB_MISS_CNT == 65535#32) fun a => frg a || a == Addr.SEL_STATUS) ∧
    (ok (tw selSTANDBY 0 [] fun h => { h with sel.lastHb := some (now2 - 2200000 * nsU), sel.misses := 1 }) .heartbeatMiss (fun h => h.selState == selSTANDBY && h.sel.misses == 2)
        fun a => a == Addr.SEL_HB_MISS_CNT) ∧
    (same (tw selSTANDBY 0 [] fun h => { h with sel.lastHb := some (now2 - 3300000 * nsU + 1), sel.misses := 2 }) .heartbeatMiss) ∧
    (ok (tw selSTANDBY) .startupClaimEval (fun h => h.selState == selCLAIMING) fun a => frg a || a == Addr.SEL_STATUS) ∧
    (same (tw selSTANDBY 0 [] fun h => { h with sel.lastActHb := some (now2 - 100 * msU + 1) }) .startupClaimEval) ∧
    (ok (tw selSTANDBY 0x20000 [] fun h => { h with sel.idleAt := now2 - 100 * msU }) .startupClaimEval (fun h => h.selState == selCLAIMING)) ∧
    (ok (wdn 3 (some now2)) (.claim 3 (sm mCLAIM [0#32] 2 3#32 9)) (fun h => h.wHolder 0 == 2 && h.wEpoch 0 == 5 && mails 9 h == [(mGRANT, 2, [5#32, 1#32] ++ instWords 0)])) ∧
    (ok (wdn 3 (some (now2 + 1))) (.claim 3 (sm mCLAIM [0#32] 2 3#32 9)) (fun h => h.sel.claims == [{ pair := 9, pos := 2, epoch := 3, revert := false }] &&
        mails 6 h == [(mDENY, 2, [3#32])] && h.wHolder 0 == 3) frg) ∧
    (ok (wdn 3 (some now2) fun h => { h with sel.holdStart := true }) (.claim 3 (sm mCLAIM [0#32] 2 3#32 9)) (fun h => h.sel.claims.length == 1 && h.wHolder 0 == 3 && (mails 6 h).isEmpty) frg) ∧
    (ok (wdn 3 (some now2) fun h => { h with sel.claims := [{ pair := 9, pos := 2, epoch := 7, revert := false }] }) .wardenLeaseExpiry (fun h =>
        h.wHolder 0 == 2 && h.wEpoch 0 == 8 && h.sel.claims.isEmpty && mails 9 h == [(mGRANT, 2, [8#32, 1#32] ++ instWords 0)])) ∧
    (ok (wdn 3 none fun h => { h with sel.holdStart := true, sel.claims := [{ pair := 8, pos := 2, epoch := 7, revert := false }] }) .wardenStartupHoldEnd (fun h =>
        h.wPair 1 == 8 && h.wHolder 1 == 2 && h.wEpoch 1 == 8 && !h.sel.holdStart)) ∧
    (ok (tw selCLAIMING 0 [] id 3) (.heartbeat 3 (sm mHEARTBEAT ([0x00030303#32, 0#32] ++ instWords 0) 2)) (fun h => h.selState == selSTANDBY && h.sver == 0 && h.sel.noVer && h.mode == .shadow &&
        lg 21 (tw selCLAIMING) h)) ∧
    (ok (tw selACTIVE) (.heartbeat 3 (sm mHEARTBEAT ([0x00030303#32, 0#32] ++ instWords 0) 2)) (fun h => h.selState == selACTIVE && h.sel.noVer)) ∧
    (ok (tw selACTIVE 0 [] fun h => { h with sel.lastHb := some (now2 - 3300000 * nsU), sel.misses := 2 }) .heartbeatMiss (fun h => h.selState == selACTIVE && h.sel.misses == 3 && !h.pathOk)
        fun a => a == Addr.SEL_HB_MISS_CNT) := by
  decide +kernel

def clm (a p : Nat) (c : Nat := 0) (f : Hub → Hub := id) : State :=
  tw selCLAIMING c [(Addr.EXC_CFG 1, 4#32)] (fun h => f { (h.modSpire 0 fun x => { x with exc := .hiz }).modSpire 1 fun x => { x with exc := .hiz } with
    sel.grant := some (a, 9), sel.promise := some p }) 4
def fenceOk (s : State) (h : Hub) : Bool :=
  h.selState == selFENCED && h.actOut == .low && h.led.out.isEmpty && (h.spire 15).exc == .hiz && h.leaseEnd.isNone && h.bit Addr.SYS_MODE 3 &&
    mails 6 h == [(mRELINQUISH, 0, instWords (s.hub.timeAt s.raw.toNat)), (mRELINQUISH, 2, instWords (s.hub.timeAt s.raw.toNat))]
def xsw (r : Nat := 0) : State := st 1 [] (fun h => (h.setActive (Addr.FE_CFG 0 3) (wd mCHARGE)).setChan 3 { xswHold := true }) r
def act3 (e : Nat) : State := tw selACTIVE 0 [] (fun h => { h with sel.leaseWarden := some e }) 3

/-- Meets the hypotheses of TakeoverAndHandover. -/
theorem test_hubs_take_over_and_fence :
    ((clm now2 now2).hub.selState = selCLAIMING ∧ (clm now2 now2).hub.sel.grant = some (now2, 9) ∧ (clm now2 now2).hub.sel.promise = some now2 ∧
        (clm now2 now2).hub.timeAt (clm now2 now2).raw.toNat = now2 ∧ (clm now2 now2).hub.bit Addr.SEL_CFG 20 = false) ∧
    (ok (clm (now2 + 1) now2) (.promotion true) (fun h => h.selState == selCLAIMING && h.bit Addr.SEL_STATUS 16) fun a => a == Addr.SEL_STATUS) ∧
    (ok (clm now2 (now2 + 1)) (.promotion false) (fun h => h.selState == selCLAIMING) fun a => a == Addr.SEL_STATUS) ∧
    (ok (clm now2 now2 0x100000) (.promotion true) (fun h => h.selState == selCLAIMING) fun a => a == Addr.SEL_STATUS) ∧
    (same xsw .xswTimeEnd) ∧
    ((xsw 100000000).hub.feMode 0 3 = mCHARGE ∧ (xsw.hub.chan (chNo 0 3)).chg = .track ∧ ok (xsw 100000000) .xswTimeEnd (fun h => !(h.chan 3).xswHold && (h.chan 3).chgReq &&
        h.rd (Addr.FE_CHG_RESET 0) == 8#32) fun a => a == Addr.FE_CHG_RESET 0) ∧
    (ok (act3 now2) .leaseExpiry (fun h => fenceOk (act3 now2) h)) ∧
    (same (act3 (now2 + 1)) .leaseExpiry) ∧
    ((tw selACTIVE 0 [(Addr.TIME_STATE, 0#32)]).hub.selOk now2 = false ∧ (tw selACTIVE).hub.selOk now2) ∧
    (ok (tw selCLAIMING 0 [(Addr.TIME_STATE, 0#32)] fun h => { h with sel.faulted := true, sel.grant := some (1, 2) }) .selfFault (fun h =>
        h.selState == selSTANDBY && h.sel.grant.isNone) fun a => a == Addr.SEL_STATUS) ∧
    (ok (tw selACTIVE 0x40000 [(Addr.SEL_STATUS, 0x2A003#32)]) .arbGrantFall fun h => h.selState == selFENCED && !h.bit Addr.SEL_STATUS 17 && mails 6 h == [(mRELINQUISH, 2, instWords now2)]) ∧
    (ok (tw selSTANDBY 0x40000 [] fun h => { h with sel.peerEpoch := 8 }) .arbGrantRise (fun h => h.selState == selCLAIMING && h.sel.grant == some (now2, 9)) fun a => a == Addr.SEL_STATUS) ∧
    (same (tw selFENCED 0 [] fun h => { h with sel.fenceFrame := frameOf now2 }) .fenceBoundary) ∧
    (ok (tw selFENCED 0 [] id 3) .fenceBoundary fun h => h.selState == selSTANDBY && h.mode == .shadow) ∧
    (ok (tw selFENCED) .fenceBoundary (fun h => h.selState == selSTANDBY && h.mode == .idle) fun a => a == Addr.SEL_STATUS) ∧
    (ok (tw selSTANDBY) (.relinquish 3 (sm mRELINQUISH (instWords 0) 2)) (fun h => h.selState == selCLAIMING && mails 6 h == [(mCLAIM, 0, [0#32])]) fun a => frg a || a == Addr.SEL_STATUS) ∧
    (ok (wdn 2 (some 5)) (.relinquish 3 (sm mRELINQUISH (instWords 0) 2 6#32 9)) (fun h => (SMap.find h.sel.wEnd 0).isNone && h.wUsed 0) fun a =>
        frg a || a == Addr.SEL_WTBL_END_NS 0 || a == Addr.SEL_WTBL_END_SEC 0) ∧
    (ok (tw selCLAIMING 0x40000 [(Addr.SEL_STATUS, 0x2A002#32)] (fun h => { h with sel.grant := some (1, 2) }) 3) .arbGrantFall fun h =>
        h.selState == selSTANDBY && h.sel.grant.isNone && !h.bit Addr.SEL_STATUS 17 && h.mode == .shadow) ∧
    ((tw selSTANDBY 0x40000 [] fun h => { h with sel.noVer := true }).hub.mayClaim now2 = false ∧ ok (tw selSTANDBY 0x40000 [] fun h => { h with sel.noVer := true }) .arbGrantRise fun h =>
        h.selState == selSTANDBY && h.bit Addr.SEL_STATUS 17) := by
  decide +kernel

def locked (x : Nat) (c : Nat := 0) (v : Option Handover := none) (f : Hub → Hub := id) (m : Nat := 1) (r : Nat := 200000000) : State :=
  { tw x c [(Addr.SEL_STATUS, wd (x + 0xA200))] (fun h => f { h with sel.hand := v }) m with raw := BitVec.ofNat 80 (65536 * r) }
def hmWords (k : Word) (fh : Nat) : List Word := [wd (65536 * 7 + 512 + mHANDOVER), 6#32, 0#32, 0#32, 0#32, 0#32] ++ (instWords fh ++ [k])
def hm (k : Word) (fh : Nat) : RxFrame := sm mHANDOVER (instWords fh ++ [k]) 2
def at20 : Nat := 220 * 1000000 * nsU

def well : State := locked selSTANDBY 0x200000 none fun h => { h.wr Addr.CALC_STATUS 1#32 with sel.lastHb := some 0 }

/-- Meets the hypotheses of TakeoverAndHandover. -/
theorem test_hubs_hand_over :
    ((locked selSTANDBY).hub.bothLocked ∧ same (locked selSTANDBY 0 none fun h => { h with sel.retry := true }) .handoverRetry ∧
        ok (locked selSTANDBY 0 none (fun h => { h with sel.retry := true }) 1 1000000000) .handoverRetry (fun h => h.sel.hand == some { claimant := true } && !h.sel.retry &&
        mails 6 h == [(mCLAIM, 0, [1#32]), (mHANDOVER, 2, instWords 0 ++ [0#32])]) frg) ∧
    ((locked selACTIVE).hub.bothLocked ∧ (locked selACTIVE).hub.selState = selACTIVE ∧ (locked selACTIVE).hub.sel.hand = none ∧ (locked selACTIVE).hub.streams = [] ∧
        heardAs 3 { type := tSELAIL, addr := aPOS, src := 2, dst := 1, payload := (hmWords 0#32 0) } (hm 0#32 0) (locked selACTIVE)) ∧
    (ok (locked selSTANDBY 0 (some { claimant := true })) (.handoverAccept 3 (hm 1#32 77)) (fun h => h.sel.hand == some { claimant := true, fh := some 77 }) frg) ∧
    (ok (locked selSTANDBY 0 (some { claimant := true, granted := some 6 })) (.handoverAccept 3 (hm 1#32 77)) (fun h =>
        h.sel.hand == some { claimant := true, granted := some 6, fh := some 77, confirmed := true } && mails 6 h == [(mHANDOVER, 2, instWords 77 ++ [2#32])]) frg) ∧
    (ok (locked selACTIVE 0 (some { claimant := false, fh := some 77 })) (.handoverConfirm 3 (hm 2#32 77)) (fun h =>
        h.sel.hand == some { claimant := false, fh := some 77, confirmed := true, peerConfirmed := true } && mails 6 h == [(mHANDOVER, 2, instWords 77 ++ [2#32])]) frg) ∧
    (ok (locked selSTANDBY 0 (some { claimant := true, fh := some 77, confirmed := true })) (.handoverConfirm 3 (hm 2#32 77)) (fun h =>
        h.sel.hand == some { claimant := true, fh := some 77, confirmed := true, peerConfirmed := true } && (mails 6 h).isEmpty) frg) ∧
    (ok (locked selSTANDBY 0 (some { claimant := true })) (.handoverCancel 3 (hm 3#32 77)) (fun h => h.sel.hand.isNone && h.sel.retry) frg) ∧
    (ok (locked selACTIVE 0 (some { claimant := false, fh := some (now2 + 5 * msU) })) .handoverConfirmTimeout (fun h => h.sel.hand.isNone && !h.sel.retry &&
        mails 9 h == [(mHANDOVER, 0, [3#32]), (mHANDOVER, 2, [3#32])]) frg) ∧
    (same (locked selACTIVE 0 (some { claimant := false, fh := some (now2 + 5 * msU + 1) })) .handoverConfirmTimeout) ∧
    (same (locked selACTIVE 0 (some { claimant := false, fh := some now2, confirmed := true, peerConfirmed := true })) .handoverConfirmTimeout) ∧
    (ok (locked selACTIVE 0 (some { claimant := false, fh := some now2, confirmed := true, peerConfirmed := true }) id 3) .handoverFrame fun h =>
        h.selState == selSTANDBY && h.sel.hand.isNone && (h.spire 15).exc == .hiz && h.mode == .shadow) ∧
    ((locked selSTANDBY 0 (some { claimant := true, fh := some now2, granted := some 6, confirmed := true, peerConfirmed := true })).hub.selState = selSTANDBY) ∧
    ((well.hub.bothLocked && well.hub.bit Addr.SEL_CFG 21 && well.hub.isPrimary && well.hub.sel.hand.isNone) ∧ well.hub.health well.raw.toNat = 31) ∧
    (same { well with hub := { well.hub with sel.healthySince := some now2 } } .revertHoldElapsed) ∧
    (ok (locked selSTANDBY 0x200000 none (fun h => { h.wr Addr.CALC_STATUS 1#32 with sel.lastHb := some (100000000000 * nsU), sel.healthySince := some 0 }) 1 100000000000) .revertHoldElapsed
        (fun h => h.sel.hand == some { claimant := true } && mails 6 h == [(mCLAIM, 0, [1#32]), (mHANDOVER, 2, instWords 0 ++ [0#32])]) frg) ∧
    (ok (locked selSTANDBY) (.handoverPropose 3 (hm 0#32 0)) (fun h => h.sel.hand == some { claimant := true }) frg) ∧
    (ok (wdn 3 (some now2) fun h => { h with sel.claims := [{ pair := 9, pos := 2, epoch := 7, revert := true }, { pair := 8, pos := 2, epoch := 7, revert := true }], sel.wCut := [(0, 1, 2, 3)] })
        (.handoverCancel 3 (sm mHANDOVER (instWords 0 ++ [3#32]) 2 6#32 9)) (fun h => h.sel.claims.map (·.pair) == [8] && h.sel.wCut.isEmpty) frg) ∧
    (ok (locked selACTIVE 0 (some { claimant := false, fh := some (now2 + 5000 * nsU), confirmed := true, peerConfirmed := true }) id 3) .handoverSendStop (fun h =>
        h.sel.hand.any (·.closed) && mails 6 h == [(mLEDGERM, 2, instWords (now2 + 5000 * nsU) ++ [0x10000#32])]) frg) ∧
    (same (locked selSTANDBY 0x200000 none fun h => { h.wr Addr.CALC_STATUS 1#32 with sel.healthySince := some 0, sel.noVer := true }) .revertHoldElapsed ∧
        ok (locked selSTANDBY 0 none (fun h => { h with sel.retry := true, sel.noVer := true }) 1 1000000000) .handoverRetry (fun h => h.sel.hand.isNone && (mails 6 h).isEmpty) fun _ => false) := by
  decide +kernel

def mirrorAt : Nat := State.reset.hub.mirrorBase
def mir (x : Nat) (e : List MirrorEntry) (l : List (Nat × Word) := []) (f : Hub → Hub := id) : State :=
  tw x 0 l (fun h => f { h with sys.plan.mirror := e }) 3
def hst (x : Nat) : State := mir x [.histogram 0x120000 16] [] fun h =>
  (h.domeBytes 0x120000 [1, 0, 0, 0, 0, 0, 0, 2, 3, 0, 0, 0, 0, 0, 0, 0]).domeBytes mirrorAt [1, 0, 0, 0, 0, 0, 0, 2, 0, 0, 0, 0, 0, 0, 0, 0]
def twl (r : Nat := 100000000) : State := ln 5 sACTIVE {} [(Addr.SEL_STATUS, 0xA003#32)] id 1 r

/-- Meets the hypotheses of MirrorOfTheActiveHub. -/
theorem test_active_hub_mirrors :
    (same (mir selSTANDBY []) .ledgerMSend ∧ same (mir selSTANDBY [.thresholds 5 1]) .thresholdsSend ∧ same (hst selSTANDBY) .histogramSend) ∧
    ((mir selACTIVE []).hub.mirrors ∧ ((List.range 1024).filter (mir selACTIVE []).hub.streamOn).length ≤ 125) ∧
    (same (twl 99999999) .mirrorPathReturn) ∧
    ((twl).hub.activeLane rTWIN = some 3 ∧ ok twl .mirrorPathReturn (fun h => !h.bit Addr.SEL_STATUS 13) fun a => a == Addr.SEL_STATUS) ∧
    (same (mir selACTIVE []) .mirrorPathReturn) ∧
    (ok (mir selACTIVE [] [] fun h => { h with sel.waiting := [(255, { g := [(15, 7#32)], q := [(3, true), (0, false)] })] }) (.contextFallbackSlot 255) (fun h =>
        h.sel.waiting.isEmpty && mails 6 h == [(mCONTEXT, 2, [0x800000FF#32, 0x890#32, 7#32])]) frg) ∧
    (same (mir selACTIVE [] [] fun h => { h with sel.waiting := [(255, { g := [] , q := [] })], sel.slotAt := [(255, 190000001 * nsU)] }) (.contextFallbackSlot 255)) ∧
    ((hst selACTIVE).hub.histMap = [(0, 0x120000, 16, 0)] ∧ 0x120000 + 16 ≤ mirrorAt ∧ mirrorAt + 16 ≤ domeSize) ∧
    (ok (hst selACTIVE) .histogramSend (fun h => h.sel.histPeriod == 1 && mails 6 h == [(mHISTOGRAM, 2, [0#32, 0x10001#32, 0#32, 8#32, 3#32, 0#32])] &&
        h.domeRead (mirrorAt + 8) 8 == 3) frg) ∧
    (ok (mir selACTIVE [.thresholds 511 1] [] fun h => h.setChan 511 { sen := { base := some (-1), noise := 7 } }) .thresholdsSend (fun h =>
        mails 6 h == [(mTHRESHOLDS, 2, [511#32, 1#32, 0xFFFFFFFF#32, 7#32])]) frg) ∧
    (ok (mir selACTIVE [.thresholds 5 1] [(Addr.SEL_STATUS, 0x6003#32)]) .thresholdsSend (fun h => h.rd Addr.SEL_MIRROR_LOST_CNT == 1#32) fun a => a == Addr.SEL_MIRROR_LOST_CNT) := by
  decide +kernel

def mm (msg : Nat) (p : List Word) : RxFrame := sm msg p 2
def lm (last : Word) : RxFrame := mm mLEDGERM (instWords 77 ++ [last + 1#32, 0x000A03FF#32, 5#32, 9#32, 1#32])
def sb (f : Hub → Hub := id) (e : List MirrorEntry := []) (x : Nat := selSTANDBY) : State := mir x e [] f
def cpy : RxFrame := mm mCONTEXT [0x800000FF#32, 0x890#32, 7#32]
def his (last : Word) : RxFrame := mm mHISTOGRAM [0#32, last + 1#32, 6#32, 8#32, 0x44332211#32, 0x88776655#32]
def capm (last : Word) (k : Word) : RxFrame := mm mCAPTURE [last + 31#32 + 256#32 * k, 5#32, 0x04030201#32]
/-- The path is back on TWIN, and a copy of context 255 still waits for a ring slot. -/
def twq : Hub := { (ln 5 sACTIVE {} [(Addr.SEL_STATUS, 0x8003#32)]).hub with sel.waiting := [(255, { g := [(15, 7#32)], q := [] })] }
def zeros (h : Hub) : Hub := (h.domeBytes 0x120000 (List.replicate 16 0#8)).domeBytes mirrorAt (List.replicate 16 0#8)

/-- Meets the hypotheses of MirrorOfTheActiveHub. -/
theorem test_standby_hub_applies :
    (ok (sb fun h => h.modStream 1023 fun x => { x with prod := 7 }) (.ledgerM 3 (lm 0x10000#32)) (fun h => h.stream 1023 ==
        { prod := 7, ack := 7, mirNext := 5 + 10 * 2 ^ 32, mirProd := 9 + 2 ^ 32 } && h.led.tm == some 77 && h.sel.setM.isNone) frg) ∧
    (ok (sb fun h => { h with sel.setM := some (76, []) }) (.ledgerM 3 (lm 0#32)) (fun h => h.rd Addr.SEL_MIRROR_LOST_CNT == 1#32 && h.sel.setM.map Prod.fst == some 77 &&
        h.streams.isEmpty) fun a => frg a || a == Addr.SEL_MIRROR_LOST_CNT) ∧
    (ok (sb fun h => { h with sel.setM := some (77, [(1, 2, 3)]) }) (.ledgerM 3 (lm 0#32)) (fun h => h.sel.setM.any fun x => x.2.length == 2) frg) ∧
    (ok (sb fun h => h.setCtx 255 { st := .wait }) (.context 3 cpy) (fun h => h.g 255 15 == 7#32 && h.q 255 3 && !h.q 255 0 && (SMap.find h.sel.copies 255).isNone)
        fun a => frg a || a == Addr.CTX_G 3 63 15 || a == Addr.CTX_STATUS 3 63) ∧
    (ok (sb fun h => h.setCtx 255 { st := .ready }) (.context 3 cpy) (fun h => SMap.find h.sel.copies 255 == some { g := [(15, 7#32)], q := [(0, false), (3, true)] }) frg) ∧
    ((sb id [.histogram 0x120000 16]).hub.histMap.find? (fun e => e.1 = 0) = some (0, 0x120000, 16, 0)) ∧
    (ok (sb zeros [.histogram 0x120000 16]) (.histogram 3 (his 0x10000#32)) (fun h => h.domeRead 0x120008 8 == 0x8877665544332211 && h.domeRead (mirrorAt + 8) 8 == 0x8877665544332211 &&
        h.domeRead 0x120000 8 == 0) frg) ∧
    (ok (sb zeros [.histogram 0x120000 16]) (.histogram 3 (his 0#32)) (fun h => h.domeRead 0x120008 8 == 0 && h.sel.hist == some (6, [(0x120008, 0x8877665544332211)]) && !h.sel.histBad && h.sel.histSeq == some 0) frg) ∧
    (ok (sb) (.thresholds 3 (mm mTHRESHOLDS [511#32, 2#32, 0xFFFFFFFF#32, 7#32, 1#32, 1#32])) (fun h => (h.chan 511).sen.loaded == some (-1, 7) && (h.chan 0).sen.loaded.isNone) frg) ∧
    (ok (sb) (.captureMirror 3 (capm 0#32 0#32)) (fun h => SMap.find h.sel.capParts 31 == some (1, 5, [0x04030201#32])) frg) ∧
    (ok (sb) (.captureMirror 3 (capm 0x10000#32 0#32)) (fun h => h.sel.capPos == 4 && h.domeByte (mirrorAt + h.mirrorHalf) == 1#8 && h.domeByte (mirrorAt + h.mirrorHalf + 3) == 4#8) frg) ∧
    (ok (sb fun h => { h with sel.capPos := h.mirrorHalf - 3 }) (.captureMirror 3 (capm 0x10000#32 0#32)) (fun h => h.sel.capPos == 4) frg) ∧
    (ok (sb fun h => h.setActive (Addr.LED_STREAM 700) 0x7F#32) (.ledgerM 3 (lm 0x10000#32)) (fun h => h.streams.isEmpty && h.led.tm.isNone && h.sel.setM.isNone &&
        h.rd Addr.SEL_MIRROR_LOST_CNT == 1#32) fun a => frg a || a == Addr.SEL_MIRROR_LOST_CNT) ∧
    (ok (sb (fun h => { zeros h with sel.histSeq := some 0xFFFFFFFF }) [.histogram 0x120000 16]) (.histogram 3 (his 0x10000#32)) (fun h => h.domeRead 0x120008 8 == 0x8877665544332211 && h.sel.histSeq == some 0) frg) ∧
    (ok (sb (fun h => { zeros h with sel.histSeq := some 0xFFFFFFFE }) [.histogram 0x120000 16]) (.histogram 3 (his 0x10000#32)) (fun h => h.domeRead 0x120008 8 == 0 && h.sel.hist.isNone &&
        h.rd Addr.SEL_MIRROR_LOST_CNT == 1#32) fun a => frg a || a == Addr.SEL_MIRROR_LOST_CNT) ∧
    (ok (sb (fun h => { zeros h with sel.histSeq := some 3 }) [.histogram 0x120000 16]) (.histogram 3 (his 0#32)) (fun h => h.sel.histBad && h.sel.hist.isSome) frg) ∧
    (ok (sb) (.captureMirror 3 (capm 0#32 2#32)) (fun h => h.rd Addr.SEL_MIRROR_LOST_CNT == 1#32) fun a => frg a || a == Addr.SEL_MIRROR_LOST_CNT) ∧
    (ok (sb fun h => { h with sel.capParts := [(31, (2, 5, [1#32]))] }) (.captureMirror 3 (capm 0#32 2#32)) (fun h => SMap.find h.sel.capParts 31 == some (3, 5, [1#32, 0x04030201#32])) frg) ∧
    (ok (sb fun h => { h with sel.capParts := [(31, (1, 5, [1#32]))] }) (.captureMirror 3 (capm 0#32 2#32)) (fun h => SMap.find h.sel.capParts 31 == some (capLOST, 5, []) && h.rd Addr.SEL_MIRROR_LOST_CNT == 1#32)) ∧
    (twq.twinPath = some 3 ∧ (SMap.find twq.sel.waiting 255).isSome ∧ (SMap.find (twq.queueCopy 0 255 { g := [], q := [] }).sel.waiting 255).isNone ∧
        (twq.queueCopy 0 255 { g := [], q := [] }).rd Addr.SEL_MIRROR_REPL_CNT = 1#32) := by
  decide +kernel

/-- A hub in BOOT at this stage, with these straps sampled. -/
def bt (stage : Nat) (f : Hub → Hub := id) (sel : Nat := 0) : State := st 0 [(Addr.SYS_BOOT_STATUS, wd (stage + 65536 * sel))] f
/-- A short image in the firmware store, to be verified. -/
def vfy (source sel : Nat) : State := bt stageVERIFY (fun h => { h with sys.verify := some (source, []), sys.fwStore := [1, 2, 3, 4] }) sel
/-- The head of an image: magic, version, VER, length. -/
def imgHead (a b c d : Word) : List Byte := wordBytes [a, b, c, d]

/-- Meets the hypotheses of BootAndBelfryResets. -/
theorem test_boot_rom_and_images :
    (ok (bt stageROM) (.bootRomStart 0) (fun h => h.bootStage == stageLOADA) fun a => a == Addr.SYS_BOOT_STATUS) ∧
    (ok (bt stageROM) (.bootRomStart 1) (fun h => h.bootStage == stageWAITHOST) fun a => a == Addr.SYS_BOOT_STATUS) ∧
    (ok (bt stageROM) (.bootRomStart 2) (fun h => h.bootStage == stageLOADA) fun a => a == Addr.SYS_BOOT_STATUS) ∧
    (ok (bt stageROM) (.bootRomStart 3) (fun h => h.bootStage == stageHALTED && h.fld Addr.SYS_BOOT_STATUS 8 8 == 13 && h.irq && lg 7 (bt stageROM) h) fun a => a == Addr.SYS_BOOT_STATUS || inLog a) ∧
    (same (bt stageLOADA) (.bootRomStart 0) ∧ same (st 1 []) (.bootRomStart 3)) ∧
    (imageFault (imgHead 0x57464B43#32 1#32 0#32 0x100#32) = some 7 ∧ imageFault (imgHead 0x57464B42#32 2#32 0#32 0x100#32) = some 6) ∧
    (imageFault (imgHead 0x57464B42#32 1#32 0#32 0xFC#32) = some 8 ∧ imageFault (imgHead 0x57464B42#32 1#32 0#32 0x100#32) = some 8) ∧
    (ok (bt stageLOADA) (.firmwareLoaded [7] []) (fun h => h.bootStage == stageVERIFY && h.sys.verify == some (0, []) && h.sys.fwStore == [7] && !h.sys.fwOk) fun a => a == Addr.SYS_BOOT_STATUS) ∧
    (ok (bt stageLOADB) (.firmwareLoaded [7] []) (fun h => h.bootStage == stageVERIFY && h.sys.verify == some (1, [])) fun a => a == Addr.SYS_BOOT_STATUS) ∧
    ((vfy 0 0).hub.sys.pllLocked = false ∧ (vfy 0 0).hub.sys.powered ∧ (after (vfy 0 0)).bootStage = stageLOADB ∧ (after (vfy 0 0)).fld Addr.SYS_BOOT_STATUS 8 8 = 7 ∧ (after (vfy 0 0)).sys.verify = none) ∧
    ((after (vfy 1 2)).bootStage = stageWAITHOST ∧ lg 7 (vfy 1 2) (after (vfy 1 2))) ∧
    ((after (vfy 1 0)).bootStage = stageHALTED ∧ (after (vfy 2 0)).bootStage = stageWAITHOST) ∧
    (same (bt stageWAITHOST) (.firmwareLoaded [] [])) ∧
    (may (bt stageWAITHOST) 5 Addr.SYS_BOOT_CTRL ∧ ok (bt stageWAITHOST) (.bootCtrlWrite 5 0x100001#32 []) (fun h => h.fld Addr.SYS_BOOT_STATUS 8 8 == 8 && h.bootStage == stageWAITHOST)
        fun a => a == Addr.SYS_BOOT_STATUS || inLog a) ∧
    (ok (bt stageWAITHOST) (.bootCtrlWrite 5 0#32 []) (fun h => h.fld Addr.SYS_BOOT_STATUS 8 8 == 8)) ∧
    (ok (bt stageWAITHOST fun h => h.domeBytes 0x800000 [1, 2, 3, 4]) (.bootCtrlWrite 5 4#32 []) (fun h => h.bootStage == stageVERIFY && h.sys.verify == some (2, []) && h.sys.fwStore == [1, 2, 3, 4])) ∧
    (ok (st 1 []) (.bootCtrlWrite 5 0#32 []) (fun _ => true) fun _ => false) ∧
    (imageFault [1, 2, 3, 4] = some 7 ∧ sha256 [0x61, 0x62, 0x63] = [0xba, 0x78, 0x16, 0xbf, 0x8f, 0x01, 0xcf, 0xea, 0x41, 0x41, 0x40, 0xde, 0x5d, 0xae, 0x22, 0x23,
        0xb0, 0x03, 0x61, 0xa3, 0x96, 0x17, 0x7a, 0x9c, 0xb4, 0x10, 0xff, 0x61, 0xf2, 0x00, 0x15, 0xad]) := by
  decide +kernel

def blf (f : Hub → Hub := id) : State :=
  cmd 0x60 3 1 [(Addr.TIME_STATE, 1#32), (Addr.CALC_STATUS, 2#32), (Addr.SYS_WDOG_CNT, 65535#32), (Addr.LOCK_PEEK 31, 0x80000000#32), (Addr.DB_ACK_LO 0, 3#32)] f
def aborted : State :=
  cmd 0x60 3 1 [(Addr.MB_STATUS 0, 4#32), (Addr.MB_LASTREAD 0, 0x605A0003#32), (Addr.CMD_INFLIGHT_LO, 1#32)] fun h =>
    { h with ctl.belfryHeld := true, ctl.restartLog := [(26, 9#32)], sys.fwOk := true }

/-- Meets the hypotheses of BootAndBelfryResets. -/
theorem test_belfry_is_reset_and_restarts :
    (blf.hub.firmware ∧ wordsFor 0 blf = [0] ∧ locksOf 0 blf = [31]) ∧
    (ok blf .watchdogExpiry fun h => h.ctl.belfryHeld && !h.mbFull 0 && h.rd (Addr.MB_STATUS 0) == 6#32 && h.timeState == 2 && !h.bit Addr.CALC_STATUS 1 && h.rd Addr.SYS_WDOG_CNT == 65535#32 &&
        h.rd (Addr.LOCK_PEEK 31) == 0#32 && h.rd (Addr.RESET_EPOCH 0) == 1#32 && h.dbGet 2 spi 0 && h.rd (Addr.DB_ACK_LO 0) == 0#32 && h.ctl.restartLog == [(27, 0#32)] && lg 4 blf h && lg 5 blf h) ∧
    (ok blf (.lockstepMismatch 7#32) fun h => h.rd Addr.SYS_LOCKSTEP_CNT == 1#32 && h.ctl.restartLog == [(26, 7#32)]) ∧
    (ok (bt stageLOADA) .watchdogExpiry (fun h => h.ctl.restartLog == [(27, 0#32)] && h.rd Addr.SYS_WDOG_CNT == 1#32 && !h.ctl.belfryHeld) fun a => a == Addr.SYS_WDOG_CNT) ∧
    (ok (bt stageLOADA) (.lockstepMismatch 9#32) (fun h => h.ctl.restartLog == [(26, 9#32)] && h.rd Addr.SYS_LOCKSTEP_CNT == 1#32) fun a => a == Addr.SYS_LOCKSTEP_CNT) ∧
    (ok aborted .belfryRestart fun h => !h.ctl.belfryHeld && resp 0x0A5AFFFF#32 h && h.rd (Addr.MB_STATUS 0) == 0#32 && lg 26 aborted h && lg 6 aborted h) ∧
    (same blf .belfryRestart) ∧
    (ok { aborted with hub := { aborted.hub with sys.fwOk := false } } .belfryRestart (fun h => h.ctl.belfryHeld && h.bootStage == stageHALTED && h.fld Addr.SYS_BOOT_STATUS 8 8 == 7)
        fun a => a == Addr.SYS_BOOT_STATUS || inLog a) ∧
    (ok { aborted with hub := aborted.hub.setLane 3 { eyeScan := some { ch := 0, vs := [0, 1], ps := [5], dwell := 10, addr := 0x120000, done := 1 } } } .belfryRestart fun h =>
        (h.lane 3).eyeScan.isNone && h.domeWord 0x120000 == 3#32 && h.domeWord 0x120004 == 1#32 && h.domeWord 0x12000C == 10#32) := by
  decide +kernel

def mb (l : List (Nat × Word)) (f : Hub → Hub := id) : State := st 1 ((Addr.BIND 63, bindWord spi jtag 0 true) :: l) f

/-- Meets the hypotheses of MailboxesAndBindings. -/
theorem test_mailboxes_are_bound_and_used :
    (may (mb []) 5 (Addr.MB_DATA 63) ∧ ok (mb [(Addr.RESET_EPOCH 5, 9#32), (Addr.MB_STATUS 63, 2#32)]) (.mailboxPost 5 63 77#32) (fun h => h.mbFull 63 && h.rd (Addr.MB_PEEK 63) == 77#32 &&
        h.rd (Addr.MB_STATUS 63) == 0x90001#32 && h.dbGet 0 jtag 63) fun a => a == Addr.MB_STATUS 63 || a == Addr.MB_PEEK 63 || a == Addr.DB_MSG_HI 8) ∧
    (ok (mb [(Addr.MB_STATUS 63, 1#32)]) (.mailboxPost 5 63 77#32) (fun h => h.rd (Addr.MB_STATUS 63) == 0x201#32) fun a => a == Addr.MB_STATUS 63) ∧
    (ok (mb []) (.mailboxPost 6 63 77#32) (fun h => lg 4 (mb []) h) inLog) ∧
    (ok (mb []) (.mailboxPost 5 62 77#32) (fun h => lg 4 (mb []) h) inLog) ∧
    (may (mb []) 8 (Addr.DB_MASK 5) ∧ ok (mb [(Addr.DB_MASK 5, 1#32)]) (.registerWrite 8 (wd (Addr.DB_MASK 5)) .word 7#32) (fun h => lg 0 (mb [(Addr.DB_MASK 5, 1#32)]) h) inLog) ∧
    (may (mb []) 6 (Addr.DB_ACK_HI 5) ∧ ok (mb [(Addr.DB_ACK_HI 5, 6#32)]) (.registerWrite 6 (wd (Addr.DB_ACK_HI 5)) .word 2#32) (fun h => lg 0 (mb [(Addr.DB_ACK_HI 5, 6#32)]) h) inLog) ∧
    (ok (mb [(Addr.DB_ACK_HI 5, 6#32)]) (.registerWrite 0 (wd (Addr.DB_ACK_HI 5)) .word 2#32) (fun h => h.rd (Addr.DB_ACK_HI 5) == 4#32) fun a => a == Addr.DB_ACK_HI 5) ∧
    (may (mb []) 8 (Addr.MB_DATA 63) false ∧ ok (mb [(Addr.MB_STATUS 63, 1#32), (Addr.MB_PEEK 63, 77#32), (Addr.DB_MSG_HI 8, 0x80000000#32)]) (.mailboxTake 8 63) (fun h =>
        SMap.get 0#32 h.ctl.readData 8 == 77#32 && h.rd (Addr.MB_LASTREAD 63) == 77#32 && !h.mbFull 63 && h.rd (Addr.DB_MSG_HI 8) == 0#32 && h.dbGet 1 spi 63)
        fun a => a == Addr.MB_STATUS 63 || a == Addr.MB_LASTREAD 63 || a == Addr.DB_MSG_HI 8 || a == Addr.DB_ACK_HI 5) ∧
    (ok (mb [(Addr.MB_STATUS 63, 1#32), (Addr.MB_PEEK 63, 77#32)]) (.mailboxTake 5 63) (fun h => SMap.get 1#32 h.ctl.readData 5 == 0#32) fun _ => false) ∧
    (may (mb []) 6 (Addr.BIND 8) ∧ ok (mb []) (.bindWrite 6 8 0x1C081#32) (fun h => h.rd (Addr.BIND 8) == 0xC081#32) fun a => a == Addr.BIND 8) ∧
    (ok (mb []) (.bindWrite 6 8 0x4011#32) (fun h => lg 1 (mb []) h) inLog) ∧
    (ok (mb []) (.bindWrite 6 8 0x4091#32) (fun h => lg 1 (mb []) h) inLog) ∧
    (ok (mb []) (.bindWrite 6 7 0x4081#32) (fun h => lg 1 (mb []) h) inLog) ∧
    (ok (mb [(Addr.BIND_LOCK, 1#32)]) (.bindWrite 0 8 0x4081#32) (fun h => lg 1 (mb []) h) inLog) ∧
    (ok (mb [(Addr.MB_STATUS 8, 1#32)]) (.bindWrite 0 8 0x4081#32) (fun h => lg 1 (mb []) h) inLog) ∧
    (may (mb []) 4 (Addr.BIND 8) ∧ ok (mb []) (.bindWrite 4 8 0x4081#32) (fun h => lg 0 (mb []) h) inLog) ∧
    (may (mb []) 0 Addr.BIND_LOCK ∧ ok (mb []) (.bindLock 0 1#32) (fun h => h.bit Addr.BIND_LOCK 0) fun a => a == Addr.BIND_LOCK) ∧
    (may (mb []) 8 Addr.CP_MASTER_RESET ∧ ok (mb [(Addr.MB_STATUS 63, 1#32), (Addr.RESET_EPOCH 8, 255#32)]) (.masterReset 8) (fun h => h.rd (Addr.RESET_EPOCH 8) == 0#32 &&
        h.rd (Addr.MB_STATUS 63) == 2#32 && h.dbGet 2 spi 63 && lg 4 (mb []) h)) ∧
    (may (mb []) 0 Addr.CP_MASTER_RESET ∧ ok (mb []) (.masterReset 0) (fun h => lg 0 (mb []) h) inLog) ∧
    (ok (mb []) .trstNLow (fun h => h.rd (Addr.RESET_EPOCH 8) == 1#32) fun a => a == Addr.RESET_EPOCH 8) ∧
    (ok (cmd 0x60 3 1 [(Addr.CMD_INFLIGHT_LO, 1#32), (Addr.MB_STATUS 0, 0#32)] fun h => { h with ctl.waiting := [(2, 1#32), (0, 9#32), (0, 8#32)] }) (.responsePost 0) (fun h =>
        resp 9#32 h && h.ctl.waiting == [(2, 1#32)])) ∧
    (same (cmd 0x60 3 1 [(Addr.MB_STATUS 1, 1#32)] fun h => { h with ctl.waiting := [(0, 9#32)] }) (.responsePost 0) ∧ same (mb []) (.responsePost 0)) := by
  decide +kernel

def lks (v : Word) (f : Hub → Hub := id) : State := st 1 [(Addr.LOCK_PEEK 31, v)] f
def ent (k : Nat) : LogEntry := { cls := k, code := 2, master := 15, detail := 9#32, first := 65536, last := 131072 }
def elg (n : Nat) (q : List LogEntry := [ent 3]) : State := st 1 [] fun h => { h with ctl.elog := { entries := (List.range n).map ent, queue := q, written := n } }
def drn (slot : Nat) (n : Nat) : State := cmd 0x60 slot 1 [] fun h => { h with ctl.elog := { entries := (List.range n).map ent } }

/-- Meets the hypotheses of LocksAndTheErrorLog. -/
theorem test_locks_and_error_log :
    (may (lks 0#32) 4 (Addr.LOCK 31) false ∧ ok (lks 0#32) (.lockAcquire 4 31) (fun h => h.rd (Addr.LOCK_PEEK 31) == 0x80000004#32 && SMap.get 1#32 h.ctl.readData 4 == 0#32)
        fun a => a == Addr.LOCK_PEEK 31) ∧
    (ok (lks 0x80000004#32) (.lockAcquire 8 31) (fun h => SMap.get 1#32 h.ctl.readData 8 == 0x80000004#32) fun _ => false) ∧
    (may (lks 0#32) 4 (Addr.LOCK 31) ∧ ok (lks 0x80000004#32) (.lockRelease 4 31) (fun h => h.rd (Addr.LOCK_PEEK 31) == 0#32) fun a => a == Addr.LOCK_PEEK 31) ∧
    (ok (lks 0x80000004#32) (.lockRelease 8 31) (fun h => lg 5 (lks 0#32) h) inLog) ∧
    (may (lks 0#32) 8 Addr.LOCK_FORCE ∧ ok (lks 0x80000004#32) (.lockForce 8 31#32) (fun h => h.rd (Addr.LOCK_PEEK 31) == 0#32 && lg 5 (lks 0#32) h) fun a => a == Addr.LOCK_PEEK 31 || inLog a) ∧
    (ok (lks 0#32) (.lockForce 8 31#32) (fun _ => true) fun _ => false) ∧
    (ok (lks 0x80000004#32) (.lockForce 5 31#32) (fun h => lg 0 (lks 0#32) h) inLog) ∧
    (ok (elg 63) .elogQueueWrite (fun h => h.ctl.elog.entries == (List.range 63).map ent ++ [ent 3] && h.ctl.elog.queue.isEmpty && h.ctl.elog.written == 64) fun _ => false) ∧
    (same (elg 64) .elogQueueWrite ∧ same (elg 2 []) .elogQueueWrite) ∧
    (may (elg 2) 5 Addr.ELOG_FREE ∧ ok (elg 2) (.elogFree 5 64#32) (fun h => h.ctl.elog.entries.isEmpty && h.ctl.elog.head == 2) fun _ => false) ∧
    (ok (elg 2) (.elogFree 5 65#32) (fun h => lg 1 (elg 2) h) inLog) ∧
    (ok (elg 2) (.elogFree 5 128#32) (fun h => lg 1 (elg 2) h) inLog) ∧
    (waits (drn 255 9) 0x60 255 ∧ ok (drn 255 9) (.errlogDrain 0) (fun h => resp 0x005A0108#32 h && h.ctl.elog.entries == [ent 8] && h.domeWord (65280 + 7 * 32) == 0x1F0207#32 &&
        h.domeWord (65280 + 4) == 9#32 && h.domeWord (65280 + 8) == 0x10000#32)) ∧
    (waits (drn 256 9) 0x60 256 ∧ ok (drn 256 9) (.errlogDrain 0) (fun h => resp 0x035A0000#32 h && h.ctl.elog.entries.length == 9)) := by
  decide +kernel

def sp (b : Bool) (a : Nat := 0) : State := st 1 [(Addr.SYS_SPI_ERR_CNT, 5#32), (Addr.BIND 63, bindWord spi jtag 0 true)] fun h =>
  { h.domeBytes 0x120000 [1, 2, 3, 4] with ctl.spi := { busy := b, addr := a, result := 7#32, rdy := true, status := 3, seq := 65535 } }
def seen (h : Hub) (b : Bool) : Bool := h.ctl.spi.seq == 0 && h.ctl.spi.data == 7#32 && h.ctl.spi.stat == (if b then 0xFFFF0303#32 else 0xFFFF0103#32)

/-- Meets the hypotheses of PortsAndOneTimeMemory. -/
theorem test_spi_port :
    (ok (sp true) (.spiWrite 0x120000#32 9#32) (fun h => seen h true && h.ctl.spi.status == EBUSY && h.domeWord 0x120000 == 0x04030201#32) fun _ => false) ∧
    ((sp false).hub.accessOk 5 true 0x120000 4 ∧ ok (sp false) (.spiWrite 0x120003#32 9#32) (fun h => seen h false && h.ctl.spi.status == 0 && h.domeWord 0x120000 == 9#32) fun _ => false) ∧
    (may (sp false) 5 (Addr.MB_DATA 63) ∧ ok (sp false) (.spiWrite (wd (Addr.MB_DATA 63)) 9#32) (fun h => seen h false && h.ctl.spi.status == 0 && h.rd (Addr.MB_PEEK 63) == 9#32 && h.mbFull 63 && h.dbGet 0 jtag 63)) ∧
    (ok (sp false) (.spiWrite 0x02000000#32 9#32) (fun h => seen h false && h.ctl.spi.status == ERANGE && lg 0 (sp false) h) inLog) ∧
    (ok (sp true) (.spiRead 4#32) (fun h => seen h true && h.ctl.spi.status == EBUSY && h.ctl.spi.addr == 0) fun _ => false) ∧
    (ok (sp false) (.spiRead 7#32) (fun h => seen h false && h.ctl.spi.busy && !h.ctl.spi.rdy && h.ctl.spi.addr == 4) fun _ => false) ∧
    (ok (sp true) .spiNop (fun h => seen h true && h.ctl.spi.status == 3) fun _ => false) ∧
    (ok (sp true) .spiBadFrame (fun h => seen h true && h.rd Addr.SYS_SPI_ERR_CNT == 6#32) fun a => a == Addr.SYS_SPI_ERR_CNT) ∧
    (same (sp false) .spiReadComplete) ∧
    (ok (sp true 0x120000) .spiReadComplete (fun h => h.ctl.spi.result == 0x04030201#32 && h.ctl.spi.rdy && !h.ctl.spi.busy && h.ctl.spi.status == 0 && h.ctl.spi.seq == 65535) fun _ => false) ∧
    (ok (sp true Addr.SYS_SPI_ERR_CNT) .spiReadComplete (fun h => h.ctl.spi.result == 5#32 && h.rd Addr.SYS_SPI_ERR_CNT == 0#32) fun a => a == Addr.SYS_SPI_ERR_CNT) ∧
    (ok (sp true 0x02000000) .spiReadComplete (fun h => h.ctl.spi.result == 0#32 && h.ctl.spi.status == ERANGE && lg 0 (sp true) h) inLog) := by
  decide +kernel

/-- A management request of the position 0, its word 0 and what follows, for this hub by lane 3. -/
def mq (w0 : Word) (p : List Word) : RxFrame := rx tMGMT (w0 :: p) aPOS 0 1 0
def mg (cfg : Word := 8#32) (f : Hub → Hub := id) : State := ln 3 sACTIVE {} [(Addr.SYS_MGMT_CFG, cfg), (Addr.DB_MASK 6, 1#32), (Addr.DB_MSG_HI 6, 9#32)] fun h => f (h.domeBytes 0x120000 [1, 2, 3, 4, 5, 6, 7, 8])
def rep (h : Hub) : List (Nat × List Word) := (h.lane 3).txq.map fun y => (y.frame.dst, y.frame.payload)
def kept : KeptResp := { src := 0, tag := 0x33, up := false, sent := 0, payload := [] }

/-- Meets the hypotheses of PortsAndOneTimeMemory. -/
theorem test_management_port :
    (ok mg (.mgmtRead 3 (mq 0x23301#32 [0x120000#32]) false none) (fun h => rep h == [(0, [0x23303#32, 0x200#32, 0x04030201#32, 0x08070605#32])] &&
        h.ctl.resps.map (fun k => (k.src, k.tag, k.up, k.sent)) == [(0, 0x33, false, 65536000)]) frg) ∧
    (ok mg (.mgmtRead 3 (mq 0x3301#32 [0x120000#32]) false none) (fun h => rep h == [(0, [0x3303#32, 8#32])]) frg) ∧
    (ok mg (.mgmtRead 3 (mq 0x413301#32 [0x120000#32]) false none) (fun h => rep h == [(0, [0x3303#32, 8#32])]) frg) ∧
    (ok mg (.mgmtRead 3 (mq 0x13301#32 [0x02000000#32]) false none) (fun h => rep h == [(0, [0x3303#32, 3#32])] && lg 0 mg h) fun a => frg a || inLog a) ∧
    (ok mg (.mgmtRead 3 (mq 0x13301#32 [0x120000#32]) false (some 0)) (fun h => rep h == [(0, [0x3303#32, 12#32])] && lg 2 mg h && h.ctl.abandoned == [(uplink, 0x120000)]) fun a => frg a || inLog a) ∧
    (ok mg (.mgmtWrite 3 (mq 0x23302#32 [0x120000#32, 9#32, 8#32]) false) (fun h => rep h == [(0, [0x3303#32, 0x200#32])] && h.domeWord 0x120000 == 9#32 && h.domeWord 0x120004 == 8#32) frg) ∧
    (ok mg (.mgmtWrite 3 (mq 0x23302#32 [0x120000#32, 9#32]) false) (fun h => rep h == [(0, [0x3303#32, 8#32])] && h.domeWord 0x120000 == 0x04030201#32) frg) ∧
    (ok (mg 0x18#32) (.mgmtWrite 3 (mq 0x13302#32 [0x120000#32, 9#32]) false) (fun h => rep h == [(0, [0x3303#32, 5#32])] && h.domeWord 0x120000 == 0x04030201#32) frg) ∧
    (ok mg (.mgmtWrite 3 (mq 0x13302#32 [wd Addr.SYS_MGMT_CFG, 9#32]) false) (fun h => rep h == [(0, [0x3303#32, 3#32])] && lg 0 mg h) fun a => frg a || inLog a) ∧
    (ok mg (.mgmtUnexpected 3 (mq (wd (0x13300 + mgmtOtherOp 13)) []) false 13) (fun h => rep h == [(0, [0x3303#32, 13#32])]) frg) ∧
    (ok (mg 0#32) (.mgmtWrite 3 (mq 0x13302#32 [0x120000#32, 9#32]) false) (fun h => (rep h).isEmpty && lg 24 mg h && h.domeWord 0x120000 == 0x04030201#32) fun a => frg a || inLog a) ∧
    (ok (mg 8#32 fun h => { h with ctl.resps := [kept] }) (.mgmtWrite 3 (mq 0x13302#32 [0x120000#32, 9#32]) false) (fun h => lg 24 mg h && h.domeWord 0x120000 == 0x04030201#32) fun a => frg a || inLog a) ∧
    (ok (mg 0x28#32) .doorbellFrameSend (fun h => rep h == [(0, [0x60004#32, 0#32, 9#32, 0#32, 0#32, 0#32, 0#32])]) frg) ∧
    (ok { ln 7 sACTIVE {} [(Addr.SPAN_CFG, 0#32), (Addr.SYS_MGMT_CFG, 0x60#32), (Addr.DB_MASK 6, 1#32), (Addr.DB_MSG_LO 6, 1#32)] with pending := [] } .doorbellFrameSend
        (fun h => (h.lane 3).txq.map (fun y => (y.frame.type, y.frame.addr, y.frame.payload)) == [(tMGMT, aUP, [0x60004#32, 1#32, 0#32, 0#32, 0#32, 0#32, 0#32])]) frg) ∧
    (ok (ln 7 sACTIVE {} [(Addr.SYS_MGMT_CFG, 0#32)]) (.mgmtWrite 3 (mq 0x13302#32 [0x120000#32, 9#32]) false) (fun h => h.rd (Addr.CNT_MALF 3) == 1#32 && (h.lane 3).txq.isEmpty)
        fun a => frg a || a == Addr.CNT_MALF 3) ∧
    (same (mg 8#32) .doorbellFrameSend) := by
  decide +kernel

def otp (m : Option Nat) (f : Hub → Hub := id) (mode : Nat := 1) (r : Nat := 0) : State := st mode [] (fun h => f { h with sys.otpStep := m, sys.otpStage := [(7, 5#32)] }) r

/-- Meets the hypotheses of PortsAndOneTimeMemory. -/
theorem test_one_time_memory :
    (may (otp (some 8)) 8 Addr.SYS_OTP_CTRL ∧ ok (otp (some 8)) (.otpProgramHash 8) (fun h => h.sys.otpRun == some (some (List.replicate 7 0#32 ++ [5#32])) && h.otpStatus.getLsbD 2) fun _ => false) ∧
    (ok (otp (some 5) id 2) (.otpProgramHash 5) (fun h => lg 25 (otp none) h && h.fld Addr.SYS_OTP_STATUS 8 8 == 1) fun a => a == Addr.SYS_OTP_STATUS || inLog a) ∧
    (may (otp none) 0 Addr.SYS_OTP_CTRL ∧ ok (otp (some 0)) (.otpProgramHash 0) (fun h => h.fld Addr.SYS_OTP_STATUS 8 8 == 1 && h.sys.otpRun.isNone)) ∧
    (ok (otp (some 5) fun h => { h with sys.otpOwner := [0#32, 1#32] }) (.otpProgramHash 5) (fun h => h.fld Addr.SYS_OTP_STATUS 8 8 == 5)) ∧
    (ok (otp (some 5) fun h => { h with sys.otpStage := [] }) (.otpProgramHash 5) (fun h => h.fld Addr.SYS_OTP_STATUS 8 8 == 3)) ∧
    (ok (otp (some 5) fun h => { h with sys.otpRun := some (some [5#32]) }) (.otpProgramHash 5) (fun h => h.fld Addr.SYS_OTP_STATUS 8 8 == 5)) ∧
    (ok (otp (some 5) fun h => { h with sys.otpRun := some none }) (.otpProgramHash 5) (fun h => h.fld Addr.SYS_OTP_STATUS 8 8 == 2)) ∧
    (ok (otp (some 5)) (.otpBlowDebugLock 5) (fun h => h.sys.otpRun == some none && h.sys.otpStep.isNone) fun _ => false) ∧
    (ok (otp (some 5) fun h => { h with sys.otpRun := some none }) (.otpBlowDebugLock 5) (fun h => h.fld Addr.SYS_OTP_STATUS 8 8 == 2 && lg 25 (otp none) h)) ∧
    (same (otp (some 5) id 1 999999) .otpSequenceTimeout) ∧
    (ok (otp (some 5) id 1 1000000) .otpSequenceTimeout (fun h => h.sys.otpStep.isNone && h.fld Addr.SYS_OTP_STATUS 8 8 == 1 && lg 25 (otp none) h) fun a => a == Addr.SYS_OTP_STATUS || inLog a) ∧
    (same (otp none) .otpSequenceTimeout ∧ same (otp none) .otpProgramComplete) ∧
    (same (otp none (fun h => { h with sys.otpRun := some none }) 1 19999999) .otpProgramComplete) ∧
    (ok (otp none (fun h => { h with sys.otpRun := some (some [5#32]) }) 1 20000000) .otpProgramComplete (fun h => h.sys.otpOwner == [5#32] && h.sys.otpRun.isNone && !h.sys.otpLock) fun a => a == Addr.SYS_OTP_STATUS) ∧
    (ok (otp none (fun h => { h with sys.otpRun := some none, pins.tap := .other }) 1 20000000) .otpProgramComplete (fun h => h.sys.otpLock && h.pins.tap == .bypass && !h.accessOk jtag false 0x120000 4) fun a => a == Addr.SYS_OTP_STATUS) := by
  decide +kernel

/-- The command with ARG 255, whose slot holds these words. -/
def sl (op m : Nat) (w : List Word) : State := cmd op 255 m [] fun h => h.domeBytes 65280 (wordBytes w)
def stopWord (a : Nat) : List (Nat × Word) := [(a, 0#32)]
/-- IDLE with a plan and an aligned grid, `x` reported as the time state. -/
def rdy (op arg x : Nat) (f : Hub → Hub := id) : State :=
  cmd op arg 1 [(Addr.SYS_PLAN_STATUS, 1#32), (Addr.GRID_STATUS, 1#32), (Addr.TIME_STATE, wd (4 * x))] fun h => f { h with sys.plan.used := [255] }
def wt (n : Nat) : List Word := [kxWord (n * nsU) 0, kxWord (n * nsU) 1, kxWord (n * nsU) 2]

/-- START in mode `m` at `n` ns. -/
def strt (m n : Nat) : State := sl 0x12 m (wt n)
/-- Alarm 15 is armed with START and due. -/
def due2 (s : State) : State :=
  { s with hub := { s.hub.wr (Addr.ALM_STATUS 15) 0x100#32 with lan.alarms := [(15, { target := 0, action := 8 })] } }

/-- Meets the hypotheses of CommandsOfModesAndRuns. -/
theorem test_commands_of_modes :
    (waits (cmd 0x7F 9 1) 0x7F 9 ∧ 0x7F ∉ opcodes ∧ ok (cmd 0x7F 9 1) (.nopCommand 0) (fun h => resp 0x0D5A0000#32 h)) ∧
    (ok (cmd 0 0 1) (.nopCommand 0) (fun h => resp 0x005A0000#32 h) ∧ ok (cmd 0 1 1) (.nopCommand 0) (fun h => resp 0x035A0000#32 h)) ∧
    (ok (cmd 1 0xABCD 0) (.ping 0) (fun h => resp 0x005AABCD#32 h)) ∧
    (ok (cmd 1 5 1 [(Addr.BIND 1, 0#32)]) (.ping 0) (fun h => lg 6 (cmd 1 5 1) h && !h.mbFull 0 && !h.inflight 0)) ∧
    (ok (cmd 0x11 0 3) (.arm 0) (fun h => resp 0x015A0003#32 h && h.fld Addr.SYS_CMD_REJECT 0 16 == 1)) ∧
    (ok (rdy 0x11 2 3) (.arm 0) (fun h => resp 0x035A0000#32 h && h.mode == .idle) ∧ ok (cmd 0x11 0 1) (.arm 0) (fun h => resp 0x015A0001#32 h)) ∧
    (ok (rdy 0x11 0 0) (.arm 0) (fun h => resp 0x0C5A0000#32 h && h.mode == .idle)) ∧
    (ok (rdy 0x11 1 0) (.arm 0) (fun h => resp 0x005A0000#32 h && h.mode == .idle && h.sys.modeNext == some (.armed, 80 * nsU) && h.bit Addr.INRUSH_PEND 19 && h.bit Addr.SYS_MODE 3)) ∧
    (waits (rdy 0x11 0 1) 0x11 0 ∧ ok (rdy 0x11 0 1) (.arm 0) (fun h => resp 0x005A0000#32 h && h.mode == .idle && h.sys.modeNext == some (.armed, 80 * nsU))) ∧
    (ok (cmd 0x13 0 1) (.stop 0) (fun h => resp 0x015A0001#32 h)) ∧
    (ok (cmd 0x13 0xFFFF 4) (.stop 0) (fun h => resp 0x005A0001#32 h && h.sys.stopAt == some (80 * nsU) && h.bit Addr.SYS_MODE 3 && h.mode == .shadow)) ∧
    (ok (sl 0x13 3 (wt 1000000)) (.stop 0) (fun h => resp 0x005A0001#32 h && h.sys.stopAt == some (1000000 * nsU) && h.rd Addr.SYS_STOP_TIME0 == kxWord (1000000 * nsU) 0)) ∧
    (ok (sl 0x13 3 (wt 999920)) (.stop 0) (fun h => resp 0x0C5A0000#32 h && h.sys.stopAt.isNone) ∧ ok (sl 0x13 3 (wt 1000001)) (.stop 0) (fun h => resp 0x035A0000#32 h && h.sys.stopAt.isNone)) ∧
    (ok (cmd 0x13 0xFFFF 2 [(Addr.ALM_STATUS 15, 0x100#32)] fun h => { h with lan.alarms := [(15, { target := 1 })] }) (.stop 0) (fun h => resp 0x005A0000#32 h && h.mode == .armed && h.sys.stopAt == some (80 * nsU) && h.bit Addr.SYS_MODE 3 && !h.armed 15)) ∧
    (ok (cmd 0x14 0 0) (.abort 0) (fun h => resp 0x015A0000#32 h) ∧ ok (cmd 0x14 0 1) (.abort 0) (fun h => resp 0x005A0000#32 h)) ∧
    (ok (cmd 0x14 0 3) (.abort 0) (fun h => resp 0x005A0001#32 h && h.sys.stopAt == some (80 * nsU)) ∧ ok (cmd 0x14 0 5) (.abort 0) (fun h => resp 0x005A0000#32 h && h.sys.stopAt == some (80 * nsU))) ∧
    (ok (cmd 0x14 0 2) (.abort 0) (fun h => resp 0x005A0000#32 h && h.mode == .armed && h.sys.stopAt == some (80 * nsU))) ∧
    (ok (st 5 [] fun h => { h with sys.stopAt := some 0 }) .stopFrame (fun h => h.mode == .idle && h.sys.stopAt.isNone)) ∧
    (same (st 5 [] fun h => { h with sys.stopAt := some 1 }) .stopFrame) ∧
    (ok (cmd 0x21 0 1) (.trimHold 0) (fun h => resp 0x005A0000#32 h && h.bit Addr.CALC_STATUS 1)) ∧
    (ok (cmd 0x22 0 1 [(Addr.CALC_STATUS, 2#32)]) (.trimRelease 0) (fun h => resp 0x005A0000#32 h && !h.bit Addr.CALC_STATUS 1)) ∧
    (waits (cmd 2 255 3) 2 255 ∧ ok (cmd 2 255 3 [(Addr.FIRST_ERR, 0x80000000#32), (Addr.TIME_STATE, 4#32)]) (.status 0) (fun h => bitsOf (h.rd (Addr.MB_PEEK 1)) 0 9 == 11 &&
        (h.rd (Addr.MB_PEEK 1)).getLsbD 10 && h.domeWord (65280 + 8) == h.selStatus 0 && bitsOf (h.domeWord 65280) 0 3 == 3)) ∧
    (ok (cmd 2 256 1) (.status 0) (resp 0x035A0000#32)) ∧
    (waits (strt 2 10000000) 0x12 255 ∧ ok (sl 0x12 1 (wt 10000000)) (.start 0) (fun h => resp 0x015A0001#32 h) ∧ ok (strt 2 10000001) (.start 0) (fun h => resp 0x035A0000#32 h) ∧
        ok (cmd 0x12 256 2) (.start 0) (fun h => resp 0x035A0000#32 h)) ∧
    (ok (strt 2 9999920) (.start 0) (fun h => resp 0x0C5A0000#32 h && !h.armed 15) ∧ ok (due2 (strt 2 10000000)) (.start 0) (fun h => resp 0x025A0000#32 h)) ∧
    (ok (strt 2 10000000) (.start 0) (fun h => resp 0x005A0000#32 h && h.mode == .armed && h.armed 15 &&
        SMap.get {} h.lan.alarms 15 == { target := 10000000 * nsU, per := 0, action := 8, capmask := h.rd (Addr.ALM_CAPMASK 15) })) ∧
    (waits (due2 (cmd 0x13 0xFFFF 2)) 0x13 0xFFFF ∧ (due2 (cmd 0x13 0xFFFF 2)).hub.armed 15 ∧
        (SMap.get {} (due2 (cmd 0x13 0xFFFF 2)).hub.lan.alarms 15).target ≤ (due2 (cmd 0x13 0xFFFF 2)).hub.timeAt 0 ∧
        (SMap.get {} (due2 (cmd 0x13 0xFFFF 2)).hub.lan.alarms 15).action.testBit 3) ∧
    (waits (due2 (cmd 0x14 0 2)) 0x14 0 ∧ (due2 (cmd 0x14 0 2)).hub.armed 15 ∧
        (SMap.get {} (due2 (cmd 0x14 0 2)).hub.lan.alarms 15).target ≤ (due2 (cmd 0x14 0 2)).hub.timeAt 0) ∧
    (ok (cmd 0x14 1 1) (.abort 0) (resp 0x035A0000#32) ∧ ok (cmd 0x21 1 1) (.trimHold 0) (resp 0x035A0000#32) ∧ ok (cmd 0x22 1 1) (.trimRelease 0) (resp 0x035A0000#32) ∧
        ok (cmd 0x40 2 1) (.serviceEnter 0) (resp 0x035A0000#32) ∧ ok (cmd 0x41 1 5) (.serviceExit 0) (resp 0x035A0000#32)) ∧
    (ok (cmd 0x20 0 0) (.trimNow 0) (resp 0x015A0000#32) ∧ ok (cmd 0x20 16 1) (.trimNow 0) (resp 0x035A0000#32)) ∧
    (ok (cmd 0x20 15 1) (.trimNow 0) (fun h => resp 0x005A0000#32 h && h.trimState 15 == trimPENDING && h.fld (Addr.TRIM_STATUS 15) 2 3 == 4 && h.bit Addr.CALC_TRIM_PEND 15)) ∧
    (ok (cmd 0x20 15 1 [(Addr.TRIM_STATUS 15, wd trimPENDING)]) (.trimNow 0) (fun h => resp 0x005A0000#32 h && h.trimState 15 == trimPENDING && h.fld (Addr.TRIM_STATUS 15) 2 3 == 4)) ∧
    (ok (cmd 0x20 15 1 [(Addr.TRIM_STATUS 15, wd trimACTIVE)]) (.trimNow 0) (fun h => resp 0x005A0000#32 h && h.trimState 15 == trimACTIVE && (h.spire 15).trimNow)) ∧
    (ok (cmd 0x20 15 1 [(Addr.TRIM_STATUS 15, wd trimISSUED)]) (.trimNow 0) (fun h => resp 0x005A0000#32 h && h.trimState 15 == trimISSUED && !(h.spire 15).trimNow)) := by
  decide +kernel

def pr (op arg m x : Nat) (v : Nat := 0xFF00) (l : List (Nat × Word) := []) (f : Hub → Hub := id) : State :=
  cmd op arg m ([(Addr.SEL_CFG, 0x10007#32), (Addr.SEL_WARDEN, 0x200#32), (Addr.SEL_STATUS, wd (x + v)), (Addr.TIME_STATE, 1#32), (Addr.CALC_STATUS, 1#32),
    (Addr.SPAN_CFG, 257#32), (Addr.LANE_CFG 3, 3#32), (Addr.LANE_STATUS 3, 5#32)] ++ l) fun h => f { h.setLane 3 { cfg := 3#32 } with sel.lastHb := some 0 }

/-- Meets the hypotheses of CommandsOfModesAndRuns. -/
theorem test_commands_of_pairs_and_resets :
    (ok (pr 0x30 0 3 1) (.promote 0) (fun h => resp 0x015A0003#32 h) ∧ ok (cmd 0x30 0 1) (.promote 0) (fun h => resp 0x015A0001#32 h) ∧ ok (pr 0x30 0 1 3) (.promote 0) (fun h => resp 0x015A0001#32 h)) ∧
    (ok (pr 0x30 0 1 2) (.promote 0) (fun h => resp 0x025A0000#32 h)) ∧
    ((pr 0x30 0 1 1).hub.bothLocked ∧ (pr 0x30 0 1 1).hub.pairBusy = false ∧ waits (pr 0x30 0 1 1) 0x30 0) ∧
    (ok (pr 0x31 0 4 3) (.demote 0) (fun h => resp 0x015A0004#32 h) ∧ ok (cmd 0x31 0 1) (.demote 0) (fun h => resp 0x015A0001#32 h) ∧ ok (pr 0x31 0 1 1) (.demote 0) (fun h => resp 0x015A0001#32 h)) ∧
    (ok (pr 0x31 0 1 3 0xFF00 [] fun h => { h with sel.hand := some { claimant := true } }) (.demote 0) (fun h => resp 0x025A0000#32 h)) ∧
    (ok (pr 0x31 0 1 3) (.demote 0) (fun h => resp 0x005A0000#32 h && h.selState == selACTIVE && h.sel.hand == some { claimant := false } && h.pairBusy && mails 6 h == [(mHANDOVER, 2, instWords 0 ++ [0#32])])) ∧
    (ok (pr 0x31 0 3 3 0xE700) (.demote 0) (fun h => resp 0x005A0000#32 h && h.selState == selFENCED && h.bit Addr.SYS_MODE 3 && h.actOut == .low && h.sel.hand.isNone)) ∧
    (ok (pr 0x32 2 1 1) (.setPreferred 0) (fun h => resp 0x035A0000#32 h) ∧ ok (cmd 0x32 1 1) (.setPreferred 0) (fun h => resp 0x025A0000#32 h)) ∧
    (ok (pr 0x32 0 1 1) (.setPreferred 0) (fun h => resp 0x005A0000#32 h && h.bit Addr.SEL_CFG 17 && h.sel.tellRole) ∧ ok (pr 0x32 1 1 1) (.setPreferred 0) (fun h => !h.bit Addr.SEL_CFG 17)) ∧
    (ok (cmd 0x40 0 3) (.serviceEnter 0) (fun h => resp 0x015A0003#32 h) ∧ ok (cmd 0x40 1 1) (.serviceEnter 0) (fun h => resp 0x015A0001#32 h)) ∧
    (ok (cmd 0x40 0 1) (.serviceEnter 0) (fun h => resp 0x005A0000#32 h && h.mode == .idle && h.sys.modeNext == some (.service, 80 * nsU) && h.bit Addr.SYS_MODE 3)) ∧
    (ok (pr 0x40 0 1 2) (.serviceEnter 0) (fun h => resp 0x005A0000#32 h && h.sys.modeNext == some (.service, 80 * nsU) && h.selState == selCLAIMING)) ∧
    (ok (rdy 0x40 1 1) (.serviceEnter 0) (fun h => resp 0x005A0000#32 h && h.mode == .idle && h.sys.modeNext == some (.service, 80 * nsU) && h.sys.serviceStart && h.armed 15 &&
        SMap.get {} h.lan.alarms 15 == { target := 10000000 * nsU, per := 0, action := 8, capmask := h.rd (Addr.ALM_CAPMASK 15) })) ∧
    (ok (cmd 0x41 0 5) (.serviceExit 0) (fun h => resp 0x005A0000#32 h && h.mode == .service && h.sys.stopAt == some (80 * nsU) && h.bit Addr.SYS_MODE 3) ∧ ok (cmd 0x41 0 1) (.serviceExit 0) (fun h => resp 0x015A0001#32 h)) ∧
    (ok (cmd 0x71 0xA501 0) (.hubReset 0) (fun h => resp 0x015A0000#32 h) ∧ ok (cmd 0x71 0xA500 0) (.hubReset 0) (fun h => resp 0x005A0000#32 h && h.sys.resets == [{ kind := .hub, ch := 0, posted := some 0 }])) ∧
    (ok (cmd 0x71 0xA543 1) (.hubReset 0) (fun h => resp 0x035A0000#32 h) ∧ ok (cmd 0x71 0xA533 1) (.hubReset 0) (fun h => resp 0x005A0000#32 h && h.sys.resets == [{ kind := .lane 3, ch := 0, posted := some 0 }])) ∧
    (ok (cmd 0x71 0xA5F2 1) (.hubReset 0) (fun h => h.sys.resets.map (·.kind) == [.spire 15]) ∧ ok (cmd 0x71 0xA5F2 1 [] fun h => { h with sys.resets := [{ kind := .hub, ch := 2 }] }) (.hubReset 0)
        (fun h => resp 0x005A0000#32 h && h.sys.resets == [{ kind := .hub, ch := 2 }, { kind := .spire 15, ch := 0, posted := some 0 }])) ∧
    (ok (pr 0x30 1 1 2) (.promote 0) (resp 0x035A0000#32) ∧ ok (pr 0x31 1 1 3) (.demote 0) (resp 0x035A0000#32)) ∧
    ((pr 0x30 0 1 1).hub.health 0 = 31 ∧ ok (pr 0x30 0 1 1) (.promote 0) (fun h => resp 0x005A0000#32 h && h.sel.hand == some { claimant := true })) ∧
    (ok (pr 0x30 0 1 1 0xFF00 [(Addr.CALC_STATUS, 0#32)]) (.promote 0) (fun h => resp 0x015A0001#32 h && h.sel.hand.isNone)) ∧
    ((pr 0x31 0 1 3).hub.fld Addr.SEL_STATUS 8 5 = 31 ∧ ok (cmd 0x71 0xA501 1) (.hubReset 0) (fun h => h.sys.resets.map (·.kind) == [.belfry])) ∧
    ((pr 0x30 0 1 1 0xFF00 [] fun h => { h with sel.noVer := true }).hub.mayClaim 0 = false ∧ ok (pr 0x30 0 1 1 0xFF00 [] fun h => { h with sel.noVer := true }) (.promote 0) (fun h => resp 0x015A0001#32 h && h.sel.hand.isNone)) ∧
    (ok (pr 0x31 0 1 1 0xFF00 [] fun h => { h with sel.hand := some { claimant := true } }) (.demote 0) (fun h => resp 0x015A0001#32 h)) := by
  decide +kernel

def sag (x : Nat) (l : List (Nat × Word) := []) (f : Hub → Hub := id) : State := st 1 ((Addr.SAG_STATUS, wd x) :: l) f 10000

/-- A hub whose HUB_RESET of `k` is due, with lane 3 up. -/
def dly (k : ResetKind) (f : Hub → Hub := id) : State := ln 3 sACTIVE {} [] (fun h => f { h with sys.resets := [{ kind := k, ch := 0, posted := some 0 }, { kind := .hub, ch := 2 }] }) 1 1000000

/-- Meets the hypotheses of SagTestBlockAndResetsEnding. -/
theorem test_sag_and_resets_ending :
    (ok (sag 1 [(Addr.SAG_TRIP_CNT 2, 65535#32)]) (.sagTrip 3) (fun h => h.sagLevel == 3 && h.rd Addr.CLK_THROTTLE_NOW == 0xFE#32 && h.fld Addr.SAG_MAX 0 2 == 3 && h.rd (Addr.SAG_TRIP_CNT 2) == 65535#32 &&
        h.rd Addr.SAG_LAST0 == kxWord (10000 * nsU) 0 && h.sag.since == 10000 * nsU && lg 22 (sag 1) h)) ∧
    (same (sag 3) (.sagTrip 3) ∧ same (sag 3) (.sagTrip 1)) ∧
    (ok (sag 3) (.sagLevelLeave 0) (fun h => h.sagLevel == 0 && h.rd Addr.CLK_THROTTLE_NOW == 0#32) fun a => a == Addr.SAG_STATUS || a == Addr.CLK_THROTTLE_NOW || a == Addr.CLK_THROTTLE_MAX) ∧
    (same (sag 3 [] fun h => { h with sag.since := 1 }) (.sagLevelLeave 0) ∧ same (sag 3 [(Addr.TP_SAG, 5#32)]) (.sagLevelLeave 0) ∧ same (sag 2) (.sagLevelLeave 2)) ∧
    (ok (sag 3 [(Addr.TP_SAG, 5#32)]) (.sagLevelLeave 1) (fun h => h.sagLevel == 1)) ∧
    (same (st 1 [] (fun h => h.modSpire 15 fun x => { x with inReset := true }) 79999) (.spireResetEnd 15) ∧ same (st 1 [] id 80000) (.spireResetEnd 15)) ∧
    (ok (st 1 [] (fun h => h.modSpire 15 fun x => { x with inReset := true }) 80000) (.spireResetEnd 15) (fun h => !(h.spire 15).inReset) fun _ => false) ∧
    (same (ln 3 sDISABLED) (.laneResetEnd 3)) ∧
    (same (ln 3 sDISABLED { inReset := true } [] id 1 999999) (.laneResetEnd 3)) ∧
    (ok (ln 3 sDISABLED { inReset := true } [] id 1 1000000) (.laneResetEnd 3) (fun h => h.stageOf 3 == sDETECT && !(h.lane 3).inReset && h.bit (Addr.MOD_STATUS 3) 2) pins3) ∧
    (ok (ln 2 sDISABLED { inReset := true } [] id 1 1000000) (.laneResetEnd 3) (fun h => h.stageOf 3 == sDISABLED) pins3) ∧
    (ok (dly .belfry) .resetDelayExpiry (fun h => h.ctl.belfryHeld && h.sys.resets.isEmpty && lg 27 (dly .belfry) h == false)) ∧
    (ok { dly .belfry with hub := (dly .belfry).hub.wr Addr.SYS_BOOT_STATUS 0#32 } .resetDelayExpiry (fun h => h.sys.resets == [{ kind := .hub, ch := 2 }] && h.ctl.restartLog == [(27, 0#32)] && !h.ctl.belfryHeld) fun _ => false) ∧
    (ok (dly (.spire 15) fun h => h.modSpire 15 fun x => { x with injQ := [{ who := .ext 5, node := 3, hold := 9 }] }) .resetDelayExpiry (fun h => (h.spire 15).inReset && (h.spire 15).injQ.isEmpty &&
        h.sys.resets == [{ kind := .hub, ch := 2 }])) ∧
    (ok (dly (.lane 3)) .resetDelayExpiry (fun h => h.stageOf 3 == sDISABLED && (h.lane 3).inReset && (h.lane 3).stageAt == 65536000000 && h.rd (Addr.LANE_CFG 3) == 3#32 && h.sys.resets == [{ kind := .hub, ch := 2 }])) ∧
    (same { dly .belfry with raw := 65535934464#80 } .resetDelayExpiry ∧ same (ln 3 sACTIVE) .resetDelayExpiry) := by
  decide +kernel

def tp (m : Nat) (l : List (Nat × Word) := []) (f : Hub → Hub := id) : State := st m l f 1000000
def arm (x : Option (Nat × Nat)) (m : Nat := 3) : State := tp m [(Addr.TP_STATUS, 0x100#32), (Addr.TP_SAG, 5#32)] fun h => { h with tpStep := x }
def used (s : State) (a : Nat) (v : Word) (h : Hub) : Bool := h.rd a == v && h.fld Addr.TP_STATUS 8 8 == 0 && h.rd Addr.TP_USE_CNT == 1#32 && lg 23 s h
def useReg (a x : Nat) : Bool := x == a || x == Addr.TP_STATUS || x == Addr.TP_USE_CNT || inLog x
def refused (s : State) (c : Instr) (x : Nat) : Bool := ok s c (fun h => h.fld Addr.TP_STATUS 8 8 == x && lg 1 s h) fun a => a == Addr.TP_STATUS || inLog a
def armed : State := tp 3 [(Addr.TP_STATUS, 1#32)]

/-- Meets the hypotheses of SagTestBlockAndResetsEnding. -/
theorem test_perturbations_are_armed_and_used :
    (may (arm none) 5 Addr.TP_ARM ∧ ok (arm none) (.tpArm 5 0#32) (fun h => !h.bit Addr.TP_SAG 2 && h.fld Addr.TP_STATUS 8 8 == 0) fun a => a == Addr.TP_STATUS || a == Addr.TP_SAG) ∧
    (ok (arm none) (.tpArm 5 0x5450#32) (fun h => h.tpStep == some (5, 65536000000) && !h.tpArmed && h.fld Addr.TP_STATUS 8 8 == 0) fun a => a == Addr.TP_STATUS) ∧
    (ok (arm (some (5, 0))) (.tpArm 5 0x4152#32) (fun h => h.tpArmed && h.tpStep.isNone && h.fld Addr.TP_STATUS 8 8 == 0) fun a => a == Addr.TP_STATUS) ∧
    (ok { arm (some (5, 0)) with raw := 65536000001#80 } (.tpArm 5 0x4152#32) (fun h => !h.tpArmed && h.fld Addr.TP_STATUS 8 8 == 1) fun a => a == Addr.TP_STATUS) ∧
    (ok (arm (some (8, 0))) (.tpArm 5 0x4152#32) (fun h => !h.tpArmed && h.tpStep.isNone && h.fld Addr.TP_STATUS 8 8 == 1) fun a => a == Addr.TP_STATUS) ∧
    (ok (arm none 1) (.tpArm 5 0x5450#32) (fun h => h.tpStep.isNone && h.fld Addr.TP_STATUS 8 8 == 1) ∧ ok (arm none) (.tpArm 5 0x4152#32) (fun h => h.fld Addr.TP_STATUS 8 8 == 1)) ∧
    (may (tp 5) 5 Addr.TP_XDELAY ∧ ok (tp 5) (.tpXdelay 5 0x12A#32) (used (tp 5) Addr.TP_XDELAY 0x1012A#32) (useReg Addr.TP_XDELAY)) ∧
    (refused (tp 5) (.tpXdelay 5 0x12B#32) 3 ∧ refused (tp 5) (.tpXdelay 5 0x2A#32) 3 ∧ refused armed (.tpXdelay 5 0x12A#32) 1) ∧
    (may armed 5 Addr.TP_STARVE ∧ ok armed (.tpStarve 5 0x10001#32) (used armed Addr.TP_STARVE 0x10801#32) (useReg Addr.TP_STARVE) ∧ refused armed (.tpStarve 5 1#32) 3 ∧ refused armed (.tpStarve 5 0x10008#32) 1) ∧
    (may armed 5 Addr.TP_ACKHOLD ∧ ok armed (.tpAckhold 5 1000#32) (used armed Addr.TP_ACKHOLD 0x203E8#32) (useReg Addr.TP_ACKHOLD) ∧ refused armed (.tpAckhold 5 1001#32) 3 ∧ refused (tp 3) (.tpAckhold 5 1000#32) 1) ∧
    (may armed 5 Addr.TP_DROP ∧ ok armed (.tpDrop 5 0x40#32) (used armed Addr.TP_DROP 0x1000040#32) (useReg Addr.TP_DROP) ∧ refused armed (.tpDrop 5 0x10#32) 1 ∧ ok (tp 5) (.tpDrop 5 0x10#32) (used armed Addr.TP_DROP 0x1000010#32)) ∧
    (may armed 5 Addr.TP_TJIT ∧ ok (tp 5) (.tpTjit 5 0x10#32) (used (tp 5) Addr.TP_TJIT 0x1010#32) (useReg Addr.TP_TJIT) ∧ refused (tp 5) (.tpTjit 5 0xF#32) 3 ∧ refused armed (.tpTjit 5 0x10#32) 1) ∧
    (may armed 5 Addr.TP_SKEW ∧ ok (tp 5) (.tpSkew 5 0x50#32) (used (tp 5) Addr.TP_SKEW 0xD0#32) (useReg Addr.TP_SKEW) ∧ refused (tp 5) (.tpSkew 5 0x60#32) 3) ∧
    (may armed 5 Addr.TP_SAG ∧ ok (tp 5 [(Addr.SAG_STATUS, 2#32)]) (.tpSag 5 2#32) (used (tp 5) Addr.TP_SAG 6#32) (useReg Addr.TP_SAG) ∧ refused (tp 5) (.tpSag 5 0#32) 3 ∧ refused armed (.tpSag 5 1#32) 1) ∧
    (ok (tp 5 [(Addr.SAG_STATUS, 2#32)]) (.tpSag 5 3#32) (fun h => used (tp 5) Addr.TP_SAG 7#32 h && h.sagLevel == 3 && lg 22 (tp 5) h)) ∧
    (may armed 5 Addr.TP_SWAPFAIL ∧ ok (tp 5 [(Addr.TP_SWAPFAIL, 1#32)]) (.tpSwapfail 5 0x18000#32) (used (tp 5) Addr.TP_SWAPFAIL 0x58000#32) (useReg Addr.TP_SWAPFAIL) ∧
        refused (tp 5 [(Addr.TP_SWAPFAIL, 1#32)]) (.tpSwapfail 5 0x38000#32) 3) ∧
    (ok (tp 5) (.tpSwapfail 5 0x10000#32) (fun h => !h.bit Addr.TP_SWAPFAIL 18)) ∧
    (may armed 5 Addr.TP_PAR_CTRL ∧ ok (tp 5 [(Addr.TP_PAR_ADDR, 0x120000#32)]) (.inject 5 1#32) (fun h => h.poisoned 0x120007 && !h.poisoned 0x120008 && used (tp 5) Addr.TP_PAR_ADDR 0x120000#32 h)) ∧
    (refused (tp 3 [(Addr.TP_STATUS, 1#32), (Addr.TP_PAR_ADDR, 0x120000#32)]) (.inject 5 1#32) 1) ∧
    (ok (tp 3 [(Addr.TP_STATUS, 1#32), (Addr.TP_PAR_ADDR, 0x1FFFFF8#32)] fun h => { h with badParity := [0x3FFFFF] }) (.inject 5 1#32) (fun h => !h.poisoned 0x1FFFFFF)) ∧
    (same (tp 3 [(Addr.TP_STARVE, 0x03E90FFF#32)]) .starveEnd ∧ same (tp 3 [(Addr.TP_STARVE, 0x000107FF#32)]) .starveEnd) ∧
    (ok (tp 3 [(Addr.TP_STARVE, 0x03E80FFF#32)]) .starveEnd (fun h => !h.bit Addr.TP_STARVE 11) fun a => a == Addr.TP_STARVE) ∧
    (same (tp 3) .ackholdRelease ∧ same (tp 3 [(Addr.TP_ACKHOLD, 2#32)] fun h => { h with led.held := [(0, 700, 5, false, 0)] }) .ackholdRelease) ∧
    (ok (tp 3 [(Addr.TP_ACKHOLD, 1#32)] fun h => { h.modStream 700 fun x => { x with prod := 9 } with led.held := [(0, 700, 5, false, 0), (1, 2, 3, true, 4)] }) .ackholdRelease (fun h =>
        (h.stream 700).ack == 5 && h.led.held == [(1, 2, 3, true, 4)]) fun _ => false) ∧
    (ok (arm none) (.tpArm 5 0#32) (fun h => h.tpOffNow 65536000000) ∧ refused { tp 5 with hub := { (tp 5).hub with tpOffAt := some 65536000000 } } (.tpXdelay 5 0x12A#32) 1 ∧
        { (tp 5).hub with tpOffAt := some 65535999999 }.tpOffNow 65536000000 = false) ∧
    (refused (tp 5) (.registerWrite 5 (wd Addr.TP_XDELAY) .word 0x2B#32) 3 ∧ ok (tp 5) (.registerWrite 5 (wd Addr.TP_XDELAY) .word 0x12A#32)
        (fun h => h.rd Addr.TP_XDELAY == 0x12A#32 && h.fld Addr.TP_STATUS 8 8 == 0) fun a => a == Addr.TP_XDELAY || a == Addr.TP_STATUS) := by
  decide +kernel

def okCode (i : Int → Instr) : Bool := (i 32767).wf && (i (-32768)).wf && !(i 32768).wf && !(i (-32769)).wf
def badAck (m : AckMsg) : Bool := !(Instr.ack m).wf && !(Instr.nack m).wf
def badPtp (m : PtpHead) : Bool :=
  !(Instr.announce m (ds [])).wf && !(Instr.ptpSync m true).wf && !(Instr.followUp m 0).wf && !(Instr.delayResp m 0 0).wf
def solved (n : Nat) : SolveRun := { ofs := 0, gain := 0, inl := 0, coef := List.replicate n 0#32 }
def calOf (a b : Nat) : Instr := .bootCalComplete { refs := [], slices := [(0, 0, solved a, solved b)], table := [], vals := [] }

/-- Each check of WellFormed refuses a term, and takes one at the bound of its range. -/
theorem test_ill_formed_operands_are_refused :
    (okCode (.chargeResetAuto 0 0) ∧ okCode (.rawCodeConvert 0 0 0 · none) ∧ okCode (fun c => .rawCodeConvert 0 0 0 0 (some (c, 0))) ∧
        okCode fun c => .rawCodeConvert 0 0 0 0 (some (0, c))) ∧
    ((Instr.internalInjRequest 0 (.probe 31) 0).wf ∧ (Instr.internalInjRequest 0 (.probe 32) 0).wf = false ∧ (Instr.internalInjRequest 0 (.ctest 31) 0).wf ∧
        (Instr.internalInjRequest 0 (.ctest 32) 0).wf = false ∧ (Instr.internalInjRequest 0 (.ext 0) 0).wf = false) ∧
    ((Instr.sliceCalComplete 0 0 0 0 (List.replicate 31 0#32)).wf = false ∧ (Instr.trimEnd 0 ⟨[], 0#32, 0#32, 0#32⟩).wf = false ∧ (Instr.trimEnd 0 ⟨List.replicate 32 (0#32, 0#32, 0#32), 0#32, 0#32, 0#32⟩).wf) ∧
    ((calOf 32 32).wf ∧ (calOf 31 32).wf = false ∧ (calOf 32 33).wf = false) ∧
    (badAck { pairId := 0, epoch := 0, entries := [] } ∧ badAck { pairId := 65536, epoch := 0, entries := [(0, 0)] } ∧ badAck { pairId := 0, epoch := 2 ^ 32, entries := [(0, 0)] } ∧
        badAck { ver := 16, pairId := 0, epoch := 0, entries := [(0, 0)] } ∧ badAck { pairId := 0, epoch := 0, entries := [(1024, 0)] } ∧ badAck { pairId := 0, epoch := 0, entries := [(0, 2 ^ 48)] } ∧
        badAck { pairId := 0, epoch := 0, entries := List.replicate 256 (0, 0) } ∧ (Instr.ack { pairId := 65535, epoch := 2 ^ 32 - 1, entries := [(1023, 2 ^ 48 - 1)] }).wf) ∧
    (badPtp { hd 256 with seq := 0 } ∧ badPtp { hd 0 with ver := 16 } ∧ badPtp { hd 0 with seq := 65536 } ∧ (Instr.ptpSync (hd 255) true).wf) ∧
    ((Instr.ddmPoll 0 (some [65535])).wf ∧ (Instr.ddmPoll 0 (some [65536])).wf = false ∧ (Instr.modAccComplete 0 (some 255)).wf ∧ (Instr.modAccComplete 0 (some 256)).wf = false) ∧
    ((Instr.eyePointDone 0 (2 ^ 64 - 1)).wf ∧ (Instr.eyePointDone 0 (2 ^ 64)).wf = false ∧ Instr.spiNop.wf) := by
  decide +kernel

/-- Meets the hypotheses of DecodedWordsOfTheSpec. -/
theorem test_words_of_the_spec_decode :
    (decodeWord 0x04E3C000#32 = some (.add 3 8 15) ∧ decodeWord 0x3D7C0020#32 = some (.addi 5 15 32)) ∧
    (decodeWord 0x793FFFF8#32 = some (.loop 4 (-8)) ∧ decodeWord 0x9700B801#32 = some (.emit 6 1 (.indirect 7))) ∧
    (decodeWord 0xFFFFFFFF#32 = none ∧ decodeWord 0xD8000001#32 = none) ∧
    (decodeTableWord 32 0x04E3C000 = none) := by
  decide +kernel

/-- The hub as LOAD_PLAN finds it, and the image. -/
def planHub : Hub := ((pl good).hub.mbTake 0 belfry).2.setInflight 0 true
def imageAt (h : Hub) (a n : Nat) : PlanImage :=
  bufferImage (h.loadBuffer a n).sys.planBuf
def planImg : PlanImage := imageAt planHub 0x120000 208
def planFinal : Hub := forN 256 (fun c h => h.clearWindow c) planHub

theorem plan_header : planHub.planPlaced 0x120000 208 = true ∧ decide ((planImg.w 0).toNat = 0x4E414C50) = true ∧
    ((planImg.w 4).toNat = 2 && decide (bitsOf (planImg.w 0xC) 0 16 ≤ 0x0302)) = true := by
  decide +kernel

theorem plan_sections : planImg.tableOk = true ∧ planImg.sz 0 = 0 ∧ planImg.sz 3 = 0 ∧ planImg.sz 5 = 0 ∧
    planImg.codeBlocks 4 (planImg.off 1) = some [(0xA4, 0), (0xAC, 0), (0xB4, 0), (0xBC, 0)] ∧
    planImg.off 2 + planImg.sz 2 ≤ planImg.off 2 ∧ (planImg.w (planImg.off 4)).toNat = 0 ∧
    planImg.w (planImg.off 4 + 4) = 0#32 := by
  decide +kernel

theorem plan_owner : planHub.sys.otpOwner.all (· == 0#32) = true := by decide +kernel

theorem plan_contexts : planFinal.usedCtxs = [] := by decide +kernel

theorem plan_periods : ((List.range 512).all fun g =>
    !(bitsOf (planFinal.rd (Addr.FE_CFG (g / 32) (g % 32))) 9 2 = 2 &&
      bitsOf (planFinal.rd (Addr.FE_AUX (g / 32) (g % 32))) 6 16 = 0)) = true := by
  decide +kernel

theorem plan_units : planFinal.planUnits = [] := by decide +kernel

theorem plan_streams : planFinal.streamsOk [] [] = true ∧ planFinal.plainStreams [] [] = [] := by decide +kernel

theorem plan_outs : planFinal.outStreams = [] ∧ planFinal.inPorts = [] := by decide +kernel

theorem plan_channels : planFinal.channelsOk = true := by decide +kernel

theorem plan_rest : ((List.range 16).all fun n => planFinal.reversalStatus n = OK) = true ∧
    ((List.range 512).all fun g => !planFinal.bit (Addr.SEN_CFG (g / 32) (g % 32)) 0) = true ∧
    decide ((planFinal.rd Addr.SYS_DOME_STAGE_BASE).toNat ≤ (planFinal.rd Addr.SYS_DOME_DATA_BASE).toNat) = true ∧
    planFinal.uplinkLimit = 7200 := by
  decide +kernel

theorem image_of (h : Hub) (a n : Nat) (s : Bool)
    (c1 : h.planPlaced a n = true)
    (c2 : decide (((imageAt h a n).w 0).toNat = 0x4E414C50) = true)
    (c3 : (((imageAt h a n).w 4).toNat = 2 && decide (bitsOf ((imageAt h a n).w 0xC) 0 16 ≤ 0x0302)) = true)
    (c4 : (imageAt h a n).tableOk = true) (c5 : (imageAt h a n).signed h.sys.otpOwner = some s) :
    h.planImage a n = .ok (imageAt h a n, s) := by
  unfold Hub.planImage
  change (do
    need (h.planPlaced a n) ESIZE
    need (((imageAt h a n).w 0).toNat = 0x4E414C50) ESIG
    need (((imageAt h a n).w 4).toNat = 2 && decide (bitsOf ((imageAt h a n).w 0xC) 0 16 ≤ 0x0302)) EVERSION
    need (imageAt h a n).tableOk ESIZE
    match (imageAt h a n).signed h.sys.otpOwner with
    | some s => pure (imageAt h a n, s)
    | none => .error (ESIG, noRec) : Except PlanFault (PlanImage × Bool)) = _
  rw [c1, c2, c3, c4, c5]
  rfl

theorem plan_image : planHub.planImage 0x120000 208 = .ok (planImg, false) := by
  refine image_of planHub 0x120000 208 false plan_header.1 plan_header.2.1 plan_header.2.2 plan_sections.1 ?_
  have c : planImg.signed planHub.sys.otpOwner = some false := by
    simp only [PlanImage.signed, plan_sections.2.2.2.1, plan_owner, if_true]
  exact c

theorem plan_setup : planImg.setupHub planHub = .ok planFinal := by
  obtain ⟨-, c, -⟩ := plan_sections
  have e : planImg.setups = [] := by simp [PlanImage.setups, c]
  have p := plan_periods
  have d : forN 256 (fun c h => h.clearWindow c) planHub = planFinal := by with_reducible_and_instances unfold planFinal; rfl
  unfold PlanImage.setupHub
  rw [e, c, d]
  generalize planFinal = f at p ⊢
  simp only [List.filter_nil, List.foldlM_nil, pure_bind]
  rw [p]
  rfl

theorem needs_of (f : Nat → Nat) (l : List Nat) (r : l.all (fun n => f n = OK) = true) :
    l.forM (fun n => need (f n = OK) (f n)) = (.ok () : Except PlanFault Unit) := by
  induction l with
  | nil => rfl
  | cons x t ih =>
    simp only [List.all_cons, Bool.and_eq_true, decide_eq_true_eq] at r
    show (do need (f x = OK) (f x); t.forM (fun n => need (f n = OK) (f n)) : Except PlanFault Unit) = _
    rw [r.1]
    exact ih r.2

theorem bindings_of (h : Hub) (b : Budget) (c : h.usedCtxs = []) (o : h.outStreams = []) (u : h.planUnits = []) (s : h.streamsOk [] [] = true)
    (g : h.channelsOk = true) (r : ((List.range 16).all fun n => h.reversalStatus n = OK) = true)
    (n : ((List.range 512).all fun g => !h.bit (Addr.SEN_CFG (g / 32) (g % 32)) 0) = true) : h.bindings b = .ok () := by
  have k : h.capStreams = [] := by simp [Hub.capStreams, u]
  have n' : ((List.range 512).all fun g => !h.bit (Addr.SEN_CFG (g / 32) (g % 32)) 0 || (h.chanCfg g).tap) = true := by
    simp only [List.all_eq_true] at n ⊢
    intro g hg
    simp [n g hg]
  have m := needs_of h.reversalStatus _ r
  unfold Hub.bindings
  simp only [o, k, s, g, c, u, n', m, List.all_nil]
  rfl

theorem check_of (h f : Hub) (p : PlanImage) (a n : Nat) (code : List (Nat × Nat)) (i1 : h.planImage a n = .ok (p, false))
    (i2 : p.setupHub h = .ok f) (i3 : p.codeBlocks 4 (p.off 1) = some code) (c : f.usedCtxs = [])
    (i : f.inPorts = []) (d : p.off 2 + p.sz 2 ≤ p.off 2) (m : p.sz 3 = 0) (b0 : (p.w (p.off 4)).toNat = 0) (b1 : p.w (p.off 4 + 4) = 0#32) (o : f.outStreams = [])
    (g : f.bindings p.budget = .ok ()) (u : f.capStreams = []) (s : f.plainStreams [] [] = [])
    (t : decide ((f.rd Addr.SYS_DOME_STAGE_BASE).toNat ≤ (f.rd Addr.SYS_DOME_DATA_BASE).toNat) = true) (l : f.uplinkLimit = 7200) :
    ∃ x, h.checkPlan a n = .ok x ∧ x.img = p := by
  have b : p.budget = { ctxs := [], streams := [], span := 0 } := by simp [PlanImage.budget, b0, b1]
  have d' : p.dataRecs f (p.sz 2 / 8 + 1) 0 (p.off 2) = .ok [] := by
    unfold PlanImage.dataRecs
    rw [if_pos d]
  have m' : p.mirrorMap f = .ok [] := by
    unfold PlanImage.mirrorMap
    rw [m]
    have z : decide (2 * ((([] : List MirrorEntry).map fun e => match e with | .histogram _ n => n | _ => 0).sum) ≤
      f.fld Addr.SYS_DOME_MIRROR_SIZE 0 10 * 0x10000) = true := by simp
    show (do need (decide (2 * ((([] : List MirrorEntry).map fun e => match e with | .histogram _ n => n | _ => 0).sum) ≤
      f.fld Addr.SYS_DOME_MIRROR_SIZE 0 10 * 0x10000)) ESIZE; pure [] : Except PlanFault (List MirrorEntry)) = _
    rw [z]
    rfl
  have a' : f.admits p.budget = true := by
    simp [Hub.admits, b, i, o, u, c, Hub.ownLoad, s, Hub.turretLoad, l] <;>
      exact ⟨⟨fun _ _ => by decide, Rat.mul_nonneg (by decide) (Rat.mul_nonneg Rat.natCast_nonneg (by decide))⟩, by rw [Rat.zero_add]; decide⟩
  have s' : decide (f.stagePlan.2 ≤ (f.rd Addr.SYS_DOME_DATA_BASE).toNat) = true := by
    simpa [Hub.stagePlan, i] using t
  refine ⟨{ img := p, proven := false, final := f, code := code, data := [], mirror := [], budget := p.budget }, ?_, rfl⟩
  unfold Hub.checkPlan
  simp only [i1, bind, Except.bind, i2, i3, c, List.all_nil, d', m', g, s', a']
  rfl

theorem test_a_plan_passes : ∃ c, planHub.checkPlan 0x120000 208 = .ok c ∧ c.img.sz 0 = 0 := by
  obtain ⟨-, c0, c3, -, cc, cd, cb, cs⟩ := plan_sections
  obtain ⟨r, n, t, l⟩ := plan_rest
  have g := bindings_of planFinal planImg.budget plan_contexts plan_outs.1 plan_units plan_streams.1 plan_channels r n
  have k : planFinal.capStreams = [] := by rw [Hub.capStreams, plan_units, List.filterMap_nil]
  obtain ⟨x, h, e⟩ := check_of planHub planFinal planImg 0x120000 208 _ plan_image plan_setup cc plan_contexts plan_outs.2 cd c3 cb cs plan_outs.1 g k
    plan_streams.2 t l
  exact ⟨x, h, e ▸ c0⟩

end Sys2Proof.Tests
end

/-!
SUPPORT. Accesses by masters (R10, R11, R13, R15, R36, R37): what `accessOk` asks of an address and size, the bytes and
the parity of the Dome after a write, and everything a write and a read by a master can do.
-/

namespace Sys2Proof.Machine

open Sys2Proof.Safety

/-! ### What an access asks (R11, R36) -/

/-- A permitted access of the Dome is of 1, 2 or 4 bytes and aligned. -/
theorem Hub.accessOk_dome {h : Hub} {m : Nat} {w : Bool} {a n : Nat} (e : h.accessOk m w a n = true) (d : a < domeSize) :
    (n = 1 ∨ n = 2 ∨ n = 4) ∧ a % n = 0 := by
  simp only [Hub.accessOk, d, decide_true, if_true, Bool.and_eq_true, Bool.or_eq_true, decide_eq_true_eq] at e
  obtain ⟨⟨⟨hn, ha⟩, -⟩, -⟩ := e
  exact ⟨by omega, ha⟩

/-- A permitted access outside the Dome is of an aligned word at which something lies. -/
theorem Hub.accessOk_register {h : Hub} {m : Nat} {w : Bool} {a n : Nat} (e : h.accessOk m w a n = true)
    (d : domeSize ≤ a) : n = 4 ∧ a % 4 = 0 ∧ isMapped a = true := by
  simp only [Hub.accessOk, Nat.not_lt.mpr d, decide_false, if_false, Bool.and_eq_true, decide_eq_true_eq] at e
  obtain ⟨⟨⟨⟨hn, ha⟩, hm⟩, -⟩, -⟩ := e
  exact ⟨hn, ha, hm⟩

/-- An aligned access of 1, 2 or 4 bytes stays inside the 64-bit word, and inside the Dome, that it begins in. -/
theorem aligned_access_inside {a n : Nat} (f : (n = 1 ∨ n = 2 ∨ n = 4) ∧ a % n = 0) (d : a < domeSize) :
    a + n ≤ domeSize ∧ ∀ i, i < n → (a + i) / 8 = a / 8 := by
  obtain ⟨rfl | rfl | rfl, ha⟩ := f <;> refine ⟨?_, fun i hi => ?_⟩ <;> simp only [domeSize] at * <;> omega

theorem AccSize.bytes_eq_four {z : AccSize} : z.bytes = 4 ↔ z = .word := by cases z <;> simp [AccSize.bytes]

/-! ### Bytes of a number (R10) -/

theorem byteAt_zero (v : Nat) : byteAt v 0 = BitVec.ofNat 8 v := by simp [byteAt]

theorem byteAt_succ (v k : Nat) : byteAt v (k + 1) = byteAt (v / 256) k := by
  rw [byteAt, byteAt, Nat.div_div_eq_div_mul, Nat.mul_succ, Nat.pow_add, Nat.mul_comm]

@[simp] theorem length_bytesOf (v n : Nat) : (bytesOf v n).length = n := by simp [bytesOf]

@[simp] theorem getElem_bytesOf (v n i : Nat) (hi : i < (bytesOf v n).length) : (bytesOf v n)[i] = byteAt v i := by
  simp [bytesOf]

/-- Bytes put together give themselves back; beyond the last one lies 0. -/
theorem byteAt_ofBytes : ∀ (l : List Byte) (i : Nat), byteAt (ofBytes l) i = l.getD i 0#8
  | [], i => by simp [ofBytes, byteAt]
  | b :: t, 0 => by
    apply BitVec.eq_of_toNat_eq
    have := b.isLt
    simp only [ofBytes, byteAt_zero, BitVec.toNat_ofNat, List.getD_cons_zero]
    omega
  | b :: t, i + 1 => by
    have e : ofBytes (b :: t) / 256 = ofBytes t := by
      have := b.isLt
      simp only [ofBytes]
      omega
    rw [byteAt_succ, e, byteAt_ofBytes t i, List.getD_cons_succ]

theorem ofBytes_lt : ∀ l : List Byte, ofBytes l < 256 ^ l.length
  | [] => by simp [ofBytes]
  | b :: t => by
    have := ofBytes_lt t
    have := b.isLt
    simp only [ofBytes, List.length_cons, Nat.pow_succ]
    omega

/-- The word of up to 4 bytes of the Dome, byte by byte. -/
theorem Hub.byteAt_domeRead (h : Hub) (a n i : Nat) (hn : n ≤ 4) :
    byteAt (wd (h.domeRead a n)).toNat i = if i < n then h.domeByte (a + i) else 0#8 := by
  have bytes : h.domeRead a n < 256 ^ n := by
    simpa [Hub.domeRead] using ofBytes_lt ((List.range n).map fun i => h.domeByte (a + i))
  have lt : h.domeRead a n < 2 ^ 32 := bytes.trans_le (Nat.pow_le_pow_right (by decide) hn : 256 ^ n ≤ 256 ^ 4)
  rw [wd, BitVec.toNat_ofNat, Nat.mod_eq_of_lt lt, Hub.domeRead, byteAt_ofBytes]
  by_cases hi : i < n <;> simp [List.getD, hi]

/-! ### A write of the Dome (R10, R36) -/

/-- A write of bytes touches the Dome and its parity, and nothing else. -/
theorem Hub.domeBytes_frame : ∀ (l : List Byte) (h : Hub) (a : Nat),
    h.domeBytes a l = { h with dome := (h.domeBytes a l).dome, badParity := (h.domeBytes a l).badParity }
  | [], _, _ => rfl
  | b :: t, h, a => by
    have step : h.domeByteWrite a b =
        { h with dome := (h.domeByteWrite a b).dome, badParity := (h.domeByteWrite a b).badParity } := by
      unfold Hub.domeByteWrite
      split <;> rfl
    rw [Hub.domeBytes, Hub.domeBytes_frame t, step]

/-- A written byte makes the parity of its own 64-bit word right, and of no other. -/
theorem Hub.poisoned_domeByteWrite (h : Hub) (a x : Nat) (b : Byte) (d : a < domeSize) :
    (h.domeByteWrite a b).poisoned x = true ↔ h.poisoned x = true ∧ x / 8 ≠ a / 8 := by
  simp [Hub.domeByteWrite, d, Hub.poisoned]

/-- After a write of bytes a 64-bit word's parity is wrong where it was and the word holds none of them. -/
theorem Hub.poisoned_domeBytes : ∀ (l : List Byte) (h : Hub) (a x : Nat), a + l.length ≤ domeSize →
    ((h.domeBytes a l).poisoned x = true ↔ h.poisoned x = true ∧ ∀ i, i < l.length → x / 8 ≠ (a + i) / 8)
  | [], h, a, x, _ => by simp [Hub.domeBytes]
  | b :: t, h, a, x, d => by
    simp only [List.length_cons] at d
    rw [Hub.domeBytes, Hub.poisoned_domeBytes t _ _ _ (by omega), Hub.poisoned_domeByteWrite _ _ _ _ (by omega), and_assoc]
    refine and_congr_right fun _ => ⟨fun ⟨h0, hs⟩ i hi => ?_, fun hall => ⟨hall 0 (by simp), fun i hi => ?_⟩⟩
    · cases i with
      | zero => exact h0
      | succ i => simpa [Nat.add_assoc, Nat.add_comm 1 i] using hs i (by simpa using hi)
    · simpa [Nat.add_assoc, Nat.add_comm 1 i] using hall (i + 1) (by simpa using hi)

/-! ### What a write by a master does -/

/-- REGISTER_WRITE of a powered hub is the master's write. -/
theorem exec_registerWrite (s : State) (m : MasterIx) (a v : Word) (z : AccSize) (p : s.hub.sys.powered = true) :
    exec (.registerWrite m a z v) s = .next { s with hub := s.hub.busWrite s.raw.toNat m a.toNat z.bytes v } :=
  State.onHub_powered s (fun r h => h.busWrite r m a.toNat z.bytes v) p

/-- A hub that differs in the error log only, with the note of an access of master `m`. -/
theorem sameButLog.setOk {h h' : Hub} (q : sameButLog h h') (m : Nat) (b : Bool) :
    h'.setOk m b =
      { h with regs := h'.regs, ctl.elog := h'.ctl.elog, ctl.readOk := SMap.put h.ctl.readOk m b } := by
  obtain ⟨-, e⟩ := q
  unfold Hub.setOk
  rw [e]

@[simp] theorem Hub.rd_setOk (h : Hub) (m : Nat) (b : Bool) (a : Nat) : (h.setOk m b).rd a = h.rd a := rfl

@[simp] theorem Hub.setOk_dome (h : Hub) (m : Nat) (b : Bool) : (h.setOk m b).dome = h.dome := rfl

/-- A denied access counts one report of class ACCESS. -/
theorem Hub.deny_class (h : Hub) (r m a st : Nat) :
    (h.deny r m a st).rd (Addr.ELOG_CLASS_CNT 0) = h.rd (Addr.ELOG_CLASS_CNT 0) + 1#32 :=
  h.report_class r 0 st m (wd a) (by decide)

theorem Hub.deny_dome (h : Hub) (r m a st : Nat) : (h.deny r m a st).dome = h.dome := by
  rw [(h.deny_same r m a st).2]

/-! ### What a read by a master does -/

/-- RC_FIELD_READ of a powered hub is the master's read. -/
theorem exec_rcFieldRead (s : State) (m : MasterIx) (a : Word) (z : AccSize) (p : s.hub.sys.powered = true) :
    exec (.rcFieldRead m a z) s = .next { s with hub := s.hub.busRead s.raw.toNat m a.toNat z.bytes } :=
  State.onHub_powered s (fun r h => h.busRead r m a.toNat z.bytes) p

/-- `h` with the word that the last read of master `m` returned. -/
def Hub.keepRead (h : Hub) (m : Nat) (v : Word) : Hub := { h with ctl.readData := SMap.put h.ctl.readData m v }

@[simp] theorem Hub.rd_keepRead (h : Hub) (m : Nat) (v : Word) (a : Nat) : (h.keepRead m v).rd a = h.rd a := rfl

@[simp] theorem Hub.keepRead_dome (h : Hub) (m : Nat) (v : Word) : (h.keepRead m v).dome = h.dome := rfl

@[simp] theorem Hub.readData_keepRead_same (h : Hub) (m : Nat) (v : Word) :
    SMap.get 0#32 (h.keepRead m v).ctl.readData m = v := SMap.get_put_same ..

theorem Hub.readData_keepRead_other (h : Hub) (m k : Nat) (v : Word) (e : k ≠ m) :
    SMap.get 0#32 (h.keepRead m v).ctl.readData k = SMap.get 0#32 h.ctl.readData k := by
  simp [Hub.keepRead, SMap.get_put, e]

/-- A read that is not performed returns 0 and is logged. -/
theorem Hub.busRead_denied (h : Hub) (r m a n : Nat) (e : h.accessOk m false a n = false) :
    h.busRead r m a n = ((h.deny r m a).setOk m false).keepRead m 0#32 := by
  simp [Hub.busRead, Hub.busReadValue, e, Hub.keepRead]

/-- A performed read of the Dome returns its bytes. -/
theorem Hub.busRead_dome (h : Hub) (r m a n : Nat) (e : h.accessOk m false a n = true) (d : a < domeSize) :
    h.busRead r m a n = (h.setOk m true).keepRead m (wd (h.domeRead a n)) := by
  simp [Hub.busRead, Hub.busReadValue, e, d, Hub.keepRead]

/-- A performed read of a register is that register's own. -/
theorem Hub.busRead_register (h : Hub) (r m a n : Nat) (e : h.accessOk m false a n = true) (d : domeSize ≤ a) :
    h.busRead r m a n = ((h.registerRead r m a).2.setOk m true).keepRead m (h.registerRead r m a).1 := by
  simp [Hub.busRead, Hub.busReadValue, e, Nat.not_lt.mpr d, Hub.keepRead]

/-- A register with RC fields, none of whose kinds has a rule of its own, shows its word and clears those fields (R15). -/
theorem Hub.registerRead_rc (h : Hub) (r m a : Nat) (x : RegRef) (e : regRef a = some x) (rc : x.row.rc ≠ 0#32)
    (mb : x.row.base ≠ Addr.MB_DATA 0) (lk : x.row.base ≠ Addr.LOCK 0) (tn : x.row.base ≠ Addr.TIME_NOW0)
    (tr : x.row.base ≠ Addr.TRIG_IN_TS0 0) (bl : x.row.base ≠ Addr.TUR_BACKLOG_MAX 0) :
    h.registerRead r m a = ((h.view r m a).getD 0#32, h.wr a (h.rd a &&& ~~~x.row.rc)) := by
  simp [Hub.registerRead, e, rc, mb, lk, tn, tr, bl]

/-- TUR_BACKLOG_MAX begins anew with the backlog that stands at the read (R225). -/
theorem Hub.registerRead_backlogMax (h : Hub) (r m a : Nat) (x : RegRef) (e : regRef a = some x)
    (bl : x.row.base = Addr.TUR_BACKLOG_MAX 0) :
    h.registerRead r m a = ((h.view r m a).getD 0#32, h.setFld a 0 24 (h.backlog x.i)) := by
  have apart : ∀ b ∈ [Addr.MB_DATA 0, Addr.LOCK 0, Addr.TIME_NOW0, Addr.TRIG_IN_TS0 0], Addr.TUR_BACKLOG_MAX 0 ≠ b := by
    decide
  simp only [List.forall_mem_cons] at apart
  obtain ⟨mb, lk, tn, tr, -⟩ := apart
  simp [Hub.registerRead, e, bl, mb, lk, tn, tr]

/-- The register tables list TUR_BACKLOG_MAX of each Turret. -/
theorem regRef_backlogMax (k : TurretIx) :
    ∃ x, regRef (Addr.TUR_BACKLOG_MAX k) = some x ∧ x.row.base = Addr.TUR_BACKLOG_MAX 0 ∧ x.i = k := by
  have listed : ∀ k : TurretIx,
      (regRef (Addr.TUR_BACKLOG_MAX k)).map (fun x => (x.row.base, x.i)) = some (Addr.TUR_BACKLOG_MAX 0, k.val) := by
    decide
  obtain ⟨x, hx, e⟩ := Option.map_eq_some_iff.mp (listed k)
  exact ⟨x, hx, congrArg Prod.fst e, congrArg Prod.snd e⟩

/-! ### The statements -/

/-- A performed write of the Dome stores its bytes, makes the parity of their 64-bit word right, and touches nothing
else but the note of the access (R10, R36). -/
theorem registerWrite_dome (s : State) (m : MasterIx) (a v : Word) (z : AccSize) (p : s.hub.sys.powered = true)
    (d : a.toNat < domeSize) (e : s.hub.accessOk m true a.toNat z.bytes = true) :
    ∃ t, exec (.registerWrite m a z v) s = .next t ∧
      (∀ i, i < z.bytes → t.hub.domeByte (a.toNat + i) = byteAt v.toNat i) ∧
      (∀ b, b < a.toNat ∨ a.toNat + z.bytes ≤ b → t.hub.domeByte b = s.hub.domeByte b) ∧
      t.hub.poisoned a.toNat = false ∧
      (∀ b, b / 8 ≠ a.toNat / 8 → t.hub.poisoned b = s.hub.poisoned b) ∧
      (Memory.wf s.hub.dome = true → Memory.wf t.hub.dome = true) ∧
      t = { s with hub := { s.hub with dome := t.hub.dome, badParity := t.hub.badParity,
                                       ctl.readOk := SMap.put s.hub.ctl.readOk m true } } := by
  have form := Hub.accessOk_dome e d
  obtain ⟨inside, word⟩ := aligned_access_inside form d
  have parity := fun x => Hub.poisoned_domeBytes (bytesOf v.toNat z.bytes) s.hub a.toNat x (by simpa using inside)
  simp only [length_bytesOf] at parity
  refine ⟨_, exec_registerWrite s m a v z p, ?_⟩
  rw [Hub.busWrite_dome _ _ _ _ _ _ _ e d]
  refine ⟨fun i hi => ?bytes, fun b hb => ?others, ?parity, fun b hb => ?parities, s.hub.domeWrite_wf _ _ _, ?frame⟩
  case bytes =>
    exact (Hub.domeByte_domeBytes _ s.hub a.toNat i (by simpa using inside) (by simpa using hi)).trans (getElem_bytesOf ..)
  case others => exact Hub.domeByte_domeBytes_other _ s.hub a.toNat b (by simpa using hb)
  case parity => exact Bool.eq_false_iff.mpr fun bad => ((parity a.toNat).mp bad).2 0 (by omega) rfl
  case parities =>
    exact Bool.eq_iff_iff.mpr ((parity b).trans (and_iff_left fun i hi => by rw [word i hi]; exact hb))
  case frame =>
    exact congrArg (fun h => { s with hub := h.setOk m true }) (Hub.domeBytes_frame (bytesOf v.toNat z.bytes) s.hub a.toNat)

/-- A performed read of the Dome returns its bytes, least significant first, and changes nothing but the record of the
access (R10, R36). -/
theorem rcFieldRead_dome (s : State) (m : MasterIx) (a : Word) (z : AccSize) (p : s.hub.sys.powered = true)
    (d : a.toNat < domeSize) (e : s.hub.accessOk m false a.toNat z.bytes = true) :
    ∃ t, exec (.rcFieldRead m a z) s = .next t ∧
      (∀ i, i < 4 → byteAt (SMap.get 0#32 t.hub.ctl.readData m).toNat i =
        (if i < z.bytes then s.hub.domeByte (a.toNat + i) else 0#8)) ∧
      t = { s with hub := { s.hub with ctl.readOk := SMap.put s.hub.ctl.readOk m true, ctl.readData := t.hub.ctl.readData } } ∧
      (∀ k, k ≠ m.val → SMap.get 0#32 t.hub.ctl.readData k = SMap.get 0#32 s.hub.ctl.readData k) := by
  have size : z.bytes ≤ 4 := by cases z <;> decide
  refine ⟨_, exec_rcFieldRead s m a z p, ?_⟩
  rw [Hub.busRead_dome _ _ _ _ _ e d]
  refine ⟨fun i _ => ?_, rfl, fun k hk => Hub.readData_keepRead_other _ _ _ _ hk⟩
  rw [Hub.readData_keepRead_same, Hub.byteAt_domeRead _ _ _ _ size]

/-- A read that is not performed returns 0 and is logged in class ACCESS (R11). -/
theorem rcFieldRead_denied (s : State) (m : MasterIx) (a : Word) (z : AccSize) (p : s.hub.sys.powered = true)
    (e : s.hub.accessOk m false a.toNat z.bytes = false) :
    ∃ t, exec (.rcFieldRead m a z) s = .next t ∧ SMap.get 0#32 t.hub.ctl.readData m = 0#32 ∧ logged 0 s t ∧
      t.hub.dome = s.hub.dome ∧ regsKept inLog s t := by
  have same := s.hub.deny_same s.raw.toNat m a.toNat 0
  refine ⟨_, exec_rcFieldRead s m a z p, ?_⟩
  rw [Hub.busRead_denied _ _ _ _ _ e]
  refine ⟨Hub.readData_keepRead_same .., ?_, ?_, fun b hb => ?_⟩
  · simp [logged, Hub.deny_class]
  · simp [Hub.deny_dome]
  · simpa using same.1 b hb

/-- Settles O12: the Dome stores and returns bytes, least significant first, and refused reads return 0. -/
theorem domeAccessesStoreAndReturnBytes : Obligations.DomeAccessesStoreAndReturnBytes := by
  refine ⟨registerWrite_dome, rcFieldRead_dome, rcFieldRead_denied, fun h m w a z d bad => ?_⟩
  refine Bool.eq_false_iff.mpr fun ok => ?_
  obtain ⟨size, aligned, mapped⟩ := Hub.accessOk_register ok d
  rcases bad with bad | bad | bad
  · exact bad (AccSize.bytes_eq_four.mp size)
  · exact bad aligned
  · simp [mapped] at bad

/-- Settles O13: a write that is not performed is logged, and changes nothing but the error log and the note of it. -/
theorem forbiddenWriteDoesNothing : Obligations.ForbiddenWriteDoesNothing := by
  intro s m a v z p e
  have same := s.hub.deny_same s.raw.toNat m a.toNat 0
  refine ⟨_, exec_registerWrite s m a v z p, ?_⟩
  rw [Hub.busWrite_denied _ _ _ _ _ _ _ e]
  refine ⟨?_, fun b hb => ?_, congrArg (fun h => { s with hub := h }) (same.setOk m false)⟩
  · simp [logged, Hub.deny_class]
  · simpa using same.1 b hb

/-- Settles O15: a read clears the RC fields of its register and no other, and TUR_BACKLOG_MAX begins anew. -/
theorem readingAnRcFieldClearsIt : Obligations.ReadingAnRcFieldClearsIt := by
  constructor
  · intro s m a x p d e hx rc mb lk tn tr bl
    refine ⟨_, exec_rcFieldRead s m a .word p, ?_⟩
    rw [AccSize.bytes_eq_four.mpr rfl, Hub.busRead_register _ _ _ _ _ e d,
      Hub.registerRead_rc _ _ _ _ x hx rc mb lk tn tr bl]
    exact ⟨Hub.readData_keepRead_same .., Hub.rd_wr_same .., fun b hb => Hub.rd_wr_other _ _ _ _ (by simpa using hb), rfl⟩
  · intro s m k p e
    obtain ⟨x, hx, base, ix⟩ := regRef_backlogMax k
    have addr : (wd (Addr.TUR_BACKLOG_MAX k)).toNat = Addr.TUR_BACKLOG_MAX k := by fin_cases k <;> rfl
    have d : domeSize ≤ Addr.TUR_BACKLOG_MAX k := by fin_cases k <;> decide
    refine ⟨_, exec_rcFieldRead s m _ .word p, ?_⟩
    rw [AccSize.bytes_eq_four.mpr rfl, addr, Hub.busRead_register _ _ _ _ _ e d,
      Hub.registerRead_backlogMax _ _ _ _ x hx base, ix]
    refine ⟨Hub.readData_keepRead_same .., ?_, fun b hb => Hub.rd_wr_other _ _ _ _ (by simpa using hb)⟩
    simp only [Hub.fld, Hub.rd_keepRead, Hub.rd_setOk, Hub.rd_setFld, if_true]
    exact bitsOf_putBits_same _ _ _ _ (by decide)

/-- Settles O3: at reset no register has been written, so each reads its table's reset value. -/
theorem resetState : Obligations.ResetState := by
  have unwritten : ∀ a, State.reset.hub.rd a = resetValue a := fun _ => rfl
  refine ⟨rfl, rfl, rfl, unwritten, ?mode, rfl, ?chipId, ?stepping, ?journalBase, rfl⟩
  case mode => decide
  all_goals rw [unwritten]; decide

end Sys2Proof.Machine

/-!
SUPPORT. The canonical form of the list that holds the Dome's bytes, through every function of the hub: what each one does
to the Dome, in the order of the definitions. Most leave the Dome's cells alone (`f_dome`); the others keep the form
(`f_canonical`), because they write through the operations on memories of Machine/Dome.lean. The lemmas proved by `(rfl)` are
kept from being unfolding rules of `simp`: such a rule leaves no step in the proof, and the kernel would then compare two states
field by field.
-/

namespace Sys2Proof.Machine

/-! ### Canonical form and loops -/

/-- The list of the Dome's cells is in canonical form. -/
def Hub.Canonical (h : Hub) : Prop := Memory.wf h.dome = true

theorem Hub.Canonical.wf {h : Hub} (w : h.Canonical) : Memory.wf h.dome = true := w

@[simp] theorem Hub.canonical_iff (h : Hub) : h.Canonical ↔ Memory.wf h.dome = true := ⟨id, id⟩

theorem Hub.Canonical.ite {c : Prop} [Decidable c] {a b : Hub} (wa : a.Canonical) (wb : b.Canonical) :
    (if c then a else b).Canonical := by split <;> assumption

theorem Hub.Canonical.of_dome {h h' : Hub} (e : h'.dome = h.dome) (w : h.Canonical) : h'.Canonical := by simp [e, w.wf]

theorem Hub.Canonical.of_wf {h : Hub} (w : Memory.wf h.dome = true) : h.Canonical := w

theorem Hub.Canonical.same {h h' : Hub} (w : h.Canonical) (e : h'.dome = h.dome) : h'.Canonical := .of_dome e w

/-- `f` leaves the Dome's cells alone. -/
def LeavesDome (f : Hub → Hub) : Prop := ∀ h, (f h).dome = h.dome

@[simp] theorem leavesDome_iff (f : Hub → Hub) : LeavesDome f ↔ ∀ h, (f h).dome = h.dome := ⟨id, id⟩

/-- `f` keeps the canonical form. -/
def KeepsCanonical (f : Hub → Hub) : Prop := ∀ h, h.Canonical → (f h).Canonical

@[simp] theorem keepsCanonical_iff (f : Hub → Hub) :
    KeepsCanonical f ↔ ∀ h, Memory.wf h.dome = true → Memory.wf (f h).dome = true := ⟨id, id⟩

@[simp] theorem Hub.dome_ite (c : Prop) [Decidable c] (a b : Hub) :
    (if c then a else b).dome = if c then a.dome else b.dome := apply_ite Hub.dome c a b

theorem Hub.ite_dome {c : Prop} [Decidable c] {a b h : Hub} (ea : a.dome = h.dome) (eb : b.dome = h.dome) :
    (if c then a else b).dome = h.dome := by simp [ea, eb]

@[simp] theorem Hub.snd_dome_ite {α : Type} (c : Prop) [Decidable c] (a b : α × Hub) :
    (if c then a else b).2.dome = if c then a.2.dome else b.2.dome := apply_ite (fun x : α × Hub => x.2.dome) c a b

@[simp] theorem Memory.wf_ite (c : Prop) [Decidable c] (a b : List Host.Cell) :
    Memory.wf (if c then a else b) = if c then Memory.wf a else Memory.wf b := apply_ite Memory.wf c a b

@[simp] theorem forN_dome (n : Nat) (f : Nat → Hub → Hub) (h : Hub) (hf : ∀ i, LeavesDome (f i)) :
    (forN n f h).dome = h.dome := forN_same Hub.dome n f hf h

@[simp] theorem forIn'_dome {β : Type} (l : List β) (f : β → Hub → Hub) (h : Hub) (hf : ∀ i, LeavesDome (f i)) :
    (forIn' l f h).dome = h.dome := forIn'_same Hub.dome f hf l h

theorem Hub.Canonical.forN {h : Hub} (n : Nat) (f : Nat → Hub → Hub) (hf : ∀ i, KeepsCanonical (f i)) (w : h.Canonical) :
    (Machine.forN n f h).Canonical := forN_keeps Hub.Canonical n f hf h w

theorem Hub.Canonical.forIn' {β : Type} {h : Hub} (l : List β) (f : β → Hub → Hub) (hf : ∀ i, KeepsCanonical (f i))
    (w : h.Canonical) : (Machine.forIn' l f h).Canonical := forIn'_keeps Hub.Canonical f hf l h w

@[simp] theorem forN_canonical (n : Nat) (f : Nat → Hub → Hub) (h : Hub) (hf : ∀ i, KeepsCanonical (f i)) (w : h.Canonical) :
    Memory.wf (forN n f h).dome = true := w.forN n f hf

@[simp] theorem forIn'_canonical {β : Type} (l : List β) (f : β → Hub → Hub) (h : Hub) (hf : ∀ i, KeepsCanonical (f i))
    (w : h.Canonical) : Memory.wf (forIn' l f h).dome = true := w.forIn' l f hf

theorem Hub.Canonical.domeBytes {h : Hub} (w : h.Canonical) (a : Nat) (l : List Byte) : (h.domeBytes a l).Canonical :=
  h.domeBytes_wf l a w

theorem Hub.Canonical.domeWrite {h : Hub} (w : h.Canonical) (a n v : Nat) : (h.domeWrite a n v).Canonical :=
  h.domeWrite_wf a n v w

@[simp] theorem Hub.domeBytes_canonical (h : Hub) (a : Nat) (l : List Byte) (w : h.Canonical) :
    Memory.wf (h.domeBytes a l).dome = true := h.domeBytes_wf l a w

@[simp] theorem Hub.domeWrite_canonical (h : Hub) (a n v : Nat) (w : h.Canonical) :
    Memory.wf (h.domeWrite a n v).dome = true := h.domeWrite_wf a n v w

@[simp] theorem Hub.domeUndefine_canonical (h : Hub) (lo : Nat) (w : h.Canonical) :
    Memory.wf (h.domeUndefine lo).dome = true := h.domeUndefine_wf lo w

theorem Hub.dome_of_snd {α : Type} {p : α × Hub} {a : α} {h h' : Hub} (e : p = (a, h')) (d : p.2.dome = h.dome) :
    h'.dome = h.dome := by simpa [e] using d

theorem Hub.canonical_of_snd {α : Type} {p : α × Hub} {a : α} {h' : Hub} (e : p = (a, h')) (d : Memory.wf p.2.dome = true) :
    h'.Canonical := by simpa [e] using d

/-! Two setters' frame rules once more, as equations that are no unfolding rules of `simp`. -/

@[simp] theorem Hub.dome_wr (h : Hub) (a : Nat) (v : Word) : (h.wr a v).dome = h.dome := (rfl)

@[simp] theorem Hub.dome_setCtx (h : Hub) (c : Nat) (x : Ctx) : (h.setCtx c x).dome = h.dome := (rfl)

@[simp] theorem Hub.dome_deny (h : Hub) (r m a st : Nat) : (h.deny r m a st).dome = h.dome := h.deny_dome r m a st

theorem Hub.dome_of_trd {α β : Type} {p : α × β × Hub} {a : α} {b : β} {h h' : Hub} (e : p = (a, b, h'))
    (d : p.2.2.dome = h.dome) : h'.dome = h.dome := by simpa [e] using d

/-! A change of another field of the state leaves the Dome: for steps the simplifier would take by unfolding. -/

theorem Hub.dome_with_lan (h : Hub) (x : Lantern) : { h with lan := x }.dome = h.dome := rfl

theorem Hub.dome_with_sel (h : Hub) (x : Selail) : { h with sel := x }.dome = h.dome := rfl

theorem Hub.dome_with_sys (h : Hub) (x : Sys) : { h with sys := x }.dome = h.dome := rfl

theorem Hub.dome_with_ctl (h : Hub) (x : Control) : { h with ctl := x }.dome = h.dome := rfl

theorem Hub.dome_with_stageIn (h : Hub) (x : List (Nat × Nat × PortElem)) : { h with stageIn := x }.dome = h.dome := rfl

theorem Hub.dome_with_queues (h : Hub) (x : SMap Queue) : { h with queues := x }.dome = h.dome := rfl

/-! ### Machine/Ops -/

@[simp] theorem Hub.setFld_dome (h : Hub) (a lo n v : Nat) : (h.setFld a lo n v).dome = h.dome := (rfl)

@[simp] theorem Hub.setBit_dome (h : Hub) (a i : Nat) (b : Bool) : (h.setBit a i b).dome = h.dome := (rfl)

@[simp] theorem Hub.incSat_dome (h : Hub) (a lo n k : Nat) : (h.incSat a lo n k).dome = h.dome := (rfl)

@[simp] theorem Hub.incWrap_dome (h : Hub) (a lo n k : Nat) : (h.incWrap a lo n k).dome = h.dome := (rfl)

@[simp] theorem Hub.wr3_dome (h : Hub) (a : Nat) (w0 w1 w2 : Word) : (h.wr3 a w0 w1 w2).dome = h.dome := (rfl)

@[simp] theorem Hub.drawWord_dome (h : Hub) : h.drawWord.2.dome = h.dome := (rfl)

@[simp] theorem Hub.drawInt_dome (h : Hub) (lo hi : Int) : (h.drawInt lo hi).2.dome = h.dome := (rfl)

@[simp] theorem Hub.drawQuotient_dome (h : Hub) (num : Int) (den : Nat) : (h.drawQuotient num den).2.dome = h.dome := by
  simp [Hub.drawQuotient]

@[simp] theorem Hub.modSpire_dome (h : Hub) (n : Nat) (f : Spire → Spire) : (h.modSpire n f).dome = h.dome := (rfl)

@[simp] theorem Hub.modChan_dome (h : Hub) (g : Nat) (f : Chan → Chan) : (h.modChan g f).dome = h.dome := (rfl)

@[simp] theorem Hub.modCtx_dome (h : Hub) (c : Nat) (f : Ctx → Ctx) : (h.modCtx c f).dome = h.dome := (rfl)

@[simp] theorem Hub.modStream_dome (h : Hub) (s : Nat) (f : Stream → Stream) : (h.modStream s f).dome = h.dome := (rfl)

@[simp] theorem Hub.wrInst_dome (h : Hub) (a t : Nat) : (h.wrInst a t).dome = h.dome := (rfl)

@[simp] theorem Hub.setMode_dome (h : Hub) (m : Mode) (service : optParam Bool false) :
    (h.setMode m service).dome = h.dome := (rfl)

@[simp] theorem Hub.changeMode_dome (h : Hub) (r : Nat) (m : Mode) : (h.changeMode r m).dome = h.dome := (rfl)

@[simp] theorem Hub.logCount_dome (h : Hub) (t cls code master : Nat) (detail : Word) :
    (h.logCount t cls code master detail).dome = h.dome := by simp [Hub.logCount]

@[simp] theorem Hub.logFile_dome (h : Hub) (e : LogEntry) : (h.logFile e).dome = h.dome := by
  rcases h.logFile_cases e with ⟨l, eq⟩ | eq <;> rw [eq]
  simp

@[simp] theorem Hub.reportAt_dome (h : Hub) (t cls code master : Nat) (detail : Word) :
    (h.reportAt t cls code master detail).dome = h.dome := by simp [Hub.reportAt]

@[simp] theorem Hub.report_dome (h : Hub) (r cls code master : Nat) (detail : Word) :
    (h.report r cls code master detail).dome = h.dome := by simp [Hub.report]

@[simp] theorem Hub.refuse_dome (h : Hub) (r m a status : Nat) : (h.refuse r m a status).dome = h.dome := by simp [Hub.refuse]

@[simp] theorem Hub.elogFree_dome (h : Hub) (n : Nat) : (h.elogFree n).dome = h.dome := (rfl)

/-! ### Machine/Route -/

@[simp] theorem Hub.modLane_dome (h : Hub) (l : Nat) (f : Lane → Lane) : (h.modLane l f).dome = h.dome := (rfl)

/-! ### Machine/Ledger -/

@[simp] theorem Hub.journalBytes_canonical (h : Hub) (q : Nat) (p : Packet) (w : h.Canonical) :
    Memory.wf (h.journalBytes q p).dome = true := by simp [Hub.journalBytes, w.wf]

@[simp] theorem Hub.journalAppend_canonical (h : Hub) (q : Nat) (p : Packet) (w : h.Canonical) :
    Memory.wf (h.journalAppend q p).dome = true := by simp [Hub.journalAppend, w.wf]

@[simp] theorem Hub.release_dome (q : Nat) : ∀ (n : Nat) (h : Hub), (Hub.release q n h).dome = h.dome
  | 0, _ => rfl
  | n + 1, h => by
    unfold Hub.release
    split
    · split
      · exact Hub.release_dome q n _
      · rfl
    · rfl

@[simp] theorem Hub.releaseQueue_dome (h : Hub) (q : Nat) : (h.releaseQueue q).dome = h.dome := by simp [Hub.releaseQueue]

@[simp] theorem Hub.evictOne_dome (h : Hub) (q : Nat) : (h.evictOne q).dome = h.dome := by simp [Hub.evictOne]

@[simp] theorem Hub.evictFor_dome (t q need : Nat) : ∀ (n : Nat) (h : Hub) (ls : List LostRange),
    (h.evictFor t q need n ls).1.dome = h.dome
  | 0, _, _ => rfl
  | n + 1, h, ls => by
    unfold Hub.evictFor
    dsimp only
    split
    · rfl
    · split
      · rfl
      · rw [Hub.evictFor_dome t q need n, Hub.evictOne_dome]

@[simp] theorem Hub.evictGap_canonical (q : Nat) (r : LostRange) (h : Hub) (w : h.Canonical) :
    Memory.wf (Hub.evictGap q r h).dome = true := by
  unfold Hub.evictGap
  split
  · split <;> simp [w.wf]
  · simp [w.wf]

@[simp] theorem Hub.journalWrite_canonical (h : Hub) (t q : Nat) (p : Packet) (w : h.Canonical) :
    Memory.wf (h.journalWrite t q p).dome = true := by
  simp only [Hub.journalWrite, Hub.dome_ite, Memory.wf_ite, Hub.releaseQueue_dome]
  have gaps : ∀ l h, Hub.Canonical h → Hub.Canonical (forIn' l (Hub.evictGap q) h) := fun _ _ =>
    forIn'_canonical _ _ _ (Hub.evictGap_canonical q)
  split
  · exact Hub.journalAppend_canonical _ _ _ (gaps _ _ (by simp [w.wf]))
  · exact gaps _ _ (by simp [w.wf])

@[simp] theorem Hub.gapWrite_canonical (h : Hub) (t stream first last time timeLast reason : Nat) (w : h.Canonical) :
    Memory.wf (h.gapWrite t stream first last time timeLast reason).dome = true := by simp [Hub.gapWrite, w.wf]

@[simp] theorem Hub.seal_canonical (h : Hub) (t s : Nat) (w : h.Canonical) : Memory.wf (h.seal t s).dome = true := by
  unfold Hub.seal
  split <;> simp [w.wf]

@[simp] theorem Hub.declareGaps_canonical (h : Hub) (t s e p hi : Nat) (gaps : List (Nat × Nat × Nat)) (w : h.Canonical) :
    Memory.wf (h.declareGaps t s e p hi gaps).dome = true :=
  forIn'_canonical _ _ _ (fun _ h w => .ite (Hub.gapWrite_canonical _ _ _ _ _ _ _ _ (Hub.seal_canonical h t s w)) w) w

@[simp] theorem Hub.placeOne_canonical (h : Hub) (t : Nat) (e : LedElem) (w : h.Canonical) :
    Memory.wf (h.placeOne t e).dome = true := by simp [Hub.placeOne, w.wf]

theorem Hub.placeBytes_canonical (t : Nat) (e : LedElem) : ∀ (n : Nat) (bytes : List Byte) (start : Bool) (h : Hub),
    h.Canonical → Memory.wf (Hub.placeBytes t e n bytes start h).dome = true
  | 0, _, _, _, w => w
  | n + 1, bytes, start, h, w => by
    unfold Hub.placeBytes
    refine Hub.Canonical.ite (.ite (Hub.seal_canonical _ _ _ ?opened) ?opened) (Hub.placeBytes_canonical t e n _ _ _ ?opened)
    split
    · exact .ite (h.seal_canonical _ _ w) w
    · exact w

@[simp] theorem Hub.placeElem_canonical (h : Hub) (t : Nat) (e : LedElem) (w : h.Canonical) :
    Memory.wf (h.placeElem t e).dome = true := by
  have bytes := Hub.placeBytes_canonical t e (e.bytes.length + 2) e.bytes e.starts h w
  unfold Hub.placeElem
  split <;> simp [w.wf, bytes]

@[simp] theorem Hub.toLedger_dome (h : Hub) (e : LedElem) : (h.toLedger e).dome = h.dome := (rfl)

@[simp] theorem Hub.eventRecord_dome (h : Hub) (ty time : Nat) (body : List Word) :
    (h.eventRecord ty time body).dome = h.dome := by simp [Hub.eventRecord]

@[simp] theorem ledgerElementArrive_canonical (r : Nat) (h : Hub) (w : h.Canonical) :
    Memory.wf (ledgerElementArrive r h).dome = true := by
  unfold ledgerElementArrive
  split <;> simp [w.wf]

@[simp] theorem Hub.drainStream_canonical (h : Hub) (t s : Nat) (w : h.Canonical) :
    Memory.wf (h.drainStream t s).dome = true :=
  forIn'_canonical _ _ _ (fun e h => h.placeElem_canonical t e) w

theorem Hub.Canonical.drainLedger {h : Hub} (w : h.Canonical) (t : Nat) : (h.drainLedger t).Canonical :=
  .forIn' _ _ (fun e h => h.placeElem_canonical t e) w

@[simp] theorem packetSealTimeout_canonical (r s : Nat) (h : Hub) (w : h.Canonical) :
    Memory.wf (packetSealTimeout r s h).dome = true := by
  unfold packetSealTimeout
  split <;> simp [w.wf]

@[simp] theorem Hub.sendOut_dome (h : Hub) (p : SentPacket) : (h.sendOut p).dome = h.dome := by
  unfold Hub.sendOut
  split <;> rfl

@[simp] theorem Hub.readPacket_dome (h : Hub) (t q i : Nat) (p : Packet) : (h.readPacket t q i p).2.dome = h.dome := by
  simp [Hub.readPacket]

@[simp] theorem packetSend_dome (r : Nat) (h : Hub) : (packetSend r h).dome = h.dome := by
  unfold packetSend
  split
  · rfl
  · split
    · rfl
    · dsimp only
      split <;> simp

@[simp] theorem Hub.described_dome (h : Hub) (s : Nat) : (h.described s).2.dome = h.dome := by simp [Hub.described]

@[simp] theorem Hub.descSend_dome (h : Hub) (t s : Nat) : (h.descSend t s).dome = h.dome := by
  unfold Hub.descSend
  split <;> simp

@[simp] theorem descPeriodic_dome (r : Nat) (h : Hub) : (descPeriodic r h).dome = h.dome := by simp [descPeriodic]

@[simp] theorem Hub.releaseAll_dome (h : Hub) : h.releaseAll.dome = h.dome := by simp [Hub.releaseAll]

@[simp] theorem Hub.acknowledge_dome (h : Hub) (s next : Nat) : (h.acknowledge s next).dome = h.dome := by simp [Hub.acknowledge]

@[simp] theorem Hub.rewind_dome (h : Hub) (q : Nat) : (h.rewind q).dome = h.dome := by simp [Hub.rewind]

@[simp] theorem Hub.applyEntry_dome (h : Hub) (nack : Bool) (s next : Nat) : (h.applyEntry nack s next).dome = h.dome := by
  simp only [Hub.applyEntry]
  split
  · simp
  · split <;> simp

@[simp] theorem Hub.ackEntry_dome (r : Nat) (nack : Bool) (m : AckMsg) (e : Nat × Nat) (h : Hub) :
    (Hub.ackEntry r nack m e h).dome = h.dome := by simp [Hub.ackEntry]

@[simp] theorem ackMessage_dome (r : Nat) (nack : Bool) (m : AckMsg) (h : Hub) :
    (ackMessage r nack m h).dome = h.dome := by simp [ackMessage]

@[simp] theorem ackholdRelease_dome (r : Nat) (h : Hub) : (ackholdRelease r h).dome = h.dome := by
  unfold ackholdRelease
  split <;> simp

@[simp] theorem Hub.applyHeld_dome (h : Hub) : h.applyHeld.dome = h.dome := by simp [Hub.applyHeld]

@[simp] theorem ackTimeout_dome (r q : Nat) (h : Hub) : (ackTimeout r q h).dome = h.dome := by
  unfold ackTimeout
  split <;> (try split) <;> simp

@[simp] theorem Hub.discardQueues_dome (r : Nat) (qs opn : List Nat) (h : Hub) :
    (Hub.discardQueues r qs opn h).dome = h.dome := by simp [Hub.discardQueues]

@[simp] theorem Hub.queueLayoutReset_dome (r : Nat) (h : Hub) : (Hub.queueLayoutReset r h).dome = h.dome := by
  simp [Hub.queueLayoutReset]

@[simp] theorem Hub.ledCommit_dome (r : Nat) (h : Hub) : (Hub.ledCommit r h).dome = h.dome := by
  unfold Hub.ledCommit
  dsimp only
  split
  · rfl
  · split
    · rfl
    · split
      · rfl
      · simp

@[simp] theorem Hub.startStreams_dome (h : Hub) : h.startStreams.dome = h.dome := (rfl)

@[simp] theorem Hub.rewriteQueue_canonical (h : Hub) (t q : Nat) (l : List Packet) (w : h.Canonical) :
    Memory.wf (h.rewriteQueue t q l).dome = true :=
  forIn'_canonical _ _ _ (fun p h => h.journalWrite_canonical t q p) w

@[simp] theorem Hub.takeoverStream_canonical (t s : Nat) (h : Hub) (w : h.Canonical) :
    Memory.wf (Hub.takeoverStream t s h).dome = true := by
  have gap : ∀ (h : Hub) (c : Prop) [Decidable c] (a b p q k : Nat), h.Canonical →
      (if c then h.releaseAll.gapWrite t s a b p q k else h.releaseAll).Canonical := fun h _ _ _ _ _ _ _ w =>
    have released : h.releaseAll.Canonical := .of_dome h.releaseAll_dome w
    .ite (Hub.gapWrite_canonical _ _ _ _ _ _ _ _ released) released
  unfold Hub.takeoverStream
  split
  · exact gap _ _ _ _ _ _ _ w
  · exact gap _ _ _ _ _ _ _ w
  · exact Hub.rewriteQueue_canonical _ _ _ _ w

@[simp] theorem Hub.ledgerTakeover_canonical (h : Hub) (tp epoch : Nat) (w : h.Canonical) :
    Memory.wf (h.ledgerTakeover tp epoch).dome = true :=
  forN_canonical _ _ _ (fun _ h w => .ite (Hub.takeoverStream_canonical _ _ h w) w) w

/-! ### Machine/Marks -/

@[simp] theorem Hub.noteChan_dome (h h0 : Hub) (n c t : Nat) : (h.noteChan h0 n c t).dome = h.dome := by simp [Hub.noteChan]

@[simp] theorem Hub.noteSpire_dome (h h0 : Hub) (n t : Nat) : (h.noteSpire h0 n t).dome = h.dome := by simp [Hub.noteSpire]

@[simp] theorem Hub.noteTwin_dome (h h0 : Hub) (t : Nat) : (h.noteTwin h0 t).dome = h.dome := by simp [Hub.noteTwin]

/-! ### Machine/FrontEnd -/

@[simp] theorem Hub.clearPaths_dome (h : Hub) (n c f : Nat) : (h.clearPaths n c f).dome = h.dome := (rfl)

@[simp] theorem feCfgStore_dome (r m a : Nat) (aux : Bool) (v : Word) (h : Hub) :
    (feCfgStore r m a aux v h).dome = h.dome := by simp [feCfgStore]

@[simp] theorem commonModeTrip_dome (r n c : Nat) (p q : BallLevel) (h : Hub) :
    (commonModeTrip r n c p q h).dome = h.dome := by simp [commonModeTrip]

@[simp] theorem rtdCompliance_dome (r n c : Nat) (exceeds : Bool) (h : Hub) :
    (rtdCompliance r n c exceeds h).dome = h.dome := by simp [rtdCompliance]

@[simp] theorem chargeRail_dome (r n c : Nat) (l : BallLevel) (h : Hub) : (chargeRail r n c l h).dome = h.dome := by
  simp [chargeRail]

@[simp] theorem clampConduct_dome (n c f : Nat) (p q : BallLevel) (h : Hub) :
    (clampConduct n c f p q h).dome = h.dome := by simp [clampConduct]

@[simp] theorem clampSuspectEnd_dome (n c f : Nat) (h : Hub) : (clampSuspectEnd n c f h).dome = h.dome := by simp [clampSuspectEnd]

@[simp] theorem Hub.syncInj_dome (h : Hub) (n : Nat) : (h.syncInj n).dome = h.dome := (rfl)

@[simp] theorem Hub.injClose_dome (h : Hub) (n why : Nat) : (h.injClose n why).dome = h.dome := (rfl)

@[simp] theorem Hub.injAdmit_dome (h : Hub) (t n : Nat) : (h.injAdmit t n).dome = h.dome := by simp [Hub.injAdmit]

@[simp] theorem Hub.injOpen_dome (h : Hub) (t n : Nat) : (h.injOpen t n).dome = h.dome := by simp [Hub.injOpen]

@[simp] theorem internalInj_dome (t n : Nat) (who : InjWho) (node : Nat) (h : Hub) :
    (internalInj t n who node h).dome = h.dome := by simp [internalInj]

@[simp] theorem injReq_dome (t n m : Nat) (v : Word) (h : Hub) : (injReq t n m v h).dome = h.dome := by simp [injReq]

@[simp] theorem injConvert_dome (n f : Nat) (code : Int) (h : Hub) : (injConvert n f code h).dome = h.dome := by
  unfold injConvert
  dsimp only
  split
  · split <;> rfl
  · rfl

@[simp] theorem Hub.injLeave_dome (h : Hub) (t n : Nat) (q : List InjEntry) : (h.injLeave t n q).dome = h.dome := by
  simp [Hub.injLeave]

@[simp] theorem Hub.injQuit_dome (h : Hub) (n : Nat) : (h.injQuit n).dome = h.dome := by simp [Hub.injQuit]

@[simp] theorem injComplete_dome (t n : Nat) (h : Hub) : (injComplete t n h).dome = h.dome := by
  unfold injComplete
  split <;> (try split) <;> simp

@[simp] theorem chargeRequest_dome (n c : Nat) (h : Hub) : (chargeRequest n c h).dome = h.dome := by simp [chargeRequest]

@[simp] theorem feChgResetStore_dome (n : Nat) (v : Word) (h : Hub) : (feChgResetStore n v h).dome = h.dome := by
  simp [feChgResetStore]

@[simp] theorem chargeResetAuto_dome (n c : Nat) (code : Int) (h : Hub) :
    (chargeResetAuto n c code h).dome = h.dome := by simp [chargeResetAuto]

@[simp] theorem chargeResetPeriodic_dome (n c f : Nat) (h : Hub) : (chargeResetPeriodic n c f h).dome = h.dome := by
  simp [chargeResetPeriodic]

@[simp] theorem chargeResetStart_dome (n c f : Nat) (h : Hub) : (chargeResetStart n c f h).dome = h.dome := by
  simp [chargeResetStart]

@[simp] theorem chargeResetOpen_dome (n c : Nat) (h : Hub) : (chargeResetOpen n c h).dome = h.dome := by simp [chargeResetOpen]

@[simp] theorem chargeResetSettled_dome (r n c : Nat) (h : Hub) : (chargeResetSettled r n c h).dome = h.dome := by
  simp [chargeResetSettled]

@[simp] theorem declareBreak_dome (r n c : Nat) (m : BreakMethod) (bound : Nat) (h : Hub) :
    (declareBreak r n c m bound h).dome = h.dome := by simp [declareBreak]

@[simp] theorem breakClear_dome (r n c : Nat) (m : BreakMethod) (h : Hub) : (breakClear r n c m h).dome = h.dome := by
  unfold breakClear
  dsimp only
  split
  · rfl
  · rw [(Hub.eventRecord_same _ _ _ _).2]
    simp

@[simp] theorem probeRead_dome (r n c t : Nat) (pBall : Bool) (code : Int) (h : Hub) :
    (probeRead r n c t pBall code h).dome = h.dome := by simp [probeRead]

@[simp] theorem probeBallRead_dome (r n c : Nat) (pBall : Bool) (h : Hub) :
    (probeBallRead r n c pBall h).dome = h.dome := by
  unfold probeBallRead
  split <;> simp

@[simp] theorem chargeTestDue_dome (r n c : Nat) (h : Hub) : (chargeTestDue r n c h).dome = h.dome := by simp [chargeTestDue]

@[simp] theorem chargeTestResult_dome (r n c : Nat) (code0 code1 : Int) (h : Hub) :
    (chargeTestResult r n c code0 code1 h).dome = h.dome := by simp [chargeTestResult]

@[simp] theorem chargeTestComplete_dome (r n c : Nat) (h : Hub) : (chargeTestComplete r n c h).dome = h.dome := by
  unfold chargeTestComplete
  split <;> (try split) <;> simp

@[simp] theorem Hub.excChange_dome (h : Hub) (n : Nat) : (h.excChange n).dome = h.dome := (rfl)

@[simp] theorem Hub.setExc_dome (h : Hub) (n : Nat) (x : ExcState) : (h.setExc n x).dome = h.dome := (rfl)

@[simp] theorem Hub.quietReversal_dome (h : Hub) (n t : Nat) : (h.quietReversal n t).dome = h.dome := (rfl)

@[simp] theorem Hub.excEnableAt_dome (h : Hub) (n t : Nat) : (h.excEnableAt n t).dome = h.dome := (rfl)

@[simp] theorem Hub.excActivate_dome (h : Hub) (n f : Nat) : (h.excActivate n f).dome = h.dome := by simp [Hub.excActivate]

@[simp] theorem excCfgStore_dome (r m n : Nat) (v : Word) (h : Hub) : (excCfgStore r m n v h).dome = h.dome := by simp [excCfgStore]

@[simp] theorem inrushExcEnable_dome (r n t : Nat) (h : Hub) : (inrushExcEnable r n t h).dome = h.dome := by simp [inrushExcEnable]

@[simp] theorem excLimitEnter_dome (r n uA : Nat) (h : Hub) : (excLimitEnter r n uA h).dome = h.dome := by simp [excLimitEnter]

@[simp] theorem excLimitExit_dome (r n uA : Nat) (h : Hub) : (excLimitExit r n uA h).dome = h.dome := by simp [excLimitExit]

@[simp] theorem excTrip_dome (r n : Nat) (h : Hub) : (excTrip r n h).dome = h.dome := by simp [excTrip]

@[simp] theorem excStatusStore_dome (n : Nat) (v keep : Word) (h : Hub) :
    (excStatusStore n v keep h).dome = h.dome := by simp [excStatusStore]

@[simp] theorem excCtrlStore_dome (r m n : Nat) (v : Word) (h : Hub) : (excCtrlStore r m n v h).dome = h.dome := by
  simp [excCtrlStore]

@[simp] theorem excReversal_dome (n f period : Nat) (h : Hub) : (excReversal n f period h).dome = h.dome := by simp [excReversal]

@[simp] theorem excSenseBreak_dome (r n : Nat) (h : Hub) : (excSenseBreak r n h).dome = h.dome := by
  -- the readings are named, for the kernel would evaluate them to compare the branches
  obtain ⟨seen, hs⟩ : ∃ seen, h.senseCheck n = seen := ⟨_, rfl⟩
  simp only [excSenseBreak, hs]
  split
  · rfl
  · split <;> simp

/-! ### Machine/Sentry -/

@[simp] theorem Hub.modSen_dome (h : Hub) (g : Nat) (f : Sentry → Sentry) : (h.modSen g f).dome = h.dome := (rfl)

@[simp] theorem Hub.senQuiet_dome (h : Hub) (n c : Nat) : (h.senQuiet n c).dome = h.dome := (rfl)

@[simp] theorem Hub.senStart_dome (h : Hub) (n c : Nat) : (h.senStart n c).dome = h.dome := by simp [Hub.senStart]

@[simp] theorem Hub.senEnd_dome (h : Hub) (n c : Nat) (long : Bool) : (h.senEnd n c long).dome = h.dome := by simp [Hub.senEnd]

@[simp] theorem Hub.senFinish_dome (h : Hub) (n c : Nat) : (h.senFinish n c).dome = h.dome := by simp [Hub.senFinish]

@[simp] theorem Hub.senUnlock_dome (h : Hub) (n c : Nat) : (h.senUnlock n c).dome = h.dome := by simp [Hub.senUnlock]

@[simp] theorem Hub.senTurn_dome (h : Hub) (n c : Nat) : (h.senTurn n c).dome = h.dome := by simp [Hub.senTurn]

@[simp] theorem Hub.senSample_dome (h : Hub) (n c : Nat) (i : Int) : (h.senSample n c i).dome = h.dome := by
  have turn := h.senTurn_dome n c
  obtain ⟨g, hg⟩ : ∃ g, h.senTurn n c = g := ⟨_, rfl⟩
  obtain ⟨x, fl, hx⟩ : ∃ x fl, g.fastTap n c i = (x, fl) := ⟨_, _, rfl⟩
  rw [hg] at turn
  simp only [Hub.senSample, hg, hx]
  split
  · exact turn
  · rw [Hub.setChan_dome, Hub.setFld_dome]
    split
    · split <;> simpa only [Hub.snd_dome_ite, Hub.drawQuotient_dome, Hub.setChan_dome, ite_self] using turn
    · split <;> exact turn
    · split <;> exact turn

@[simp] theorem Hub.senMissing_dome (h : Hub) (n c : Nat) (i : Int) : (h.senMissing n c i).dome = h.dome := by
  unfold Hub.senMissing
  split <;> simp

@[simp] theorem Hub.senArrive_dome (h : Hub) (n c : Nat) (i : Int) : (h.senArrive n c i).dome = h.dome := by simp [Hub.senArrive]

@[simp] theorem Hub.senHole_dome (h : Hub) (n c last : Nat) : (h.senHole n c last).dome = h.dome := by
  unfold Hub.senHole
  split <;> simp

@[simp] theorem sentryHitStart_dome (n c : Nat) (h : Hub) : (sentryHitStart n c h).dome = h.dome := by simp [sentryHitStart]

@[simp] theorem sentryHitEnd_dome (r n c : Nat) (h : Hub) : (sentryHitEnd r n c h).dome = h.dome := by simp [sentryHitEnd]

@[simp] theorem sentryHitLong_dome (r n c : Nat) (h : Hub) : (sentryHitLong r n c h).dome = h.dome := by simp [sentryHitLong]

@[simp] theorem sentryLockoutEnd_dome (r n c : Nat) (h : Hub) : (sentryLockoutEnd r n c h).dome = h.dome := by
  simp [sentryLockoutEnd]

@[simp] theorem senCfgStore_dome (r m n c : Nat) (v : Word) (h : Hub) : (senCfgStore r m n c v h).dome = h.dome := by
  simp [senCfgStore]

/-! ### Machine/Filter -/

@[simp] theorem Hub.deliverCode_dome (n : Nat) (e : FifoCode) (h : Hub) : (Hub.deliverCode n e h).dome = h.dome := by
  unfold Hub.deliverCode
  split <;> simp

@[simp] theorem Hub.drainFifo_dome (h : Hub) (r n : Nat) : (h.drainFifo r n).dome = h.dome := by simp [Hub.drainFifo]

@[simp] theorem userCurveStore_dome (r m a : Nat) (v : Word) (h : Hub) : (userCurveStore r m a v h).dome = h.dome := by
  simp [userCurveStore]

@[simp] theorem Hub.feedPorts_dome (h : Hub) (kind src : Nat) (e : PortElem) :
    (h.feedPorts kind src e).dome = h.dome := by simp [Hub.feedPorts]

@[simp] theorem Hub.outputCore_dome (h : Hub) (n c tb : Nat) (a : Int) (t : Nat) (w : List RawSample) :
    (h.outputCore n c tb a t w).2.2.2.dome = h.dome := by simp [Hub.outputCore]

@[simp] theorem Hub.outputBy_dome (h : Hub) (now n c : Nat) : (h.outputBy now n c).dome = h.dome := by
  unfold Hub.outputBy
  extract_lets
  split
  · rfl
  · split
    next made =>
      replace made := congrArg (fun p => p.2.2.dome) made
      simp only [apply_ite Prod.snd, Hub.dome_ite, Hub.outputCore_dome, ite_self] at made
      simp [made]

@[simp] theorem filterOutput_dome (r n c : Nat) (h : Hub) : (filterOutput r n c h).dome = h.dome := by simp [filterOutput]

@[simp] theorem Hub.outputsBefore_dome (n c t : Nat) : ∀ (k : Nat) (h : Hub), (Hub.outputsBefore n c t k h).dome = h.dome
  | 0, _ => rfl
  | k + 1, h => by simp [Hub.outputsBefore, Hub.outputsBefore_dome n c t k]

@[simp] theorem filterCommit_dome (n : Nat) (h : Hub) : (filterCommit n h).dome = h.dome := by
  unfold filterCommit
  split <;> (try split) <;> simp

@[simp] theorem Hub.describePlain_dome (h : Hub) (n c : Nat) : (h.describePlain n c).dome = h.dome := by simp [Hub.describePlain]

@[simp] theorem Hub.rateChange_canonical (h : Hub) (n c f : Nat) (old : FiltCfg) (w : h.Canonical) :
    Memory.wf (h.rateChange n c f old).dome = true := by
  unfold Hub.rateChange
  exact Hub.Canonical.ite w (.ite (Hub.seal_canonical _ _ _ w) w)

@[simp] theorem feCfgTakeEffect_dome (n c f : Nat) (h : Hub) : (feCfgTakeEffect n c f h).dome = h.dome := by simp [feCfgTakeEffect]

@[simp] theorem Hub.filtChanged_canonical (h : Hub) (n c f : Nat) (old : FiltCfg) (w : h.Canonical) :
    Memory.wf (h.filtChanged n c f old).dome = true := by simp [Hub.filtChanged, w.wf]

@[simp] theorem filterCommitApply_canonical (n f : Nat) (h : Hub) (w : h.Canonical) :
    Memory.wf (filterCommitApply n f h).dome = true := by
  unfold filterCommitApply
  split
  · exact w.wf
  · exact forIn'_canonical _ _ _ (fun p h => h.filtChanged_canonical n p.1 f p.2) (.of_dome (by simp) w)

/-! ### Machine/Spire -/

@[simp] theorem schedCommit_dome (n : Nat) (h : Hub) : (schedCommit n h).dome = h.dome := by
  unfold schedCommit
  split <;> (try split) <;> simp

@[simp] theorem schedCommitApply_canonical (n f : Nat) (h : Hub) (w : h.Canonical) :
    Memory.wf (schedCommitApply n f h).dome = true := by
  unfold schedCommitApply
  split
  · exact w
  · refine forIn'_canonical _ _ _ (fun p h w => ?_) (.of_dome ?_ w)
    · exact Hub.filtChanged_canonical _ _ _ _ _ w
    · simp

@[simp] theorem Hub.skewed_dome (h : Hub) (n col : Nat) (code : Int) : (h.skewed n col code).2.dome = h.dome := by simp [Hub.skewed]

@[simp] theorem Hub.pushCode_dome (h : Hub) (r n : Nat) (e : FifoCode) : (h.pushCode r n e).dome = h.dome := by simp [Hub.pushCode]

@[simp] theorem Hub.comparePair_dome (h : Hub) (n slot f : Nat) (pair : Int × Int) :
    (h.comparePair n slot f pair).dome = h.dome := by simp [Hub.comparePair]

@[simp] theorem Hub.houseCode_dome (h : Hub) (r n slot f : Nat) (code : Int) :
    (h.houseCode r n slot f code).dome = h.dome := by
  unfold Hub.houseCode
  split <;> simp

@[simp] theorem rawCodeConvert_dome (r n slot f : Nat) (code : Int) (pair : Option (Int × Int)) (h : Hub) :
    (rawCodeConvert r n slot f code pair h).dome = h.dome := by
  unfold rawCodeConvert
  extract_lets h1
  have e1 : h1.dome = h.dome := by simp only [h1]; split <;> simp
  split
  · rfl
  · split
    next hs =>
      have e2 := (Hub.dome_of_snd hs (by simp)).trans e1
      split
      · simp [e2]
      · split
        · exact e2
        · split <;> simp [e2]

@[simp] theorem trimRequest_dome (r n reason : Nat) (h : Hub) : (trimRequest r n reason h).dome = h.dome := by simp [trimRequest]

@[simp] theorem refCheckAverage_dome (r n : Nat) (h : Hub) : (refCheckAverage r n h).dome = h.dome := by simp [refCheckAverage]

@[simp] theorem Hub.setRot_dome (h : Hub) (n s : Nat) : (h.setRot n s).dome = h.dome := (rfl)

@[simp] theorem Hub.startCompare_dome (h : Hub) (t n : Nat) : (h.startCompare t n).dome = h.dome := (rfl)

@[simp] theorem spareCalStart_dome (n : Nat) (h : Hub) : (spareCalStart n h).dome = h.dome := by simp [spareCalStart]

@[simp] theorem Hub.swapAbort_dome (h : Hub) (r n cls : Nat) : (h.swapAbort r n cls).dome = h.dome := by simp [Hub.swapAbort]

@[simp] theorem sliceCalComplete_dome (r n : Nat) (ofs gain inl : Int) (coef : List Word) (h : Hub) :
    (sliceCalComplete r n ofs gain inl coef h).dome = h.dome := by simp [sliceCalComplete]

@[simp] theorem rotCfgStore_dome (r m n : Nat) (v : Word) (h : Hub) : (rotCfgStore r m n v h).dome = h.dome := by simp [rotCfgStore]

@[simp] theorem swapCompareDone_dome (r n : Nat) (h : Hub) : (swapCompareDone r n h).dome = h.dome := by simp [swapCompareDone]

@[simp] theorem Hub.forcedVerdict_dome (h : Hub) (n : Nat) : (h.forcedVerdict n).2.dome = h.dome := by simp [Hub.forcedVerdict]

@[simp] theorem swapVerdict_dome (r n : Nat) (h : Hub) : (swapVerdict r n h).dome = h.dome := by
  unfold swapVerdict
  split
  · split
    next forced h1 hs =>
      have e1 : h1.dome = h.dome := Hub.dome_of_snd hs (by simp)
      extract_lets h2
      have e2 : h2.dome = h.dome := by simp only [h2]; split <;> simp [e1]
      split <;> simp [e2]
  · rfl

@[simp] theorem Hub.closeForSwap_dome (h : Hub) (n : Nat) : (h.closeForSwap n).dome = h.dome := by simp [Hub.closeForSwap]

@[simp] theorem drainQueueClose_dome (n : Nat) (h : Hub) : (drainQueueClose n h).dome = h.dome := by simp [drainQueueClose]

@[simp] theorem drainForced_dome (n : Nat) (h : Hub) : (drainForced n h).dome = h.dome := by simp [drainForced]

@[simp] theorem sliceSwap_dome (r n : Nat) (h : Hub) : (sliceSwap r n h).dome = h.dome := by
  refine Hub.ite_dome ?_ rfl
  refine Hub.ite_dome ?_ ?_
  · rw [Hub.injOpen_dome]
    simp
  · simp

/-! ### Machine/Calib -/

@[simp] theorem tempUpdate_dome (r n : Nat) (h : Hub) : (tempUpdate r n h).dome = h.dome := by simp [tempUpdate]

@[simp] theorem dieTempRead_dome (v : Word) (h : Hub) : (dieTempRead v h).dome = h.dome := by simp [dieTempRead]

@[simp] theorem trimHoldMaxReached_dome (r n : Nat) (h : Hub) : (trimHoldMaxReached r n h).dome = h.dome := by
  simp [trimHoldMaxReached]

@[simp] theorem Hub.trimIssue_dome (h : Hub) (r n : Nat) : (h.trimIssue r n).dome = h.dome := by simp [Hub.trimIssue]

@[simp] theorem trimEvaluation_dome (r : Nat) (h : Hub) : (trimEvaluation r h).dome = h.dome := by
  unfold trimEvaluation
  split <;> simp

@[simp] theorem trimStart_dome (r n : Nat) (h : Hub) : (trimStart r n h).dome = h.dome := by simp [trimStart]

@[simp] theorem Hub.noteCal_dome (h h0 : Hub) (f a : Nat) : (h.noteCal h0 f a).dome = h.dome := by simp [Hub.noteCal]

@[simp] theorem Hub.calWrite_dome (h : Hub) (f a : Nat) (v : Word) : (h.calWrite f a v).dome = h.dome := by simp [Hub.calWrite]

@[simp] theorem Hub.trimChannel_dome (r n f c : Nat) (v : Word × Word × Word) (h : Hub) :
    (Hub.trimChannel r n f c v h).dome = h.dome := by simp [Hub.trimChannel]

@[simp] theorem Hub.trimReopen_dome (h : Hub) (t n : Nat) : (h.trimReopen t n).dome = h.dome := by simp [Hub.trimReopen]

@[simp] theorem trimEnd_dome (r n : Nat) (v : TrimResult) (h : Hub) : (trimEnd r n v h).dome = h.dome := by simp [trimEnd]

@[simp] theorem trimCfgStore_dome (r m : Nat) (v : Word) (h : Hub) : (trimCfgStore r m v h).dome = h.dome := by simp [trimCfgStore]

@[simp] theorem Hub.applyRestore_dome (h : Hub) (f : Nat) (vals : List (Nat × Word)) :
    (h.applyRestore f vals).dome = h.dome := by simp [Hub.applyRestore]

/-! ### Machine/Lantern -/

@[simp] theorem Hub.ppsGate_dome (h : Hub) : h.ppsGate.dome = h.dome := by simp [Hub.ppsGate]

@[simp] theorem Hub.showReported_dome (h : Hub) : h.showReported.dome = h.dome := by simp [Hub.showReported]

@[simp] theorem Hub.setTimeState_dome (h : Hub) (r s : Nat) : (h.setTimeState r s).dome = h.dome := by simp [Hub.setTimeState]

@[simp] theorem pllLock_dome (h : Hub) : (pllLock h).dome = h.dome := by simp [pllLock]

@[simp] theorem lanCfgStore_dome (v : Word) (h : Hub) : (lanCfgStore v h).dome = h.dome := by simp [lanCfgStore]

@[simp] theorem refclkLoss_dome (r : Nat) (h : Hub) : (refclkLoss r h).dome = h.dome := by simp [refclkLoss]

@[simp] theorem refclkReturn_dome (h : Hub) : (refclkReturn h).dome = h.dome := by simp [refclkReturn]

@[simp] theorem Hub.stageServo_dome (h : Hub) (r : Nat) (k : ServoKind) (rate step : Int) (set : Nat) :
    (h.stageServo r k rate step set).dome = h.dome := (rfl)

@[simp] theorem servoCtrlStore_dome (r : Nat) (v : Word) (h : Hub) : (servoCtrlStore r v h).dome = h.dome := by
  simp [servoCtrlStore]

@[simp] theorem Hub.timeSource_dome (h : Hub) (r src : Nat) : (h.timeSource r src).2.dome = h.dome := by
  unfold Hub.timeSource
  split <;> (try split) <;> simp

@[simp] theorem Hub.lockEvent_dome (h : Hub) (r : Nat) (theta : Int) : (h.lockEvent r theta).dome = h.dome := by
  unfold Hub.lockEvent
  split <;> simp

@[simp] theorem Hub.measured_dome (h : Hub) (theta : Int) (k : Clock) : (h.measured theta k).dome = h.dome := (rfl)

@[simp] theorem servoMeasurement_dome (r : Nat) (h : Hub) : (servoMeasurement r h).dome = h.dome := by
  unfold servoMeasurement
  split <;> simp

@[simp] theorem timeHoldoverEnter_dome (r : Nat) (h : Hub) : (timeHoldoverEnter r h).dome = h.dome := by simp [timeHoldoverEnter]

@[simp] theorem holdoverTimeout_dome (r : Nat) (h : Hub) : (holdoverTimeout r h).dome = h.dome := by simp [holdoverTimeout]

@[simp] theorem Hub.capture_dome (h : Hub) (r : Nat) : (h.capture r).2.dome = h.dome := (rfl)

@[simp] theorem Hub.snapshot_dome (h : Hub) (r m : Nat) : (h.snapshot r m).dome = h.dome := (rfl)

@[simp] theorem Hub.ppsMeasure_dome (h : Hub) (i : Nat) (rise : Bool) (t : Nat) :
    (h.ppsMeasure i rise t).dome = h.dome := by simp [Hub.ppsMeasure]

@[simp] theorem Hub.trigEdge_dome (h : Hub) (r i : Nat) (rise : Bool) : (h.trigEdge r i rise).2.dome = h.dome := by
  simp [Hub.trigEdge]

@[simp] theorem Hub.trigPop_dome (h : Hub) (i : Nat) : (h.trigPop i).2.dome = h.dome := by
  unfold Hub.trigPop
  split <;> rfl

@[simp] theorem Hub.align_dome (h : Hub) : h.align.dome = h.dome := (rfl)

@[simp] theorem gridPhaseMeasure_dome (r : Nat) (e : Int) (h : Hub) : (gridPhaseMeasure r e h).dome = h.dome := by
  simp [gridPhaseMeasure]

@[simp] theorem gridCtrlStore_dome (r m : Nat) (v : Word) (h : Hub) : (gridCtrlStore r m v h).dome = h.dome := by
  simp [gridCtrlStore]

@[simp] theorem gridAlignComplete_dome (h : Hub) : (gridAlignComplete h).dome = h.dome := by simp [gridAlignComplete]

@[simp] theorem Hub.armAlarm_dome (h : Hub) (r a : Nat) (w0 w1 w2 : Word) (per action : Nat) (mask : Word) :
    (h.armAlarm r a w0 w1 w2 per action mask).2.dome = h.dome := by simp [Hub.armAlarm]

@[simp] theorem Hub.disarm_dome (h : Hub) (a : Nat) : (h.disarm a).dome = h.dome := (rfl)

@[simp] theorem almCtrlStore_dome (r m a : Nat) (v : Word) (h : Hub) : (almCtrlStore r m a v h).dome = h.dome := by
  simp [almCtrlStore]

@[simp] theorem Hub.trigOutFire_dome (h : Hub) (r a : Nat) : (h.trigOutFire r a).dome = h.dome := by simp [Hub.trigOutFire]

@[simp] theorem Hub.trigOutOff_dome (h : Hub) (p : Nat) : (h.trigOutOff p).dome = h.dome := (rfl)

@[simp] theorem trigOutPulseEnd_dome (r p : Nat) (h : Hub) : (trigOutPulseEnd r p h).dome = h.dome := by
  unfold trigOutPulseEnd
  split <;> simp

@[simp] theorem trigOutCfgStore_dome (r m p : Nat) (v : Word) (h : Hub) :
    (trigOutCfgStore r m p v h).dome = h.dome := by simp [trigOutCfgStore]

@[simp] theorem ppsOutPulse_dome (r : Nat) (h : Hub) : (ppsOutPulse r h).dome = h.dome := by simp [ppsOutPulse]

@[simp] theorem ppsOutPulseEnd_dome (r : Nat) (h : Hub) : (ppsOutPulseEnd r h).dome = h.dome := by
  unfold ppsOutPulseEnd
  split <;> simp

/-! ### Machine/Cape -/

@[simp] theorem Hub.modUnit_dome (h : Hub) (u : Nat) (f : CapUnit → CapUnit) : (h.modUnit u f).dome = h.dome := (rfl)

@[simp] theorem Hub.setCap_dome (h : Hub) (u s : Nat) : (h.setCap u s).dome = h.dome := (rfl)

@[simp] theorem Hub.trigLog_dome (h : Hub) (u : Nat) (t : CapTrig) (reason : Nat) :
    (h.trigLog u t reason).dome = h.dome := by simp [Hub.trigLog, -Hub.wr_dome]

@[simp] theorem Hub.trigMissed_dome (h : Hub) (u : Nat) (t : CapTrig) (reason : Nat) :
    (h.trigMissed u t reason).dome = h.dome := by simp [Hub.trigMissed]

@[simp] theorem Hub.armSlot_canonical (h : Hub) (u s t : Nat) (w : h.Canonical) :
    Memory.wf (h.armSlot u s t).dome = true := by
  refine Hub.Canonical.ite (.of_dome (by simp) w) ?_
  exact Hub.domeWrite_canonical _ _ _ _ (Hub.domeWrite_canonical _ _ _ _ (.of_dome (by simp) w))

@[simp] theorem Hub.armOrFull_canonical (h : Hub) (u start t : Nat) (w : h.Canonical) :
    Memory.wf (h.armOrFull u start t).dome = true := by
  unfold Hub.armOrFull
  split <;> simp [w.wf]

@[simp] theorem Hub.capArm_canonical (h : Hub) (r u m x : Nat) (w : h.Canonical) :
    Memory.wf (h.capArm r u m x).2.dome = true := by
  simp [Hub.capArm, w.wf]

@[simp] theorem Hub.streamBytes_dome (h : Hub) (u : Nat) (b : List Byte) (starts ends : Bool) :
    (h.streamBytes u b starts ends).dome = h.dome := (rfl)

@[simp] theorem Hub.closeRecord_dome (h : Hub) (u status : Nat) : (h.closeRecord u status).dome = h.dome := by
  simp [Hub.closeRecord]

@[simp] theorem Hub.openRecord_canonical (h : Hub) (u : Nat) (s0 : Int) (w : h.Canonical) :
    Memory.wf (h.openRecord u s0).dome = true := by
  refine Hub.Canonical.ite (.of_dome (forN_dome _ _ _ ?_) (Hub.domeBytes_canonical _ _ _ (.of_dome ?_ w))) (.of_dome ?_ w)
  · simp
  · simp
  · simp

@[simp] theorem Hub.closeDone_dome (h : Hub) (u : Nat) : (h.closeDone u).dome = h.dome := by simp [Hub.closeDone]

@[simp] theorem Hub.storeSet_canonical (h : Hub) (u : Nat) (g : Int) (parts : List (List Byte × Bool × Bool)) (w : h.Canonical) :
    Memory.wf (h.storeSet u g parts).dome = true := by
  simp [Hub.storeSet, w.wf]

@[simp] theorem captureSetStored_canonical (r u : Nat) (h : Hub) (w : h.Canonical) :
    Memory.wf (captureSetStored r u h).dome = true := by
  refine Hub.Canonical.ite w (Hub.Canonical.ite (.of_dome (by simp) w) ?_)
  extract_lets g c0 h1 parts h2 h3 h4
  have w2 : h2.Canonical := Hub.Canonical.ite (Hub.openRecord_canonical _ _ _ w) w
  have w3 : h3.Canonical := Hub.storeSet_canonical _ _ _ _ w2
  exact .of_dome (by simp [h4]) w3

@[simp] theorem captureRearm_canonical (r u : Nat) (h : Hub) (w : h.Canonical) :
    Memory.wf (captureRearm r u h).dome = true := by
  simp [captureRearm, w.wf]

@[simp] theorem Hub.addTrig_dome (h : Hub) (u : Nat) (t : CapTrig) : (h.addTrig u t).dome = h.dome := (rfl)

@[simp] theorem Hub.addTrigs_dome (h : Hub) (sel : Nat → Bool) (t : CapTrig) : (h.addTrigs sel t).dome = h.dome := by
  simp [Hub.addTrigs]

@[simp] theorem Hub.takeHits_dome (h : Hub) (r : Nat) : (h.takeHits r).dome = h.dome := by simp [Hub.takeHits]

@[simp] theorem Hub.spanOriginate_dome (h : Hub) (r u : Nat) (t : CapTrig) : (h.spanOriginate r u t).dome = h.dome := by
  simp [Hub.spanOriginate]

@[simp] theorem Hub.handleTrig_canonical (h : Hub) (r u : Nat) (t : CapTrig) (w : h.Canonical) :
    Memory.wf (h.handleTrig r u t).dome = true := by
  unfold Hub.handleTrig
  extract_lets st x take s0
  have taken : LeavesDome take := fun h => by simp [take]
  simp [taken _, w.wf]

@[simp] theorem captureTrigger_canonical (r u : Nat) (h : Hub) (w : h.Canonical) :
    Memory.wf (captureTrigger r u h).dome = true := by
  unfold captureTrigger
  extract_lets h1
  have w1 : h1.Canonical := .of_dome (by simp [h1]) w
  split
  · exact w1
  · extract_lets others h2 off h3
    have w2 : h2.Canonical := .of_dome (by simp only [h2, Hub.modUnit_dome]) w1
    have w3 : h3.Canonical := Hub.handleTrig_canonical _ _ _ _ w2
    exact Hub.Canonical.ite w3 (.of_dome (forIn'_dome _ _ _ (by simp)) w3)

@[simp] theorem hitLostLog_dome (n : Nat) (h : Hub) : (hitLostLog n h).dome = h.dome := by
  unfold hitLostLog
  extract_lets q
  split
  · exact Hub.ite_dome (by simp) rfl
  · rfl

@[simp] theorem trigInEdge_dome (r i : Nat) (rise : Bool) (h : Hub) : (trigInEdge r i rise h).dome = h.dome := by
  unfold trigInEdge
  split
  next h' hs =>
    have e : h'.dome = h.dome := Hub.dome_of_snd hs (by simp)
    simp [e]
  next hs => exact Hub.dome_of_snd hs (by simp)

@[simp] theorem spanTrig_dome (r : Nat) (m : SpanMsg) (h : Hub) : (spanTrig r m h).dome = h.dome := by simp [spanTrig]

@[simp] theorem Hub.capIdle_dome (h : Hub) (u : Nat) : (h.capIdle u).dome = h.dome := by
  unfold Hub.capIdle
  extract_lets st h1
  have e : h1.dome = h.dome := by
    refine Hub.ite_dome (by simp) (Hub.ite_dome ?_ rfl)
    split <;> simp
  exact Hub.ite_dome e (by simp [e])

@[simp] theorem Hub.capDisarm_dome (h : Hub) (u m x : Nat) : (h.capDisarm u m x).2.dome = h.dome := by simp [Hub.capDisarm]

@[simp] theorem Hub.capFire_dome (h : Hub) (r u time src detail : Nat) :
    (h.capFire r u time src detail).2.dome = h.dome := by simp [Hub.capFire]

@[simp] theorem Hub.freeSlot_canonical (h : Hub) (r u s : Nat) (w : h.Canonical) :
    Memory.wf (h.freeSlot r u s).dome = true := by
  simp [Hub.freeSlot, w.wf]

@[simp] theorem Hub.capRelease_canonical (h : Hub) (r u s : Nat) (w : h.Canonical) :
    Memory.wf (h.capRelease r u s).2.dome = true := by
  simp [Hub.capRelease, w.wf]

@[simp] theorem capCtrlStore_canonical (r m u : Nat) (v : Word) (h : Hub) (w : h.Canonical) :
    Memory.wf (capCtrlStore r m u v h).dome = true := by
  unfold capCtrlStore
  split
  next hs =>
    rw [Hub.wr_dome]
    refine Hub.canonical_of_snd hs ?_
    split <;> simp [w.wf]

@[simp] theorem recordDeliver_dome (r u : Nat) (h : Hub) : (recordDeliver r u h).dome = h.dome := by
  unfold recordDeliver
  refine Hub.ite_dome rfl ?_
  split <;> simp

@[simp] theorem Hub.capStop_dome (h : Hub) : h.capStop.dome = h.dome := by simp [Hub.capStop]

@[simp] theorem Hub.capClear_dome (h : Hub) : h.capClear.dome = h.dome := by simp [Hub.capClear]

/-! ### Machine/Measure -/

@[simp] theorem recordMeasured_canonical (r : Nat) (h : Hub) (w : h.Canonical) :
    Memory.wf (recordMeasured r h).dome = true := by
  unfold recordMeasured
  split
  · exact w
  · extract_lets c0 h1
    split
    · exact w
    · extract_lets q
      split
      extract_lets h2 h3 h4 h5 h6 h7
      have w5 : h5.Canonical := Hub.domeWrite_canonical _ _ _ _ (Hub.domeWrite_canonical _ _ _ _
        (Hub.domeBytes_canonical _ _ _ (Hub.domeBytes_canonical _ _ _ w)))
      have w7 : h7.Canonical := .of_dome (by simp [h7, h6]) w5
      exact Hub.Canonical.ite (Hub.armOrFull_canonical _ _ _ _ w7) w7

/-! ### Machine/Context -/

@[simp] theorem Hub.setG_dome (h : Hub) (c k : Nat) (v : Word) : (h.setG c k v).dome = h.dome := (rfl)

@[simp] theorem Hub.setW_dome (h : Hub) (c j : Nat) (v : BitVec 80) : (h.setW c j v).dome = h.dome := (rfl)

@[simp] theorem Hub.setQ_dome (h : Hub) (c n : Nat) (b : Bool) : (h.setQ c n b).dome = h.dome := (rfl)

@[simp] theorem Hub.setPc_dome (h : Hub) (c n : Nat) : (h.setPc c n).dome = h.dome := (rfl)

@[simp] theorem Hub.lockFree_dome (h : Hub) (l : Nat) : (h.lockFree l).dome = h.dome := (rfl)

@[simp] theorem Hub.releaseLocks_dome (h : Hub) (r c : Nat) : (h.releaseLocks r c).dome = h.dome := by simp [Hub.releaseLocks]

@[simp] theorem Hub.applyCopy_dome (h : Hub) (c : Nat) : (h.applyCopy c).dome = h.dome := by
  unfold Hub.applyCopy
  split <;> simp

@[simp] theorem Hub.startAct_dome (h : Hub) (c : Nat) : (h.startAct c).dome = h.dome := by simp [Hub.startAct]

@[simp] theorem Hub.activate_dome (h : Hub) (c : Nat) : (h.activate c).dome = h.dome := by
  unfold Hub.activate
  split <;> simp

@[simp] theorem Hub.paceAct_dome (h : Hub) (r c : Nat) : (h.paceAct r c).dome = h.dome := by simp [Hub.paceAct]

@[simp] theorem Hub.toggleAct_dome (h : Hub) (r c : Nat) : (h.toggleAct r c).dome = h.dome := by
  unfold Hub.toggleAct
  split <;> simp

@[simp] theorem toggleAckComplete_dome (r c : Nat) (h : Hub) : (toggleAckComplete r c h).dome = h.dome := by
  unfold toggleAckComplete
  split <;> simp

@[simp] theorem activationPacingRelease_dome (r c : Nat) (h : Hub) : (activationPacingRelease r c h).dome = h.dome := by
  simp [activationPacingRelease]

@[simp] theorem Hub.alarmActs_dome (h : Hub) (r a : Nat) : (h.alarmActs r a).dome = h.dome := by simp [Hub.alarmActs]

@[simp] theorem Hub.mailActs_dome (h : Hub) (r t ch : Nat) : (h.mailActs r t ch).dome = h.dome := by simp [Hub.mailActs]

@[simp] theorem Hub.signalTrig_dome (fuel : Nat) : ∀ (h : Hub) (c : Nat), (h.signalTrig c fuel).dome = h.dome := by
  induction fuel with
  | zero => exact fun _ _ => rfl
  | succ fuel ih =>
    intro h c
    rw [Hub.signalTrig]
    split
    · refine Hub.ite_dome ?_ rfl
      rw [ih]
      simp
    · rfl

@[simp] theorem Hub.arrive_canonical (h : Hub) (c p : Nat) (e : PortElem) (w : h.Canonical) :
    Memory.wf (h.arrive c p e).dome = true := by
  unfold Hub.arrive
  extract_lets x b full t b' x' m
  split
  · exact w
  · extract_lets a h1 trig h2 h3
    have w1 : h1.Canonical := Hub.domeWrite_canonical _ _ _ _ (Hub.domeWrite_canonical _ _ _ _ w)
    have w2 : h2.Canonical := .ite w (.of_dome (Hub.dome_setCtx _ _ _) w1)
    have w3 : h3.Canonical := .of_dome (Hub.signalTrig_dome _ _ _) w2
    exact Hub.Canonical.ite (.of_dome (Hub.setFld_dome _ _ _ _ _) w3) w3

@[simp] theorem stageElementArrive_canonical (h : Hub) (w : h.Canonical) : Memory.wf (stageElementArrive h).dome = true := by
  unfold stageElementArrive
  split
  · exact w
  · exact Hub.arrive_canonical _ _ _ _ w

@[simp] theorem Hub.dropBacklog_dome (h : Hub) (t c : Nat) : (h.dropBacklog t c).dome = h.dome := by simp [Hub.dropBacklog]

@[simp] theorem Hub.gateTurret_dome (h : Hub) (t : Nat) : (h.gateTurret t).dome = h.dome := by simp [Hub.gateTurret]

@[simp] theorem Hub.ctxEnd_canonical (h : Hub) (r t c : Nat) (w : h.Canonical) :
    Memory.wf (h.ctxEnd r t c).dome = true := by
  unfold Hub.ctxEnd
  extract_lets now outs h1 h2
  have w1 : h1.Canonical := .of_dome (by simp [h1]) w
  have w2 : h2.Canonical := by
    refine forIn'_canonical _ _ _ (fun p h w => ?_) w1
    refine .of_dome (Hub.modCtx_dome _ _ _) (Hub.seal_canonical _ _ _ (Hub.declareGaps_canonical _ _ _ _ _ _ _ ?_))
    exact Hub.drainStream_canonical _ _ _ w
  exact Hub.Canonical.of_dome (by simp) w2

@[simp] theorem Hub.ctxStop_canonical (h : Hub) (r t c : Nat) (w : h.Canonical) :
    Memory.wf (h.ctxStop r t c).dome = true := by
  unfold Hub.ctxStop
  split <;> simp [w.wf]

@[simp] theorem Hub.ctxStopAll_canonical (h : Hub) (r t : Nat) (w : h.Canonical) :
    Memory.wf (h.ctxStopAll r t).dome = true :=
  forIn'_canonical _ _ _ (fun c h w => h.ctxStop_canonical r t c w) w

@[simp] theorem Hub.ctxFinish_canonical (r c : Nat) (h : Hub) (w : h.Canonical) :
    Memory.wf (Hub.ctxFinish r c h).dome = true := by
  unfold Hub.ctxFinish
  split <;> simp [w.wf]

@[simp] theorem Hub.haltCtx_canonical (h : Hub) (r c : Nat) (w : h.Canonical) :
    Memory.wf (h.haltCtx r c).dome = true := by
  unfold Hub.haltCtx
  extract_lets h1
  have w1 : h1.Canonical := .of_dome (by simp [h1]) w
  split
  · exact Hub.ctxEnd_canonical _ _ _ _ w1
  · exact w1

@[simp] theorem Hub.ctxFault_canonical (h : Hub) (r c code pc : Nat) (hard : Bool) (w : h.Canonical) :
    Memory.wf (h.ctxFault r c code pc hard).dome = true := by
  unfold Hub.ctxFault
  extract_lets t l h1 body
  have w1 : h1.Canonical := .of_dome (by simp [h1]) w
  have halted := Hub.haltCtx_canonical h1 r c w1
  exact Hub.Canonical.ite (.ite (.of_dome (by simp) halted) w1) (.of_dome (by simp) w1)

@[simp] theorem ctxCtrlHalt_canonical (r c : Nat) (h : Hub) (w : h.Canonical) :
    Memory.wf (ctxCtrlHalt r c h).dome = true := by simp [ctxCtrlHalt, w.wf]

@[simp] theorem ctxCtrlRestart_dome (r c : Nat) (h : Hub) : (ctxCtrlRestart r c h).dome = h.dome := by simp [ctxCtrlRestart]

@[simp] theorem ctxCtrlStore_canonical (r c : Nat) (v : Word) (h : Hub) (w : h.Canonical) :
    Memory.wf (ctxCtrlStore r c v h).dome = true := by
  have w1 : (if v.getLsbD 0 then ctxCtrlRestart r c h else h).Canonical := .ite (.of_dome (ctxCtrlRestart_dome r c h) w) w
  exact Hub.Canonical.ite (ctxCtrlHalt_canonical r c _ w1) w1

@[simp] theorem Hub.ctxStartAll_dome (h : Hub) : h.ctxStartAll.dome = h.dome := by simp [Hub.ctxStartAll]

/-! ### Machine/Mail -/

@[simp] theorem Hub.bindCommands_dome (h : Hub) : h.bindCommands.dome = h.dome := (rfl)

@[simp] theorem bindStore_dome (r m ch : Nat) (v : Word) (h : Hub) : (bindStore r m ch v h).dome = h.dome := by simp [bindStore]

@[simp] theorem bindLockStore_dome (v : Word) (h : Hub) : (bindLockStore v h).dome = h.dome := by simp [bindLockStore]

@[simp] theorem Hub.dbSet_dome (h : Hub) (k m ch : Nat) (b : Bool) : (h.dbSet k m ch b).dome = h.dome := (rfl)

@[simp] theorem Hub.ringMsg_dome (h : Hub) (r m ch : Nat) : (h.ringMsg r m ch).dome = h.dome := by simp [Hub.ringMsg]

@[simp] theorem Hub.setInflight_dome (h : Hub) (ch : Nat) (b : Bool) : (h.setInflight ch b).dome = h.dome := (rfl)

@[simp] theorem Hub.postAnswers_dome (h : Hub) (m ch : Nat) : (h.postAnswers m ch).dome = h.dome := by simp [Hub.postAnswers]

@[simp] theorem Hub.mbPost_dome (h : Hub) (r ch m : Nat) (v : Word) : (h.mbPost r ch m v).2.dome = h.dome := by simp [Hub.mbPost]

@[simp] theorem Hub.mbTake_dome (h : Hub) (ch m : Nat) : (h.mbTake ch m).2.dome = h.dome := by simp [Hub.mbTake]

@[simp] theorem Hub.lockRead_dome (h : Hub) (l m : Nat) : (h.lockRead l m).2.dome = h.dome := by simp [Hub.lockRead]

@[simp] theorem lockStore_dome (r m l : Nat) (v : Word) (h : Hub) : (lockStore r m l v h).dome = h.dome := by simp [lockStore]

@[simp] theorem Hub.lockBreak_dome (h : Hub) (r m l : Nat) : (h.lockBreak r m l).dome = h.dome := by simp [Hub.lockBreak]

@[simp] theorem lockForceStore_dome (r m : Nat) (v : Word) (h : Hub) : (lockForceStore r m v h).dome = h.dome := by
  simp [lockForceStore]

@[simp] theorem Hub.discardWord_dome (h : Hub) (r ch : Nat) : (h.discardWord r ch).dome = h.dome := by simp [Hub.discardWord]

@[simp] theorem Hub.masterReset_dome (h : Hub) (r m : Nat) : (h.masterReset r m).dome = h.dome := by simp [Hub.masterReset]

@[simp] theorem Hub.showHeld_dome (h : Hub) (m : Nat) (b : Bool) : (h.showHeld m b).dome = h.dome := by simp [Hub.showHeld]

@[simp] theorem masterResetStore_dome (r m : Nat) (v : Word) (h : Hub) : (masterResetStore r m v h).dome = h.dome := by
  simp [masterResetStore]

@[simp] theorem doorbellStore_dome (r m x a : Nat) (v : Word) (h : Hub) :
    (doorbellStore r m x a v h).dome = h.dome := by simp [doorbellStore]

@[simp] theorem Hub.startResets_dome (h : Hub) (r ch : Nat) : (h.startResets r ch).dome = h.dome := (rfl)

@[simp] theorem Hub.postResponse_dome (h : Hub) (r ch : Nat) (w : Word) : (h.postResponse r ch w).dome = h.dome := by
  simp [Hub.postResponse]

@[simp] theorem Hub.respond_dome (h : Hub) (r ch status result : Nat) :
    (h.respond r ch status result).dome = h.dome := by simp [Hub.respond]

@[simp] theorem responsePost_dome (r ch : Nat) (h : Hub) : (responsePost r ch h).dome = h.dome := by
  unfold responsePost
  split <;> simp

@[simp] theorem elogQueueWrite_dome (h : Hub) : (elogQueueWrite h).dome = h.dome := by
  unfold elogQueueWrite
  extract_lets lg
  split
  · rfl
  · exact Hub.ite_dome rfl rfl

@[simp] theorem elogFreeStore_dome (r m : Nat) (v : Word) (h : Hub) : (elogFreeStore r m v h).dome = h.dome := by
  simp [elogFreeStore]

/-! ### Machine/Turret -/

@[simp] theorem Hub.jitter_dome (h : Hub) (t k : Nat) : (h.jitter t k).dome = h.dome := by simp [Hub.jitter]

@[simp] theorem Hub.countIssue_dome (h : Hub) (c k : Nat) : (h.countIssue c k).dome = h.dome := by simp [Hub.countIssue]

@[simp] theorem Fx.done_canonical (x : Fx) (r c pc : Nat) (w : x.hub.Canonical) : Memory.wf (x.done r c pc).dome = true := by
  unfold Fx.done
  split <;> simp [w.wf]

@[simp] theorem Hub.issue_canonical (h : Hub) (r c k : Nat) (u : Uses) (f : Hub → Fx)
    (hf : ∀ h, h.Canonical → (f h).hub.Canonical) (w : h.Canonical) : Memory.wf (h.issue r c k u f).dome = true := by
  have issued : (f (h.countIssue c k)).hub.Canonical := hf _ (.of_dome (by simp) w)
  unfold Hub.issue
  simp [w.wf, Fx.done_canonical _ r c _ issued]

/-- An instruction whose effect leaves the Dome alone keeps the canonical form: a fault may still write a seal or a gap. -/
theorem Hub.issue_canonical_of_dome (h : Hub) (r c k : Nat) (u : Uses) (f : Hub → Fx) (hf : ∀ h, (f h).hub.dome = h.dome)
    (w : h.Canonical) : Memory.wf (h.issue r c k u f).dome = true :=
  h.issue_canonical r c k u f (fun h w => .of_dome (hf h) w) w

@[simp] theorem Fx.hub_dome_ite (c : Prop) [Decidable c] (a b : Fx) :
    (if c then a else b).hub.dome = if c then a.hub.dome else b.hub.dome := apply_ite (fun x : Fx => x.hub.dome) c a b

theorem Fx.ite_dome {c : Prop} [Decidable c] {a b : Fx} {h : Hub} (ea : a.hub.dome = h.dome) (eb : b.hub.dome = h.dome) :
    (if c then a else b).hub.dome = h.dome := by simp [ea, eb]

theorem Fx.ite_canonical {c : Prop} [Decidable c] {a b : Fx} (wa : a.hub.Canonical) (wb : b.hub.Canonical) :
    (if c then a else b).hub.Canonical := by split <;> assumption

@[simp] theorem Hub.issueG_canonical (h : Hub) (r c d : Nat) (srcs : List Nat) (f : Hub → Word) (w : h.Canonical) :
    Memory.wf (h.issueG r c d srcs f).dome = true :=
  h.issue_canonical_of_dome r c _ _ _ (fun h => by simp) w

@[simp] theorem undefinedWordIssue_canonical (r c : Nat) (h : Hub) (w : h.Canonical) :
    Memory.wf (undefinedWordIssue r c h).dome = true := by simp [undefinedWordIssue, w.wf]

@[simp] theorem wacc_canonical (r c d a form : Nat) (h : Hub) (w : h.Canonical) : Memory.wf (wacc r c d a form h).dome = true :=
  h.issue_canonical_of_dome r c _ _ _ (fun h => by simp) w

@[simp] theorem wsq_canonical (r c d a form : Nat) (h : Hub) (w : h.Canonical) : Memory.wf (wsq r c d a form h).dome = true :=
  h.issue_canonical_of_dome r c _ _ _ (fun h => by simp) w

@[simp] theorem wsub_canonical (r c d a b : Nat) (h : Hub) (w : h.Canonical) : Memory.wf (wsub r c d a b h).dome = true :=
  h.issue_canonical_of_dome r c _ _ _ (fun h => by simp) w

@[simp] theorem wshr_canonical (r c d a : Nat) (s : WideBy) (h : Hub) (w : h.Canonical) :
    Memory.wf (wshr r c d a s h).dome = true :=
  h.issue_canonical_of_dome r c _ _ _ (fun h => by simp) w

@[simp] theorem wrd_canonical (r c d a mode k : Nat) (h : Hub) (w : h.Canonical) :
    Memory.wf (wrd r c d a mode k h).dome = true :=
  h.issue_canonical_of_dome r c _ _ _ (fun h => by split <;> simp) w

@[simp] theorem wclr_canonical (r c d : Nat) (h : Hub) (w : h.Canonical) : Memory.wf (wclr r c d h).dome = true :=
  h.issue_canonical_of_dome r c _ _ _ (fun h => by simp) w

@[simp] theorem cmp_canonical (r c n comb rel a : Nat) (o : CmpWith) (h : Hub) (w : h.Canonical) :
    Memory.wf (cmp r c n comb rel a o h).dome = true :=
  h.issue_canonical_of_dome r c _ _ _ (fun h => by simp) w

@[simp] theorem Hub.branchTo_dome (h0 h : Hub) (c pc : Nat) (off : BitVec 22) (e : h.dome = h0.dome) :
    (h0.branchTo h c pc off).hub.dome = h0.dome := by simp [Hub.branchTo, e]

@[simp] theorem br_canonical (r c : Nat) (off : BitVec 22) (h : Hub) (w : h.Canonical) :
    Memory.wf (br r c off h).dome = true :=
  h.issue_canonical_of_dome r c _ _ _ (fun h => by simp) w

@[simp] theorem brq_canonical (r c n : Nat) (sense clr : Bool) (off : BitVec 22) (h : Hub) (w : h.Canonical) :
    Memory.wf (brq r c n sense clr off h).dome = true :=
  h.issue_canonical_of_dome r c _ _ _ (fun h => by simp) w

@[simp] theorem call_canonical (r c l : Nat) (off : BitVec 22) (h : Hub) (w : h.Canonical) :
    Memory.wf (call r c l off h).dome = true :=
  h.issue_canonical_of_dome r c _ _ _ (fun h => by simp) w

@[simp] theorem ret_canonical (r c l : Nat) (h : Hub) (w : h.Canonical) : Memory.wf (ret r c l h).dome = true :=
  h.issue_canonical_of_dome r c _ _ _ (fun h => by simp) w

@[simp] theorem loop_canonical (r c l : Nat) (off : BitVec 22) (h : Hub) (w : h.Canonical) :
    Memory.wf (loop r c l off h).dome = true :=
  h.issue_canonical_of_dome r c _ _ _ (fun h => by simp) w

@[simp] theorem Hub.addAcc_dome (h : Hub) (c : Nat) (a : DomeAccess) : (h.addAcc c a).dome = h.dome := (rfl)

@[simp] theorem Hub.loadFx_dome (h : Hub) (r c : Nat) (d : Dest) (a n : Nat) : (h.loadFx r c d a n).hub.dome = h.dome := by
  cases d <;> simp [Hub.loadFx]

@[simp] theorem Hub.storeFx_dome (h : Hub) (r c a n v : Nat) : (h.storeFx r c a n v).hub.dome = h.dome := by
  simp [Hub.storeFx]

@[simp] theorem ld_canonical (r c size d a : Nat) (imm : BitVec 14) (h : Hub) (w : h.Canonical) :
    Memory.wf (ld r c size d a imm h).dome = true :=
  h.issue_canonical_of_dome r c _ _ _ (fun h => h.loadFx_dome ..) w

@[simp] theorem st_canonical (r c size d a : Nat) (imm : BitVec 14) (h : Hub) (w : h.Canonical) :
    Memory.wf (st r c size d a imm h).dome = true :=
  h.issue_canonical_of_dome r c _ _ _ (fun h => h.storeFx_dome ..) w

@[simp] theorem ldw_canonical (r c n a : Nat) (imm : BitVec 14) (h : Hub) (w : h.Canonical) :
    Memory.wf (ldw r c n a imm h).dome = true :=
  h.issue_canonical_of_dome r c _ _ _ (fun h => h.loadFx_dome ..) w

@[simp] theorem stw_canonical (r c n a : Nat) (imm : BitVec 14) (h : Hub) (w : h.Canonical) :
    Memory.wf (stw r c n a imm h).dome = true :=
  h.issue_canonical_of_dome r c _ _ _ (fun h => h.storeFx_dome ..) w

@[simp] theorem Hub.dropAcc_dome (h : Hub) (c k : Nat) : (h.dropAcc c k).dome = h.dome := (rfl)

@[simp] theorem loadComplete_canonical (r c k : Nat) (h : Hub) (w : h.Canonical) :
    Memory.wf (loadComplete r c k h).dome = true := by
  unfold loadComplete
  split
  next d a n pc _ =>
    cases d
    · exact Hub.Canonical.ite (Hub.ctxFault_canonical _ _ _ _ _ _ (.of_dome (by simp) w)) (.of_dome (by simp) w)
    · exact Hub.Canonical.ite (Hub.ctxFault_canonical _ _ _ _ _ _ (.of_dome (by simp) w)) (.of_dome (by simp) w)
  · exact w

@[simp] theorem storeAccepted_canonical (c k : Nat) (h : Hub) (w : h.Canonical) :
    Memory.wf (storeAccepted c k h).dome = true := by
  unfold storeAccepted
  split <;> simp [w.wf]

@[simp] theorem Hub.setPair_dome (h : Hub) (c d : Nat) (v : Word × Word) : (h.setPair c d v).dome = h.dome := (rfl)

@[simp] theorem take_canonical (r c d : Nat) (p : PortSel) (n : Nat) (h : Hub) (w : h.Canonical) :
    Memory.wf (take r c d p n h).dome = true :=
  h.issue_canonical_of_dome r c _ _ _ (fun h => by simp) w

@[simp] theorem peek_canonical (r c d : Nat) (p : PortSel) (i : Nat) (h : Hub) (w : h.Canonical) :
    Memory.wf (peek r c d p i h).dome = true :=
  h.issue_canonical_of_dome r c _ _ _ (fun h => by simp) w

@[simp] theorem Hub.emitElem_dome (h : Hub) (e : LedElem) (k : Nat) : (h.emitElem e k).dome = h.dome := by simp [Hub.emitElem]

@[simp] theorem emit_canonical (r c d fmt : Nat) (sel : EmitSel) (h : Hub) (w : h.Canonical) :
    Memory.wf (emit r c d fmt sel h).dome = true := by
  refine h.issue_canonical_of_dome r c _ _ _ (fun h => ?_) w
  refine Fx.ite_dome rfl (Fx.ite_dome rfl (Fx.ite_dome rfl (Fx.ite_dome rfl (Fx.ite_dome rfl ?_))))
  split <;> simp

@[simp] theorem sealPort_canonical (r c : Nat) (p : PortSel) (h : Hub) (w : h.Canonical) :
    Memory.wf (sealPort r c p h).dome = true :=
  h.issue_canonical r c _ _ _
    (fun _ w => Fx.ite_canonical w (Hub.seal_canonical _ _ _ (Hub.drainStream_canonical _ _ _ w))) w

@[simp] theorem curve_canonical (r c d a num island m : Nat) (h : Hub) (w : h.Canonical) :
    Memory.wf (curve r c d a num island m h).dome = true :=
  h.issue_canonical_of_dome r c _ _ _ (fun h => by simp) w

@[simp] theorem Hub.quietCycle_dome (t : Nat) (h : Hub) : (Hub.quietCycle t h).dome = h.dome := by simp [Hub.quietCycle]

@[simp] theorem Hub.turretClock_dome (h : Hub) (r : Nat) : (h.turretClock r).dome = h.dome := by simp [Hub.turretClock]

@[simp] theorem time_canonical (r c d : Nat) (h : Hub) (w : h.Canonical) : Memory.wf (time r c d h).dome = true :=
  h.issue_canonical_of_dome r c _ _ _ (fun h => by simp) w

@[simp] theorem timeReply_dome (c : Nat) (h : Hub) : (timeReply c h).dome = h.dome := by
  unfold timeReply
  split <;> rfl

@[simp] theorem waitt_canonical (r c a : Nat) (h : Hub) (w : h.Canonical) : Memory.wf (waitt r c a h).dome = true :=
  h.issue_canonical_of_dome r c _ _ _ (fun h => by simp) w

@[simp] theorem waittResume_dome (r c : Nat) (h : Hub) : (waittResume r c h).dome = h.dome := by
  unfold waittResume
  split <;> simp

@[simp] theorem Fx.ofStatus_dome (h : Hub) (x : Nat × Hub) (e : x.2.dome = h.dome) : (Fx.ofStatus h x).hub.dome = h.dome := by
  simp [Fx.ofStatus, e]

@[simp] theorem Fx.ofStatus_canonical (h : Hub) (x : Nat × Hub) (w : h.Canonical) (wx : x.2.Canonical) :
    Memory.wf (Fx.ofStatus h x).hub.dome = true := by simp [Fx.ofStatus, w.wf, wx.wf]

@[simp] theorem armUnit_canonical (r c : Nat) (u : UnitSel) (h : Hub) (w : h.Canonical) :
    Memory.wf (armUnit r c u h).dome = true :=
  h.issue_canonical r c _ _ _ (fun h w => Fx.ofStatus_canonical h _ w (h.capArm_canonical _ _ _ _ w)) w

@[simp] theorem disarmUnit_canonical (r c : Nat) (u : UnitSel) (h : Hub) (w : h.Canonical) :
    Memory.wf (disarmUnit r c u h).dome = true :=
  h.issue_canonical_of_dome r c _ _ _ (fun h => by simp) w

@[simp] theorem fireUnit_canonical (r c : Nat) (u : UnitSel) (timed : Option Nat) (h : Hub) (w : h.Canonical) :
    Memory.wf (fireUnit r c u timed h).dome = true := by
  refine h.issue_canonical_of_dome r c _ _ _ (fun h => Fx.ite_dome rfl ?_) w
  split <;> simp

@[simp] theorem post_canonical (r c a ch : Nat) (h : Hub) (w : h.Canonical) : Memory.wf (post r c a ch h).dome = true :=
  h.issue_canonical_of_dome r c _ _ _ (fun h => by simp) w

@[simp] theorem takemb_canonical (r c d ch : Nat) (h : Hub) (w : h.Canonical) : Memory.wf (takemb r c d ch h).dome = true :=
  h.issue_canonical_of_dome r c _ _ _ (fun h => by simp) w

@[simp] theorem locka_canonical (r c l : Nat) (h : Hub) (w : h.Canonical) : Memory.wf (locka r c l h).dome = true := by
  refine h.issue_canonical_of_dome r c _ _ _ (fun h => ?_) w
  split <;> simp

@[simp] theorem lockr_canonical (r c l : Nat) (h : Hub) (w : h.Canonical) : Memory.wf (lockr r c l h).dome = true :=
  Hub.Canonical.ite (.of_dome (by simp) w) (h.issue_canonical_of_dome r c _ _ _ (fun h => by simp) w)

@[simp] theorem yieldI_canonical (r c : Nat) (h : Hub) (w : h.Canonical) : Memory.wf (yieldI r c h).dome = true := by
  refine h.issue_canonical r c _ _ _ (fun h w => ?_) w
  exact Fx.ite_canonical (Hub.ctxFinish_canonical r c h w)
    (Fx.ite_canonical (.of_dome (by simp) w) (.of_dome (by simp) w))

@[simp] theorem haltI_canonical (r c : Nat) (h : Hub) (w : h.Canonical) : Memory.wf (haltI r c h).dome = true :=
  h.issue_canonical r c _ _ _ (fun h w => h.haltCtx_canonical r c w) w

@[simp] theorem nopI_canonical (r c : Nat) (h : Hub) (w : h.Canonical) : Memory.wf (nopI r c h).dome = true :=
  h.issue_canonical_of_dome r c _ _ _ (fun _ => rfl) w

/-! ### Machine/MeasUnit -/

@[simp] theorem measure_canonical (r c k d a b : Nat) (pair : Bool) (q : List Nat) (op : MeasOp) (h : Hub) (w : h.Canonical) :
    Memory.wf (measure r c k d a b pair q op h).dome = true :=
  h.issue_canonical_of_dome r c _ _ _ (fun h => by simp) w

@[simp] theorem xing_canonical (r c d a b form n edges : Nat) (h : Hub) (w : h.Canonical) :
    Memory.wf (xing r c d a b form n edges h).dome = true := measure_canonical _ _ _ _ _ _ _ _ _ _ w

@[simp] theorem peakt_canonical (r c d a b form n : Nat) (reset : Bool) (h : Hub) (w : h.Canonical) :
    Memory.wf (peakt r c d a b form n reset h).dome = true := measure_canonical _ _ _ _ _ _ _ _ _ _ w

@[simp] theorem rflow_canonical (r c d a b mode : Nat) (h : Hub) (w : h.Canonical) :
    Memory.wf (rflow r c d a b mode h).dome = true := measure_canonical _ _ _ _ _ _ _ _ _ _ w

@[simp] theorem xingUnit_canonical (h : Hub) (a form edges : Nat) (v idx : Word) (w : h.Canonical) :
    Memory.wf (xingUnit h a form edges v idx).2.2.dome = true := by
  unfold xingUnit
  extract_lets x k pinfo level hyst prev side rise fall side' hit lastX cnt pIdx p' p''
  split
  · exact Hub.domeWrite_canonical _ _ _ _ w
  · split
    next frac h1 hs =>
      have w1 : h1.Canonical := .of_dome (Hub.dome_of_snd hs (by simp)) w
      extract_lets pos gd h2
      have w2 : h2.Canonical := Hub.domeWrite_canonical _ _ _ _ (Hub.domeWrite_canonical _ _ _ _ w1)
      exact Hub.Canonical.ite (Hub.domeWrite_canonical _ _ _ _ (Hub.domeWrite_canonical _ _ _ _ w2)) w2

@[simp] theorem peaktUnit_canonical (h : Hub) (a form : Nat) (reset : Bool) (v idx : Word) (w : h.Canonical) :
    Memory.wf (peaktUnit h a form reset v idx).2.2.dome = true := by
  unfold peaktUnit
  extract_lets x k mx maxi mn mini valid clear
  split
  · exact Hub.Canonical.ite (Hub.domeWrite_canonical _ _ _ _ w) w
  · exact Hub.domeWrite_canonical _ _ _ _ (Hub.domeWrite_canonical _ _ _ _
      (Hub.domeWrite_canonical _ _ _ _ (Hub.domeWrite_canonical _ _ _ _ w)))

@[simp] theorem Rain.count_canonical (x : Rain) (u v : Int) (n : Nat) (w : x.hub.Canonical) :
    (x.count u v n).hub.Canonical := by
  have w1 (a b : Nat) (i j : Nat) := Hub.domeWrite_canonical _ i 4 j (x.hub.domeWrite_canonical a 4 b w)
  exact Hub.Canonical.ite (Hub.domeWrite_canonical _ _ _ _ (w1 _ _ _ _)) (w1 _ _ _ _)

@[simp] theorem Rain.store_canonical (x : Rain) (i : Nat) (l : List Int) (w : x.hub.Canonical) : (x.store i l).hub.Canonical :=
  x.hub.domeBytes_canonical _ _ w

@[simp] theorem Rain.close_canonical (fuel : Nat) : ∀ x : Rain, x.hub.Canonical → (Rain.close fuel x).hub.Canonical := by
  induction fuel with
  | zero => exact fun _ w => w
  | succ fuel ih =>
    intro x w
    rw [Rain.close]
    split
    · split
      · exact w
      · split
        · exact ih _ (Rain.store_canonical _ _ _ (Rain.count_canonical _ _ _ _ w))
        · exact ih _ (Rain.store_canonical _ _ _ (Rain.count_canonical _ _ _ _ w))
    · exact w

@[simp] theorem Rain.push_canonical (x : Rain) (p : Int) (w : x.hub.Canonical) : (x.push p).hub.Canonical := by
  unfold Rain.push
  refine Rain.close_canonical _ _ (Rain.store_canonical _ _ _ ?_)
  split
  · exact Rain.store_canonical _ _ _ (Rain.count_canonical _ _ _ _ w)
  · exact w

@[simp] theorem Rain.residue_canonical (l : List Int) : ∀ x : Rain, x.hub.Canonical → (Rain.residue l x).hub.Canonical := by
  induction l with
  | nil => exact fun _ w => w
  | cons a t ih =>
    intro x w
    cases t with
    | nil => exact w
    | cons b t => exact ih _ (Rain.count_canonical _ _ _ _ w)

theorem Rain.canonical_of_fst {β : Type} {p : Rain × β} {x : Rain} {b : β} (e : p = (x, b)) (w : p.1.hub.Canonical) :
    x.hub.Canonical := by simpa [e] using w

theorem rflowUnit_canonical (h h' : Hub) (a mode : Nat) (x : Int) (v : Word) (w : h.Canonical)
    (made : rflowUnit h a mode x = some (v, h')) : h'.Canonical := by
  unfold rflowUnit at made
  extract_lets state dir have_ depth shift hyst cand stack at made
  split at made
  · cases made
  · split at made
    next t h1 hs =>
      have w1 : h1.Canonical := .of_dome (Hub.dome_of_snd hs (by split <;> simp)) w
      extract_lets s pushed at made
      have ws : s.hub.Canonical := w1
      have wpush (p : Int) : (s.push p).hub.Canonical := Rain.push_canonical s p ws
      have wpushed : pushed.hub.Canonical := by
        unfold pushed
        split
        · exact wpush _
        · exact ws
      split at made
      next s' dir' have' cand' keep hs' =>
        have w2 : s'.hub.Canonical := by
          refine Rain.canonical_of_fst hs' ?_
          split
          · simp only [apply_ite Prod.fst, apply_ite Rain.hub]
            simp [ws.wf, (wpush _).wf]
          · exact Rain.residue_canonical _ _ wpushed
          · exact ws
        obtain ⟨-, rfl⟩ := Prod.mk.inj (Option.some.inj made)
        exact Hub.domeWrite_canonical _ _ _ _ (Hub.domeWrite_canonical _ _ _ _ w2)

@[simp] theorem measurementComplete_canonical (r c k : Nat) (h : Hub) (w : h.Canonical) :
    Memory.wf (measurementComplete r c k h).dome = true := by
  unfold measurementComplete
  split
  · extract_lets h1
    have w1 : h1.Canonical := .of_dome (Hub.dropAcc_dome _ _ _) w
    split
    · simp [w1.wf]
    · simp [w1.wf]
    · split
      next made => exact Hub.Canonical.of_dome (Hub.setG_dome _ _ _ _) (rflowUnit_canonical _ _ _ _ _ _ w1 made)
      · exact Hub.ctxFault_canonical _ _ _ _ _ _ w1
  · exact w

/-! ### Machine/Lanes -/

@[simp] theorem Hub.freeCredits_dome (h : Hub) (l : Nat) (f : Frame) : (h.freeCredits l f).dome = h.dome := by
  simp [Hub.freeCredits]

@[simp] theorem Hub.enqueue_dome (h : Hub) (l : Nat) (x : TxFrame) : (h.enqueue l x).dome = h.dome := by
  unfold Hub.enqueue
  split <;> (try split) <;> simp

@[simp] theorem Hub.enqueueWay_dome (h : Hub) (east : Bool) (x : TxFrame) : (h.enqueueWay east x).dome = h.dome := by
  unfold Hub.enqueueWay
  split <;> simp

@[simp] theorem Hub.originate_dome (h : Hub) (t : Nat) (f : Frame) : (h.originate t f).dome = h.dome := by
  unfold Hub.originate
  extract_lets f' tgt
  split
  · split
    · split
      · split <;> simp
      · rfl
    · split <;> simp
  · simp

@[simp] theorem Hub.originateRing_dome (h : Hub) (t : Nat) (f : Frame) : (h.originateRing t f).dome = h.dome := by
  simp [Hub.originateRing]

@[simp] theorem Hub.applyReport_dome (h : Hub) (k seq : Nat) (up own : Bool) :
    (h.applyReport k seq up own).dome = h.dome := by simp [Hub.applyReport]

@[simp] theorem Hub.reportKey_dome (h : Hub) (r k : Nat) (up : Bool) : (h.reportKey r k up).dome = h.dome := by simp [Hub.reportKey]

@[simp] theorem Hub.reportSegment_dome (h : Hub) (r l : Nat) (up : Bool) : (h.reportSegment r l up).dome = h.dome := by
  unfold Hub.reportSegment
  split <;> simp

@[simp] theorem segmentUpReport_dome (r l : Nat) (h : Hub) : (segmentUpReport r l h).dome = h.dome := by simp [segmentUpReport]

@[simp] theorem ringRepeat_dome (r : Nat) (h : Hub) : (ringRepeat r h).dome = h.dome := by
  refine forIn'_dome _ _ _ fun p h => ?_
  split <;> simp

@[simp] theorem ringReport_dome (f : Frame) (h : Hub) : (ringReport f h).dome = h.dome := by simp [ringReport]

@[simp] theorem Hub.showHops_dome (h : Hub) (t : Nat) : (h.showHops t).dome = h.dome := by
  unfold Hub.showHops
  split <;> (try split) <;> simp

@[simp] theorem Hub.showTx_dome (h : Hub) (l : Nat) : (h.showTx l).dome = h.dome := (rfl)

@[simp] theorem Hub.setStage_dome (h : Hub) (r l s : Nat) : (h.setStage r l s).dome = h.dome := by simp [Hub.setStage]

@[simp] theorem Hub.leaveActive_dome (h : Hub) (r l next : Nat) : (h.leaveActive r l next).dome = h.dome := by
  unfold Hub.leaveActive
  refine Hub.ite_dome (by simp) ?_
  extract_lets held own c h1 h2 h3 h4 h5 h6
  have e4 : h4.dome = h3.dome := forIn'_dome _ _ _ fun x h => by split <;> simp
  have e3 : h3.dome = h.dome := by simp [h3, h2, h1]
  have e6 : h6.dome = h.dome := by simp [h6, h5, e4, e3]
  simp [e6]

@[simp] theorem Hub.takeLaneCfg_dome (h : Hub) (r l : Nat) : (h.takeLaneCfg r l).dome = h.dome := (rfl)

@[simp] theorem Hub.laneEnable_dome (h : Hub) (r l : Nat) (on : Bool) : (h.laneEnable r l on).dome = h.dome := by
  simp [Hub.laneEnable]

@[simp] theorem laneCfgStore_dome (r m l : Nat) (v : Word) (h : Hub) : (laneCfgStore r m l v h).dome = h.dome := by
  simp [laneCfgStore]

@[simp] theorem spanCfgStore_dome (r m : Nat) (v : Word) (h : Hub) : (spanCfgStore r m v h).dome = h.dome := by simp [spanCfgStore]

@[simp] theorem laneSetupStore_dome (r m l a : Nat) (v mask : Word) (h : Hub) :
    (laneSetupStore r m l a v mask h).dome = h.dome := by simp [laneSetupStore]

@[simp] theorem Hub.trained_dome (h : Hub) (l : Nat) : (h.trained l).dome = h.dome := by simp [Hub.trained]

@[simp] theorem laneDetectDone_dome (r l : Nat) (h : Hub) : (laneDetectDone r l h).dome = h.dome := by simp [laneDetectDone]

@[simp] theorem laneTrainDone_dome (r l : Nat) (h : Hub) : (laneTrainDone r l h).dome = h.dome := by simp [laneTrainDone]

@[simp] theorem laneTrainTimeout_dome (r l : Nat) (h : Hub) : (laneTrainTimeout r l h).dome = h.dome := by simp [laneTrainTimeout]

@[simp] theorem laneLockDone_dome (r l : Nat) (h : Hub) : (laneLockDone r l h).dome = h.dome := by simp [laneLockDone]

@[simp] theorem laneLockTimeout_dome (r l : Nat) (h : Hub) : (laneLockTimeout r l h).dome = h.dome := by simp [laneLockTimeout]

@[simp] theorem txDisableHoldEnd_dome (r l : Nat) (h : Hub) : (txDisableHoldEnd r l h).dome = h.dome := by simp [txDisableHoldEnd]

@[simp] theorem Hub.hearLine_dome (h : Hub) (l : Nat) (line : List Bool) : (h.hearLine l line).2.dome = h.dome := by
  simp [Hub.hearLine]

@[simp] theorem laneLoss_dome (r l : Nat) (line : List Bool) (h : Hub) : (laneLoss r l line h).dome = h.dome := by simp [laneLoss]

@[simp] theorem moduleRemoval_dome (r l : Nat) (h : Hub) : (moduleRemoval r l h).dome = h.dome := by simp [moduleRemoval]

@[simp] theorem losPin_dome (r l : Nat) (high : Bool) (h : Hub) : (losPin r l high h).dome = h.dome := by simp [losPin]

@[simp] theorem Hub.retrain_dome (h : Hub) (r l : Nat) : (h.retrain r l).dome = h.dome := by simp [Hub.retrain]

@[simp] theorem laneCtrlStore_dome (r l : Nat) (v : Word) (h : Hub) : (laneCtrlStore r l v h).dome = h.dome := by
  simp [laneCtrlStore]

@[simp] theorem Hub.enterActive_dome (h : Hub) (r l : Nat) : (h.enterActive r l).dome = h.dome := by simp [Hub.enterActive]

@[simp] theorem ethLinkUp_dome (r l : Nat) (h : Hub) : (ethLinkUp r l h).dome = h.dome := by simp [ethLinkUp]

@[simp] theorem ethLinkLoss_dome (r l : Nat) (h : Hub) : (ethLinkLoss r l h).dome = h.dome := by simp [ethLinkLoss]

@[simp] theorem ethLockTimeout_dome (r l : Nat) (h : Hub) : (ethLockTimeout r l h).dome = h.dome := by simp [ethLockTimeout]

@[simp] theorem protoAutoTimeout_dome (r l : Nat) (h : Hub) : (protoAutoTimeout r l h).dome = h.dome := by simp [protoAutoTimeout]

@[simp] theorem Hub.judgeCap_dome (h : Hub) (r l : Nat) : (h.judgeCap r l).dome = h.dome := by simp [Hub.judgeCap]

@[simp] theorem Hub.handshake_dome (h : Hub) (r l : Nat) : (h.handshake r l).dome = h.dome := by simp [Hub.handshake]

@[simp] theorem capArrive_dome (r l : Nat) (f : Frame) (h : Hub) : (capArrive r l f h).dome = h.dome := by simp [capArrive]

@[simp] theorem Hub.flushSpan_dome (h : Hub) (t : Nat) : (h.flushSpan t).dome = h.dome := by simp [Hub.flushSpan]

@[simp] theorem Hub.stampAt_dome (h : Hub) (l : Nat) (tx : Bool) (r n : Nat) :
    (h.stampAt l tx r n).2.dome = h.dome := (rfl)

@[simp] theorem Hub.stampTx_dome (h : Hub) (r l n : Nat) (f : Frame) : (h.stampTx r l n f).dome = h.dome := by simp [Hub.stampTx]

@[simp] theorem Hub.lineOut_dome (h : Hub) (l start : Nat) (f : Frame) (content : List Bool) (abort : Bool) :
    (h.lineOut l start f content abort).dome = h.dome := (rfl)

@[simp] theorem Hub.macOut_dome (h : Hub) (l start : Nat) (f : Frame) : (h.macOut l start f).dome = h.dome := (rfl)

@[simp] theorem Hub.started_dome (h : Hub) (start l : Nat) (f : Frame) : (h.started start l f).dome = h.dome := (rfl)

@[simp] theorem Hub.frameOut_dome (h : Hub) (r l : Nat) (f : Frame) : (h.frameOut r l f).dome = h.dome := by simp [Hub.frameOut]

@[simp] theorem Hub.frameIn_dome (h : Hub) (l p : Nat) (a : Air) (f : Frame) : (h.frameIn l p a f).dome = h.dome := by
  simp [Hub.frameIn]

@[simp] theorem Hub.takeTurn_dome (h : Hub) (l : Nat) (x : TxFrame) : (h.takeTurn l x).dome = h.dome := by
  unfold Hub.takeTurn
  repeat' split
  all_goals simp

@[simp] theorem Hub.delayReqOut_dome (h : Hub) (r l : Nat) : (h.delayReqOut r l).dome = h.dome := (rfl)

@[simp] theorem frameTransmitStart_dome (r l : Nat) (h : Hub) : (frameTransmitStart r l h).dome = h.dome := by
  unfold frameTransmitStart
  extract_lets t h1
  have e1 : h1.dome = h.dome := by simp [h1]
  split
  · exact e1
  · split
    · split <;> simp [e1]
    · split
      · simp [e1]
      · split <;> simp [e1]

@[simp] theorem capSend_dome (r l : Nat) (h : Hub) : (capSend r l h).dome = h.dome := by simp [capSend]

@[simp] theorem linkSend_dome (r l : Nat) (h : Hub) : (linkSend r l h).dome = h.dome := by simp [linkSend]

@[simp] theorem linkArrive_dome (l : Nat) (f : Frame) (h : Hub) : (linkArrive l f h).dome = h.dome := (rfl)

/-! ### Machine/SpanTime -/

@[simp] theorem Hub.exchange_dome (h : Hub) (l : Nat) (t1 t2 t3 t4 : Int) :
    (h.exchange l t1 t2 t3 t4).2.2.dome = h.dome := by simp [Hub.exchange]

@[simp] theorem Hub.writeExchange_dome (h : Hub) (l : Nat) (d th : Int) (servo : Option Clock) :
    (h.writeExchange l d th servo).dome = h.dome := by
  unfold Hub.writeExchange
  split <;> rfl

@[simp] theorem syncSend_dome (r l : Nat) (h : Hub) : (syncSend r l h).dome = h.dome := by simp [syncSend]

@[simp] theorem Hub.stampRx_dome (h : Hub) (l r : Nat) : (h.stampRx l r).2.dome = h.dome := (rfl)

@[simp] theorem syncArrive_dome (r l : Nat) (f : Frame) (h : Hub) : (syncArrive r l f h).dome = h.dome := by
  unfold syncArrive
  extract_lets now w seq n t4 answered
  split
  next t h1 hs =>
    have e1 : h1.dome = h.dome := Hub.dome_of_snd hs (by simp)
    extract_lets held heard c h2 h3 h4 h5
    have e2 : h2.dome = h.dome := (Hub.dome_with_lan h1 _).trans e1
    have e3 : h3.dome = h.dome := by
      unfold h3
      split
      · split
        next hx =>
          rw [Hub.writeExchange_dome]
          exact (Hub.dome_of_trd hx (Hub.exchange_dome _ _ _ _ _ _)).trans e2
      · exact e2
    simp [h5, h4, e3]

@[simp] theorem respArrive_dome (r l : Nat) (f : Frame) (h : Hub) : (respArrive r l f h).dome = h.dome := (rfl)

@[simp] theorem Hub.ptpIgnore_dome (h : Hub) (l : Nat) : (h.ptpIgnore l).dome = h.dome := (rfl)

@[simp] theorem Hub.ptpStray_dome (h : Hub) : h.ptpStray.dome = h.dome := by
  unfold Hub.ptpStray
  split <;> simp

@[simp] theorem Hub.ptpChoose_dome (h : Hub) (r : Nat) : (h.ptpChoose r).dome = h.dome := by
  unfold Hub.ptpChoose
  extract_lets t live best id c p p' h1 c1
  clear_value best
  split
  · exact Hub.ite_dome (by simp [h1]) rfl
  · rfl

@[simp] theorem announce_dome (r : Nat) (m : PtpHead) (d : PtpDataset) (h : Hub) :
    (announce r m d h).dome = h.dome := by
  unfold announce
  split <;> simp

@[simp] theorem announceTimeout_dome (r : Nat) (h : Hub) : (announceTimeout r h).dome = h.dome := by simp [announceTimeout]

@[simp] theorem ptpSync_dome (r : Nat) (m : PtpHead) (twoStep : Bool) (h : Hub) :
    (ptpSync r m twoStep h).dome = h.dome := by
  unfold ptpSync
  split <;> simp

@[simp] theorem followUp_dome (m : PtpHead) (origin : Nat) (h : Hub) : (followUp m origin h).dome = h.dome := by
  unfold followUp
  repeat' split
  all_goals simp

@[simp] theorem delayReqSend_dome (r : Nat) (h : Hub) : (delayReqSend r h).dome = h.dome := by
  unfold delayReqSend
  split <;> simp

@[simp] theorem delayResp_dome (m : PtpHead) (port rx : Nat) (h : Hub) : (delayResp m port rx h).dome = h.dome := by
  unfold delayResp
  repeat' split
  all_goals simp

/-! ### Machine/Reception -/

@[simp] theorem Hub.strange_dome (h : Hub) (l : Nat) (bytes : List Byte) : (h.strange l bytes).dome = h.dome := by
  unfold Hub.strange
  split <;> (try split) <;> simp

@[simp] theorem Hub.listen_dome (h : Hub) (l : Nat) (x : RxFrame) : (h.listen l x).2.dome = h.dome := by
  unfold Hub.listen
  split
  · rfl
  · split
    · simp
    · split
      · rfl
      · split
        · rfl
        · split <;> simp

@[simp] theorem Hub.countFault_dome (h : Hub) (l : Nat) (x2 : RxFault) : (h.countFault l x2).dome = h.dome := by
  unfold Hub.countFault
  split <;> rfl

@[simp] theorem Hub.testDrop_dome (h : Hub) (l : Nat) (f : Frame) : (h.testDrop l f).2.dome = h.dome := by simp [Hub.testDrop]

@[simp] theorem Hub.passOn_dome (h : Hub) (r l k : Nat) (y : Heard) (f : Frame) :
    (h.passOn r l k y f).dome = h.dome := by
  unfold Hub.passOn
  split <;> simp

@[simp] theorem Hub.passTo_dome (h : Hub) (r l role : Nat) (y : Heard) (f : Frame) :
    (h.passTo r l role y f).dome = h.dome := by
  unfold Hub.passTo
  split <;> (try split) <;> simp

@[simp] theorem Hub.rxSpan_canonical (h : Hub) (r l : Nat) (y : Heard) (deliver : Frame → Hub → Hub)
    (hd : ∀ f, KeepsCanonical (deliver f)) (w : h.Canonical) : Memory.wf (h.rxSpan r l y deliver).dome = true := by
  unfold Hub.rxSpan
  extract_lets f mine next h1
  refine Hub.Canonical.ite (.of_dome (by simp) w) (Hub.Canonical.ite (.of_dome (by simp) w) ?_)
  have w1 : h1.Canonical := .ite (hd f h w) w
  clear_value next
  split <;> simp [w1.wf]

@[simp] theorem Hub.rxBroken_dome (h : Hub) (r l : Nat) (y : Heard) : (h.rxBroken r l y).dome = h.dome := by
  unfold Hub.rxBroken
  refine Hub.ite_dome rfl (Hub.ite_dome (by simp) ?_)
  split <;> simp

@[simp] theorem Hub.rxUplink_canonical (h : Hub) (r l : Nat) (f : Frame) (deliver : Frame → Hub → Hub)
    (hd : ∀ f, KeepsCanonical (deliver f)) (w : h.Canonical) : Memory.wf (h.rxUplink r l f deliver).dome = true := by
  unfold Hub.rxUplink
  extract_lets h1 alone h2
  have w1 : h1.Canonical := .of_dome (by simp [h1]) w
  have wd : (deliver f h1).Canonical := hd f h1 w1
  have w2 : h2.Canonical := .ite wd w1
  simp [w1.wf, wd.wf, w2.wf]

@[simp] theorem Hub.rxTwin_canonical (h : Hub) (l : Nat) (f : Frame) (deliver : Frame → Hub → Hub)
    (hd : ∀ f, KeepsCanonical (deliver f)) (w : h.Canonical) : Memory.wf (h.rxTwin l f deliver).dome = true := by
  have w1 : (h.freeCredits l f).Canonical := .of_dome (by simp) w
  exact Hub.Canonical.ite (hd f _ w1) w1

@[simp] theorem rxFrame_canonical (r l : Nat) (x : RxFrame) (deliver : Frame → Hub → Hub) (h : Hub)
    (hd : ∀ f, KeepsCanonical (deliver f)) (w : h.Canonical) : Memory.wf (rxFrame r l x deliver h).dome = true := by
  unfold rxFrame
  split
  next h1 hs => exact Hub.Canonical.of_dome (Hub.dome_of_snd hs (by simp)) w
  next y h1 hs =>
    have w1 : h1.Canonical := .of_dome (Hub.dome_of_snd hs (by simp)) w
    extract_lets f
    split
    · simp [w1.wf]
    · refine Hub.Canonical.ite w1 ?_
      have e2 : (h1.testDrop l f).2.dome = h1.dome := by simp
      split
      next h2 ht => exact Hub.Canonical.of_dome ((Hub.freeCredits_dome _ _ _).trans (Hub.dome_of_snd ht e2)) w1
      next h2 ht =>
        extract_lets h3
        have w3 : h3.Canonical := .of_dome ((Hub.incWrap_dome _ _ _ _ _).trans (Hub.dome_of_snd ht e2)) w1
        exact Hub.Canonical.ite (Hub.rxTwin_canonical _ _ _ _ hd w3)
          (Hub.Canonical.ite (Hub.rxUplink_canonical _ _ _ _ _ hd w3) (Hub.rxSpan_canonical _ _ _ _ _ hd w3))

@[simp] theorem pauseArrive_dome (r l quanta : Nat) (h : Hub) : (pauseArrive r l quanta h).dome = h.dome := by simp [pauseArrive]

@[simp] theorem pauseEnd_dome (r l : Nat) (h : Hub) : (pauseEnd r l h).dome = h.dome := by
  unfold pauseEnd
  split <;> simp

/-! ### Machine/Module -/

@[simp] theorem moduleInsert_dome (r l : Nat) (internal : Option Bool) (h : Hub) :
    (moduleInsert r l internal h).dome = h.dome := by
  unfold moduleInsert
  split <;> simp

@[simp] theorem ddmPoll_dome (r l : Nat) (vals : Option (List Nat)) (h : Hub) : (ddmPoll r l vals h).dome = h.dome := by
  unfold ddmPoll
  split <;> (try split) <;> simp

@[simp] theorem modAccStore_dome (l : Nat) (v : Word) (h : Hub) : (modAccStore l v h).dome = h.dome := by simp [modAccStore]

@[simp] theorem modAccComplete_dome (r l : Nat) (byte : Option Nat) (h : Hub) :
    (modAccComplete r l byte h).dome = h.dome := by
  unfold modAccComplete
  split <;> (try split) <;> simp

@[simp] theorem eyeStartStore_dome (l : Nat) (h : Hub) : (eyeStartStore l h).dome = h.dome := by simp [eyeStartStore]

@[simp] theorem eyeStopStore_dome (l : Nat) (h : Hub) : (eyeStopStore l h).dome = h.dome := by simp [eyeStopStore]

@[simp] theorem eyeCtrlStore_dome (l : Nat) (v : Word) (h : Hub) : (eyeCtrlStore l v h).dome = h.dome := by simp [eyeCtrlStore]

@[simp] theorem Hub.eyeScanStart_dome (h : Hub) (ch : Nat) (w : Nat → Word) :
    (h.eyeScanStart ch w).2.dome = h.dome := by simp [Hub.eyeScanStart]

@[simp] theorem eyePointDone_canonical (r l count : Nat) (h : Hub) (w : h.Canonical) :
    Memory.wf (eyePointDone r l count h).dome = true := by
  unfold eyePointDone
  refine Hub.Canonical.ite w ?_
  split
  · exact Hub.Canonical.of_dome (by simp) w
  · extract_lets h1 h2 h3
    have w1 : h1.Canonical := Hub.domeWrite_canonical _ _ _ _ w
    have w2 : h2.Canonical := forIn'_canonical _ _ _ (fun p h w => h.domeWrite_canonical _ _ _ w) w1
    exact Hub.Canonical.ite (.of_dome (by simp) w1) (.of_dome (by simp [h3]) w2)

/-! ### Machine/Test -/

@[simp] theorem Hub.setSag_dome (h : Hub) (r k : Nat) : (h.setSag r k).dome = h.dome := (rfl)

@[simp] theorem sagTrip_dome (r k : Nat) (h : Hub) : (sagTrip r k h).dome = h.dome := by simp [sagTrip]

@[simp] theorem sagLevelLeave_dome (r k : Nat) (h : Hub) : (sagLevelLeave r k h).dome = h.dome := by simp [sagLevelLeave]

@[simp] theorem throttleMaxStore_dome (v : Word) (h : Hub) : (throttleMaxStore v h).dome = h.dome := by simp [throttleMaxStore]

@[simp] theorem Hub.testOff_dome (h : Hub) : h.testOff.dome = h.dome := by simp [Hub.testOff]

@[simp] theorem Hub.tpRefuse_dome (h : Hub) (r m a st : Nat) : (h.tpRefuse r m a st).dome = h.dome := by simp [Hub.tpRefuse]

@[simp] theorem Hub.tpUse_dome (h : Hub) (r m a : Nat) : (h.tpUse r m a).dome = h.dome := by simp [Hub.tpUse]

@[simp] theorem Hub.tpStore_dome (h : Hub) (r m a en : Nat) (mask v : Word) :
    (h.tpStore r m a en mask v).dome = h.dome := by simp [Hub.tpStore]

@[simp] theorem tpXdelayStore_dome (r m : Nat) (v : Word) (h : Hub) : (tpXdelayStore r m v h).dome = h.dome := by
  simp [tpXdelayStore]

@[simp] theorem tpStarveStore_dome (r m : Nat) (v : Word) (h : Hub) : (tpStarveStore r m v h).dome = h.dome := by
  simp [tpStarveStore]

@[simp] theorem tpAckholdStore_dome (r m : Nat) (v : Word) (h : Hub) : (tpAckholdStore r m v h).dome = h.dome := by
  simp [tpAckholdStore]

@[simp] theorem tpDropStore_dome (r m : Nat) (v : Word) (h : Hub) : (tpDropStore r m v h).dome = h.dome := by simp [tpDropStore]

@[simp] theorem tpTjitStore_dome (r m : Nat) (v : Word) (h : Hub) : (tpTjitStore r m v h).dome = h.dome := by simp [tpTjitStore]

@[simp] theorem tpSagStore_dome (r m : Nat) (v : Word) (h : Hub) : (tpSagStore r m v h).dome = h.dome := by simp [tpSagStore]

@[simp] theorem tpSkewStore_dome (r m : Nat) (v : Word) (h : Hub) : (tpSkewStore r m v h).dome = h.dome := by simp [tpSkewStore]

@[simp] theorem tpSwapfailStore_dome (r m : Nat) (v : Word) (h : Hub) : (tpSwapfailStore r m v h).dome = h.dome := by
  simp [tpSwapfailStore]

@[simp] theorem starveEnd_dome (r : Nat) (h : Hub) : (starveEnd r h).dome = h.dome := by simp [starveEnd]

@[simp] theorem injectStore_dome (r m : Nat) (v : Word) (h : Hub) : (injectStore r m v h).dome = h.dome := by simp [injectStore]

@[simp] theorem tpArmStore_dome (r m : Nat) (v : Word) (h : Hub) : (tpArmStore r m v h).dome = h.dome := by
  unfold tpArmStore
  split <;> (try split) <;> simp

/-! ### Machine/Selail -/

@[simp] theorem Hub.setSel_dome (h : Hub) (s : Nat) : (h.setSel s).dome = h.dome := (rfl)

@[simp] theorem Hub.showLease_dome (h : Hub) : h.showLease.dome = h.dome := by
  unfold Hub.showLease
  split <;> rfl

@[simp] theorem Hub.selHead_dome (h : Hub) (t msg : Nat) : (h.selHead t msg).2.dome = h.dome := (rfl)

@[simp] theorem Hub.selTo_dome (h : Hub) (t pos msg : Nat) (bulk : Bool) (body : List Word) :
    (h.selTo t pos msg bulk body).dome = h.dome := by simp [Hub.selTo]

@[simp] theorem Hub.selPeer_dome (h : Hub) (t msg : Nat) (bulk : Bool) (body : List Word) :
    (h.selPeer t msg bulk body).dome = h.dome := by
  unfold Hub.selPeer
  split <;> simp

@[simp] theorem Hub.stopActing_dome (h : Hub) : h.stopActing.dome = h.dome := by simp [Hub.stopActing]

@[simp] theorem Hub.notePart_dome (h h0 : Hub) (t : Nat) : (h.notePart h0 t).dome = h.dome := by simp [Hub.notePart]

@[simp] theorem Hub.fence_dome (h : Hub) (r : Nat) : (h.fence r).dome = h.dome := by simp [Hub.fence]

@[simp] theorem Hub.toShadow_dome (h : Hub) : h.toShadow.dome = h.dome := by simp [Hub.toShadow]

@[simp] theorem Hub.withdraw_dome (h : Hub) : h.withdraw.dome = h.dome := by simp [Hub.withdraw]

@[simp] theorem fenceBoundary_dome (r : Nat) (h : Hub) : (fenceBoundary r h).dome = h.dome := by simp [fenceBoundary]

@[simp] theorem leaseExpiry_dome (r : Nat) (h : Hub) : (leaseExpiry r h).dome = h.dome := by
  unfold leaseExpiry
  split <;> (try split) <;> simp

@[simp] theorem selfFault_dome (r : Nat) (h : Hub) : (selfFault r h).dome = h.dome := by simp [selfFault]

@[simp] theorem arbGrantFall_dome (r : Nat) (h : Hub) : (arbGrantFall r h).dome = h.dome := by simp [arbGrantFall]

@[simp] theorem arbGrantRise_dome (r : Nat) (h : Hub) : (arbGrantRise r h).dome = h.dome := by simp [arbGrantRise]

@[simp] theorem Hub.promoteChan_dome (h : Hub) (n c f : Nat) : (h.promoteChan n c f).dome = h.dome := by simp [Hub.promoteChan]

@[simp] theorem Hub.promote_canonical (h : Hub) (f epoch : Nat) (w : h.Canonical) :
    Memory.wf (h.promote f epoch).dome = true := by
  change Hub.Canonical _
  unfold Hub.promote
  extract_lets h0 tp h1 h2 c h3 h4 h5 h6
  have e2 : h2.dome = h.dome := by simp [h2, h1]
  have w3 : h3.Canonical := .of_dome ((Hub.showLease_dome _).trans ((Hub.dome_with_sel h2 _).trans e2)) w
  have w4 : h4.Canonical := .ite (Hub.ledgerTakeover_canonical _ _ _ w3)
    (.of_dome ((Hub.dome_wr _ _ _).trans (Hub.dome_with_queues h3 _)) w3)
  have w5 : h5.Canonical := .forN _ _ (fun n h w => .of_dome (h.excActivate_dome n f) w)
    (.of_dome (Hub.noteTwin_dome _ _ _) w4)
  have w6 : h6.Canonical := .forN _ _ (fun g h w => .of_dome (h.promoteChan_dome _ _ f) w) w5
  exact .ite (.of_dome (Hub.setMode_dome _ _) w6) w6

@[simp] theorem promotion_canonical (r : Nat) (peerAct : Bool) (h : Hub) (w : h.Canonical) :
    Memory.wf (promotion r peerAct h).dome = true := by
  unfold promotion
  extract_lets h1
  have w1 : h1.Canonical := .of_dome (by simp [h1]) w
  refine Hub.Canonical.ite w1 ?_
  split
  · exact Hub.Canonical.ite (Hub.promote_canonical _ _ _ w1) w1
  · exact w1

@[simp] theorem xswTimeEnd_dome (r : Nat) (h : Hub) : (xswTimeEnd r h).dome = h.dome := by simp [xswTimeEnd]

@[simp] theorem renewSend_dome (r : Nat) (h : Hub) : (renewSend r h).dome = h.dome := by simp [renewSend]

@[simp] theorem heartbeatSend_dome (r : Nat) (h : Hub) : (heartbeatSend r h).dome = h.dome := by simp [heartbeatSend]

@[simp] theorem claimSend_dome (r : Nat) (h : Hub) : (claimSend r h).dome = h.dome := by simp [claimSend]

@[simp] theorem Hub.startClaim_dome (h : Hub) (r : Nat) : (h.startClaim r).dome = h.dome := by simp [Hub.startClaim]

@[simp] theorem Hub.seeHealth_dome (h : Hub) (r : Nat) : (h.seeHealth r).dome = h.dome := (rfl)

@[simp] theorem heartbeatMiss_dome (r : Nat) (h : Hub) : (heartbeatMiss r h).dome = h.dome := by
  unfold heartbeatMiss
  split <;> simp

@[simp] theorem startupClaimEval_dome (r : Nat) (h : Hub) : (startupClaimEval r h).dome = h.dome := by simp [startupClaimEval]

@[simp] theorem heartbeat_dome (r : Nat) (f : Frame) (h : Hub) : (heartbeat r f h).dome = h.dome := by
  unfold heartbeat
  refine Hub.ite_dome rfl ?_
  extract_lets t w st reply c h1 h2 h3 c3 h4 h5 h6 h7 c7 acting h8 h9 c9 h10
  have e1 : h1.dome = h.dome := Hub.dome_with_sel h _
  have e3 : h3.dome = h.dome := by simp [h3, h2, e1]
  have e4 : h4.dome = h.dome := by
    unfold h4
    split
    · exact ((Hub.setFld_dome _ _ _ _ _).trans (Hub.dome_with_sel h3 _)).trans e3
    · exact ((Hub.setFld_dome _ _ _ _ _).trans (Hub.dome_with_sel h3 _)).trans e3
  have e7 : h7.dome = h.dome := by simp [h7, h6, h5, e4]
  have e8 : h8.dome = h.dome := Hub.ite_dome ((Hub.dome_with_sel h7 _).trans e7) e7
  have e9 : h9.dome = h.dome := by simp [h9, e8]
  have e10 : h10.dome = h.dome := (Hub.dome_with_sel h9 _).trans e9
  refine Hub.ite_dome (Hub.ite_dome ?_ e7) (Hub.ite_dome ?_ (Hub.ite_dome ?_ e9))
  · exact ((Hub.showLease_dome _).trans (Hub.dome_with_sel h7 _)).trans e7
  · exact (Hub.selPeer_dome _ _ _ _ _).trans e10
  · exact (Hub.startClaim_dome _ _).trans e9

@[simp] theorem Hub.peerRelinquish_dome (h : Hub) (r : Nat) : (h.peerRelinquish r).dome = h.dome := by simp [Hub.peerRelinquish]

@[simp] theorem denyArrive_dome (h : Hub) : (denyArrive h).dome = h.dome := by simp [denyArrive]

@[simp] theorem Hub.wSet_dome (h : Hub) (p pair holder epoch endT : Nat) :
    (h.wSet p pair holder epoch endT).dome = h.dome := (rfl)

@[simp] theorem Hub.wSend_dome (h : Hub) (t pos pair msg : Nat) (body : List Word) :
    (h.wSend t pos pair msg body).dome = h.dome := by simp [Hub.wSend]

@[simp] theorem Hub.wGrant_dome (h : Hub) (t pos pair endT epoch : Nat) (new hand : Bool) (fh : Nat) :
    (h.wGrant t pos pair endT epoch new hand fh).dome = h.dome := by simp [Hub.wGrant]

@[simp] theorem Hub.wDeny_dome (h : Hub) (t pos pair why : Nat) : (h.wDeny t pos pair why).dome = h.dome := by simp [Hub.wDeny]

@[simp] theorem Hub.wNewHolder_dome (h : Hub) (t p : Nat) (c : HeldClaim) : (h.wNewHolder t p c).dome = h.dome := by
  simp [Hub.wNewHolder]

@[simp] theorem Hub.wClaim_dome (h : Hub) (t : Nat) (c : HeldClaim) : (h.wClaim t c).dome = h.dome := by
  unfold Hub.wClaim
  split <;> simp

@[simp] theorem claimArrive_dome (r : Nat) (f : Frame) (h : Hub) : (claimArrive r f h).dome = h.dome := by simp [claimArrive]

@[simp] theorem Hub.wRenewed_dome (h : Hub) (pair : Nat) : (h.wRenewed pair).dome = h.dome := (rfl)

@[simp] theorem renewArrive_dome (r : Nat) (f : Frame) (h : Hub) : (renewArrive r f h).dome = h.dome := by
  unfold renewArrive
  refine Hub.ite_dome rfl ?_
  extract_lets t ep h1 c
  split
  · simp
  · extract_lets free cut h2 e
    have e2 : h2.dome = h.dome := (Hub.dome_with_sel h1 _).trans (Hub.wRenewed_dome h _)
    clear_value cut h2
    split <;> simp [e2]

@[simp] theorem Hub.wGrantDue_dome (h : Hub) (t : Nat) : (h.wGrantDue t).dome = h.dome := by
  refine forIn'_dome _ _ _ fun c h => Hub.ite_dome ?_ rfl
  split <;> simp

@[simp] theorem wardenLeaseExpiry_dome (r : Nat) (h : Hub) : (wardenLeaseExpiry r h).dome = h.dome := by simp [wardenLeaseExpiry]

@[simp] theorem wardenStartupHoldEnd_dome (r : Nat) (h : Hub) : (wardenStartupHoldEnd r h).dome = h.dome := by
  simp [wardenStartupHoldEnd]

@[simp] theorem relinquishArrive_dome (r : Nat) (f : Frame) (h : Hub) : (relinquishArrive r f h).dome = h.dome := by
  unfold relinquishArrive
  repeat' split
  all_goals simp

@[simp] theorem Hub.propose_dome (h : Hub) (r : Nat) : (h.propose r).dome = h.dome := by simp [Hub.propose]

@[simp] theorem revertHoldElapsed_dome (r : Nat) (h : Hub) : (revertHoldElapsed r h).dome = h.dome := by simp [revertHoldElapsed]

theorem Hub.Canonical.sealContent {h : Hub} (w : h.Canonical) (t : Nat) : (h.sealContent t).Canonical := by
  refine .forN _ _ (fun s h w => ?_) w
  split
  · exact .ite (Hub.seal_canonical _ _ _ w) w
  · exact w

@[simp] theorem Hub.accept_canonical (h : Hub) (r : Nat) (w : h.Canonical) : Memory.wf (h.accept r).dome = true := by
  change Hub.Canonical _
  unfold Hub.accept
  extract_lets t fh h1 c h2 h3
  have w1 : h1.Canonical := w.sealContent t
  have w2 : h2.Canonical := .of_dome (Hub.dome_with_sel h1 _) w1
  have w3 : h3.Canonical := .ite w2 (.of_dome (Hub.selTo_dome _ _ _ _ _ _) w2)
  exact .of_dome (Hub.selPeer_dome _ _ _ _ _) w3

@[simp] theorem handoverPropose_canonical (r : Nat) (f : Frame) (h : Hub) (w : h.Canonical) :
    Memory.wf (handoverPropose r f h).dome = true := by simp [handoverPropose, w.wf]

@[simp] theorem Hub.confirmReady_dome (h : Hub) (r : Nat) : (h.confirmReady r).dome = h.dome := by
  unfold Hub.confirmReady
  split <;> (try split) <;> simp

@[simp] theorem Hub.wHandover_dome (h : Hub) (t : Nat) (f : Frame) : (h.wHandover t f).dome = h.dome := by
  unfold Hub.wHandover
  split <;> simp

@[simp] theorem handoverAccept_dome (r : Nat) (f : Frame) (h : Hub) : (handoverAccept r f h).dome = h.dome := by
  unfold handoverAccept
  split <;> (try split) <;> simp

@[simp] theorem grantArrive_dome (r : Nat) (f : Frame) (h : Hub) : (grantArrive r f h).dome = h.dome := by
  unfold grantArrive
  repeat' split
  all_goals simp

@[simp] theorem handoverConfirm_dome (r : Nat) (f : Frame) (h : Hub) : (handoverConfirm r f h).dome = h.dome := by
  unfold handoverConfirm
  repeat' split
  all_goals simp

@[simp] theorem Hub.abandon_dome (h : Hub) (r : Nat) : (h.abandon r).dome = h.dome := by
  unfold Hub.abandon
  split <;> rfl

@[simp] theorem handoverCancel_dome (r : Nat) (f : Frame) (h : Hub) : (handoverCancel r f h).dome = h.dome := by
  simp [handoverCancel]

@[simp] theorem Hub.cancelHandover_dome (h : Hub) (r : Nat) : (h.cancelHandover r).dome = h.dome := by
  unfold Hub.cancelHandover
  split <;> simp

@[simp] theorem handoverConfirmTimeout_dome (r : Nat) (h : Hub) : (handoverConfirmTimeout r h).dome = h.dome := by
  unfold handoverConfirmTimeout
  split <;> simp

@[simp] theorem handoverRetry_dome (r : Nat) (h : Hub) : (handoverRetry r h).dome = h.dome := by simp [handoverRetry]

@[simp] theorem handoverFrame_canonical (r : Nat) (h : Hub) (w : h.Canonical) :
    Memory.wf (handoverFrame r h).dome = true := by
  unfold handoverFrame
  split
  · split
    · refine Hub.Canonical.ite ?_ w
      refine Hub.Canonical.ite ?_ (.ite (.of_dome (by simp) w) w)
      split
      · exact Hub.Canonical.ite (Hub.promote_canonical _ _ _ w) w
      · exact w
    · exact w
  · exact w

@[simp] theorem selCfgStore_dome (r m : Nat) (v : Word) (h : Hub) : (selCfgStore r m v h).dome = h.dome := by simp [selCfgStore]

@[simp] theorem selWardenStore_dome (r m : Nat) (v : Word) (h : Hub) : (selWardenStore r m v h).dome = h.dome := by
  simp [selWardenStore]

@[simp] theorem Hub.showGrant_dome (h : Hub) : h.showGrant.dome = h.dome := (rfl)

@[simp] theorem selTimingStore_dome (r m : Nat) (v : Word) (h : Hub) : (selTimingStore r m v h).dome = h.dome := by
  simp [selTimingStore]

@[simp] theorem selFaultMaskStore_dome (r m : Nat) (v : Word) (h : Hub) :
    (selFaultMaskStore r m v h).dome = h.dome := by simp [selFaultMaskStore]

/-! ### Machine/Mirror -/

@[simp] theorem Hub.setLost_dome (h : Hub) (n : Nat) : (h.setLost n).dome = h.dome := (rfl)

@[simp] theorem Hub.sendLedgerM_dome (h : Hub) (t tm : Nat) : (h.sendLedgerM t tm).dome = h.dome := by simp [Hub.sendLedgerM]

@[simp] theorem ledgerMSend_dome (r : Nat) (h : Hub) : (ledgerMSend r h).dome = h.dome := by simp [ledgerMSend]

@[simp] theorem handoverSendStop_dome (r : Nat) (h : Hub) : (handoverSendStop r h).dome = h.dome := by
  unfold handoverSendStop
  split <;> (try split) <;> simp

@[simp] theorem Hub.applyLedgerM_dome (h : Hub) (tm : Nat) (es : List (Nat × Nat × Nat)) :
    (h.applyLedgerM tm es).dome = h.dome := by simp [Hub.applyLedgerM]

@[simp] theorem ledgerM_dome (f : Frame) (h : Hub) : (ledgerM f h).dome = h.dome := by
  unfold ledgerM
  split <;> (try split) <;> simp

@[simp] theorem Hub.queueCopy_dome (h : Hub) (t c : Nat) (k : CtxCopy) : (h.queueCopy t c k).dome = h.dome := by
  unfold Hub.queueCopy
  extract_lets h1
  have e1 : h1.dome = h.dome := by simp [h1]
  split
  · exact (Hub.selPeer_dome _ _ _ _ _).trans ((Hub.incSat_dome _ _ _ _ _).trans
      ((Hub.dome_with_sel _ _).trans ((Hub.modLane_dome h1 _ _).trans e1)))
  · exact (Hub.dome_with_sel h1 _).trans e1

@[simp] theorem mirrorI_canonical (r c : Nat) (h : Hub) (w : h.Canonical) : Memory.wf (mirrorI r c h).dome = true := by
  refine h.issue_canonical_of_dome r c _ _ _ (fun h => Fx.ite_dome rfl ?_) w
  split <;> simp

@[simp] theorem contextFallbackSlot_dome (r c : Nat) (h : Hub) : (contextFallbackSlot r c h).dome = h.dome := by
  unfold contextFallbackSlot
  extract_lets free c0 h1 c1
  clear_value free
  have e1 : h1.dome = h.dome := Hub.dome_with_sel h _
  split
  · exact Hub.ite_dome ((Hub.selPeer_dome _ _ _ _ _).trans ((Hub.dome_with_sel h1 _).trans e1)) e1
  · rfl

@[simp] theorem contextMirror_dome (f : Frame) (h : Hub) : (contextMirror f h).dome = h.dome := by simp [contextMirror]

@[simp] theorem histogramSend_canonical (r : Nat) (h : Hub) (w : h.Canonical) :
    Memory.wf (histogramSend r h).dome = true := by
  change Hub.Canonical _
  unfold histogramSend
  refine .ite w (.forIn' _ _ (fun p h w => ?_) (.of_dome (Hub.dome_with_sel h _) w))
  exact .forIn' _ _ (fun x h w => h.domeWrite_canonical _ _ _ w) (.of_dome (Hub.selPeer_dome _ _ _ _ _) w)

@[simp] theorem histogramMirror_canonical (f : Frame) (h : Hub) (w : h.Canonical) :
    Memory.wf (histogramMirror f h).dome = true := by
  change Hub.Canonical _
  unfold histogramMirror
  refine .ite w ?_
  extract_lets v per seq follows
  split
  next old broken h1 hs =>
    have w1 : h1.Canonical := by
      refine .of_dome (Hub.dome_of_trd hs ?_) w
      split
      · split <;> simp
      · simp
    extract_lets bad c h2
    have w2 : h2.Canonical := .of_dome (Hub.dome_with_sel h1 _) w1
    split
    · exact w2
    · extract_lets items h3 all
      have w3 : h3.Canonical := .forIn' _ _ (fun x h w => h.domeWrite_canonical _ _ _ w) w2
      have idle (y : Option (Nat × List (Nat × Nat))) : { h3 with sel.hist := y }.Canonical :=
        .of_dome (Hub.dome_with_sel h3 _) w3
      refine .ite (idle _) (.ite (.of_dome (Hub.setLost_dome _ _) (idle _)) ?_)
      exact .forIn' _ _ (fun x h w => h.domeWrite_canonical _ _ _ w) (idle _)

@[simp] theorem thresholdsSend_dome (r : Nat) (h : Hub) : (thresholdsSend r h).dome = h.dome := by
  refine Hub.ite_dome rfl (forIn'_dome _ _ _ fun e h => ?_)
  split <;> simp

@[simp] theorem thresholdsMirror_dome (f : Frame) (h : Hub) : (thresholdsMirror f h).dome = h.dome := by simp [thresholdsMirror]

@[simp] theorem Hub.sendCapture_dome (h : Hub) (t u slot seq : Nat) : (h.sendCapture t u slot seq).dome = h.dome := by
  simp [Hub.sendCapture]

@[simp] theorem recordComplete_canonical (r : Nat) (h : Hub) (w : h.Canonical) :
    Memory.wf (recordComplete r h).dome = true := by
  unfold recordComplete
  split
  · simp [w.wf]
  · exact w

@[simp] theorem captureMirror_canonical (f : Frame) (h : Hub) (w : h.Canonical) :
    Memory.wf (captureMirror f h).dome = true := by
  change Hub.Canonical _
  unfold captureMirror
  refine .ite w ?_
  extract_lets v u part seq x fits sameRec openLost newLost h1 old keep c h2
  have w1 : h1.Canonical := .of_dome (Hub.setLost_dome h _) w
  have w2 : h2.Canonical := .of_dome (Hub.dome_with_sel h1 _) w1
  have kept (y : Nat × Nat × List Word) : (keep h1 y).Canonical := .of_dome (Hub.dome_with_sel h1 _) w1
  clear_value old
  split
  · split
    · exact w2
    · extract_lets all n o
      exact .ite w2 (Hub.domeBytes_canonical _ _ _ (.of_dome (Hub.dome_with_sel h2 _) w2))
  · split
    · exact kept _
    · exact kept _

@[simp] theorem mirrorPathReturn_dome (r : Nat) (h : Hub) : (mirrorPathReturn r h).dome = h.dome := by
  unfold mirrorPathReturn
  split <;> simp

/-! ### Machine/Alarm -/

@[simp] theorem Hub.startChan_dome (h : Hub) (e g : Nat) : (h.startChan e g).dome = h.dome := by simp [Hub.startChan]

@[simp] theorem Hub.coordinatedStart_canonical (h : Hub) (r e : Nat) (w : h.Canonical) :
    Memory.wf (h.coordinatedStart r e).dome = true := by
  change Hub.Canonical _
  unfold Hub.coordinatedStart
  extract_lets h1 h2 h3 h4 h5 h6 h7
  have w1 : h1.Canonical := .forIn' _ _ (fun c h w => Hub.ctxFinish_canonical r c h w) w
  have w2 : h2.Canonical := .forN _ _ (fun n h w => .of_dome (Hub.wrInst_dome h _ _) w) w1
  have w3 : h3.Canonical := .forN _ _ (fun g h w => .ite w (.of_dome (h.startChan_dome e g) w)) w2
  have w4 : h4.Canonical := .forN _ _ (fun n h w => .ite (.of_dome (h.modSpire_dome _ _) w) w) w3
  have w5 : h5.Canonical := .forN _ _ (fun g h w => .of_dome (h.describePlain_dome _ _) w)
    (.of_dome (Hub.startStreams_dome h4) w4)
  have w6 : h6.Canonical := (w5.same (Hub.wrInst_dome h5 _ _) :)
  have w7 : h7.Canonical := (w6.same (Hub.ctxStartAll_dome h6) :)
  exact .ite (w7.same ((Hub.setBit_dome _ _ _ _).trans (Hub.dome_with_sys h7 _)))
    (w7.same (Hub.setMode_dome h7 _))

@[simp] theorem Hub.startAction_canonical (h : Hub) (r e : Nat) (w : h.Canonical) :
    Memory.wf (h.startAction r e).dome = true := Hub.Canonical.ite (h.coordinatedStart_canonical r e w) w

@[simp] theorem Hub.alarmActions_canonical (h : Hub) (r a : Nat) (x : AlarmLatch) (w : h.Canonical) :
    Memory.wf (h.alarmActions r a x).dome = true := by
  change Hub.Canonical _
  unfold Hub.alarmActions
  extract_lets h1 h2 h3 h4
  have w1 : h1.Canonical := .of_dome (Hub.trigOutFire_dome h r a) w
  have w2 : h2.Canonical := .ite (Hub.startAction_canonical _ _ _ w1) w1
  have w3 : h3.Canonical := .ite (.of_dome (Hub.eventRecord_dome _ _ _ _) w2) w2
  have w4 : h4.Canonical := .ite (.of_dome (Hub.alarmActs_dome _ _ _) w3) w3
  exact .ite (.of_dome (Hub.addTrigs_dome _ _ _) w4) w4

@[simp] theorem Hub.fireAlarm_canonical (h : Hub) (r a : Nat) (x : AlarmLatch) (next : Nat) (w : h.Canonical) :
    Memory.wf (h.fireAlarm r a x next).dome = true := by
  change Hub.Canonical _
  unfold Hub.fireAlarm
  extract_lets h1
  have w1 : h1.Canonical := .of_dome (Hub.incWrap_dome _ _ _ _ _) (h.alarmActions_canonical r a x w)
  exact .ite (.of_dome (Hub.disarm_dome _ _) w1) (.of_dome (Hub.dome_with_lan h1 _) w1)

@[simp] theorem alarmFire_canonical (r a : Nat) (h : Hub) (w : h.Canonical) : Memory.wf (alarmFire r a h).dome = true := by
  simp [alarmFire, w.wf]

@[simp] theorem Hub.fireFirst_canonical (h : Hub) (r a : Nat) (w : h.Canonical) : Memory.wf (h.fireFirst r a).dome = true :=
  alarmFire_canonical r a h w

@[simp] theorem alarmArmI_canonical (r c a n : Nat) (h : Hub) (w : h.Canonical) :
    Memory.wf (alarmArmI r c a n h).dome = true := by
  refine h.issue_canonical r c _ _ _ (fun h w => Fx.ite_canonical w ?_) w
  extract_lets h1 w0 w1 w2 st
  have fired : h1.Canonical := h.fireFirst_canonical r n w
  exact Fx.ite_canonical fired (Fx.ite_canonical fired (.of_dome (Hub.armAlarm_dome _ _ _ _ _ _ _ _ _) fired))

@[simp] theorem alarmDisarmI_canonical (r c n : Nat) (h : Hub) (w : h.Canonical) :
    Memory.wf (alarmDisarmI r c n h).dome = true := by
  refine h.issue_canonical r c _ _ _ (fun h w => Fx.ite_canonical w (Fx.ite_canonical w ?_)) w
  exact .of_dome (Hub.disarm_dome _ _) (h.fireFirst_canonical r n w)

@[simp] theorem Hub.alarmLate_canonical (h : Hub) (r old t a : Nat) (w : h.Canonical) :
    Memory.wf (Hub.alarmLate r old t a h).dome = true := by
  change Hub.Canonical _
  unfold Hub.alarmLate
  refine .ite (.of_dome ((Hub.incSat_dome _ _ _ _ _).trans (Hub.setBit_dome _ _ _ _)) ?_) w
  exact h.fireAlarm_canonical r a _ _ w

@[simp] theorem servoCommitApply_canonical (r : Nat) (h : Hub) (w : h.Canonical) :
    Memory.wf (servoCommitApply r h).dome = true := by
  change Hub.Canonical _
  unfold servoCommitApply
  split
  · exact w
  next s _ =>
    extract_lets old off h1 h2 h3 c h4
    refine .ite w ?_
    have e3 : h3.dome = h.dome := by simp [h3, h2, h1, -Hub.wr_dome]
    have w4 : h4.Canonical := .of_dome ((Hub.setBit_dome _ _ _ _).trans ((Hub.dome_with_lan h3 _).trans e3)) w
    split
    · exact w4
    · exact .forN _ _ (fun a h w => h.alarmLate_canonical _ _ _ a w) (.of_dome (Hub.align_dome h4) w4)

@[simp] theorem Hub.enterIdle_dome (h : Hub) (r : Nat) : (h.enterIdle r).dome = h.dome := (rfl)

@[simp] theorem Hub.endRun_canonical (h : Hub) (r t : Nat) (w : h.Canonical) : Memory.wf (h.endRun r t).dome = true := by
  change Hub.Canonical _
  unfold Hub.endRun
  extract_lets h1 h2 h3 h4 late
  have w1 : h1.Canonical := .forN _ _ (fun g h w => .ite w
    (w.same ((Hub.outputsBefore_dome _ _ _ _ (h.drainFifo r (g / 32))).trans (h.drainFifo_dome r _)) :)) w
  have w2 : h2.Canonical := w1.drainLedger _
  have stopped : (h2.ctxStopAll r t).Canonical := h2.ctxStopAll_canonical r t w2
  have w3 : h3.Canonical := (stopped.same (Hub.capStop_dome _) :)
  have w4 : h4.Canonical := (w3.same (Hub.dome_with_stageIn h3 _) :)
  exact .forIn' _ _ (fun s h w => h.seal_canonical _ _ w) (w4.drainLedger _)

@[simp] theorem Hub.stopNow_canonical (h : Hub) (r t : Nat) (w : h.Canonical) : Memory.wf (h.stopNow r t).dome = true := by
  change Hub.Canonical _
  unfold Hub.stopNow
  extract_lets h1 h2 h3 h4 h5 c
  have w1 : h1.Canonical := h.fireFirst_canonical r 15 w
  have w2 : h2.Canonical := .ite (h1.endRun_canonical r t w1) (.of_dome (Hub.capStop_dome _) w1)
  have w4 : h4.Canonical := .of_dome ((Hub.wrInst_dome _ _ _).trans (Hub.disarm_dome h2 15)) w2
  have w5 : h5.Canonical := .ite (.of_dome (Hub.testOff_dome _) w4) w4
  exact .of_dome ((Hub.enterIdle_dome _ _).trans (Hub.dome_with_sys h5 _)) w5

@[simp] theorem stopFrame_canonical (r : Nat) (h : Hub) (w : h.Canonical) : Memory.wf (stopFrame r h).dome = true := by
  unfold stopFrame
  split <;> simp [w.wf]

/-! ### Machine/Store -/

@[simp] theorem Hub.plainStore_dome (h : Hub) (row : RegRow) (a : Nat) (v : Word) :
    (h.plainStore row a v).dome = h.dome := by simp [Hub.plainStore]

@[simp] theorem Hub.regionBases_dome (h : Hub) : h.regionBases.dome = h.dome := (rfl)

@[simp] theorem Hub.regionApply_canonical (h : Hub) (r : Nat) (w : h.Canonical) :
    Memory.wf (h.regionApply r).dome = true := by
  change Hub.Canonical _
  unfold Hub.regionApply
  extract_lets old h1
  have w1 : h1.Canonical := Hub.domeUndefine_canonical _ _ (.of_dome (Hub.regionBases_dome h) w)
  exact .ite w1 (.of_dome (Hub.queueLayoutReset_dome _ _) w1)

@[simp] theorem domeSizeStore_canonical (r m a : Nat) (v : Word) (h : Hub) (w : h.Canonical) :
    Memory.wf (domeSizeStore r m a v h).dome = true := by
  change Hub.Canonical _
  exact .ite (.of_dome (Hub.refuse_dome _ _ _ _ _) w) (.ite (.of_dome (Hub.refuse_dome _ _ _ _ _) w)
    (Hub.regionApply_canonical _ _ (.of_dome (Hub.dome_wr _ _ _) w)))

@[simp] theorem Hub.systemStore_canonical (h : Hub) (r m a : Nat) (x : RegRef) (v : Word) (w : h.Canonical) :
    Memory.wf (h.systemStore r m a x v).dome = true := by simp [Hub.systemStore, w.wf]

@[simp] theorem Hub.spireStore_dome (h : Hub) (r m a : Nat) (x : RegRef) (v : Word) :
    (h.spireStore r m a x v).dome = h.dome := by simp [Hub.spireStore]

@[simp] theorem Hub.filterStore_dome (h : Hub) (r m a : Nat) (x : RegRef) (v : Word) :
    (h.filterStore r m a x v).dome = h.dome := by simp [Hub.filterStore]

@[simp] theorem Hub.lanternStore_canonical (h : Hub) (r m a : Nat) (x : RegRef) (v : Word) (w : h.Canonical) :
    Memory.wf (h.lanternStore r m a x v).dome = true := by simp [Hub.lanternStore, w.wf]

@[simp] theorem Hub.turretStore_canonical (h : Hub) (r m a : Nat) (x : RegRef) (v : Word) (w : h.Canonical) :
    Memory.wf (h.turretStore r m a x v).dome = true := by simp [Hub.turretStore, w.wf]

@[simp] theorem Hub.capeStore_canonical (h : Hub) (r m a : Nat) (x : RegRef) (v : Word) (w : h.Canonical) :
    Memory.wf (h.capeStore r m a x v).dome = true := by simp [Hub.capeStore, w.wf]

@[simp] theorem Hub.laneStore_dome (h : Hub) (r m a : Nat) (x : RegRef) (v : Word) :
    (h.laneStore r m a x v).dome = h.dome := by simp [Hub.laneStore]

@[simp] theorem Hub.selStore_dome (h : Hub) (r m a : Nat) (x : RegRef) (v : Word) :
    (h.selStore r m a x v).dome = h.dome := by simp [Hub.selStore]

@[simp] theorem Hub.controlStore_dome (h : Hub) (r m a : Nat) (x : RegRef) (v : Word) :
    (h.controlStore r m a x v).dome = h.dome := by simp [Hub.controlStore]

@[simp] theorem Hub.testStore_dome (h : Hub) (r m a : Nat) (x : RegRef) (v : Word) :
    (h.testStore r m a x v).dome = h.dome := by simp [Hub.testStore]

@[simp] theorem Hub.regStore_canonical (h : Hub) (r m a : Nat) (v : Word) (w : h.Canonical) :
    Memory.wf (h.regStore r m a v).dome = true := by
  unfold Hub.regStore
  refine Hub.Canonical.ite (.of_dome (by simp) w) ?_
  split
  · exact w
  · simp [w.wf]

/-! ### Machine/Plan -/

@[simp] theorem Hub.loadBuffer_dome (h : Hub) (a len : Nat) : (h.loadBuffer a len).dome = h.dome := by simp [Hub.loadBuffer]

@[simp] theorem Hub.clearWindow_dome (h : Hub) (c : Nat) : (h.clearWindow c).dome = h.dome := (rfl)

@[simp] theorem Hub.settleCommit_canonical (h : Hub) (r a : Nat) (w : h.Canonical) :
    Memory.wf (h.settleCommit r a).dome = true := by simp [Hub.settleCommit, w.wf]

@[simp] theorem setupApply_canonical (r : Nat) (s : SetupRec) (h : Hub) (w : h.Canonical) :
    Memory.wf (setupApply r s h).2.dome = true := by
  change Hub.Canonical _
  unfold setupApply
  split
  · exact Hub.regStore_canonical _ _ _ _ _ (h.settleCommit_canonical r s.addr w)
  · extract_lets h1
    have w1 : h1.Canonical := .ite (h.settleCommit_canonical r s.addr w) w
    exact Hub.regStore_canonical _ _ _ _ _ w1

@[simp] theorem setupRun_canonical (r : Nat) (l : List (Nat × SetupRec)) :
    ∀ h : Hub, h.Canonical → Memory.wf (setupRun r l h).2.dome = true := by
  induction l with
  | nil => exact fun h w => w
  | cons x t ih =>
    intro h w
    have applied : (setupApply r x.2 h).2.Canonical := setupApply_canonical r x.2 h w
    simp only [setupRun]
    split
    · exact ih _ applied
    · exact applied

theorem Hub.dome_with_plan (h : Hub) (c : SMap Ctx) (q : List (Nat × Nat × PortElem)) (s : Sys) (x : Selail) :
    { h with ctxs := c, stageIn := q, sys := s, sel := x }.dome = h.dome := rfl

theorem Hub.Canonical.unloadPlan {h : Hub} (w : h.Canonical) (r : Nat) : (h.unloadPlan r).Canonical := by
  unfold Hub.unloadPlan
  extract_lets opens h1 h2 h3 h4 h5 h6 h7 h8
  have w3 : h3.Canonical := .of_dome (by simp [h3, h2, h1]) w
  have w4 : h4.Canonical := .forN _ _ (fun c h w => .of_dome (h.clearWindow_dome c) w) w3
  have w5 : h5.Canonical := .forN _ _ (fun t h w => .of_dome (h.dome_wr _ _) w) w4
  have w6 : h6.Canonical := .forN _ _ (fun s h w => .of_dome (h.setFld_dome _ _ _ _) w) w5
  have w7 : h7.Canonical := (w6.same ((Hub.dome_wr _ _ _).trans ((Hub.dome_wr _ _ _).trans (h6.dome_wr _ _))) :)
  have w8 : h8.Canonical := (w7.same (h7.dome_wr _ _) :)
  exact w8.same (h8.dome_with_plan _ _ _ _)

@[simp] theorem Hub.planSizes_canonical (h : Hub) (r : Nat) (f : Hub) (any : Bool) (w : h.Canonical) :
    Memory.wf (h.planSizes r f any).dome = true := by
  change Hub.Canonical _
  exact .ite (Hub.regionApply_canonical _ _ (.of_dome (by simp) w)) w

@[simp] theorem Hub.loadCode_dome (h : Hub) (p : PlanImage) (code : List (Nat × Nat)) :
    (h.loadCode p code).dome = h.dome := (rfl)

@[simp] theorem Hub.loadBudget_dome (h : Hub) (b : Budget) : (h.loadBudget b).dome = h.dome := by simp [Hub.loadBudget]

@[simp] theorem Hub.showKinds_dome (h : Hub) : h.showKinds.dome = h.dome := by simp [Hub.showKinds]

@[simp] theorem Hub.applyPlan_canonical (h : Hub) (r : Nat) (c : Checked) (w : h.Canonical) :
    Memory.wf (h.applyPlan r c).2.2.dome = true := by
  change Hub.Canonical _
  unfold Hub.applyPlan
  extract_lets p h1 h2 setup
  have w1 : h1.Canonical := Hub.planSizes_canonical _ _ _ _ (w.unloadPlan r)
  have w2 : h2.Canonical := (w1.same (Hub.loadCode_dome h1 p c.code) :)
  split
  next fault h3 hs =>
    have w3 : h3.Canonical := Hub.canonical_of_snd hs (setupRun_canonical _ _ _ w2)
    split
    · exact w3.same ((Hub.dome_wr _ _ _).trans (Hub.dome_with_sys h3 _))
    · extract_lets h4 plan s h5 h6 h7 h8
      have w4 : h4.Canonical := .forIn' _ _ (fun d h w => h.domeBytes_canonical _ _ w) w3
      have w5 : h5.Canonical := (w4.same (Hub.dome_with_sys h4 _) :)
      have w6 : h6.Canonical := .forIn' _ _ (fun c h w => .of_dome (h.dome_setCtx c _) w) w5
      have w7 : h7.Canonical := (w6.same ((Hub.showKinds_dome _).trans (Hub.loadBudget_dome h6 _)) :)
      have w8 : h8.Canonical := (w7.same ((Hub.dome_wr _ _ _).trans ((Hub.dome_wr _ _ _).trans (h7.dome_wr _ _))) :)
      exact w8.same (h8.dome_wr _ _)

@[simp] theorem Hub.loadPlan_canonical (h : Hub) (r a len : Nat) (w : h.Canonical) :
    Memory.wf (h.loadPlan r a len).2.2.dome = true := by
  change Hub.Canonical _
  unfold Hub.loadPlan
  extract_lets check h1 keep
  have w1 : h1.Canonical := (w.same (Hub.loadBuffer_dome h a len) :)
  clear_value check
  cases check with
  | error e => exact w1.same ((Hub.report_dome _ _ _ _ _ _).trans (Hub.dome_wr h1 _ _))
  | ok c =>
    have applied : (h1.applyPlan r c).2.2.Canonical := h1.applyPlan_canonical r c w1
    simp only
    split
    · exact applied
    · exact applied.same (Hub.report_dome _ _ _ _ _ _)

@[simp] theorem Hub.resetWindow_dome (h : Hub) (c : Nat) : (h.resetWindow c).dome = h.dome := (rfl)

@[simp] theorem Hub.reapplySetup_dome (h : Hub) (c : Nat) : (h.reapplySetup c).dome = h.dome := by simp [Hub.reapplySetup]

theorem Hub.dome_with_ctl_sys (h : Hub) (x : Control) (y : Sys) : { h with ctl := x, sys := y }.dome = h.dome := rfl

@[simp] theorem Hub.turretReset_canonical (h : Hub) (r t : Nat) (w : h.Canonical) :
    Memory.wf (h.turretReset r t).dome = true := by
  change Hub.Canonical _
  unfold Hub.turretReset
  extract_lets h1 h2 c s h3 h4 h5
  have w1 : h1.Canonical := .forN _ _
    (fun l h w => .of_dome (Hub.releaseLocks_dome _ _ _) (h.ctxFinish_canonical _ _ w)) w
  have w2 : h2.Canonical := (w1.same (h1.masterReset_dome _ _) :)
  have w3 : h3.Canonical := (w2.same (h2.dome_with_ctl_sys _ _) :)
  have w4 : h4.Canonical := (w3.same (h3.showHeld_dome _ _) :)
  have w5 : h5.Canonical := .forIn' _ _ (fun a h w => .of_dome (h.dome_wr _ _) w) w4
  refine .forN _ _ (fun l h w => ?_) w5
  have reset : (h.resetWindow (64 * t + l)).Canonical := w.same (h.resetWindow_dome _)
  exact .ite reset (reset.same ((Hub.reapplySetup_dome _ _).trans (Hub.modCtx_dome _ _ _)))

@[simp] theorem turretResetEnd_dome (r t : Nat) (h : Hub) : (turretResetEnd r t h).dome = h.dome := by simp [turretResetEnd]

@[simp] theorem turretUngate_dome (r t : Nat) (h : Hub) : (turretUngate r t h).dome = h.dome := by simp [turretUngate]

/-! ### Machine/Commands -/

@[simp] theorem Hub.commandTake_dome (h : Hub) (ch : Nat) : (h.commandTake ch).dome = h.dome := by simp [Hub.commandTake]

/-- The hub an answer to a command leaves has its Dome in canonical form. -/
def Reply.Canonical : Reply → Prop
  | .now _ _ h => h.Canonical
  | .later h => h.Canonical

theorem Reply.Canonical.ite {c : Prop} [Decidable c] {a b : Reply} (wa : a.Canonical) (wb : b.Canonical) :
    (if c then a else b).Canonical := by split <;> assumption

/-- A command's body keeps the canonical form. -/
def AnswersCanonical (f : Nat → Hub → Reply) : Prop := ∀ a h, h.Canonical → (f a h).Canonical

@[simp] theorem Hub.rejectState_dome (h : Hub) (r ch : Nat) : (h.rejectState r ch).dome = h.dome := by simp [Hub.rejectState]

@[simp] theorem command_canonical (r ch op : Nat) (legal : Hub → Nat → Bool) (f : Nat → Hub → Reply) (h : Hub)
    (hf : AnswersCanonical f) (w : h.Canonical) : Memory.wf (command r ch op legal f h).dome = true := by
  change Hub.Canonical _
  unfold command
  extract_lets v code arg h1
  have w1 : h1.Canonical := (w.same (h.commandTake_dome ch) :)
  have rejected : (h1.rejectState r ch).Canonical := w1.same (h1.rejectState_dome r ch)
  refine .ite w (.ite ?_ (.ite (w1.same (h1.respond_dome _ _ _ _)) (.ite rejected ?_)))
  · exact w1.same ((Hub.report_dome _ _ _ _ _ _).trans (h1.setInflight_dome _ _))
  · have answered := hf arg h1 w1
    revert answered
    cases f arg h1 with
    | now st res h2 => exact fun answered => .ite rejected (answered.same (h2.respond_dome _ _ _ _))
    | later h2 => exact id

@[simp] theorem Hub.slotWrite_canonical (h : Hub) (s : Nat) (ws : List Word) (w : h.Canonical) :
    Memory.wf (h.slotWrite s ws).dome = true := h.domeBytes_canonical _ _ w

theorem withSlot_canonical (f : Nat → Hub → Reply) (hf : AnswersCanonical f) : AnswersCanonical (withSlot f) :=
  fun a h w => .ite (hf a h w) w

theorem withArg_canonical (hi : Nat) (f : Nat → Hub → Reply) (hf : AnswersCanonical f) : AnswersCanonical (withArg hi f) :=
  fun a h w => .ite (hf a h w) w

@[simp] theorem nopCommand_canonical (r ch : Nat) (h : Hub) (w : h.Canonical) :
    Memory.wf (nopCommand r ch h).dome = true :=
  command_canonical _ _ _ _ _ _ (withArg_canonical _ _ fun _ _ w => w) w

@[simp] theorem pingCommand_canonical (r ch : Nat) (h : Hub) (w : h.Canonical) :
    Memory.wf (pingCommand r ch h).dome = true := command_canonical _ _ _ _ _ _ (fun _ _ w => w) w

@[simp] theorem statusCommand_canonical (r ch : Nat) (h : Hub) (w : h.Canonical) :
    Memory.wf (statusCommand r ch h).dome = true :=
  command_canonical _ _ _ _ _ _ (withSlot_canonical _ fun s h w => h.slotWrite_canonical s _ w) w

@[simp] theorem errlogDrain_canonical (r ch : Nat) (h : Hub) (w : h.Canonical) :
    Memory.wf (errlogDrain r ch h).dome = true :=
  command_canonical _ _ _ _ _ _ (withSlot_canonical _ fun s h w =>
    Hub.Canonical.of_dome (Hub.elogFree_dome _ _) (h.slotWrite_canonical s _ w)) w

@[simp] theorem loadPlanCommand_canonical (r ch : Nat) (h : Hub) (w : h.Canonical) :
    Memory.wf (loadPlanCommand r ch h).dome = true :=
  command_canonical _ _ _ _ _ _ (withSlot_canonical _ fun _ h w => h.loadPlan_canonical _ _ _ w) w

@[simp] theorem Hub.ungateUsed_dome (h : Hub) : h.ungateUsed.dome = h.dome := by simp [Hub.ungateUsed]

@[simp] theorem armCommand_canonical (r ch : Nat) (h : Hub) (w : h.Canonical) :
    Memory.wf (armCommand r ch h).dome = true :=
  command_canonical _ _ _ _ _ _ (withArg_canonical _ _ fun _ h w => .ite w (.ite w
    (w.same ((Hub.changeMode_dome _ _ _).trans h.ungateUsed_dome)))) w

@[simp] theorem Hub.armStart_canonical (h : Hub) (r : Nat) (w0 w1 w2 : Word) (w : h.Canonical) :
    Memory.wf (h.armStart r w0 w1 w2).dome = true := by
  change Hub.Canonical _
  have fired : (h.fireFirst r 15).Canonical := h.fireFirst_canonical r 15 w
  exact fired.same ((Hub.armAlarm_dome _ _ _ _ _ _ _ _ _).trans ((Hub.dome_wr _ _ _).trans ((Hub.dome_wr _ _ _).trans
    ((Hub.dome_wr _ _ _).trans (Hub.wr3_dome _ _ _ _ _)))))

@[simp] theorem startCommand_canonical (r ch : Nat) (h : Hub) (w : h.Canonical) :
    Memory.wf (startCommand r ch h).dome = true :=
  command_canonical _ _ _ _ _ _ (withSlot_canonical _ fun _ h w => .ite w (.ite w (h.armStart_canonical _ _ _ _ w))) w

@[simp] theorem Hub.scheduleStop_dome (h : Hub) (t : Nat) : (h.scheduleStop t).dome = h.dome := (rfl)

@[simp] theorem Hub.stopArmed_canonical (h : Hub) (r t : Nat) (w : h.Canonical) :
    Memory.wf (h.stopArmed r t).2.dome = true := by
  change Hub.Canonical _
  have fired : (h.fireFirst r 15).Canonical := h.fireFirst_canonical r 15 w
  have stopped (t : Nat) : (((h.fireFirst r 15).disarm 15).scheduleStop t).Canonical :=
    fired.same ((Hub.scheduleStop_dome _ _).trans (Hub.disarm_dome _ _))
  unfold Hub.stopArmed
  extract_lets h1
  split
  · exact stopped _
  · exact stopped _

@[simp] theorem stopCommand_canonical (r ch : Nat) (h : Hub) (w : h.Canonical) :
    Memory.wf (stopCommand r ch h).dome = true :=
  command_canonical _ _ _ _ _ _ (fun _ h w => .ite w (.ite w (.ite (h.stopArmed_canonical _ _ w)
    (w.same (h.scheduleStop_dome _))))) w

@[simp] theorem Hub.scanHead_canonical (h : Hub) (l st : Nat) (s : EyeScan) (w : h.Canonical) :
    Memory.wf (h.scanHead l st s).dome = true := by
  change Hub.Canonical _
  unfold Hub.scanHead
  extract_lets h1
  have w1 : h1.Canonical := .forIn' _ _ (fun p h w => h.domeWrite_canonical _ _ _ w) w
  exact w1.same ((Hub.setBit_dome _ _ _ _).trans (h1.modLane_dome _ _))

@[simp] theorem Hub.endScan_canonical (h : Hub) (r l : Nat) (w : h.Canonical) :
    Memory.wf (h.endScan r l).dome = true := by
  unfold Hub.endScan
  split
  · exact w
  · simp [w.wf]

theorem Hub.Canonical.endScans {h : Hub} (w : h.Canonical) (r : Nat) : (h.endScans r).Canonical :=
  .forN _ _ (fun l h w => h.endScan_canonical r l w) w

@[simp] theorem abortCommand_canonical (r ch : Nat) (h : Hub) (w : h.Canonical) :
    Memory.wf (abortCommand r ch h).dome = true := by
  refine command_canonical _ _ _ _ _ _ (withArg_canonical _ _ fun _ h w => ?_) w
  extract_lets h1
  have w1 : h1.Canonical := w.endScans r
  split
  · exact w1
  · exact h1.stopArmed_canonical _ _ w1
  · exact w1.same (h1.scheduleStop_dome _)
  · exact w1.same (h1.scheduleStop_dome _)

@[simp] theorem trimNowCommand_canonical (r ch : Nat) (h : Hub) (w : h.Canonical) :
    Memory.wf (trimNowCommand r ch h).dome = true :=
  command_canonical _ _ _ _ _ _ (withArg_canonical _ _ fun n h w => w.same (trimRequest_dome r n 4 h)) w

@[simp] theorem trimHoldCommand_canonical (r ch : Nat) (h : Hub) (w : h.Canonical) :
    Memory.wf (trimHoldCommand r ch h).dome = true :=
  command_canonical _ _ _ _ _ _ (withArg_canonical _ _ fun _ h w => w.same (h.setBit_dome _ _ _)) w

@[simp] theorem trimReleaseCommand_canonical (r ch : Nat) (h : Hub) (w : h.Canonical) :
    Memory.wf (trimReleaseCommand r ch h).dome = true :=
  command_canonical _ _ _ _ _ _ (withArg_canonical _ _ fun _ h w => w.same (h.setBit_dome _ _ _)) w

@[simp] theorem Hub.saved_dome (h : Hub) (st : Nat) : (h.saved st).dome = h.dome := (rfl)

@[simp] theorem Hub.restored_dome (h : Hub) (st : Nat) : (h.restored st).dome = h.dome := (rfl)

@[simp] theorem calSaveCommand_canonical (r ch : Nat) (h : Hub) (w : h.Canonical) :
    Memory.wf (calSaveCommand r ch h).dome = true :=
  command_canonical _ _ _ _ _ _ (fun _ h w => .ite (w.same (h.saved_dome _)) (.ite (w.same (h.saved_dome _))
    (w.same ((Hub.setBit_dome _ _ _ _).trans (h.dome_with_sys _))))) w

@[simp] theorem calSaveSnapshot_canonical (r : Nat) (h : Hub) (w : h.Canonical) :
    Memory.wf (calSaveSnapshot r h).dome = true := by
  change Hub.Canonical _
  unfold calSaveSnapshot
  split
  · exact w
  · extract_lets h1 s h2
    have w1 : h1.Canonical := w.domeBytes _ _
    have w2 : h2.Canonical := (w1.same ((Hub.saved_dome _ _).trans ((Hub.setBit_dome _ _ _ _).trans (h1.dome_with_sys _))) :)
    exact .ite w (w2.same (h2.respond_dome _ _ _ _))

@[simp] theorem calRestoreCommand_canonical (r ch : Nat) (h : Hub) (w : h.Canonical) :
    Memory.wf (calRestoreCommand r ch h).dome = true := by
  refine command_canonical _ _ _ _ _ _ (fun _ h w => .ite (w.same (h.restored_dome _)) ?_) w
  split
  · exact w.same (h.restored_dome _)
  · exact .ite (w.same (h.restored_dome _)) (w.same (h.dome_with_sys _))

@[simp] theorem calRestoreApply_dome (r : Nat) (h : Hub) : (calRestoreApply r h).dome = h.dome := by
  unfold calRestoreApply
  split <;> simp

@[simp] theorem promoteCommand_canonical (r ch : Nat) (h : Hub) (w : h.Canonical) :
    Memory.wf (promoteCommand r ch h).dome = true :=
  command_canonical _ _ _ _ _ _ (withArg_canonical _ _ fun _ h w =>
    .ite w (.ite w (.ite w (w.same (h.propose_dome r))))) w

@[simp] theorem demoteCommand_canonical (r ch : Nat) (h : Hub) (w : h.Canonical) :
    Memory.wf (demoteCommand r ch h).dome = true :=
  command_canonical _ _ _ _ _ _ (withArg_canonical _ _ fun _ h w => .ite w (.ite w (.ite w
    (.ite (w.same ((Hub.selPeer_dome _ _ _ _ _).trans (h.dome_with_sel _))) (w.same (h.fence_dome r)))))) w

@[simp] theorem setPreferredCommand_canonical (r ch : Nat) (h : Hub) (w : h.Canonical) :
    Memory.wf (setPreferredCommand r ch h).dome = true :=
  command_canonical _ _ _ _ _ _ (withArg_canonical _ _ fun _ h w => .ite w
    (w.same ((Hub.dome_with_sel _ _).trans (h.setBit_dome _ _ _)))) w

@[simp] theorem Hub.relinquish_dome (h : Hub) (r : Nat) : (h.relinquish r).dome = h.dome := by simp [Hub.relinquish]

@[simp] theorem serviceEnterCommand_canonical (r ch : Nat) (h : Hub) (w : h.Canonical) :
    Memory.wf (serviceEnterCommand r ch h).dome = true := by
  refine command_canonical _ _ _ _ _ _ (withArg_canonical _ _ fun _ h w => .ite w ?_) w
  extract_lets h1 t h2
  have w1 : h1.Canonical := (w.same (h.changeMode_dome _ _) :)
  have w2 : h2.Canonical := (.of_wf (Hub.armStart_canonical _ r _ _ _ (w1.same h1.ungateUsed_dome)) : Hub.Canonical _)
  exact .ite w1 (w2.same (h2.dome_with_sys _))

@[simp] theorem Hub.enterMode_dome (h : Hub) (r : Nat) (m : Mode) : (h.enterMode r m).dome = h.dome := by
  unfold Hub.enterMode
  split <;> simp

@[simp] theorem Hub.modeDue_dome (h : Hub) (r : Nat) : (h.modeDue r).dome = h.dome := by
  unfold Hub.modeDue
  split <;> simp

@[simp] theorem serviceExitCommand_canonical (r ch : Nat) (h : Hub) (w : h.Canonical) :
    Memory.wf (serviceExitCommand r ch h).dome = true :=
  command_canonical _ _ _ _ _ _ (withArg_canonical _ _ fun _ h w => w.same (h.scheduleStop_dome _)) w

@[simp] theorem linkRetrainCommand_canonical (r ch : Nat) (h : Hub) (w : h.Canonical) :
    Memory.wf (linkRetrainCommand r ch h).dome = true :=
  command_canonical _ _ _ _ _ _ (withArg_canonical _ _ fun l h w => w.same (h.retrain_dome r l)) w

@[simp] theorem eyeScanCommand_canonical (r ch : Nat) (h : Hub) (w : h.Canonical) :
    Memory.wf (eyeScanCommand r ch h).dome = true :=
  command_canonical _ _ _ _ _ _ (withSlot_canonical _ fun _ h w => .ite (w.same (h.eyeScanStart_dome ch _)) w) w

@[simp] theorem timeSourceCommand_canonical (r ch : Nat) (h : Hub) (w : h.Canonical) :
    Memory.wf (timeSourceCommand r ch h).dome = true :=
  command_canonical _ _ _ _ _ _ (withArg_canonical _ _ fun src h w => w.same (h.timeSource_dome r src)) w

@[simp] theorem turretResetCommand_canonical (r ch : Nat) (h : Hub) (w : h.Canonical) :
    Memory.wf (turretResetCommand r ch h).dome = true :=
  command_canonical _ _ _ _ _ _ (withArg_canonical _ _ fun t h w => h.turretReset_canonical r t w) w

@[simp] theorem hubResetCommand_canonical (r ch : Nat) (h : Hub) (w : h.Canonical) :
    Memory.wf (hubResetCommand r ch h).dome = true := by
  refine command_canonical _ _ _ _ _ _ (fun arg h w => ?_) w
  split
  · exact w
  · exact w.same (h.dome_with_sys _)

/-! ### Machine/Boot -/

/-- A reset leaves the Dome without a defined byte. -/
theorem Hub.afterReset_dome (h : Hub) (cause : Nat) : (h.afterReset cause).dome = [] :=
  (Hub.showGrant_dome _).trans ((Hub.setFld_dome _ _ _ _ _).trans (Hub.dome_wr _ _ _))

@[simp] theorem Hub.afterReset_canonical (h : Hub) (cause : Nat) : Memory.wf (h.afterReset cause).dome = true := by
  rw [Hub.afterReset_dome]
  rfl

@[simp] theorem powerOnRelease_canonical (h : Hub) (w : h.Canonical) : Memory.wf (powerOnRelease h).dome = true :=
  Hub.Canonical.ite w (h.afterReset_canonical _)

@[simp] theorem powerLoss_canonical (h : Hub) : Memory.wf (powerLoss h).dome = true :=
  (Hub.Canonical.of_wf (h.afterReset_canonical causePOWERON)).same (Hub.dome_with_sys _ _)

@[simp] theorem Hub.abortInj_dome (n : Nat) (e : InjEntry) (h : Hub) : (Hub.abortInj n e h).dome = h.dome := by
  unfold Hub.abortInj
  split <;> rfl

@[simp] theorem Hub.spireReset_dome (h : Hub) (r n : Nat) : (h.spireReset r n).dome = h.dome := by simp [Hub.spireReset]

@[simp] theorem spireResetEnd_dome (r n : Nat) (h : Hub) : (spireResetEnd r n h).dome = h.dome := by simp [spireResetEnd]

@[simp] theorem Hub.laneReset_canonical (h : Hub) (r l : Nat) (w : h.Canonical) :
    Memory.wf (h.laneReset r l).dome = true := by
  change Hub.Canonical _
  unfold Hub.laneReset
  extract_lets h1 pins h2 h3
  have ended : (h.endScan r l).Canonical := h.endScan_canonical r l w
  have w1 : h1.Canonical := (ended.same (Hub.leaveActive_dome _ r l _) :)
  have w2 : h2.Canonical := .forIn' _ _ (fun a h w => w.same (h.dome_wr _ _)) w1
  exact (w2.same (h2.dome_wr _ _)).same (Hub.modLane_dome _ _ _)

@[simp] theorem laneResetEnd_dome (r l : Nat) (h : Hub) : (laneResetEnd r l h).dome = h.dome := by simp [laneResetEnd]

@[simp] theorem Hub.belfryReset_dome (h : Hub) (r : Nat) (why : List (Nat × Word)) :
    (h.belfryReset r why).dome = h.dome := by simp [Hub.belfryReset]

@[simp] theorem lockstepMismatch_dome (r : Nat) (pc : Word) (h : Hub) : (lockstepMismatch r pc h).dome = h.dome := by
  simp [lockstepMismatch]

@[simp] theorem watchdogExpiry_dome (r : Nat) (h : Hub) : (watchdogExpiry r h).dome = h.dome := by simp [watchdogExpiry]

@[simp] theorem Hub.abortInflight_canonical (r ch : Nat) (h : Hub) (w : h.Canonical) :
    Memory.wf (Hub.abortInflight r ch h).dome = true := by
  change Hub.Canonical _
  unfold Hub.abortInflight
  extract_lets h1 h2
  refine .ite ?_ w
  have w1 : h1.Canonical := by
    refine .forN _ _ (fun l h w => ?_) w
    split
    · exact .ite (h.scanHead_canonical _ _ _ w) w
    · exact w
  have w2 : h2.Canonical := .ite (w1.same (h1.respond_dome _ _ _ _)) (w1.same (h1.setInflight_dome _ _))
  exact w2.same (h2.report_dome _ _ _ _ _)

@[simp] theorem resetDelayExpiry_canonical (r : Nat) (h : Hub) (w : h.Canonical) :
    Memory.wf (resetDelayExpiry r h).dome = true := by
  change Hub.Canonical _
  unfold resetDelayExpiry
  split
  · exact w
  · extract_lets s h1
    have w1 : h1.Canonical := (w.same (h.dome_with_sys _) :)
    split
    · exact h1.afterReset_canonical _
    · exact w1.same (h1.belfryReset_dome _ _)
    · exact w1.same (h1.spireReset_dome _ _)
    · exact h1.laneReset_canonical _ _ w1

@[simp] theorem Hub.setBootStage_dome (h : Hub) (s : Nat) : (h.setBootStage s).dome = h.dome := (rfl)

@[simp] theorem Hub.bootError_dome (h : Hub) (r st : Nat) : (h.bootError r st).dome = h.dome := by simp [Hub.bootError]

@[simp] theorem bootRomStart_dome (r sel : Nat) (h : Hub) : (bootRomStart r sel h).dome = h.dome := by
  unfold bootRomStart
  split <;> (try split) <;> simp

@[simp] theorem Hub.writeRestartLog_dome (h : Hub) (r : Nat) : (h.writeRestartLog r).dome = h.dome := by simp [Hub.writeRestartLog]

@[simp] theorem belfryRestart_canonical (r : Nat) (h : Hub) (w : h.Canonical) :
    Memory.wf (belfryRestart r h).dome = true := by
  change Hub.Canonical _
  unfold belfryRestart
  refine .ite w (.ite (w.same ((Hub.bootError_dome _ _ _).trans (h.setBootStage_dome _))) ?_)
  extract_lets s h1
  have w1 : h1.Canonical := (w.same ((Hub.showHeld_dome _ _ _).trans (h.dome_with_ctl _)) :)
  have w2 := Hub.Canonical.forN 64 _ (fun ch h w => Hub.abortInflight_canonical r ch h w) w1
  exact w2.same (Hub.writeRestartLog_dome _ _)

@[simp] theorem Hub.runFirmware_canonical (h : Hub) (r source : Nat) (cfg : List SetupWrite) (w : h.Canonical) :
    Memory.wf (h.runFirmware r source cfg).dome = true := by
  change Hub.Canonical _
  unfold Hub.runFirmware
  extract_lets h1 s h2
  have w1 : h1.Canonical := (w.same ((Hub.dome_wr _ _ _).trans ((Hub.setFld_dome _ _ _ _ _).trans (h.setBootStage_dome _))) :)
  have w2 : h2.Canonical := (w1.same ((Hub.bindCommands_dome _).trans (h1.dome_with_sys _)) :)
  have w3 := Hub.Canonical.forIn' (cfg.filter fun w => w.1 = Addr.LAN_CFG) (fun x h => h.regStore r belfry x.1 x.2)
    (fun x h w => h.regStore_canonical r belfry x.1 x.2 w) w2
  exact w3.same (Hub.writeRestartLog_dome _ _)

@[simp] theorem Hub.startVerify_dome (h : Hub) (source : Nat) (img : List Byte) (cfg : List SetupWrite) :
    (h.startVerify source img cfg).dome = h.dome := (rfl)

@[simp] theorem Hub.verifyDone_canonical (h : Hub) (r : Nat) (w : h.Canonical) :
    Memory.wf (h.verifyDone r).dome = true := by
  change Hub.Canonical _
  unfold Hub.verifyDone
  split
  · exact w
  · extract_lets s h1
    have w1 : h1.Canonical := (w.same (h.dome_with_sys _) :)
    split
    · exact h1.runFirmware_canonical _ _ _ w1
    · exact w1.same ((Hub.setBootStage_dome _ _).trans (h1.bootError_dome _ _))

@[simp] theorem firmwareLoaded_dome (img : List Byte) (cfg : List SetupWrite) (h : Hub) :
    (firmwareLoaded img cfg h).dome = h.dome := by simp [firmwareLoaded]

@[simp] theorem bootCtrlStore_dome (r : Nat) (v : Word) (cfg : List SetupWrite) (h : Hub) :
    (bootCtrlStore r v cfg h).dome = h.dome := by simp [bootCtrlStore]

@[simp] theorem Hub.calValue_dome (w : SetupWrite) (h : Hub) : (Hub.calValue w h).dome = h.dome := by
  unfold Hub.calValue
  split <;> simp

@[simp] theorem Hub.bootTrim_dome (n c : Nat) (h : Hub) : (Hub.bootTrim n c h).dome = h.dome := (rfl)

@[simp] theorem Hub.failSlices_dome (n : Nat) (failed : List Nat) (h : Hub) : (Hub.failSlices n failed h).dome = h.dome := by
  unfold Hub.failSlices
  extract_lets h1 order h2 h3
  have e1 : h1.dome = h.dome := by simp [h1]
  have e3 : h3.dome = h.dome := by simp [h3, h2, e1]
  simp [e1, e3]

@[simp] theorem Hub.bootValues_dome (h : Hub) (b : BootCal) : (h.bootValues b).dome = h.dome := by simp [Hub.bootValues]

@[simp] theorem Hub.forgetMarks_dome (h : Hub) : h.forgetMarks.dome = h.dome := by simp [Hub.forgetMarks]

@[simp] theorem Hub.bootFail_dome (r : Nat) (b : BootCal) (n : Nat) (h : Hub) :
    (Hub.bootFail r b n h).dome = h.dome := by simp [Hub.bootFail]

@[simp] theorem bootCalComplete_canonical (r : Nat) (b : BootCal) (h : Hub) (w : h.Canonical) :
    Memory.wf (bootCalComplete r b h).dome = true := by
  change Hub.Canonical _
  unfold bootCalComplete
  extract_lets h1 h2 h3 h4 s
  have w1 : h1.Canonical := .forN _ _ (fun g h w => w.same (h.bootTrim_dome _ _)) (w.same (h.bootValues_dome b))
  have w2 : h2.Canonical :=
    ((Hub.Canonical.forN 16 _ (fun n h w => w.same (Hub.bootFail_dome r b n h)) w1).same (Hub.forgetMarks_dome _) :)
  have w3 : h3.Canonical := (w2.same ((Hub.setFld_dome _ _ _ _ _).trans (h2.setBit_dome _ _ _)) :)
  have w4 : h4.Canonical := .forIn' _ _ (fun x h w => h.regStore_canonical r belfry x.1 x.2 w) w3
  exact .ite w (w4.same ((Hub.changeMode_dome _ _ _).trans (h4.dome_with_sys _)))

@[simp] theorem Hub.otpRefuse_dome (h : Hub) (r m st : Nat) : (h.otpRefuse r m st).dome = h.dome := by simp [Hub.otpRefuse]

@[simp] theorem Hub.otpStart_dome (h : Hub) (r m : Nat) (lock : Bool) : (h.otpStart r m lock).dome = h.dome := by
  simp [Hub.otpStart]

@[simp] theorem otpCtrlStore_dome (r m : Nat) (v : Word) (h : Hub) : (otpCtrlStore r m v h).dome = h.dome := by simp [otpCtrlStore]

@[simp] theorem otpStageStore_dome (k : Nat) (v : Word) (h : Hub) : (otpStageStore k v h).dome = h.dome := (rfl)

@[simp] theorem otpSequenceTimeout_dome (r : Nat) (h : Hub) : (otpSequenceTimeout r h).dome = h.dome := by
  unfold otpSequenceTimeout
  split <;> simp

@[simp] theorem otpProgramComplete_dome (r : Nat) (h : Hub) : (otpProgramComplete r h).dome = h.dome := by
  unfold otpProgramComplete
  repeat' split
  all_goals simp

/-! ### Machine/Bus -/

@[simp] theorem Hub.restrictedStore_canonical (h : Hub) (r m a : Nat) (v : Word) (w : h.Canonical) :
    Memory.wf (h.restrictedStore r m a v).dome = true := by
  have stored : (h.regStore r m a v).Canonical := h.regStore_canonical r m a v w
  change Hub.Canonical _
  exact .ite (.ite (stored.same (Hub.setBit_dome _ _ _ _)) stored) (.ite stored (w.same (h.refuse_dome _ _ _ _)))

@[simp] theorem Hub.registerWrite_canonical (h : Hub) (r m a : Nat) (v : Word) (cfg : List SetupWrite) (w : h.Canonical) :
    Memory.wf (h.registerWrite r m a v cfg).dome = true := by simp [Hub.registerWrite, w.wf]

@[simp] theorem Hub.busWrite_canonical (h : Hub) (r m a size : Nat) (v : Word) (cfg : List SetupWrite) (w : h.Canonical) :
    Memory.wf (h.busWrite r m a size v cfg).dome = true := by
  change Hub.Canonical _
  refine .ite (w.same ((Hub.setOk_dome _ _ _).trans (h.dome_deny _ _ _ _))) (.ite ?_ ?_)
  · exact (w.domeWrite a size v.toNat).same (Hub.setOk_dome _ _ _)
  · exact (Hub.Canonical.of_wf (h.registerWrite_canonical r m a v cfg w)).same (Hub.setOk_dome _ _ _)

@[simp] theorem Hub.write_canonical (h : Hub) (r m a : Nat) (v : Word) (w : h.Canonical) :
    Memory.wf (h.write r m a v).dome = true := h.busWrite_canonical r m a 4 v [] w

@[simp] theorem Hub.registerRead_dome (h : Hub) (r m a : Nat) : (h.registerRead r m a).2.dome = h.dome := by
  unfold Hub.registerRead
  split <;> simp

@[simp] theorem Hub.busReadValue_dome (h : Hub) (r m a size : Nat) : (h.busReadValue r m a size).2.dome = h.dome := by
  simp [Hub.busReadValue]

theorem Hub.busRead_leaves_dome (h : Hub) (r m a size : Nat) : (h.busRead r m a size).dome = h.dome :=
  h.busReadValue_dome r m a size

@[simp] theorem Hub.read_dome (h : Hub) (r m a : Nat) : (h.read r m a).dome = h.dome := h.busRead_leaves_dome r m a 4

@[simp] theorem crossingStuck_dome (r k : Nat) (h : Hub) : (crossingStuck r k h).dome = h.dome := by simp [crossingStuck]

@[simp] theorem Hub.abandonRead_dome (h : Hub) (r m a : Nat) : (h.abandonRead r m a).dome = h.dome := by simp [Hub.abandonRead]

@[simp] theorem bridgeTimeout_dome (r m a : Nat) (h : Hub) : (bridgeTimeout r m a h).dome = h.dome := by simp [bridgeTimeout]

@[simp] theorem abandonedReadComplete_dome (r : Nat) (h : Hub) : (abandonedReadComplete r h).dome = h.dome := by
  unfold abandonedReadComplete
  split <;> simp

@[simp] theorem Hub.spiFrame_dome (h : Hub) : h.spiFrame.dome = h.dome := (rfl)

@[simp] theorem spiWrite_canonical (r : Nat) (b v : Word) (h : Hub) (w : h.Canonical) :
    Memory.wf (spiWrite r b v h).dome = true := by
  change Hub.Canonical _
  unfold spiWrite
  extract_lets busy h1 p c h2
  have w1 : h1.Canonical := (w.same h.spiFrame_dome :)
  have w2 : h2.Canonical := (.of_wf (h1.busWrite_canonical r spi _ 4 v [] w1) : Hub.Canonical _)
  exact .ite (w1.same (h1.dome_with_ctl _)) (w2.same (h2.dome_with_ctl _))

@[simp] theorem spiRead_dome (w : Word) (h : Hub) : (spiRead w h).dome = h.dome := by simp [spiRead]

@[simp] theorem spiNop_dome (h : Hub) : (spiNop h).dome = h.dome := (rfl)

@[simp] theorem spiBadFrame_dome (h : Hub) : (spiBadFrame h).dome = h.dome := (rfl)

@[simp] theorem spiReadComplete_dome (r : Nat) (h : Hub) : (spiReadComplete r h).dome = h.dome := by simp [spiReadComplete]

@[simp] theorem mgmtWrites_canonical (r : Nat) (fixed : Bool) (l : List Word) :
    ∀ (a done : Nat) (h : Hub), h.Canonical → Memory.wf (mgmtWrites r fixed a done l h).2.2.dome = true := by
  induction l with
  | nil => exact fun _ _ _ w => w
  | cons v vs ih =>
    intro a done h w
    have written : (h.busWrite r uplink a 4 v).Canonical := h.busWrite_canonical r uplink a 4 v [] w
    simp only [mgmtWrites]
    split
    · exact ih _ _ _ written
    · exact written

@[simp] theorem mgmtReads_dome (r : Nat) (fixed : Bool) (held : Option Nat) (n : Nat) :
    ∀ (i a : Nat) (h : Hub), (mgmtReads r fixed held n i a h).2.2.dome = h.dome := by
  induction n with
  | zero => exact fun _ _ _ => rfl
  | succ n ih =>
    intro i a h
    simp only [mgmtReads]
    split
    · exact h.abandonRead_dome _ _ _
    · split
      · exact (ih _ _ _).trans (h.busReadValue_dome _ _ _ _)
      · exact h.busReadValue_dome _ _ _ _

@[simp] theorem Hub.sendResp_dome (h : Hub) (r l : Nat) (p : KeptResp) : (h.sendResp r l p).dome = h.dome := by simp [Hub.sendResp]

theorem mgmtResult_canonical_ite {c : Prop} [Decidable c] {a b : Nat × Nat × List Word × Hub} (wa : a.2.2.2.Canonical)
    (wb : b.2.2.2.Canonical) : (if c then a else b).2.2.2.Canonical := by split <;> assumption

@[simp] theorem Hub.mgmtExecute_canonical (h : Hub) (r : Nat) (bulk : Bool) (held : Option Nat) (p : List Word)
    (w : h.Canonical) : Memory.wf (h.mgmtExecute r bulk held p).2.2.2.dome = true := by
  change Hub.Canonical _
  refine mgmtResult_canonical_ite w (mgmtResult_canonical_ite w (mgmtResult_canonical_ite (mgmtResult_canonical_ite w ?_) ?_))
  · exact mgmtWrites_canonical _ _ _ _ _ _ w
  · exact w.same (mgmtReads_dome _ _ _ _ _ _ _)

@[simp] theorem Hub.mgmtRequest_canonical (h : Hub) (r l : Nat) (held : Option Nat) (f : Frame) (w : h.Canonical) :
    Memory.wf (h.mgmtRequest r l held f).dome = true := by
  change Hub.Canonical _
  unfold Hub.mgmtRequest
  extract_lets b tag up bulk
  refine .ite (w.same (h.report_dome _ _ _ _ _)) ?_
  split
  · exact w.same ((Hub.sendResp_dome _ _ _ _).trans (h.report_dome _ _ _ _ _))
  · have done : (h.mgmtExecute r bulk held f.payload).2.2.2.Canonical := h.mgmtExecute_canonical r _ held _ w
    exact done.same ((Hub.sendResp_dome _ _ _ _).trans (Hub.dome_with_ctl _ _))

@[simp] theorem mgmtFrame_canonical (r l : Nat) (x : RxFrame) (bulk : Bool) (op : Nat) (held : Option Nat) (h : Hub)
    (w : h.Canonical) : Memory.wf (mgmtFrame r l x bulk op held h).dome = true :=
  rxFrame_canonical _ _ _ _ _ (fun f h w => .ite (h.mgmtRequest_canonical _ _ _ f w) w) w

@[simp] theorem doorbellFrameSend_dome (r : Nat) (h : Hub) : (doorbellFrameSend r h).dome = h.dome := by simp [doorbellFrameSend]

/-! ### Machine/Operands -/

@[simp] theorem TimeSource.run_canonical (q : TimeSource) (r : Nat) (h : Hub) (w : h.Canonical) :
    Memory.wf (q.run r h).dome = true := by
  cases q with
  | command ch => exact timeSourceCommand_canonical r ch h w
  | write m v => exact h.write_canonical r m _ v w

@[simp] theorem RxFrame.link_canonical (x : RxFrame) (r l t : Nat) (f : Frame → Hub → Hub) (h : Hub)
    (hf : ∀ y, KeepsCanonical (f y)) (w : h.Canonical) : Memory.wf (x.link r l t f h).dome = true :=
  rxFrame_canonical _ _ _ _ _ (fun y h w => .ite (hf y h w) w) w

@[simp] theorem RxFrame.selail_canonical (x : RxFrame) (r l msg : Nat) (bulk : Bool) (f : Frame → Hub → Hub) (h : Hub)
    (hf : ∀ y, KeepsCanonical (f y)) (w : h.Canonical) : Memory.wf (x.selail r l msg bulk f h).dome = true :=
  rxFrame_canonical _ _ _ _ _ (fun y h w => .ite (hf y h w) w) w

@[simp] theorem RxFrame.handover_canonical (x : RxFrame) (r l kind : Nat) (f : Frame → Hub → Hub) (h : Hub)
    (hf : ∀ y, KeepsCanonical (f y)) (w : h.Canonical) : Memory.wf (x.handover r l kind f h).dome = true :=
  rxFrame_canonical _ _ _ _ _ (fun y h w => .ite (hf y h w) w) w

@[simp] theorem lackPayload_dome (r : Nat) (f : Frame) (h : Hub) : (lackPayload r f h).dome = h.dome := by
  unfold lackPayload
  split <;> simp

/-! ### Machine/Tick -/

@[simp] theorem Hub.tickTo_canonical (h : Hub) (r : Nat) (w : h.Canonical) : Memory.wf (h.tickTo r).dome = true := by
  change Hub.Canonical _
  have verified : (h.verifyDone r).Canonical := h.verifyDone_canonical r w
  exact .ite w (.ite (verified.same ((Hub.turretClock_dome _ _).trans (Hub.modeDue_dome _ _))) verified)

/-! ### The rows and the step -/

/-- Where the outcome is a next state, its Dome is in canonical form. -/
def EndsCanonical (o : Host.Outcome State Fault Refusal) : Prop := ∀ s, o = .next s → s.hub.Canonical

theorem State.onHub_canonical (s : State) (f : Nat → Hub → Hub) (hf : ∀ r, KeepsCanonical (f r)) (w : s.hub.Canonical) :
    EndsCanonical (s.onHub f) := by
  rintro s' e
  obtain rfl := Host.Outcome.next.inj e
  exact Hub.Canonical.ite (hf _ _ w) w

theorem State.onHubRaw_canonical (s : State) (zero : Hub → Bool) (f : Nat → Hub → Hub) (hf : ∀ r, KeepsCanonical (f r))
    (w : s.hub.Canonical) : EndsCanonical (s.onHubRaw zero f) := by
  rintro s' e
  obtain rfl := Host.Outcome.next.inj e
  exact Hub.Canonical.ite (hf _ _ w) w

theorem State.onPower_canonical (s : State) (acts : Hub → Bool) (f : Hub → Hub) (hf : KeepsCanonical f) (w : s.hub.Canonical) :
    EndsCanonical (s.onPower acts f) := by
  rintro s' e
  obtain rfl := Host.Outcome.next.inj e
  exact Hub.Canonical.ite (hf _ w) w

section

variable (s : State) (hw : s.hub.Canonical)

include hw

theorem execRegisterWrite_canonical (m : MasterIx) (a : Word) (size : AccSize) (v : Word) :
    EndsCanonical (execRegisterWrite m a size v s) :=
  s.onHub_canonical _ (fun _ _ w => Hub.busWrite_canonical (w := w) ..) hw

theorem execRcFieldRead_canonical (m : MasterIx) (a : Word) (size : AccSize) : EndsCanonical (execRcFieldRead m a size s) :=
  s.onHub_canonical _ (fun _ _ w => w.same (Hub.busRead_leaves_dome ..)) hw

theorem execCrossingStuck_canonical (k : CrossIx) : EndsCanonical (execCrossingStuck k s) :=
  s.onHub_canonical _ (fun _ _ w => w.same (crossingStuck_dome ..)) hw

theorem execBridgeTimeout_canonical (m : MasterIx) (a : Word) : EndsCanonical (execBridgeTimeout m a s) :=
  s.onHub_canonical _ (fun _ _ w => w.same (bridgeTimeout_dome ..)) hw

theorem execAbandonedReadComplete_canonical : EndsCanonical (execAbandonedReadComplete s) :=
  s.onHub_canonical _ (fun _ _ w => w.same (abandonedReadComplete_dome ..)) hw

theorem execToggleAckComplete_canonical (c : CtxIx) : EndsCanonical (execToggleAckComplete c s) :=
  s.onHub_canonical _ (fun _ _ w => w.same (toggleAckComplete_dome ..)) hw

theorem execDomeRegionSizeWrite_canonical (m : MasterIx) (k : RegionIx) (v : Word) :
    EndsCanonical (execDomeRegionSizeWrite m k v s) :=
  s.onHub_canonical _ (fun _ _ w => Hub.write_canonical (w := w) ..) hw

theorem execFeCfgWrite_canonical (m : MasterIx) (n : SpireIx) (c : ChanIx) (aux : Bool) (v : Word) :
    EndsCanonical (execFeCfgWrite m n c aux v s) :=
  s.onHub_canonical _ (fun _ _ w => Hub.write_canonical (w := w) ..) hw

theorem execFeCfgTakeEffect_canonical (n : SpireIx) (c : ChanIx) : EndsCanonical (execFeCfgTakeEffect n c s) :=
  s.onHub_canonical _ (fun _ _ w => w.same (feCfgTakeEffect_dome ..)) hw

theorem execCommonModeTrip_canonical (n : SpireIx) (c : ChanIx) (p : BallLevel) (q : BallLevel) :
    EndsCanonical (execCommonModeTrip n c p q s) :=
  s.onHub_canonical _ (fun _ _ w => w.same (commonModeTrip_dome ..)) hw

theorem execRtdComplianceExceeded_canonical (n : SpireIx) (c : ChanIx) (exceeds : Bool) :
    EndsCanonical (execRtdComplianceExceeded n c exceeds s) :=
  s.onHub_canonical _ (fun _ _ w => w.same (rtdCompliance_dome ..)) hw

theorem execChargeRailReached_canonical (n : SpireIx) (c : ChanIx) (l : BallLevel) :
    EndsCanonical (execChargeRailReached n c l s) :=
  s.onHub_canonical _ (fun _ _ w => w.same (chargeRail_dome ..)) hw

theorem execClampConduct_canonical (n : SpireIx) (c : ChanIx) (p : BallLevel) (q : BallLevel) :
    EndsCanonical (execClampConduct n c p q s) :=
  s.onHub_canonical _ (fun _ _ w => w.same (clampConduct_dome ..)) hw

theorem execClampSuspectEnd_canonical (n : SpireIx) (c : ChanIx) : EndsCanonical (execClampSuspectEnd n c s) :=
  s.onHub_canonical _ (fun _ _ w => w.same (clampSuspectEnd_dome ..)) hw

theorem execFeChgResetWrite_canonical (m : MasterIx) (n : SpireIx) (v : Word) : EndsCanonical (execFeChgResetWrite m n v s) :=
  s.onHub_canonical _ (fun _ _ w => Hub.write_canonical (w := w) ..) hw

theorem execChargeResetAuto_canonical (n : SpireIx) (c : ChanIx) (code : Int) : EndsCanonical (execChargeResetAuto n c code s) :=
  s.onHub_canonical _ (fun _ _ w => w.same (chargeResetAuto_dome ..)) hw

theorem execChargeResetPeriodic_canonical (n : SpireIx) (c : ChanIx) : EndsCanonical (execChargeResetPeriodic n c s) :=
  s.onHub_canonical _ (fun _ _ w => w.same (chargeResetPeriodic_dome ..)) hw

theorem execChargeResetStart_canonical (n : SpireIx) (c : ChanIx) : EndsCanonical (execChargeResetStart n c s) :=
  s.onHub_canonical _ (fun _ _ w => w.same (chargeResetStart_dome ..)) hw

theorem execChargeResetSwitchOpen_canonical (n : SpireIx) (c : ChanIx) : EndsCanonical (execChargeResetSwitchOpen n c s) :=
  s.onHub_canonical _ (fun _ _ w => w.same (chargeResetOpen_dome ..)) hw

theorem execChargeResetSettled_canonical (n : SpireIx) (c : ChanIx) : EndsCanonical (execChargeResetSettled n c s) :=
  s.onHub_canonical _ (fun _ _ w => w.same (chargeResetSettled_dome ..)) hw

theorem execChargeTestDue_canonical (n : SpireIx) (c : ChanIx) : EndsCanonical (execChargeTestDue n c s) :=
  s.onHub_canonical _ (fun _ _ w => w.same (chargeTestDue_dome ..)) hw

theorem execChargeTestComplete_canonical (n : SpireIx) (c : ChanIx) : EndsCanonical (execChargeTestComplete n c s) :=
  s.onHub_canonical _ (fun _ _ w => w.same (chargeTestComplete_dome ..)) hw

theorem execExcEnable_canonical (m : MasterIx) (n : SpireIx) (v : Word) : EndsCanonical (execExcEnable m n v s) :=
  s.onHub_canonical _ (fun _ _ w => Hub.write_canonical (w := w) ..) hw

theorem execInrushExcEnable_canonical (n : SpireIx) : EndsCanonical (execInrushExcEnable n s) :=
  s.onHub_canonical _ (fun _ _ w => w.same (inrushExcEnable_dome ..)) hw

theorem execExcDisable_canonical (m : MasterIx) (n : SpireIx) (v : Word) : EndsCanonical (execExcDisable m n v s) :=
  s.onHub_canonical _ (fun _ _ w => Hub.write_canonical (w := w) ..) hw

theorem execExcLimitEnter_canonical (n : SpireIx) (uA : Nat) : EndsCanonical (execExcLimitEnter n uA s) :=
  s.onHub_canonical _ (fun _ _ w => w.same (excLimitEnter_dome ..)) hw

theorem execExcLimitExit_canonical (n : SpireIx) (uA : Nat) : EndsCanonical (execExcLimitExit n uA s) :=
  s.onHub_canonical _ (fun _ _ w => w.same (excLimitExit_dome ..)) hw

theorem execExcTrip_canonical (n : SpireIx) : EndsCanonical (execExcTrip n s) :=
  s.onHub_canonical _ (fun _ _ w => w.same (excTrip_dome ..)) hw

theorem execExcTripRestart_canonical (m : MasterIx) (n : SpireIx) (v : Word) : EndsCanonical (execExcTripRestart m n v s) :=
  s.onHub_canonical _ (fun _ _ w => Hub.write_canonical (w := w) ..) hw

theorem execReverseNow_canonical (m : MasterIx) (n : SpireIx) (v : Word) : EndsCanonical (execReverseNow m n v s) :=
  s.onHub_canonical _ (fun _ _ w => Hub.write_canonical (w := w) ..) hw

theorem execExcReversal_canonical (n : SpireIx) : EndsCanonical (execExcReversal n s) :=
  s.onHub_canonical _ (fun _ _ w => w.same (excReversal_dome ..)) hw

theorem execExcSenseBreak_canonical (n : SpireIx) : EndsCanonical (execExcSenseBreak n s) :=
  s.onHub_canonical _ (fun _ _ w => w.same (excSenseBreak_dome ..)) hw

theorem execProbeBallRead_canonical (n : SpireIx) (c : ChanIx) (pBall : Bool) : EndsCanonical (execProbeBallRead n c pBall s) :=
  s.onHub_canonical _ (fun _ _ w => w.same (probeBallRead_dome ..)) hw

theorem execBreakClear_canonical (n : SpireIx) (c : ChanIx) (m : BreakMethod) : EndsCanonical (execBreakClear n c m s) :=
  s.onHub_canonical _ (fun _ _ w => w.same (breakClear_dome ..)) hw

theorem execUserCurveWrite_canonical (m : MasterIx) (n : SpireIx) (k : CurveIx) (w : CurveWordIx) (v : Word) :
    EndsCanonical (execUserCurveWrite m n k w v s) :=
  s.onHub_canonical _ (fun _ _ w => Hub.write_canonical (w := w) ..) hw

theorem execSchedCommit_canonical (m : MasterIx) (n : SpireIx) (v : Word) : EndsCanonical (execSchedCommit m n v s) :=
  s.onHub_canonical _ (fun _ _ w => Hub.write_canonical (w := w) ..) hw

theorem execSchedCommitApply_canonical (n : SpireIx) : EndsCanonical (execSchedCommitApply n s) :=
  s.onHub_canonical _ (fun _ _ w => schedCommitApply_canonical (w := w) ..) hw

theorem execRawCodeConvert_canonical (n : SpireIx) (slot : SlotIx) (f : Nat) (code : Int) (pair : Option (Int × Int)) :
    EndsCanonical (execRawCodeConvert n slot f code pair s) :=
  s.onHub_canonical _ (fun _ _ w => w.same (rawCodeConvert_dome ..)) hw

theorem execRefCheckAverage_canonical (n : SpireIx) : EndsCanonical (execRefCheckAverage n s) :=
  s.onHub_canonical _ (fun _ _ w => w.same (refCheckAverage_dome ..)) hw

theorem execInjReq_canonical (m : MasterIx) (n : SpireIx) (v : Word) : EndsCanonical (execInjReq m n v s) :=
  s.onHub_canonical _ (fun _ _ w => Hub.write_canonical (w := w) ..) hw

theorem execInternalInjRequest_canonical (n : SpireIx) (who : InjWho) (node : Nat) :
    EndsCanonical (execInternalInjRequest n who node s) :=
  s.onHub_canonical _ (fun _ _ w => w.same (internalInj_dome ..)) hw

theorem execInjComplete_canonical (n : SpireIx) : EndsCanonical (execInjComplete n s) :=
  s.onHub_canonical _ (fun _ _ w => w.same (injComplete_dome ..)) hw

theorem execSpareCalStart_canonical (n : SpireIx) : EndsCanonical (execSpareCalStart n s) :=
  s.onHub_canonical _ (fun _ _ w => w.same (spareCalStart_dome ..)) hw

theorem execSliceCalComplete_canonical (n : SpireIx) (ofs : Int) (gain : Int) (inl : Int) (coef : List Word) :
    EndsCanonical (execSliceCalComplete n ofs gain inl coef s) :=
  s.onHub_canonical _ (fun _ _ w => w.same (sliceCalComplete_dome ..)) hw

theorem execRotEnable_canonical (m : MasterIx) (n : SpireIx) (v : Word) : EndsCanonical (execRotEnable m n v s) :=
  s.onHub_canonical _ (fun _ _ w => Hub.write_canonical (w := w) ..) hw

theorem execSwapCompareDone_canonical (n : SpireIx) : EndsCanonical (execSwapCompareDone n s) :=
  s.onHub_canonical _ (fun _ _ w => w.same (swapCompareDone_dome ..)) hw

theorem execSwapVerdict_canonical (n : SpireIx) : EndsCanonical (execSwapVerdict n s) :=
  s.onHub_canonical _ (fun _ _ w => w.same (swapVerdict_dome ..)) hw

theorem execDrainQueueClose_canonical (n : SpireIx) : EndsCanonical (execDrainQueueClose n s) :=
  s.onHub_canonical _ (fun _ _ w => w.same (drainQueueClose_dome ..)) hw

theorem execDrainForced_canonical (n : SpireIx) : EndsCanonical (execDrainForced n s) :=
  s.onHub_canonical _ (fun _ _ w => w.same (drainForced_dome ..)) hw

theorem execSliceSwap_canonical (n : SpireIx) : EndsCanonical (execSliceSwap n s) :=
  s.onHub_canonical _ (fun _ _ w => w.same (sliceSwap_dome ..)) hw

theorem execFilterOutput_canonical (n : SpireIx) (c : ChanIx) : EndsCanonical (execFilterOutput n c s) :=
  s.onHub_canonical _ (fun _ _ w => w.same (filterOutput_dome ..)) hw

theorem execFilterCommit_canonical (m : MasterIx) (n : SpireIx) (v : Word) : EndsCanonical (execFilterCommit m n v s) :=
  s.onHub_canonical _ (fun _ _ w => Hub.write_canonical (w := w) ..) hw

theorem execFilterCommitApply_canonical (n : SpireIx) : EndsCanonical (execFilterCommitApply n s) :=
  s.onHub_canonical _ (fun _ _ w => filterCommitApply_canonical (w := w) ..) hw

theorem execSentryHitStart_canonical (n : SpireIx) (c : ChanIx) : EndsCanonical (execSentryHitStart n c s) :=
  s.onHub_canonical _ (fun _ _ w => w.same (sentryHitStart_dome ..)) hw

theorem execHitLostLog_canonical (n : SpireIx) : EndsCanonical (execHitLostLog n s) :=
  s.onHub_canonical _ (fun _ _ w => w.same (hitLostLog_dome ..)) hw

theorem execSentryHitEnd_canonical (n : SpireIx) (c : ChanIx) : EndsCanonical (execSentryHitEnd n c s) :=
  s.onHub_canonical _ (fun _ _ w => w.same (sentryHitEnd_dome ..)) hw

theorem execSentryHitLong_canonical (n : SpireIx) (c : ChanIx) : EndsCanonical (execSentryHitLong n c s) :=
  s.onHub_canonical _ (fun _ _ w => w.same (sentryHitLong_dome ..)) hw

theorem execSentryLockoutEnd_canonical (n : SpireIx) (c : ChanIx) : EndsCanonical (execSentryLockoutEnd n c s) :=
  s.onHub_canonical _ (fun _ _ w => w.same (sentryLockoutEnd_dome ..)) hw

theorem execTempUpdate_canonical (n : SpireIx) : EndsCanonical (execTempUpdate n s) :=
  s.onHub_canonical _ (fun _ _ w => w.same (tempUpdate_dome ..)) hw

theorem execDieTempRead_canonical (v : Word) : EndsCanonical (execDieTempRead v s) :=
  s.onHub_canonical _ (fun _ _ w => w.same (dieTempRead_dome ..)) hw

theorem execTrimEvaluation_canonical : EndsCanonical (execTrimEvaluation s) :=
  s.onHub_canonical _ (fun _ _ w => w.same (trimEvaluation_dome ..)) hw

theorem execTrimHoldMaxReached_canonical (n : SpireIx) : EndsCanonical (execTrimHoldMaxReached n s) :=
  s.onHub_canonical _ (fun _ _ w => w.same (trimHoldMaxReached_dome ..)) hw

theorem execTrimStart_canonical (n : SpireIx) : EndsCanonical (execTrimStart n s) :=
  s.onHub_canonical _ (fun _ _ w => w.same (trimStart_dome ..)) hw

theorem execTrimEnd_canonical (n : SpireIx) (v : TrimResult) : EndsCanonical (execTrimEnd n v s) :=
  s.onHub_canonical _ (fun _ _ w => w.same (trimEnd_dome ..)) hw

theorem execBootCalComplete_canonical (b : BootCal) : EndsCanonical (execBootCalComplete b s) :=
  s.onHub_canonical _ (fun _ _ w => bootCalComplete_canonical (w := w) ..) hw

theorem execCalSave_canonical (ch : BoxIx) : EndsCanonical (execCalSave ch s) :=
  s.onHub_canonical _ (fun _ _ w => calSaveCommand_canonical (w := w) ..) hw

theorem execCalSaveSnapshot_canonical : EndsCanonical (execCalSaveSnapshot s) :=
  s.onHub_canonical _ (fun _ _ w => calSaveSnapshot_canonical (w := w) ..) hw

theorem execCalRestore_canonical (ch : BoxIx) : EndsCanonical (execCalRestore ch s) :=
  s.onHub_canonical _ (fun _ _ w => calRestoreCommand_canonical (w := w) ..) hw

theorem execCalRestoreApply_canonical : EndsCanonical (execCalRestoreApply s) :=
  s.onHub_canonical _ (fun _ _ w => w.same (calRestoreApply_dome ..)) hw

theorem execPllLock_canonical : EndsCanonical (execPllLock s) :=
  s.onHubRaw_canonical _ _ (fun _ _ w => w.same (pllLock_dome ..)) hw

theorem execRefclkLoss_canonical : EndsCanonical (execRefclkLoss s) :=
  s.onHub_canonical _ (fun _ _ w => w.same (refclkLoss_dome ..)) hw

theorem execRefclkReturn_canonical : EndsCanonical (execRefclkReturn s) :=
  s.onHub_canonical _ (fun _ _ w => w.same (refclkReturn_dome ..)) hw

theorem execServoCommitRate_canonical (m : MasterIx) (v : Word) : EndsCanonical (execServoCommitRate m v s) :=
  s.onHub_canonical _ (fun _ _ w => Hub.write_canonical (w := w) ..) hw

theorem execServoCommitStep_canonical (m : MasterIx) (v : Word) : EndsCanonical (execServoCommitStep m v s) :=
  s.onHub_canonical _ (fun _ _ w => Hub.write_canonical (w := w) ..) hw

theorem execServoCommitSet_canonical (m : MasterIx) (v : Word) : EndsCanonical (execServoCommitSet m v s) :=
  s.onHub_canonical _ (fun _ _ w => Hub.write_canonical (w := w) ..) hw

theorem execServoCommitApply_canonical : EndsCanonical (execServoCommitApply s) :=
  s.onHub_canonical _ (fun _ _ w => servoCommitApply_canonical (w := w) ..) hw

theorem execTimeNowRead_canonical (m : MasterIx) : EndsCanonical (execTimeNowRead m s) :=
  s.onHub_canonical _ (fun _ _ w => w.same (Hub.read_dome ..)) hw

theorem execTrigInEdge_canonical (k : TrigInIx) (rise : Bool) : EndsCanonical (execTrigInEdge k rise s) :=
  s.onHub_canonical _ (fun _ _ w => w.same (trigInEdge_dome ..)) hw

theorem execTrigInPop_canonical (m : MasterIx) (k : TrigInIx) : EndsCanonical (execTrigInPop m k s) :=
  s.onHub_canonical _ (fun _ _ w => w.same (Hub.read_dome ..)) hw

theorem execGridPhaseMeasure_canonical (e : Int) : EndsCanonical (execGridPhaseMeasure e s) :=
  s.onHub_canonical _ (fun _ _ w => w.same (gridPhaseMeasure_dome ..)) hw

theorem execRealign_canonical (m : MasterIx) (v : Word) : EndsCanonical (execRealign m v s) :=
  s.onHub_canonical _ (fun _ _ w => Hub.write_canonical (w := w) ..) hw

theorem execGridAlignComplete_canonical : EndsCanonical (execGridAlignComplete s) :=
  s.onHub_canonical _ (fun _ _ w => w.same (gridAlignComplete_dome ..)) hw

theorem execServoMeasurement_canonical : EndsCanonical (execServoMeasurement s) :=
  s.onHub_canonical _ (fun _ _ w => w.same (servoMeasurement_dome ..)) hw

theorem execTimeHoldoverEnter_canonical : EndsCanonical (execTimeHoldoverEnter s) :=
  s.onHub_canonical _ (fun _ _ w => w.same (timeHoldoverEnter_dome ..)) hw

theorem execHoldoverTimeout_canonical : EndsCanonical (execHoldoverTimeout s) :=
  s.onHub_canonical _ (fun _ _ w => w.same (holdoverTimeout_dome ..)) hw

theorem execTimeSource_canonical (q : TimeSource) : EndsCanonical (execTimeSource q s) :=
  s.onHub_canonical _ (fun _ _ w => q.run_canonical (w := w) ..) hw

theorem execAlarmArm_canonical (m : MasterIx) (a : AlarmIx) (v : Word) : EndsCanonical (execAlarmArm m a v s) :=
  s.onHub_canonical _ (fun _ _ w => Hub.write_canonical (w := w) ..) hw

theorem execAlarmDisarm_canonical (m : MasterIx) (a : AlarmIx) (v : Word) : EndsCanonical (execAlarmDisarm m a v s) :=
  s.onHub_canonical _ (fun _ _ w => Hub.write_canonical (w := w) ..) hw

theorem execAlarmFire_canonical (a : AlarmIx) : EndsCanonical (execAlarmFire a s) :=
  s.onHub_canonical _ (fun _ _ w => alarmFire_canonical (w := w) ..) hw

theorem execPpsOutPulse_canonical : EndsCanonical (execPpsOutPulse s) :=
  s.onHub_canonical _ (fun _ _ w => w.same (ppsOutPulse_dome ..)) hw

theorem execLoadPlan_canonical (ch : BoxIx) : EndsCanonical (execLoadPlan ch s) :=
  s.onHub_canonical _ (fun _ _ w => loadPlanCommand_canonical (w := w) ..) hw

theorem execStageElementArrive_canonical : EndsCanonical (execStageElementArrive s) :=
  s.onHub_canonical _ (fun _ _ w => stageElementArrive_canonical (w := w) ..) hw

theorem execActivationPacingRelease_canonical (c : CtxIx) : EndsCanonical (execActivationPacingRelease c s) :=
  s.onHub_canonical _ (fun _ _ w => w.same (activationPacingRelease_dome ..)) hw

theorem execCtxCtrlHalt_canonical (m : MasterIx) (c : CtxIx) (v : Word) : EndsCanonical (execCtxCtrlHalt m c v s) :=
  s.onHub_canonical _ (fun _ _ w => Hub.write_canonical (w := w) ..) hw

theorem execCtxCtrlRestart_canonical (m : MasterIx) (c : CtxIx) (v : Word) : EndsCanonical (execCtxCtrlRestart m c v s) :=
  s.onHub_canonical _ (fun _ _ w => Hub.write_canonical (w := w) ..) hw

theorem execTurretReset_canonical (ch : BoxIx) : EndsCanonical (execTurretReset ch s) :=
  s.onHub_canonical _ (fun _ _ w => turretResetCommand_canonical (w := w) ..) hw

theorem execTurretUngate_canonical (t : TurretIx) : EndsCanonical (execTurretUngate t s) :=
  s.onHub_canonical _ (fun _ _ w => w.same (turretUngate_dome ..)) hw

theorem execAmixelAdd_canonical (c : CtxIx) : EndsCanonical (execAmixelAdd c s) :=
  s.onHub_canonical _ (fun _ _ w => by split; exacts [Hub.issueG_canonical (w := w) .., w]) hw

theorem execAmixelSub_canonical (c : CtxIx) : EndsCanonical (execAmixelSub c s) :=
  s.onHub_canonical _ (fun _ _ w => by split; exacts [Hub.issueG_canonical (w := w) .., w]) hw

theorem execAmixelMul_canonical (c : CtxIx) : EndsCanonical (execAmixelMul c s) :=
  s.onHub_canonical _ (fun _ _ w => by split; exacts [Hub.issueG_canonical (w := w) .., w]) hw

theorem execAmixelMulh_canonical (c : CtxIx) : EndsCanonical (execAmixelMulh c s) :=
  s.onHub_canonical _ (fun _ _ w => by split; exacts [Hub.issueG_canonical (w := w) .., w]) hw

theorem execAmixelAnd_canonical (c : CtxIx) : EndsCanonical (execAmixelAnd c s) :=
  s.onHub_canonical _ (fun _ _ w => by split; exacts [Hub.issueG_canonical (w := w) .., w]) hw

theorem execAmixelOr_canonical (c : CtxIx) : EndsCanonical (execAmixelOr c s) :=
  s.onHub_canonical _ (fun _ _ w => by split; exacts [Hub.issueG_canonical (w := w) .., w]) hw

theorem execAmixelXor_canonical (c : CtxIx) : EndsCanonical (execAmixelXor c s) :=
  s.onHub_canonical _ (fun _ _ w => by split; exacts [Hub.issueG_canonical (w := w) .., w]) hw

theorem execAmixelShl_canonical (c : CtxIx) : EndsCanonical (execAmixelShl c s) :=
  s.onHub_canonical _ (fun _ _ w => by split; exacts [Hub.issueG_canonical (w := w) .., w]) hw

theorem execAmixelShr_canonical (c : CtxIx) : EndsCanonical (execAmixelShr c s) :=
  s.onHub_canonical _ (fun _ _ w => by split; exacts [Hub.issueG_canonical (w := w) .., w]) hw

theorem execAmixelSar_canonical (c : CtxIx) : EndsCanonical (execAmixelSar c s) :=
  s.onHub_canonical _ (fun _ _ w => by split; exacts [Hub.issueG_canonical (w := w) .., w]) hw

theorem execAmixelMin_canonical (c : CtxIx) : EndsCanonical (execAmixelMin c s) :=
  s.onHub_canonical _ (fun _ _ w => by split; exacts [Hub.issueG_canonical (w := w) .., w]) hw

theorem execAmixelMax_canonical (c : CtxIx) : EndsCanonical (execAmixelMax c s) :=
  s.onHub_canonical _ (fun _ _ w => by split; exacts [Hub.issueG_canonical (w := w) .., w]) hw

theorem execAmixelAbs_canonical (c : CtxIx) : EndsCanonical (execAmixelAbs c s) :=
  s.onHub_canonical _ (fun _ _ w => by split; exacts [Hub.issueG_canonical (w := w) .., w]) hw

theorem execAmixelClz_canonical (c : CtxIx) : EndsCanonical (execAmixelClz c s) :=
  s.onHub_canonical _ (fun _ _ w => by split; exacts [Hub.issueG_canonical (w := w) .., w]) hw

theorem execAmixelAddi_canonical (c : CtxIx) : EndsCanonical (execAmixelAddi c s) :=
  s.onHub_canonical _ (fun _ _ w => by split; exacts [Hub.issueG_canonical (w := w) .., w]) hw

theorem execAmixelLui_canonical (c : CtxIx) : EndsCanonical (execAmixelLui c s) :=
  s.onHub_canonical _ (fun _ _ w => by split; exacts [Hub.issueG_canonical (w := w) .., w]) hw

theorem execAmixelAndi_canonical (c : CtxIx) : EndsCanonical (execAmixelAndi c s) :=
  s.onHub_canonical _ (fun _ _ w => by split; exacts [Hub.issueG_canonical (w := w) .., w]) hw

theorem execAmixelOri_canonical (c : CtxIx) : EndsCanonical (execAmixelOri c s) :=
  s.onHub_canonical _ (fun _ _ w => by split; exacts [Hub.issueG_canonical (w := w) .., w]) hw

theorem execAmixelWacc_canonical (c : CtxIx) : EndsCanonical (execAmixelWacc c s) :=
  s.onHub_canonical _ (fun _ _ w => by split; exacts [wacc_canonical (w := w) .., w]) hw

theorem execAmixelWsq_canonical (c : CtxIx) : EndsCanonical (execAmixelWsq c s) :=
  s.onHub_canonical _ (fun _ _ w => by split; exacts [wsq_canonical (w := w) .., w]) hw

theorem execAmixelWsub_canonical (c : CtxIx) : EndsCanonical (execAmixelWsub c s) :=
  s.onHub_canonical _ (fun _ _ w => by split; exacts [wsub_canonical (w := w) .., w]) hw

theorem execAmixelWshr_canonical (c : CtxIx) : EndsCanonical (execAmixelWshr c s) :=
  s.onHub_canonical _ (fun _ _ w => by split; exacts [wshr_canonical (w := w) .., w]) hw

theorem execAmixelWrd_canonical (c : CtxIx) : EndsCanonical (execAmixelWrd c s) :=
  s.onHub_canonical _ (fun _ _ w => by split; exacts [wrd_canonical (w := w) .., w]) hw

theorem execAmixelWclr_canonical (c : CtxIx) : EndsCanonical (execAmixelWclr c s) :=
  s.onHub_canonical _ (fun _ _ w => by split; exacts [wclr_canonical (w := w) .., w]) hw

theorem execAmixelCmp_canonical (c : CtxIx) : EndsCanonical (execAmixelCmp c s) :=
  s.onHub_canonical _ (fun _ _ w => by split; exacts [cmp_canonical (w := w) .., w]) hw

theorem execAmixelBr_canonical (c : CtxIx) : EndsCanonical (execAmixelBr c s) :=
  s.onHub_canonical _ (fun _ _ w => by split; exacts [br_canonical (w := w) .., w]) hw

theorem execAmixelBrq_canonical (c : CtxIx) : EndsCanonical (execAmixelBrq c s) :=
  s.onHub_canonical _ (fun _ _ w => by split; exacts [brq_canonical (w := w) .., w]) hw

theorem execAmixelCall_canonical (c : CtxIx) : EndsCanonical (execAmixelCall c s) :=
  s.onHub_canonical _ (fun _ _ w => by split; exacts [call_canonical (w := w) .., w]) hw

theorem execAmixelRet_canonical (c : CtxIx) : EndsCanonical (execAmixelRet c s) :=
  s.onHub_canonical _ (fun _ _ w => by split; exacts [ret_canonical (w := w) .., w]) hw

theorem execAmixelLoop_canonical (c : CtxIx) : EndsCanonical (execAmixelLoop c s) :=
  s.onHub_canonical _ (fun _ _ w => by split; exacts [loop_canonical (w := w) .., w]) hw

theorem execAmixelLd_canonical (c : CtxIx) : EndsCanonical (execAmixelLd c s) :=
  s.onHub_canonical _ (fun _ _ w => by split; exacts [ld_canonical (w := w) .., w]) hw

theorem execAmixelSt_canonical (c : CtxIx) : EndsCanonical (execAmixelSt c s) :=
  s.onHub_canonical _ (fun _ _ w => by split; exacts [st_canonical (w := w) .., w]) hw

theorem execAmixelLdw_canonical (c : CtxIx) : EndsCanonical (execAmixelLdw c s) :=
  s.onHub_canonical _ (fun _ _ w => by split; exacts [ldw_canonical (w := w) .., w]) hw

theorem execAmixelStw_canonical (c : CtxIx) : EndsCanonical (execAmixelStw c s) :=
  s.onHub_canonical _ (fun _ _ w => by split; exacts [stw_canonical (w := w) .., w]) hw

theorem execLoadComplete_canonical (c : CtxIx) (k : Nat) : EndsCanonical (execLoadComplete c k s) :=
  s.onHub_canonical _ (fun _ _ w => loadComplete_canonical (w := w) ..) hw

theorem execAmixelTake_canonical (c : CtxIx) : EndsCanonical (execAmixelTake c s) :=
  s.onHub_canonical _ (fun _ _ w => by split; exacts [take_canonical (w := w) .., w]) hw

theorem execAmixelPeek_canonical (c : CtxIx) : EndsCanonical (execAmixelPeek c s) :=
  s.onHub_canonical _ (fun _ _ w => by split; exacts [peek_canonical (w := w) .., w]) hw

theorem execAmixelEmit_canonical (c : CtxIx) : EndsCanonical (execAmixelEmit c s) :=
  s.onHub_canonical _ (fun _ _ w => by split; exacts [emit_canonical (w := w) .., w]) hw

theorem execAmixelSeal_canonical (c : CtxIx) : EndsCanonical (execAmixelSeal c s) :=
  s.onHub_canonical _ (fun _ _ w => by split; exacts [sealPort_canonical (w := w) .., w]) hw

theorem execAmixelCurve_canonical (c : CtxIx) : EndsCanonical (execAmixelCurve c s) :=
  s.onHub_canonical _ (fun _ _ w => by split; exacts [curve_canonical (w := w) .., w]) hw

theorem execAmixelXing_canonical (c : CtxIx) : EndsCanonical (execAmixelXing c s) :=
  s.onHub_canonical _ (fun _ _ w => by split; exacts [xing_canonical (w := w) .., w]) hw

theorem execAmixelPeakt_canonical (c : CtxIx) : EndsCanonical (execAmixelPeakt c s) :=
  s.onHub_canonical _ (fun _ _ w => by split; exacts [peakt_canonical (w := w) .., w]) hw

theorem execAmixelRflow_canonical (c : CtxIx) : EndsCanonical (execAmixelRflow c s) :=
  s.onHub_canonical _ (fun _ _ w => by split; exacts [rflow_canonical (w := w) .., w]) hw

theorem execMeasurementComplete_canonical (c : CtxIx) (k : Nat) : EndsCanonical (execMeasurementComplete c k s) :=
  s.onHub_canonical _ (fun _ _ w => measurementComplete_canonical (w := w) ..) hw

theorem execAmixelTime_canonical (c : CtxIx) : EndsCanonical (execAmixelTime c s) :=
  s.onHub_canonical _ (fun _ _ w => by split; exacts [time_canonical (w := w) .., w]) hw

theorem execTimeReply_canonical (c : CtxIx) : EndsCanonical (execTimeReply c s) :=
  s.onHub_canonical _ (fun _ _ w => w.same (timeReply_dome ..)) hw

theorem execAmixelWaitt_canonical (c : CtxIx) : EndsCanonical (execAmixelWaitt c s) :=
  s.onHub_canonical _ (fun _ _ w => by split; exacts [waitt_canonical (w := w) .., w]) hw

theorem execWaittResume_canonical (c : CtxIx) : EndsCanonical (execWaittResume c s) :=
  s.onHub_canonical _ (fun _ _ w => w.same (waittResume_dome ..)) hw

theorem execAmixelAlarm_canonical (c : CtxIx) : EndsCanonical (execAmixelAlarm c s) :=
  s.onHub_canonical _ (fun _ _ w => by split; exacts [alarmArmI_canonical (w := w) .., alarmDisarmI_canonical (w := w) .., w]) hw

theorem execAmixelArmUnit_canonical (c : CtxIx) : EndsCanonical (execAmixelArmUnit c s) :=
  s.onHub_canonical _ (fun _ _ w => by split; exacts [armUnit_canonical (w := w) .., w]) hw

theorem execAmixelDisarmUnit_canonical (c : CtxIx) : EndsCanonical (execAmixelDisarmUnit c s) :=
  s.onHub_canonical _ (fun _ _ w => by split; exacts [disarmUnit_canonical (w := w) .., w]) hw

theorem execAmixelFireUnit_canonical (c : CtxIx) : EndsCanonical (execAmixelFireUnit c s) :=
  s.onHub_canonical _ (fun _ _ w => by split; exacts [fireUnit_canonical (w := w) .., w]) hw

theorem execAmixelMirror_canonical (c : CtxIx) : EndsCanonical (execAmixelMirror c s) :=
  s.onHub_canonical _ (fun _ _ w => by split; exacts [mirrorI_canonical (w := w) .., w]) hw

theorem execAmixelPost_canonical (c : CtxIx) : EndsCanonical (execAmixelPost c s) :=
  s.onHub_canonical _ (fun _ _ w => by split; exacts [post_canonical (w := w) .., w]) hw

theorem execAmixelTakemb_canonical (c : CtxIx) : EndsCanonical (execAmixelTakemb c s) :=
  s.onHub_canonical _ (fun _ _ w => by split; exacts [takemb_canonical (w := w) .., w]) hw

theorem execAmixelLocka_canonical (c : CtxIx) : EndsCanonical (execAmixelLocka c s) :=
  s.onHub_canonical _ (fun _ _ w => by split; exacts [locka_canonical (w := w) .., w]) hw

theorem execAmixelLockr_canonical (c : CtxIx) : EndsCanonical (execAmixelLockr c s) :=
  s.onHub_canonical _ (fun _ _ w => by split; exacts [lockr_canonical (w := w) .., w]) hw

theorem execAmixelYield_canonical (c : CtxIx) : EndsCanonical (execAmixelYield c s) :=
  s.onHub_canonical _ (fun _ _ w => by split; exacts [yieldI_canonical (w := w) .., w]) hw

theorem execAmixelHalt_canonical (c : CtxIx) : EndsCanonical (execAmixelHalt c s) :=
  s.onHub_canonical _ (fun _ _ w => by split; exacts [haltI_canonical (w := w) .., w]) hw

theorem execAmixelNop_canonical (c : CtxIx) : EndsCanonical (execAmixelNop c s) :=
  s.onHub_canonical _ (fun _ _ w => by split; exacts [nopI_canonical (w := w) .., w]) hw

theorem execUndefinedWordIssue_canonical (c : CtxIx) : EndsCanonical (execUndefinedWordIssue c s) :=
  s.onHub_canonical _ (fun _ _ w => .ite (undefinedWordIssue_canonical (w := w) ..) w) hw

theorem execCapCtrlArm_canonical (m : MasterIx) (u : UnitIx) (v : Word) : EndsCanonical (execCapCtrlArm m u v s) :=
  s.onHub_canonical _ (fun _ _ w => Hub.write_canonical (w := w) ..) hw

theorem execCapCtrlDisarm_canonical (m : MasterIx) (u : UnitIx) (v : Word) : EndsCanonical (execCapCtrlDisarm m u v s) :=
  s.onHub_canonical _ (fun _ _ w => Hub.write_canonical (w := w) ..) hw

theorem execCapCtrlFire_canonical (m : MasterIx) (u : UnitIx) (v : Word) : EndsCanonical (execCapCtrlFire m u v s) :=
  s.onHub_canonical _ (fun _ _ w => Hub.write_canonical (w := w) ..) hw

theorem execCapCtrlRelease_canonical (m : MasterIx) (u : UnitIx) (v : Word) : EndsCanonical (execCapCtrlRelease m u v s) :=
  s.onHub_canonical _ (fun _ _ w => Hub.write_canonical (w := w) ..) hw

theorem execCaptureSetStored_canonical (u : UnitIx) : EndsCanonical (execCaptureSetStored u s) :=
  s.onHub_canonical _ (fun _ _ w => captureSetStored_canonical (w := w) ..) hw

theorem execCaptureTrigger_canonical (u : UnitIx) : EndsCanonical (execCaptureTrigger u s) :=
  s.onHub_canonical _ (fun _ _ w => captureTrigger_canonical (w := w) ..) hw

theorem execCaptureRearm_canonical (u : UnitIx) : EndsCanonical (execCaptureRearm u s) :=
  s.onHub_canonical _ (fun _ _ w => captureRearm_canonical (w := w) ..) hw

theorem execRecordMeasured_canonical : EndsCanonical (execRecordMeasured s) :=
  s.onHub_canonical _ (fun _ _ w => recordComplete_canonical (w := w) ..) hw

theorem execRecordDeliver_canonical (u : UnitIx) : EndsCanonical (execRecordDeliver u s) :=
  s.onHub_canonical _ (fun _ _ w => w.same (recordDeliver_dome ..)) hw

theorem execLedgerElementArrive_canonical : EndsCanonical (execLedgerElementArrive s) :=
  s.onHub_canonical _ (fun _ _ w => ledgerElementArrive_canonical (w := w) ..) hw

theorem execPacketSealTimeout_canonical (q : StreamIx) : EndsCanonical (execPacketSealTimeout q s) :=
  s.onHub_canonical _ (fun _ _ w => packetSealTimeout_canonical (w := w) ..) hw

theorem execPacketSend_canonical : EndsCanonical (execPacketSend s) :=
  s.onHub_canonical _ (fun _ _ w => w.same (packetSend_dome ..)) hw

theorem execDescPeriodic_canonical : EndsCanonical (execDescPeriodic s) :=
  s.onHub_canonical _ (fun _ _ w => w.same (descPeriodic_dome ..)) hw

theorem execAck_canonical (m : AckMsg) : EndsCanonical (execAck m s) :=
  s.onHub_canonical _ (fun _ _ w => w.same (ackMessage_dome ..)) hw

theorem execNack_canonical (m : AckMsg) : EndsCanonical (execNack m s) :=
  s.onHub_canonical _ (fun _ _ w => w.same (ackMessage_dome ..)) hw

theorem execAckTimeout_canonical (q : QueueIx) : EndsCanonical (execAckTimeout q s) :=
  s.onHub_canonical _ (fun _ _ w => w.same (ackTimeout_dome ..)) hw

theorem execLedgerCommit_canonical (m : MasterIx) (v : Word) : EndsCanonical (execLedgerCommit m v s) :=
  s.onHub_canonical _ (fun _ _ w => Hub.write_canonical (w := w) ..) hw

theorem execLaneCfgWrite_canonical (m : MasterIx) (l : LaneIx) (v : Word) : EndsCanonical (execLaneCfgWrite m l v s) :=
  s.onHub_canonical _ (fun _ _ w => Hub.write_canonical (w := w) ..) hw

theorem execLaneDetectDone_canonical (l : LaneIx) : EndsCanonical (execLaneDetectDone l s) :=
  s.onHub_canonical _ (fun _ _ w => w.same (laneDetectDone_dome ..)) hw

theorem execLaneTrainDone_canonical (l : LaneIx) : EndsCanonical (execLaneTrainDone l s) :=
  s.onHub_canonical _ (fun _ _ w => w.same (laneTrainDone_dome ..)) hw

theorem execLaneTrainTimeout_canonical (l : LaneIx) : EndsCanonical (execLaneTrainTimeout l s) :=
  s.onHub_canonical _ (fun _ _ w => w.same (laneTrainTimeout_dome ..)) hw

theorem execLaneLockDone_canonical (l : LaneIx) : EndsCanonical (execLaneLockDone l s) :=
  s.onHub_canonical _ (fun _ _ w => w.same (laneLockDone_dome ..)) hw

theorem execLaneLockTimeout_canonical (l : LaneIx) : EndsCanonical (execLaneLockTimeout l s) :=
  s.onHub_canonical _ (fun _ _ w => w.same (laneLockTimeout_dome ..)) hw

theorem execTxDisableHoldEnd_canonical (l : LaneIx) : EndsCanonical (execTxDisableHoldEnd l s) :=
  s.onHub_canonical _ (fun _ _ w => w.same (txDisableHoldEnd_dome ..)) hw

theorem execCapSend_canonical (l : LaneIx) : EndsCanonical (execCapSend l s) :=
  s.onHub_canonical _ (fun _ _ w => w.same (capSend_dome ..)) hw

theorem execCap_canonical (l : LaneIx) (x : RxFrame) : EndsCanonical (execCap l x s) :=
  s.onHub_canonical _ (fun _ _ w => RxFrame.link_canonical (hf := fun _ _ w => w.same (capArrive_dome ..)) (w := w) ..) hw

theorem execLaneLoss_canonical (l : LaneIx) (line : List Bool) : EndsCanonical (execLaneLoss l line s) :=
  s.onHub_canonical _ (fun _ _ w => w.same (laneLoss_dome ..)) hw

theorem execModuleRemoval_canonical (l : LaneIx) : EndsCanonical (execModuleRemoval l s) :=
  s.onHub_canonical _ (fun _ _ w => w.same (moduleRemoval_dome ..)) hw

theorem execLos_canonical (l : LaneIx) (high : Bool) : EndsCanonical (execLos l high s) :=
  s.onHub_canonical _ (fun _ _ w => w.same (losPin_dome ..)) hw

theorem execRetrain_canonical (m : MasterIx) (l : LaneIx) (v : Word) : EndsCanonical (execRetrain m l v s) :=
  s.onHub_canonical _ (fun _ _ w => Hub.write_canonical (w := w) ..) hw

theorem execLinkRetrain_canonical (ch : BoxIx) : EndsCanonical (execLinkRetrain ch s) :=
  s.onHub_canonical _ (fun _ _ w => linkRetrainCommand_canonical (w := w) ..) hw

theorem execSegmentUpReport_canonical (l : LaneIx) : EndsCanonical (execSegmentUpReport l s) :=
  s.onHub_canonical _ (fun _ _ w => w.same (segmentUpReport_dome ..)) hw

theorem execRingRepeat_canonical : EndsCanonical (execRingRepeat s) :=
  s.onHub_canonical _ (fun _ _ w => w.same (ringRepeat_dome ..)) hw

theorem execRing_canonical (l : LaneIx) (x : RxFrame) : EndsCanonical (execRing l x s) :=
  s.onHub_canonical _ (fun _ _ w => RxFrame.link_canonical (hf := fun _ _ w => w.same (ringReport_dome ..)) (w := w) ..) hw

theorem execLinkSend_canonical (l : LaneIx) : EndsCanonical (execLinkSend l s) :=
  s.onHub_canonical _ (fun _ _ w => w.same (linkSend_dome ..)) hw

theorem execLink_canonical (l : LaneIx) (x : RxFrame) : EndsCanonical (execLink l x s) :=
  s.onHub_canonical _ (fun _ _ w => RxFrame.link_canonical (hf := fun _ _ w => w.same (linkArrive_dome ..)) (w := w) ..) hw

theorem execFrameTransmitStart_canonical (l : LaneIx) : EndsCanonical (execFrameTransmitStart l s) :=
  s.onHub_canonical _ (fun _ _ w => w.same (frameTransmitStart_dome ..)) hw

theorem execSyncSend_canonical (l : LaneIx) : EndsCanonical (execSyncSend l s) :=
  s.onHub_canonical _ (fun _ _ w => w.same (syncSend_dome ..)) hw

theorem execSync_canonical (l : LaneIx) (x : RxFrame) : EndsCanonical (execSync l x s) :=
  s.onHub_canonical _ (fun _ _ w => RxFrame.link_canonical (hf := fun _ _ w => w.same (syncArrive_dome ..)) (w := w) ..) hw

theorem execResp_canonical (l : LaneIx) (x : RxFrame) : EndsCanonical (execResp l x s) :=
  s.onHub_canonical _ (fun _ _ w => RxFrame.link_canonical (hf := fun _ _ w => w.same (respArrive_dome ..)) (w := w) ..) hw

theorem execSpanTrig_canonical (l : LaneIx) (x : RxFrame) : EndsCanonical (execSpanTrig l x s) :=
  s.onHub_canonical _ (fun _ _ w => RxFrame.link_canonical (hf := fun _ _ w => w.same (spanTrig_dome ..)) (w := w) ..) hw

theorem execLedger_canonical (l : LaneIx) (x : RxFrame) : EndsCanonical (execLedger l x s) :=
  s.onHub_canonical _ (fun _ _ w => RxFrame.link_canonical (hf := fun _ _ w => w) (w := w) ..) hw

theorem execLack_canonical (l : LaneIx) (x : RxFrame) : EndsCanonical (execLack l x s) :=
  s.onHub_canonical _ (fun _ _ w => RxFrame.link_canonical (hf := fun _ _ w => w.same (lackPayload_dome ..)) (w := w) ..) hw

theorem execPause_canonical (l : LaneIx) (quanta : PauseTime) : EndsCanonical (execPause l quanta s) :=
  s.onHub_canonical _ (fun _ _ w => w.same (pauseArrive_dome ..)) hw

theorem execPauseEnd_canonical (l : LaneIx) : EndsCanonical (execPauseEnd l s) :=
  s.onHub_canonical _ (fun _ _ w => w.same (pauseEnd_dome ..)) hw

theorem execEthLockTimeout_canonical (l : LaneIx) : EndsCanonical (execEthLockTimeout l s) :=
  s.onHub_canonical _ (fun _ _ w => w.same (ethLockTimeout_dome ..)) hw

theorem execProtoAutoTimeout_canonical (l : LaneIx) : EndsCanonical (execProtoAutoTimeout l s) :=
  s.onHub_canonical _ (fun _ _ w => w.same (protoAutoTimeout_dome ..)) hw

theorem execAnnounce_canonical (m : PtpHead) (d : PtpDataset) : EndsCanonical (execAnnounce m d s) :=
  s.onHub_canonical _ (fun _ _ w => w.same (announce_dome ..)) hw

theorem execPtpSync_canonical (m : PtpHead) (twoStep : Bool) : EndsCanonical (execPtpSync m twoStep s) :=
  s.onHub_canonical _ (fun _ _ w => w.same (ptpSync_dome ..)) hw

theorem execFollowUp_canonical (m : PtpHead) (origin : Nat) : EndsCanonical (execFollowUp m origin s) :=
  s.onHub_canonical _ (fun _ _ w => w.same (followUp_dome ..)) hw

theorem execDelayResp_canonical (m : PtpHead) (port : Nat) (rx : Nat) : EndsCanonical (execDelayResp m port rx s) :=
  s.onHub_canonical _ (fun _ _ w => w.same (delayResp_dome ..)) hw

theorem execDelayReqSend_canonical : EndsCanonical (execDelayReqSend s) :=
  s.onHub_canonical _ (fun _ _ w => w.same (delayReqSend_dome ..)) hw

theorem execModuleInsert_canonical (l : LaneIx) (internal : Option Bool) : EndsCanonical (execModuleInsert l internal s) :=
  s.onHub_canonical _ (fun _ _ w => w.same (moduleInsert_dome ..)) hw

theorem execDdmPoll_canonical (l : LaneIx) (vals : Option (List Nat)) : EndsCanonical (execDdmPoll l vals s) :=
  s.onHub_canonical _ (fun _ _ w => w.same (ddmPoll_dome ..)) hw

theorem execModAccGo_canonical (m : MasterIx) (l : LaneIx) (v : Word) : EndsCanonical (execModAccGo m l v s) :=
  s.onHub_canonical _ (fun _ _ w => Hub.write_canonical (w := w) ..) hw

theorem execModAccComplete_canonical (l : LaneIx) (byte : Option Nat) : EndsCanonical (execModAccComplete l byte s) :=
  s.onHub_canonical _ (fun _ _ w => w.same (modAccComplete_dome ..)) hw

theorem execEyeStart_canonical (m : MasterIx) (l : LaneIx) (v : Word) : EndsCanonical (execEyeStart m l v s) :=
  s.onHub_canonical _ (fun _ _ w => Hub.write_canonical (w := w) ..) hw

theorem execEyeStop_canonical (m : MasterIx) (l : LaneIx) (v : Word) : EndsCanonical (execEyeStop m l v s) :=
  s.onHub_canonical _ (fun _ _ w => Hub.write_canonical (w := w) ..) hw

theorem execEyePointDone_canonical (l : LaneIx) (count : Nat) : EndsCanonical (execEyePointDone l count s) :=
  s.onHub_canonical _ (fun _ _ w => eyePointDone_canonical (w := w) ..) hw

theorem execEyeScan_canonical (ch : BoxIx) : EndsCanonical (execEyeScan ch s) :=
  s.onHub_canonical _ (fun _ _ w => eyeScanCommand_canonical (w := w) ..) hw

theorem execRenewSend_canonical : EndsCanonical (execRenewSend s) :=
  s.onHub_canonical _ (fun _ _ w => w.same (renewSend_dome ..)) hw

theorem execRenew_canonical (l : LaneIx) (x : RxFrame) : EndsCanonical (execRenew l x s) :=
  s.onHub_canonical _ (fun _ _ w => RxFrame.selail_canonical (hf := fun _ _ w => w.same (renewArrive_dome ..)) (w := w) ..) hw

theorem execGrant_canonical (l : LaneIx) (x : RxFrame) : EndsCanonical (execGrant l x s) :=
  s.onHub_canonical _ (fun _ _ w => RxFrame.selail_canonical (hf := fun _ _ w => w.same (grantArrive_dome ..)) (w := w) ..) hw

theorem execDeny_canonical (l : LaneIx) (x : RxFrame) : EndsCanonical (execDeny l x s) :=
  s.onHub_canonical _ (fun _ _ w => RxFrame.selail_canonical (hf := fun _ _ w => w.same (denyArrive_dome ..)) (w := w) ..) hw

theorem execHeartbeatSend_canonical : EndsCanonical (execHeartbeatSend s) :=
  s.onHub_canonical _ (fun _ _ w => w.same (heartbeatSend_dome ..)) hw

theorem execHeartbeat_canonical (l : LaneIx) (x : RxFrame) : EndsCanonical (execHeartbeat l x s) :=
  s.onHub_canonical _ (fun _ _ w => RxFrame.selail_canonical (hf := fun _ _ w => w.same (heartbeat_dome ..)) (w := w) ..) hw

theorem execHeartbeatMiss_canonical : EndsCanonical (execHeartbeatMiss s) :=
  s.onHub_canonical _ (fun _ _ w => w.same (heartbeatMiss_dome ..)) hw

theorem execClaimSend_canonical : EndsCanonical (execClaimSend s) :=
  s.onHub_canonical _ (fun _ _ w => w.same (claimSend_dome ..)) hw

theorem execClaim_canonical (l : LaneIx) (x : RxFrame) : EndsCanonical (execClaim l x s) :=
  s.onHub_canonical _ (fun _ _ w => RxFrame.selail_canonical (hf := fun _ _ w => w.same (claimArrive_dome ..)) (w := w) ..) hw

theorem execWardenLeaseExpiry_canonical : EndsCanonical (execWardenLeaseExpiry s) :=
  s.onHub_canonical _ (fun _ _ w => w.same (wardenLeaseExpiry_dome ..)) hw

theorem execWardenStartupHoldEnd_canonical : EndsCanonical (execWardenStartupHoldEnd s) :=
  s.onHub_canonical _ (fun _ _ w => w.same (wardenStartupHoldEnd_dome ..)) hw

theorem execStartupClaimEval_canonical : EndsCanonical (execStartupClaimEval s) :=
  s.onHub_canonical _ (fun _ _ w => w.same (startupClaimEval_dome ..)) hw

theorem execPromotion_canonical (peerAct : Bool) : EndsCanonical (execPromotion peerAct s) :=
  s.onHub_canonical _ (fun _ _ w => promotion_canonical (w := w) ..) hw

theorem execXswTimeEnd_canonical : EndsCanonical (execXswTimeEnd s) :=
  s.onHub_canonical _ (fun _ _ w => w.same (xswTimeEnd_dome ..)) hw

theorem execLeaseExpiry_canonical : EndsCanonical (execLeaseExpiry s) :=
  s.onHub_canonical _ (fun _ _ w => w.same (leaseExpiry_dome ..)) hw

theorem execSelfFault_canonical : EndsCanonical (execSelfFault s) :=
  s.onHub_canonical _ (fun _ _ w => w.same (selfFault_dome ..)) hw

theorem execFenceBoundary_canonical : EndsCanonical (execFenceBoundary s) :=
  s.onHub_canonical _ (fun _ _ w => w.same (fenceBoundary_dome ..)) hw

theorem execRelinquish_canonical (l : LaneIx) (x : RxFrame) : EndsCanonical (execRelinquish l x s) :=
  s.onHub_canonical _ (fun _ _ w => RxFrame.selail_canonical (hf := fun _ _ w => w.same (relinquishArrive_dome ..)) (w := w) ..) hw

theorem execArbGrantFall_canonical : EndsCanonical (execArbGrantFall s) :=
  s.onHub_canonical _ (fun _ _ w => w.same (arbGrantFall_dome ..)) hw

theorem execArbGrantRise_canonical : EndsCanonical (execArbGrantRise s) :=
  s.onHub_canonical _ (fun _ _ w => w.same (arbGrantRise_dome ..)) hw

theorem execLedgerMSend_canonical : EndsCanonical (execLedgerMSend s) :=
  s.onHub_canonical _ (fun _ _ w => w.same (ledgerMSend_dome ..)) hw

theorem execLedgerM_canonical (l : LaneIx) (x : RxFrame) : EndsCanonical (execLedgerM l x s) :=
  s.onHub_canonical _ (fun _ _ w => RxFrame.selail_canonical (hf := fun _ _ w => w.same (ledgerM_dome ..)) (w := w) ..) hw

theorem execContext_canonical (l : LaneIx) (x : RxFrame) : EndsCanonical (execContext l x s) :=
  s.onHub_canonical _ (fun _ _ w => RxFrame.selail_canonical (hf := fun _ _ w => w.same (contextMirror_dome ..)) (w := w) ..) hw

theorem execHistogramSend_canonical : EndsCanonical (execHistogramSend s) :=
  s.onHub_canonical _ (fun _ _ w => histogramSend_canonical (w := w) ..) hw

theorem execHistogram_canonical (l : LaneIx) (x : RxFrame) : EndsCanonical (execHistogram l x s) :=
  s.onHub_canonical _
    (fun _ _ w => RxFrame.selail_canonical (hf := fun _ _ w => histogramMirror_canonical (w := w) ..) (w := w) ..) hw

theorem execThresholdsSend_canonical : EndsCanonical (execThresholdsSend s) :=
  s.onHub_canonical _ (fun _ _ w => w.same (thresholdsSend_dome ..)) hw

theorem execThresholds_canonical (l : LaneIx) (x : RxFrame) : EndsCanonical (execThresholds l x s) :=
  s.onHub_canonical _ (fun _ _ w => RxFrame.selail_canonical (hf := fun _ _ w => w.same (thresholdsMirror_dome ..)) (w := w) ..) hw

theorem execCaptureMirror_canonical (l : LaneIx) (x : RxFrame) : EndsCanonical (execCaptureMirror l x s) :=
  s.onHub_canonical _
    (fun _ _ w => RxFrame.selail_canonical (hf := fun _ _ w => captureMirror_canonical (w := w) ..) (w := w) ..) hw

theorem execMirrorPathReturn_canonical : EndsCanonical (execMirrorPathReturn s) :=
  s.onHub_canonical _ (fun _ _ w => w.same (mirrorPathReturn_dome ..)) hw

theorem execRevertHoldElapsed_canonical : EndsCanonical (execRevertHoldElapsed s) :=
  s.onHub_canonical _ (fun _ _ w => w.same (revertHoldElapsed_dome ..)) hw

theorem execHandoverPropose_canonical (l : LaneIx) (x : RxFrame) : EndsCanonical (execHandoverPropose l x s) :=
  s.onHub_canonical _
    (fun _ _ w => RxFrame.handover_canonical (hf := fun _ _ w => handoverPropose_canonical (w := w) ..) (w := w) ..) hw

theorem execHandoverAccept_canonical (l : LaneIx) (x : RxFrame) : EndsCanonical (execHandoverAccept l x s) :=
  s.onHub_canonical _ (fun _ _ w => RxFrame.handover_canonical (hf := fun _ _ w => w.same (handoverAccept_dome ..)) (w := w) ..) hw

theorem execHandoverConfirm_canonical (l : LaneIx) (x : RxFrame) : EndsCanonical (execHandoverConfirm l x s) :=
  s.onHub_canonical _ (fun _ _ w => RxFrame.handover_canonical (hf := fun _ _ w => w.same (handoverConfirm_dome ..)) (w := w) ..) hw

theorem execHandoverCancel_canonical (l : LaneIx) (x : RxFrame) : EndsCanonical (execHandoverCancel l x s) :=
  s.onHub_canonical _ (fun _ _ w => RxFrame.handover_canonical (hf := fun _ _ w => w.same (handoverCancel_dome ..)) (w := w) ..) hw

theorem execHandoverConfirmTimeout_canonical : EndsCanonical (execHandoverConfirmTimeout s) :=
  s.onHub_canonical _ (fun _ _ w => w.same (handoverConfirmTimeout_dome ..)) hw

theorem execHandoverRetry_canonical : EndsCanonical (execHandoverRetry s) :=
  s.onHub_canonical _ (fun _ _ w => w.same (handoverRetry_dome ..)) hw

theorem execHandoverSendStop_canonical : EndsCanonical (execHandoverSendStop s) :=
  s.onHub_canonical _ (fun _ _ w => w.same (handoverSendStop_dome ..)) hw

theorem execHandoverFrame_canonical : EndsCanonical (execHandoverFrame s) :=
  s.onHub_canonical _ (fun _ _ w => handoverFrame_canonical (w := w) ..) hw

theorem execLockstepMismatch_canonical (pc : Word) : EndsCanonical (execLockstepMismatch pc s) :=
  s.onHub_canonical _ (fun _ _ w => w.same (lockstepMismatch_dome ..)) hw

theorem execWatchdogExpiry_canonical : EndsCanonical (execWatchdogExpiry s) :=
  s.onHub_canonical _ (fun _ _ w => w.same (watchdogExpiry_dome ..)) hw

theorem execBelfryRestart_canonical : EndsCanonical (execBelfryRestart s) :=
  s.onHub_canonical _ (fun _ _ w => belfryRestart_canonical (w := w) ..) hw

theorem execBootRomStart_canonical (sel : BootSel) : EndsCanonical (execBootRomStart sel s) :=
  s.onHub_canonical _ (fun _ _ w => w.same (bootRomStart_dome ..)) hw

theorem execFirmwareLoaded_canonical (img : List Byte) (cfg : List SetupWrite) : EndsCanonical (execFirmwareLoaded img cfg s) :=
  s.onHub_canonical _ (fun _ _ w => w.same (firmwareLoaded_dome ..)) hw

theorem execBootCtrlWrite_canonical (m : MasterIx) (v : Word) (cfg : List SetupWrite) :
    EndsCanonical (execBootCtrlWrite m v cfg s) :=
  s.onHub_canonical _ (fun _ _ w => Hub.busWrite_canonical (w := w) ..) hw

theorem execMailboxPost_canonical (m : MasterIx) (ch : BoxIx) (v : Word) : EndsCanonical (execMailboxPost m ch v s) :=
  s.onHub_canonical _ (fun _ _ w => Hub.write_canonical (w := w) ..) hw

theorem execMailboxTake_canonical (m : MasterIx) (ch : BoxIx) : EndsCanonical (execMailboxTake m ch s) :=
  s.onHub_canonical _ (fun _ _ w => w.same (Hub.read_dome ..)) hw

theorem execBindWrite_canonical (m : MasterIx) (ch : BoxIx) (v : Word) : EndsCanonical (execBindWrite m ch v s) :=
  s.onHub_canonical _ (fun _ _ w => Hub.write_canonical (w := w) ..) hw

theorem execBindLock_canonical (m : MasterIx) (v : Word) : EndsCanonical (execBindLock m v s) :=
  s.onHub_canonical _ (fun _ _ w => Hub.write_canonical (w := w) ..) hw

theorem execMasterReset_canonical (m : MasterIx) : EndsCanonical (execMasterReset m s) :=
  s.onHub_canonical _ (fun _ _ w => Hub.write_canonical (w := w) ..) hw

theorem execResponsePost_canonical (ch : BoxIx) : EndsCanonical (execResponsePost ch s) :=
  s.onHub_canonical _ (fun _ _ w => w.same (responsePost_dome ..)) hw

theorem execLockAcquire_canonical (m : MasterIx) (l : LockIx) : EndsCanonical (execLockAcquire m l s) :=
  s.onHub_canonical _ (fun _ _ w => w.same (Hub.read_dome ..)) hw

theorem execLockRelease_canonical (m : MasterIx) (l : LockIx) : EndsCanonical (execLockRelease m l s) :=
  s.onHub_canonical _ (fun _ _ w => Hub.write_canonical (w := w) ..) hw

theorem execLockForce_canonical (m : MasterIx) (v : Word) : EndsCanonical (execLockForce m v s) :=
  s.onHub_canonical _ (fun _ _ w => Hub.write_canonical (w := w) ..) hw

theorem execElogQueueWrite_canonical : EndsCanonical (execElogQueueWrite s) :=
  s.onHub_canonical _ (fun _ _ w => w.same (elogQueueWrite_dome ..)) hw

theorem execElogFree_canonical (m : MasterIx) (v : Word) : EndsCanonical (execElogFree m v s) :=
  s.onHub_canonical _ (fun _ _ w => Hub.write_canonical (w := w) ..) hw

theorem execErrlogDrain_canonical (ch : BoxIx) : EndsCanonical (execErrlogDrain ch s) :=
  s.onHub_canonical _ (fun _ _ w => errlogDrain_canonical (w := w) ..) hw

theorem execSpiWrite_canonical (w : Word) (v : Word) : EndsCanonical (execSpiWrite w v s) :=
  s.onHub_canonical _ (fun _ _ w => spiWrite_canonical (w := w) ..) hw

theorem execSpiRead_canonical (w : Word) : EndsCanonical (execSpiRead w s) :=
  s.onHub_canonical _ (fun _ _ w => w.same (spiRead_dome ..)) hw

theorem execSpiNop_canonical : EndsCanonical (execSpiNop s) :=
  s.onHub_canonical _ (fun _ _ w => w.same (spiNop_dome ..)) hw

theorem execSpiBadFrame_canonical : EndsCanonical (execSpiBadFrame s) :=
  s.onHub_canonical _ (fun _ _ w => w.same (spiBadFrame_dome ..)) hw

theorem execSpiReadComplete_canonical : EndsCanonical (execSpiReadComplete s) :=
  s.onHub_canonical _ (fun _ _ w => w.same (spiReadComplete_dome ..)) hw

theorem execMgmtRead_canonical (l : LaneIx) (x : RxFrame) (bulk : Bool) (held : Option Nat) :
    EndsCanonical (execMgmtRead l x bulk held s) :=
  s.onHub_canonical _ (fun _ _ w => mgmtFrame_canonical (w := w) ..) hw

theorem execMgmtWrite_canonical (l : LaneIx) (x : RxFrame) (bulk : Bool) : EndsCanonical (execMgmtWrite l x bulk s) :=
  s.onHub_canonical _ (fun _ _ w => mgmtFrame_canonical (w := w) ..) hw

theorem execMgmtUnexpected_canonical (l : LaneIx) (x : RxFrame) (bulk : Bool) (op : MgmtOp) :
    EndsCanonical (execMgmtUnexpected l x bulk op s) :=
  s.onHub_canonical _ (fun _ _ w => mgmtFrame_canonical (w := w) ..) hw

theorem execDoorbellFrameSend_canonical : EndsCanonical (execDoorbellFrameSend s) :=
  s.onHub_canonical _ (fun _ _ w => w.same (doorbellFrameSend_dome ..)) hw

theorem execOtpProgramHash_canonical (m : MasterIx) : EndsCanonical (execOtpProgramHash m s) :=
  s.onHub_canonical _ (fun _ _ w => Hub.write_canonical (w := Hub.write_canonical (w := w) ..) ..) hw

theorem execOtpBlowDebugLock_canonical (m : MasterIx) : EndsCanonical (execOtpBlowDebugLock m s) :=
  s.onHub_canonical _ (fun _ _ w => Hub.write_canonical (w := Hub.write_canonical (w := w) ..) ..) hw

theorem execOtpSequenceTimeout_canonical : EndsCanonical (execOtpSequenceTimeout s) :=
  s.onHub_canonical _ (fun _ _ w => w.same (otpSequenceTimeout_dome ..)) hw

theorem execOtpProgramComplete_canonical : EndsCanonical (execOtpProgramComplete s) :=
  s.onHub_canonical _ (fun _ _ w => w.same (otpProgramComplete_dome ..)) hw

theorem execPing_canonical (ch : BoxIx) : EndsCanonical (execPing ch s) :=
  s.onHub_canonical _ (fun _ _ w => pingCommand_canonical (w := w) ..) hw

theorem execStatus_canonical (ch : BoxIx) : EndsCanonical (execStatus ch s) :=
  s.onHub_canonical _ (fun _ _ w => statusCommand_canonical (w := w) ..) hw

theorem execNopCommand_canonical (ch : BoxIx) : EndsCanonical (execNopCommand ch s) :=
  s.onHub_canonical _ (fun _ _ w => nopCommand_canonical (w := w) ..) hw

theorem execArm_canonical (ch : BoxIx) : EndsCanonical (execArm ch s) :=
  s.onHub_canonical _ (fun _ _ w => armCommand_canonical (w := w) ..) hw

theorem execStart_canonical (ch : BoxIx) : EndsCanonical (execStart ch s) :=
  s.onHub_canonical _ (fun _ _ w => startCommand_canonical (w := w) ..) hw

theorem execStop_canonical (ch : BoxIx) : EndsCanonical (execStop ch s) :=
  s.onHub_canonical _ (fun _ _ w => stopCommand_canonical (w := w) ..) hw

theorem execAbort_canonical (ch : BoxIx) : EndsCanonical (execAbort ch s) :=
  s.onHub_canonical _ (fun _ _ w => abortCommand_canonical (w := w) ..) hw

theorem execStopFrame_canonical : EndsCanonical (execStopFrame s) :=
  s.onHub_canonical _ (fun _ _ w => stopFrame_canonical (w := w) ..) hw

theorem execTrimNow_canonical (ch : BoxIx) : EndsCanonical (execTrimNow ch s) :=
  s.onHub_canonical _ (fun _ _ w => trimNowCommand_canonical (w := w) ..) hw

theorem execTrimHold_canonical (ch : BoxIx) : EndsCanonical (execTrimHold ch s) :=
  s.onHub_canonical _ (fun _ _ w => trimHoldCommand_canonical (w := w) ..) hw

theorem execTrimRelease_canonical (ch : BoxIx) : EndsCanonical (execTrimRelease ch s) :=
  s.onHub_canonical _ (fun _ _ w => trimReleaseCommand_canonical (w := w) ..) hw

theorem execPromote_canonical (ch : BoxIx) : EndsCanonical (execPromote ch s) :=
  s.onHub_canonical _ (fun _ _ w => promoteCommand_canonical (w := w) ..) hw

theorem execDemote_canonical (ch : BoxIx) : EndsCanonical (execDemote ch s) :=
  s.onHub_canonical _ (fun _ _ w => demoteCommand_canonical (w := w) ..) hw

theorem execSetPreferred_canonical (ch : BoxIx) : EndsCanonical (execSetPreferred ch s) :=
  s.onHub_canonical _ (fun _ _ w => setPreferredCommand_canonical (w := w) ..) hw

theorem execServiceEnter_canonical (ch : BoxIx) : EndsCanonical (execServiceEnter ch s) :=
  s.onHub_canonical _ (fun _ _ w => serviceEnterCommand_canonical (w := w) ..) hw

theorem execServiceExit_canonical (ch : BoxIx) : EndsCanonical (execServiceExit ch s) :=
  s.onHub_canonical _ (fun _ _ w => serviceExitCommand_canonical (w := w) ..) hw

theorem execHubReset_canonical (ch : BoxIx) : EndsCanonical (execHubReset ch s) :=
  s.onHub_canonical _ (fun _ _ w => hubResetCommand_canonical (w := w) ..) hw

theorem execResetDelayExpiry_canonical : EndsCanonical (execResetDelayExpiry s) :=
  s.onHubRaw_canonical _ _ (fun _ _ w => resetDelayExpiry_canonical (w := w) ..) hw

theorem execPowerOnRelease_canonical : EndsCanonical (execPowerOnRelease s) :=
  s.onPower_canonical _ _ (fun _ w => powerOnRelease_canonical (w := w) ..) hw

theorem execResetNAssert_canonical : EndsCanonical (execResetNAssert s) :=
  s.onHubRaw_canonical _ _ (fun _ _ _ => Hub.afterReset_canonical ..) hw

theorem execBrownout_canonical : EndsCanonical (execBrownout s) :=
  s.onHubRaw_canonical _ _ (fun _ _ _ => Hub.afterReset_canonical ..) hw

theorem execSpireResetEnd_canonical (n : SpireIx) : EndsCanonical (execSpireResetEnd n s) :=
  s.onHub_canonical _ (fun _ _ w => w.same (spireResetEnd_dome ..)) hw

theorem execLaneResetEnd_canonical (l : LaneIx) : EndsCanonical (execLaneResetEnd l s) :=
  s.onHub_canonical _ (fun _ _ w => w.same (laneResetEnd_dome ..)) hw

theorem execSagTrip_canonical (k : SagIx) : EndsCanonical (execSagTrip k s) :=
  s.onHub_canonical _ (fun _ _ w => w.same (sagTrip_dome ..)) hw

theorem execSagLevelLeave_canonical (k : SagIx) : EndsCanonical (execSagLevelLeave k s) :=
  s.onHub_canonical _ (fun _ _ w => w.same (sagLevelLeave_dome ..)) hw

theorem execTpArm_canonical (m : MasterIx) (v : Word) : EndsCanonical (execTpArm m v s) :=
  s.onHub_canonical _ (fun _ _ w => Hub.write_canonical (w := w) ..) hw

theorem execTpXdelay_canonical (m : MasterIx) (v : Word) : EndsCanonical (execTpXdelay m v s) :=
  s.onHub_canonical _ (fun _ _ w => Hub.write_canonical (w := w) ..) hw

theorem execTpStarve_canonical (m : MasterIx) (v : Word) : EndsCanonical (execTpStarve m v s) :=
  s.onHub_canonical _ (fun _ _ w => Hub.write_canonical (w := w) ..) hw

theorem execStarveEnd_canonical : EndsCanonical (execStarveEnd s) :=
  s.onHub_canonical _ (fun _ _ w => w.same (starveEnd_dome ..)) hw

theorem execTpAckhold_canonical (m : MasterIx) (v : Word) : EndsCanonical (execTpAckhold m v s) :=
  s.onHub_canonical _ (fun _ _ w => Hub.write_canonical (w := w) ..) hw

theorem execAckholdRelease_canonical : EndsCanonical (execAckholdRelease s) :=
  s.onHub_canonical _ (fun _ _ w => w.same (ackholdRelease_dome ..)) hw

theorem execTpDrop_canonical (m : MasterIx) (v : Word) : EndsCanonical (execTpDrop m v s) :=
  s.onHub_canonical _ (fun _ _ w => Hub.write_canonical (w := w) ..) hw

theorem execInject_canonical (m : MasterIx) (v : Word) : EndsCanonical (execInject m v s) :=
  s.onHub_canonical _ (fun _ _ w => Hub.write_canonical (w := w) ..) hw

theorem execTpTjit_canonical (m : MasterIx) (v : Word) : EndsCanonical (execTpTjit m v s) :=
  s.onHub_canonical _ (fun _ _ w => Hub.write_canonical (w := w) ..) hw

theorem execTpSag_canonical (m : MasterIx) (v : Word) : EndsCanonical (execTpSag m v s) :=
  s.onHub_canonical _ (fun _ _ w => Hub.write_canonical (w := w) ..) hw

theorem execTpSkew_canonical (m : MasterIx) (v : Word) : EndsCanonical (execTpSkew m v s) :=
  s.onHub_canonical _ (fun _ _ w => Hub.write_canonical (w := w) ..) hw

theorem execTpSwapfail_canonical (m : MasterIx) (v : Word) : EndsCanonical (execTpSwapfail m v s) :=
  s.onHub_canonical _ (fun _ _ w => Hub.write_canonical (w := w) ..) hw

theorem execTurretResetEnd_canonical (t : TurretIx) : EndsCanonical (execTurretResetEnd t s) :=
  s.onHub_canonical _ (fun _ _ w => w.same (turretResetEnd_dome ..)) hw

theorem execTrstNLow_canonical : EndsCanonical (execTrstNLow s) :=
  s.onHub_canonical _ (fun _ h w => w.same (h.masterReset_dome _ _)) hw

theorem execStoreAccepted_canonical (c : CtxIx) (k : Nat) : EndsCanonical (execStoreAccepted c k s) :=
  s.onHub_canonical _ (fun _ _ w => storeAccepted_canonical (w := w) ..) hw

theorem execPowerLoss_canonical : EndsCanonical (execPowerLoss s) :=
  s.onPower_canonical _ _ (fun _ _ => powerLoss_canonical ..) hw

theorem execEthLinkUp_canonical (l : LaneIx) : EndsCanonical (execEthLinkUp l s) :=
  s.onHub_canonical _ (fun _ _ w => w.same (ethLinkUp_dome ..)) hw

theorem execEthLinkLoss_canonical (l : LaneIx) : EndsCanonical (execEthLinkLoss l s) :=
  s.onHub_canonical _ (fun _ _ w => w.same (ethLinkLoss_dome ..)) hw

theorem execAnnounceTimeout_canonical : EndsCanonical (execAnnounceTimeout s) :=
  s.onHub_canonical _ (fun _ _ w => w.same (announceTimeout_dome ..)) hw

theorem execTrigOutPulseEnd_canonical (p : TrigOutIx) : EndsCanonical (execTrigOutPulseEnd p s) :=
  s.onHub_canonical _ (fun _ _ w => w.same (trigOutPulseEnd_dome ..)) hw

theorem execPpsOutPulseEnd_canonical : EndsCanonical (execPpsOutPulseEnd s) :=
  s.onHub_canonical _ (fun _ _ w => w.same (ppsOutPulseEnd_dome ..)) hw

theorem execContextFallbackSlot_canonical (c : CtxIx) : EndsCanonical (execContextFallbackSlot c s) :=
  s.onHub_canonical _ (fun _ _ w => w.same (contextFallbackSlot_dome ..)) hw

end

theorem exec_canonical (c : Instr) (s : State) (hw : s.hub.Canonical) : EndsCanonical (exec c s) := by
  cases c with
  | registerWrite m a size v => exact execRegisterWrite_canonical s hw m a size v
  | rcFieldRead m a size => exact execRcFieldRead_canonical s hw m a size
  | crossingStuck k => exact execCrossingStuck_canonical s hw k
  | bridgeTimeout m a => exact execBridgeTimeout_canonical s hw m a
  | abandonedReadComplete => exact execAbandonedReadComplete_canonical s hw
  | toggleAckComplete c => exact execToggleAckComplete_canonical s hw c
  | domeRegionSizeWrite m k v => exact execDomeRegionSizeWrite_canonical s hw m k v
  | feCfgWrite m n c aux v => exact execFeCfgWrite_canonical s hw m n c aux v
  | feCfgTakeEffect n c => exact execFeCfgTakeEffect_canonical s hw n c
  | commonModeTrip n c p q => exact execCommonModeTrip_canonical s hw n c p q
  | rtdComplianceExceeded n c exceeds => exact execRtdComplianceExceeded_canonical s hw n c exceeds
  | chargeRailReached n c l => exact execChargeRailReached_canonical s hw n c l
  | clampConduct n c p q => exact execClampConduct_canonical s hw n c p q
  | clampSuspectEnd n c => exact execClampSuspectEnd_canonical s hw n c
  | feChgResetWrite m n v => exact execFeChgResetWrite_canonical s hw m n v
  | chargeResetAuto n c code => exact execChargeResetAuto_canonical s hw n c code
  | chargeResetPeriodic n c => exact execChargeResetPeriodic_canonical s hw n c
  | chargeResetStart n c => exact execChargeResetStart_canonical s hw n c
  | chargeResetSwitchOpen n c => exact execChargeResetSwitchOpen_canonical s hw n c
  | chargeResetSettled n c => exact execChargeResetSettled_canonical s hw n c
  | chargeTestDue n c => exact execChargeTestDue_canonical s hw n c
  | chargeTestComplete n c => exact execChargeTestComplete_canonical s hw n c
  | excEnable m n v => exact execExcEnable_canonical s hw m n v
  | inrushExcEnable n => exact execInrushExcEnable_canonical s hw n
  | excDisable m n v => exact execExcDisable_canonical s hw m n v
  | excLimitEnter n uA => exact execExcLimitEnter_canonical s hw n uA
  | excLimitExit n uA => exact execExcLimitExit_canonical s hw n uA
  | excTrip n => exact execExcTrip_canonical s hw n
  | excTripRestart m n v => exact execExcTripRestart_canonical s hw m n v
  | reverseNow m n v => exact execReverseNow_canonical s hw m n v
  | excReversal n => exact execExcReversal_canonical s hw n
  | excSenseBreak n => exact execExcSenseBreak_canonical s hw n
  | probeBallRead n c pBall => exact execProbeBallRead_canonical s hw n c pBall
  | breakClear n c m => exact execBreakClear_canonical s hw n c m
  | userCurveWrite m n k w v => exact execUserCurveWrite_canonical s hw m n k w v
  | schedCommit m n v => exact execSchedCommit_canonical s hw m n v
  | schedCommitApply n => exact execSchedCommitApply_canonical s hw n
  | rawCodeConvert n slot f code pair => exact execRawCodeConvert_canonical s hw n slot f code pair
  | refCheckAverage n => exact execRefCheckAverage_canonical s hw n
  | injReq m n v => exact execInjReq_canonical s hw m n v
  | internalInjRequest n who node => exact execInternalInjRequest_canonical s hw n who node
  | injComplete n => exact execInjComplete_canonical s hw n
  | spareCalStart n => exact execSpareCalStart_canonical s hw n
  | sliceCalComplete n ofs gain inl coef => exact execSliceCalComplete_canonical s hw n ofs gain inl coef
  | rotEnable m n v => exact execRotEnable_canonical s hw m n v
  | swapCompareDone n => exact execSwapCompareDone_canonical s hw n
  | swapVerdict n => exact execSwapVerdict_canonical s hw n
  | drainQueueClose n => exact execDrainQueueClose_canonical s hw n
  | drainForced n => exact execDrainForced_canonical s hw n
  | sliceSwap n => exact execSliceSwap_canonical s hw n
  | filterOutput n c => exact execFilterOutput_canonical s hw n c
  | filterCommit m n v => exact execFilterCommit_canonical s hw m n v
  | filterCommitApply n => exact execFilterCommitApply_canonical s hw n
  | sentryHitStart n c => exact execSentryHitStart_canonical s hw n c
  | hitLostLog n => exact execHitLostLog_canonical s hw n
  | sentryHitEnd n c => exact execSentryHitEnd_canonical s hw n c
  | sentryHitLong n c => exact execSentryHitLong_canonical s hw n c
  | sentryLockoutEnd n c => exact execSentryLockoutEnd_canonical s hw n c
  | tempUpdate n => exact execTempUpdate_canonical s hw n
  | dieTempRead v => exact execDieTempRead_canonical s hw v
  | trimEvaluation => exact execTrimEvaluation_canonical s hw
  | trimHoldMaxReached n => exact execTrimHoldMaxReached_canonical s hw n
  | trimStart n => exact execTrimStart_canonical s hw n
  | trimEnd n v => exact execTrimEnd_canonical s hw n v
  | bootCalComplete b => exact execBootCalComplete_canonical s hw b
  | calSave ch => exact execCalSave_canonical s hw ch
  | calSaveSnapshot => exact execCalSaveSnapshot_canonical s hw
  | calRestore ch => exact execCalRestore_canonical s hw ch
  | calRestoreApply => exact execCalRestoreApply_canonical s hw
  | pllLock => exact execPllLock_canonical s hw
  | refclkLoss => exact execRefclkLoss_canonical s hw
  | refclkReturn => exact execRefclkReturn_canonical s hw
  | servoCommitRate m v => exact execServoCommitRate_canonical s hw m v
  | servoCommitStep m v => exact execServoCommitStep_canonical s hw m v
  | servoCommitSet m v => exact execServoCommitSet_canonical s hw m v
  | servoCommitApply => exact execServoCommitApply_canonical s hw
  | timeNowRead m => exact execTimeNowRead_canonical s hw m
  | trigInEdge k rise => exact execTrigInEdge_canonical s hw k rise
  | trigInPop m k => exact execTrigInPop_canonical s hw m k
  | gridPhaseMeasure e => exact execGridPhaseMeasure_canonical s hw e
  | realign m v => exact execRealign_canonical s hw m v
  | gridAlignComplete => exact execGridAlignComplete_canonical s hw
  | servoMeasurement => exact execServoMeasurement_canonical s hw
  | timeHoldoverEnter => exact execTimeHoldoverEnter_canonical s hw
  | holdoverTimeout => exact execHoldoverTimeout_canonical s hw
  | timeSource q => exact execTimeSource_canonical s hw q
  | alarmArm m a v => exact execAlarmArm_canonical s hw m a v
  | alarmDisarm m a v => exact execAlarmDisarm_canonical s hw m a v
  | alarmFire a => exact execAlarmFire_canonical s hw a
  | ppsOutPulse => exact execPpsOutPulse_canonical s hw
  | loadPlan ch => exact execLoadPlan_canonical s hw ch
  | stageElementArrive => exact execStageElementArrive_canonical s hw
  | activationPacingRelease c => exact execActivationPacingRelease_canonical s hw c
  | ctxCtrlHalt m c v => exact execCtxCtrlHalt_canonical s hw m c v
  | ctxCtrlRestart m c v => exact execCtxCtrlRestart_canonical s hw m c v
  | turretReset ch => exact execTurretReset_canonical s hw ch
  | turretUngate t => exact execTurretUngate_canonical s hw t
  | amixelAdd c => exact execAmixelAdd_canonical s hw c
  | amixelSub c => exact execAmixelSub_canonical s hw c
  | amixelMul c => exact execAmixelMul_canonical s hw c
  | amixelMulh c => exact execAmixelMulh_canonical s hw c
  | amixelAnd c => exact execAmixelAnd_canonical s hw c
  | amixelOr c => exact execAmixelOr_canonical s hw c
  | amixelXor c => exact execAmixelXor_canonical s hw c
  | amixelShl c => exact execAmixelShl_canonical s hw c
  | amixelShr c => exact execAmixelShr_canonical s hw c
  | amixelSar c => exact execAmixelSar_canonical s hw c
  | amixelMin c => exact execAmixelMin_canonical s hw c
  | amixelMax c => exact execAmixelMax_canonical s hw c
  | amixelAbs c => exact execAmixelAbs_canonical s hw c
  | amixelClz c => exact execAmixelClz_canonical s hw c
  | amixelAddi c => exact execAmixelAddi_canonical s hw c
  | amixelLui c => exact execAmixelLui_canonical s hw c
  | amixelAndi c => exact execAmixelAndi_canonical s hw c
  | amixelOri c => exact execAmixelOri_canonical s hw c
  | amixelWacc c => exact execAmixelWacc_canonical s hw c
  | amixelWsq c => exact execAmixelWsq_canonical s hw c
  | amixelWsub c => exact execAmixelWsub_canonical s hw c
  | amixelWshr c => exact execAmixelWshr_canonical s hw c
  | amixelWrd c => exact execAmixelWrd_canonical s hw c
  | amixelWclr c => exact execAmixelWclr_canonical s hw c
  | amixelCmp c => exact execAmixelCmp_canonical s hw c
  | amixelBr c => exact execAmixelBr_canonical s hw c
  | amixelBrq c => exact execAmixelBrq_canonical s hw c
  | amixelCall c => exact execAmixelCall_canonical s hw c
  | amixelRet c => exact execAmixelRet_canonical s hw c
  | amixelLoop c => exact execAmixelLoop_canonical s hw c
  | amixelLd c => exact execAmixelLd_canonical s hw c
  | amixelSt c => exact execAmixelSt_canonical s hw c
  | amixelLdw c => exact execAmixelLdw_canonical s hw c
  | amixelStw c => exact execAmixelStw_canonical s hw c
  | loadComplete c k => exact execLoadComplete_canonical s hw c k
  | amixelTake c => exact execAmixelTake_canonical s hw c
  | amixelPeek c => exact execAmixelPeek_canonical s hw c
  | amixelEmit c => exact execAmixelEmit_canonical s hw c
  | amixelSeal c => exact execAmixelSeal_canonical s hw c
  | amixelCurve c => exact execAmixelCurve_canonical s hw c
  | amixelXing c => exact execAmixelXing_canonical s hw c
  | amixelPeakt c => exact execAmixelPeakt_canonical s hw c
  | amixelRflow c => exact execAmixelRflow_canonical s hw c
  | measurementComplete c k => exact execMeasurementComplete_canonical s hw c k
  | amixelTime c => exact execAmixelTime_canonical s hw c
  | timeReply c => exact execTimeReply_canonical s hw c
  | amixelWaitt c => exact execAmixelWaitt_canonical s hw c
  | waittResume c => exact execWaittResume_canonical s hw c
  | amixelAlarm c => exact execAmixelAlarm_canonical s hw c
  | amixelArmUnit c => exact execAmixelArmUnit_canonical s hw c
  | amixelDisarmUnit c => exact execAmixelDisarmUnit_canonical s hw c
  | amixelFireUnit c => exact execAmixelFireUnit_canonical s hw c
  | amixelMirror c => exact execAmixelMirror_canonical s hw c
  | amixelPost c => exact execAmixelPost_canonical s hw c
  | amixelTakemb c => exact execAmixelTakemb_canonical s hw c
  | amixelLocka c => exact execAmixelLocka_canonical s hw c
  | amixelLockr c => exact execAmixelLockr_canonical s hw c
  | amixelYield c => exact execAmixelYield_canonical s hw c
  | amixelHalt c => exact execAmixelHalt_canonical s hw c
  | amixelNop c => exact execAmixelNop_canonical s hw c
  | undefinedWordIssue c => exact execUndefinedWordIssue_canonical s hw c
  | capCtrlArm m u v => exact execCapCtrlArm_canonical s hw m u v
  | capCtrlDisarm m u v => exact execCapCtrlDisarm_canonical s hw m u v
  | capCtrlFire m u v => exact execCapCtrlFire_canonical s hw m u v
  | capCtrlRelease m u v => exact execCapCtrlRelease_canonical s hw m u v
  | captureSetStored u => exact execCaptureSetStored_canonical s hw u
  | captureTrigger u => exact execCaptureTrigger_canonical s hw u
  | captureRearm u => exact execCaptureRearm_canonical s hw u
  | recordMeasured => exact execRecordMeasured_canonical s hw
  | recordDeliver u => exact execRecordDeliver_canonical s hw u
  | ledgerElementArrive => exact execLedgerElementArrive_canonical s hw
  | packetSealTimeout q => exact execPacketSealTimeout_canonical s hw q
  | packetSend => exact execPacketSend_canonical s hw
  | descPeriodic => exact execDescPeriodic_canonical s hw
  | ack m => exact execAck_canonical s hw m
  | nack m => exact execNack_canonical s hw m
  | ackTimeout q => exact execAckTimeout_canonical s hw q
  | ledgerCommit m v => exact execLedgerCommit_canonical s hw m v
  | laneCfgWrite m l v => exact execLaneCfgWrite_canonical s hw m l v
  | laneDetectDone l => exact execLaneDetectDone_canonical s hw l
  | laneTrainDone l => exact execLaneTrainDone_canonical s hw l
  | laneTrainTimeout l => exact execLaneTrainTimeout_canonical s hw l
  | laneLockDone l => exact execLaneLockDone_canonical s hw l
  | laneLockTimeout l => exact execLaneLockTimeout_canonical s hw l
  | txDisableHoldEnd l => exact execTxDisableHoldEnd_canonical s hw l
  | capSend l => exact execCapSend_canonical s hw l
  | cap l x => exact execCap_canonical s hw l x
  | laneLoss l line => exact execLaneLoss_canonical s hw l line
  | moduleRemoval l => exact execModuleRemoval_canonical s hw l
  | los l high => exact execLos_canonical s hw l high
  | retrain m l v => exact execRetrain_canonical s hw m l v
  | linkRetrain ch => exact execLinkRetrain_canonical s hw ch
  | segmentUpReport l => exact execSegmentUpReport_canonical s hw l
  | ringRepeat => exact execRingRepeat_canonical s hw
  | ring l x => exact execRing_canonical s hw l x
  | linkSend l => exact execLinkSend_canonical s hw l
  | link l x => exact execLink_canonical s hw l x
  | frameTransmitStart l => exact execFrameTransmitStart_canonical s hw l
  | syncSend l => exact execSyncSend_canonical s hw l
  | sync l x => exact execSync_canonical s hw l x
  | resp l x => exact execResp_canonical s hw l x
  | spanTrig l x => exact execSpanTrig_canonical s hw l x
  | ledger l x => exact execLedger_canonical s hw l x
  | lack l x => exact execLack_canonical s hw l x
  | pause l quanta => exact execPause_canonical s hw l quanta
  | pauseEnd l => exact execPauseEnd_canonical s hw l
  | ethLockTimeout l => exact execEthLockTimeout_canonical s hw l
  | protoAutoTimeout l => exact execProtoAutoTimeout_canonical s hw l
  | announce m d => exact execAnnounce_canonical s hw m d
  | ptpSync m twoStep => exact execPtpSync_canonical s hw m twoStep
  | followUp m origin => exact execFollowUp_canonical s hw m origin
  | delayResp m port rx => exact execDelayResp_canonical s hw m port rx
  | delayReqSend => exact execDelayReqSend_canonical s hw
  | moduleInsert l internal => exact execModuleInsert_canonical s hw l internal
  | ddmPoll l vals => exact execDdmPoll_canonical s hw l vals
  | modAccGo m l v => exact execModAccGo_canonical s hw m l v
  | modAccComplete l byte => exact execModAccComplete_canonical s hw l byte
  | eyeStart m l v => exact execEyeStart_canonical s hw m l v
  | eyeStop m l v => exact execEyeStop_canonical s hw m l v
  | eyePointDone l count => exact execEyePointDone_canonical s hw l count
  | eyeScan ch => exact execEyeScan_canonical s hw ch
  | renewSend => exact execRenewSend_canonical s hw
  | renew l x => exact execRenew_canonical s hw l x
  | grant l x => exact execGrant_canonical s hw l x
  | deny l x => exact execDeny_canonical s hw l x
  | heartbeatSend => exact execHeartbeatSend_canonical s hw
  | heartbeat l x => exact execHeartbeat_canonical s hw l x
  | heartbeatMiss => exact execHeartbeatMiss_canonical s hw
  | claimSend => exact execClaimSend_canonical s hw
  | claim l x => exact execClaim_canonical s hw l x
  | wardenLeaseExpiry => exact execWardenLeaseExpiry_canonical s hw
  | wardenStartupHoldEnd => exact execWardenStartupHoldEnd_canonical s hw
  | startupClaimEval => exact execStartupClaimEval_canonical s hw
  | promotion peerAct => exact execPromotion_canonical s hw peerAct
  | xswTimeEnd => exact execXswTimeEnd_canonical s hw
  | leaseExpiry => exact execLeaseExpiry_canonical s hw
  | selfFault => exact execSelfFault_canonical s hw
  | fenceBoundary => exact execFenceBoundary_canonical s hw
  | relinquish l x => exact execRelinquish_canonical s hw l x
  | arbGrantFall => exact execArbGrantFall_canonical s hw
  | arbGrantRise => exact execArbGrantRise_canonical s hw
  | ledgerMSend => exact execLedgerMSend_canonical s hw
  | ledgerM l x => exact execLedgerM_canonical s hw l x
  | context l x => exact execContext_canonical s hw l x
  | histogramSend => exact execHistogramSend_canonical s hw
  | histogram l x => exact execHistogram_canonical s hw l x
  | thresholdsSend => exact execThresholdsSend_canonical s hw
  | thresholds l x => exact execThresholds_canonical s hw l x
  | captureMirror l x => exact execCaptureMirror_canonical s hw l x
  | mirrorPathReturn => exact execMirrorPathReturn_canonical s hw
  | revertHoldElapsed => exact execRevertHoldElapsed_canonical s hw
  | handoverPropose l x => exact execHandoverPropose_canonical s hw l x
  | handoverAccept l x => exact execHandoverAccept_canonical s hw l x
  | handoverConfirm l x => exact execHandoverConfirm_canonical s hw l x
  | handoverCancel l x => exact execHandoverCancel_canonical s hw l x
  | handoverConfirmTimeout => exact execHandoverConfirmTimeout_canonical s hw
  | handoverRetry => exact execHandoverRetry_canonical s hw
  | handoverSendStop => exact execHandoverSendStop_canonical s hw
  | handoverFrame => exact execHandoverFrame_canonical s hw
  | lockstepMismatch pc => exact execLockstepMismatch_canonical s hw pc
  | watchdogExpiry => exact execWatchdogExpiry_canonical s hw
  | belfryRestart => exact execBelfryRestart_canonical s hw
  | bootRomStart sel => exact execBootRomStart_canonical s hw sel
  | firmwareLoaded img cfg => exact execFirmwareLoaded_canonical s hw img cfg
  | bootCtrlWrite m v cfg => exact execBootCtrlWrite_canonical s hw m v cfg
  | mailboxPost m ch v => exact execMailboxPost_canonical s hw m ch v
  | mailboxTake m ch => exact execMailboxTake_canonical s hw m ch
  | bindWrite m ch v => exact execBindWrite_canonical s hw m ch v
  | bindLock m v => exact execBindLock_canonical s hw m v
  | masterReset m => exact execMasterReset_canonical s hw m
  | responsePost ch => exact execResponsePost_canonical s hw ch
  | lockAcquire m l => exact execLockAcquire_canonical s hw m l
  | lockRelease m l => exact execLockRelease_canonical s hw m l
  | lockForce m v => exact execLockForce_canonical s hw m v
  | elogQueueWrite => exact execElogQueueWrite_canonical s hw
  | elogFree m v => exact execElogFree_canonical s hw m v
  | errlogDrain ch => exact execErrlogDrain_canonical s hw ch
  | spiWrite w v => exact execSpiWrite_canonical s hw w v
  | spiRead w => exact execSpiRead_canonical s hw w
  | spiNop => exact execSpiNop_canonical s hw
  | spiBadFrame => exact execSpiBadFrame_canonical s hw
  | spiReadComplete => exact execSpiReadComplete_canonical s hw
  | mgmtRead l x bulk held => exact execMgmtRead_canonical s hw l x bulk held
  | mgmtWrite l x bulk => exact execMgmtWrite_canonical s hw l x bulk
  | mgmtUnexpected l x bulk op => exact execMgmtUnexpected_canonical s hw l x bulk op
  | doorbellFrameSend => exact execDoorbellFrameSend_canonical s hw
  | otpProgramHash m => exact execOtpProgramHash_canonical s hw m
  | otpBlowDebugLock m => exact execOtpBlowDebugLock_canonical s hw m
  | otpSequenceTimeout => exact execOtpSequenceTimeout_canonical s hw
  | otpProgramComplete => exact execOtpProgramComplete_canonical s hw
  | ping ch => exact execPing_canonical s hw ch
  | status ch => exact execStatus_canonical s hw ch
  | nopCommand ch => exact execNopCommand_canonical s hw ch
  | arm ch => exact execArm_canonical s hw ch
  | start ch => exact execStart_canonical s hw ch
  | stop ch => exact execStop_canonical s hw ch
  | abort ch => exact execAbort_canonical s hw ch
  | stopFrame => exact execStopFrame_canonical s hw
  | trimNow ch => exact execTrimNow_canonical s hw ch
  | trimHold ch => exact execTrimHold_canonical s hw ch
  | trimRelease ch => exact execTrimRelease_canonical s hw ch
  | promote ch => exact execPromote_canonical s hw ch
  | demote ch => exact execDemote_canonical s hw ch
  | setPreferred ch => exact execSetPreferred_canonical s hw ch
  | serviceEnter ch => exact execServiceEnter_canonical s hw ch
  | serviceExit ch => exact execServiceExit_canonical s hw ch
  | hubReset ch => exact execHubReset_canonical s hw ch
  | resetDelayExpiry => exact execResetDelayExpiry_canonical s hw
  | powerOnRelease => exact execPowerOnRelease_canonical s hw
  | resetNAssert => exact execResetNAssert_canonical s hw
  | brownout => exact execBrownout_canonical s hw
  | spireResetEnd n => exact execSpireResetEnd_canonical s hw n
  | laneResetEnd l => exact execLaneResetEnd_canonical s hw l
  | sagTrip k => exact execSagTrip_canonical s hw k
  | sagLevelLeave k => exact execSagLevelLeave_canonical s hw k
  | tpArm m v => exact execTpArm_canonical s hw m v
  | tpXdelay m v => exact execTpXdelay_canonical s hw m v
  | tpStarve m v => exact execTpStarve_canonical s hw m v
  | starveEnd => exact execStarveEnd_canonical s hw
  | tpAckhold m v => exact execTpAckhold_canonical s hw m v
  | ackholdRelease => exact execAckholdRelease_canonical s hw
  | tpDrop m v => exact execTpDrop_canonical s hw m v
  | inject m v => exact execInject_canonical s hw m v
  | tpTjit m v => exact execTpTjit_canonical s hw m v
  | tpSag m v => exact execTpSag_canonical s hw m v
  | tpSkew m v => exact execTpSkew_canonical s hw m v
  | tpSwapfail m v => exact execTpSwapfail_canonical s hw m v
  | turretResetEnd t => exact execTurretResetEnd_canonical s hw t
  | trstNLow => exact execTrstNLow_canonical s hw
  | storeAccepted c k => exact execStoreAccepted_canonical s hw c k
  | powerLoss => exact execPowerLoss_canonical s hw
  | ethLinkUp l => exact execEthLinkUp_canonical s hw l
  | ethLinkLoss l => exact execEthLinkLoss_canonical s hw l
  | announceTimeout => exact execAnnounceTimeout_canonical s hw
  | trigOutPulseEnd p => exact execTrigOutPulseEnd_canonical s hw p
  | ppsOutPulseEnd => exact execPpsOutPulseEnd_canonical s hw
  | contextFallbackSlot c => exact execContextFallbackSlot_canonical s hw c

theorem State.tick_canonical (s : State) (hw : s.hub.Canonical) : s.tick.hub.Canonical := s.hub.tickTo_canonical _ hw

theorem step_canonical (s : State) (hw : s.hub.Canonical) : EndsCanonical (step s) := by
  unfold step
  split
  · rintro s' e
    obtain rfl := Host.Outcome.next.inj e
    exact s.tick_canonical hw
  · exact exec_canonical _ _ hw

/-- Settles O11: a step runs one row or a tick of the clock, each is one function of the hub, and every such function leaves
the Dome's cells alone or changes them through the operations that keep the form. -/
theorem domeStaysCanonical : Obligations.DomeStaysCanonical := fun s t hw e => step_canonical s hw t e

end Sys2Proof.Machine

/-!
SUPPORT. The crossings between clock domains (R29, R30, R32, R389): what a stuck crossing and a held read leave in the error log,
what an abandoned read does when it completes, and which of the merged toggle events is delivered.
-/

namespace Sys2Proof.Machine

open Sys2Proof.Safety

/-! ### Held crossings (R29, R30) -/

/-- A row of a powered hub answers the state that its function of the hub gives. -/
theorem State.onHub_eq (s : State) (f : Nat → Hub → Hub) {g : Hub} (p : s.hub.sys.powered = true)
    (e : f s.raw.toNat s.hub = g) : s.onHub f = .next { s with hub := g } := by rw [s.onHub_powered f p, e]

/-- A report leaves the Dome. -/
theorem sameButLog.dome {h h' : Hub} (q : sameButLog h h') : h'.dome = h.dome := by rw [q.2]

/-- The counter of stuck crossings saturates, and the entry of class CROSSING is the only other change. -/
theorem execCrossingStuck_spec (s : State) (k : CrossIx) (p : s.hub.sys.powered = true) :
    ∃ t, exec (.crossingStuck k) s = .next t ∧
      t.hub.fld Addr.CLK_CROSS_STUCK_CNT 0 16 = min (s.hub.fld Addr.CLK_CROSS_STUCK_CNT 0 16 + 1) 65535 ∧ logged 3 s t ∧
      onlyRegsLog (fun a => a == Addr.CLK_CROSS_STUCK_CNT) s t := by
  let h := s.hub.incSat Addr.CLK_CROSS_STUCK_CNT 0 16 1
  have same := h.report_same s.raw.toNat 3 0 belfry (wd k) (by decide)
  refine ⟨_, State.onHub_powered s (fun r h => crossingStuck r k h) p, ?count, ?entry, ?frame, fun a ha => ?others⟩
  case count =>
    change bitsOf (h.report _ 3 0 belfry (wd k) |>.rd _) 0 16 = _
    have put : h.rd Addr.CLK_CROSS_STUCK_CNT = _ := Hub.rd_wr_same ..
    rw [same.1 _ (by decide), put, bitsOf_putBits_same _ _ _ _ (by decide)]
    omega
  case entry =>
    refine (h.report_class s.raw.toNat 3 0 belfry (wd k) (by decide)).trans ?_
    rw [Hub.rd_incSat_other _ _ _ _ _ _ (by decide)]
  case frame => exact congrArg (fun g => { s with hub := g }) same.2
  case others =>
    obtain ⟨hc, hl⟩ : a ≠ Addr.CLK_CROSS_STUCK_CNT ∧ inLog a = false := by simpa using ha
    exact (same.1 a hl).trans (Hub.rd_incSat_other _ _ _ _ _ _ hc)

/-- A read that a bridge abandons is logged in class BRIDGE_TIMEOUT and kept; nothing else changes. -/
theorem Hub.abandonRead_spec (h : Hub) (r m a : Nat) :
    (h.abandonRead r m a).rd (Addr.ELOG_CLASS_CNT 2) = h.rd (Addr.ELOG_CLASS_CNT 2) + 1#32 ∧
    (∀ b, inLog b = false → (h.abandonRead r m a).rd b = h.rd b) ∧
    (h.abandonRead r m a).ctl.abandoned = h.ctl.abandoned ++ [(m, a)] ∧ (h.abandonRead r m a).dome = h.dome := by
  have same := h.report_same r 2 ETIME m (wd a) (by decide)
  refine ⟨h.report_class r 2 ETIME m (wd a) (by decide), same.1, ?_, same.dome⟩
  change (h.report r 2 ETIME m (wd a)).ctl.abandoned ++ [(m, a)] = _
  rw [same.2]

/-- A held read of UPLINK or JTAG reads 0. -/
theorem execBridgeTimeout_spec (s : State) (m : MasterIx) (a : Word) (p : s.hub.sys.powered = true)
    (who : m.val = 6 ∨ m.val = 8) :
    ∃ t, exec (.bridgeTimeout m a) s = .next t ∧ SMap.get 0#32 t.hub.ctl.readData m = 0#32 ∧
      t.hub.ctl.abandoned = s.hub.ctl.abandoned ++ [(m.val, a.toNat)] ∧ logged 2 s t ∧ regsKept inLog s t ∧
      t.hub.dome = s.hub.dome := by
  obtain ⟨entry, regs, kept, dome⟩ := s.hub.abandonRead_spec s.raw.toNat m a.toNat
  have notSpi : ¬ m.val = spi := by rcases who with e | e <;> rw [e] <;> decide
  have bridge : (decide (m.val = uplink) || decide (m.val = jtag)) = true := by
    rwa [Bool.or_eq_true, decide_eq_true_eq, decide_eq_true_eq]
  refine ⟨_, State.onHub_powered s (fun r h => bridgeTimeout r m a.toNat h) p, ?_⟩
  simp only [bridgeTimeout, if_neg notSpi, if_pos bridge]
  generalize s.hub.abandonRead s.raw.toNat m a.toNat = g at *
  exact ⟨SMap.get_put_same .., kept, entry, regs, dome⟩

/-- A held READ of the SPI port ends it with ETIME and the value 0. -/
theorem execBridgeTimeout_spi_spec (s : State) (a : Word) (p : s.hub.sys.powered = true) (busy : s.hub.ctl.spi.busy = true) :
    ∃ t, exec (.bridgeTimeout 5 a) s = .next t ∧ t.hub.ctl.spi.busy = false ∧ t.hub.ctl.spi.rdy = true ∧
      t.hub.ctl.spi.result = 0#32 ∧ t.hub.ctl.spi.status = ETIME ∧
      t.hub.ctl.abandoned = s.hub.ctl.abandoned ++ [(5, s.hub.ctl.spi.addr)] ∧ logged 2 s t ∧ regsKept inLog s t ∧
      t.hub.dome = s.hub.dome := by
  obtain ⟨entry, regs, kept, dome⟩ := s.hub.abandonRead_spec s.raw.toNat 5 s.hub.ctl.spi.addr
  refine ⟨_, State.onHub_powered s (fun r h => bridgeTimeout r 5 a.toNat h) p, ?_⟩
  simp only [bridgeTimeout, if_pos busy]
  generalize s.hub.abandonRead s.raw.toNat 5 s.hub.ctl.spi.addr = g at *
  exact ⟨rfl, rfl, rfl, rfl, kept, entry, regs, dome⟩

/-! ### Abandoned reads (R30, R389) -/

/-- The registers at which a read of a lock lies are the rows of LOCK. -/
theorem regRef_lock (l : LockIx) : ∃ x, regRef (Addr.LOCK l) = some x ∧ x.row.base = Addr.LOCK 0 ∧ x.i = l := by
  have listed : ∀ l : LockIx,
      (regRef (Addr.LOCK l)).map (fun x => (x.row.base, x.i)) = some (Addr.LOCK 0, l.val) := by decide
  obtain ⟨x, hx, e⟩ := Option.map_eq_some_iff.mp (listed l)
  exact ⟨x, hx, congrArg Prod.fst e, congrArg Prod.snd e⟩

/-- A register of another row than LOCK does not lie among the locks. -/
theorem not_among_locks {a : Nat} {x : RegRef} (e : regRef a = some x) (lk : x.row.base ≠ Addr.LOCK 0) (al : a % 4 = 0) :
    (decide (Addr.LOCK 0 ≤ a) && decide (a < Addr.LOCK 32)) = false := by
  by_contra inside
  obtain ⟨lo, hi⟩ : Addr.LOCK 0 ≤ a ∧ a < Addr.LOCK 32 := by simpa using inside
  have l32 : (a - Addr.LOCK 0) / 4 < 32 := by simp only [Addr.LOCK] at *; omega
  have ea : a = Addr.LOCK (⟨(a - Addr.LOCK 0) / 4, l32⟩ : LockIx) := by simp only [Addr.LOCK] at *; omega
  obtain ⟨y, hy, base, -⟩ := regRef_lock ⟨(a - Addr.LOCK 0) / 4, l32⟩
  rw [← ea, e] at hy
  exact lk (Option.some.inj hy ▸ base)

/-- The oldest abandoned read no longer waits. -/
def Hub.dropAbandoned (h : Hub) (rest : List (Nat × Nat)) : Hub := { h with ctl.abandoned := rest }

/-- A permitted abandoned read of a register takes effect, and a lock it acquired is released (R30, R389). -/
theorem abandonedReadComplete_register (h : Hub) (r m a : Nat) (rest : List (Nat × Nat))
    (first : h.ctl.abandoned = (m, a) :: rest) (ok : h.accessOk m false a 4 = true) (d : domeSize ≤ a) :
    abandonedReadComplete r h =
      (let q := (h.dropAbandoned rest).registerRead r m a
       if decide (Addr.LOCK 0 ≤ a) && decide (a < Addr.LOCK 32) && decide (q.1 = 0#32)
       then q.2.lockBreak r m ((a - Addr.LOCK 0) / 4) else q.2) := by
  have ok' : (h.dropAbandoned rest).accessOk m false a 4 = true := ok
  simp only [abandonedReadComplete, first]
  rw [if_neg]
  · rfl
  · change ¬ ((!(h.dropAbandoned rest).accessOk m false a 4 || decide (a < domeSize)) = true)
    simp [ok', Nat.not_lt.mpr d]

/-- An abandoned read of a free lock acquires it for a moment: it is free again, and the release is logged. -/
theorem execAbandonedReadComplete_lock_spec (s : State) (m : MasterIx) (l : LockIx) (rest : List (Nat × Nat))
    (p : s.hub.sys.powered = true) (first : s.hub.ctl.abandoned = (m.val, Addr.LOCK l) :: rest)
    (ok : s.hub.accessOk m false (Addr.LOCK l) 4 = true) (free : s.hub.lockHeld l = false) :
    ∃ t, exec .abandonedReadComplete s = .next t ∧ t.hub.lockHeld l = false ∧ t.hub.ctl.abandoned = rest ∧
      t.hub.ctl.readData = s.hub.ctl.readData ∧ t.hub.dome = s.hub.dome ∧
      regsKept (fun a => a == Addr.LOCK_PEEK l || inLog a) s t := by
  obtain ⟨x, hx, base, ix⟩ := regRef_lock l
  have apart : Addr.LOCK 0 ≠ Addr.MB_DATA 0 := by decide
  let h := s.hub.dropAbandoned rest
  have taken : h.registerRead s.raw.toNat m (Addr.LOCK l) = (0#32, h.wr (Addr.LOCK_PEEK l) (wd (2 ^ 31 + m))) := by
    have unheld : h.lockHeld l = false := free
    simp [Hub.registerRead, hx, base, apart, ix, Hub.lockRead, unheld]
  have among : (decide (Addr.LOCK 0 ≤ Addr.LOCK l) && decide (Addr.LOCK l < Addr.LOCK 32)) = true := by
    rw [Bool.and_eq_true, decide_eq_true_eq, decide_eq_true_eq]
    simp only [Addr.LOCK]
    omega
  have index : (Addr.LOCK l - Addr.LOCK 0) / 4 = l := by simp only [Addr.LOCK]; omega
  let g := (h.wr (Addr.LOCK_PEEK l) (wd (2 ^ 31 + m))).lockFree l
  have done : abandonedReadComplete s.raw.toNat s.hub = g.report s.raw.toNat 5 0 m (wd (l + 256 * 255)) := by
    rw [abandonedReadComplete_register _ _ _ _ _ first ok (by simp only [domeSize, Addr.LOCK]; omega)]
    change (if (_ && decide ((h.registerRead s.raw.toNat m (Addr.LOCK l)).1 = 0#32)) = true
      then (h.registerRead s.raw.toNat m (Addr.LOCK l)).2.lockBreak _ _ _ else _) = _
    rw [among, taken, index]
    rfl
  have same := g.report_same s.raw.toNat 5 0 m (wd (l + 256 * 255)) (by decide)
  have notLog : inLog (Addr.LOCK_PEEK l) = false := by
    rw [inLog, Bool.and_eq_false_iff, decide_eq_false_iff_not, decide_eq_false_iff_not]
    simp only [Addr.LOCK_PEEK]
    omega
  have cleared : g.rd (Addr.LOCK_PEEK l) = 0#32 := Hub.rd_wr_same ..
  refine ⟨_, s.onHub_eq (fun r h => abandonedReadComplete r h) p done, ?_⟩
  generalize hg : g.report s.raw.toNat 5 0 m (wd (l + 256 * 255)) = g' at *
  refine ⟨?freed, ?gone, ?data, same.dome, fun a ha => ?others⟩
  case freed =>
    change (g'.rd (Addr.LOCK_PEEK l)).getLsbD 31 = false
    rw [same.1 _ notLog, cleared]
    rfl
  case gone => rw [same.2]; rfl
  case data => rw [same.2]; rfl
  case others =>
    obtain ⟨hc, hl⟩ : a ≠ Addr.LOCK_PEEK l ∧ inLog a = false := by simpa using ha
    exact (same.1 a hl).trans ((Hub.rd_wr_other _ _ _ _ hc).trans (Hub.rd_wr_other _ _ _ _ hc))

/-- An abandoned read of a register with RC fields clears them, and its data reaches no master (R30). -/
theorem execAbandonedReadComplete_rc_spec (s : State) (m : MasterIx) (a : Nat) (x : RegRef) (rest : List (Nat × Nat))
    (p : s.hub.sys.powered = true) (first : s.hub.ctl.abandoned = (m.val, a) :: rest) (d : domeSize ≤ a)
    (ok : s.hub.accessOk m false a 4 = true) (hx : regRef a = some x) (rc : x.row.rc ≠ 0#32)
    (mb : x.row.base ≠ Addr.MB_DATA 0) (lk : x.row.base ≠ Addr.LOCK 0) (tn : x.row.base ≠ Addr.TIME_NOW0)
    (tr : x.row.base ≠ Addr.TRIG_IN_TS0 0) (bl : x.row.base ≠ Addr.TUR_BACKLOG_MAX 0) :
    ∃ t, exec .abandonedReadComplete s = .next t ∧ t.hub.rd a = s.hub.rd a &&& ~~~x.row.rc ∧
      t = { s with hub := { s.hub with regs := t.hub.regs, ctl.abandoned := rest } } ∧ regsKept (fun b => b == a) s t := by
  obtain ⟨-, aligned, -⟩ := Hub.accessOk_register ok d
  have noLock := not_among_locks hx lk aligned
  have done : abandonedReadComplete s.raw.toNat s.hub =
      (s.hub.dropAbandoned rest).wr a (s.hub.rd a &&& ~~~x.row.rc) := by
    rw [abandonedReadComplete_register _ _ _ _ _ first ok d, Hub.registerRead_rc _ _ _ _ x hx rc mb lk tn tr bl]
    simp only [noLock, Bool.false_and, Bool.false_eq_true, if_false]
    rfl
  refine ⟨_, s.onHub_eq (fun r h => abandonedReadComplete r h) p done, ?_⟩
  exact ⟨Hub.rd_wr_same .., rfl, fun b hb => Hub.rd_wr_other _ _ _ _ (by simpa using hb)⟩

/-! ### Toggle crossings (R32) -/

/-- A key filtered out of a table is not found, and the others are found as before. -/
theorem SMap.find_filter_ne {α : Type} (m : SMap α) (k j : Nat) :
    SMap.find (m.filter fun p => p.1 ≠ k) j = if j = k then none else SMap.find m j := by
  induction m with
  | nil => simp [SMap.find]
  | cons p t ih =>
    obtain ⟨i, v⟩ := p
    by_cases hik : i = k
    · rw [List.filter_cons_of_neg (by simp [hik]), ih]
      by_cases hj : j = k
      · simp [hj]
      · simp [SMap.find, hj, hik]
    · rw [List.filter_cons_of_pos (by simp [hik])]
      simp only [SMap.find, ih]
      by_cases hji : j = i
      · simp [hji, hik]
      · simp [hji]

/-- With no event merged the acknowledge phase ends, and nothing is delivered. -/
theorem execToggleAckComplete_alone_spec (s : State) (c : CtxIx) (p : s.hub.sys.powered = true)
    (alone : SMap.find s.hub.ctl.toggles c = some false) :
    ∃ t, exec (.toggleAckComplete c) s = .next t ∧ SMap.find t.hub.ctl.toggles c = none ∧
      t = { s with hub := { s.hub with ctl.toggles := t.hub.ctl.toggles } } ∧
      ∀ d, d ≠ c.val → SMap.find t.hub.ctl.toggles d = SMap.find s.hub.ctl.toggles d := by
  have done : toggleAckComplete s.raw.toNat c s.hub =
      { s.hub with ctl.toggles := s.hub.ctl.toggles.filter fun p => p.1 ≠ c } := by simp only [toggleAckComplete, alone]
  refine ⟨_, s.onHub_eq (fun r h => toggleAckComplete r c h) p done, ?_⟩
  exact ⟨(SMap.find_filter_ne ..).trans (if_pos rfl), rfl, fun d hd => (SMap.find_filter_ne ..).trans (if_neg hd)⟩

/-- Two hubs that differ at most in registers and in the waiting copies of Selail. -/
def sameButCopies (h h' : Hub) : Prop := h' = { h with regs := h'.regs, sel.copies := h'.sel.copies }

theorem sameButCopies.trans {h h' h'' : Hub} (p : sameButCopies h h') (q : sameButCopies h' h'') : sameButCopies h h'' := by
  unfold sameButCopies at *
  rw [q, p]

theorem sameButCopies.forIn' {β : Type} (l : List β) (f : β → Hub → Hub) (hf : ∀ b h, sameButCopies h (f b h)) (h : Hub) :
    sameButCopies h (Machine.forIn' l f h) :=
  forIn'_keeps (sameButCopies h) f (fun b g q => q.trans (hf b g)) l h rfl

/-- A waiting copy is written into registers of its context, and no longer waits. -/
theorem Hub.applyCopy_same (h : Hub) (c : Nat) : sameButCopies h (h.applyCopy c) := by
  unfold Hub.applyCopy
  split
  · rfl
  · next k _ =>
    refine .trans (.trans (.trans (h' := { h with sel.copies := h.sel.copies.filter fun p => p.1 ≠ c }) rfl
      (.forIn' k.g _ (fun b g => ?_) _)) (.forIn' k.w _ (fun b g => ?_) _)) (.forIn' k.q _ (fun b g => ?_) _)
    all_goals split <;> rfl

/-- An activation started: the context is READY with no slots used, and outside registers and copies nothing else differs. -/
theorem Hub.startAct_same (h : Hub) (c : Nat) :
    (h.startAct c).ctl = h.ctl ∧ (h.startAct c).ctx c = { h.ctx c with st := .ready, slots := 0, stalled := false } := by
  have copied := h.applyCopy_same c
  generalize hg : h.applyCopy c = g at copied
  simp only [Hub.startAct, hg]
  rw [copied]
  exact ⟨rfl, (Hub.ctx_setCtx ..).trans (if_pos rfl)⟩

/-- An activation leaves the control plane and the context's pacing, and makes a waiting context READY. -/
theorem Hub.activate_same (h : Hub) (c : Nat) :
    (h.activate c).ctl = h.ctl ∧ ((h.activate c).ctx c).paced = (h.ctx c).paced ∧
    ((h.activate c).ctx c).lastAct = (h.ctx c).lastAct ∧ ((h.ctx c).st = .wait → ((h.activate c).ctx c).st = .ready) := by
  unfold Hub.activate
  split
  · obtain ⟨ctl, ctx⟩ := h.startAct_same c
    simp [ctl, ctx]
  · next e =>
    split <;> exact ⟨rfl, rfl, rfl, fun w => absurd w (by simp [e])⟩
  · next nw _ => exact ⟨rfl, rfl, rfl, fun w => absurd w nw⟩

/-- An activation that comes in its pacing interval is kept pending, and no register moves (R214). -/
theorem Hub.paceAct_early (h : Hub) (r c : Nat) (early : h.paceOver r c = false) :
    h.paceAct r c = h.modCtx c fun x => { x with paced := true } := by simp [Hub.paceAct, early]

/-- An activation that comes after its pacing interval is taken, and begins the next interval (R214). -/
theorem Hub.paceAct_over (h : Hub) (r c : Nat) (elapsed : h.paceOver r c = true) :
    (h.paceAct r c).ctl = h.ctl ∧ ((h.paceAct r c).ctx c).paced = false ∧
    ((h.paceAct r c).ctx c).lastAct = some (h.timeAt r) ∧ ((h.ctx c).st = .wait → ((h.paceAct r c).ctx c).st = .ready) := by
  have noted : (h.modCtx c fun x => { x with lastAct := some (h.timeAt r), paced := false }).ctx c = _ :=
    (Hub.ctx_setCtx ..).trans (if_pos rfl)
  obtain ⟨ctl, paced, last, st⟩ := (h.modCtx c fun x => { x with lastAct := some (h.timeAt r), paced := false }).activate_same c
  rw [noted] at paced last st
  rw [Hub.paceAct, if_pos elapsed]
  exact ⟨ctl, paced, last, st⟩

/-- Of the merged events exactly one is delivered: its acknowledge phase begins, and the context takes it as an activation
or keeps it pending (R32, R214). -/
theorem execToggleAckComplete_merged_spec (s : State) (c : CtxIx) (p : s.hub.sys.powered = true)
    (merged : SMap.find s.hub.ctl.toggles c = some true) :
    ∃ t, exec (.toggleAckComplete c) s = .next t ∧ SMap.find t.hub.ctl.toggles c = some false ∧
      (if s.hub.paceOver s.raw.toNat c then
        (t.hub.ctx c).paced = false ∧ (t.hub.ctx c).lastAct = some (s.hub.timeAt s.raw.toNat) ∧
        ((s.hub.ctx c).st = .wait → (t.hub.ctx c).st = .ready)
      else (t.hub.ctx c).paced = true ∧ t.hub.regs = s.hub.regs) ∧
      t.hub.dome = s.hub.dome ∧ t.raw = s.raw := by
  let h : Hub := { s.hub with ctl.toggles := SMap.put s.hub.ctl.toggles c false }
  have done : toggleAckComplete s.raw.toNat c s.hub = h.paceAct s.raw.toNat c := by simp only [toggleAckComplete, merged, h]
  have begun : SMap.find h.ctl.toggles c = some false := (SMap.find_put ..).trans (if_pos rfl)
  have dome : (h.paceAct s.raw.toNat c).dome = s.hub.dome := h.paceAct_dome ..
  refine ⟨_, s.onHub_eq (fun r h => toggleAckComplete r c h) p done, ?_⟩
  by_cases elapsed : s.hub.paceOver s.raw.toNat c = true
  · obtain ⟨ctl, paced, last, st⟩ := h.paceAct_over s.raw.toNat c elapsed
    rw [if_pos elapsed]
    exact ⟨by rw [ctl]; exact begun, ⟨paced, last, st⟩, dome, rfl⟩
  · have early := h.paceAct_early s.raw.toNat c (Bool.eq_false_iff.mpr elapsed)
    rw [if_neg elapsed]
    refine ⟨?_, ⟨?_, ?_⟩, dome, rfl⟩
    all_goals rw [early]
    · exact begun
    · exact congrArg Ctx.paced ((Hub.ctx_setCtx ..).trans (if_pos rfl))
    · rfl

/-- Settles O16: each of the four commands is one function of the hub, and what it logs, keeps or delivers is the row's own. -/
theorem crossingsAndHeldReads : Obligations.CrossingsAndHeldReads :=
  ⟨execCrossingStuck_spec, execBridgeTimeout_spec, execBridgeTimeout_spi_spec, execAbandonedReadComplete_lock_spec,
    execAbandonedReadComplete_rc_spec, execToggleAckComplete_alone_spec, execToggleAckComplete_merged_spec⟩

end Sys2Proof.Machine

/-!
SUPPORT. The memory and stream instructions of Amixel (R36, R37, R219 to R222, R237 to R241): what the Ledger's functions, a halt
and a fault of a context leave alone, the count of an issued instruction, and then each instruction and completion.
-/

namespace Sys2Proof.Machine

open Sys2Proof.Safety

/-! ### The Ledger's own state (R292 to R302) -/

/-- Two hubs that differ at most in the Ledger: its registers, streams, queues, elements on the way, and the Dome. -/
def sameButLedger (h h' : Hub) : Prop :=
  (∀ a, inLedger a = false → h'.rd a = h.rd a) ∧
    h' = { h with regs := h'.regs, dome := h'.dome, badParity := h'.badParity, led := h'.led, queues := h'.queues,
                  streams := h'.streams }

theorem sameButLedger.refl (h : Hub) : sameButLedger h h := ⟨fun _ _ => rfl, rfl⟩

theorem sameButLedger.trans {h h' h'' : Hub} (p : sameButLedger h h') (q : sameButLedger h' h'') : sameButLedger h h'' := by
  refine ⟨fun a ha => (q.1 a ha).trans (p.1 a ha), ?_⟩
  rw [q.2, p.2]

theorem sameButLedger.ctx {h h' : Hub} (p : sameButLedger h h') (c : Nat) : h'.ctx c = h.ctx c := by
  rw [p.2]; rfl

theorem sameButLedger.forIn' {β : Type} (l : List β) (f : β → Hub → Hub) (hf : ∀ b g, sameButLedger g (f b g)) (h : Hub) :
    sameButLedger h (Machine.forIn' l f h) :=
  forIn'_keeps (sameButLedger h) f (fun b g q => q.trans (hf b g)) l h (.refl h)

theorem sameButLedger.wr (h : Hub) (a : Nat) (v : Word) (la : inLedger a = true) : sameButLedger h (h.wr a v) := by
  refine ⟨fun b hb => Hub.rd_wr_other _ _ _ _ fun e => ?_, rfl⟩
  rw [e, la] at hb
  cases hb

theorem sameButLedger.domeBytes (h : Hub) (a : Nat) (l : List Byte) : sameButLedger h (h.domeBytes a l) := by
  have frame := Hub.domeBytes_frame l h a
  refine ⟨fun b _ => ?_, ?_⟩
  · rw [frame]; rfl
  · rw [frame]

/-- Two hubs that differ in the Ledger, but not in what its streams hold open. -/
def sameButQueues (h h' : Hub) : Prop := sameButLedger h h' ∧ ∀ s, (h'.stream s).opn = (h.stream s).opn

theorem sameButQueues.refl (h : Hub) : sameButQueues h h := ⟨.refl h, fun _ => rfl⟩

theorem sameButQueues.trans {h h' h'' : Hub} (p : sameButQueues h h') (q : sameButQueues h' h'') : sameButQueues h h'' :=
  ⟨p.1.trans q.1, fun s => (q.2 s).trans (p.2 s)⟩

theorem sameButQueues.forIn' {β : Type} (l : List β) (f : β → Hub → Hub) (hf : ∀ b g, sameButQueues g (f b g)) (h : Hub) :
    sameButQueues h (Machine.forIn' l f h) :=
  forIn'_keeps (sameButQueues h) f (fun b g q => q.trans (hf b g)) l h (.refl h)

theorem sameButQueues.wr (h : Hub) (a : Nat) (v : Word) (la : inLedger a = true) : sameButQueues h (h.wr a v) :=
  ⟨.wr h a v la, fun _ => rfl⟩

theorem sameButQueues.setQueue (h : Hub) (q : Nat) (x : Queue) : sameButQueues h (h.setQueue q x) :=
  ⟨⟨fun _ _ => rfl, rfl⟩, fun _ => rfl⟩

theorem sameButQueues.modStream (h : Hub) (s : Nat) (f : Stream → Stream) (hf : ∀ x, (f x).opn = x.opn) :
    sameButQueues h (h.modStream s f) := by
  refine ⟨⟨fun _ _ => rfl, rfl⟩, fun k => ?_⟩
  rw [Hub.modStream, Hub.stream_setStream]
  split
  · next e => rw [hf, e]
  · rfl

theorem sameButQueues.domeBytes (h : Hub) (a : Nat) (l : List Byte) : sameButQueues h (h.domeBytes a l) := by
  refine ⟨.domeBytes h a l, fun s => ?_⟩
  rw [Hub.domeBytes_frame]
  rfl

/-- The registers of a queue lie in the Ledger's block. -/
theorem inLedger_queue {q o : Nat} (hq : q < 64) (ho : o < 0x40) : inLedger (0x45001000 + o + 0x40 * q) = true := by
  rw [inLedger, Bool.and_eq_true, decide_eq_true_eq, decide_eq_true_eq]
  omega

theorem Hub.journalBytes_same (h : Hub) (q : Nat) (p : Packet) : sameButQueues h (h.journalBytes q p) :=
  (sameButQueues.domeBytes _ _ _).trans (.domeBytes _ _ _)

theorem Hub.journalAppend_same (h : Hub) (q : Nat) (p : Packet) (hq : q < 64) : sameButQueues h (h.journalAppend q p) := by
  have wrote : inLedger (Addr.LED_Q_WR q) = true := inLedger_queue (o := 0x8) hq (by decide)
  have filled : inLedger (Addr.LED_Q_FILL_MAX q) = true := inLedger_queue (o := 0x20) hq (by decide)
  unfold Hub.journalAppend
  extract_lets p h1 x h2 h3 h4
  have s1 : sameButQueues h h1 := h.journalBytes_same q p
  have s3 : sameButQueues h h3 := (s1.trans (.setQueue h1 _ _)).trans (.wr h2 _ _ wrote)
  have s4 : sameButQueues h h4 := by
    simp only [h4]
    split
    · exact s3.trans (.wr _ _ _ filled)
    · exact s3
  exact s4.trans (.modStream _ _ _ fun _ => rfl)

theorem Hub.release_same (q : Nat) : ∀ (fuel : Nat) (h : Hub), sameButQueues h (h.release q fuel)
  | 0, h => .refl h
  | fuel + 1, h => by
    unfold Hub.release
    split
    · split
      · exact (sameButQueues.setQueue _ _ _).trans (Hub.release_same q fuel _)
      · exact .refl h
    · exact .refl h

theorem Hub.evictOne_same (h : Hub) (q : Nat) (hq : q < 64) : sameButQueues h (h.evictOne q) :=
  (((sameButQueues.setQueue _ _ _).trans (.wr _ _ _ (inLedger_queue (o := 0x1C) hq (by decide)))).trans
    (.wr _ _ _ (inLedger_queue (o := 0x14) hq (by decide)))).trans (Hub.release_same _ _ _)

theorem Hub.evictFor_same (t q need : Nat) (hq : q < 64) : ∀ (fuel : Nat) (ls : List LostRange) (h : Hub),
    sameButQueues h (h.evictFor t q need fuel ls).1
  | 0, ls, h => .refl h
  | fuel + 1, ls, h => by
    unfold Hub.evictFor
    extract_lets gaps
    split
    · exact .refl h
    · split
      · exact .refl h
      · exact (h.evictOne_same q hq).trans (Hub.evictFor_same t q need hq fuel _ _)

theorem Hub.evictGap_same (h : Hub) (q : Nat) (r : LostRange) (hq : q < 64) : sameButQueues h (Hub.evictGap q r h) := by
  unfold Hub.evictGap
  split
  · split
    · exact (sameButQueues.setQueue _ _ _).trans (Hub.journalBytes_same _ _ _)
    · exact .refl h
  · exact (h.journalAppend_same q _ hq).trans (.wr _ _ _ (by decide))

theorem Hub.journalWrite_same (h : Hub) (t q : Nat) (p : Packet) (hq : q < 64) : sameButQueues h (h.journalWrite t q p) := by
  unfold Hub.journalWrite
  extract_lets h1
  have s2 : sameButQueues h (h1.evictFor t q p.len8 ((h1.queue q).pkts.length + 1) []).1 :=
    (h.release_same q _).trans (Hub.evictFor_same t q _ hq _ _ _)
  generalize h1.evictFor t q p.len8 ((h1.queue q).pkts.length + 1) [] = x at s2 ⊢
  obtain ⟨h2, lost⟩ := x
  have s3 : sameButQueues h (forIn' lost (Hub.evictGap q) h2) :=
    s2.trans (.forIn' lost _ (fun r g => g.evictGap_same q r hq) h2)
  dsimp only
  split
  · exact (s3.trans (Hub.journalAppend_same _ _ _ hq)).trans (Hub.release_same _ _ _)
  · exact s3

theorem Hub.streamQueue_lt (h : Hub) (s : Nat) : h.streamQueue s < 64 := Nat.mod_lt _ (by decide)

theorem sameButLedger.modStream (h : Hub) (s : Nat) (f : Stream → Stream) : sameButLedger h (h.modStream s f) :=
  ⟨fun _ _ => rfl, rfl⟩

/-- A sealed stream holds no packet open, and the others hold theirs. -/
theorem Hub.seal_same (h : Hub) (t s : Nat) : sameButLedger h (h.seal t s) ∧ ((h.seal t s).stream s).opn = none := by
  unfold Hub.seal
  split
  · next e => exact ⟨.refl h, e⟩
  · obtain ⟨same, opn⟩ := Hub.journalWrite_same (h.modStream s fun t => { t with opn := none, first := false }) t
      (Hub.streamQueue (h.modStream s fun t => { t with opn := none, first := false }) s) _ (Hub.streamQueue_lt _ s)
    refine ⟨(sameButLedger.modStream h s _).trans same, (opn s).trans ?_⟩
    rw [Hub.modStream, Hub.stream_setStream, if_pos rfl]

theorem Hub.gapWrite_same (h : Hub) (t s a b u v k : Nat) : sameButLedger h (h.gapWrite t s a b u v k) :=
  ((sameButLedger.modStream h s _).trans (Hub.journalWrite_same _ _ _ _ (Hub.streamQueue_lt _ s)).1).trans
    (.wr _ _ _ (by decide))

theorem Hub.declareGaps_same (h : Hub) (t s e p hi : Nat) (gaps : List (Nat × Nat × Nat)) :
    sameButLedger h (h.declareGaps t s e p hi gaps) := by
  refine .forIn' _ _ (fun g h => ?_) h
  extract_lets a b h1
  have s1 : sameButLedger h h1 := (h.seal_same t s).1.trans (.modStream _ _ _)
  split
  · exact (s1.trans (Hub.gapWrite_same ..)).trans (.modStream _ _ _)
  · exact .refl h

theorem Hub.placeOne_same (h : Hub) (t : Nat) (e : LedElem) : sameButLedger h (h.placeOne t e) := by
  unfold Hub.placeOne
  extract_lets st seq h1 st1 must h2 st2 p p2
  have s1 : sameButLedger h h1 := h.declareGaps_same ..
  have s2 : sameButLedger h h2 := by
    simp only [h2]
    split
    · exact s1.trans (h1.seal_same _ _).1
    · exact s1
  exact s2.trans (.modStream _ _ _)

theorem Hub.placeBytes_same (t : Nat) (e : LedElem) : ∀ (fuel : Nat) (bytes : List Byte) (start : Bool) (h : Hub),
    sameButLedger h (h.placeBytes t e fuel bytes start)
  | 0, _, _, h => .refl h
  | fuel + 1, bytes, start, h => by
    unfold Hub.placeBytes
    extract_lets st seq h1 st1 p n rest caps p2 h2
    have s1 : sameButLedger h h1 := by
      simp only [h1]
      split
      · split
        · exact (h.seal_same _ _).1
        · exact .refl h
      · exact .refl h
    have s2 : sameButLedger h h2 := s1.trans (.modStream _ _ _)
    split
    · split
      · exact s2.trans (h2.seal_same _ _).1
      · exact s2
    · exact s2.trans (Hub.placeBytes_same t e fuel _ _ h2)

theorem Hub.placeElem_same (h : Hub) (t : Nat) (e : LedElem) : sameButLedger h (h.placeElem t e) := by
  have placed := Hub.placeBytes_same t e (e.bytes.length + 2) e.bytes e.starts h
  have one := h.placeOne_same t e
  unfold Hub.placeElem
  split
  case h_1 | h_2 =>
    dsimp only
    split
    · exact .refl h
    · split
      · exact placed.trans (Hub.seal_same _ _ _).1
      · exact placed
  case h_3 =>
    split
    · exact one.trans (Hub.seal_same _ _ _).1
    · exact one
  case h_4 => exact one

theorem Hub.drainStream_same (h : Hub) (t s : Nat) : sameButLedger h (h.drainStream t s) :=
  .trans (h' := { h with led.inQ := h.led.inQ.filter (·.stream ≠ s) }) ⟨fun _ _ => rfl, rfl⟩
    (.forIn' _ _ (fun e g => g.placeElem_same t e) _)

/-- With nothing on its way a stream is drained already. -/
theorem Hub.drainStream_idle (h : Hub) (t s : Nat) (idle : ∀ e ∈ h.led.inQ, e.stream ≠ s) : h.drainStream t s = h := by
  have none : h.led.inQ.filter (·.stream = s) = [] := by simpa using idle
  have all : h.led.inQ.filter (·.stream ≠ s) = h.led.inQ := by simpa using idle
  rw [Hub.drainStream, none, all]
  rfl

/-! ### The error log's other classes (R391) -/

theorem ELOG_CLASS_CNT_inj {j k : Nat} (e : Addr.ELOG_CLASS_CNT j = Addr.ELOG_CLASS_CNT k) : j = k := by
  simp only [Addr.ELOG_CLASS_CNT] at e
  omega

/-- A report counts no class but its own (R391). -/
theorem Hub.report_otherClass (h : Hub) (r k j code master : Nat) (detail : Word) (jk : j ≠ k) (hj : j < 32) :
    (h.report r k code master detail).rd (Addr.ELOG_CLASS_CNT j) = h.rd (Addr.ELOG_CLASS_CNT j) := by
  have class_ : Addr.ELOG_CLASS_CNT j ≠ Addr.ELOG_CLASS_CNT k := fun e => jk (ELOG_CLASS_CNT_inj e)
  obtain ⟨first, detail_, time, lost⟩ : Addr.ELOG_CLASS_CNT j ≠ Addr.FIRST_ERR ∧
      Addr.ELOG_CLASS_CNT j ≠ Addr.FIRST_DETAIL ∧ Addr.FIRST_TIME 0 + 8 < Addr.ELOG_CLASS_CNT j ∧
      Addr.ELOG_CLASS_CNT j ≠ Addr.ELOG_LOST := by
    simp only [Addr.ELOG_CLASS_CNT, Addr.FIRST_ERR, Addr.FIRST_DETAIL, Addr.FIRST_TIME, Addr.ELOG_LOST]
    omega
  have overflow : Addr.ELOG_CLASS_CNT j ≠ Addr.ELOG_OVF_CNT k := by
    simp only [Addr.ELOG_CLASS_CNT, Addr.ELOG_OVF_CNT]
    omega
  have counted : (h.logCount (h.timeAt r) k code master detail).rd (Addr.ELOG_CLASS_CNT j) = h.rd (Addr.ELOG_CLASS_CNT j) := by
    have only := h.rd_incWrap_other (Addr.ELOG_CLASS_CNT k) 0 32 1 _ class_
    unfold Hub.logCount
    dsimp only
    split
    · exact only
    · rw [Hub.rd_wrInst_other _ _ _ _ (.inr time), Hub.rd_wr_other _ _ _ _ detail_, Hub.rd_wr_other _ _ _ _ first, only]
  unfold Hub.report Hub.reportAt
  rcases Hub.logFile_cases (h.logCount (h.timeAt r) k code master detail)
    { cls := k, code := code, master := master, detail := detail, first := h.timeAt r, last := h.timeAt r } with ⟨l, e⟩ | e
  · rw [e]; exact counted
  · rw [e, Hub.rd_setBit, if_neg lost, Hub.rd_incSat_other _ _ _ _ _ _ overflow, counted]

/-! ### Halting (R215, R216, R222) -/

/-- Registers that the halt of context `c` moves: CTX_PEND, the locks it held, the Ledger's, and the error log's but for the
counts of the classes other than LOCK. -/
def haltReg (c a : Nat) : Bool :=
  a == Addr.CTX_PEND (c / 64) (c % 64) || lockReg a || inLedger a ||
    (inLog a && !(List.range 32).any fun k => k != 5 && a == Addr.ELOG_CLASS_CNT k)

theorem haltReg_false_iff (c a : Nat) : haltReg c a = false ↔
    a ≠ Addr.CTX_PEND (c / 64) (c % 64) ∧ lockReg a = false ∧ inLedger a = false ∧
      (inLog a = false ∨ ∃ k, k < 32 ∧ k ≠ 5 ∧ a = Addr.ELOG_CLASS_CNT k) := by
  cases e : inLog a <;> simp [haltReg, and_assoc, e]

/-- Two hubs that differ at most in what the halt of context `c` moves: of the context itself its slots and accesses stay. -/
structure SameButHalt (c : Nat) (h h' : Hub) : Prop where
  regs : ∀ a, haltReg c a = false → h'.rd a = h.rd a
  slots : (h'.ctx c).slots = (h.ctx c).slots
  acc : (h'.ctx c).acc = (h.ctx c).acc

theorem SameButHalt.refl (c : Nat) (h : Hub) : SameButHalt c h h := ⟨fun _ _ => rfl, rfl, rfl⟩

theorem SameButHalt.trans {c : Nat} {h h' h'' : Hub} (p : SameButHalt c h h') (q : SameButHalt c h' h'') : SameButHalt c h h'' :=
  ⟨fun a ha => (q.regs a ha).trans (p.regs a ha), q.slots.trans p.slots, q.acc.trans p.acc⟩

theorem SameButHalt.ledger {c : Nat} {h h' : Hub} (p : sameButLedger h h') : SameButHalt c h h' where
  regs a ha := p.1 a ((haltReg_false_iff c a).mp ha).2.2.1
  slots := by rw [p.ctx]
  acc := by rw [p.ctx]

theorem Hub.ctx_modCtx_same (h : Hub) (c : Nat) (f : Ctx → Ctx) : (h.modCtx c f).ctx c = f (h.ctx c) :=
  (Hub.ctx_setCtx ..).trans (if_pos rfl)

theorem Hub.ctx_modCtx_other (h : Hub) (c x : Nat) (f : Ctx → Ctx) (e : x ≠ c) : (h.modCtx c f).ctx x = h.ctx x :=
  (Hub.ctx_setCtx ..).trans (if_neg e)

theorem SameButHalt.modCtx (c : Nat) (h : Hub) (f : Ctx → Ctx) (slots : ∀ x, (f x).slots = x.slots)
    (acc : ∀ x, (f x).acc = x.acc) : SameButHalt c h (h.modCtx c f) :=
  ⟨fun _ _ => rfl, by rw [Hub.ctx_modCtx_same, slots], by rw [Hub.ctx_modCtx_same, acc]⟩

/-- Freeing a lock and logging it leaves the contexts, and of the registers all but the lock and the log's own. -/
theorem Hub.lockFree_report_same (h : Hub) (r l m : Nat) (detail : Word) (hl : l < 32) (c : Nat) :
    SameButHalt c h ((h.lockFree l).report r 5 0 m detail) ∧ ((h.lockFree l).report r 5 0 m detail).ctxs = h.ctxs := by
  have same := (h.lockFree l).report_same r 5 0 m detail (by decide)
  have ctxs : ((h.lockFree l).report r 5 0 m detail).ctxs = h.ctxs := by rw [same.2]; rfl
  refine ⟨⟨fun a ha => ?_, ?_, ?_⟩, ctxs⟩
  · obtain ⟨-, noLock, -, log⟩ := (haltReg_false_iff c a).mp ha
    have apart : a ≠ Addr.LOCK_PEEK l := by
      rintro rfl
      simp only [lockReg, List.any_eq_false, List.mem_range, beq_iff_eq] at noLock
      exact noLock l hl rfl
    refine Eq.trans ?_ (Hub.rd_wr_other _ _ _ _ apart : (h.lockFree l).rd a = h.rd a)
    rcases log with outside | ⟨k, hk, other, rfl⟩
    · exact same.1 a outside
    · exact Hub.report_otherClass _ _ _ _ _ _ _ other hk
  · rw [Hub.ctx, ctxs]; rfl
  · rw [Hub.ctx, ctxs]; rfl

/-- What every step of a loop over indices below `n` keeps, the loop keeps. -/
theorem forN_keeps_lt {α : Type} (P : α → Prop) (n : Nat) (f : Nat → α → α) (hf : ∀ i, i < n → ∀ a, P a → P (f i a))
    (a : α) (h : P a) : P (forN n f a) := by
  have run : ∀ (l : List Nat) (a : α), (∀ i ∈ l, i < n) → P a → P (l.foldl (fun a i => f i a) a) := by
    intro l
    induction l with
    | nil => exact fun _ _ h => h
    | cons i l ih =>
      exact fun a hl h => ih _ (fun j hj => hl j (List.mem_cons_of_mem i hj)) (hf i (hl i List.mem_cons_self) a h)
  exact run (List.range n) a (fun i hi => List.mem_range.mp hi) h

/-- A released context keeps its state; of the registers only locks and the log move (R254, R390). -/
theorem Hub.releaseLocks_same (h : Hub) (r c : Nat) :
    SameButHalt c h (h.releaseLocks r c) ∧ (h.releaseLocks r c).ctxs = h.ctxs := by
  refine forN_keeps_lt (fun g => SameButHalt c h g ∧ g.ctxs = h.ctxs) 32 _ (fun l hl g keeps => ?_) h ⟨.refl c h, rfl⟩
  split
  · obtain ⟨same, ctxs⟩ := g.lockFree_report_same r l (turretId (c / 64)) (wd (l + 256 * c)) hl c
    exact ⟨keeps.1.trans same, ctxs.trans keeps.2⟩
  · exact keeps

/-- Emptying buffers, and noting what they lost, touches neither slots nor accesses. -/
theorem Ctx.emptied_same (x : Ctx) (outs : List Nat) :
    (x.emptied outs).slots = x.slots ∧ (x.emptied outs).acc = x.acc ∧ (x.emptied outs).st = x.st := by
  have kept : ∀ (l : List (Nat × PortBuf)) (y : Ctx),
      (l.foldl (fun x b => x.keepLost outs b.1) y).slots = y.slots ∧
      (l.foldl (fun x b => x.keepLost outs b.1) y).acc = y.acc ∧
      (l.foldl (fun x b => x.keepLost outs b.1) y).st = y.st := by
    intro l
    induction l with
    | nil => exact fun y => ⟨rfl, rfl, rfl⟩
    | cons b l ih =>
      intro y
      have one : (y.keepLost outs b.1).slots = y.slots ∧ (y.keepLost outs b.1).acc = y.acc ∧
          (y.keepLost outs b.1).st = y.st := by
        unfold Ctx.keepLost
        dsimp only
        split <;> exact ⟨rfl, rfl, rfl⟩
      obtain ⟨slots, acc, st⟩ := ih (y.keepLost outs b.1)
      exact ⟨slots.trans one.1, acc.trans one.2.1, st.trans one.2.2⟩
  exact kept x.bufs x

theorem Hub.dropBacklog_same (h : Hub) (t c : Nat) : SameButHalt c h (h.dropBacklog t c) := by
  unfold Hub.dropBacklog
  split
  · exact .modCtx c h _ (fun _ => rfl) fun _ => rfl
  · exact .refl c h

theorem Hub.gateTurret_same (h : Hub) (t c : Nat) : SameButHalt c h (h.gateTurret t) ∧ (h.gateTurret t).ctxs = h.ctxs := by
  unfold Hub.gateTurret
  split <;> exact ⟨⟨fun _ _ => rfl, rfl, rfl⟩, rfl⟩

/-- A context that a stop has met ends in IDLE (R215, R418). -/
theorem Hub.ctxEnd_same (h : Hub) (r t c : Nat) : SameButHalt c h (h.ctxEnd r t c) ∧ ((h.ctxEnd r t c).ctx c).st = .idle := by
  unfold Hub.ctxEnd
  extract_lets now outs h1 h2
  have s1 : SameButHalt c h h1 ∧ (h1.ctx c).st = .idle := by
    refine ⟨(h.dropBacklog_same t c).trans (.modCtx c _ _ (fun x => (Ctx.emptied_same _ _).1)
      fun x => (Ctx.emptied_same _ _).2.1), ?_⟩
    rw [Hub.ctx_modCtx_same, (Ctx.emptied_same _ _).2.2]
  have s2 : SameButHalt c h h2 ∧ (h2.ctx c).st = .idle := by
    refine forIn'_keeps (fun g => SameButHalt c h g ∧ (g.ctx c).st = .idle) _ (fun p g keeps => ?_) outs h1 s1
    extract_lets o s hi g1
    have led : sameButLedger g (g1.seal now s) :=
      ((g.drainStream_same now s).trans (Hub.declareGaps_same ..)).trans (g1.seal_same now s).1
    refine ⟨(keeps.1.trans (.ledger led)).trans (.modCtx c _ _ (fun _ => rfl) fun _ => rfl), ?_⟩
    rw [Hub.ctx_modCtx_same, led.ctx]
    exact keeps.2
  have pend : SameButHalt c h2 (h2.wr (Addr.CTX_PEND (c / 64) (c % 64)) 0#32) :=
    ⟨fun a ha => Hub.rd_wr_other _ _ _ _ ((haltReg_false_iff c a).mp ha).1, rfl, rfl⟩
  obtain ⟨locks, ctxs⟩ := (h2.wr (Addr.CTX_PEND (c / 64) (c % 64)) 0#32).releaseLocks_same r c
  obtain ⟨gate, ctxs'⟩ := Hub.gateTurret_same ((h2.wr (Addr.CTX_PEND (c / 64) (c % 64)) 0#32).releaseLocks r c) (c / 64) c
  refine ⟨((s2.1.trans pend).trans locks).trans gate, ?_⟩
  rw [Hub.ctx, ctxs', ctxs]
  exact s2.2

/-- A context as it enters HALTED: its streams miss elements from instant `t` on (R215, R216). -/
def Ctx.entersHalted (outs : List Nat) (t : Nat) (x : Ctx) : Ctx :=
  { x with st := .halted, waitt := none, stalled := false }.openGaps outs t

/-- The hub whose context `c` has entered HALTED and lost its locks. -/
def Hub.entersHalted (h : Hub) (r c : Nat) : Hub :=
  (h.modCtx c (Ctx.entersHalted (h.outPorts c) (h.timeAt r))).releaseLocks r c

/-- Everything a halt can do: the context stays HALTED, or a stop has met it and it goes on to IDLE. -/
theorem Hub.haltCtx_cases (h : Hub) (r c : Nat) :
    (((h.entersHalted r c).ctx c).stopAt = none ∧ h.haltCtx r c = h.entersHalted r c) ∨
    ∃ t, ((h.entersHalted r c).ctx c).stopAt = some t ∧ h.haltCtx r c = (h.entersHalted r c).ctxEnd r t c := by
  unfold Hub.haltCtx
  extract_lets h1
  have entered : h1 = h.entersHalted r c := rfl
  rw [← entered]
  clear_value h1
  split
  · next t e => exact .inr ⟨t, e, rfl⟩
  · next e => exact .inl ⟨e, rfl⟩

theorem Hub.entersHalted_same (h : Hub) (r c : Nat) : SameButHalt c h (h.entersHalted r c) ∧
    (h.entersHalted r c).ctx c = (h.ctx c).entersHalted (h.outPorts c) (h.timeAt r) ∧ (h.entersHalted r c).dome = h.dome := by
  obtain ⟨locks, ctxs⟩ := (h.modCtx c (Ctx.entersHalted (h.outPorts c) (h.timeAt r))).releaseLocks_same r c
  refine ⟨(SameButHalt.modCtx c h (Ctx.entersHalted _ _) (fun _ => rfl) fun _ => rfl).trans locks, ?_,
    Hub.releaseLocks_dome ..⟩
  rw [Hub.ctx, Hub.entersHalted, ctxs]
  exact Hub.ctx_modCtx_same ..

/-- A halted context is HALTED, or in IDLE where a stop has met it; nothing but what a halt moves has changed (R215, R418). -/
theorem Hub.haltCtx_same (h : Hub) (r c : Nat) : SameButHalt c h (h.haltCtx r c) ∧
    ((h.haltCtx r c).ctx c).st = (if (h.ctx c).stopAt.isSome then .idle else .halted) ∧
    ((h.ctx c).stopAt = none → (h.haltCtx r c).dome = h.dome) := by
  obtain ⟨same, ctx, dome⟩ := h.entersHalted_same r c
  have stop : ((h.entersHalted r c).ctx c).stopAt = (h.ctx c).stopAt := by rw [ctx]; rfl
  have st : ((h.entersHalted r c).ctx c).st = .halted := by rw [ctx]; rfl
  rw [← stop]
  rcases h.haltCtx_cases r c with ⟨none, e⟩ | ⟨t, some, e⟩
  · rw [e, none]
    exact ⟨same, st, fun _ => dome⟩
  · obtain ⟨ended, idle⟩ := (h.entersHalted r c).ctxEnd_same r t c
    rw [e, some]
    exact ⟨same.trans ended, idle, nofun⟩

/-! ### Faults (R222) -/

/-- Registers that a fault of context `c` moves: those of its halt, its record, its predicates and its PC. -/
def faultReg (c a : Nat) : Bool :=
  haltReg c a || a == Addr.CTX_FAULT (c / 64) (c % 64) || a == Addr.CTX_FAULT_CNT (c / 64) (c % 64) ||
    a == Addr.CTX_STATUS (c / 64) (c % 64) || a == Addr.CTX_PC (c / 64) (c % 64) || a == Addr.ELOG_CLASS_CNT 20

theorem faultReg_false_iff (c a : Nat) : faultReg c a = false ↔ haltReg c a = false ∧
    a ≠ Addr.CTX_FAULT (c / 64) (c % 64) ∧ a ≠ Addr.CTX_FAULT_CNT (c / 64) (c % 64) ∧
    a ≠ Addr.CTX_STATUS (c / 64) (c % 64) ∧ a ≠ Addr.CTX_PC (c / 64) (c % 64) ∧ a ≠ Addr.ELOG_CLASS_CNT 20 := by
  simp [faultReg, and_assoc]

/-- What an instruction that faults with `code` at word `pc`, the policy deciding, makes of hub `h` (R222). -/
structure Faulted (c code pc : Nat) (h h' : Hub) : Prop where
  record : h'.rd (Addr.CTX_FAULT (c / 64) (c % 64)) = wd (code + 256 * pc)
  regs : ∀ a, faultReg c a = false → h'.rd a = h.rd a
  slots : (h'.ctx c).slots = (h.ctx c).slots
  acc : (h'.ctx c).acc = (h.ctx c).acc
  halts : h.bit (Addr.CTX_CFG (c / 64) (c % 64)) 0 = true →
    (h'.ctx c).st = (if (h.ctx c).stopAt.isSome then .idle else .halted) ∧
      h'.rd (Addr.ELOG_CLASS_CNT 20) = h.rd (Addr.ELOG_CLASS_CNT 20) + 1#32
  goesOn : h.bit (Addr.CTX_CFG (c / 64) (c % 64)) 0 = false →
    (h'.ctx c).st = .ready ∧ h'.q c 3 = true ∧ h'.pc c = (pc + 1) % 2 ^ 14
  dome : h.bit (Addr.CTX_CFG (c / 64) (c % 64)) 0 = false ∨ (h.ctx c).stopAt = none → h'.dome = h.dome

theorem Hub.pc_setPc (h : Hub) (c n : Nat) : (h.setPc c n).pc c = n % 2 ^ 14 := by
  have lt : n % 2 ^ 14 < 2 ^ 32 := (Nat.mod_lt n (by decide)).trans (by decide)
  have wrote : (h.setPc c n).rd (Addr.CTX_PC (c / 64) (c % 64)) = wd (n % 2 ^ 14) := Hub.rd_wr_same ..
  rw [Hub.pc, Hub.fld, wrote, bitsOf, wd, BitVec.toNat_ofNat, Nat.mod_eq_of_lt lt]
  simp

/-- The registers of a context window that the issue, the record and the end of an instruction move lie apart. -/
theorem window_apart (t l : Nat) :
    Addr.CTX_FAULT t l ≠ Addr.CTX_FAULT_CNT t l ∧ Addr.CTX_FAULT t l ≠ Addr.CTX_STATUS t l ∧
    Addr.CTX_FAULT t l ≠ Addr.CTX_PC t l ∧ Addr.CTX_CFG t l ≠ Addr.CTX_FAULT t l ∧ Addr.CTX_CFG t l ≠ Addr.CTX_FAULT_CNT t l ∧
    Addr.CTX_STATUS t l ≠ Addr.CTX_PC t l := by
  simp only [Addr.CTX_FAULT, Addr.CTX_FAULT_CNT, Addr.CTX_STATUS, Addr.CTX_PC, Addr.CTX_CFG]
  omega

/-- The fault is recorded and counted, and nothing else of the hub has changed yet. -/
theorem Hub.faultRecord_same (h : Hub) (c code pc : Nat) :
    let g := (h.wr (Addr.CTX_FAULT (c / 64) (c % 64)) (wd (code + 256 * pc))).incSat (Addr.CTX_FAULT_CNT (c / 64) (c % 64)) 0 16 1
    g.rd (Addr.CTX_FAULT (c / 64) (c % 64)) = wd (code + 256 * pc) ∧
    (∀ a, a ≠ Addr.CTX_FAULT (c / 64) (c % 64) → a ≠ Addr.CTX_FAULT_CNT (c / 64) (c % 64) → g.rd a = h.rd a) ∧
    g.ctx c = h.ctx c ∧ g.dome = h.dome := by
  obtain ⟨count, -⟩ := window_apart (c / 64) (c % 64)
  exact ⟨(Hub.rd_incSat_other _ _ _ _ _ _ count).trans (Hub.rd_wr_same ..),
    fun a ha hc => (Hub.rd_incSat_other _ _ _ _ _ _ hc).trans (Hub.rd_wr_other _ _ _ _ ha), rfl, rfl⟩

/-- A halt moves no register of the Turrets but CTX_PEND. -/
theorem haltReg_turret {c a : Nat} (lo : 0x43000000 ≤ a) (hi : a < 0x45000000) (pend : a ≠ Addr.CTX_PEND (c / 64) (c % 64)) :
    haltReg c a = false := by
  refine (haltReg_false_iff c a).mpr ⟨pend, ?_, ?_, .inl ?_⟩
  · simp only [lockReg, List.any_eq_false, List.mem_range, beq_iff_eq, Addr.LOCK_PEEK]
    omega
  · rw [inLedger, Bool.and_eq_false_iff, decide_eq_false_iff_not]
    omega
  · rw [inLog, Bool.and_eq_false_iff, decide_eq_false_iff_not, decide_eq_false_iff_not]
    omega

/-- Of the log, a halt leaves the counts of the classes other than LOCK. -/
theorem haltReg_class (c : Nat) {k : Nat} (hk : k < 32) (other : k ≠ 5) : haltReg c (Addr.ELOG_CLASS_CNT k) = false := by
  refine (haltReg_false_iff c _).mpr ⟨?_, ?_, ?_, .inr ⟨k, hk, other, rfl⟩⟩
  · simp only [Addr.ELOG_CLASS_CNT, Addr.CTX_PEND]
    omega
  · simp only [lockReg, List.any_eq_false, List.mem_range, beq_iff_eq, Addr.LOCK_PEEK, Addr.ELOG_CLASS_CNT]
    omega
  · rw [inLedger, Bool.and_eq_false_iff, decide_eq_false_iff_not]
    simp only [Addr.ELOG_CLASS_CNT]
    omega

theorem sameButLog.ctx {h h' : Hub} (q : sameButLog h h') (c : Nat) : h'.ctx c = h.ctx c := by
  rw [q.2]; rfl

/-- An event record leaves the contexts. -/
theorem Hub.ctx_eventRecord (h : Hub) (ty time : Nat) (body : List Word) (c : Nat) :
    (h.eventRecord ty time body).ctx c = h.ctx c := by
  rcases h.eventRecord_cases ty time body with e | ⟨x, -, -, e⟩ <;> rw [e] <;> rfl

/-- The halt of a READY context by a fault, with its event record and its entry of class CONTEXT_FAULT (R222). -/
theorem Hub.faultHalt_same (h : Hub) (r c code time : Nat) (body : Word) (log : Word) (m : Nat) :
    let g := ((h.haltCtx r c).eventRecord 4 time [body]).report r 20 code m log
    (∀ a, haltReg c a = false → a ≠ Addr.ELOG_CLASS_CNT 20 → g.rd a = h.rd a) ∧
    g.rd (Addr.ELOG_CLASS_CNT 20) = h.rd (Addr.ELOG_CLASS_CNT 20) + 1#32 ∧
    (g.ctx c).slots = (h.ctx c).slots ∧ (g.ctx c).acc = (h.ctx c).acc ∧
    (g.ctx c).st = (if (h.ctx c).stopAt.isSome then .idle else .halted) ∧ ((h.ctx c).stopAt = none → g.dome = h.dome) := by
  intro g
  obtain ⟨same, st, dome⟩ := h.haltCtx_same r c
  obtain ⟨eventRegs, eventDome⟩ := (h.haltCtx r c).eventRecord_same 4 time [body]
  have logged := ((h.haltCtx r c).eventRecord 4 time [body]).report_same r 20 code m log (by decide)
  have ctx : g.ctx c = (h.haltCtx r c).ctx c := (logged.ctx c).trans (Hub.ctx_eventRecord ..)
  have notEvent : ∀ a, haltReg c a = false → a ≠ Addr.LED_EVT_DROP_CNT := by
    rintro a ha rfl
    exact absurd ((haltReg_false_iff c _).mp ha).2.2.1 (by decide)
  have before : ∀ a, haltReg c a = false → ((h.haltCtx r c).eventRecord 4 time [body]).rd a = h.rd a :=
    fun a ha => (eventRegs a (notEvent a ha)).trans (same.regs a ha)
  refine ⟨fun a ha other => ?_, ?_, by rw [ctx, same.slots], by rw [ctx, same.acc], by rw [ctx, st], fun none => ?_⟩
  · refine Eq.trans ?_ (before a ha)
    rcases ((haltReg_false_iff c a).mp ha).2.2.2 with outside | ⟨k, hk, -, rfl⟩
    · exact logged.1 a outside
    · exact Hub.report_otherClass _ _ _ _ _ _ _ (fun e => other (by rw [e])) hk
  · rw [Hub.report_class _ _ _ _ _ _ (by decide), before _ (haltReg_class c (by decide) (by decide))]
  · exact (logged.dome.trans eventDome).trans (dome none)

/-- An instruction of a READY context that faults under the policy halts its context, or goes on with q3 set (R222). -/
theorem Fx.done_faulted (h : Hub) (r c code pc : Nat) (hc : c < 256) (ready : (h.ctx c).st = .ready) :
    Faulted c code pc h (({ hub := h, fault := some (code, false) } : Fx).done r c pc) := by
  obtain ⟨record, regs, ctx, dome⟩ := h.faultRecord_same c code pc
  obtain ⟨-, status, pcApart, cfg, cfg', statusPc⟩ := window_apart (c / 64) (c % 64)
  unfold Fx.done Hub.ctxFault
  dsimp only
  generalize (h.wr (Addr.CTX_FAULT (c / 64) (c % 64)) (wd (code + 256 * pc))).incSat (Addr.CTX_FAULT_CNT (c / 64) (c % 64)) 0 16 1
    = g at record regs ctx dome ⊢
  have policy : g.bit (Addr.CTX_CFG (c / 64) (c % 64)) 0 = h.bit (Addr.CTX_CFG (c / 64) (c % 64)) 0 := by
    rw [Hub.bit, regs _ cfg cfg', Hub.bit]
  have ready' : (g.ctx c).st = .ready := by rw [ctx]; exact ready
  rw [policy, Bool.false_or]
  cases b : h.bit (Addr.CTX_CFG (c / 64) (c % 64)) 0 with
  | true =>
    obtain ⟨haltRegs, class20, slots, acc, st, haltDome⟩ := g.faultHalt_same r c code (g.timeAt r)
      (wd (c + 256 * code + 65536 * pc)) (wd (c + 256 * code + 65536 * pc)) (turretId (c / 64))
    rw [ctx] at slots acc st haltDome
    rw [if_pos rfl, if_pos ready']
    generalize ((g.haltCtx r c).eventRecord 4 _ _).report r 20 code _ _ = g' at *
    have ended : ¬ (g'.ctx c).st = .ready := by
      rw [st]
      split <;> decide
    rw [if_neg ended]
    have here : 0x43000000 ≤ Addr.CTX_FAULT (c / 64) (c % 64) ∧ Addr.CTX_FAULT (c / 64) (c % 64) < 0x45000000 ∧
        Addr.CTX_FAULT (c / 64) (c % 64) ≠ Addr.CTX_PEND (c / 64) (c % 64) ∧
        Addr.ELOG_CLASS_CNT 20 ≠ Addr.CTX_FAULT (c / 64) (c % 64) ∧
        Addr.ELOG_CLASS_CNT 20 ≠ Addr.CTX_FAULT_CNT (c / 64) (c % 64) := by
      simp only [Addr.CTX_FAULT, Addr.CTX_PEND, Addr.CTX_FAULT_CNT, Addr.ELOG_CLASS_CNT]
      omega
    obtain ⟨lo, hi, pend, class_, classCnt⟩ := here
    exact {
      record := (haltRegs _ (haltReg_turret lo hi pend) class_.symm).trans record
      regs := fun a ha => by
        obtain ⟨hh, hf, hn, -, -, h20⟩ := (faultReg_false_iff c a).mp ha
        exact (haltRegs a hh h20).trans (regs a hf hn)
      slots := slots
      acc := acc
      halts := fun _ => ⟨st, class20.trans (by rw [regs _ class_ classCnt])⟩
      goesOn := fun on => absurd (b.symm.trans on) (by decide)
      dome := fun why => by
        rcases why with on | none
        · exact absurd (b.symm.trans on) (by decide)
        · exact (haltDome none).trans dome }
  | false =>
    have on : ((g.setQ c 3 true).ctx c).st = .ready := ready'
    simp only [Bool.false_eq_true, if_false, if_pos on]
    exact {
      record := (Hub.rd_wr_other _ _ _ _ pcApart).trans ((Hub.rd_wr_other _ _ _ _ status).trans record)
      regs := fun a ha => by
        obtain ⟨-, hf, hn, hs, hp, -⟩ := (faultReg_false_iff c a).mp ha
        exact (Hub.rd_wr_other _ _ _ _ hp).trans ((Hub.rd_wr_other _ _ _ _ hs).trans (regs a hf hn))
      slots := congrArg Ctx.slots ctx
      acc := congrArg Ctx.acc ctx
      halts := fun halt => absurd (b.symm.trans halt) (by decide)
      goesOn := fun _ => ⟨ready', by
        rw [Hub.q, Hub.bit, Hub.setPc, Hub.rd_wr_other _ _ _ _ statusPc, Hub.setQ, Hub.rd_setBit, if_pos rfl]
        exact getLsbD_putBit_same _ _ _ (by decide), Hub.pc_setPc ..⟩
      dome := fun _ => dome }

/-! ### Issue (R211, R215, R225) -/

/-- Registers in which an issued instruction of context `c` is counted. -/
def countReg (c a : Nat) : Bool := a == Addr.TUR_ISSUE_CNT (c / 64) || a == Addr.CTX_SLOTS_MAX (c / 64) (c % 64)

theorem countReg_false_iff (c a : Nat) :
    countReg c a = false ↔ a ≠ Addr.TUR_ISSUE_CNT (c / 64) ∧ a ≠ Addr.CTX_SLOTS_MAX (c / 64) (c % 64) := by
  simp [countReg]

theorem issueReg_false_iff (c a : Nat) :
    issueReg c a = false ↔ a ≠ Addr.CTX_PC (c / 64) (c % 64) ∧ countReg c a = false := by
  simp [issueReg, countReg, and_assoc]

/-- `h'` is `h` with an instruction of `k` slots of context `c` counted. -/
structure CountedIn (c k : Nat) (h h' : Hub) : Prop where
  rest : h' = { h with regs := h'.regs, ctxs := h'.ctxs }
  regs : ∀ a, countReg c a = false → h'.rd a = h.rd a
  issues : h'.rd (Addr.TUR_ISSUE_CNT (c / 64)) = h.rd (Addr.TUR_ISSUE_CNT (c / 64)) + 1#32
  most : h'.fld (Addr.CTX_SLOTS_MAX (c / 64) (c % 64)) 0 24 =
    max (h.fld (Addr.CTX_SLOTS_MAX (c / 64) (c % 64)) 0 24) ((h.ctx c).slots + k)
  ctx : h'.ctx c = { h.ctx c with slots := (h.ctx c).slots + k, stalled := false }
  others : ∀ x, x ≠ c → h'.ctx x = h.ctx x

/-- Without TP_TJIT an issued instruction is counted, and its slots with it. -/
theorem Hub.countIssue_same (h : Hub) (c k : Nat) (still : h.jitters (c / 64) = false)
    (fits : (h.ctx c).slots + k < 2 ^ 24) : CountedIn c k h (h.countIssue c k) := by
  let h1 := h.incWrap (Addr.TUR_ISSUE_CNT (c / 64)) 0 32 1
  let h2 := h1.modCtx c fun x => { x with slots := (h.ctx c).slots + k, stalled := false }
  obtain ⟨apart, notJit⟩ : Addr.TUR_ISSUE_CNT (c / 64) ≠ Addr.CTX_SLOTS_MAX (c / 64) (c % 64) ∧
      Addr.TP_TJIT ≠ Addr.TUR_ISSUE_CNT (c / 64) := by
    simp only [Addr.TUR_ISSUE_CNT, Addr.CTX_SLOTS_MAX, Addr.TP_TJIT]
    omega
  have quiet : h2.jitter (c / 64) k = h2 := by
    have off : h2.jitters (c / 64) = false := by
      have same : h2.rd Addr.TP_TJIT = h.rd Addr.TP_TJIT := Hub.rd_incWrap_other _ _ _ _ _ _ notJit
      rw [Hub.jitters, Hub.bit, Hub.bit, same]
      exact still
    rw [Hub.jitter, off]
    rfl
  have unfolded : h.countIssue c k =
      if h2.fld (Addr.CTX_SLOTS_MAX (c / 64) (c % 64)) 0 24 < (h.ctx c).slots + k
      then h2.setFld (Addr.CTX_SLOTS_MAX (c / 64) (c % 64)) 0 24 ((h.ctx c).slots + k) else h2 := by
    conv_rhs => rw [← quiet]
    rfl
  have regs : ∀ a, a ≠ Addr.TUR_ISSUE_CNT (c / 64) → h2.rd a = h.rd a := fun a => h.rd_incWrap_other _ _ _ _ a
  have issues : h2.rd (Addr.TUR_ISSUE_CNT (c / 64)) = h.rd (Addr.TUR_ISSUE_CNT (c / 64)) + 1#32 := Hub.rd_incWrap_word ..
  have most : h2.fld (Addr.CTX_SLOTS_MAX (c / 64) (c % 64)) 0 24 = h.fld (Addr.CTX_SLOTS_MAX (c / 64) (c % 64)) 0 24 := by
    rw [Hub.fld, regs _ apart.symm, Hub.fld]
  have ctx : h2.ctx c = { h.ctx c with slots := (h.ctx c).slots + k, stalled := false } := h1.ctx_modCtx_same ..
  have others : ∀ x, x ≠ c → h2.ctx x = h.ctx x := fun x hx => h1.ctx_modCtx_other _ _ _ hx
  rw [unfolded, most]
  split
  · next more =>
    exact {
      rest := rfl
      regs := fun a ha => by
        obtain ⟨hi, hm⟩ := (countReg_false_iff c a).mp ha
        exact (Hub.rd_wr_other _ _ _ _ hm).trans (regs a hi)
      issues := (Hub.rd_wr_other _ _ _ _ apart).trans issues
      most := by
        rw [Hub.fld, Hub.setFld, Hub.rd_wr_same, bitsOf_putBits_same _ _ _ _ (by decide), Nat.mod_eq_of_lt fits]
        omega
      ctx := ctx
      others := others }
  · next less =>
    exact {
      rest := rfl
      regs := fun a ha => regs a ((countReg_false_iff c a).mp ha).1
      issues := issues
      most := by rw [most]; omega
      ctx := ctx
      others := others }

/-- An instruction that a context comes to and issues does what its row says (R211). -/
theorem issue_of_comesTo {s : State} {c k : Nat} {i : Amixel} {u : Uses} (e : comesTo c i k u s) (f : Hub → Fx) :
    s.hub.issue s.raw.toNat c k u f = (f (s.hub.countIssue c k)).done s.raw.toNat c (s.hub.pc c) := by
  obtain ⟨-, fetched, can, budget, free, -⟩ := e
  have below : s.hub.pc c < s.hub.codeCount c := by
    by_contra beyond
    simp [Hub.fetched, beyond] at fetched
  simp [Hub.issue, can, Nat.not_le.mpr below, Nat.not_lt.mpr budget, free]

/-- An instruction that a context comes to and issues is counted, and the context stays READY meanwhile (R215). -/
theorem counted_of_comesTo {s : State} {c k : Nat} {i : Amixel} {u : Uses} (e : comesTo c i k u s) :
    CountedIn c k s.hub (s.hub.countIssue c k) ∧ ((s.hub.countIssue c k).ctx c).st = .ready := by
  obtain ⟨-, -, can, budget, -, still⟩ := e
  have fits : (s.hub.ctx c).slots + k < 2 ^ 24 := budget.trans_lt (Nat.mod_lt _ (by decide))
  have counted := s.hub.countIssue_same c k still fits
  refine ⟨counted, ?_⟩
  rw [counted.ctx]
  simp only [Hub.canIssue, Bool.and_eq_true, decide_eq_true_eq] at can
  obtain ⟨⟨⟨⟨ready, -⟩, -⟩, -⟩, -⟩ := can
  exact ready

/-- The end of an instruction that goes on at word `n`: what counts it stands, and the PC is at `n`. -/
theorem CountedIn.goesOn {c k n : Nat} {s t : State} {h1 h2 : Hub} (q : CountedIn c k s.hub h1) (ht : t.hub = h2.setPc c n)
    (kept : ∀ a, countReg c a = true → h2.rd a = h1.rd a) (slots : (h2.ctx c).slots = (h1.ctx c).slots) :
    t.hub.pc c = n % 2 ^ 14 ∧ counted c k s t := by
  obtain ⟨issue, most⟩ : Addr.TUR_ISSUE_CNT (c / 64) ≠ Addr.CTX_PC (c / 64) (c % 64) ∧
      Addr.CTX_SLOTS_MAX (c / 64) (c % 64) ≠ Addr.CTX_PC (c / 64) (c % 64) := by
    simp only [Addr.TUR_ISSUE_CNT, Addr.CTX_SLOTS_MAX, Addr.CTX_PC]
    omega
  have reads : ∀ a, a ≠ Addr.CTX_PC (c / 64) (c % 64) → countReg c a = true → t.hub.rd a = h1.rd a := fun a ha hb => by
    rw [ht, Hub.setPc, Hub.rd_wr_other _ _ _ _ ha, kept a hb]
  refine ⟨by rw [ht, Hub.pc_setPc], ?_, ?_, ?_⟩
  · rw [reads _ issue (by simp [countReg]), q.issues]
  · rw [ht]
    exact slots.trans (congrArg Ctx.slots q.ctx)
  · rw [Hub.fld, reads _ most (by simp [countReg])]
    exact q.most

/-- Registers that neither the count of an instruction nor its own effect moves read as before. -/
theorem CountedIn.regsKept {c k n : Nat} {s t : State} {h1 h2 : Hub} (q : CountedIn c k s.hub h1) (ht : t.hub = h2.setPc c n)
    (p : Nat → Bool) (kept : ∀ a, p a = false → h2.rd a = h1.rd a) : regsKept (fun a => issueReg c a || p a) s t := by
  intro a ha
  obtain ⟨issue, own⟩ : issueReg c a = false ∧ p a = false := by simpa using ha
  obtain ⟨pc, count⟩ := (issueReg_false_iff c a).mp issue
  rw [ht, Hub.setPc, Hub.rd_wr_other _ _ _ _ pc, kept a own, q.regs a count]

/-! ### A fault under the policy (R222) -/

/-- A hub that differs from `h` in the error log only, and not in the count of class CONTEXT_FAULT. -/
def deniedFrom (h h' : Hub) : Prop := sameButLog h h' ∧ h'.rd (Addr.ELOG_CLASS_CNT 20) = h.rd (Addr.ELOG_CLASS_CNT 20)

theorem deniedFrom.refl (h : Hub) : deniedFrom h h := ⟨.refl h, rfl⟩

theorem Hub.deny_from (h : Hub) (r m a st : Nat) : deniedFrom h (h.deny r m a st) :=
  ⟨h.deny_same r m a st, Hub.report_otherClass _ _ _ _ _ _ _ (by decide) (by decide)⟩

/-- A fault moves no register of the Turrets but those of the context's record, predicates and PC. -/
theorem faultReg_turret {c a : Nat} (lo : 0x43000000 ≤ a) (hi : a < 0x45000000)
    (apart : a ≠ Addr.CTX_PEND (c / 64) (c % 64) ∧ a ≠ Addr.CTX_FAULT (c / 64) (c % 64) ∧
      a ≠ Addr.CTX_FAULT_CNT (c / 64) (c % 64) ∧ a ≠ Addr.CTX_STATUS (c / 64) (c % 64) ∧
      a ≠ Addr.CTX_PC (c / 64) (c % 64)) : faultReg c a = false := by
  obtain ⟨pend, record⟩ := apart
  refine (faultReg_false_iff c a).mpr ⟨haltReg_turret lo hi pend, ?_⟩
  simp only [Addr.ELOG_CLASS_CNT]
  omega

/-- Neither the count of an instruction of context `c`, nor its fault, nor an entry of the log, nor its PC moves register `a`. -/
structure Untouched (c a : Nat) : Prop where
  fault : faultReg c a = false
  count : countReg c a = false
  log : inLog a = false
  pc : a ≠ Addr.CTX_PC (c / 64) (c % 64)

/-- The registers of a context's window below its PC, and its configuration, are untouched. -/
theorem Untouched.window {c o a : Nat} (hc : c < 256) (ho : o < 0x80 ∨ o = 0x8C)
    (ha : a = 0x43040000 + 0x100000 * (c / 64) + 0x400 * (c % 64) + o) : Untouched c a := by
  have log : inLog a = false := by
    rw [inLog, Bool.and_eq_false_iff, decide_eq_false_iff_not, decide_eq_false_iff_not]
    omega
  obtain ⟨fault, issue, pc⟩ : (a ≠ Addr.CTX_PEND (c / 64) (c % 64) ∧ a ≠ Addr.CTX_FAULT (c / 64) (c % 64) ∧
      a ≠ Addr.CTX_FAULT_CNT (c / 64) (c % 64) ∧ a ≠ Addr.CTX_STATUS (c / 64) (c % 64) ∧
      a ≠ Addr.CTX_PC (c / 64) (c % 64)) ∧
      (a ≠ Addr.TUR_ISSUE_CNT (c / 64) ∧ a ≠ Addr.CTX_SLOTS_MAX (c / 64) (c % 64)) ∧ a ≠ Addr.CTX_PC (c / 64) (c % 64) := by
    simp only [Addr.CTX_PEND, Addr.CTX_FAULT, Addr.CTX_FAULT_CNT, Addr.CTX_STATUS, Addr.CTX_PC, Addr.TUR_ISSUE_CNT,
      Addr.CTX_SLOTS_MAX]
    omega
  exact ⟨faultReg_turret (by omega) (by omega) fault, (countReg_false_iff _ _).mpr issue, log, pc⟩

theorem Untouched.ctxG {c k : Nat} (hc : c < 256) (hk : k < 16) : Untouched c (Addr.CTX_G (c / 64) (c % 64) k) :=
  .window (o := 4 * k) hc (by omega) rfl

theorem Untouched.ctxW {c j a : Nat} (hc : c < 256) (hj : j < 4) (ha : wideReg c j a = true) : Untouched c a := by
  simp only [wideReg, Bool.or_eq_true, beq_iff_eq, Addr.CTX_W_LO, Addr.CTX_W_MID, Addr.CTX_W_HI] at ha
  exact .window (o := a - (0x43040000 + 0x100000 * (c / 64) + 0x400 * (c % 64))) hc (by omega) (by omega)

theorem Untouched.ctxCfg {c : Nat} (hc : c < 256) : Untouched c (Addr.CTX_CFG (c / 64) (c % 64)) :=
  .window (o := 0x8C) hc (.inr rfl) (by simp only [Addr.CTX_CFG]; omega)

/-- A wide register reads as before where its three words do. -/
theorem Hub.w_congr {h h' : Hub} {c j : Nat} (same : ∀ a, wideReg c j a = true → h'.rd a = h.rd a) : h'.w c j = h.w c j := by
  rw [Hub.w, Hub.w, same (Addr.CTX_W_LO (c / 64) (c % 64) j) (by simp [wideReg]),
    same (Addr.CTX_W_MID (c / 64) (c % 64) j) (by simp [wideReg]), same (Addr.CTX_W_HI (c / 64) (c % 64) j) (by simp [wideReg])]

/-- The three words of a wide register lie apart. -/
theorem wide_apart (t l j : Nat) : Addr.CTX_W_LO t l j ≠ Addr.CTX_W_MID t l j ∧ Addr.CTX_W_LO t l j ≠ Addr.CTX_W_HI t l j ∧
    Addr.CTX_W_MID t l j ≠ Addr.CTX_W_HI t l j := by
  simp only [Addr.CTX_W_LO, Addr.CTX_W_MID, Addr.CTX_W_HI]
  omega

/-- A wide register reads what was written to it. -/
theorem Hub.w_setW (h : Hub) (c j : Nat) (v : BitVec 80) : (h.setW c j v).w c j = v := by
  obtain ⟨loMid, loHi, midHi⟩ := wide_apart (c / 64) (c % 64) j
  rw [Hub.w, Hub.setW, Hub.rd_wr_same, Hub.rd_wr_other _ _ _ _ midHi, Hub.rd_wr_same, Hub.rd_wr_other _ _ _ _ loHi,
    Hub.rd_wr_other _ _ _ _ loMid, Hub.rd_wr_same]
  apply BitVec.eq_of_toNat_eq
  have := v.isLt
  simp only [wd, BitVec.toNat_ofNat]
  omega

/-- An instruction that was counted, perhaps logged its denied access, and faulted under the policy, behaves as R222 states. -/
theorem faulted_of {s t : State} {c k code : Nat} {h1 h2 : Hub} (hc : c < 256) (q : CountedIn c k s.hub h1)
    (d : deniedFrom h1 h2) (f : Faulted c code (s.hub.pc c) h2 t.hub) : faulted c k code s t := by
  obtain ⟨log, class20⟩ := d
  have kept : ∀ a, Untouched c a → t.hub.rd a = s.hub.rd a := fun a u => by
    rw [f.regs a u.fault, log.1 a u.log, q.regs a u.count]
  have counts : ∀ a, countReg c a = true → t.hub.rd a = h1.rd a := by
    intro a ha
    simp only [countReg, Bool.or_eq_true, beq_iff_eq] at ha
    have here : 0x43000000 ≤ a ∧ a < 0x45000000 ∧ a ≠ Addr.CTX_PEND (c / 64) (c % 64) ∧
        a ≠ Addr.CTX_FAULT (c / 64) (c % 64) ∧ a ≠ Addr.CTX_FAULT_CNT (c / 64) (c % 64) ∧
        a ≠ Addr.CTX_STATUS (c / 64) (c % 64) ∧ a ≠ Addr.CTX_PC (c / 64) (c % 64) := by
      simp only [Addr.CTX_PEND, Addr.CTX_FAULT, Addr.CTX_FAULT_CNT, Addr.CTX_STATUS, Addr.CTX_PC, Addr.TUR_ISSUE_CNT,
        Addr.CTX_SLOTS_MAX] at *
      omega
    obtain ⟨lo, hi, apart⟩ := here
    rw [f.regs a (faultReg_turret lo hi apart), log.1 a]
    rw [inLog, Bool.and_eq_false_iff, decide_eq_false_iff_not, decide_eq_false_iff_not]
    omega
  have ctx : h2.ctx c = { s.hub.ctx c with slots := (s.hub.ctx c).slots + k, stalled := false } := (log.ctx c).trans q.ctx
  have stop : (h2.ctx c).stopAt = (s.hub.ctx c).stopAt := by rw [ctx]
  have policy : h2.bit (Addr.CTX_CFG (c / 64) (c % 64)) 0 = s.hub.bit (Addr.CTX_CFG (c / 64) (c % 64)) 0 := by
    have cfg := Untouched.ctxCfg hc
    rw [Hub.bit, log.1 _ cfg.log, q.regs _ cfg.count, Hub.bit]
  have dome : h2.dome = s.hub.dome := by rw [log.dome, q.rest]
  have class0 : h2.rd (Addr.ELOG_CLASS_CNT 20) = s.hub.rd (Addr.ELOG_CLASS_CNT 20) := by
    rw [class20, q.regs _ ((countReg_false_iff _ _).mpr ?_)]
    simp only [Addr.ELOG_CLASS_CNT, Addr.TUR_ISSUE_CNT, Addr.CTX_SLOTS_MAX]
    omega
  refine ⟨f.record, ⟨?_, ?_, ?_⟩, fun b => ?_, fun b => f.goesOn (policy.trans b), fun j => kept _ (.ctxG hc j.isLt),
    fun j => Hub.w_congr fun a ha => kept a (.ctxW hc j.isLt ha), fun why => ?_⟩
  · rw [counts _ (by simp [countReg]), q.issues]
  · rw [f.slots, ctx]
  · rw [Hub.fld, counts _ (by simp [countReg])]
    exact q.most
  · obtain ⟨st, class_⟩ := f.halts (policy.trans b)
    exact ⟨by rw [endsIn, st, stop], by rw [logged, class_, class0]⟩
  · rw [f.dome (by rwa [policy, stop]), dome]

/-! ### LD, ST, LDW and STW (R221, R237) -/

section
variable {c k : Nat} {h h1 : Hub} (q : CountedIn c k h h1)
include q

theorem CountedIn.low {a : Nat} (ha : a < 0x43000000) : h1.rd a = h.rd a :=
  q.regs a ((countReg_false_iff c a).mpr (by simp only [Addr.TUR_ISSUE_CNT, Addr.CTX_SLOTS_MAX]; omega))

theorem CountedIn.region (x : Nat) : h1.region x = h.region x := by
  rw [Hub.region, q.low (by decide), q.low (by decide), q.low (by decide), q.low (by decide), q.low (by decide)]
  rfl

theorem CountedIn.g {j : Nat} (hc : c < 256) (hj : j < 16) : h1.g c j = h.g c j := q.regs _ (Untouched.ctxG hc hj).count

theorem CountedIn.w {j : Nat} (hc : c < 256) (hj : j < 4) : h1.w c j = h.w c j :=
  Hub.w_congr fun a ha => q.regs a (Untouched.ctxW hc hj ha).count

theorem CountedIn.pc : h1.pc c = h.pc c := by
  rw [Hub.pc, Hub.fld, q.regs _ ((countReg_false_iff c _).mpr ?_)]
  · rfl
  · simp only [Addr.CTX_PC, Addr.TUR_ISSUE_CNT, Addr.CTX_SLOTS_MAX]
    omega

theorem CountedIn.acc : (h1.ctx c).acc = (h.ctx c).acc := by rw [q.ctx]

theorem CountedIn.dome : h1.dome = h.dome := by rw [q.rest]

end

theorem Hub.ctx_addAcc (h : Hub) (c : Nat) (a : DomeAccess) :
    (h.addAcc c a).ctx c = { h.ctx c with acc := (h.ctx c).acc ++ [a] } :=
  h.ctx_modCtx_same c fun x => { x with acc := x.acc ++ [a] }

/-- An access is queued: one more is outstanding, and nothing but the issue moves (R219, R237). -/
theorem accessQueued {s t : State} {c : Nat} {h1 : Hub} (a : DomeAccess) (q : CountedIn c 1 s.hub h1)
    (ht : t.hub = (({ hub := h1.addAcc c a } : Fx)).done s.raw.toNat c (s.hub.pc c)) :
    t.hub.pc c = (s.hub.pc c + 1) % 2 ^ 14 ∧ counted c 1 s t ∧ (t.hub.ctx c).acc = (s.hub.ctx c).acc ++ [a] ∧
      t.hub.dome = s.hub.dome ∧ regsKept (issueReg c) s t := by
  have ht' : t.hub = (h1.addAcc c a).setPc c (s.hub.pc c + 1) := ht
  have ctx : t.hub.ctx c = { h1.ctx c with acc := (h1.ctx c).acc ++ [a] } := by
    rw [ht', ← Hub.ctx_addAcc]
    rfl
  obtain ⟨pc, count⟩ := q.goesOn ht' (fun _ _ => rfl) (by rw [Hub.ctx_addAcc])
  have regs := q.regsKept ht' (fun _ => false) fun _ _ => rfl
  simp only [Bool.or_false] at regs
  refine ⟨pc, count, by rw [ctx, ← q.acc], ?_, regs⟩
  rw [ht']
  exact q.dome

/-- Turrets may read where an address lies in a region that is not JOURNAL (R37). -/
theorem turretReads_iff (g : Option Region) : turretReads g = true ↔ g.isSome = true ∧ g ≠ some .journal := by
  rcases g with _ | _ | _ <;> simp [turretReads]

/-- Turrets may write DATA and CAPTURE (R37). -/
theorem turretWrites_iff (g : Option Region) : turretWrites g = true ↔ g = some .data ∨ g = some .capture := by
  rcases g with _ | _ | _ <;> simp [turretWrites]

theorem Hub.rd_setW_other (h : Hub) (c j : Nat) (v : BitVec 80) (a : Nat) (ha : wideReg c j a = false) :
    (h.setW c j v).rd a = h.rd a := by
  simp only [wideReg, Bool.or_eq_false_iff, beq_eq_false_iff_ne] at ha
  obtain ⟨⟨lo, mid⟩, hi⟩ := ha
  rw [Hub.setW, Hub.rd_wr_other _ _ _ _ hi, Hub.rd_wr_other _ _ _ _ mid, Hub.rd_wr_other _ _ _ _ lo]

/-- A load that is not performed writes 0 to its destination (R221). -/
def Hub.zeroDest (h : Hub) (c : Nat) : Dest → Hub
  | .g k => h.setG c k 0#32
  | .w k => h.setW c k 0#80

/-- A permitted load is queued; any other writes 0, is logged, and faults (R221). -/
theorem Hub.loadFx_cases (h : Hub) (r c : Nat) (d : Dest) (a n : Nat) :
    (a % n = 0 → turretReads (h.region a) = true → h.loadFx r c d a n = { hub := h.addAcc c (.load d a n (h.pc c)) }) ∧
    (¬ (a % n = 0 ∧ turretReads (h.region a) = true) →
      h.loadFx r c d a n = { hub := (h.zeroDest c d).deny r (turretId (c / 64)) a, fault := some (ERANGE, false) }) := by
  refine ⟨fun ha hr => by simp [Hub.loadFx, ha, hr], fun bad => ?_⟩
  have no : ¬ (decide (a % n = 0) && turretReads (h.region a)) = true := by
    rwa [Bool.and_eq_true, decide_eq_true_eq]
  unfold Hub.loadFx
  rw [if_neg no]
  cases d <;> rfl

/-- A permitted store is queued; any other is logged and faults. -/
theorem Hub.storeFx_cases (h : Hub) (r c a n v : Nat) :
    (a % n = 0 → turretWrites (h.region a) = true → h.storeFx r c a n v = { hub := h.addAcc c (.store a n v) }) ∧
    (¬ (a % n = 0 ∧ turretWrites (h.region a) = true) →
      h.storeFx r c a n v = { hub := h.deny r (turretId (c / 64)) a, fault := some (ERANGE, false) }) := by
  refine ⟨fun ha hw => by simp [Hub.storeFx, ha, hw], fun bad => ?_⟩
  have no : ¬ (decide (a % n = 0) && turretWrites (h.region a)) = true := by
    rwa [Bool.and_eq_true, decide_eq_true_eq]
  rw [Hub.storeFx, if_neg no]

theorem faultReg_class {c k : Nat} (hk : k < 32) (other : k ≠ 5) (other' : k ≠ 20) :
    faultReg c (Addr.ELOG_CLASS_CNT k) = false := by
  refine (faultReg_false_iff c _).mpr ⟨haltReg_class c hk other, ?_⟩
  simp only [Addr.ELOG_CLASS_CNT, Addr.CTX_FAULT, Addr.CTX_FAULT_CNT, Addr.CTX_STATUS, Addr.CTX_PC]
  omega

/-- A denied access logs once in class ACCESS, through the fault that follows. -/
theorem logged_of_faulted {s t : State} {c code pc r m a st : Nat} {h2 : Hub}
    (class0 : h2.rd (Addr.ELOG_CLASS_CNT 0) = s.hub.rd (Addr.ELOG_CLASS_CNT 0)) (f : Faulted c code pc (h2.deny r m a st) t.hub) :
    logged 0 s t := by
  rw [logged, f.regs _ (faultReg_class (by decide) (by decide) (by decide)), Hub.deny_class, class0]

/-- The registers of a destination. -/
def destReg (c : Nat) : Dest → Nat → Bool
  | .g k, a => a == Addr.CTX_G (c / 64) (c % 64) k
  | .w k, a => wideReg c k a

/-- A destination is one of the context's registers. -/
def Dest.ok : Dest → Prop
  | .g k => k < 16
  | .w k => k < 4

theorem Untouched.dest {c a : Nat} {d : Dest} (hc : c < 256) (hd : d.ok) (ha : destReg c d a = true) : Untouched c a := by
  cases d with
  | g k =>
    obtain rfl : a = Addr.CTX_G (c / 64) (c % 64) k := by simpa [destReg] using ha
    exact .ctxG hc hd
  | w k => exact .ctxW hc hd ha

theorem Hub.zeroDest_same (h : Hub) (c : Nat) (d : Dest) :
    (∀ a, destReg c d a = false → (h.zeroDest c d).rd a = h.rd a) ∧ (h.zeroDest c d).ctx c = h.ctx c ∧
      (h.zeroDest c d).dome = h.dome := by
  refine ⟨fun a ha => ?_, by cases d <;> rfl, by cases d <;> rfl⟩
  cases d
  case g k => exact Hub.rd_wr_other _ _ _ _ (by simpa [destReg] using ha)
  case w k => exact Hub.rd_setW_other _ _ _ _ _ ha

section
variable {s t : State} {c x n : Nat} (q : CountedIn c 1 s.hub (s.hub.countIssue c 1)) {d : Dest}
include q

/-- An aligned load in a region Turrets may read is queued (R37, R237). -/
theorem load_performed (ht : t.hub = ((s.hub.countIssue c 1).loadFx s.raw.toNat c d x n).done s.raw.toNat c (s.hub.pc c))
    (aligned : x % n = 0) (readable : turretReads (s.hub.region x) = true) :
    t.hub.pc c = (s.hub.pc c + 1) % 2 ^ 14 ∧ counted c 1 s t ∧
      (t.hub.ctx c).acc = (s.hub.ctx c).acc ++ [.load d x n (s.hub.pc c)] ∧ t.hub.dome = s.hub.dome ∧
      regsKept (issueReg c) s t := by
  rw [((s.hub.countIssue c 1).loadFx_cases _ c d x n).1 aligned (by rw [q.region]; exact readable), q.pc] at ht
  exact accessQueued _ q ht

/-- An aligned store in a region Turrets may write is queued (R37, R237). -/
theorem store_performed {v : Nat}
    (ht : t.hub = ((s.hub.countIssue c 1).storeFx s.raw.toNat c x n v).done s.raw.toNat c (s.hub.pc c))
    (aligned : x % n = 0) (writable : turretWrites (s.hub.region x) = true) :
    t.hub.pc c = (s.hub.pc c + 1) % 2 ^ 14 ∧ counted c 1 s t ∧
      (t.hub.ctx c).acc = (s.hub.ctx c).acc ++ [.store x n v] ∧ t.hub.dome = s.hub.dome ∧ regsKept (issueReg c) s t := by
  rw [((s.hub.countIssue c 1).storeFx_cases _ c x n v).1 aligned (by rw [q.region]; exact writable)] at ht
  exact accessQueued _ q ht

variable (hc : c < 256) (ready : ((s.hub.countIssue c 1).ctx c).st = .ready)
include hc ready

/-- Any other load writes 0 to its destination, is logged, and faults (R221). -/
theorem load_refused (hd : d.ok)
    (ht : t.hub = ((s.hub.countIssue c 1).loadFx s.raw.toNat c d x n).done s.raw.toNat c (s.hub.pc c))
    (bad : ¬ (x % n = 0 ∧ turretReads (s.hub.region x) = true)) :
    (∀ a, destReg c d a = true → t.hub.rd a = ((s.hub.countIssue c 1).zeroDest c d).rd a) ∧
      (t.hub.ctx c).acc = (s.hub.ctx c).acc ∧
      t.hub.rd (Addr.CTX_FAULT (c / 64) (c % 64)) = wd (ERANGE + 256 * s.hub.pc c) ∧ logged 0 s t ∧
      ((s.hub.ctx c).stopAt = none → t.hub.dome = s.hub.dome) := by
  rw [((s.hub.countIssue c 1).loadFx_cases _ c d x n).2 (by rwa [q.region])] at ht
  obtain ⟨regs, ctx, dome⟩ := (s.hub.countIssue c 1).zeroDest_same c d
  have deny := ((s.hub.countIssue c 1).zeroDest c d).deny_same s.raw.toNat (turretId (c / 64)) x 0
  have f := Fx.done_faulted (((s.hub.countIssue c 1).zeroDest c d).deny s.raw.toNat (turretId (c / 64)) x) s.raw.toNat c
    ERANGE (s.hub.pc c) hc (by rw [deny.ctx, ctx]; exact ready)
  rw [← ht] at f
  have class0 : ((s.hub.countIssue c 1).zeroDest c d).rd (Addr.ELOG_CLASS_CNT 0) = s.hub.rd (Addr.ELOG_CLASS_CNT 0) := by
    refine (regs _ (Bool.eq_false_iff.mpr fun here => ?_)).trans (q.low (by decide))
    exact absurd (Untouched.dest hc hd here).log (by decide)
  refine ⟨fun a ha => ?_, ?_, f.record, logged_of_faulted class0 f, fun none => ?_⟩
  · have u := Untouched.dest hc hd ha
    rw [f.regs a u.fault, deny.1 a u.log]
  · rw [f.acc, deny.ctx, ctx, q.acc]
  · rw [f.dome (.inr (by rw [deny.ctx, ctx, q.ctx]; exact none)), deny.dome, dome, q.dome]

/-- Any other store is logged and faults (R221). -/
theorem store_refused {v : Nat}
    (ht : t.hub = ((s.hub.countIssue c 1).storeFx s.raw.toNat c x n v).done s.raw.toNat c (s.hub.pc c))
    (bad : ¬ (x % n = 0 ∧ turretWrites (s.hub.region x) = true)) :
    faulted c 1 ERANGE s t ∧ logged 0 s t ∧ (t.hub.ctx c).acc = (s.hub.ctx c).acc := by
  rw [((s.hub.countIssue c 1).storeFx_cases _ c x n v).2 (by rwa [q.region])] at ht
  have deny := (s.hub.countIssue c 1).deny_same s.raw.toNat (turretId (c / 64)) x 0
  have f := Fx.done_faulted ((s.hub.countIssue c 1).deny s.raw.toNat (turretId (c / 64)) x) s.raw.toNat c ERANGE (s.hub.pc c) hc
    (by rw [deny.ctx]; exact ready)
  rw [← ht] at f
  exact ⟨faulted_of hc q (Hub.deny_from ..) f, logged_of_faulted (q.low (by decide)) f, by rw [f.acc, deny.ctx, q.acc]⟩

end

/-- What a load asks of its address, said of the region (R37). -/
theorem not_readable {x n : Nat} {g : Option Region} (bad : x % n ≠ 0 ∨ g.isSome = false ∨ g = some .journal) :
    ¬ (x % n = 0 ∧ turretReads g = true) := by
  rw [turretReads_iff]
  rintro ⟨aligned, inside, readable⟩
  rcases bad with b | b | b
  · exact b aligned
  · simp [b] at inside
  · exact readable b

/-- What a store asks of its address, said of the region (R37). -/
theorem not_writable {x n : Nat} {g : Option Region} (bad : x % n ≠ 0 ∨ (g ≠ some .data ∧ g ≠ some .capture)) :
    ¬ (x % n = 0 ∧ turretWrites g = true) := by
  rw [turretWrites_iff]
  tauto

/-- LD (R237): queued where Turrets may read, else refused. -/
theorem execAmixelLd_spec (s : State) (c : CtxIx) (z : Fin 3) (d a : Fin 16) (imm : BitVec 14)
    (e : comesTo c (.ld z d a imm) 1 { g := [d, a], tag := true } s) :
    let x := (s.hub.g c a + imm.signExtend 32).toNat
    let n := sizeBytes z
    (x % n = 0 → (s.hub.region x).isSome = true → s.hub.region x ≠ some .journal →
      ∃ t, exec (.amixelLd c) s = .next t ∧ t.hub.pc c = (s.hub.pc c + 1) % 2 ^ 14 ∧ counted c 1 s t ∧
        (t.hub.ctx c).acc = (s.hub.ctx c).acc ++ [.load (.g d) x n (s.hub.pc c)] ∧ t.hub.dome = s.hub.dome ∧
        regsKept (issueReg c) s t) ∧
    (x % n ≠ 0 ∨ (s.hub.region x).isSome = false ∨ s.hub.region x = some .journal →
      ∃ t, exec (.amixelLd c) s = .next t ∧ t.hub.g c d = 0#32 ∧ (t.hub.ctx c).acc = (s.hub.ctx c).acc ∧
        t.hub.rd (Addr.CTX_FAULT (c / 64) (c % 64)) = wd (ERANGE + 256 * s.hub.pc c) ∧ logged 0 s t ∧
        ((s.hub.ctx c).stopAt = none → t.hub.dome = s.hub.dome)) := by
  intro x n
  obtain ⟨q, ready⟩ := counted_of_comesTo e
  have addr : (s.hub.countIssue c 1).memAddr c a imm = x := by rw [Hub.memAddr, q.g c.isLt a.isLt]
  have run : exec (.amixelLd c) s = .next { s with hub :=
      ((s.hub.countIssue c 1).loadFx s.raw.toNat c (.g d) x n).done s.raw.toNat c (s.hub.pc c) } := by
    have through := issue_of_comesTo e fun h => h.loadFx s.raw.toNat c (.g d) (h.memAddr c a imm) (sizeBytes z)
    obtain ⟨p, fetched, -⟩ := e
    rw [addr] at through
    change execAmixelLd c s = _
    simp only [execAmixelLd, State.onHub_powered _ _ p, fetched, ld, through]
    rfl
  refine ⟨fun aligned inside readable => ⟨_, run, ?_⟩, fun bad => ⟨_, run, ?_⟩⟩
  · exact load_performed q rfl aligned ((turretReads_iff _).mpr ⟨inside, readable⟩)
  · obtain ⟨zeroed, rest⟩ := load_refused (t := { s with hub := _ }) (d := .g d) q c.isLt ready d.isLt rfl (not_readable bad)
    exact ⟨(zeroed _ (beq_self_eq_true _)).trans (Hub.rd_wr_same ..), rest⟩

/-- ST (R237): queued where Turrets may write, else refused. -/
theorem execAmixelSt_spec (s : State) (c : CtxIx) (z : Fin 3) (d a : Fin 16) (imm : BitVec 14)
    (e : comesTo c (.st z d a imm) 1 { g := [d, a], tag := true } s) :
    let x := (s.hub.g c a + imm.signExtend 32).toNat
    let n := sizeBytes z
    (x % n = 0 → (s.hub.region x = some .data ∨ s.hub.region x = some .capture) →
      ∃ t, exec (.amixelSt c) s = .next t ∧ t.hub.pc c = (s.hub.pc c + 1) % 2 ^ 14 ∧ counted c 1 s t ∧
        (t.hub.ctx c).acc = (s.hub.ctx c).acc ++ [.store x n ((s.hub.g c d).toNat % 2 ^ (8 * n))] ∧
        t.hub.dome = s.hub.dome ∧ regsKept (issueReg c) s t) ∧
    (x % n ≠ 0 ∨ (s.hub.region x ≠ some .data ∧ s.hub.region x ≠ some .capture) →
      ∃ t, exec (.amixelSt c) s = .next t ∧ faulted c 1 ERANGE s t ∧ logged 0 s t ∧
        (t.hub.ctx c).acc = (s.hub.ctx c).acc) := by
  intro x n
  obtain ⟨q, ready⟩ := counted_of_comesTo e
  have addr : (s.hub.countIssue c 1).memAddr c a imm = x := by rw [Hub.memAddr, q.g c.isLt a.isLt]
  let v := (s.hub.g c d).toNat % 2 ^ (8 * n)
  have run : exec (.amixelSt c) s = .next { s with hub :=
      ((s.hub.countIssue c 1).storeFx s.raw.toNat c x n v).done s.raw.toNat c (s.hub.pc c) } := by
    have through := issue_of_comesTo e fun h =>
      h.storeFx s.raw.toNat c (h.memAddr c a imm) (sizeBytes z) ((h.g c d).toNat % 2 ^ (8 * sizeBytes z))
    obtain ⟨p, fetched, -⟩ := e
    rw [addr, q.g c.isLt d.isLt] at through
    change execAmixelSt c s = _
    simp only [execAmixelSt, State.onHub_powered _ _ p, fetched, st, through]
    rfl
  refine ⟨fun aligned writable => ⟨_, run, ?_⟩, fun bad => ⟨_, run, ?_⟩⟩
  · exact store_performed q rfl aligned ((turretWrites_iff _).mpr writable)
  · exact store_refused q c.isLt ready rfl (not_writable bad)

/-- LDW (R237): queued where Turrets may read, else refused. -/
theorem execAmixelLdw_spec (s : State) (c : CtxIx) (n : Fin 4) (a : Fin 16) (imm : BitVec 14)
    (e : comesTo c (.ldw n a imm) 1 { g := [a], w := [n], tag := true } s) :
    let x := (s.hub.g c a + imm.signExtend 32).toNat
    (x % 8 ≠ 0 ∨ (s.hub.region x).isSome = false ∨ s.hub.region x = some .journal →
      ∃ t, exec (.amixelLdw c) s = .next t ∧ t.hub.w c n = 0#80 ∧ (t.hub.ctx c).acc = (s.hub.ctx c).acc ∧
        t.hub.rd (Addr.CTX_FAULT (c / 64) (c % 64)) = wd (ERANGE + 256 * s.hub.pc c) ∧ logged 0 s t) ∧
    (x % 8 = 0 → (s.hub.region x).isSome = true → s.hub.region x ≠ some .journal →
      ∃ t, exec (.amixelLdw c) s = .next t ∧ t.hub.pc c = (s.hub.pc c + 1) % 2 ^ 14 ∧ counted c 1 s t ∧
        (t.hub.ctx c).acc = (s.hub.ctx c).acc ++ [.load (.w n) x 8 (s.hub.pc c)] ∧ t.hub.dome = s.hub.dome ∧
        regsKept (issueReg c) s t) := by
  intro x
  obtain ⟨q, ready⟩ := counted_of_comesTo e
  have addr : (s.hub.countIssue c 1).memAddr c a imm = x := by rw [Hub.memAddr, q.g c.isLt a.isLt]
  have run : exec (.amixelLdw c) s = .next { s with hub :=
      ((s.hub.countIssue c 1).loadFx s.raw.toNat c (.w n) x 8).done s.raw.toNat c (s.hub.pc c) } := by
    have through := issue_of_comesTo e fun h => h.loadFx s.raw.toNat c (.w n) (h.memAddr c a imm) 8
    obtain ⟨p, fetched, -⟩ := e
    rw [addr] at through
    change execAmixelLdw c s = _
    simp only [execAmixelLdw, State.onHub_powered _ _ p, fetched, ldw, through]
  refine ⟨fun bad => ⟨_, run, ?_⟩, fun aligned inside readable => ⟨_, run, ?_⟩⟩
  · obtain ⟨zeroed, acc, record, log, -⟩ :=
      load_refused (t := { s with hub := _ }) (d := .w n) q c.isLt ready n.isLt rfl (not_readable bad)
    exact ⟨(Hub.w_congr zeroed).trans (Hub.w_setW ..), acc, record, log⟩
  · exact load_performed q rfl aligned ((turretReads_iff _).mpr ⟨inside, readable⟩)

/-- STW (R237): queued where Turrets may write, else refused. -/
theorem execAmixelStw_spec (s : State) (c : CtxIx) (n : Fin 4) (a : Fin 16) (imm : BitVec 14)
    (e : comesTo c (.stw n a imm) 1 { g := [a], w := [n], tag := true } s) :
    let x := (s.hub.g c a + imm.signExtend 32).toNat
    (x % 8 ≠ 0 ∨ (s.hub.region x ≠ some .data ∧ s.hub.region x ≠ some .capture) →
      ∃ t, exec (.amixelStw c) s = .next t ∧ faulted c 1 ERANGE s t ∧ logged 0 s t ∧
        (t.hub.ctx c).acc = (s.hub.ctx c).acc) ∧
    (x % 8 = 0 → (s.hub.region x = some .data ∨ s.hub.region x = some .capture) →
      ∃ t, exec (.amixelStw c) s = .next t ∧ t.hub.pc c = (s.hub.pc c + 1) % 2 ^ 14 ∧ counted c 1 s t ∧
        (t.hub.ctx c).acc = (s.hub.ctx c).acc ++ [.store x 8 ((s.hub.w c n).toNat % 2 ^ 64)] ∧
        t.hub.dome = s.hub.dome ∧ regsKept (issueReg c) s t) := by
  intro x
  obtain ⟨q, ready⟩ := counted_of_comesTo e
  have addr : (s.hub.countIssue c 1).memAddr c a imm = x := by rw [Hub.memAddr, q.g c.isLt a.isLt]
  have run : exec (.amixelStw c) s = .next { s with hub :=
      ((s.hub.countIssue c 1).storeFx s.raw.toNat c x 8 ((s.hub.w c n).toNat % 2 ^ 64)).done s.raw.toNat c (s.hub.pc c) } := by
    have through := issue_of_comesTo e fun h =>
      h.storeFx s.raw.toNat c (h.memAddr c a imm) 8 ((h.w c n).toNat % 2 ^ 64)
    obtain ⟨p, fetched, -⟩ := e
    rw [addr, q.w c.isLt n.isLt] at through
    change execAmixelStw c s = _
    simp only [execAmixelStw, State.onHub_powered _ _ p, fetched, stw, through]
  refine ⟨fun bad => ⟨_, run, ?_⟩, fun aligned writable => ⟨_, run, ?_⟩⟩
  · exact store_refused q c.isLt ready rfl (not_writable bad)
  · exact store_performed q rfl aligned ((turretWrites_iff _).mpr writable)

/-! ### Completions (R219 to R221) -/

section
variable {s : State} {c : CtxIx} {k a n pc : Nat}

theorem Hub.ctx_dropAcc (h : Hub) (c k : Nat) :
    (h.dropAcc c k).ctx c = { h.ctx c with acc := (h.ctx c).acc.eraseIdx k, stalled := false } :=
  h.ctx_modCtx_same c fun x => { x with acc := x.acc.eraseIdx k, stalled := false }

/-- LOAD_COMPLETE into a g register (R220, R221, R237). -/
theorem execLoadComplete_g_spec (p : s.hub.sys.powered = true) (sound : s.hub.poisoned a = false) (d : Fin 16)
    (ready : (s.hub.ctx c).ready k = some (.load (.g d) a n pc)) :
    ∃ t, exec (.loadComplete c k) s = .next t ∧
      t.hub.g c d = (if n = 2 then BitVec.ofInt 32 (signed 16 (s.hub.domeRead a 2)) else BitVec.ofNat 32 (s.hub.domeRead a n)) ∧
      (t.hub.ctx c).acc = (s.hub.ctx c).acc.eraseIdx k ∧ (t.hub.ctx c).stalled = false ∧
      regsKept (fun x => x == Addr.CTX_G (c / 64) (c % 64) d) s t ∧
      t = { s with hub := { s.hub with regs := t.hub.regs, ctxs := t.hub.ctxs } } := by
  have done : loadComplete s.raw.toNat c k s.hub = (s.hub.dropAcc c k).setG c d (loadWord n (s.hub.domeRead a n)) := by
    simp [loadComplete, ready, sound]
  have ctx := s.hub.ctx_dropAcc c k
  refine ⟨_, s.onHub_eq (fun r h => loadComplete r c k h) p done, (Hub.rd_wr_same ..).trans ?_, congrArg Ctx.acc ctx,
    congrArg Ctx.stalled ctx, fun x hx => Hub.rd_wr_other _ _ _ _ (by simpa using hx), rfl⟩
  unfold loadWord
  split
  · next e => rw [e]; rfl
  · rfl

/-- LOAD_COMPLETE into a wide register (R220, R221, R237). -/
theorem execLoadComplete_w_spec (p : s.hub.sys.powered = true) (sound : s.hub.poisoned a = false) (d : Fin 4)
    (ready : (s.hub.ctx c).ready k = some (.load (.w d) a n pc)) :
    ∃ t, exec (.loadComplete c k) s = .next t ∧ t.hub.w c d = BitVec.ofInt 80 (signed 64 (s.hub.domeRead a n)) ∧
      (t.hub.ctx c).acc = (s.hub.ctx c).acc.eraseIdx k ∧ regsKept (wideReg c d) s t ∧
      t = { s with hub := { s.hub with regs := t.hub.regs, ctxs := t.hub.ctxs } } := by
  have done : loadComplete s.raw.toNat c k s.hub =
      (s.hub.dropAcc c k).setW c d (BitVec.ofInt 80 (signed 64 (s.hub.domeRead a n))) := by
    simp [loadComplete, ready, sound]
  refine ⟨_, s.onHub_eq (fun r h => loadComplete r c k h) p done, Hub.w_setW .., congrArg Ctx.acc (s.hub.ctx_dropAcc c k),
    fun x hx => Hub.rd_setW_other _ _ _ _ _ hx, rfl⟩

end

/-- The bytes of a number, put together, are its low bytes. -/
theorem ofBytes_bytesOf (n : Nat) : ∀ v, ofBytes (bytesOf v n) = v % 2 ^ (8 * n) := by
  induction n with
  | zero =>
    intro v
    simp [bytesOf, ofBytes, Nat.mod_one]
  | succ n ih =>
    intro v
    have step : bytesOf v (n + 1) = byteAt v 0 :: bytesOf (v / 256) n := by
      simp [bytesOf, List.range_succ_eq_map, Function.comp_def, byteAt_succ]
    have size : 2 ^ (8 * (n + 1)) = 256 * 2 ^ (8 * n) := by rw [Nat.mul_succ, Nat.pow_add, Nat.mul_comm]
    rw [step, ofBytes, ih, byteAt_zero, BitVec.toNat_ofNat, size, Nat.mod_mul]

/-- What was written to the Dome reads back (R10). -/
theorem Hub.domeRead_domeWrite (h : Hub) (a n v : Nat) (inside : a + n ≤ domeSize) :
    (h.domeWrite a n v).domeRead a n = v % 2 ^ (8 * n) := by
  rw [← ofBytes_bytesOf, Hub.domeRead]
  congr 1
  refine List.ext_getElem (by simp) fun i hi hi' => ?_
  rw [List.getElem_map, List.getElem_range]
  exact Hub.domeByte_domeBytes (bytesOf v n) h a i (by simpa using inside) hi'

/-- STORE_ACCEPTED (R219, R220): the bytes reach the Dome, and the access is over. -/
theorem execStoreAccepted_spec (s : State) (c : CtxIx) (k a n v : Nat) (p : s.hub.sys.powered = true) (inside : a + n ≤ domeSize)
    (ready : (s.hub.ctx c).ready k = some (.store a n v)) :
    ∃ t, exec (.storeAccepted c k) s = .next t ∧ t.hub.domeRead a n = v % 2 ^ (8 * n) ∧
      (∀ x, x < a ∨ a + n ≤ x → t.hub.domeByte x = s.hub.domeByte x) ∧
      (t.hub.ctx c).acc = (s.hub.ctx c).acc.eraseIdx k ∧ t.hub.regs = s.hub.regs := by
  have done : storeAccepted c k s.hub = (s.hub.domeWrite a n v).dropAcc c k := by simp [storeAccepted, ready]
  have frame := Hub.domeBytes_frame (bytesOf v n) s.hub a
  refine ⟨_, s.onHub_eq (fun _ h => storeAccepted c k h) p done, ?_, fun x hx => ?_, ?_, ?_⟩
  · exact s.hub.domeRead_domeWrite a n v inside
  · exact Hub.domeByte_domeBytes_other _ s.hub a x (by simpa using hx)
  · refine (congrArg Ctx.acc (Hub.ctx_dropAcc _ c k)).trans ?_
    rw [Hub.domeWrite, frame]
    rfl
  · have regs : (s.hub.domeBytes a (bytesOf v n)).regs = s.hub.regs := by rw [frame]
    exact regs

/-! ### Stream ports (R238 to R241) -/

section
variable {c k : Nat} {h h1 : Hub} (q : CountedIn c k h h1)
include q

theorem CountedIn.buf (p : Nat) : (h1.ctx c).buf p = (h.ctx c).buf p := by rw [q.ctx]; rfl

/-- The bindings of ports, and their limits, stand through the count. -/
theorem CountedIn.port {p : Nat} (hp : p < 64) :
    h1.rd (Addr.CTX_PORT (c / 64) (c % 64) p) = h.rd (Addr.CTX_PORT (c / 64) (c % 64) p) := by
  refine q.regs _ ((countReg_false_iff c _).mpr ?_)
  simp only [Addr.CTX_PORT, Addr.TUR_ISSUE_CNT, Addr.CTX_SLOTS_MAX]
  omega

theorem CountedIn.portKind {p : Nat} (hp : p < 64) : h1.portKind c p = h.portKind c p := by
  rw [Hub.portKind, Hub.fld, q.port hp]
  rfl

theorem CountedIn.portSrc {p : Nat} (hp : p < 64) : h1.portSrc c p = h.portSrc c p := by
  rw [Hub.portSrc, Hub.fld, q.port hp]
  rfl

theorem CountedIn.isInput {p : Nat} (hp : p < 64) : h1.isInput c p = h.isInput c p := by
  rw [Hub.isInput, q.portKind hp]
  rfl

theorem CountedIn.isOutput {p : Nat} (hp : p < 64) : h1.isOutput c p = h.isOutput c p := by
  rw [Hub.isOutput, q.portKind hp]
  rfl

theorem CountedIn.portOf (hc : c < 256) (p : PortSel) : h1.portOf c p = h.portOf c p := by
  cases p with
  | direct p => rfl
  | indirect gr => rw [Hub.portOf, q.g hc gr.isLt]; rfl

theorem CountedIn.domeByte (a : Nat) : h1.domeByte a = h.domeByte a := by rw [q.rest]; rfl

theorem CountedIn.domeWord (a : Nat) : h1.domeWord a = h.domeWord a := by
  simp only [Hub.domeWord, Hub.domeRead, q.domeByte]

theorem CountedIn.portElem {p : Nat} (hp : p < 64) (i : Nat) : h1.portElem c p i = h.portElem c p i := by
  have stage : h1.stageBase c p = h.stageBase c p := by rw [q.rest]; rfl
  have cap : h1.portCap c p = h.portCap c p := by rw [Hub.portCap, Hub.fld, q.port hp]; rfl
  simp only [Hub.portElem, stage, q.buf, q.domeWord, Hub.elemAddr, cap]

end

theorem Hub.portOf_lt (h : Hub) (c : Nat) (p : PortSel) : h.portOf c p < 64 := by
  cases p with
  | direct p => exact p.isLt
  | indirect gr => exact Nat.mod_lt _ (by decide)

/-- The registers of the pair at `d`. -/
def pairReg (c d a : Nat) : Bool := a == Addr.CTX_G (c / 64) (c % 64) d || a == Addr.CTX_G (c / 64) (c % 64) (d + 1)

/-- A pair holds what was delivered to it, and nothing else has changed. -/
theorem Hub.setPair_same (h : Hub) (c d : Nat) (v : Word × Word) :
    (h.setPair c d v).g c d = v.1 ∧ (h.setPair c d v).g c (d + 1) = v.2 ∧
      ∀ a, pairReg c d a = false → (h.setPair c d v).rd a = h.rd a := by
  have apart : Addr.CTX_G (c / 64) (c % 64) d ≠ Addr.CTX_G (c / 64) (c % 64) (d + 1) := by simp only [Addr.CTX_G]; omega
  refine ⟨(Hub.rd_wr_other _ _ _ _ apart).trans (Hub.rd_wr_same ..), Hub.rd_wr_same .., fun a ha => ?_⟩
  obtain ⟨lo, hi⟩ : a ≠ Addr.CTX_G (c / 64) (c % 64) d ∧ a ≠ Addr.CTX_G (c / 64) (c % 64) (d + 1) := by
    simpa [pairReg] using ha
  exact (Hub.rd_wr_other _ _ _ _ hi).trans (Hub.rd_wr_other _ _ _ _ lo)

theorem pairReg_not_count {c d a : Nat} (hc : c < 256) (hd : d + 1 < 16) (ha : countReg c a = true) : pairReg c d a = false := by
  refine Bool.eq_false_iff.mpr fun pair => ?_
  simp only [pairReg, Bool.or_eq_true, beq_iff_eq] at pair
  have untouched : Untouched c a := by
    rcases pair with rfl | rfl
    · exact .ctxG hc (by omega)
    · exact .ctxG hc hd
  exact absurd ha (by simp [untouched.count])

section
variable {s : State} {c : CtxIx} {k : Nat} (q : CountedIn c k s.hub (s.hub.countIssue c k))
  (ready : ((s.hub.countIssue c k).ctx c).st = .ready)
include q ready

/-- An instruction that only faults, under the policy (R222). -/
theorem faults_only (code : Nat) {t : State}
    (ht : t.hub = (({ hub := s.hub.countIssue c k, fault := some (code, false) } : Fx)).done s.raw.toNat c (s.hub.pc c)) :
    faulted c k code s t := by
  have f := Fx.done_faulted (s.hub.countIssue c k) s.raw.toNat c code (s.hub.pc c) c.isLt ready
  rw [← ht] at f
  exact faulted_of c.isLt q (.refl _) f

end

/-- A pair is delivered, and the instruction goes on: `h2` has the registers of the counted hub. -/
theorem pairDelivered {s t : State} {c : CtxIx} {d : Fin 8} {v : Word × Word} {h2 : Hub}
    (counts : CountedIn c 1 s.hub (s.hub.countIssue c 1)) (regs : ∀ a, h2.rd a = (s.hub.countIssue c 1).rd a)
    (slots : (h2.ctx c).slots = ((s.hub.countIssue c 1).ctx c).slots)
    (ht : t.hub = (h2.setPair c (2 * d.val) v).setPc c (s.hub.pc c + 1)) :
    t.hub.g c (2 * d.val) = v.1 ∧ t.hub.g c (2 * d.val + 1) = v.2 ∧ t.hub.pc c = (s.hub.pc c + 1) % 2 ^ 14 ∧
      counted c 1 s t ∧ regsKept (fun a => issueReg c a || pairReg c (2 * d.val) a) s t := by
  obtain ⟨lo, hi, others⟩ := h2.setPair_same c (2 * d.val) v
  obtain ⟨pc, count⟩ := counts.goesOn ht
    (fun a ha => (others a (pairReg_not_count c.isLt (by omega) ha)).trans (regs a)) slots
  refine ⟨?_, ?_, pc, count, counts.regsKept ht _ fun a ha => (others a ha).trans (regs a)⟩
  · rw [ht, Hub.g, Hub.setPc, Hub.rd_wr_other _ _ _ _ (Untouched.ctxG c.isLt (by omega)).pc]
    exact lo
  · rw [ht, Hub.g, Hub.setPc, Hub.rd_wr_other _ _ _ _ (Untouched.ctxG c.isLt (by omega)).pc]
    exact hi

/-- A context's buffer of port `q` with `n` elements fewer. -/
def Ctx.consume (q n : Nat) (x : Ctx) : Ctx := { x with bufs := SMap.put x.bufs q { x.buf q with fill := (x.buf q).fill - n } }

/-- What TAKE does once it is issued (R238). -/
def takeFx (c d : Nat) (p : PortSel) (n : Nat) (h : Hub) : Fx :=
  if h.isInput c (h.portOf c p) = false then { hub := h, fault := some (ESTATE, false) }
  else if ((h.ctx c).buf (h.portOf c p)).fill < n then { hub := h, fault := some (ESIZE, false) }
  else { hub := (h.modCtx c (Ctx.consume (h.portOf c p) n)).setPair c d (h.portElem c (h.portOf c p) (n - 1)) }

theorem take_eq (r c d : Nat) (p : PortSel) (n : Nat) (h : Hub) :
    take r c d p n h = h.issue r c 1 { g := d :: (d + 1) :: p.srcs } (takeFx c d p n) := by
  unfold take takeFx
  simp only [Bool.not_eq_true']
  rfl

theorem exec_amixelTake {s : State} {c : CtxIx} {d : Fin 8} {p : PortSel} {m : Fin 256}
    (e : comesTo c (.take d p m) 1 { g := (2 * d.val) :: (2 * d.val + 1) :: p.srcs } s) {x : Fx}
    (hx : takeFx c (2 * d.val) p (m.val + 1) (s.hub.countIssue c 1) = x) :
    exec (.amixelTake c) s = .next { s with hub := x.done s.raw.toNat c (s.hub.pc c) } := by
  have through := issue_of_comesTo e (takeFx c (2 * d.val) p (m.val + 1))
  obtain ⟨powered, fetched, -⟩ := e
  change execAmixelTake c s = _
  simp only [execAmixelTake, State.onHub_powered _ _ powered, fetched, take_eq, through, hx]

/-- TAKE (R238): the last of `m + 1` elements, which are consumed. -/
theorem execAmixelTake_spec (s : State) (c : CtxIx) (d : Fin 8) (p : PortSel) (m : Fin 256)
    (e : comesTo c (.take d p m) 1 { g := (2 * d.val) :: (2 * d.val + 1) :: p.srcs } s) :
    let q := s.hub.portOf c p
    (s.hub.isInput c q = true → m.val < ((s.hub.ctx c).buf q).fill → ∃ t, exec (.amixelTake c) s = .next t ∧
      t.hub.g c (2 * d.val) = (s.hub.portElem c q m).1 ∧ t.hub.g c (2 * d.val + 1) = (s.hub.portElem c q m).2 ∧
      ((t.hub.ctx c).buf q).fill = ((s.hub.ctx c).buf q).fill - (m.val + 1) ∧ t.hub.pc c = (s.hub.pc c + 1) % 2 ^ 14 ∧
      counted c 1 s t ∧ t.hub.dome = s.hub.dome ∧ regsKept (fun a => issueReg c a ||
        a == Addr.CTX_G (c / 64) (c % 64) (2 * d.val) || a == Addr.CTX_G (c / 64) (c % 64) (2 * d.val + 1)) s t) ∧
    (s.hub.isInput c q = true → ((s.hub.ctx c).buf q).fill ≤ m.val →
      ∃ t, exec (.amixelTake c) s = .next t ∧ faulted c 1 ESIZE s t) ∧
    (s.hub.isInput c q = false → ∃ t, exec (.amixelTake c) s = .next t ∧ faulted c 1 ESTATE s t) := by
  intro q
  obtain ⟨counts, ready⟩ := counted_of_comesTo e
  have port : q < 64 := s.hub.portOf_lt c p
  have sel : (s.hub.countIssue c 1).portOf c p = q := counts.portOf c.isLt p
  have body : takeFx c (2 * d.val) p (m.val + 1) (s.hub.countIssue c 1) =
      if s.hub.isInput c q = false then { hub := s.hub.countIssue c 1, fault := some (ESTATE, false) }
      else if ((s.hub.ctx c).buf q).fill < m.val + 1 then { hub := s.hub.countIssue c 1, fault := some (ESIZE, false) }
      else { hub :=
        ((s.hub.countIssue c 1).modCtx c (Ctx.consume q (m.val + 1))).setPair c (2 * d.val) (s.hub.portElem c q m) } := by
    rw [takeFx, sel, counts.isInput port, counts.buf, counts.portElem port, Nat.add_sub_cancel]
  refine ⟨fun input long => ?performed, fun input short => ?short, fun closed => ?closed⟩
  case short =>
    exact ⟨_, exec_amixelTake e (body.trans (by rw [if_neg (by simp [input]), if_pos (by omega)])),
      faults_only counts ready _ rfl⟩
  case closed => exact ⟨_, exec_amixelTake e (body.trans (if_pos closed)), faults_only counts ready _ rfl⟩
  case performed =>
    refine ⟨_, exec_amixelTake e (body.trans (by rw [if_neg (by simp [input]), if_neg (by omega)])), ?_⟩
    have ctx := (s.hub.countIssue c 1).ctx_modCtx_same c (Ctx.consume q (m.val + 1))
    obtain ⟨lo, hi, pc, count, regs⟩ := pairDelivered (t := { s with hub := _ }) (d := d) (v := s.hub.portElem c q m) counts
      (h2 := (s.hub.countIssue c 1).modCtx c (Ctx.consume q (m.val + 1))) (fun _ => rfl) (by rw [ctx]; rfl) rfl
    refine ⟨lo, hi, ?_, pc, count, counts.dome, fun a ha => regs a ((Bool.or_assoc ..).symm.trans ha)⟩
    refine (congrArg (fun x => (Ctx.buf x q).fill) ctx).trans ?_
    rw [Ctx.consume, ← counts.buf]
    exact congrArg PortBuf.fill (SMap.get_put_same ..)

/-- What PEEK does once it is issued (R238). -/
def peekFx (c d : Nat) (p : PortSel) (i : Nat) (h : Hub) : Fx :=
  if h.isInput c (h.portOf c p) = false then { hub := h, fault := some (ESTATE, false) }
  else if ((h.ctx c).buf (h.portOf c p)).fill < i + 1 then { hub := h, fault := some (ESIZE, false) }
  else { hub := h.setPair c d (h.portElem c (h.portOf c p) i) }

theorem peek_eq (r c d : Nat) (p : PortSel) (i : Nat) (h : Hub) :
    peek r c d p i h = h.issue r c 1 { g := d :: (d + 1) :: p.srcs } (peekFx c d p i) := by
  unfold peek peekFx
  simp only [Bool.not_eq_true']

theorem exec_amixelPeek {s : State} {c : CtxIx} {d : Fin 8} {p : PortSel} {m : Fin 256}
    (e : comesTo c (.peek d p m) 1 { g := (2 * d.val) :: (2 * d.val + 1) :: p.srcs } s) {x : Fx}
    (hx : peekFx c (2 * d.val) p m (s.hub.countIssue c 1) = x) :
    exec (.amixelPeek c) s = .next { s with hub := x.done s.raw.toNat c (s.hub.pc c) } := by
  have through := issue_of_comesTo e (peekFx c (2 * d.val) p m)
  obtain ⟨powered, fetched, -⟩ := e
  change execAmixelPeek c s = _
  simp only [execAmixelPeek, State.onHub_powered _ _ powered, fetched, peek_eq, through, hx]

/-- PEEK (R238): an element of the buffer, which stays. -/
theorem execAmixelPeek_spec (s : State) (c : CtxIx) (d : Fin 8) (p : PortSel) (m : Fin 256)
    (e : comesTo c (.peek d p m) 1 { g := (2 * d.val) :: (2 * d.val + 1) :: p.srcs } s) :
    let q := s.hub.portOf c p
    (s.hub.isInput c q = true → m.val < ((s.hub.ctx c).buf q).fill → ∃ t, exec (.amixelPeek c) s = .next t ∧
      t.hub.g c (2 * d.val) = (s.hub.portElem c q m).1 ∧ t.hub.g c (2 * d.val + 1) = (s.hub.portElem c q m).2 ∧
      issued c 1 (s.hub.pc c + 1) (fun a => a == Addr.CTX_G (c / 64) (c % 64) (2 * d.val) ||
        a == Addr.CTX_G (c / 64) (c % 64) (2 * d.val + 1)) s t) ∧
    (s.hub.isInput c q = true → ((s.hub.ctx c).buf q).fill ≤ m.val →
      ∃ t, exec (.amixelPeek c) s = .next t ∧ faulted c 1 ESIZE s t) ∧
    (s.hub.isInput c q = false → ∃ t, exec (.amixelPeek c) s = .next t ∧ faulted c 1 ESTATE s t) := by
  intro q
  obtain ⟨counts, ready⟩ := counted_of_comesTo e
  have port : q < 64 := s.hub.portOf_lt c p
  have sel : (s.hub.countIssue c 1).portOf c p = q := counts.portOf c.isLt p
  have body : peekFx c (2 * d.val) p m (s.hub.countIssue c 1) =
      if s.hub.isInput c q = false then { hub := s.hub.countIssue c 1, fault := some (ESTATE, false) }
      else if ((s.hub.ctx c).buf q).fill < m.val + 1 then { hub := s.hub.countIssue c 1, fault := some (ESIZE, false) }
      else { hub := (s.hub.countIssue c 1).setPair c (2 * d.val) (s.hub.portElem c q m) } := by
    rw [peekFx, sel, counts.isInput port, counts.buf, counts.portElem port]
  refine ⟨fun input long => ?performed, fun input short => ?short, fun closed => ?closed⟩
  case short =>
    exact ⟨_, exec_amixelPeek e (body.trans (by rw [if_neg (by simp [input]), if_pos (by omega)])),
      faults_only counts ready _ rfl⟩
  case closed => exact ⟨_, exec_amixelPeek e (body.trans (if_pos closed)), faults_only counts ready _ rfl⟩
  case performed =>
    refine ⟨_, exec_amixelPeek e (body.trans (by rw [if_neg (by simp [input]), if_neg (by omega)])), ?_⟩
    obtain ⟨lo, hi, pc, count, regs⟩ := pairDelivered (t := { s with hub := _ }) (d := d) (v := s.hub.portElem c q m) counts
      (h2 := s.hub.countIssue c 1) (fun _ => rfl) rfl rfl
    refine ⟨lo, hi, pc, count, ?_, counts.ctx, counts.others, regs⟩
    have rest := counts.rest
    generalize s.hub.countIssue c 1 = h1 at rest
    rw [rest]
    rfl

/-! ### EMIT (R239, R240) -/

/-- The output port that EMIT names (R239). -/
def Hub.emitPort (h : Hub) (c : Nat) (sel : EmitSel) : OutPort := SMap.get {} (h.ctx c).ports (h.emitPorts c sel).1

/-- The flag byte of the element of the pair at `d`, bits 4 and 6 cleared. -/
def Hub.emitFlags (h : Hub) (c d : Nat) : Nat := bitsOf (h.g c (d + 1)) 0 8 &&& 0xAF

/-- Its value word, which in format 0 holds the flag byte. -/
def Hub.emitValue (h : Hub) (c d fmt : Nat) : Word :=
  if fmt = 0 then (h.g c d &&& 0xFFFFFF00#32) ||| wd (h.emitFlags c d) else h.g c d

/-- Its index: congruent to the pair's, and nearest to the time port's latest. -/
def Hub.emitIndex (h : Hub) (c d : Nat) (sel : EmitSel) : Int :=
  indexNear ((h.ctx c).buf (h.emitPorts c sel).2).kref (bitsOf (h.g c (d + 1)) 8 24)

/-- Period and epoch of the port's stream, the time port's at its first EMIT. -/
def Hub.emitClock (h : Hub) (c : Nat) (sel : EmitSel) : Nat × Nat :=
  if (h.emitPort c sel).fmt.isNone then h.portClock c (h.emitPorts c sel).2
  else ((h.emitPort c sel).period, (h.emitPort c sel).epochS)

/-- Its instant. -/
def Hub.emitInst (h : Hub) (c d : Nat) (sel : EmitSel) : Nat :=
  (((h.emitClock c sel).2 : Int) + h.emitIndex c d sel * ((h.emitClock c sel).1 : Nat)).toNat

/-- EMIT goes through: a bound output and a channel as time port, the stream's format, a finite binary32, a later instant, a
full bucket, and an enabled stream. -/
structure Hub.Emits (h : Hub) (c d fmt : Nat) (sel : EmitSel) : Prop where
  output : h.isOutput c (h.emitPorts c sel).1 = true
  timed : h.portKind c (h.emitPorts c sel).2 = 1
  format : (h.emitPort c sel).fmt = none ∨ (h.emitPort c sel).fmt = some fmt
  finite : fmt = 2 → (f32Of (h.emitValue c d fmt)).isFin = true
  later : ∀ x, (h.emitPort c sel).lastInst = some x → x < h.emitInst c d sel
  bucket : (h.emitPort c sel).tokens = none
  stream : h.streamOn (h.portSrc c (h.emitPorts c sel).1) = true

/-- The element that EMIT hands to the Ledger. -/
structure Hub.Emitted (h : Hub) (c d fmt : Nat) (sel : EmitSel) (e : LedElem) : Prop where
  stream : e.stream = h.portSrc c (h.emitPorts c sel).1
  kind : e.kind = .derived
  value : e.value = h.emitValue c d fmt
  flags : e.flags = h.emitFlags c d
  fmt : e.fmt = fmt
  inst : e.inst = h.emitInst c d sel
  period : e.period = (h.emitClock c sel).1
  epoch : e.epochS = (h.emitClock c sel).2
  seq : e.seq = some (unsigned 48 (h.emitIndex c d sel))

/-- A full bucket holds an element (R240). -/
theorem bucketTake_full (rate at0 now : Nat) : ∃ left, bucketTake rate none at0 now = some left := by
  have holds : 65536000000000 ≤ max 1 ((rate + 99) / 100) * 65536000000000 := Nat.le_mul_of_pos_left _ (by omega)
  exact ⟨_, if_pos holds⟩

/-- Feeding ports touches only what is on its way to STAGE (R217). -/
theorem Hub.feedPorts_same (h : Hub) (kind src : Nat) (e : PortElem) :
    h.feedPorts kind src e = { h with stageIn := (h.feedPorts kind src e).stageIn } := by
  refine forIn'_keeps (fun g => g = { h with stageIn := g.stageIn }) _ (fun x g same => ?_) _ h rfl
  dsimp only
  split
  · rw [same]
  · exact same

/-- An element of an enabled stream is handed to the Ledger, and fed to ports (R239). -/
theorem Hub.emitElem_same (h : Hub) (e : LedElem) (k : Nat) (on : h.streamOn e.stream = true) :
    h.emitElem e k = { h with led.inQ := h.led.inQ ++ [e], stageIn := (h.emitElem e k).stageIn } := by
  unfold Hub.emitElem
  rw [if_pos on]
  exact Hub.feedPorts_same ..

/-- An element handed over from a hub that differs from `h` in no register, no byte of the Dome and no slot. -/
theorem emitElem_hands {h g : Hub} {c d fmt k : Nat} {sel : EmitSel} {e : LedElem} (on : g.streamOn e.stream = true)
    (elem : h.Emitted c d fmt sel e) (inQ : g.led.inQ = h.led.inQ) (regs : g.regs = h.regs) (dome : g.dome = h.dome)
    (slots : (g.ctx c).slots = (h.ctx c).slots) :
    ∃ h' e', ({ hub := g.emitElem e k } : Fx) = { hub := h' } ∧ h.Emitted c d fmt sel e' ∧ h'.led.inQ = h.led.inQ ++ [e'] ∧
      h'.regs = h.regs ∧ h'.dome = h.dome ∧ (h'.ctx c).slots = (h.ctx c).slots := by
  refine ⟨g.emitElem e k, e, rfl, elem, ?_⟩
  rw [g.emitElem_same e k on]
  exact ⟨congrArg (· ++ [e]) inQ, regs, dome, slots⟩

/-- Everything the statements ask of EMIT: it faults on a port that is no output, and hands its element over where nothing
prevents it (R239, R240). -/
theorem emit_cases (r c d fmt : Nat) (sel : EmitSel) : ∃ f : Hub → Fx,
    (∀ h, emit r c d fmt sel h = h.issue r c 1 { g := d :: (d + 1) :: sel.srcs } f) ∧
    (∀ h, h.isOutput c (h.emitPorts c sel).1 = false → f h = { hub := h, fault := some (ESTATE, false) }) ∧
    ∀ h, h.Emits c d fmt sel → ∃ h' e, f h = { hub := h' } ∧ h.Emitted c d fmt sel e ∧ h'.led.inQ = h.led.inQ ++ [e] ∧
      h'.regs = h.regs ∧ h'.dome = h.dome ∧ (h'.ctx c).slots = (h.ctx c).slots := by
  refine ⟨_, fun h => rfl, fun h closed => ?_, fun h e => ?_⟩
  · dsimp only
    rw [closed]
    rfl
  · obtain ⟨output, timed, format, finite, later, bucket, stream⟩ := e
    have open_ : ¬ (!h.isOutput c (h.emitPorts c sel).1) = true := by simp [output]
    have same : ¬ ((h.emitPort c sel).fmt.map (· != fmt)).getD false = true := by
      rcases format with e | e <;> simp [e]
    have number : ¬ (decide (fmt = 2) && !(f32Of (h.emitValue c d fmt)).isFin) = true := by
      by_cases e : fmt = 2
      · simp [finite e]
      · simp [e]
    have late : ¬ ((h.emitPort c sel).lastInst.map fun t => decide (h.emitInst c d sel ≤ t)).getD false = true := by
      cases e : (h.emitPort c sel).lastInst with
      | none => simp
      | some t => simpa using later t e
    obtain ⟨left, full⟩ := bucketTake_full (h.rd (Addr.CTX_PORT_LIM (c / 64) (c % 64) (h.emitPorts c sel).1)).toNat
      (h.emitPort c sel).refilled (h.timeAt r)
    rw [← bucket] at full
    dsimp only
    change ∃ h' e, (if (!h.isOutput c (h.emitPorts c sel).1) = true then _
      else if h.portKind c (h.emitPorts c sel).2 ≠ 1 then _
      else if ((h.emitPort c sel).fmt.map (· != fmt)).getD false = true then _
      else if (decide (fmt = 2) && !(f32Of (h.emitValue c d fmt)).isFin) = true then _
      else if ((h.emitPort c sel).lastInst.map fun t => decide (h.emitInst c d sel ≤ t)).getD false = true then _
      else _) = _ ∧ _
    rw [if_neg open_, if_neg (not_not.mpr timed), if_neg same, if_neg number, if_neg late]
    rw [Hub.emitPort] at full
    rw [full]
    dsimp only
    exact emitElem_hands stream ⟨rfl, rfl, rfl, rfl, rfl, rfl, rfl, rfl, rfl⟩ rfl rfl rfl (by rw [Hub.ctx_modCtx_same]; rfl)

section
variable {c k : Nat} {h h1 : Hub} (q : CountedIn c k h h1)
include q

theorem CountedIn.active (a : Nat) : h1.active a = h.active a := by rw [q.rest]; rfl

theorem CountedIn.streamOn (s : Nat) : h1.streamOn s = h.streamOn s := by rw [Hub.streamOn, q.active]; rfl

theorem CountedIn.emitPorts (hc : c < 256) (sel : EmitSel) : h1.emitPorts c sel = h.emitPorts c sel := by
  cases sel with
  | direct p tp => rfl
  | indirect gr => rw [Hub.emitPorts, q.g hc gr.isLt]; rfl

/-- The clock of an input port stands through the count. -/
theorem CountedIn.portClock {p : Nat} (hp : p < 64) : h1.portClock c p = h.portClock c p := by
  have src : h.portSrc c p < 1024 := Nat.mod_lt _ (by decide)
  have filt : ∀ n ch, h1.filtCfg n ch = h.filtCfg n ch := fun n ch => by rw [q.rest]; rfl
  have epoch : h1.epoch (h.portSrc c p / 32) = h.epoch (h.portSrc c p / 32) := by
    have at_ : Addr.FI_EPOCH0 (h.portSrc c p / 32) + 8 < 0x43000000 := by simp only [Addr.FI_EPOCH0]; omega
    rw [Hub.epoch, Hub.instAt, q.low (by omega), q.low (by omega), q.low (by omega)]
    rfl
  have stream : ∀ s, h1.stream s = h.stream s := fun s => by rw [q.rest]; rfl
  have chan : ∀ g, h1.chan g = h.chan g := fun g => by rw [q.rest]; rfl
  simp only [Hub.portClock, q.portSrc hp, q.portKind hp, filt, epoch, stream, chan]

end

theorem Hub.emitPorts_lt (h : Hub) (c : Nat) (sel : EmitSel) : (h.emitPorts c sel).1 < 64 ∧ (h.emitPorts c sel).2 < 64 := by
  cases sel with
  | direct p tp => exact ⟨p.isLt, tp.isLt.trans (by decide)⟩
  | indirect gr => exact ⟨Nat.mod_lt _ (by decide), (Nat.mod_lt _ (by decide : 0 < 2 ^ 5)).trans (by decide)⟩

/-- What EMIT reads stands through the count of the instruction. -/
theorem CountedIn.emit {c k d : Nat} {h h1 : Hub} (q : CountedIn c k h h1) (hc : c < 256) (hd : d + 1 < 16) (sel : EmitSel) :
    h1.emitPort c sel = h.emitPort c sel ∧ h1.emitFlags c d = h.emitFlags c d ∧
      (∀ fmt, h1.emitValue c d fmt = h.emitValue c d fmt) ∧ h1.emitIndex c d sel = h.emitIndex c d sel ∧
      h1.emitClock c sel = h.emitClock c sel ∧
      h1.emitInst c d sel = h.emitInst c d sel := by
  obtain ⟨-, tp⟩ := h.emitPorts_lt c sel
  have port : h1.emitPort c sel = h.emitPort c sel := by rw [Hub.emitPort, q.emitPorts hc, q.ctx]; rfl
  have flags : h1.emitFlags c d = h.emitFlags c d := by rw [Hub.emitFlags, q.g hc hd]; rfl
  have index : h1.emitIndex c d sel = h.emitIndex c d sel := by rw [Hub.emitIndex, q.emitPorts hc, q.buf, q.g hc hd]; rfl
  have clock : h1.emitClock c sel = h.emitClock c sel := by
    rw [Hub.emitClock, port, q.emitPorts hc, q.portClock tp]
    rfl
  refine ⟨port, flags, fun fmt => ?_, index, clock, ?_⟩
  · rw [Hub.emitValue, flags, q.g hc (by omega)]
    rfl
  · rw [Hub.emitInst, clock, index]
    rfl

/-- EMIT goes through on the counted hub where it does on the hub before, and hands the same element over. -/
theorem CountedIn.emits {c k d fmt : Nat} {h h1 : Hub} (q : CountedIn c k h h1) (hc : c < 256) (hd : d + 1 < 16) (sel : EmitSel) :
    (h.Emits c d fmt sel → h1.Emits c d fmt sel) ∧ ∀ e, h1.Emitted c d fmt sel e → h.Emitted c d fmt sel e := by
  obtain ⟨port, flags, value, index, clock, inst⟩ := q.emit hc hd sel
  obtain ⟨out, tp⟩ := h.emitPorts_lt c sel
  refine ⟨fun ⟨o, t, f, n, l, b, s⟩ => ⟨?_, ?_, ?_, ?_, ?_, ?_, ?_⟩,
    fun e ⟨s, k, v, f, m, i, p, o, n⟩ => ⟨?_, k, ?_, ?_, m, ?_, ?_, ?_, ?_⟩⟩
  all_goals simp only [q.emitPorts hc, q.isOutput out, q.portKind tp, q.portSrc out, q.streamOn, port, flags, value, index, clock,
    inst] at *
  all_goals assumption

/-- EMIT (R239, R240): its element goes to the Ledger, or it faults on a port that is no output. -/
theorem execAmixelEmit_spec (s : State) (c : CtxIx) (d : Fin 8) (f : Fin 3) (p : EmitSel)
    (e : comesTo c (.emit d f p) 1 { g := (2 * d.val) :: (2 * d.val + 1) :: p.srcs } s) :
    (s.hub.Emits c (2 * d.val) f p → ∃ t, exec (.amixelEmit c) s = .next t ∧ t.hub.pc c = (s.hub.pc c + 1) % 2 ^ 14 ∧
      counted c 1 s t ∧
      (∃ x : LedElem, t.hub.led.inQ = s.hub.led.inQ ++ [x] ∧ s.hub.Emitted c (2 * d.val) f p x) ∧ t.hub.dome = s.hub.dome ∧
      regsKept (issueReg c) s t) ∧
    (s.hub.isOutput c (s.hub.emitPorts c p).1 = false → ∃ t, exec (.amixelEmit c) s = .next t ∧ faulted c 1 ESTATE s t) := by
  obtain ⟨counts, ready⟩ := counted_of_comesTo e
  obtain ⟨row, isRow, closed, performs⟩ := emit_cases s.raw.toNat c (2 * d.val) f p
  have run : exec (.amixelEmit c) s =
      .next { s with hub := (row (s.hub.countIssue c 1)).done s.raw.toNat c (s.hub.pc c) } := by
    have through := issue_of_comesTo e row
    obtain ⟨powered, fetched, -⟩ := e
    change execAmixelEmit c s = _
    simp only [execAmixelEmit, State.onHub_powered _ _ powered, fetched, isRow, through]
  obtain ⟨emits, emitted⟩ := counts.emits (fmt := f) c.isLt (show 2 * d.val + 1 < 16 by omega) p
  refine ⟨fun cond => ⟨_, run, ?_⟩, fun no => ⟨_, run, ?_⟩⟩
  · obtain ⟨h2, x, out, elem, inQ, regs, dome, slots⟩ := performs _ (emits cond)
    have reads : ∀ a, h2.rd a = (s.hub.countIssue c 1).rd a := fun a => by rw [Hub.rd, regs]; rfl
    rw [out]
    obtain ⟨pc, count⟩ := counts.goesOn (t := { s with hub := _ }) (h2 := h2) rfl (fun a _ => reads a) slots
    have kept := counts.regsKept (t := { s with hub := _ }) (h2 := h2) (n := s.hub.pc c + 1) rfl (fun _ => false) fun a _ => reads a
    simp only [Bool.or_false] at kept
    have inQ' : h2.led.inQ = s.hub.led.inQ ++ [x] := by rw [inQ, counts.rest]
    exact ⟨pc, count, ⟨x, inQ', emitted x elem⟩, dome.trans counts.dome, kept⟩
  · have no' : (s.hub.countIssue c 1).isOutput c ((s.hub.countIssue c 1).emitPorts c p).1 = false := by
      rw [counts.emitPorts c.isLt, counts.isOutput (s.hub.emitPorts_lt c p).1, no]
    exact faults_only counts ready ESTATE (congrArg (Fx.done · _ _ _) (closed _ no'))

/-! ### SEAL (R241) -/

/-- A stream without an open packet is sealed already. -/
theorem Hub.seal_none (h : Hub) (t s : Nat) (none : (h.stream s).opn = none) : h.seal t s = h := by
  unfold Hub.seal
  rw [none]

theorem countReg_notLedger {c a : Nat} (ha : countReg c a = true) (hc : c < 256) : inLedger a = false := by
  simp only [countReg, Bool.or_eq_true, beq_iff_eq, Addr.TUR_ISSUE_CNT, Addr.CTX_SLOTS_MAX] at ha
  rw [inLedger, Bool.and_eq_false_iff, decide_eq_false_iff_not, decide_eq_false_iff_not]
  omega

/-- What SEAL does once it is issued. -/
def sealFx (r c : Nat) (p : PortSel) (h : Hub) : Fx :=
  if h.isOutput c (h.portOf c p) = false then { hub := h, fault := some (ESTATE, false) }
  else { hub := (h.drainStream (h.timeAt r) (h.portSrc c (h.portOf c p))).seal (h.timeAt r) (h.portSrc c (h.portOf c p)) }

theorem sealPort_eq (r c : Nat) (p : PortSel) (h : Hub) : sealPort r c p h = h.issue r c 2 { g := p.srcs } (sealFx r c p) := by
  unfold sealPort sealFx
  simp only [Bool.not_eq_true']

/-- SEAL (R241): the port's stream has no open packet any more; with none before and nothing on its way, it does nothing. -/
theorem execAmixelSeal_spec (s : State) (c : CtxIx) (p : PortSel) (e : comesTo c (.seal_ p) 2 { g := p.srcs } s) :
    let q := s.hub.portOf c p
    (s.hub.isOutput c q = true →
      ∃ t, exec (.amixelSeal c) s = .next t ∧ t.hub.pc c = (s.hub.pc c + 1) % 2 ^ 14 ∧ counted c 2 s t ∧
        (t.hub.stream (s.hub.portSrc c q)).opn = none ∧ regsKept (fun a => issueReg c a || inLedger a) s t ∧
        ((∀ e ∈ s.hub.led.inQ, e.stream ≠ s.hub.portSrc c q) → (s.hub.stream (s.hub.portSrc c q)).opn = none →
          t.hub.queues = s.hub.queues ∧ t.hub.streams = s.hub.streams ∧ t.hub.dome = s.hub.dome ∧
          regsKept (issueReg c) s t)) ∧
    (s.hub.isOutput c q = false → ∃ t, exec (.amixelSeal c) s = .next t ∧ faulted c 2 ESTATE s t) := by
  intro q
  obtain ⟨counts, ready⟩ := counted_of_comesTo e
  have port : q < 64 := s.hub.portOf_lt c p
  have run : exec (.amixelSeal c) s = .next { s with hub :=
      (sealFx s.raw.toNat c p (s.hub.countIssue c 2)).done s.raw.toNat c (s.hub.pc c) } := by
    have through := issue_of_comesTo e (sealFx s.raw.toNat c p)
    obtain ⟨powered, fetched, -⟩ := e
    change execAmixelSeal c s = _
    simp only [execAmixelSeal, State.onHub_powered _ _ powered, fetched, sealPort_eq, through]
  let src := s.hub.portSrc c q
  let now := (s.hub.countIssue c 2).timeAt s.raw.toNat
  have body : sealFx s.raw.toNat c p (s.hub.countIssue c 2) =
      if s.hub.isOutput c q = false then { hub := s.hub.countIssue c 2, fault := some (ESTATE, false) }
      else { hub := ((s.hub.countIssue c 2).drainStream now src).seal now src } := by
    rw [sealFx, counts.portOf c.isLt p, counts.isOutput port, counts.portSrc port]
  refine ⟨fun output => ⟨_, run, ?_⟩, fun closed => ⟨_, run, ?_⟩⟩
  · rw [body, if_neg (by simp [output])]
    have sealed := ((s.hub.countIssue c 2).drainStream now src).seal_same now src
    have same := ((s.hub.countIssue c 2).drainStream_same now src).trans sealed.1
    obtain ⟨pc, count⟩ := counts.goesOn (t := { s with hub := _ }) (n := s.hub.pc c + 1) rfl
      (fun a ha => same.1 a (countReg_notLedger ha c.isLt)) (by rw [same.ctx])
    refine ⟨pc, count, sealed.2, counts.regsKept (t := { s with hub := _ }) rfl inLedger fun a ha => same.1 a ha,
      fun idle none => ?_⟩
    have nothing : ((s.hub.countIssue c 2).drainStream now src).seal now src = s.hub.countIssue c 2 := by
      have idle' : ∀ e ∈ (s.hub.countIssue c 2).led.inQ, e.stream ≠ src := by rw [counts.rest]; exact idle
      have none' : ((s.hub.countIssue c 2).stream src).opn = Option.none := by rw [counts.rest]; exact none
      rw [Hub.drainStream_idle _ _ _ idle', Hub.seal_none _ _ _ none']
    rw [nothing]
    have kept := counts.regsKept (t := { s with hub := _ }) (h2 := s.hub.countIssue c 2) (n := s.hub.pc c + 1) rfl
      (fun _ => false) fun _ _ => rfl
    simp only [Bool.or_false] at kept
    refine ⟨?_, ?_, counts.dome, kept⟩
    · exact (congrArg Hub.queues counts.rest :)
    · exact (congrArg Hub.streams counts.rest :)
  · exact faults_only counts ready ESTATE (congrArg (Fx.done · _ _ _) (body.trans (if_pos closed)))

theorem Hub.emitClock_eq (h : Hub) (c : Nat) (sel : EmitSel) : h.emitClock c sel =
    if (h.emitPort c sel).fmt = none then h.portClock c (h.emitPorts c sel).2
    else ((h.emitPort c sel).period, (h.emitPort c sel).epochS) := by simp only [Hub.emitClock, Option.isNone_iff_eq_none]

/-- Settles O38: an instruction that a context comes to is counted and then does what its row says, which for each of them is
read off its function; a completion is one function of the hub. -/
theorem memoryAndStreamInstructions : Obligations.MemoryAndStreamInstructions := by
  refine ⟨fun s c z d a imm e => ?ld, fun s c z d a imm e => ?st, fun s c n a imm => ?wide,
    fun s c k a n pc p sound => ⟨execLoadComplete_g_spec p sound, execLoadComplete_w_spec p sound⟩,
    execStoreAccepted_spec, execAmixelTake_spec, execAmixelPeek_spec, fun s c d f p e => ?emit, execAmixelSeal_spec⟩
  case ld =>
    have spec := execAmixelLd_spec s c z d a imm e
    fin_cases z <;> exact spec
  case st =>
    have spec := execAmixelSt_spec s c z d a imm e
    fin_cases z <;> exact spec
  case wide =>
    exact ⟨fun e => (execAmixelLdw_spec s c n a imm e).1, fun e => (execAmixelStw_spec s c n a imm e).1, fun aligned =>
      ⟨fun e => (execAmixelLdw_spec s c n a imm e).2 aligned, fun e => (execAmixelStw_spec s c n a imm e).2 aligned⟩⟩
  case emit =>
    obtain ⟨performs, closed⟩ := execAmixelEmit_spec s c d f p e
    intro q tp o fl v k
    rw [show (if o.fmt = none then s.hub.portClock c tp else (o.period, o.epochS)) = s.hub.emitClock c p from
      (s.hub.emitClock_eq c p).symm]
    have value : s.hub.emitValue c (2 * d.val) f = v := by simp only [Hub.emitValue, Fin.val_eq_zero_iff, v, fl, Hub.emitFlags]
    refine ⟨fun output timed format finite later bucket stream => ?_, closed⟩
    have number : f.val = 2 → (f32Of (s.hub.emitValue c (2 * d.val) f)).isFin = true := fun e => by
      rw [value]
      exact finite (Fin.ext e)
    obtain ⟨t, run, pc, count, ⟨x, inQ, elem⟩, dome, regs⟩ :=
      performs ⟨output, timed, format, number, later, bucket, stream⟩
    exact ⟨t, run, pc, count, ⟨x, inQ, elem.stream, elem.kind, elem.value.trans value, elem.flags, elem.fmt, elem.inst,
      elem.period, elem.epoch, elem.seq⟩, dome, regs⟩

end Sys2Proof.Machine

/-!
SUPPORT. Permissions and region sizes (R11, R36, R37, R40 to R42, R300, R405): which access is performed, what a write of a region
size recomputes, and what it leaves of the Dome and of the Ledger's queues.
-/

namespace Sys2Proof.Machine

open Sys2Proof.Safety

/-! ### Permissions (R11, R36, R37, R405) -/

/-- JTAG is not locked out of an access: the master is another one, or the fuse of the debug lock is whole. -/
theorem jtag_unlocked {h : Hub} {m : Nat} (u : m = 8 → h.sys.otpLock = false) :
    (decide (m = jtag) && h.sys.otpLock) = false := by
  by_cases e : m = 8
  · rw [u e, Bool.and_false]
  · simp [jtag, e]

/-- An aligned access of the Dome is performed where the region's permissions reach. -/
theorem Hub.accessOk_aligned_dome (h : Hub) (m : Nat) (w : Bool) (a : Nat) (z : AccSize) (running : h.bootStage ≠ stageWAITHOST)
    (u : m = 8 → h.sys.otpLock = false) (d : a < domeSize) (aligned : a % z.bytes = 0) :
    h.accessOk m w a z.bytes = domeAllowed m w (h.region a) := by
  have size : z.bytes = 1 ∨ z.bytes = 2 ∨ z.bytes = 4 := by cases z <;> simp [AccSize.bytes]
  simp [Hub.accessOk, d, aligned, running, jtag_unlocked u, or_assoc, size]

/-- An aligned access of a mapped register is performed where the register permissions reach. -/
theorem Hub.accessOk_aligned_register (h : Hub) (m : Nat) (w : Bool) (a : Nat) (running : h.bootStage ≠ stageWAITHOST)
    (u : m = 8 → h.sys.otpLock = false) (d : domeSize ≤ a) (aligned : a % 4 = 0) (mapped : isMapped a = true) :
    h.accessOk m w a 4 = regAllowed m w a := by
  simp [Hub.accessOk, Nat.not_lt.mpr d, aligned, mapped, running, jtag_unlocked u]

theorem Hub.region_inside {h : Hub} {a : Nat} {g : Region} (e : h.region a = some g) : a < domeSize := by
  by_contra outside
  simp [Hub.region, Nat.not_lt.mp outside] at e

theorem domeAllowed_owner {m : Nat} (own : m = 0 ∨ m = 8) (w : Bool) (g : Region) : domeAllowed m w (some g) = true := by
  rcases own with rfl | rfl <;> rfl

theorem domeAllowed_turret {m : Nat} (low : 1 ≤ m) (high : m ≤ 4) (w : Bool) (g : Region) :
    domeAllowed m w (some g) = if w then decide (g = .data) || decide (g = .capture) else g != .journal := by
  have notOwner : ¬ (m = belfry ∨ m = jtag) := by simp only [belfry, jtag]; omega
  simp [domeAllowed, if_neg notOwner, low, high]

theorem domeAllowed_host {m : Nat} (host : m = 5 ∨ m = 6) (w : Bool) (g : Region) :
    domeAllowed m w (some g) = if w then decide (g = .system) || decide (g = .data) else true := by
  rcases host with rfl | rfl <;> simp [domeAllowed, belfry, jtag, spi, uplink]

theorem domeAllowed_twin (w : Bool) (g : Region) : domeAllowed 7 w (some g) = (w && decide (g = .mirror)) := by
  simp [domeAllowed, belfry, jtag, spi, uplink, twin]

/-- The register permissions of R37, master by master. -/
theorem regAllowed_iff {m : Nat} (hm : m < 9) (w : Bool) (a : Nat) :
    regAllowed m w a = true ↔
      w = false ∨ (0x40000000 ≤ a ∧ a < 0x40005000) ∨ m = 0 ∨ m = 5 ∨ m = 6 ∨ m = 8 ∨
      (1 ≤ m ∧ m ≤ 4 ∧ 0x43040000 + 0x100000 * (m - 1) ≤ a ∧ a < 0x43050000 + 0x100000 * (m - 1)) := by
  cases w with
  | false => simp [regAllowed]
  | true =>
    by_cases control : 0x40000000 ≤ a ∧ a < 0x40005000
    · simp [regAllowed, isControl, control]
    · have block : isControl a = false := by simpa [isControl] using control
      by_cases turret : 1 ≤ m ∧ m ≤ 4
      · simp [regAllowed, isWindow, block, control, turret]
        omega
      · simp [regAllowed, twin, block, control, turret]
        omega

/-- The table of R37: which master reads and writes which region of the Dome. -/
theorem domeAllowed_iff (m : MasterIx) (w : Bool) (g : Region) :
    domeAllowed m w (some g) = true ↔
      match m.val, g, w with
      | 0, _, _ => True
      | 8, _, _ => True
      | 5, .system, _ => True
      | 5, .data, _ => True
      | 5, _, w => w = false
      | 6, .system, _ => True
      | 6, .data, _ => True
      | 6, _, w => w = false
      | 7, .mirror, w => w = true
      | 7, _, _ => False
      | _, .data, _ => True
      | _, .capture, _ => True
      | _, .journal, _ => False
      | _, _, w => w = false := by
  obtain ⟨m, hm⟩ := m
  have who : (m = 0 ∨ m = 8) ∨ (m = 5 ∨ m = 6) ∨ m = 7 ∨ (1 ≤ m ∧ m ≤ 4) := by omega
  rcases who with own | host | rfl | ⟨low, high⟩
  · rw [domeAllowed_owner own]
    rcases own with rfl | rfl <;> cases g <;> simp
  · rw [domeAllowed_host host]
    rcases host with rfl | rfl <;> cases g <;> simp
  · rw [domeAllowed_twin]
    cases g <;> simp
  · rw [domeAllowed_turret low high]
    interval_cases m <;> cases g <;> simp

/-- With the debug lock blown no access of JTAG is performed (R405). -/
theorem Hub.accessOk_locked (h : Hub) (w : Bool) (a n : Nat) (blown : h.sys.otpLock = true) : h.accessOk 8 w a n = false := by
  simp [Hub.accessOk, jtag, blown]

/-! ### A write of a region size (R41) -/

/-- The size register of region `i`: STAGE, DATA, MIRROR and CAPTURE, in the order of their places in the Dome. -/
def Hub.regionSize (h : Hub) (i : Nat) : Nat := h.fld (Addr.SYS_DOME_STAGE_SIZE + 4 * i) 0 10

theorem Hub.regionSize_lt (h : Hub) (i : Nat) : h.regionSize i < 1024 := Nat.mod_lt _ (by decide)

/-- The size of region `i` once `v` is written to the size register of region `k`. -/
def Hub.sizeAfter (h : Hub) (k : Nat) (v : Word) (i : Nat) : Nat :=
  if i = k then bitsOf v 0 10 else h.regionSize i

/-- The sizes of the four regions that a master may size, together. -/
def Hub.sizesAfter (h : Hub) (k : Nat) (v : Word) : Nat :=
  h.sizeAfter k v 0 + h.sizeAfter k v 1 + h.sizeAfter k v 2 + h.sizeAfter k v 3

/-- The hub with the size written and nothing recomputed. -/
def Hub.sizeWritten (h : Hub) (k : Nat) (v : Word) : Hub := h.wr (Addr.SYS_DOME_STAGE_SIZE + 4 * k) (v &&& 0x3FF#32)

theorem bitsOf_and_low (v : Word) : bitsOf (v &&& 0x3FF#32) 0 10 = bitsOf v 0 10 := by
  simp only [bitsOf, pow_zero, Nat.div_one, BitVec.toNat_and, BitVec.toNat_ofNat]
  rw [Nat.and_two_pow_sub_one_eq_mod v.toNat 10, Nat.mod_mod]

theorem Hub.regionSize_sizeWritten (h : Hub) (k : Nat) (v : Word) (i : Nat) :
    (h.sizeWritten k v).regionSize i = h.sizeAfter k v i := by
  by_cases e : i = k
  · simp [Hub.sizeWritten, Hub.regionSize, Hub.fld, Hub.sizeAfter, e, bitsOf_and_low]
  · have other : Addr.SYS_DOME_STAGE_SIZE + 4 * i ≠ Addr.SYS_DOME_STAGE_SIZE + 4 * k := by omega
    simp [Hub.sizeWritten, Hub.regionSize, Hub.fld, Hub.sizeAfter, e, Hub.rd_wr_other _ _ _ _ other]

theorem Hub.regionGranules_eq (h : Hub) :
    h.regionGranules = 2 + (h.regionSize 0 + h.regionSize 1 + h.regionSize 2 + h.regionSize 3) := by
  simp only [Hub.regionGranules, Nat.add_assoc]
  rfl

theorem Hub.regionGranules_sizeWritten (h : Hub) (k : Nat) (v : Word) :
    (h.sizeWritten k v).regionGranules = 2 + h.sizesAfter k v := by
  simp only [Hub.regionGranules_eq, Hub.regionSize_sizeWritten, Hub.sizesAfter]

/-- A size register is a row of its own in the register map. -/
theorem regRef_regionSize (k : RegionIx) :
    (regRef (Addr.SYS_DOME_STAGE_SIZE + 4 * k)).map (fun x => x.row.base) = some (Addr.SYS_DOME_STAGE_SIZE + 4 * k) := by
  revert k
  decide +kernel

theorem planRestricted_regionSize (k : RegionIx) : planRestricted (Addr.SYS_DOME_STAGE_SIZE + 4 * k) = false := by
  revert k
  decide +kernel

/-- A size register refuses no value, in no mode, before DOME_REGION_SIZE_WRITE looks at it. -/
theorem regStore_regionSize (h : Hub) (r m : Nat) (k : RegionIx) (v : Word) :
    h.regStore r m (Addr.SYS_DOME_STAGE_SIZE + 4 * k) v = domeSizeStore r m (Addr.SYS_DOME_STAGE_SIZE + 4 * k) v h := by
  obtain ⟨x, row, base⟩ := Option.map_eq_some_iff.mp (regRef_regionSize k)
  have noCurve : isCurveWord (Addr.SYS_DOME_STAGE_SIZE + 4 * k) = false := by
    fin_cases k <;> rfl
  have block : (Addr.SYS_DOME_STAGE_SIZE + 4 * k.val) / 0x1000000 = 0x40 := by simp only [Addr.SYS_DOME_STAGE_SIZE]; omega
  have system : ¬ Addr.SYS_DOME_STAGE_SIZE + 4 * k.val < 0x40004000 := by simp only [Addr.SYS_DOME_STAGE_SIZE]; omega
  have free : reservedValue (Addr.SYS_DOME_STAGE_SIZE + 4 * k) x.i v = false := by
    fin_cases k <;> rfl
  have anyMode : h.modeRefuses (Addr.SYS_DOME_STAGE_SIZE + 4 * k) = false := by
    fin_cases k <;> simp [Hub.modeRefuses, Addr.SYS_DOME_STAGE_SIZE, Addr.INRUSH_CFG, Addr.SEL_TIMING]
  have sizes : (decide (Addr.SYS_DOME_STAGE_SIZE + 4 * k.val = Addr.SYS_DOME_STAGE_SIZE) ||
      decide (Addr.SYS_DOME_STAGE_SIZE + 4 * k.val = Addr.SYS_DOME_DATA_SIZE) ||
      decide (Addr.SYS_DOME_STAGE_SIZE + 4 * k.val = Addr.SYS_DOME_MIRROR_SIZE) ||
      decide (Addr.SYS_DOME_STAGE_SIZE + 4 * k.val = Addr.SYS_DOME_CAPTURE_SIZE)) = true := by
    fin_cases k <;> rfl
  simp only [Hub.regStore, noCurve, row, base, anyMode, free, block, system, Hub.systemStore, sizes]
  rfl

/-- A performed write of a size register goes to DOME_REGION_SIZE_WRITE. -/
theorem Hub.registerWrite_regionSize (h : Hub) (r m : Nat) (k : RegionIx) (v : Word) :
    h.registerWrite r m (Addr.SYS_DOME_STAGE_SIZE + 4 * k) v = domeSizeStore r m (Addr.SYS_DOME_STAGE_SIZE + 4 * k) v h := by
  have boot : Addr.SYS_DOME_STAGE_SIZE + 4 * k.val ≠ Addr.SYS_BOOT_CTRL := by
    simp only [Addr.SYS_DOME_STAGE_SIZE, Addr.SYS_BOOT_CTRL]; omega
  have otp : Addr.SYS_DOME_STAGE_SIZE + 4 * k.val ≠ Addr.SYS_OTP_CTRL := by
    simp only [Addr.SYS_DOME_STAGE_SIZE, Addr.SYS_OTP_CTRL]; omega
  have stage : ¬ (Addr.SYS_OTP_STAGE 0 ≤ Addr.SYS_DOME_STAGE_SIZE + 4 * k.val ∧
      Addr.SYS_DOME_STAGE_SIZE + 4 * k.val < Addr.SYS_OTP_STAGE 8) := by
    simp only [Addr.SYS_DOME_STAGE_SIZE, Addr.SYS_OTP_STAGE]; omega
  rw [Hub.registerWrite, if_neg boot, if_neg otp, if_neg (by simpa using stage), planRestricted_regionSize,
    if_neg Bool.false_ne_true, regStore_regionSize]

/-- DOME_REGION_SIZE_WRITE of a powered hub by a master that may write the register. -/
theorem exec_domeRegionSizeWrite (s : State) (m : MasterIx) (k : RegionIx) (v : Word) (p : s.hub.sys.powered = true)
    (e : s.hub.accessOk m true (Addr.SYS_DOME_STAGE_SIZE + 4 * k) 4 = true) :
    exec (.domeRegionSizeWrite m k v) s =
      .next { s with hub := (domeSizeStore s.raw.toNat m (Addr.SYS_DOME_STAGE_SIZE + 4 * k) v s.hub).setOk m true } := by
  have outside : domeSize ≤ Addr.SYS_DOME_STAGE_SIZE + 4 * k.val := by simp only [domeSize, Addr.SYS_DOME_STAGE_SIZE]; omega
  have notMgmt : ¬ (m.val = uplink ∧ Addr.SYS_DOME_STAGE_SIZE + 4 * k.val = Addr.SYS_MGMT_CFG) := by
    simp only [Addr.SYS_DOME_STAGE_SIZE, Addr.SYS_MGMT_CFG]; omega
  refine s.onHub_eq (fun r h => h.write r m (Addr.SYS_DOME_STAGE_SIZE + 4 * k.val) v) p ?_
  rw [Hub.write, Hub.busWrite_register _ _ _ _ _ _ _ e outside notMgmt, Hub.registerWrite_regionSize]

theorem domeSizeStore_mode {h : Hub} (e : h.setupMode = false ∨ h.servicePlan = true) (r m a : Nat) (v : Word) :
    domeSizeStore r m a v h = h.refuse r m a ESTATE := by
  rcases e with e | e <;> simp [domeSizeStore, e]

theorem domeSizeStore_sum {h : Hub} (e : h.setupMode = true) (e' : h.servicePlan = false) (r m k : Nat) (v : Word) :
    domeSizeStore r m (Addr.SYS_DOME_STAGE_SIZE + 4 * k) v h =
      if 494 < h.sizesAfter k v then h.refuse r m (Addr.SYS_DOME_STAGE_SIZE + 4 * k) ERANGE
      else (h.sizeWritten k v).regionApply r := by
  have granules := h.regionGranules_sizeWritten k v
  unfold Hub.sizeWritten at granules ⊢
  have room : (512 < 2 + h.sizesAfter k v + 16) = (494 < h.sizesAfter k v) := propext (by omega)
  simp only [domeSizeStore, e, e', granules, room]
  rfl

/-- A write that a register refuses is a refused store. -/
theorem refusedStore_refuse (s : State) (m a st : Nat) :
    refusedStore m s { s with hub := (s.hub.refuse s.raw.toNat m a st).setOk m true } := by
  have same := s.hub.refuse_same s.raw.toNat m a st
  exact ⟨s.hub.report_class s.raw.toNat 1 st m (wd a) (by decide), same.1,
    congrArg (fun h => { s with hub := h }) (same.setOk m true)⟩

theorem domeRegionSizeWrite_refused (s : State) (m : MasterIx) (k : RegionIx) (v : Word) (p : s.hub.sys.powered = true)
    (e : s.hub.accessOk m true (Addr.SYS_DOME_STAGE_SIZE + 4 * k) 4 = true)
    (why : s.hub.setupMode = false ∨ s.hub.servicePlan = true ∨ 494 < s.hub.sizesAfter k v) :
    ∃ t, exec (.domeRegionSizeWrite m k v) s = .next t ∧ refusedStore m s t := by
  refine ⟨_, exec_domeRegionSizeWrite s m k v p e, ?_⟩
  by_cases closed : s.hub.setupMode = false ∨ s.hub.servicePlan = true
  · rw [domeSizeStore_mode closed]
    exact refusedStore_refuse s m _ _
  · obtain ⟨mode, plan⟩ := not_or.mp closed
    have full : 494 < s.hub.sizesAfter k v := by
      rcases why with h | h | h
      · exact absurd h mode
      · exact absurd h plan
      · exact h
    rw [domeSizeStore_sum (by simpa using mode) (by simpa using plan), if_pos full]
    exact refusedStore_refuse s m _ _

/-! ### The queue layout at a changed JOURNAL (R300) -/

/-- A register that the reset of the queue layout does not concern. -/
def apartFromLayout (a : Nat) : Prop := inLedger a = false ∧ inLog a = false

theorem Hub.rd_discardQueues (h : Hub) (r : Nat) (qs opn : List Nat) (a : Nat) (hq : ∀ q ∈ qs, q < 64)
    (apart : apartFromLayout a) : (h.discardQueues r qs opn).rd a = h.rd a := by
  obtain ⟨noLedger, noLog⟩ := apart
  have notIn : ∀ b, inLedger b = true → a ≠ b := fun b hb e => Bool.false_ne_true (noLedger.symm.trans (e ▸ hb))
  have emptied : ∀ (l : List Nat) (g : Hub), (∀ q ∈ l, q < 64) →
      (forIn' l (fun q h => (h.setQueue q {}).wr (Addr.LED_Q_WR q) 0#32) g).rd a = g.rd a := by
    intro l
    induction l with
    | nil => exact fun _ _ => rfl
    | cons q l ih =>
      intro g hl
      have here : a ≠ Addr.LED_Q_WR q := notIn _ (inLedger_queue (o := 0x8) (hl q List.mem_cons_self) (by decide))
      refine (ih _ fun p hp => hl p (List.mem_cons_of_mem q hp)).trans ?_
      rw [Hub.rd_wr_other _ _ _ _ here, Hub.rd_setQueue]
  unfold Hub.discardQueues
  extract_lets ss h1 h2
  calc (forIn' ss.eraseDups (fun s h => h.report r 19 0 15 (wd s)) h2).rd a
    _ = h2.rd a := forIn'_same (fun g : Hub => g.rd a) _ (fun s g => g.rd_report r 19 0 15 (wd s) a (by decide) noLog) _ h2
    _ = h1.rd a := Hub.rd_incSat_other _ _ _ _ _ _ (notIn _ (by decide))
    _ = h.rd a := emptied qs h hq

/-- A loop that writes a register for each index leaves the register of an index with its own value, and every other one. -/
theorem rd_forN_wr {n : Nat} {f : Nat → Hub → Hub} {reg : Nat → Nat} {v : Nat → Word}
    (write : ∀ i g a, (f i g).rd a = if a = reg i then v i else g.rd a) (inj : ∀ i j, reg i = reg j → i = j) (h : Hub) :
    (∀ i, i < n → (forN n f h).rd (reg i) = v i) ∧ ∀ a, (∀ i, i < n → a ≠ reg i) → (forN n f h).rd a = h.rd a := by
  induction n with
  | zero => exact ⟨fun i hi => absurd hi (Nat.not_lt_zero i), fun _ _ => rfl⟩
  | succ n ih =>
    obtain ⟨own, others⟩ := ih
    have last : forN (n + 1) f h = f n (forN n f h) := by simp [forN, List.range_succ]
    rw [last]
    refine ⟨fun i hi => ?_, fun a ha => ?_⟩
    · rw [write]
      by_cases e : i = n
      · rw [e, if_pos rfl]
      · rw [if_neg fun e' => e (inj _ _ e'), own i (by omega)]
    · rw [write, if_neg (ha n (by omega)), others a fun i hi => ha i (by omega)]

/-- What each queue's LED_Q_CFG holds once queue 0 takes all of JOURNAL's `size` granules. -/
def layoutCfg (size q : Nat) : Word := if q = 0 then wd (size * 1024) else 0#32

theorem Hub.queueLayoutReset_rd (h : Hub) (r : Nat) (hq : ∀ p ∈ h.queues, p.1 < 64) :
    (∀ q, q < 64 → (h.queueLayoutReset r).rd (Addr.LED_Q_CFG q) =
      layoutCfg (h.fld Addr.SYS_DOME_JOURNAL_SIZE 0 10) q) ∧
    ∀ a, apartFromLayout a → (h.queueLayoutReset r).rd a = h.rd a := by
  unfold Hub.queueLayoutReset
  extract_lets h1 size cfg h2
  have keys : ∀ q ∈ h.queues.map Prod.fst, q < 64 := by simpa using fun q x hx => hq (q, x) hx
  have emptied : ∀ a, apartFromLayout a → h1.rd a = h.rd a := fun a => h.rd_discardQueues r _ [] a keys
  have size_eq : size = h.fld Addr.SYS_DOME_JOURNAL_SIZE 0 10 := by
    simp only [size, Hub.fld, emptied Addr.SYS_DOME_JOURNAL_SIZE (by unfold apartFromLayout; decide)]
  have unbound : ∀ a, (∀ s, s < 1024 → a ≠ Addr.LED_STREAM s) → ∀ g : Hub,
      (forN 1024 (fun s h => (h.setFld (Addr.LED_STREAM s) 0 6 0).setActive (Addr.LED_STREAM s)
        (putBits (h.active (Addr.LED_STREAM s)) 0 6 0)) g).rd a = g.rd a := by
    intro a ha g
    refine forN_keeps_lt (fun g' : Hub => g'.rd a = g.rd a) 1024 _ (fun s hs g' e => ?_) g rfl
    rw [Hub.rd_setActive, Hub.rd_setFld, if_neg (ha s hs), e]
  obtain ⟨own, others⟩ := rd_forN_wr (n := 64) (h := h1) (reg := Addr.LED_Q_CFG) (v := cfg)
    (f := fun q h => (h.wr (Addr.LED_Q_CFG q) (cfg q)).setActive (Addr.LED_Q_CFG q) (cfg q))
    (fun i g a => by rw [Hub.rd_setActive, Hub.rd_wr])
    (fun i j e => by simp only [Addr.LED_Q_CFG] at e; omega)
  refine ⟨fun q hlt => ?_, fun a apart => ?_⟩
  · rw [unbound _ (fun s _ => by simp only [Addr.LED_Q_CFG, Addr.LED_STREAM]; omega), own q hlt, ← size_eq]
    rfl
  · have notIn : ∀ b, inLedger b = true → a ≠ b := fun b hb e => Bool.false_ne_true (apart.1.symm.trans (e ▸ hb))
    rw [unbound a fun s hs => notIn _ ?_, others a fun q hlt => notIn _ ?_, emptied a apart]
    · exact inLedger_queue (o := 0) hlt (by decide)
    · rw [inLedger, Bool.and_eq_true, decide_eq_true_eq, decide_eq_true_eq]
      simp only [Addr.LED_STREAM]
      omega

/-! ### New region sizes in force (R40, R42) -/

theorem toNat_wd_of_lt {n : Nat} (h : n < 4294967296) : (wd n).toNat = n := by simp [wd, Nat.mod_eq_of_lt h]

/-- A register that the recomputation of the bases writes. -/
def isBase (a : Nat) : Bool := a == Addr.SYS_DOME_JOURNAL_SIZE || (List.range 5).any fun i => a == Addr.SYS_DOME_STAGE_BASE + 4 * i

theorem Hub.rd_regionBases_other (h : Hub) (a : Nat) (e : isBase a = false) : h.regionBases.rd a = h.rd a := by
  have apart : a ≠ Addr.SYS_DOME_JOURNAL_SIZE ∧ a ≠ Addr.SYS_DOME_STAGE_BASE ∧ a ≠ Addr.SYS_DOME_DATA_BASE ∧
      a ≠ Addr.SYS_DOME_MIRROR_BASE ∧ a ≠ Addr.SYS_DOME_CAPTURE_BASE ∧ a ≠ Addr.SYS_DOME_JOURNAL_BASE := by
    refine ⟨?_, ?_, ?_, ?_, ?_, ?_⟩ <;> rintro rfl <;> exact absurd e (by decide)
  obtain ⟨j, b0, b1, b2, b3, b4⟩ := apart
  simp [Hub.regionBases, Hub.rd_wr, j, b0, b1, b2, b3, b4]

/-- The bases of the regions, each behind the one before. -/
theorem Hub.rd_regionBases_base (h : Hub) :
    (h.regionBases.rd (Addr.SYS_DOME_STAGE_BASE + 4 * 0)).toNat = 0x20000 ∧
    (h.regionBases.rd (Addr.SYS_DOME_STAGE_BASE + 4 * 1)).toNat = 0x20000 + 0x10000 * h.regionSize 0 ∧
    (h.regionBases.rd (Addr.SYS_DOME_STAGE_BASE + 4 * 2)).toNat = 0x20000 + 0x10000 * (h.regionSize 0 + h.regionSize 1) ∧
    (h.regionBases.rd (Addr.SYS_DOME_STAGE_BASE + 4 * 3)).toNat =
      0x20000 + 0x10000 * (h.regionSize 0 + h.regionSize 1 + h.regionSize 2) ∧
    (h.regionBases.rd (Addr.SYS_DOME_STAGE_BASE + 4 * 4)).toNat =
      0x20000 + 0x10000 * (h.regionSize 0 + h.regionSize 1 + h.regionSize 2 + h.regionSize 3) := by
  have l0 := h.regionSize_lt 0
  have l1 := h.regionSize_lt 1
  have l2 := h.regionSize_lt 2
  have l3 := h.regionSize_lt 3
  have e0 : h.fld Addr.SYS_DOME_STAGE_SIZE 0 10 = h.regionSize 0 := rfl
  have e1 : h.fld Addr.SYS_DOME_DATA_SIZE 0 10 = h.regionSize 1 := rfl
  have e2 : h.fld Addr.SYS_DOME_MIRROR_SIZE 0 10 = h.regionSize 2 := rfl
  have e3 : h.fld Addr.SYS_DOME_CAPTURE_SIZE 0 10 = h.regionSize 3 := rfl
  simp only [Hub.regionBases, e0, e1, e2, e3, Hub.rd_wr, Addr.SYS_DOME_STAGE_BASE, Addr.SYS_DOME_DATA_BASE,
    Addr.SYS_DOME_MIRROR_BASE, Addr.SYS_DOME_CAPTURE_BASE, Addr.SYS_DOME_JOURNAL_BASE, Addr.SYS_DOME_JOURNAL_SIZE,
    Nat.reduceMul, Nat.reduceAdd, Nat.reduceEqDiff, if_true, if_false]
  refine ⟨?_, ?_, ?_, ?_, ?_⟩ <;> rw [toNat_wd_of_lt (by omega)] <;> omega

theorem Hub.rd_regionBases_journal (h : Hub) :
    (h.regionBases.rd Addr.SYS_DOME_JOURNAL_SIZE).toNat = 512 - h.regionGranules := by
  unfold Hub.regionBases
  rw [Hub.rd_wr_same, toNat_wd_of_lt (by omega)]

theorem Hub.domeUndefine_rd (h : Hub) (lo a : Nat) : (h.domeUndefine lo).rd a = h.rd a := rfl

theorem SMap.find_filter_lt {α : Type} (m : SMap α) (lo k : Nat) :
    SMap.find (m.filter fun p => p.1 < lo) k = if k < lo then SMap.find m k else none := by
  induction m with
  | nil => simp [SMap.find]
  | cons p t ih =>
    obtain ⟨j, v⟩ := p
    by_cases hj : j < lo
    · rw [List.filter_cons_of_pos (by simpa using hj)]
      by_cases e : k = j
      · simp [SMap.find, e, hj]
      · simp only [SMap.find, ih, e, if_false]
    · have ne : k < lo → k ≠ j := by omega
      rw [List.filter_cons_of_neg (by simpa using hj), ih]
      by_cases hk : k < lo
      · simp [SMap.find, hk, ne hk]
      · simp [hk]

/-- New sizes leave the bytes of SYSTEM and no other. -/
theorem Hub.regionApply_dome (h : Hub) (r : Nat) : (h.regionApply r).dome = h.dome.filter fun c => c.1 < 0x20000 := by
  have bases : h.regionBases.dome = h.dome := rfl
  rw [← bases]
  unfold Hub.regionApply
  extract_lets old h1
  split
  · rfl
  · exact h1.queueLayoutReset_dome r

/-- JOURNAL keeps its size: the Ledger's queues stay. -/
theorem Hub.regionApply_sameJournal (h : Hub) (r : Nat)
    (e : h.regionBases.rd Addr.SYS_DOME_JOURNAL_SIZE = h.rd Addr.SYS_DOME_JOURNAL_SIZE) :
    h.regionApply r = h.regionBases.domeUndefine 0x20000 := if_pos e

theorem Hub.regionApply_newJournal (h : Hub) (r : Nat)
    (e : h.regionBases.rd Addr.SYS_DOME_JOURNAL_SIZE ≠ h.rd Addr.SYS_DOME_JOURNAL_SIZE) :
    h.regionApply r = (h.regionBases.domeUndefine 0x20000).queueLayoutReset r := if_neg e

theorem Hub.regionApply_rd (h : Hub) (r : Nat) (hq : ∀ p ∈ h.queues, p.1 < 64) (a : Nat) (apart : apartFromLayout a) :
    (h.regionApply r).rd a = h.regionBases.rd a := by
  by_cases e : h.regionBases.rd Addr.SYS_DOME_JOURNAL_SIZE = h.rd Addr.SYS_DOME_JOURNAL_SIZE
  · rw [h.regionApply_sameJournal r e, Hub.domeUndefine_rd]
  · rw [h.regionApply_newJournal r e]
    exact ((h.regionBases.domeUndefine 0x20000).queueLayoutReset_rd r hq).2 a apart

/-! ### The hub with a new region size -/

/-- The hub after a performed write of `v` to the size register of region `k`. -/
def Hub.resized (h : Hub) (r k : Nat) (v : Word) : Hub := (h.sizeWritten k v).regionApply r

section
variable (h : Hub) (r k : Nat) (v : Word)

theorem Hub.domeByte_resized {b : Nat} {x : Byte} (hb : b < 0x20000) (e : SMap.find h.dome b = some x) :
    (h.resized r k v).domeByte b = x := by
  have dome : SMap.find (h.resized r k v).dome b = some x := by
    rw [Hub.resized, Hub.regionApply_dome, SMap.find_filter_lt, if_pos hb]
    exact e
  rw [Hub.domeByte, dome, Option.getD_some]

theorem Hub.find_dome_resized {b : Nat} (hb : 0x20000 ≤ b) : SMap.find (h.resized r k v).dome b = none := by
  rw [Hub.resized, Hub.regionApply_dome, SMap.find_filter_lt, if_neg (Nat.not_lt.mpr hb)]

variable (hq : ∀ p ∈ h.queues, p.1 < 64)
include hq

theorem Hub.rd_resized (a : Nat) (apart : apartFromLayout a) :
    (h.resized r k v).rd a = (h.sizeWritten k v).regionBases.rd a :=
  (h.sizeWritten k v).regionApply_rd r hq a apart

theorem Hub.regionSize_resized {i : Nat} (hi : i < 4) : (h.resized r k v).regionSize i = h.sizeAfter k v i := by
  have apart : apartFromLayout (Addr.SYS_DOME_STAGE_SIZE + 4 * i) ∧ isBase (Addr.SYS_DOME_STAGE_SIZE + 4 * i) = false := by
    unfold apartFromLayout
    interval_cases i <;> decide
  rw [← Hub.regionSize_sizeWritten, Hub.regionSize, Hub.fld, h.rd_resized r k v hq _ apart.1,
    Hub.rd_regionBases_other _ _ apart.2]
  rfl

theorem Hub.rd_resized_journal :
    ((h.resized r k v).rd Addr.SYS_DOME_JOURNAL_SIZE).toNat = 510 - h.sizesAfter k v := by
  rw [h.rd_resized r k v hq _ (by unfold apartFromLayout; decide), Hub.rd_regionBases_journal, Hub.regionGranules_sizeWritten]
  omega

theorem Hub.rd_resized_base :
    ((h.resized r k v).rd (Addr.SYS_DOME_STAGE_BASE + 4 * 0)).toNat = 0x20000 ∧
    ((h.resized r k v).rd (Addr.SYS_DOME_STAGE_BASE + 4 * 1)).toNat = 0x20000 + 0x10000 * h.sizeAfter k v 0 ∧
    ((h.resized r k v).rd (Addr.SYS_DOME_STAGE_BASE + 4 * 2)).toNat =
      0x20000 + 0x10000 * (h.sizeAfter k v 0 + h.sizeAfter k v 1) ∧
    ((h.resized r k v).rd (Addr.SYS_DOME_STAGE_BASE + 4 * 3)).toNat =
      0x20000 + 0x10000 * (h.sizeAfter k v 0 + h.sizeAfter k v 1 + h.sizeAfter k v 2) ∧
    ((h.resized r k v).rd (Addr.SYS_DOME_STAGE_BASE + 4 * 4)).toNat = 0x20000 + 0x10000 * h.sizesAfter k v := by
  have bases := (h.sizeWritten k v).rd_regionBases_base
  simp only [Hub.regionSize_sizeWritten] at bases
  have apart : ∀ i, i < 5 → apartFromLayout (Addr.SYS_DOME_STAGE_BASE + 4 * i) := by unfold apartFromLayout; decide
  rw [h.rd_resized r k v hq _ (apart 0 (by decide)), h.rd_resized r k v hq _ (apart 1 (by decide)),
    h.rd_resized r k v hq _ (apart 2 (by decide)), h.rd_resized r k v hq _ (apart 3 (by decide)),
    h.rd_resized r k v hq _ (apart 4 (by decide))]
  exact bases

theorem Hub.rd_resized_kept (a : Nat) (own : a ≠ Addr.SYS_DOME_STAGE_SIZE + 4 * k) (base : isBase a = false)
    (apart : apartFromLayout a) : (h.resized r k v).rd a = h.rd a := by
  rw [h.rd_resized r k v hq a apart, Hub.rd_regionBases_other _ _ base, Hub.sizeWritten, Hub.rd_wr_other _ _ _ _ own]

end

/-- JOURNAL's size register changes exactly where the number of its granules does. -/
theorem Hub.journal_same_iff (h : Hub) (k : RegionIx) (v : Word) :
    (h.sizeWritten k v).regionBases.rd Addr.SYS_DOME_JOURNAL_SIZE = (h.sizeWritten k v).rd Addr.SYS_DOME_JOURNAL_SIZE ↔
      (h.rd Addr.SYS_DOME_JOURNAL_SIZE).toNat = 510 - h.sizesAfter k v := by
  have other : Addr.SYS_DOME_JOURNAL_SIZE ≠ Addr.SYS_DOME_STAGE_SIZE + 4 * k.val := by
    simp only [Addr.SYS_DOME_JOURNAL_SIZE, Addr.SYS_DOME_STAGE_SIZE]; omega
  rw [← BitVec.toNat_inj, Hub.rd_regionBases_journal, Hub.regionGranules_sizeWritten, Hub.sizeWritten,
    Hub.rd_wr_other _ _ _ _ other]
  omega

theorem Hub.queues_resized (h : Hub) (r : Nat) (k : RegionIx) (v : Word)
    (e : (h.rd Addr.SYS_DOME_JOURNAL_SIZE).toNat = 510 - h.sizesAfter k v) : (h.resized r k v).queues = h.queues := by
  rw [Hub.resized, Hub.regionApply_sameJournal _ _ ((h.journal_same_iff k v).mpr e)]
  rfl

/-- Where JOURNAL's size changed, queue 0 takes all of it. -/
theorem Hub.cfg_resized (h : Hub) (r : Nat) (k : RegionIx) (v : Word) (hq : ∀ p ∈ h.queues, p.1 < 64)
    (e : (h.rd Addr.SYS_DOME_JOURNAL_SIZE).toNat ≠ 510 - h.sizesAfter k v) (q : Nat) (hlt : q < 64) :
    (h.resized r k v).rd (Addr.LED_Q_CFG q) = layoutCfg (510 - h.sizesAfter k v) q := by
  have journal : ((h.sizeWritten k v).regionBases.domeUndefine 0x20000).fld Addr.SYS_DOME_JOURNAL_SIZE 0 10 =
      510 - h.sizesAfter k v := by
    simp only [Hub.fld, bitsOf, Hub.domeUndefine_rd, Hub.rd_regionBases_journal, Hub.regionGranules_sizeWritten]
    omega
  have reset := (((h.sizeWritten k v).regionBases.domeUndefine 0x20000).queueLayoutReset_rd r hq).1 q hlt
  rw [Hub.resized, Hub.regionApply_newJournal _ _ (mt (h.journal_same_iff k v).mp e), reset, journal]

/-- A write of a region size that the hub performs. -/
theorem domeRegionSizeWrite_performed (s : State) (m : MasterIx) (k : RegionIx) (v : Word) (p : s.hub.sys.powered = true)
    (e : s.hub.accessOk m true (Addr.SYS_DOME_STAGE_SIZE + 4 * k) 4 = true) (mode : s.hub.setupMode = true)
    (plan : s.hub.servicePlan = false) (room : s.hub.sizesAfter k v ≤ 494) :
    exec (.domeRegionSizeWrite m k v) s = .next { s with hub := (s.hub.resized s.raw.toNat k v).setOk m true } := by
  rw [exec_domeRegionSizeWrite s m k v p e, domeSizeStore_sum mode plan, if_neg (Nat.not_lt.mpr room), Hub.resized]

/-- Settles O14: the table of R37 master by master, then DOME_REGION_SIZE_WRITE by its refusals and by the hub it leaves. -/
theorem accessPermissions : Obligations.AccessPermissions := by
  unfold Obligations.AccessPermissions
  refine ⟨?_, ?_, fun h w a n blown => h.accessOk_locked w a n blown, ?_⟩
  · intro h m w a z g running unlocked inside aligned
    rw [h.accessOk_aligned_dome m w a z running unlocked (Hub.region_inside inside) aligned, inside]
    exact domeAllowed_iff m w g
  · intro h m w a running unlocked outside aligned mapped
    rw [h.accessOk_aligned_register m w a running unlocked outside aligned mapped]
    exact regAllowed_iff m.isLt w a
  · intro s m k v p e
    refine ⟨fun why => domeRegionSizeWrite_refused s m k v p e why, fun mode plan room hq => ?_⟩
    have performed := domeRegionSizeWrite_performed s m k v p e mode plan room
    have sizes := fun i (hi : i < 4) => s.hub.regionSize_resized s.raw.toNat k v hq hi
    have journal := s.hub.rd_resized_journal s.raw.toNat k v hq
    obtain ⟨b0, b1, b2, b3, b4⟩ := s.hub.rd_resized_base s.raw.toNat k v hq
    have system := fun b x (hb : b < 0x20000) => s.hub.domeByte_resized (x := x) s.raw.toNat k v hb
    have undefined := fun b (hb : 0x20000 ≤ b) => s.hub.find_dome_resized s.raw.toNat k v hb
    have queues := s.hub.queues_resized s.raw.toNat k v
    have cfg := s.hub.cfg_resized s.raw.toNat k v hq
    have kept := s.hub.rd_resized_kept s.raw.toNat k v hq
    generalize s.hub.resized s.raw.toNat k v = g at *
    refine ⟨_, performed, sizes, journal, b0, b1, b2, b3, b4, system, undefined, queues, fun ne => ⟨?_, fun q h0 hlt => ?_⟩,
      fun a ha => ?_⟩
    · rw [Hub.rd_setOk, cfg ne 0 (by decide), layoutCfg, if_pos rfl, toNat_wd_of_lt (by omega), Nat.mul_comm]
      rfl
    · rw [Hub.rd_setOk, cfg ne q hlt, layoutCfg, if_neg (by omega)]
    · simp only [Bool.or_eq_false_iff] at ha
      obtain ⟨⟨⟨⟨own, journal⟩, bases⟩, ledger⟩, log⟩ := ha
      exact kept a (by simpa using own) (by rw [isBase, journal, bases, Bool.or_false]) ⟨ledger, log⟩

end Sys2Proof.Machine

/-!
SUPPORT. Marks by instant (log entry 53): what a record of marks reads back once a change has been noted in it, what noting
leaves alone, and which fields of the hub the marks of a channel and of a spire are made of.
-/

namespace Sys2Proof.Machine

open Sys2Proof.Safety

/-! ### A record of marks -/

/-- A record in order is its entries after an instant, and then the others. -/
theorem ordered_split {α : Type} {l : List (Nat × α)} (ord : ordered l) (t : Nat) :
    l = l.filter (fun p => decide (t < p.1)) ++ l.filter (fun p => !decide (t < p.1)) := by
  induction l with
  | nil => rfl
  | cons p l ih =>
    obtain ⟨first, rest⟩ := List.pairwise_cons.mp ord
    by_cases late : t < p.1
    · rw [List.filter_cons_of_pos (by simpa using late), List.filter_cons_of_neg (by simpa using late), List.cons_append,
        ← ih rest]
    · have early : ∀ q ∈ p :: l, ¬ t < q.1 := by
        intro q hq
        rcases List.mem_cons.mp hq with rfl | hq
        · exact late
        · exact fun h => late (Nat.lt_of_lt_of_le h (first q hq))
      rw [List.filter_eq_nil_iff.mpr (by simpa using early), List.filter_eq_self.mpr (by simpa using early), List.nil_append]

section
variable {α : Type} [DecidableEq α] {patch : α → α → α → α} {l : List (Nat × α)} {old new : α} {t x : Nat}

/-- The record that a change is noted in: the first change begins it with what held before. -/
def begun (l : List (Nat × α)) (old : α) : List (Nat × α) := if l.isEmpty then [(0, old)] else l

/-- A change is noted in front of the entries up to its instant and patched into the later ones. -/
theorem markChange_of_ne (ne : old ≠ new) :
    ∃ before : List (Nat × α), ∃ v : α, before = (begun l old).filter (fun p => !decide (t < p.1)) ∧
      markChange patch l old new t =
        ((begun l old).filter fun p => decide (t < p.1)).map (fun p => (p.1, patch old new p.2)) ++ (t, v) :: before ∧
      ((before = [] ∧ v = new) ∨ ∃ p rest, before = p :: rest ∧ v = patch old new p.2) := by
  simp only [markChange, if_neg ne, List.partition_eq_filter_filter, Function.comp_def, begun]
  generalize hb : List.filter (fun p : Nat × α => !decide (t < p.1)) _ = before
  cases before with
  | nil => exact ⟨[], new, rfl, rfl, .inl ⟨rfl, rfl⟩⟩
  | cons p rest => exact ⟨p :: rest, _, rfl, rfl, .inr ⟨p, rest, rfl, rfl⟩⟩

/-- A field that a change moves reads, at any instant from which the change holds, as the change left it. -/
theorem markAt_markChange_field {β : Type} (f : α → β) (moved : ∀ e, f (patch old new e) = f new) (ne : old ≠ new)
    (tx : t ≤ x) (now : α) : f (markAt (markChange patch l old new t) now x) = f new := by
  obtain ⟨before, v, -, e, hv⟩ := markChange_of_ne (patch := patch) (l := l) (t := t) ne
  have own : f v = f new := by
    rcases hv with ⟨-, rfl⟩ | ⟨p, -, -, rfl⟩
    · rfl
    · exact moved p.2
  rw [e, markAt, List.find?_append]
  cases found : (((begun l old).filter fun p => decide (t < p.1)).map fun p => (p.1, patch old new p.2)).find?
      fun p => decide (p.1 ≤ x) with
  | none => simp [tx, own]
  | some q =>
    obtain ⟨p, -, rfl⟩ := List.mem_map.mp (List.mem_of_find?_eq_some found)
    simp [moved]

/-- At an instant at which the record was up to date, and from which a change holds, the new value reads back. -/
theorem markAt_markChange (keeps : patch old new old = new) (ord : ordered l) (tx : t ≤ x) (settled : markAt l old x = old) :
    markAt (markChange patch l old new t) new x = new := by
  by_cases e : old = new
  · rw [markChange, if_pos e, ← e, settled]
  have whole : ordered (begun l old) := by
    unfold begun
    split
    · exact List.pairwise_singleton ..
    · exact ord
  have upToDate : markAt (begun l old) old x = old := by
    unfold begun
    split
    · simp [markAt]
    · exact settled
  obtain ⟨before, v, hb, form, hv⟩ := markChange_of_ne (patch := patch) (l := l) (t := t) e
  rw [ordered_split whole t, ← hb, markAt, List.find?_append] at upToDate
  rw [form, markAt, List.find?_append, List.find?_map]
  simp only [Function.comp_def]
  cases found : ((begun l old).filter fun p => decide (t < p.1)).find? fun p => decide (p.1 ≤ x) with
  | some q =>
    have q2 : q.2 = old := by simpa [found] using upToDate
    simp [q2, keeps]
  | none =>
    rcases hv with ⟨-, rfl⟩ | ⟨p, rest, hp, rfl⟩
    · simp [tx]
    · have early : p ∈ (begun l old).filter fun p => !decide (t < p.1) := by rw [← hb, hp]; exact List.mem_cons_self
      have px : p.1 ≤ x := by
        have : p.1 ≤ t := by simpa using (List.mem_filter.mp early).2
        omega
      have p2 : p.2 = old := by simpa [found, hp, px] using upToDate
      simp [tx, p2, keeps]

end

/-- A field goes over to the new value whether it changes or not. -/
theorem ite_self_else {β : Type} [DecidableEq β] (a b : β) : (if a = b then a else b) = b := by
  split
  · assumption
  · rfl

theorem ChanMarks.patch_old (old new : ChanMarks) : ChanMarks.patch old new old = new := by
  simp only [ChanMarks.patch, ite_self_else]

theorem SpireMarks.patch_old (old new : SpireMarks) : SpireMarks.patch old new old = new := by
  simp only [SpireMarks.patch, ite_self_else]

/-! ### Noting a change -/

/-- Noting a change of a channel touches the record of that channel and nothing else. -/
theorem Hub.noteChan_frame (h h0 : Hub) (n c t : Nat) :
    h.noteChan h0 n c t = { h with chans := (h.noteChan h0 n c t).chans } := by
  unfold Hub.noteChan
  dsimp only
  split <;> rfl

theorem Hub.noteSpire_frame (h h0 : Hub) (n t : Nat) :
    h.noteSpire h0 n t = { h with spires := (h.noteSpire h0 n t).spires } := by
  unfold Hub.noteSpire
  dsimp only
  split <;> rfl

section
variable (h h0 : Hub) (n c t : Nat)

@[simp] theorem Hub.noteChan_regs : (h.noteChan h0 n c t).regs = h.regs := by rw [Hub.noteChan_frame]
@[simp] theorem Hub.noteChan_act : (h.noteChan h0 n c t).act = h.act := by rw [Hub.noteChan_frame]
@[simp] theorem Hub.noteChan_spires : (h.noteChan h0 n c t).spires = h.spires := by rw [Hub.noteChan_frame]
@[simp] theorem Hub.noteSpire_regs : (h.noteSpire h0 n t).regs = h.regs := by rw [Hub.noteSpire_frame]
@[simp] theorem Hub.noteSpire_chans : (h.noteSpire h0 n t).chans = h.chans := by rw [Hub.noteSpire_frame]
@[simp] theorem Hub.noteSpire_act : (h.noteSpire h0 n t).act = h.act := by rw [Hub.noteSpire_frame]
@[simp] theorem Hub.noteSpire_pins : (h.noteSpire h0 n t).pins = h.pins := by rw [Hub.noteSpire_frame]
@[simp] theorem Hub.noteSpire_sys : (h.noteSpire h0 n t).sys = h.sys := by rw [Hub.noteSpire_frame]

@[simp] theorem Hub.rd_noteChan (a : Nat) : (h.noteChan h0 n c t).rd a = h.rd a := by simp [Hub.rd]
@[simp] theorem Hub.active_noteChan (a : Nat) : (h.noteChan h0 n c t).active a = h.active a := by simp [Hub.active]
@[simp] theorem Hub.spire_noteChan (k : Nat) : (h.noteChan h0 n c t).spire k = h.spire k := by simp [Hub.spire]
@[simp] theorem Hub.rd_noteSpire (a : Nat) : (h.noteSpire h0 n t).rd a = h.rd a := by simp [Hub.rd]
@[simp] theorem Hub.active_noteSpire (a : Nat) : (h.noteSpire h0 n t).active a = h.active a := by simp [Hub.active]
@[simp] theorem Hub.chan_noteSpire (g : Nat) : (h.noteSpire h0 n t).chan g = h.chan g := by simp [Hub.chan]

theorem Hub.chan_modChan (g k : Nat) (f : Chan → Chan) :
    (h.modChan g f).chan k = if k = g then f (h.chan g) else h.chan k := Hub.chan_setChan ..

theorem Hub.spire_modSpire (k : Nat) (f : Spire → Spire) :
    (h.modSpire n f).spire k = if k = n then f (h.spire n) else h.spire k := Hub.spire_setSpire ..

@[simp] theorem Hub.chan_modChan_same (g : Nat) (f : Chan → Chan) : (h.modChan g f).chan g = f (h.chan g) := by
  rw [Hub.chan_modChan, if_pos rfl]

@[simp] theorem Hub.spire_modSpire_same (f : Spire → Spire) : (h.modSpire n f).spire n = f (h.spire n) := by
  rw [Hub.spire_modSpire, if_pos rfl]

@[simp] theorem Hub.rd_modChan (g a : Nat) (f : Chan → Chan) : (h.modChan g f).rd a = h.rd a := rfl
@[simp] theorem Hub.rd_modSpire (a : Nat) (f : Spire → Spire) : (h.modSpire n f).rd a = h.rd a := rfl

/-- The record that noting a change of a channel makes. -/
theorem Hub.chan_noteChan_same : (h.noteChan h0 n c t).chan (chNo n c) =
    { h.chan (chNo n c) with
      marks := markChange ChanMarks.patch (h.chan (chNo n c)).marks (h0.chanMarks n c) (h.chanMarks n c) t } := by
  unfold Hub.noteChan
  dsimp only
  split
  · next same => rw [same]
  · rw [Hub.chan_modChan_same]

theorem Hub.chan_noteChan_other (g : Nat) (e : g ≠ chNo n c) : (h.noteChan h0 n c t).chan g = h.chan g := by
  unfold Hub.noteChan
  dsimp only
  split
  · rfl
  · rw [Hub.chan_modChan, if_neg e]

/-- The record that noting a change of a spire makes. -/
theorem Hub.spire_noteSpire_same : (h.noteSpire h0 n t).spire n =
    { h.spire n with marks := markChange SpireMarks.patch (h.spire n).marks (h0.spireMarks n) (h.spireMarks n) t } := by
  unfold Hub.noteSpire
  dsimp only
  split
  · next same => rw [same]
  · rw [Hub.spire_modSpire_same]

theorem Hub.spire_noteSpire_other (k : Nat) (e : k ≠ n) : (h.noteSpire h0 n t).spire k = h.spire k := by
  unfold Hub.noteSpire
  dsimp only
  split
  · rfl
  · rw [Hub.spire_modSpire, if_neg e]

end

/-! ### What marks are made of -/

/-- `h'` reads every register of the spires' blocks, and every active copy, as `h` does. -/
structure SameSettings (h h' : Hub) : Prop where
  act : h'.act = h.act
  regs : ∀ a, 0x41000000 ≤ a → a < 0x42000000 → h'.rd a = h.rd a

theorem SameSettings.refl (h : Hub) : SameSettings h h := ⟨rfl, fun _ _ _ => rfl⟩

theorem SameSettings.of_regs {h h' : Hub} (act : h'.act = h.act) (regs : h'.regs = h.regs) : SameSettings h h' :=
  ⟨act, fun a _ _ => by rw [Hub.rd, Hub.rd, regs]⟩

section
variable {h h' : Hub} (q : SameSettings h h')
include q

theorem SameSettings.active (a : Nat) : h'.active a = h.active a := by rw [Hub.active, Hub.active, q.act]

theorem SameSettings.trimInForce (n : SpireIx) (c : ChanIx) : h'.trimInForce n c = h.trimInForce n c := by
  have entry : ∀ w, tableEntry w < 16 := by
    intro w
    have l6 : bitsOf w 6 3 < 8 := Nat.mod_lt _ (by decide)
    have l3 : bitsOf w 3 3 < 8 := Nat.mod_lt _ (by decide)
    unfold tableEntry
    split <;> omega
  have table := entry (h.active (Addr.FE_CFG n c))
  unfold Hub.trimInForce Hub.keyDiffers
  simp only [q.active]
  rw [q.regs (Addr.TRIM_KEY n c) (by simp only [Addr.TRIM_KEY]; omega) (by simp only [Addr.TRIM_KEY]; omega),
    q.regs (Addr.TRIM_OFS n c) (by simp only [Addr.TRIM_OFS]; omega) (by simp only [Addr.TRIM_OFS]; omega),
    q.regs (Addr.TRIM_GAIN n c) (by simp only [Addr.TRIM_GAIN]; omega) (by simp only [Addr.TRIM_GAIN]; omega),
    q.regs (Addr.FE_TABLE n c _) (by simp only [Addr.FE_TABLE]; omega) (by simp only [Addr.FE_TABLE]; omega)]

/-- The marks of a channel are made of its settings, of its trims, and of its state but the record of marks. -/
theorem SameSettings.chanMarks (n : SpireIx) (c : ChanIx) {l : List (Nat × ChanMarks)}
    (chan : h'.chan (chNo n c) = { h.chan (chNo n c) with marks := l }) : h'.chanMarks n c = h.chanMarks n c := by
  have mode : h'.feMode n c = h.feMode n c := by rw [Hub.feMode, Hub.feMode, Hub.afld, Hub.afld, q.active]
  rw [Hub.chanMarks, Hub.chanMarks, mode, q.active, q.trimInForce, chan,
    q.regs (Addr.TRIM_IRTD n c) (by simp only [Addr.TRIM_IRTD]; omega) (by simp only [Addr.TRIM_IRTD]; omega)]
  rfl

theorem SameSettings.chanAt (n : SpireIx) (c : ChanIx) (chan : h'.chan (chNo n c) = h.chan (chNo n c)) (x : Nat) :
    h'.chanAt n c x = h.chanAt n c x := by
  rw [Hub.chanAt, Hub.chanAt, q.chanMarks n c (l := (h.chan (chNo n c)).marks) chan, chan]

/-- The marks of a spire are made of registers of its block, and of its state but the record of marks. -/
theorem SameSettings.spireMarks (n : SpireIx) {l : List (Nat × SpireMarks)}
    (spire : h'.spire n = { h.spire n with marks := l }) : h'.spireMarks n = h.spireMarks n := by
  have block : ∀ a, 0x41000000 + 0x10000 * n.val ≤ a → a < 0x41010000 + 0x10000 * n.val → h'.rd a = h.rd a :=
    fun a lo hi => q.regs a (by omega) (by omega)
  simp only [Hub.spireMarks, Hub.bit, Hub.level2, Hub.fld, spire]
  rw [block (Addr.EXC_STATUS n) (by simp only [Addr.EXC_STATUS]; omega) (by simp only [Addr.EXC_STATUS]; omega),
    block (Addr.FE_CLAMP_NOW n) (by simp only [Addr.FE_CLAMP_NOW]; omega) (by simp only [Addr.FE_CLAMP_NOW]; omega),
    block (Addr.SPIRE_STATUS n) (by simp only [Addr.SPIRE_STATUS]; omega) (by simp only [Addr.SPIRE_STATUS]; omega),
    block (Addr.EXC_CFG n) (by simp only [Addr.EXC_CFG]; omega) (by simp only [Addr.EXC_CFG]; omega),
    block (Addr.SNS_TRIM_OFS n) (by simp only [Addr.SNS_TRIM_OFS]; omega) (by simp only [Addr.SNS_TRIM_OFS]; omega),
    block (Addr.SNS_TRIM_GAIN n) (by simp only [Addr.SNS_TRIM_GAIN]; omega) (by simp only [Addr.SNS_TRIM_GAIN]; omega)]

theorem SameSettings.spireAt (n : SpireIx) (spire : h'.spire n = h.spire n) (x : Nat) : h'.spireAt n x = h.spireAt n x := by
  rw [Hub.spireAt, Hub.spireAt, q.spireMarks n (l := (h.spire n).marks) spire, spire]

end

/-! ### What held at an instant, after a change was noted -/

section
variable {s : State} {h g : Hub} {n : SpireIx} {c : ChanIx} {t x : Nat}

/-- Where the record of a channel was up to date, what holds of it after a noted change reads back from the change's instant on. -/
theorem chanSettled.chanAt (q : chanSettled n c t x s) (same : (h.chan (chNo n c)).marks = (s.hub.chan (chNo n c)).marks) :
    (h.noteChan s.hub n c t).chanAt n c x = h.chanMarks n c := by
  obtain ⟨ord, tx, upToDate⟩ := q
  have settings : SameSettings h (h.noteChan s.hub n c t) := .of_regs (by simp) (by simp)
  rw [Hub.chanAt, settings.chanMarks n c (Hub.chan_noteChan_same ..), Hub.chan_noteChan_same]
  refine markAt_markChange (ChanMarks.patch_old ..) (same ▸ ord) tx ?_
  rw [same]
  exact upToDate

theorem spireSettled.spireAt (q : spireSettled n t x s) (same : (h.spire n).marks = (s.hub.spire n).marks) :
    (h.noteSpire s.hub n t).spireAt n x = h.spireMarks n := by
  obtain ⟨ord, tx, upToDate⟩ := q
  have settings : SameSettings h (h.noteSpire s.hub n t) := .of_regs (by simp) (by simp)
  rw [Hub.spireAt, settings.spireMarks n (Hub.spire_noteSpire_same ..), Hub.spire_noteSpire_same]
  refine markAt_markChange (SpireMarks.patch_old ..) (same ▸ ord) tx ?_
  rw [same]
  exact upToDate

/-- A mark RESET that a noted change moves reads back from the change's instant on, whatever the record held. -/
theorem rst_chanAt {h0 : Hub} (ne : (h0.chanMarks n c).rst ≠ (h.chanMarks n c).rst) (tx : t ≤ x)
    (noted : (g.chan (chNo n c)).marks = ((h.noteChan h0 n c t).chan (chNo n c)).marks) :
    (g.chanAt n c x).rst = (h.chanMarks n c).rst := by
  rw [Hub.chanAt, noted, Hub.chan_noteChan_same]
  exact markAt_markChange_field ChanMarks.rst (fun e => if_neg ne) (fun e => ne (congrArg ChanMarks.rst e)) tx _

/-- The same of the polarity of a spire. -/
theorem reversed_spireAt {h0 : Hub} (ne : (h0.spireMarks n).reversed ≠ (h.spireMarks n).reversed) (tx : t ≤ x) :
    ((h.noteSpire h0 n t).spireAt n x).reversed = (h.spireMarks n).reversed := by
  rw [Hub.spireAt, Hub.spire_noteSpire_same]
  exact markAt_markChange_field SpireMarks.reversed (fun e => if_neg ne) (fun e => ne (congrArg SpireMarks.reversed e)) tx _

/-- The same of the channels of a spire that conduct or did. -/
theorem clamped_spireAt {h0 : Hub} (ne : (h0.spireMarks n).clamped ≠ (h.spireMarks n).clamped) (tx : t ≤ x) :
    ((h.noteSpire h0 n t).spireAt n x).clamped = (h.spireMarks n).clamped := by
  rw [Hub.spireAt, Hub.spire_noteSpire_same]
  exact markAt_markChange_field SpireMarks.clamped (fun e => if_neg ne) (fun e => ne (congrArg SpireMarks.clamped e)) tx _

end

end Sys2Proof.Machine

/-!
SUPPORT. Detectors and clamps (R51, R52, R57, R72, R73): the code that stands in place of a channel's, which channels a conducting
clamp marks, and what the rows of the detectors leave alone.
-/

namespace Sys2Proof.Machine

open Sys2Proof.Safety

/-! ### Hubs that differ in one channel or one spire -/

/-- Two hubs that differ at most in registers that `p` accepts and in the state of channel `g`. -/
def sameButChan (p : Nat → Bool) (g : Nat) (h h' : Hub) : Prop :=
  h' = { h with regs := h'.regs, chans := h'.chans } ∧ (∀ a, p a = false → h'.rd a = h.rd a) ∧
    ∀ k, k ≠ g → h'.chan k = h.chan k

/-- Two hubs that differ at most in registers that `p` accepts and in the state of spire `n`. -/
def sameButSpire (p : Nat → Bool) (n : Nat) (h h' : Hub) : Prop :=
  h' = { h with regs := h'.regs, spires := h'.spires } ∧ (∀ a, p a = false → h'.rd a = h.rd a) ∧
    ∀ k, k ≠ n → h'.spire k = h.spire k

section
variable {p : Nat → Bool} {g n : Nat} {h h' h'' : Hub}

theorem sameButChan.trans (q : sameButChan p g h h') (q' : sameButChan p g h' h'') : sameButChan p g h h'' := by
  obtain ⟨form, regs, chans⟩ := q
  obtain ⟨form', regs', chans'⟩ := q'
  refine ⟨?_, fun a ha => (regs' a ha).trans (regs a ha), fun k hk => (chans' k hk).trans (chans k hk)⟩
  rw [form', form]

theorem sameButChan.setBit (h : Hub) (g a i : Nat) (b : Bool) (pa : p a = true) : sameButChan p g h (h.setBit a i b) :=
  ⟨rfl, fun x hx => Hub.rd_wr_other _ _ _ _ fun e => by simp [e, pa] at hx, fun _ _ => rfl⟩

theorem sameButChan.modChan (h : Hub) (g : Nat) (f : Chan → Chan) : sameButChan p g h (h.modChan g f) :=
  ⟨rfl, fun _ _ => rfl, fun _ hk => (Hub.chan_modChan ..).trans (if_neg hk)⟩

theorem sameButChan.noteChan (h h0 : Hub) (n c t : Nat) : sameButChan p (chNo n c) h (h.noteChan h0 n c t) := by
  refine ⟨?_, fun a _ => h.rd_noteChan h0 n c t a, fun k hk => h.chan_noteChan_other h0 n c t k hk⟩
  rw [h.noteChan_frame]

theorem sameButChan.onlyRegsChan {s : State} (q : sameButChan p g s.hub h') : onlyRegsChan p g s { s with hub := h' } :=
  ⟨congrArg (fun h => { s with hub := h }) q.1, q.2⟩

theorem sameButSpire.trans (q : sameButSpire p n h h') (q' : sameButSpire p n h' h'') : sameButSpire p n h h'' := by
  obtain ⟨form, regs, spires⟩ := q
  obtain ⟨form', regs', spires'⟩ := q'
  refine ⟨?_, fun a ha => (regs' a ha).trans (regs a ha), fun k hk => (spires' k hk).trans (spires k hk)⟩
  rw [form', form]

theorem sameButSpire.setBit (h : Hub) (n a i : Nat) (b : Bool) (pa : p a = true) : sameButSpire p n h (h.setBit a i b) :=
  ⟨rfl, fun x hx => Hub.rd_wr_other _ _ _ _ fun e => by simp [e, pa] at hx, fun _ _ => rfl⟩

theorem sameButSpire.modSpire (h : Hub) (n : Nat) (f : Spire → Spire) : sameButSpire p n h (h.modSpire n f) :=
  ⟨rfl, fun _ _ => rfl, fun _ hk => (Hub.spire_modSpire ..).trans (if_neg hk)⟩

theorem sameButSpire.noteSpire (h h0 : Hub) (n t : Nat) : sameButSpire p n h (h.noteSpire h0 n t) := by
  refine ⟨?_, fun a _ => h.rd_noteSpire h0 n t a, fun k hk => h.spire_noteSpire_other h0 n t k hk⟩
  rw [h.noteSpire_frame]

theorem sameButSpire.onlyRegsSpire {s : State} (q : sameButSpire p n s.hub h') : onlyRegsSpire p n s { s with hub := h' } :=
  ⟨congrArg (fun h => { s with hub := h }) q.1, q.2⟩

end

/-! ### The code that detectors put in place of a channel's -/

theorem ChanMarks.code_some {m : ChanMarks} {v : Int} (e : m.overRange = some v) (code : Int) : m.code code = (v, true) := by
  simp only [ChanMarks.code, e]

/-- Inside every limit a code that is not saturated keeps its value, and carries OVR of an RTD channel beyond its compliance. -/
theorem ChanMarks.code_none {m : ChanMarks} (e : m.overRange = none) {code : Int} (lo : -32768 < code) (hi : code < 32767) :
    m.code code = (code, decide (bitsOf m.cfg 0 3 = mRTD) && m.rtdOver) := by
  have top : code ≠ 32767 := by omega
  have bottom : code ≠ -32768 := by omega
  simp [ChanMarks.code, e, top, bottom]

theorem direction_above {p q : BallLevel} (e : p = .above ∨ (p = .inside ∧ q = .above)) : direction p q = some 32767 := by
  rcases e with rfl | ⟨rfl, rfl⟩ <;> rfl

theorem direction_below {p q : BallLevel} (e : p = .below ∨ (p = .inside ∧ q = .below)) : direction p q = some (-32768) := by
  rcases e with rfl | ⟨rfl, rfl⟩ <;> rfl

/-- A conducting clamp governs, whatever the other detectors say. -/
theorem Chan.overRange_clamps {x : Chan} {charge : Bool} {v : Int} (e : direction x.clP x.clN = some v) :
    x.overRange charge = some v := by simp [Chan.overRange, e]

/-- With no clamp conducting the common-mode detector governs. -/
theorem Chan.overRange_commonMode {x : Chan} {charge : Bool} {v : Int} (p : x.clP = .inside) (n : x.clN = .inside)
    (e : direction x.cmP x.cmN = some v) : x.overRange charge = some v := by
  simp only [Chan.overRange, p, n, e]
  rfl

/-- With nothing else tripped the rail detector governs, of a CHARGE channel. -/
theorem Chan.overRange_rail {x : Chan} {charge : Bool} (p : x.clP = .inside) (n : x.clN = .inside) (p' : x.cmP = .inside)
    (n' : x.cmN = .inside) : x.overRange charge = if charge then direction x.rail .inside else none := by
  simp only [Chan.overRange, p, n, p', n']
  rfl

/-! ### The rows of the detectors -/

section
variable (h : Hub) (n c : Nat) (f : Chan → Chan)

theorem Hub.overRange_modChan : ((h.modChan (chNo n c) f).chanMarks n c).overRange =
    (f (h.chan (chNo n c))).overRange (h.feMode n c = mCHARGE) := by
  simp only [Hub.chanMarks, Hub.chan_modChan_same]
  rfl

theorem Hub.rtdOver_modChan : ((h.modChan (chNo n c) f).chanMarks n c).rtdOver = (f (h.chan (chNo n c))).rtdOver := by
  simp only [Hub.chanMarks, Hub.chan_modChan_same]

theorem Hub.mode_modChan : bitsOf ((h.modChan (chNo n c) f).chanMarks n c).cfg 0 3 = h.feMode n c := rfl

end

section
variable {s : State} {n : SpireIx} {c : ChanIx} (p : s.hub.sys.powered = true)
include p

/-- A detector's row changes the state of its channel alone, and notes it: a settled record then shows the detector's state. -/
theorem detector_noted (f : Chan → Chan) (keeps : ∀ x, (f x).marks = x.marks) (run : Nat → Hub → Hub)
    (e : run s.raw.toNat s.hub = (s.hub.modChan (chNo n c) f).noteChan s.hub n c (s.hub.timeAt s.raw.toNat)) :
    ∃ t, s.onHub run = .next t ∧ onlyRegsChan (fun _ => false) (chNo n c) s t ∧
      ∀ x, chanSettled n c (s.hub.timeAt s.raw.toNat) x s →
        t.hub.chanAt n c x = (s.hub.modChan (chNo n c) f).chanMarks n c := by
  refine ⟨_, s.onHub_eq run p e, ((sameButChan.modChan _ _ _).trans (.noteChan _ _ _ _ _)).onlyRegsChan, fun x settled => ?_⟩
  exact chanSettled.chanAt settled (by rw [Hub.chan_modChan_same, keeps])

theorem execCommonModeTrip_spec (a b : BallLevel) (clP : (s.hub.chan (chNo n c)).clP = .inside)
    (clN : (s.hub.chan (chNo n c)).clN = .inside) :
    ∃ t, exec (.commonModeTrip n c a b) s = .next t ∧ onlyRegsChan (fun _ => false) (chNo n c) s t ∧
      ∀ x, chanSettled n c (s.hub.timeAt s.raw.toNat) x s → ∀ code,
        (a = .above ∨ (a = .inside ∧ b = .above) → (t.hub.chanAt n c x).code code = (32767, true)) ∧
        (a = .below ∨ (a = .inside ∧ b = .below) → (t.hub.chanAt n c x).code code = (-32768, true)) := by
  obtain ⟨t, run, only, shows⟩ := detector_noted p (n := n) (c := c) (fun x => { x with cmP := a, cmN := b }) (fun _ => rfl)
    (fun r h => commonModeTrip r n c a b h) rfl
  have tripped : ∀ v, direction a b = some v → ∀ x, chanSettled n c (s.hub.timeAt s.raw.toNat) x s → ∀ code,
      (t.hub.chanAt n c x).code code = (v, true) := fun v e x settled code => by
    rw [shows x settled]
    exact ChanMarks.code_some ((Hub.overRange_modChan ..).trans (Chan.overRange_commonMode clP clN e)) code
  exact ⟨t, run, only, fun x settled code =>
    ⟨fun e => tripped _ (direction_above e) x settled code, fun e => tripped _ (direction_below e) x settled code⟩⟩

variable (clP : (s.hub.chan (chNo n c)).clP = .inside) (clN : (s.hub.chan (chNo n c)).clN = .inside)
  (cmP : (s.hub.chan (chNo n c)).cmP = .inside) (cmN : (s.hub.chan (chNo n c)).cmN = .inside)
include clP clN cmP cmN

theorem execRtdComplianceExceeded_spec (b : Bool) (mode : s.hub.feMode n c = mRTD) :
    ∃ t, exec (.rtdComplianceExceeded n c b) s = .next t ∧ onlyRegsChan (fun _ => false) (chNo n c) s t ∧
      ∀ x, chanSettled n c (s.hub.timeAt s.raw.toNat) x s →
        ∀ code : Int, -32768 < code → code < 32767 → (t.hub.chanAt n c x).code code = (code, b) := by
  obtain ⟨t, run, only, shows⟩ := detector_noted p (n := n) (c := c) (fun x => { x with rtdOver := b }) (fun _ => rfl)
    (fun r h => rtdCompliance r n c b h) rfl
  refine ⟨t, run, only, fun x settled code lo hi => ?_⟩
  have inside : ((s.hub.modChan (chNo n c) fun x => { x with rtdOver := b }).chanMarks n c).overRange = none := by
    rw [Hub.overRange_modChan, mode]
    exact Chan.overRange_rail clP clN cmP cmN
  rw [shows x settled, ChanMarks.code_none inside lo hi, Hub.mode_modChan, Hub.rtdOver_modChan, mode]
  rfl

theorem execChargeRailReached_spec (l : BallLevel) (mode : s.hub.feMode n c = mCHARGE) :
    ∃ t, exec (.chargeRailReached n c l) s = .next t ∧ onlyRegsChan (fun _ => false) (chNo n c) s t ∧
      ∀ x, chanSettled n c (s.hub.timeAt s.raw.toNat) x s →
        ∀ code : Int, -32768 < code → code < 32767 → (t.hub.chanAt n c x).code code =
          (match l with | .above => (32767, true) | .below => (-32768, true) | .inside => (code, false)) := by
  obtain ⟨t, run, only, shows⟩ := detector_noted p (n := n) (c := c) (fun x => { x with rail := l }) (fun _ => rfl)
    (fun r h => chargeRail r n c l h) rfl
  refine ⟨t, run, only, fun x settled code lo hi => ?_⟩
  have governs : ((s.hub.modChan (chNo n c) fun x => { x with rail := l }).chanMarks n c).overRange = direction l .inside := by
    rw [Hub.overRange_modChan, mode]
    exact Chan.overRange_rail clP clN cmP cmN
  rw [shows x settled]
  cases l with
  | above => exact ChanMarks.code_some governs code
  | below => exact ChanMarks.code_some governs code
  | inside =>
    rw [ChanMarks.code_none governs lo hi, Hub.mode_modChan, mode]
    rfl

end

/-! ### Clamps -/

/-- Two hubs that differ at most in registers that `p` accepts, in the state of channel `g` and in that of spire `n`. -/
def sameButFront (p : Nat → Bool) (g n : Nat) (h h' : Hub) : Prop :=
  h' = { h with regs := h'.regs, chans := h'.chans, spires := h'.spires } ∧ (∀ a, p a = false → h'.rd a = h.rd a) ∧
    (∀ k, k ≠ g → h'.chan k = h.chan k) ∧ ∀ k, k ≠ n → h'.spire k = h.spire k

section
variable {p : Nat → Bool} {g n : Nat} {h h' h'' : Hub}

theorem sameButChan.front (q : sameButChan p g h h') (n : Nat) : sameButFront p g n h h' := by
  obtain ⟨form, regs, chans⟩ := q
  have spires : h'.spires = h.spires := by rw [form]
  refine ⟨?_, regs, chans, fun k _ => by rw [Hub.spire, Hub.spire, spires]⟩
  rw [spires]
  exact form

theorem sameButSpire.front (q : sameButSpire p n h h') (g : Nat) : sameButFront p g n h h' := by
  obtain ⟨form, regs, spires⟩ := q
  have chans : h'.chans = h.chans := by rw [form]
  refine ⟨?_, regs, fun k _ => by rw [Hub.chan, Hub.chan, chans], spires⟩
  rw [chans]
  exact form

theorem sameButFront.trans (q : sameButFront p g n h h') (q' : sameButFront p g n h' h'') : sameButFront p g n h h'' := by
  obtain ⟨form, regs, chans, spires⟩ := q
  obtain ⟨form', regs', chans', spires'⟩ := q'
  refine ⟨?_, fun a ha => (regs' a ha).trans (regs a ha), fun k hk => (chans' k hk).trans (chans k hk),
    fun k hk => (spires' k hk).trans (spires k hk)⟩
  rw [form', form]

end

section
variable (h : Hub) (k : Nat)

@[simp] theorem Hub.chan_setBit (a i : Nat) (b : Bool) : (h.setBit a i b).chan k = h.chan k := rfl
@[simp] theorem Hub.spire_setBit (a i : Nat) (b : Bool) : (h.setBit a i b).spire k = h.spire k := rfl
@[simp] theorem Hub.chan_setFld (a lo n v : Nat) : (h.setFld a lo n v).chan k = h.chan k := rfl
@[simp] theorem Hub.spire_setFld (a lo n v : Nat) : (h.setFld a lo n v).spire k = h.spire k := rfl
@[simp] theorem Hub.chan_modSpire (n : Nat) (f : Spire → Spire) : (h.modSpire n f).chan k = h.chan k := rfl
@[simp] theorem Hub.spire_modChan (g : Nat) (f : Chan → Chan) : (h.modChan g f).spire k = h.spire k := rfl
@[simp] theorem Hub.bit_modChan (g a : Nat) (f : Chan → Chan) : (h.modChan g f).bit a k = h.bit a k := rfl
@[simp] theorem Hub.bit_modSpire (n a : Nat) (f : Spire → Spire) : (h.modSpire n f).bit a k = h.bit a k := rfl

end

theorem Hub.bit_setBit_same (h : Hub) (a i : Nat) (b : Bool) (lt : i < 32) : (h.setBit a i b).bit a i = b := by
  rw [Hub.bit, Hub.rd_setBit, if_pos rfl, getLsbD_putBit_same _ _ _ lt]

theorem Hub.rd_setBit_other (h : Hub) (a i b : Nat) (v : Bool) (e : b ≠ a) : (h.setBit a i v).rd b = h.rd b := by
  rw [Hub.rd_setBit, if_neg e]

/-- A channel that conducts, or did, marks every other one of its spire, and the sense readings. -/
theorem Hub.clampSuspect_of_testBit {h : Hub} {n c d x : Nat} (clamped : (h.spireAt n x).clamped.testBit c = true) (lt : c < 32)
    (ne : d ≠ c) : h.clampSuspect n d x = true := by
  have low : ((h.spireAt n x).clamped % 2 ^ 32).testBit c = true := by
    rw [Nat.testBit_mod_two_pow, clamped, decide_eq_true lt, Bool.and_self]
  have some : (h.spireAt n x).clamped % 2 ^ 32 ≠ 0 := by
    intro e
    rw [e, Nat.zero_testBit] at low
    exact nomatch low
  simp only [Hub.clampSuspect, some, ne_eq, not_false_eq_true, decide_true, Bool.true_and, List.any_eq_true]
  exact ⟨c, List.mem_range.mpr lt, by rw [low, Bool.and_true, bne_iff_ne]; exact Ne.symm ne⟩

theorem Hub.clampSuspect_of_none {h : Hub} {n d x : Nat} (clamped : (h.spireAt n x).clamped = 0) :
    h.clampSuspect n d x = false := by simp [Hub.clampSuspect, clamped]

/-- The state of the hub that a sampling of a channel's clamps notes. -/
def clampState (n c : Nat) (a b : BallLevel) (h : Hub) : Hub :=
  let set := (h.modChan (chNo n c) fun x => { x with clP := a, clN := b }).setBit (Addr.FE_CLAMP_NOW n) c
    (a != .inside || b != .inside)
  if a != .inside || b != .inside then set.setBit (Addr.FE_CLAMP n) c true
  else if h.bit (Addr.FE_CLAMP_NOW n) c then set.modSpire n fun s => { s with clampTail := s.clampTail ||| 2 ^ c } else set

theorem clampConduct_eq (n c f : Nat) (a b : BallLevel) (h : Hub) :
    clampConduct n c f a b h = ((clampState n c a b h).noteChan h n c (f * frameU)).noteSpire h n (f * frameU) := rfl

section
variable (n c : Nat) (a b : BallLevel) (h : Hub)

theorem clampState_front : sameButFront (fun x => x == Addr.FE_CLAMP_NOW n || x == Addr.FE_CLAMP n) (chNo n c) n h
    (clampState n c a b h) := by
  have set : ∀ on, sameButChan (fun x => x == Addr.FE_CLAMP_NOW n || x == Addr.FE_CLAMP n) (chNo n c) h
      ((h.modChan (chNo n c) fun x => { x with clP := a, clN := b }).setBit (Addr.FE_CLAMP_NOW n) c on) :=
    fun on => (sameButChan.modChan _ _ _).trans (.setBit _ _ _ _ _ (by simp))
  unfold clampState
  dsimp only
  split
  · exact ((set _).trans (.setBit _ _ _ _ _ (by simp))).front n
  split
  · exact ((set _).front n).trans ((sameButSpire.modSpire _ _ _).front _)
  · exact (set _).front n

theorem chan_clampState : (clampState n c a b h).chan (chNo n c) = { h.chan (chNo n c) with clP := a, clN := b } := by
  unfold clampState
  dsimp only
  split
  · simp
  split <;> simp

theorem marks_clampState : ((clampState n c a b h).spire n).marks = (h.spire n).marks := by
  unfold clampState
  dsimp only
  split
  · simp
  split <;> simp

variable {n c a b h} in
theorem clampState_conducting (on : a ≠ .inside ∨ b ≠ .inside) (lt : c < 32) (far : Addr.FE_CLAMP_NOW n ≠ Addr.FE_CLAMP n) :
    (clampState n c a b h).bit (Addr.FE_CLAMP_NOW n) c = true ∧ (clampState n c a b h).bit (Addr.FE_CLAMP n) c = true := by
  have cond : (a != .inside || b != .inside) = true := by simpa using on
  simp only [clampState, cond, if_true]
  refine ⟨?_, Hub.bit_setBit_same _ _ _ _ lt⟩
  rw [Hub.bit, Hub.rd_setBit_other _ _ _ _ _ far]
  exact Hub.bit_setBit_same _ _ _ _ lt

variable {n c h} in
theorem clampState_inside (lt : c < 32) (far : Addr.FE_CLAMP n ≠ Addr.FE_CLAMP_NOW n) :
    (clampState n c .inside .inside h).bit (Addr.FE_CLAMP_NOW n) c = false ∧
    (clampState n c .inside .inside h).rd (Addr.FE_CLAMP n) = h.rd (Addr.FE_CLAMP n) ∧
    (h.bit (Addr.FE_CLAMP_NOW n) c = true → ((clampState n c .inside .inside h).spire n).clampTail.testBit c = true) := by
  have bit : ∀ g : Hub, (g.setBit (Addr.FE_CLAMP_NOW n) c false).bit (Addr.FE_CLAMP_NOW n) c = false :=
    fun g => Hub.bit_setBit_same _ _ _ _ lt
  have sticky : ∀ g : Hub, (g.setBit (Addr.FE_CLAMP_NOW n) c false).rd (Addr.FE_CLAMP n) = g.rd (Addr.FE_CLAMP n) :=
    fun g => Hub.rd_setBit_other _ _ _ _ _ far
  cases was : h.bit (Addr.FE_CLAMP_NOW n) c with
  | false => simp [clampState, was, bit, sticky]
  | true => simp [clampState, was, bit, sticky, Nat.testBit_or]

end

/-- The bit of a channel that stopped marking goes out of the tail. -/
theorem clampTail_cleared (tail : Nat) (c : ChanIx) : (tail &&& (2 ^ 32 - 1 - 2 ^ c.val)).testBit c = false := by
  have bit : ∀ c : Fin 32, (2 ^ 32 - 1 - 2 ^ c.val).testBit c = false := by decide
  rw [Nat.testBit_and, bit c, Bool.and_false]

section
variable {s : State} {n : SpireIx} {c : ChanIx} (p : s.hub.sys.powered = true)
include p

theorem execClampConduct_spec (a b : BallLevel) :
    ∃ t, exec (.clampConduct n c a b) s = .next t ∧
      (a ≠ .inside ∨ b ≠ .inside →
        t.hub.bit (Addr.FE_CLAMP_NOW n) c = true ∧ t.hub.bit (Addr.FE_CLAMP n) c = true ∧
        (∀ x, spireSettled n (frameOf (s.hub.timeAt s.raw.toNat) * frameU) x s →
          ∀ d, d ≤ 32 → d ≠ c.val → t.hub.clampSuspect n d x = true) ∧
        ∀ x, chanSettled n c (frameOf (s.hub.timeAt s.raw.toNat) * frameU) x s → ∀ code,
          (a = .above ∨ (a = .inside ∧ b = .above) → (t.hub.chanAt n c x).code code = (32767, true)) ∧
          (a = .below ∨ (a = .inside ∧ b = .below) → (t.hub.chanAt n c x).code code = (-32768, true))) ∧
      (a = .inside ∧ b = .inside →
        t.hub.bit (Addr.FE_CLAMP_NOW n) c = false ∧ t.hub.rd (Addr.FE_CLAMP n) = s.hub.rd (Addr.FE_CLAMP n) ∧
        (s.hub.bit (Addr.FE_CLAMP_NOW n) c = true → (t.hub.spire n).clampTail.testBit c = true)) ∧
      regsKept (fun a => a == Addr.FE_CLAMP_NOW n || a == Addr.FE_CLAMP n) s t ∧
      (∀ g, g ≠ chNo n c → t.hub.chan g = s.hub.chan g) ∧ (∀ k, k ≠ n.val → t.hub.spire k = s.hub.spire k) ∧
      t = { s with hub := { s.hub with regs := t.hub.regs, chans := t.hub.chans, spires := t.hub.spires } } := by
  have far : Addr.FE_CLAMP_NOW n ≠ Addr.FE_CLAMP n := by simp only [Addr.FE_CLAMP_NOW, Addr.FE_CLAMP]; omega
  generalize frame : frameOf (s.hub.timeAt s.raw.toNat) * frameU = F
  generalize state : clampState n c a b s.hub = h'
  have front := clampState_front n c a b s.hub
  have chan := chan_clampState n c a b s.hub
  have marks := marks_clampState n c a b s.hub
  have run : s.onHub (fun r h => clampConduct n c (frameOf (h.timeAt r)) a b h) =
      .next { s with hub := (h'.noteChan s.hub n c F).noteSpire s.hub n F } := by
    rw [s.onHub_eq _ p rfl, clampConduct_eq, frame, state]
  rw [state] at front chan marks
  obtain ⟨form, regs, chans, spires⟩ :=
    (front.trans ((sameButChan.noteChan _ s.hub n c F).front n)).trans ((sameButSpire.noteSpire _ s.hub n F).front (chNo n c))
  refine ⟨_, run, fun on => ?_, fun off => ?_, regs, chans, spires, congrArg (fun h => { s with hub := h }) form⟩
  · obtain ⟨now, sticky⟩ := clampState_conducting (h := s.hub) on c.isLt far
    rw [state] at now sticky
    have shows : ∀ x, chanSettled n c F x s → ∀ v, direction a b = some v → ∀ code,
        (((h'.noteChan s.hub n c F).noteSpire s.hub n F).chanAt n c x).code code = (v, true) := by
      intro x settled v e code
      rw [SameSettings.chanAt (h := h'.noteChan s.hub n c F) (.of_regs (by simp) (by simp)) n c (by simp),
        chanSettled.chanAt settled (by rw [chan])]
      refine ChanMarks.code_some ?_ code
      simp only [Hub.chanMarks, chan]
      exact Chan.overRange_clamps e
    refine ⟨by simpa [Hub.bit] using now, by simpa [Hub.bit] using sticky, fun x settled d _ ne => ?_, fun x settled code =>
      ⟨fun e => shows x settled _ (direction_above e) code, fun e => shows x settled _ (direction_below e) code⟩⟩
    refine Hub.clampSuspect_of_testBit ?_ c.isLt ne
    rw [spireSettled.spireAt settled (by simpa using marks)]
    simp only [Hub.spireMarks, Hub.rd_noteChan, Nat.testBit_or, Bool.or_eq_true]
    exact .inl now
  · obtain ⟨rfl, rfl⟩ := off
    obtain ⟨now, sticky, tail⟩ := clampState_inside (h := s.hub) c.isLt far.symm
    rw [state] at now sticky tail
    refine ⟨by simpa [Hub.bit] using now, by simpa using sticky, fun was => ?_⟩
    rw [Hub.spire_noteSpire_same]
    simpa using tail was

theorem execClampSuspectEnd_spec :
    ∃ t, exec (.clampSuspectEnd n c) s = .next t ∧ onlyRegsSpire (fun _ => false) n s t ∧
      (t.hub.spire n).clampTail.testBit c = false ∧
      (s.hub.rd (Addr.FE_CLAMP_NOW n) = 0#32 → (s.hub.spire n).clampTail = 2 ^ c.val →
        ∀ x, frameOf (s.hub.timeAt s.raw.toNat) * frameU ≤ x → ∀ d, t.hub.clampSuspect n d x = false) := by
  refine ⟨_, s.onHub_eq (fun r h => clampSuspectEnd n c (frameOf (h.timeAt r)) h) p rfl,
    ((sameButSpire.modSpire _ _ _).trans (.noteSpire _ _ _ _)).onlyRegsSpire, ?_, fun none last x le d => ?_⟩
  · simp only [clampSuspectEnd, Hub.spire_noteSpire_same, Hub.spire_modSpire_same]
    exact clampTail_cleared _ c
  · have empty : ∀ c : Fin 32, 2 ^ c.val &&& (2 ^ 32 - 1 - 2 ^ c.val) = 0 := by decide
    have before : (s.hub.spireMarks n).clamped = 2 ^ c.val := by simp [Hub.spireMarks, none, last]
    refine Hub.clampSuspect_of_none ?_
    generalize clear : (fun x : Spire => { x with clampTail := x.clampTail &&& (2 ^ 32 - 1 - 2 ^ c.val) }) = f
    have after : ((s.hub.modSpire n f).spireMarks n).clamped = 0 := by
      simp only [Hub.spireMarks, Hub.rd_modSpire, none, ← clear, Hub.spire_modSpire_same, last, empty c]
      rfl
    have ne : (s.hub.spireMarks n).clamped ≠ ((s.hub.modSpire n f).spireMarks n).clamped := by
      rw [before, after]
      exact Nat.ne_of_gt (Nat.two_pow_pos _)
    simp only [clampSuspectEnd, clear]
    rw [clamped_spireAt ne le, after]

end

/-- Settles O18: each detector notes the state it finds, and the note reads back at every instant whose record was up to date. -/
theorem detectorsReplaceTheCode : Obligations.DetectorsReplaceTheCode := by
  unfold Obligations.DetectorsReplaceTheCode
  exact ⟨fun _ _ _ a b p clP clN => execCommonModeTrip_spec p a b clP clN,
    fun _ _ _ b p mode clP clN cmP cmN => execRtdComplianceExceeded_spec p clP clN cmP cmN b mode,
    fun _ _ _ l p mode clP clN cmP cmN => execChargeRailReached_spec p clP clN cmP cmN l mode,
    fun _ _ _ a b p => execClampConduct_spec p a b,
    fun _ _ _ p => execClampSuspectEnd_spec p⟩

end Sys2Proof.Machine

/-!
SUPPORT. Writes of the registers of the front ends and the filter islands (R11, R413): which function of the model a write ends
in, where the mode lets it through and where it refuses it, and what such a write leaves alone.
-/

namespace Sys2Proof.Machine

open Sys2Proof.Safety

/-! ### A write of a register at or above the spires' blocks -/

section
variable {h : Hub} {r m a : Nat} {v : Word}

theorem Hub.registerWrite_above (lo : 0x41000000 ≤ a) :
    h.registerWrite r m a v = if planRestricted a then h.restrictedStore r m a v else h.regStore r m a v := by
  have boot : a ≠ Addr.SYS_BOOT_CTRL := by simp only [Addr.SYS_BOOT_CTRL]; omega
  have otp : a ≠ Addr.SYS_OTP_CTRL := by simp only [Addr.SYS_OTP_CTRL]; omega
  have stage : ¬ a < Addr.SYS_OTP_STAGE 8 := by simp only [Addr.SYS_OTP_STAGE]; omega
  simp [Hub.registerWrite, boot, otp, stage]

theorem Hub.write_above (lo : 0x41000000 ≤ a) (ok : h.accessOk m true a 4 = true) :
    h.write r m a v = (if planRestricted a then h.restrictedStore r m a v else h.regStore r m a v).setOk m true := by
  have mgmt : ¬ (m = uplink ∧ a = Addr.SYS_MGMT_CFG) := by
    rintro ⟨-, e⟩
    rw [e] at lo
    exact absurd lo (by decide)
  rw [Hub.write, Hub.busWrite_register h r m a 4 v [] ok (Nat.le_trans (by decide) lo) mgmt, Hub.registerWrite_above lo]

/-- Where the mode lets a restricted register through, its write is an ordinary one. -/
theorem Hub.restrictedStore_open (mode : h.mode = .boot ∨ h.mode = .idle) (plan : h.planLoaded = false) :
    h.restrictedStore r m a v = h.regStore r m a v := by
  rcases mode with e | e <;> simp [Hub.restrictedStore, e, plan]

/-- In SERVICE a write that is taken alters a loaded plan. -/
theorem Hub.restrictedStore_taken (mode : h.mode = .service)
    (taken : (h.regStore r m a v).rd (Addr.ELOG_CLASS_CNT 1) = h.rd (Addr.ELOG_CLASS_CNT 1)) :
    h.restrictedStore r m a v =
      if h.planLoaded then (h.regStore r m a v).setBit Addr.SYS_PLAN_STATUS 1 true else h.regStore r m a v := by
  simp [Hub.restrictedStore, mode, taken]

/-- In SERVICE a refused write alters no plan. -/
theorem Hub.restrictedStore_not_taken {st : Nat} (mode : h.mode = .service) (refused : h.regStore r m a v = h.refuse r m a st) :
    h.restrictedStore r m a v = h.refuse r m a st := by
  have counted : (h.refuse r m a st).rd (Addr.ELOG_CLASS_CNT 1) = h.rd (Addr.ELOG_CLASS_CNT 1) + 1#32 :=
    h.report_class r 1 st m (wd a) (by decide)
  have ne : h.rd (Addr.ELOG_CLASS_CNT 1) + 1#32 ≠ h.rd (Addr.ELOG_CLASS_CNT 1) := by bv_omega
  simp [Hub.restrictedStore, mode, refused, counted, ne]

end

section
variable {s : State} {m : MasterIx} {a : Nat} {v : Word} (p : s.hub.sys.powered = true)
  (ok : s.hub.accessOk m true a 4 = true) (lo : 0x41000000 ≤ a)
include p ok lo

/-- A write that finds the plan open is the register's own. -/
theorem write_of_planOpen (plan : planOpen s) :
    s.onHub (fun r h => h.write r m a v) =
      .next { s with hub := (s.hub.regStore s.raw.toNat m a v).setOk m true } := by
  rw [s.onHub_eq _ p (Hub.write_above lo ok), Hub.restrictedStore_open plan.1 plan.2, ite_self]

/-- A write of a register that no plan restricts is the register's own. -/
theorem write_of_unrestricted (free : planRestricted a = false) :
    s.onHub (fun r h => h.write r m a v) =
      .next { s with hub := (s.hub.regStore s.raw.toNat m a v).setOk m true } := by
  rw [s.onHub_eq _ p (Hub.write_above lo ok), free]
  rfl

theorem write_of_restricted (held : planRestricted a = true) :
    s.onHub (fun r h => h.write r m a v) =
      .next { s with hub := (s.hub.restrictedStore s.raw.toNat m a v).setOk m true } := by
  rw [s.onHub_eq _ p (Hub.write_above lo ok), held]
  rfl

/-- A write that the mode refuses is logged, and changes nothing else (R413). -/
theorem write_refused_by_mode (held : planRestricted a = true)
    (why : s.hub.mode = .armed ∨ s.hub.mode = .run ∨ s.hub.mode = .shadow ∨
      ((s.hub.mode = .boot ∨ s.hub.mode = .idle) ∧ s.hub.planLoaded = true)) :
    ∃ t, s.onHub (fun r h => h.write r m a v) = .next t ∧ refusedStore m s t := by
  refine ⟨_, write_of_restricted p ok lo held, ?_⟩
  have closed : s.hub.mode ≠ .service ∧ (s.hub.planLoaded = true ∨ (s.hub.mode ≠ .boot ∧ s.hub.mode ≠ .idle)) := by
    rcases why with e | e | e | ⟨e | e, plan⟩ <;> simp [e]
    all_goals exact plan
  rw [Hub.restrictedStore_refused _ _ _ _ _ closed.1 closed.2]
  exact refusedStore_refuse s m a ESTATE

end

/-- A register written and nothing else: the note of the access apart, the other registers are kept. -/
theorem onlyStore_wr (s : State) (m a : Nat) (v : Word) :
    onlyStore m (fun x => x == a) s { s with hub := (s.hub.wr a v).setOk m true } :=
  ⟨rfl, fun x hx => (Hub.rd_setOk ..).trans (Hub.rd_wr_other _ _ _ _ (by simpa using hx))⟩

/-! ### Which register lies at an address -/

/-- At `a` lies a register of the row at `b`, of spire `n`. -/
def refAt (a b n : Nat) : Prop := (regRef a).map (fun x => (x.row.base, x.i)) = some (b, n)

theorem refAt.row {a b n : Nat} (q : refAt a b n) : ∃ x, regRef a = some x ∧ x.row.base = b ∧ x.i = n := by
  obtain ⟨x, e, pair⟩ := Option.map_eq_some_iff.mp q
  obtain ⟨base, ix⟩ := Prod.mk.inj pair
  exact ⟨x, e, base, ix⟩

section
variable (n : SpireIx) (c : ChanIx)

theorem refAt_feCfg : refAt (Addr.FE_CFG n c) (Addr.FE_CFG 0 0) n := by
  unfold refAt
  revert n c
  decide +kernel

theorem refAt_feAux : refAt (Addr.FE_AUX n c) (Addr.FE_AUX 0 0) n := by
  unfold refAt
  revert n c
  decide +kernel

theorem refAt_excCtrl : refAt (Addr.EXC_CTRL n) (Addr.EXC_CTRL 0) n := by
  unfold refAt
  revert n
  decide +kernel

theorem refAt_excCfg : refAt (Addr.EXC_CFG n) (Addr.EXC_CFG 0) n := by
  unfold refAt
  revert n
  decide +kernel

theorem refAt_excStatus : refAt (Addr.EXC_STATUS n) (Addr.EXC_STATUS 0) n := by
  unfold refAt
  revert n
  decide +kernel

theorem refAt_feChgReset : refAt (Addr.FE_CHG_RESET n) (Addr.FE_CHG_RESET 0) n := by
  unfold refAt
  revert n
  decide +kernel

theorem refAt_fiCtrl : refAt (Addr.FI_CTRL n) (Addr.FI_CTRL 0) n := by
  unfold refAt
  revert n
  decide +kernel

theorem planRestricted_feCfg : planRestricted (Addr.FE_CFG n c) = true := by
  revert n c
  decide +kernel

theorem planRestricted_feAux : planRestricted (Addr.FE_AUX n c) = true := by
  revert n c
  decide +kernel

theorem planRestricted_excCtrl : planRestricted (Addr.EXC_CTRL n) = false := by
  revert n
  decide +kernel

theorem planRestricted_excStatus : planRestricted (Addr.EXC_STATUS n) = false := by
  revert n
  decide +kernel

theorem planRestricted_feChgReset : planRestricted (Addr.FE_CHG_RESET n) = false := by
  revert n
  decide +kernel

end

section
variable {h : Hub} {r m a b n : Nat} {v : Word}

/-- A write that reaches a register of a spire's block: a reserved value is refused, any other is the row's. -/
theorem Hub.regStore_spire (instant : refAt a b n) (block : a / 0x1000000 = 0x41)
    (free : (b = Addr.INRUSH_CFG || b = Addr.SEL_TIMING) = false) :
    ∃ x, x.row.base = b ∧ x.i = n ∧
      h.regStore r m a v = if reservedValue b n v then h.refuse r m a ERANGE else h.spireStore r m a x v := by
  obtain ⟨x, e, base, ix⟩ := instant.row
  have curve : isCurveWord a = false := by
    have : a < 0x42000000 := by omega
    simp only [isCurveWord, Nat.not_le.mpr this, decide_false, Bool.false_and]
  have mode : h.modeRefuses b = false := by simp only [Hub.modeRefuses, free, Bool.and_false]
  refine ⟨x, base, ix, ?_⟩
  simp only [Hub.regStore, curve, e, base, ix, mode, block]
  rfl

end

section
variable (h : Hub) (r m : Nat) (n : SpireIx) (c : ChanIx) (v : Word)

theorem Hub.regStore_feCfg : h.regStore r m (Addr.FE_CFG n c) v = feCfgStore r m (Addr.FE_CFG n c) false v h := by
  obtain ⟨x, base, -, e⟩ := Hub.regStore_spire (h := h) (r := r) (m := m) (v := v) (refAt_feCfg n c)
    (by simp only [Addr.FE_CFG]; omega) rfl
  have own : h.spireStore r m (Addr.FE_CFG n c) x v = feCfgStore r m (Addr.FE_CFG n c) false v h := by
    simp only [Hub.spireStore, base]
    rfl
  rw [e, own, show reservedValue (Addr.FE_CFG 0 0) n v = feCfgReserved v from rfl]
  cases bad : feCfgReserved v <;> simp [feCfgStore, bad]

theorem Hub.regStore_feAux : h.regStore r m (Addr.FE_AUX n c) v = h.wr (Addr.FE_AUX n c) v := by
  obtain ⟨x, base, -, e⟩ := Hub.regStore_spire (h := h) (r := r) (m := m) (v := v) (refAt_feAux n c)
    (by simp only [Addr.FE_AUX]; omega) rfl
  rw [e, show reservedValue (Addr.FE_AUX 0 0) n v = false from rfl]
  simp only [Hub.spireStore, base]
  rfl

theorem Hub.regStore_feChgReset : h.regStore r m (Addr.FE_CHG_RESET n) v = feChgResetStore n v h := by
  obtain ⟨x, base, ix, e⟩ := Hub.regStore_spire (h := h) (r := r) (m := m) (v := v) (refAt_feChgReset n)
    (by simp only [Addr.FE_CHG_RESET]; omega) rfl
  rw [e, show reservedValue (Addr.FE_CHG_RESET 0) n v = false from rfl]
  simp only [Hub.spireStore, base, ix]
  rfl

theorem Hub.regStore_excCfg : h.regStore r m (Addr.EXC_CFG n) v = excCfgStore r m n v h := by
  obtain ⟨x, base, ix, e⟩ := Hub.regStore_spire (h := h) (r := r) (m := m) (v := v) (refAt_excCfg n)
    (by simp only [Addr.EXC_CFG]; omega) rfl
  have own : h.spireStore r m (Addr.EXC_CFG n) x v = excCfgStore r m n v h := by
    simp only [Hub.spireStore, base, ix]
    rfl
  rw [e, own, show reservedValue (Addr.EXC_CFG 0) n v = decide (bitsOf v 0 2 = 3) from rfl]
  by_cases bad : bitsOf v 0 2 = 3 <;> simp [excCfgStore, bad]

theorem Hub.regStore_excStatus : h.regStore r m (Addr.EXC_STATUS n) v = excStatusStore n v 0#32 h := by
  obtain ⟨x, base, ix, e⟩ := Hub.regStore_spire (h := h) (r := r) (m := m) (v := v) (refAt_excStatus n)
    (by simp only [Addr.EXC_STATUS]; omega) rfl
  rw [e, show reservedValue (Addr.EXC_STATUS 0) n v = false from rfl]
  simp only [Hub.spireStore, base, ix]
  rfl

theorem Hub.regStore_excCtrl : h.regStore r m (Addr.EXC_CTRL n) v = excCtrlStore r m n v h := by
  obtain ⟨x, base, ix, e⟩ := Hub.regStore_spire (h := h) (r := r) (m := m) (v := v) (refAt_excCtrl n)
    (by simp only [Addr.EXC_CTRL]; omega) rfl
  rw [e, show reservedValue (Addr.EXC_CTRL 0) n v = false from rfl]
  simp only [Hub.spireStore, base, ix]
  rfl

/-- The filter island's own register in the block after the spires'. -/
theorem Hub.regStore_fiCtrl :
    h.regStore r m (Addr.FI_CTRL n) v = if v.getLsbD 0 then filterCommit n h else h := by
  obtain ⟨x, e, base, ix⟩ := (refAt_fiCtrl n).row
  have curve : isCurveWord (Addr.FI_CTRL n) = false := by
    have : Addr.FI_CTRL n % 0x10000 < 0x8000 := by simp only [Addr.FI_CTRL]; omega
    simp only [isCurveWord, Nat.not_le.mpr this, decide_false, Bool.false_and, Bool.and_false]
  have block : Addr.FI_CTRL n / 0x1000000 = 0x42 := by simp only [Addr.FI_CTRL]; omega
  have mode : h.modeRefuses (Addr.FI_CTRL 0) = false := Bool.and_false _
  simp only [Hub.regStore, curve, e, base, ix, mode, block, Hub.filterStore]
  rfl

end

end Sys2Proof.Machine

/-!
SUPPORT. The settings of a channel (R45, R46, R467) and the reversal by hand (R69): what their writes do and which of them are
refused.
-/

namespace Sys2Proof.Machine

open Sys2Proof.Safety

/-! ### FE_CFG and FE_AUX -/

/-- The register that a write of FE_CFG or FE_AUX goes to, and the value that it takes. -/
def feReg (n : SpireIx) (c : ChanIx) (aux : Bool) : Nat := if aux then Addr.FE_AUX n c else Addr.FE_CFG n c

def feTaken (aux : Bool) (v : Word) : Word := if aux then v else v &&& 0x7FFFF#32

section
variable (n : SpireIx) (c : ChanIx) (aux : Bool) (v : Word)

theorem feReg_above : 0x41000000 ≤ feReg n c aux := by
  unfold feReg
  split
  · simp only [Addr.FE_AUX]; omega
  · simp only [Addr.FE_CFG]; omega

theorem planRestricted_feReg : planRestricted (feReg n c aux) = true := by
  unfold feReg
  split
  · exact planRestricted_feAux n c
  · exact planRestricted_feCfg n c

theorem feCfgReserved_false (fits : bitsOf v 0 3 < 6 ∧ bitsOf v 9 2 ≠ 3 ∧ bitsOf v 11 2 ≠ 3) : feCfgReserved v = false := by
  obtain ⟨mode, pol, leak⟩ := fits
  simp [feCfgReserved, mode, pol, leak]

theorem feCfgReserved_true (bad : 6 ≤ bitsOf v 0 3 ∨ bitsOf v 9 2 = 3 ∨ bitsOf v 11 2 = 3) : feCfgReserved v = true := by
  simpa [feCfgReserved, or_assoc] using bad

variable {n c aux v} in
/-- A value with no reserved encoding is stored. -/
theorem Hub.regStore_feReg {h : Hub} {r m : Nat}
    (fits : aux = false → bitsOf v 0 3 < 6 ∧ bitsOf v 9 2 ≠ 3 ∧ bitsOf v 11 2 ≠ 3) :
    h.regStore r m (feReg n c aux) v = h.wr (feReg n c aux) (feTaken aux v) := by
  cases aux with
  | true => exact Hub.regStore_feAux ..
  | false =>
    refine (Hub.regStore_feCfg ..).trans ?_
    simp [feCfgStore, feCfgReserved_false v (fits rfl), feReg, feTaken]

variable {v} in
theorem Hub.regStore_feCfg_reserved {h : Hub} {r m : Nat} (bad : 6 ≤ bitsOf v 0 3 ∨ bitsOf v 9 2 = 3 ∨ bitsOf v 11 2 = 3) :
    h.regStore r m (Addr.FE_CFG n c) v = h.refuse r m (Addr.FE_CFG n c) ERANGE := by
  rw [Hub.regStore_feCfg, feCfgStore, feCfgReserved_true v bad]
  rfl

end

section
variable {s : State} {m : MasterIx} {n : SpireIx} {c : ChanIx} {aux : Bool} {v : Word} (p : s.hub.sys.powered = true)
include p

theorem execFeCfgWrite_open (ok : s.hub.accessOk m true (feReg n c aux) 4 = true) (plan : planOpen s)
    (fits : aux = false → bitsOf v 0 3 < 6 ∧ bitsOf v 9 2 ≠ 3 ∧ bitsOf v 11 2 ≠ 3) :
    ∃ t, exec (.feCfgWrite m n c aux v) s = .next t ∧ t.hub.rd (feReg n c aux) = feTaken aux v ∧
      onlyStore m (fun a => a == feReg n c aux) s t := by
  have run := write_of_planOpen (v := v) p ok (feReg_above ..) plan
  rw [Hub.regStore_feReg fits] at run
  refine ⟨_, run, ?_⟩
  exact ⟨Hub.rd_wr_same .., onlyStore_wr ..⟩

theorem execFeCfgWrite_service (ok : s.hub.accessOk m true (feReg n c aux) 4 = true) (mode : s.hub.mode = .service)
    (fits : aux = false → bitsOf v 0 3 < 6 ∧ bitsOf v 9 2 ≠ 3 ∧ bitsOf v 11 2 ≠ 3) :
    ∃ t, exec (.feCfgWrite m n c aux v) s = .next t ∧ t.hub.rd (feReg n c aux) = feTaken aux v ∧
      (s.hub.planLoaded = true → t.hub.bit Addr.SYS_PLAN_STATUS 1 = true) ∧
      onlyStore m (fun a => a == feReg n c aux || (s.hub.planLoaded && a == Addr.SYS_PLAN_STATUS)) s t := by
  have above := feReg_above n c aux
  have plan : feReg n c aux ≠ Addr.SYS_PLAN_STATUS := by simp only [Addr.SYS_PLAN_STATUS]; omega
  have count : Addr.ELOG_CLASS_CNT 1 ≠ feReg n c aux := by simp only [Addr.ELOG_CLASS_CNT]; omega
  have stored := Hub.regStore_feReg (h := s.hub) (r := s.raw.toNat) (m := m) (n := n) (c := c) fits
  have taken : (s.hub.regStore s.raw.toNat m (feReg n c aux) v).rd (Addr.ELOG_CLASS_CNT 1) =
      s.hub.rd (Addr.ELOG_CLASS_CNT 1) := by rw [stored, Hub.rd_wr_other _ _ _ _ count]
  have run := write_of_restricted (v := v) p ok above (planRestricted_feReg n c aux)
  rw [Hub.restrictedStore_taken mode taken, stored] at run
  refine ⟨_, run, ?_⟩
  cases loaded : s.hub.planLoaded with
  | false =>
    refine ⟨Hub.rd_wr_same .., nofun, ?_⟩
    simpa using onlyStore_wr s m (feReg n c aux) (feTaken aux v)
  | true =>
    refine ⟨?_, fun _ => Hub.bit_setBit_same _ _ _ _ (by decide), rfl, fun a ha => ?_⟩
    · simp only [if_true, Hub.rd_setOk]
      rw [Hub.rd_setBit_other _ _ _ _ _ plan, Hub.rd_wr_same]
    · have apart : a ≠ feReg n c aux ∧ a ≠ Addr.SYS_PLAN_STATUS := by simpa using ha
      simp only [if_true, Hub.rd_setOk]
      rw [Hub.rd_setBit_other _ _ _ _ _ apart.2, Hub.rd_wr_other _ _ _ _ apart.1]

/-- A reserved encoding is refused wherever the mode lets the write through. -/
theorem execFeCfgWrite_reserved (ok : s.hub.accessOk m true (Addr.FE_CFG n c) 4 = true)
    (mode : planOpen s ∨ s.hub.mode = .service) (bad : 6 ≤ bitsOf v 0 3 ∨ bitsOf v 9 2 = 3 ∨ bitsOf v 11 2 = 3) :
    ∃ t, exec (.feCfgWrite m n c false v) s = .next t ∧ refusedStore m s t := by
  have above : 0x41000000 ≤ Addr.FE_CFG n c := feReg_above n c false
  have refused := Hub.regStore_feCfg_reserved (h := s.hub) (r := s.raw.toNat) (m := m) n c bad
  rcases mode with plan | mode
  · have run := write_of_planOpen (v := v) p ok above plan
    rw [refused] at run
    exact ⟨_, run, refusedStore_refuse ..⟩
  · have run := write_of_restricted (v := v) p ok above (planRestricted_feCfg n c)
    rw [Hub.restrictedStore_not_taken mode refused] at run
    exact ⟨_, run, refusedStore_refuse ..⟩

end

/-! ### The settings taking effect -/

/-- The written copies put in force, the first thing that FE_CFG_TAKE_EFFECT does. -/
def feInForce (n c : Nat) (h : Hub) : Hub :=
  (h.setActive (Addr.FE_CFG n c) (h.rd (Addr.FE_CFG n c))).setActive (Addr.FE_AUX n c) (h.rd (Addr.FE_AUX n c))

/-- What a change of MODE does on top of it. -/
def feMoved (n c f : Nat) (h : Hub) : Hub :=
  if h.feMode n c = h.fld (Addr.FE_CFG n c) 0 3 then feInForce n c h else ((feInForce n c h).clearPaths n c f).senQuiet n c

theorem active_feInForce (n : SpireIx) (c : ChanIx) (h : Hub) :
    (feInForce n c h).active (Addr.FE_CFG n c) = h.rd (Addr.FE_CFG n c) ∧
    (feInForce n c h).active (Addr.FE_AUX n c) = h.rd (Addr.FE_AUX n c) ∧
    ∀ a, a ≠ Addr.FE_CFG n c → a ≠ Addr.FE_AUX n c → (feInForce n c h).active a = h.active a := by
  have far : Addr.FE_CFG n c ≠ Addr.FE_AUX n c := by simp only [Addr.FE_CFG, Addr.FE_AUX]; omega
  refine ⟨?_, ?_, fun a cfg aux => ?_⟩
  · rw [feInForce, Hub.active_setActive, if_neg far, Hub.active_setActive, if_pos rfl]
  · rw [feInForce, Hub.active_setActive, if_pos rfl]
  · rw [feInForce, Hub.active_setActive, if_neg aux, Hub.active_setActive, if_neg cfg]

section
variable (n c f : Nat) (h : Hub)

theorem Hub.chan_clearPaths : (h.clearPaths n c f).chan (chNo n c) =
    { h.chan (chNo n c) with raw := [], cIdx := some (h.idxOf n c f), cFrame := f } := Hub.chan_modChan_same ..

theorem Hub.chan_senQuiet : (h.senQuiet n c).chan (chNo n c) = { h.chan (chNo n c) with
    sen := { (h.chan (chNo n c)).sen with
      st := .quiet, base := none, noise := 0, cross := false, prev := false, tapIdx := none } } := by
  rw [Hub.senQuiet, Hub.modSen, Hub.chan_setFld]
  exact Hub.chan_modChan_same ..

theorem Hub.senQuiet_frame : sameButChan (fun a => a == Addr.SEN_NOISE n c) (chNo n c) h (h.senQuiet n c) := by
  refine (sameButChan.modChan h (chNo n c) _).trans ⟨rfl, fun a ha => ?_, fun _ _ => rfl⟩
  exact (Hub.rd_setFld ..).trans (if_neg (by simpa using ha))

/-- A change of MODE changes its channel, and of the registers SEN_NOISE, beside the settings in force. -/
theorem feMoved_frame : sameButChan (fun a => a == Addr.SEN_NOISE n c) (chNo n c) (feInForce n c h) (feMoved n c f h) := by
  unfold feMoved
  split
  · exact ⟨rfl, fun _ _ => rfl, fun _ _ => rfl⟩
  · exact (sameButChan.modChan _ _ _).trans (Hub.senQuiet_frame ..)

theorem chan_feMoved : (feMoved n c f h).chan (chNo n c) =
    if h.feMode n c = h.fld (Addr.FE_CFG n c) 0 3 then h.chan (chNo n c)
    else { h.chan (chNo n c) with
      raw := [], cIdx := some ((feInForce n c h).idxOf n c f), cFrame := f
      sen := { (h.chan (chNo n c)).sen with
        st := .quiet, base := none, noise := 0, cross := false, prev := false, tapIdx := none } } := by
  unfold feMoved
  split
  · rfl
  · rw [Hub.chan_senQuiet, Hub.chan_clearPaths]
    rfl

/-- The whole row notes what a change of the settings, of MODE with them, leaves, the count of changes apart. -/
theorem feCfgTakeEffect_eq : ∃ g, feCfgTakeEffect n c f h = g.noteChan h n c (f * frameU) ∧
    sameButChan (fun a => a == Addr.SEN_NOISE n c) (chNo n c) (feInForce n c h) g ∧ g.regs = (feMoved n c f h).regs ∧
    ∃ k, g.chan (chNo n c) = { (feMoved n c f h).chan (chNo n c) with cfgEpoch := k } := by
  have frame := feMoved_frame n c f h
  have row : feCfgTakeEffect n c f h = (if bitsOf (h.active (Addr.FE_CFG n c)) 3 6 ≠ bitsOf (h.rd (Addr.FE_CFG n c)) 3 6 ∨
        bitsOf (h.active (Addr.FE_CFG n c)) 13 4 ≠ bitsOf (h.rd (Addr.FE_CFG n c)) 13 4 then
      (feMoved n c f h).modChan (chNo n c) fun x => { x with cfgEpoch := x.cfgEpoch + 1 }
    else feMoved n c f h).noteChan h n c (f * frameU) := by
    simp only [feCfgTakeEffect, feMoved, Hub.feMode, Hub.afld, Hub.fld, Bool.or_eq_true, decide_eq_true_eq, ite_not]
    rfl
  split at row
  · exact ⟨_, row, frame.trans (.modChan _ _ _), rfl, _, Hub.chan_modChan_same ..⟩
  · exact ⟨_, row, frame, rfl, _, rfl⟩

end

theorem execFeCfgTakeEffect_spec {s : State} {n : SpireIx} {c : ChanIx} (p : s.hub.sys.powered = true) :
    ∃ t, exec (.feCfgTakeEffect n c) s = .next t ∧
      t.hub.active (Addr.FE_CFG n c) = s.hub.rd (Addr.FE_CFG n c) ∧
      t.hub.active (Addr.FE_AUX n c) = s.hub.rd (Addr.FE_AUX n c) ∧
      (t.hub.chan (chNo n c)).raw =
        (if s.hub.feMode n c = s.hub.fld (Addr.FE_CFG n c) 0 3 then (s.hub.chan (chNo n c)).raw else []) ∧
      (∀ a, a ≠ Addr.FE_CFG n c → a ≠ Addr.FE_AUX n c → t.hub.active a = s.hub.active a) ∧
      (∀ g, g ≠ chNo n c → t.hub.chan g = s.hub.chan g) ∧
      (s.hub.feMode n c ≠ s.hub.fld (Addr.FE_CFG n c) 0 3 → (t.hub.chan (chNo n c)).sen.st = .quiet) ∧
      (s.hub.feMode n c = s.hub.fld (Addr.FE_CFG n c) 0 3 → t.hub.regs = s.hub.regs) ∧
      (∀ x, chanSettled n c (frameOf (s.hub.timeAt s.raw.toNat) * frameU) x s →
        (t.hub.chanAt n c x).cfg = s.hub.rd (Addr.FE_CFG n c)) ∧
      regsKept (fun a => a == Addr.SEN_NOISE n c) s t ∧
      t = { s with hub := { s.hub with regs := t.hub.regs, act := t.hub.act, chans := t.hub.chans } } := by
  obtain ⟨g, row, frame, sameRegs, k, chan⟩ := feCfgTakeEffect_eq n c (frameOf (s.hub.timeAt s.raw.toNat)) s.hub
  have run := s.onHub_eq (fun r h => feCfgTakeEffect n c (frameOf (h.timeAt r)) h) p row
  obtain ⟨cfg, aux, others⟩ := active_feInForce n c s.hub
  obtain ⟨form, regs, chans⟩ := frame.trans (.noteChan g s.hub n c (frameOf (s.hub.timeAt s.raw.toNat) * frameU))
  have act : g.act = (feInForce n c s.hub).act := by rw [frame.1]
  have active : ∀ a, g.active a = (feInForce n c s.hub).active a := fun a => by rw [Hub.active, Hub.active, act]
  rw [chan_feMoved] at chan
  refine ⟨_, run, ?_, ?_, ?_, fun a na nb => ?_, chans, fun moved => ?_, fun same => ?_, fun x settled => ?_, regs, ?_⟩
  · rw [Hub.active_noteChan, active, cfg]
  · rw [Hub.active_noteChan, active, aux]
  · rw [Hub.chan_noteChan_same, chan]
    split <;> rfl
  · rw [Hub.active_noteChan, active, others a na nb]
  · rw [Hub.chan_noteChan_same, chan, if_neg moved]
  · rw [Hub.noteChan_regs, sameRegs, feMoved, if_pos same]
    rfl
  · have marks : (g.chan (chNo n c)).marks = (s.hub.chan (chNo n c)).marks := by
      rw [chan]
      split <;> rfl
    rw [chanSettled.chanAt settled marks]
    exact (active _).trans cfg
  · refine congrArg (fun h => { s with hub := h }) (form.trans ?_)
    simp only [Hub.noteChan_act, act]
    rfl

/-- Settles O17: a write of the settings is stored or refused by the mode and its value, and the frame boundary puts it in force. -/
theorem frontEndConfiguration : Obligations.FrontEndConfiguration := by
  unfold Obligations.FrontEndConfiguration
  refine ⟨fun _ _ n c aux _ p ok plan fits => execFeCfgWrite_open p ok plan fits,
    fun _ _ n c aux _ p ok mode fits => execFeCfgWrite_service p ok mode fits,
    fun _ _ _ _ _ p ok mode bad => execFeCfgWrite_reserved p ok mode bad,
    fun _ _ n c aux _ p ok why => ?_, fun _ _ _ p => execFeCfgTakeEffect_spec p⟩
  exact write_refused_by_mode p ok (feReg_above n c aux) (planRestricted_feReg n c aux) why

/-! ### The reversal by hand -/

/-- The first report is kept in FIRST_ERR with its detail. -/
theorem Hub.logCount_first {h : Hub} {t cls code master : Nat} {detail : Word} (free : h.bit Addr.FIRST_ERR 31 = false)
    (lt : cls < 32) :
    (h.logCount t cls code master detail).rd Addr.FIRST_ERR =
        wd (cls % 32 + 256 * (code % 256) + 65536 * (master % 16) + 2 ^ 31) ∧
      (h.logCount t cls code master detail).rd Addr.FIRST_DETAIL = detail := by
  have count : Addr.FIRST_ERR ≠ Addr.ELOG_CLASS_CNT cls := by
    simp only [Addr.ELOG_CLASS_CNT, Addr.FIRST_ERR]
    omega
  have still : (h.incWrap (Addr.ELOG_CLASS_CNT cls) 0 32 1).bit Addr.FIRST_ERR 31 = false := by
    rw [Hub.bit, Hub.rd_incWrap_other _ _ _ _ _ _ count]
    exact free
  simp only [Hub.logCount, still, Bool.false_eq_true, if_false]
  rw [Hub.rd_wrInst_other _ _ _ _ (by decide), Hub.rd_wrInst_other _ _ _ _ (by decide)]
  exact ⟨(Hub.rd_wr_other _ _ _ _ (by decide)).trans (Hub.rd_wr_same ..), Hub.rd_wr_same ..⟩

/-- Counting a report leaves the log itself. -/
theorem Hub.logCount_elog (h : Hub) (t cls code master : Nat) (detail : Word) :
    (h.logCount t cls code master detail).ctl.elog = h.ctl.elog := by
  unfold Hub.logCount
  dsimp only
  split <;> rfl

/-- An empty log takes a report as its one entry. -/
theorem Hub.logFile_empty {h : Hub} {e : LogEntry} (entries : h.ctl.elog.entries = []) (queue : h.ctl.elog.queue = []) :
    h.logFile e = { h with ctl.elog.queue := [e] } := by simp [Hub.logFile, entries, queue]

/-- Filing a report changes neither FIRST_ERR nor its detail. -/
theorem Hub.rd_logFile_first (h : Hub) (e : LogEntry) (lt : e.cls < 32) :
    (h.logFile e).rd Addr.FIRST_ERR = h.rd Addr.FIRST_ERR ∧ (h.logFile e).rd Addr.FIRST_DETAIL = h.rd Addr.FIRST_DETAIL := by
  have apart : ∀ a, a = Addr.FIRST_ERR ∨ a = Addr.FIRST_DETAIL → a ≠ Addr.ELOG_OVF_CNT e.cls ∧ a ≠ Addr.ELOG_LOST := by
    rintro a (rfl | rfl)
    all_goals
      simp only [Addr.FIRST_ERR, Addr.FIRST_DETAIL, Addr.ELOG_OVF_CNT, Addr.ELOG_LOST]
      omega
  have keeps : ∀ a, a = Addr.FIRST_ERR ∨ a = Addr.FIRST_DETAIL → (h.logFile e).rd a = h.rd a := by
    intro a ha
    obtain ⟨ovf, lost⟩ := apart a ha
    unfold Hub.logFile
    dsimp only
    split
    · rfl
    split
    · rfl
    split
    · rfl
    split
    · rfl
    · rw [Hub.rd_setBit_other _ _ _ _ _ lost, Hub.rd_incSat_other _ _ _ _ _ _ ovf]
  exact ⟨keeps _ (.inl rfl), keeps _ (.inr rfl)⟩

/-- Two hubs that differ in the error log have the same settings of the spires. -/
theorem sameButLog.settings {h h' : Hub} (q : sameButLog h h') : SameSettings h h' := by
  obtain ⟨regs, form⟩ := q
  have outside : ∀ a, 0x41000000 ≤ a → inLog a = false := by
    intro a lo
    have : ¬ a < 0x40003000 := by omega
    simp [inLog, this]
  exact ⟨by rw [form], fun a lo _ => regs a (outside a lo)⟩

section
variable {s : State} {m : MasterIx} {n : SpireIx} {v : Word} (p : s.hub.sys.powered = true)
  (ok : s.hub.accessOk m true (Addr.EXC_CTRL n) 4 = true) (scheduled : s.hub.bit (Addr.EXC_CFG n) 5 = true)
include p ok scheduled

/-- While reversals are scheduled, a word that asks for one by hand is refused, however it is written. -/
theorem reversal_refused (asks : v.getLsbD 0 = true) (b : Bool) :
    exec (if b then .reverseNow m n v else .registerWrite m (wd (Addr.EXC_CTRL n)) .word v) s =
      .next { s with hub := (s.hub.refuse s.raw.toNat m (Addr.EXC_CTRL n) ESTATE).setOk m true } := by
  have above : 0x41000000 ≤ Addr.EXC_CTRL n := by simp only [Addr.EXC_CTRL]; omega
  have refused : ∀ w : Word, w.getLsbD 0 = true →
      s.hub.regStore s.raw.toNat m (Addr.EXC_CTRL n) w = s.hub.refuse s.raw.toNat m (Addr.EXC_CTRL n) ESTATE := by
    intro w hw
    rw [Hub.regStore_excCtrl, excCtrlStore, hw, scheduled]
    rfl
  cases b with
  | true =>
    have run := write_of_unrestricted (v := putBit v 0 true) p ok above (planRestricted_excCtrl n)
    rw [refused _ (getLsbD_putBit_same _ _ _ (by decide))] at run
    exact run
  | false =>
    have run := write_of_unrestricted (v := v) p ok above (planRestricted_excCtrl n)
    have addr : (wd (Addr.EXC_CTRL n)).toNat = Addr.EXC_CTRL n := by
      simp only [wd, BitVec.toNat_ofNat, Addr.EXC_CTRL]
      omega
    rw [refused v asks] at run
    refine (exec_registerWrite s m _ v .word p).trans ?_
    rw [addr]
    exact (State.onHub_powered s _ p).symm.trans run

end

/-- What a refusal reports, on a hub with a free FIRST_ERR, and with an empty log. -/
theorem refuse_reported (h : Hub) (r a st : Nat) (m : MasterIx) (small : st < 256) :
    (h.bit Addr.FIRST_ERR 31 = false →
      (h.refuse r m a st).rd Addr.FIRST_ERR = wd (1 + 256 * st + 65536 * m.val + 2 ^ 31) ∧
      (h.refuse r m a st).rd Addr.FIRST_DETAIL = wd a) ∧
    (h.ctl.elog.entries = [] → h.ctl.elog.queue = [] → ∃ e, (h.refuse r m a st).ctl.elog.queue = [e] ∧ e.cls = 1 ∧
      e.code = st ∧ e.master = m.val ∧ e.detail = wd a) := by
  have counted : ∀ t, (h.logCount t 1 st m (wd a)).ctl.elog = h.ctl.elog := fun t => h.logCount_elog ..
  refine ⟨fun free => ?_, fun entries queue => ?_⟩
  · obtain ⟨err, det⟩ := Hub.logCount_first (t := h.timeAt r) (code := st) (master := m) (detail := wd a) free
      (cls := 1) (by decide)
    obtain ⟨keepErr, keepDet⟩ := (h.logCount (h.timeAt r) 1 st m (wd a)).rd_logFile_first
      { cls := 1, code := st, master := m, detail := wd a, first := h.timeAt r, last := h.timeAt r } Nat.one_lt_ofNat
    refine ⟨keepErr.trans (err.trans ?_), keepDet.trans det⟩
    rw [Nat.mod_eq_of_lt small, Nat.mod_eq_of_lt (Nat.lt_trans m.isLt (by decide : 9 < 16))]
  · rw [Hub.refuse, Hub.report, Hub.reportAt, Hub.logFile_empty (by rw [counted]; exact entries) (by rw [counted]; exact queue)]
    exact ⟨_, rfl, rfl, rfl, rfl, rfl⟩

/-- Settles O22: the row and the plain write of the register end in the same refusal, which the error log alone shows. -/
theorem reversalByHandIsRefusedWhileScheduled : Obligations.ReversalByHandIsRefusedWhileScheduled := by
  unfold Obligations.ReversalByHandIsRefusedWhileScheduled
  intro s m n v b p ok scheduled asks
  have settings := (s.hub.refuse_same s.raw.toNat m (Addr.EXC_CTRL n) ESTATE).settings
  obtain ⟨first, entry⟩ := refuse_reported s.hub s.raw.toNat (Addr.EXC_CTRL n) ESTATE m (by decide)
  have spires : ((s.hub.refuse s.raw.toNat m (Addr.EXC_CTRL n) ESTATE).setOk m true).spire n = s.hub.spire n := by
    rw [(s.hub.refuse_same s.raw.toNat m (Addr.EXC_CTRL n) ESTATE).setOk]
    rfl
  refine ⟨_, reversal_refused p ok scheduled asks b, refusedStore_refuse .., fun f => ?_, rfl, first, entry⟩
  have held := SameSettings.spireAt (h := s.hub)
    (h' := (s.hub.refuse s.raw.toNat m (Addr.EXC_CTRL n) ESTATE).setOk m true) ⟨settings.act, settings.regs⟩ n spires f
  exact congrArg (fun x : SpireMarks => if x.reversed then (-1 : Int) else 1) held

end Sys2Proof.Machine

/-!
SUPPORT. Charge resets and charge tests (R59 to R61, R110): when an instant of a period lies in a frame, what a request does, the
cycle of the reset switch, and the queue of injected conversions.
-/

namespace Sys2Proof.Machine

open Sys2Proof.Safety

/-! ### Instants of a period in a frame -/

/-- The remainder of `e` past the instant of a frame, to a period. -/
theorem emod_bounds (e b : Nat) {p : Nat} (pos : 0 < p) :
    0 ≤ ((e : Int) - (b : Int)) % (p : Int) ∧ ((e : Int) - (b : Int)) % (p : Int) < p :=
  ⟨Int.emod_nonneg _ (by omega), Int.emod_lt_of_pos _ (by omega)⟩

/-- No instant of the period that is not before the frame's is nearer to it than the remainder. -/
theorem emod_le_of_instant {e p b j : Nat} (le : b ≤ e + j * p) :
    ((e : Int) - (b : Int)) % (p : Int) ≤ ((e + j * p - b : Nat) : Int) := by
  have shift : ((e + j * p - b : Nat) : Int) = ((e : Int) - (b : Int)) + (j : Int) * (p : Int) := by
    rw [Nat.cast_sub le]
    push_cast
    omega
  rw [← Int.add_mul_emod_self_right ((e : Int) - (b : Int)) (j : Int) (p : Int), ← shift]
  exact_mod_cast Nat.mod_le (e + j * p - b) p

/-- `dueAt` is at or before every instant of the period that is not before the frame's. -/
theorem dueAt_le {e p f j : Nat} (pos : 0 < p) (le : f * frameU ≤ e + j * p) : dueAt e p f ≤ e + j * p := by
  obtain ⟨nonneg, -⟩ := emod_bounds e (f * frameU) pos
  have := emod_le_of_instant le
  unfold dueAt
  omega

/-- Where the period began before the frame, `dueAt` is one of its instants. -/
theorem dueAt_instant {e p f : Nat} (pos : 0 < p) (before : e < f * frameU) : ∃ j, dueAt e p f = e + j * p := by
  obtain ⟨nonneg, lt⟩ := emod_bounds e (f * frameU) pos
  have split := Int.emod_add_mul_ediv ((e : Int) - ((f * frameU : Nat) : Int)) (p : Int)
  have neg : ((e : Int) - ((f * frameU : Nat) : Int)) / (p : Int) < 0 := Int.ediv_neg_of_neg_of_pos (by omega) (by omega)
  refine ⟨(-(((e : Int) - ((f * frameU : Nat) : Int)) / (p : Int))).toNat, ?_⟩
  unfold dueAt
  generalize ((e : Int) - ((f * frameU : Nat) : Int)) / (p : Int) = q at *
  generalize ((e : Int) - ((f * frameU : Nat) : Int)) % (p : Int) = k at *
  have back : (((-q).toNat * p : Nat) : Int) = -((p : Int) * q) := by
    rw [Nat.cast_mul, Int.toNat_of_nonneg (by omega)]
    ring
  omega

theorem dueInFrame_iff (e p f : Nat) : dueInFrame e p f = true ↔
    0 < p ∧ ∃ j : Nat, f * frameU ≤ e + j * p ∧ e + j * p < (f + 1) * frameU := by
  simp only [dueInFrame, Bool.and_eq_true, decide_eq_true_eq]
  constructor
  · rintro ⟨⟨begun, pos⟩, due⟩
    refine ⟨pos, ?_⟩
    by_cases before : e < f * frameU
    · obtain ⟨j, instant⟩ := dueAt_instant pos before
      have : f * frameU ≤ dueAt e p f := Nat.le_add_right ..
      exact ⟨j, by omega, by omega⟩
    · exact ⟨0, by omega, by omega⟩
  · rintro ⟨pos, j, lo, hi⟩
    exact ⟨⟨by omega, pos⟩, Nat.lt_of_le_of_lt (dueAt_le pos lo) hi⟩

/-! ### Requests -/

/-- A row that leaves the hub leaves the machine. -/
theorem State.onHub_same (s : State) {f : Nat → Hub → Hub} (e : f s.raw.toNat s.hub = s.hub) : s.onHub f = .next s := by
  simp [State.onHub, e]

theorem chNo_inj {n c d : Nat} (e : chNo n c = chNo n d) : c = d := by
  unfold chNo at e
  omega

section
variable {n c : Nat} {h : Hub}

theorem chargeRequest_of_track (mode : h.feMode n c = mCHARGE) (track : (h.chan (chNo n c)).chg = .track) :
    chargeRequest n c h = (h.modChan (chNo n c) fun x => { x with chgReq := true }).setBit (Addr.FE_CHG_RESET n) c true := by
  simp [chargeRequest, mode, track]

/-- A request of a channel that does not track, or is in another mode, has no effect. -/
theorem chargeRequest_of_not (e : ¬ (h.feMode n c = mCHARGE ∧ (h.chan (chNo n c)).chg = .track)) : chargeRequest n c h = h := by
  simp only [chargeRequest, Bool.and_eq_true, decide_eq_true_eq, e, if_false]

end

/-- What a request granted to a channel shows. -/
theorem charge_requested {s : State} {n : SpireIx} {c : ChanIx} (mode : s.hub.feMode n c = mCHARGE)
    (track : (s.hub.chan (chNo n c)).chg = .track) :
    (chargeRequest n c s.hub).bit (Addr.FE_CHG_RESET n) c = true ∧
      (chargeRequest n c s.hub).chan (chNo n c) = { s.hub.chan (chNo n c) with chgReq := true } ∧
      onlyRegsChan (fun a => a == Addr.FE_CHG_RESET n) (chNo n c) s { s with hub := chargeRequest n c s.hub } := by
  rw [chargeRequest_of_track mode track]
  refine ⟨Hub.bit_setBit_same _ _ _ _ c.isLt, by simp, sameButChan.onlyRegsChan ?_⟩
  exact (sameButChan.modChan _ _ _).trans (.setBit _ _ _ _ _ (by simp))

theorem forN_succ {α : Type} (k : Nat) (f : Nat → α → α) (a : α) : forN (k + 1) f a = f k (forN k f a) := by
  simp [forN, List.range_succ]

/-- A write of FE_CHG_RESET asks for a reset of channel `c`. -/
def asksReset (n : Nat) (v : Word) (h : Hub) (c : Nat) : Bool :=
  v.getLsbD c && decide (h.feMode n c = mCHARGE) && decide ((h.chan (chNo n c)).chg = .track)

/-- `g` is `h` after the requests that a write of FE_CHG_RESET makes of the channels below `k`. -/
structure ResetsAsked (n : Nat) (v : Word) (h : Hub) (k : Nat) (g : Hub) : Prop where
  act : g.act = h.act
  dome : g.dome = h.dome
  regs : ∀ a, (a == Addr.FE_CHG_RESET n) = false → g.rd a = h.rd a
  bits : ∀ c, c < 32 → g.bit (Addr.FE_CHG_RESET n) c = (h.bit (Addr.FE_CHG_RESET n) c || (decide (c < k) && asksReset n v h c))
  chans : ∀ c, g.chan (chNo n c) = { h.chan (chNo n c) with
    chgReq := (h.chan (chNo n c)).chgReq || (decide (c < k) && asksReset n v h c) }

/-- The next channel's request, granted or not. -/
theorem ResetsAsked.next {n : Nat} {v : Word} {h g : Hub} {k : Nat} (q : ResetsAsked n v h k g) (lt : k < 32) :
    ResetsAsked n v h (k + 1) (if v.getLsbD k then chargeRequest n k g else g) := by
  have later : ∀ c, c ≠ k → decide (c < k + 1) = decide (c < k) := fun c ne => by simp only [decide_eq_decide]; omega
  have mode : g.feMode n k = h.feMode n k := by rw [Hub.feMode, Hub.feMode, Hub.afld, Hub.afld, Hub.active, Hub.active, q.act]
  have chg : (g.chan (chNo n k)).chg = (h.chan (chNo n k)).chg := by rw [q.chans]
  cases asks : asksReset n v h k with
  | false =>
    have idle : (if v.getLsbD k then chargeRequest n k g else g) = g := by
      split
      · refine chargeRequest_of_not fun ⟨m, t⟩ => ?_
        simp_all [asksReset]
      · rfl
    have none : ∀ c, (decide (c < k + 1) && asksReset n v h c) = (decide (c < k) && asksReset n v h c) := by
      intro c
      by_cases e : c = k
      · rw [e, asks, Bool.and_false, Bool.and_false]
      · rw [later c e]
    rw [idle]
    exact ⟨q.act, q.dome, q.regs, fun c hc => by rw [none, q.bits c hc], fun c => by rw [none, q.chans]⟩
  | true =>
    obtain ⟨⟨bit, charge⟩, track⟩ : (v.getLsbD k = true ∧ h.feMode n k = mCHARGE) ∧
        (h.chan (chNo n k)).chg = .track := by
      simpa [asksReset] using asks
    rw [if_pos bit, chargeRequest_of_track (mode.trans charge) (chg.trans track)]
    refine ⟨q.act, q.dome, fun a ha => ?_, fun c hc => ?_, fun c => ?_⟩
    · rw [Hub.rd_setBit_other _ _ _ _ _ (by simpa using ha)]
      exact q.regs a ha
    · rw [Hub.bit, Hub.rd_setBit, if_pos rfl, getLsbD_putBit _ _ _ _ hc]
      by_cases e : c = k
      · simp [e, asks]
      · rw [if_neg e, later c e]
        exact q.bits c hc
    · rw [Hub.chan_setBit, Hub.chan_modChan]
      by_cases e : c = k
      · rw [if_pos (by rw [e]), e, q.chans]
        simp [asks]
      · rw [if_neg fun x => e (chNo_inj x), later c e]
        exact q.chans c

theorem resetsAsked_store (n : Nat) (v : Word) (h : Hub) : ResetsAsked n v h 32 (feChgResetStore n v h) := by
  have upTo : ∀ k, k ≤ 32 →
      ResetsAsked n v h k (forN k (fun c h => if v.getLsbD c then chargeRequest n c h else h) h) := by
    intro k
    induction k with
    | zero => exact fun _ => ⟨rfl, rfl, fun _ _ => rfl, fun c _ => by simp [forN], fun c => by simp [forN]⟩
    | succ k ih =>
      intro le
      rw [forN_succ]
      exact (ih (by omega)).next (by omega)
  exact upTo 32 (Nat.le_refl 32)

theorem execFeChgResetWrite_spec {s : State} {m : MasterIx} {n : SpireIx} {v : Word} (p : s.hub.sys.powered = true)
    (ok : s.hub.accessOk m true (Addr.FE_CHG_RESET n) 4 = true) :
    ∃ t, exec (.feChgResetWrite m n v) s = .next t ∧ regsKept (fun a => a == Addr.FE_CHG_RESET n) s t ∧
      t.hub.dome = s.hub.dome ∧
      ∀ c : ChanIx, (
      let asks := v.getLsbD c && decide (s.hub.feMode n c = mCHARGE) &&
        decide ((s.hub.chan (chNo n c)).chg = .track)
      t.hub.bit (Addr.FE_CHG_RESET n) c = (s.hub.bit (Addr.FE_CHG_RESET n) c || asks) ∧
        t.hub.chan (chNo n c) = { s.hub.chan (chNo n c) with chgReq := (s.hub.chan (chNo n c)).chgReq || asks }) := by
  have run := write_of_unrestricted (v := v) p ok (by simp only [Addr.FE_CHG_RESET]; omega) (planRestricted_feChgReset n)
  rw [Hub.regStore_feChgReset] at run
  have asked := resetsAsked_store n v s.hub
  have all : ∀ c : ChanIx, decide (c.val < 32) = true := fun c => decide_eq_true c.isLt
  refine ⟨_, run, asked.regs, asked.dome, fun c => ⟨?_, ?_⟩⟩
  · refine (asked.bits c c.isLt).trans ?_
    rw [all, Bool.true_and]
    rfl
  · refine (asked.chans c).trans ?_
    rw [all, Bool.true_and]
    rfl

section
variable {s : State} {n : SpireIx} {c : ChanIx}

theorem execChargeResetAuto_spec {code : Int} (p : s.hub.sys.powered = true) (mode : s.hub.feMode n c = mCHARGE)
    (auto : s.hub.afld (Addr.FE_CFG n c) 9 2 = 1) (large : code ≤ -26542 ∨ 26542 ≤ code)
    (track : (s.hub.chan (chNo n c)).chg = .track) :
    ∃ t, exec (.chargeResetAuto n c code) s = .next t ∧ t.hub.bit (Addr.FE_CHG_RESET n) c = true ∧
      t.hub.chan (chNo n c) = { s.hub.chan (chNo n c) with chgReq := true } ∧
      onlyRegsChan (fun a => a == Addr.FE_CHG_RESET n) (chNo n c) s t := by
  have reaches : 26542 ≤ code.natAbs := by omega
  have row : chargeResetAuto n c code s.hub = chargeRequest n c s.hub := by simp [chargeResetAuto, auto, reaches]
  exact ⟨_, s.onHub_eq (fun _ h => chargeResetAuto n c code h) p row, charge_requested mode track⟩

theorem execChargeResetPeriodic_spec (p : s.hub.sys.powered = true) (mode : s.hub.feMode n c = mCHARGE)
    (periodic : s.hub.afld (Addr.FE_CFG n c) 9 2 = 2) (track : (s.hub.chan (chNo n c)).chg = .track)
    (due : dueInFrame (s.hub.epoch n) (s.hub.afld (Addr.FE_AUX n c) 6 16 * msU) (frameOf (s.hub.timeAt s.raw.toNat)) = true) :
    ∃ t, exec (.chargeResetPeriodic n c) s = .next t ∧ t.hub.bit (Addr.FE_CHG_RESET n) c = true ∧
      t.hub.chan (chNo n c) = { s.hub.chan (chNo n c) with chgReq := true } ∧
      onlyRegsChan (fun a => a == Addr.FE_CHG_RESET n) (chNo n c) s t := by
  have row : chargeResetPeriodic n c (frameOf (s.hub.timeAt s.raw.toNat)) s.hub = chargeRequest n c s.hub := by
    simp [chargeResetPeriodic, periodic, due]
  exact ⟨_, s.onHub_eq (fun r h => chargeResetPeriodic n c (frameOf (h.timeAt r)) h) p row, charge_requested mode track⟩

/-- While the channel is in RESET or SETTLE a request merges into the one that runs. -/
theorem charge_merged (code : Int) (busy : (s.hub.chan (chNo n c)).chg ≠ .track) :
    exec (.chargeResetAuto n c code) s = .next s ∧ exec (.chargeResetPeriodic n c) s = .next s := by
  have merged : chargeRequest n c s.hub = s.hub := chargeRequest_of_not fun e => busy e.2
  have auto : chargeResetAuto n c code s.hub = s.hub := by simp [chargeResetAuto, merged]
  have periodic : ∀ f, chargeResetPeriodic n c f s.hub = s.hub := fun f => by simp [chargeResetPeriodic, merged]
  exact ⟨s.onHub_same (f := fun _ h => chargeResetAuto n c code h) auto,
    s.onHub_same (f := fun r h => chargeResetPeriodic n c (frameOf (h.timeAt r)) h) (periodic _)⟩

theorem chargeResetPeriodic_idle
    (none : dueInFrame (s.hub.epoch n) (s.hub.afld (Addr.FE_AUX n c) 6 16 * msU) (frameOf (s.hub.timeAt s.raw.toNat)) = false) :
    exec (.chargeResetPeriodic n c) s = .next s :=
  s.onHub_same (f := fun r h => chargeResetPeriodic n c (frameOf (h.timeAt r)) h) (by simp [chargeResetPeriodic, none])

end

/-! ### The cycle of the switch -/

section
variable {s : State} {n : SpireIx} {c : ChanIx} (p : s.hub.sys.powered = true)
include p

theorem execChargeResetStart_spec (track : (s.hub.chan (chNo n c)).chg = .track)
    (asked : (s.hub.chan (chNo n c)).chgReq = true) :
    ∃ t, exec (.chargeResetStart n c) s = .next t ∧ (t.hub.chan (chNo n c)).chg = .reset ∧
      (t.hub.chan (chNo n c)).chgReq = false ∧ t.hub.bit (Addr.FE_CHG_RESET n) c = false ∧
      t.hub.bit (Addr.FE_CHG_RESET_ACT n) c = true ∧
      (∀ x, frameOf (s.hub.timeAt s.raw.toNat) * frameU ≤ x → (t.hub.chanAt n c x).rst = true) ∧
      onlyRegsChan (fun a => a == Addr.FE_CHG_RESET n || a == Addr.FE_CHG_RESET_ACT n) (chNo n c) s t := by
  generalize frame : frameOf (s.hub.timeAt s.raw.toNat) = f
  generalize made : ((s.hub.modChan (chNo n c) fun x => { x with chg := .reset, chgReq := false }).setBit
    (Addr.FE_CHG_RESET n) c false).setBit (Addr.FE_CHG_RESET_ACT n) c true = g
  have row : chargeResetStart n c (frameOf (s.hub.timeAt s.raw.toNat)) s.hub = g.noteChan s.hub n c (f * frameU) := by
    rw [← made, frame]
    simp only [chargeResetStart, track, asked, decide_true, Bool.and_self, if_true]
    rfl
  have apart : Addr.FE_CHG_RESET n ≠ Addr.FE_CHG_RESET_ACT n := by simp only [Addr.FE_CHG_RESET, Addr.FE_CHG_RESET_ACT]; omega
  have chan : g.chan (chNo n c) = { s.hub.chan (chNo n c) with chg := .reset, chgReq := false } := by rw [← made]; simp
  have frameOk : sameButChan (fun a => a == Addr.FE_CHG_RESET n || a == Addr.FE_CHG_RESET_ACT n) (chNo n c) s.hub g := by
    rw [← made]
    exact ((sameButChan.modChan _ _ _).trans (.setBit _ _ _ _ _ (by simp))).trans (.setBit _ _ _ _ _ (by simp))
  have bit : g.bit (Addr.FE_CHG_RESET n) c = false := by
    rw [← made, Hub.bit, Hub.rd_setBit_other _ _ _ _ _ apart]
    exact Hub.bit_setBit_same _ _ _ _ c.isLt
  have act : g.bit (Addr.FE_CHG_RESET_ACT n) c = true := by
    rw [← made]
    exact Hub.bit_setBit_same _ _ _ _ c.isLt
  have before : (s.hub.chanMarks n c).rst = false := by simp [Hub.chanMarks, track]
  have after : (g.chanMarks n c).rst = true := by simp [Hub.chanMarks, chan]
  refine ⟨_, s.onHub_eq (fun r h => chargeResetStart n c (frameOf (h.timeAt r)) h) p row, ?_, ?_, ?_, ?_, fun x le => ?_,
    (frameOk.trans (.noteChan _ _ _ _ _)).onlyRegsChan⟩
  · rw [Hub.chan_noteChan_same, chan]
  · rw [Hub.chan_noteChan_same, chan]
  · simpa [Hub.bit] using bit
  · simpa [Hub.bit] using act
  · exact (rst_chanAt (by rw [before, after]; decide) le rfl).trans after

theorem execChargeResetSwitchOpen_spec (reset : (s.hub.chan (chNo n c)).chg = .reset) :
    ∃ t, exec (.chargeResetSwitchOpen n c) s = .next t ∧
      t.hub.chan (chNo n c) = { s.hub.chan (chNo n c) with chg := .settle } ∧
      onlyRegsChan (fun _ => false) (chNo n c) s t := by
  have row : chargeResetOpen n c s.hub = s.hub.modChan (chNo n c) fun x => { x with chg := .settle } := by
    simp only [chargeResetOpen, reset, if_true]
    rfl
  exact ⟨_, s.onHub_eq (fun _ h => chargeResetOpen n c h) p row, Hub.chan_modChan_same ..,
    (sameButChan.modChan _ _ _).onlyRegsChan⟩

end

/-! ### The queue of injected conversions -/

section
variable (h : Hub) (n : Nat)

@[simp] theorem Hub.spire_syncInj (k : Nat) : (h.syncInj n).spire k = h.spire k := rfl
@[simp] theorem Hub.chan_syncInj (k : Nat) : (h.syncInj n).chan k = h.chan k := rfl

theorem Hub.rd_syncInj_other (a : Nat) (ne : a ≠ Addr.INJ_QUEUE n) : (h.syncInj n).rd a = h.rd a := by
  rw [Hub.syncInj, Hub.rd_setFld, if_neg ne, Hub.rd_setFld, if_neg ne]

/-- Entering the queue changes the state of its spire and INJ_QUEUE. -/
theorem sameButSpire_syncInj (f : Spire → Spire) :
    sameButSpire (fun a => a == Addr.INJ_QUEUE n) n h ((h.modSpire n f).syncInj n) :=
  (sameButSpire.modSpire h n f).trans ⟨rfl, fun a ha => Hub.rd_syncInj_other _ _ _ (by simpa using ha), fun _ _ => rfl⟩

variable {h n}

/-- A hub that does not stand by enters a request of its own where the queue is open and has room. -/
theorem internalInj_room (t : Nat) (who : InjWho) (node : Nat) (active : h.standby = false)
    (isOpen : h.fld (Addr.INJ_QUEUE n) 6 2 ≠ 2) (room : (h.spire n).injQ.length < 4) :
    internalInj t n who node h = (h.modSpire n fun x =>
      { x with injQ := x.injQ ++ [{ who := who, node := node, hold := frameAfter t }] }).syncInj n := by
  have idle : h.injIdle who = false := by simp [Hub.injIdle, active]
  have full : ¬ 4 ≤ (h.spire n).injQ.length := by omega
  simp only [internalInj, idle, isOpen, full, decide_false, Bool.or_self]
  rfl

/-- A request of the hub's own, entered, waiting or idle, changes the state of its spire and INJ_QUEUE. -/
theorem internalInj_frame (h : Hub) (t n : Nat) (who : InjWho) (node : Nat) :
    sameButSpire (fun a => a == Addr.INJ_QUEUE n) n h (internalInj t n who node h) := by
  unfold internalInj
  dsimp only
  split
  · exact ⟨rfl, fun _ _ => rfl, fun _ _ => rfl⟩
  split
  · exact sameButSpire.modSpire h n fun x => { x with injWait := x.injWait ++ [{ who := who, node := node }] }
  · exact sameButSpire_syncInj h n fun x => { x with injQ := x.injQ ++ [InjEntry.queuedAt t { who := who, node := node }] }

theorem Hub.standby_of_regs {h' : Hub} (regs : ∀ a, 0x48000000 ≤ a → h'.rd a = h.rd a) : h'.standby = h.standby := by
  simp only [Hub.standby, Hub.paired, Hub.selState, Hub.bit, Hub.fld]
  rw [regs Addr.SEL_CFG (by decide), regs Addr.SEL_STATUS (by decide)]

end

section
variable {s : State} {n : SpireIx} {c : ChanIx} (p : s.hub.sys.powered = true)
include p

theorem execChargeResetSettled_spec (settle : (s.hub.chan (chNo n c)).chg = .settle) :
    ∃ t, exec (.chargeResetSettled n c) s = .next t ∧ (t.hub.chan (chNo n c)).chg = .track ∧
      (t.hub.chan (chNo n c)).ctestDue = false ∧ t.hub.bit (Addr.FE_CHG_RESET_ACT n) c = false ∧
      (∀ x, frameOf (s.hub.timeAt s.raw.toNat) * frameU ≤ x → (t.hub.chanAt n c x).rst = false) ∧
      ((s.hub.chan (chNo n c)).ctestDue = false → onlyRegsChan (fun a => a == Addr.FE_CHG_RESET_ACT n) (chNo n c) s t) ∧
      ((s.hub.chan (chNo n c)).ctestDue = true → s.hub.standby = false → s.hub.fld (Addr.INJ_QUEUE n) 6 2 ≠ 2 →
        (s.hub.spire n).injQ.length < 4 → (t.hub.spire n).injQ = (s.hub.spire n).injQ ++
          [{ who := .ctest c, node := 0, hold := frameAfter (s.hub.timeAt s.raw.toNat) }]) := by
  generalize time : s.hub.timeAt s.raw.toNat = t
  generalize made : (s.hub.modChan (chNo n c) fun x => { x with chg := .track, ctestDue := false }).setBit
    (Addr.FE_CHG_RESET_ACT n) c false = g
  generalize noted : g.noteChan s.hub n c (frameOf t * frameU) = h'
  have row : chargeResetSettled s.raw.toNat n c s.hub =
      if (s.hub.chan (chNo n c)).ctestDue then internalInj t n (.ctest c) 0 h' else h' := by
    rw [← noted, ← made, ← time]
    simp only [chargeResetSettled, settle, if_true]
    rfl
  have apart : Addr.FE_CHG_RESET_ACT n ≠ Addr.INJ_QUEUE n := by simp only [Addr.FE_CHG_RESET_ACT, Addr.INJ_QUEUE]; omega
  have chan : g.chan (chNo n c) = { s.hub.chan (chNo n c) with chg := .track, ctestDue := false } := by rw [← made]; simp
  have frame : sameButChan (fun a => a == Addr.FE_CHG_RESET_ACT n) (chNo n c) s.hub h' := by
    rw [← noted, ← made]
    exact ((sameButChan.modChan _ _ _).trans (.setBit _ _ _ _ _ (by simp))).trans (.noteChan _ _ _ _ _)
  have act : h'.bit (Addr.FE_CHG_RESET_ACT n) c = false := by
    rw [← noted, Hub.bit, Hub.rd_noteChan, ← made]
    exact Hub.bit_setBit_same _ _ _ _ c.isLt
  have before : (s.hub.chanMarks n c).rst = true := by simp [Hub.chanMarks, settle]
  have after : (g.chanMarks n c).rst = false := by simp [Hub.chanMarks, chan]
  obtain ⟨queuedForm, queuedRegs, -⟩ := internalInj_frame h' t n (.ctest c) 0
  have shows : ∀ g' : Hub, g'.chan (chNo n c) = h'.chan (chNo n c) →
      g'.rd (Addr.FE_CHG_RESET_ACT n) = h'.rd (Addr.FE_CHG_RESET_ACT n) →
      (g'.chan (chNo n c)).chg = .track ∧ (g'.chan (chNo n c)).ctestDue = false ∧
      g'.bit (Addr.FE_CHG_RESET_ACT n) c = false ∧ ∀ x, frameOf t * frameU ≤ x → (g'.chanAt n c x).rst = false := by
    intro g' sameChan sameAct
    refine ⟨?_, ?_, by rw [Hub.bit, sameAct]; exact act, fun x le => ?_⟩
    · rw [sameChan, ← noted, Hub.chan_noteChan_same, chan]
    · rw [sameChan, ← noted, Hub.chan_noteChan_same, chan]
    · exact (rst_chanAt (by rw [before, after]; decide) le (by rw [sameChan, ← noted])).trans after
  have run := s.onHub_eq (fun r h => chargeResetSettled r n c h) p row
  cases due : (s.hub.chan (chNo n c)).ctestDue with
  | false =>
    simp only [due, Bool.false_eq_true, if_false] at run
    obtain ⟨track, clear, low, rst⟩ := shows h' rfl rfl
    exact ⟨_, run, track, clear, low, rst, fun _ => frame.onlyRegsChan, nofun⟩
  | true =>
    simp only [due, if_true] at run
    obtain ⟨track, clear, low, rst⟩ := shows (internalInj t n (.ctest c) 0 h')
      (by rw [Hub.chan, Hub.chan, queuedForm]) (queuedRegs _ (by simpa using apart))
    refine ⟨_, run, track, clear, low, rst, nofun, fun _ active isOpen room => ?_⟩
    obtain ⟨form, sameRegs, -⟩ := frame
    have spire : h'.spire n = s.hub.spire n := by rw [Hub.spire, Hub.spire, form]
    have queue : h'.rd (Addr.INJ_QUEUE n) = s.hub.rd (Addr.INJ_QUEUE n) := sameRegs _ (by simpa using apart.symm)
    have standby : h'.standby = false := by
      rw [Hub.standby_of_regs (h := s.hub) fun a lo => sameRegs a ?_]
      · exact active
      · simp only [Addr.FE_CHG_RESET_ACT, beq_eq_false_iff_ne]
        omega
    rw [internalInj_room t (.ctest c) 0 standby (by rw [Hub.fld, queue]; exact isOpen) (by rw [spire]; exact room)]
    simp [spire]

/-- The hub after a charge test's instant in frame `f` was seen, the test not queued yet. -/
def ctestSeen (g f : Nat) (deferred : Bool) (h : Hub) : Hub :=
  h.modChan g fun x => { x with ctestLast := some f, ctestDue := deferred }

omit p in
theorem chargeTestDue_eq {f : Nat} (frame : frameOf (s.hub.timeAt s.raw.toNat) = f) (mode : s.hub.feMode n c = mCHARGE)
    (active : s.hub.standby = false) (enabled : (s.hub.active (Addr.FE_CFG n c)).getLsbD 18 = true)
    (due : dueInFrame (s.hub.epoch n + c * (31250 * nsU)) msU f = true) (first : (s.hub.chan (chNo n c)).ctestLast ≠ some f) :
    chargeTestDue s.raw.toNat n c s.hub =
      (let seen := ctestSeen (chNo n c) f (decide ((s.hub.chan (chNo n c)).chg ≠ .track)) s.hub
       if (s.hub.chan (chNo n c)).chg = .track then internalInj (s.hub.timeAt s.raw.toNat) n (.ctest c) 0 seen else seen) := by
  have inFrame : s.hub.ctestInFrame n c f = true := due
  have now : (s.hub.feMode n c = mCHARGE && (s.hub.active (Addr.FE_CFG n c)).getLsbD 18 && !s.hub.standby &&
      s.hub.ctestInFrame n c f && (s.hub.chan (chNo n c)).ctestLast ≠ some f) = true := by
    simp [mode, enabled, active, inFrame, first]
  simp only [chargeTestDue, frame]
  exact if_pos now

theorem execChargeTestDue_spec {f : Nat} (frame : frameOf (s.hub.timeAt s.raw.toNat) = f) (mode : s.hub.feMode n c = mCHARGE)
    (active : s.hub.standby = false) (enabled : (s.hub.active (Addr.FE_CFG n c)).getLsbD 18 = true)
    (due : dueInFrame (s.hub.epoch n + c * (31250 * nsU)) msU f = true) (first : (s.hub.chan (chNo n c)).ctestLast ≠ some f) :
    ((s.hub.chan (chNo n c)).chg = .track → s.hub.fld (Addr.INJ_QUEUE n) 6 2 ≠ 2 → (s.hub.spire n).injQ.length < 4 →
      ∃ t, exec (.chargeTestDue n c) s = .next t ∧
        t.hub.chan (chNo n c) = { s.hub.chan (chNo n c) with ctestLast := some f, ctestDue := false } ∧
        t.hub.spire n = { s.hub.spire n with injQ := (s.hub.spire n).injQ ++ [{ who := .ctest c, node := 0, hold := f + 1 }] } ∧
        (∀ g, g ≠ chNo n c → t.hub.chan g = s.hub.chan g) ∧ (∀ k, k ≠ n.val → t.hub.spire k = s.hub.spire k) ∧
        regsKept (fun a => a == Addr.INJ_QUEUE n) s t ∧ t.hub.dome = s.hub.dome) ∧
    ((s.hub.chan (chNo n c)).chg ≠ .track →
      ∃ t, exec (.chargeTestDue n c) s = .next t ∧
        t.hub.chan (chNo n c) = { s.hub.chan (chNo n c) with ctestLast := some f, ctestDue := true } ∧
        onlyRegsChan (fun _ => false) (chNo n c) s t) := by
  have row := chargeTestDue_eq frame mode active enabled due first
  refine ⟨fun track isOpen room => ?_, fun busy => ?_⟩
  · rw [if_pos track, decide_eq_false (not_not.mpr track)] at row
    have entered := internalInj_room (h := ctestSeen (chNo n c) f false s.hub) (n := n) (s.hub.timeAt s.raw.toNat) (.ctest c) 0
      active isOpen room
    obtain ⟨form, regs, spires⟩ :=
      internalInj_frame (ctestSeen (chNo n c) f false s.hub) (s.hub.timeAt s.raw.toNat) n (.ctest c) 0
    have chans : ∀ g, (internalInj (s.hub.timeAt s.raw.toNat) n (.ctest c) 0 (ctestSeen (chNo n c) f false s.hub)).chan g =
        (ctestSeen (chNo n c) f false s.hub).chan g := fun g => by rw [Hub.chan, form]; rfl
    refine ⟨_, s.onHub_eq (fun r h => chargeTestDue r n c h) p row, ?_, ?_, fun g ne => ?_, spires, regs, by rw [form]; rfl⟩
    · rw [chans]
      exact Hub.chan_modChan_same ..
    · rw [entered, ← frame, Hub.spire_syncInj, Hub.spire_modSpire_same]
      rfl
    · rw [chans]
      exact (Hub.chan_modChan ..).trans (if_neg ne)
  · rw [if_neg busy, decide_eq_true busy] at row
    exact ⟨_, s.onHub_eq (fun r h => chargeTestDue r n c h) p row, Hub.chan_modChan_same ..,
      (sameButChan.modChan _ _ _).onlyRegsChan⟩

end

/-- Settles O19: requests are granted in TRACK and merged elsewhere, the switch's cycle is a change of state each, and a charge test
is queued or deferred at its instant. -/
theorem chargeResets : Obligations.ChargeResets := by
  unfold Obligations.ChargeResets
  refine ⟨fun _ _ _ _ p ok => execFeChgResetWrite_spec p ok,
    fun _ _ _ _ p mode auto large track => execChargeResetAuto_spec p mode auto large track,
    fun s n c p mode periodic track pos inFrame =>
      execChargeResetPeriodic_spec p mode periodic track ((dueInFrame_iff ..).mpr ⟨pos, inFrame⟩),
    fun _ _ _ code busy => charge_merged code busy,
    fun s n c none => chargeResetPeriodic_idle (Bool.eq_false_iff.mpr fun due => ?_),
    fun _ _ _ p track asked => execChargeResetStart_spec p track asked,
    fun _ _ _ p reset => execChargeResetSwitchOpen_spec p reset,
    fun _ _ _ p settle => execChargeResetSettled_spec p settle,
    fun s n c p mode active enabled inFrame first => ?_⟩
  · obtain ⟨-, j, lo, hi⟩ := (dueInFrame_iff ..).mp due
    rcases none j with early | late <;> omega
  · refine execChargeTestDue_spec p rfl mode active enabled ((dueInFrame_iff ..).mpr ⟨by decide, ?_⟩) first
    obtain ⟨j, lo, hi⟩ := inFrame
    exact ⟨j, by omega, by omega⟩

end Sys2Proof.Machine

/-!
SUPPORT. The excitation driver (R62 to R70, R429, R466): what entering a state of the driver shows, the writes of its registers,
and the instant of a scheduled reversal.
-/

namespace Sys2Proof.Machine

open Sys2Proof.Safety

/-! ### Bits, and the registers of the driver -/

theorem Hub.bit_setBit (h : Hub) (a i x j : Nat) (b : Bool) (lt : j < 32) :
    (h.setBit a i b).bit x j = if x = a ∧ j = i then b else h.bit x j := by
  rw [Hub.bit, Hub.rd_setBit]
  by_cases e : x = a
  · rw [if_pos e, getLsbD_putBit _ _ _ _ lt, e]
    simp only [true_and, Hub.bit]
  · rw [if_neg e, if_neg fun q => e q.1, Hub.bit]

/-- The low bits that a mask keeps. -/
theorem getLsbD_mask (v : Word) (i : Nat) (lt : i < 6) : (v &&& 0x3F#32).getLsbD i = v.getLsbD i := by
  have kept : ∀ i, i < 6 → (0x3F#32 : Word).getLsbD i = true := by decide
  rw [BitVec.getLsbD_and, kept i lt, Bool.and_true]

theorem bitsOf_mask (v : Word) : bitsOf (v &&& 0x3F#32) 0 2 = bitsOf v 0 2 := by
  have low : (v &&& 0x3F#32).toNat = v.toNat % 64 := (BitVec.toNat_and ..).trans (Nat.and_two_pow_sub_one_eq_mod v.toNat 6)
  rw [bitsOf, bitsOf, low]
  omega

section
variable (n : SpireIx)

/-- The registers of the driver lie apart from each other, from INRUSH_PEND and from the error log. -/
theorem exc_apart : Addr.EXC_STATUS n ≠ Addr.EXC_CFG n ∧ Addr.EXC_STATUS n ≠ Addr.EXC_CURRENT n ∧
    Addr.EXC_STATUS n ≠ Addr.EXC_LIMIT_CNT n ∧ Addr.EXC_CURRENT n ≠ Addr.EXC_LIMIT_CNT n ∧
    Addr.EXC_STATUS n ≠ Addr.INRUSH_PEND ∧
    Addr.EXC_CFG n ≠ Addr.INRUSH_PEND ∧ inLog (Addr.EXC_STATUS n) = false := by
  have lt := n.isLt
  refine ⟨?_, ?_, ?_, ?_, ?_, ?_, ?_⟩
  case refine_7 =>
    have above : ¬ Addr.EXC_STATUS n < 0x40003000 := by simp only [Addr.EXC_STATUS]; omega
    rw [inLog, decide_eq_false above, Bool.and_false]
  all_goals
    simp only [Addr.EXC_STATUS, Addr.EXC_CFG, Addr.EXC_CURRENT, Addr.EXC_LIMIT_CNT, Addr.INRUSH_PEND]
    omega

end

/-! ### A state of the driver -/

section
variable (h : Hub) (n : Nat) (x : ExcState)

/-- A driver in state `x` drives its outputs. -/
def drives (x : ExcState) : Bool := decide (x = .on) || decide (x = .limit)

theorem Hub.spire_setExc : (h.setExc n x).spire n =
    { h.spire n with exc := x, excEpoch := (h.spire n).excEpoch + 1 } := by
  refine (Hub.spire_modSpire_same ..).trans ?_
  exact congrArg (fun s : Spire => { s with excEpoch := s.excEpoch + 1 }) (h.spire_modSpire_same n fun s => { s with exc := x })

theorem Hub.rd_setExc_other (a : Nat) (ne : a ≠ Addr.EXC_STATUS n) : (h.setExc n x).rd a = h.rd a := by
  refine (Hub.rd_setBit_other _ _ _ _ _ ne).trans ?_
  rw [Hub.rd_setBit_other _ _ _ _ _ ne, Hub.rd_setBit_other _ _ _ _ _ ne, Hub.rd_modSpire]

/-- Entering a state shows whether the driver drives, and whether it is in its limit; the other bits but HIZ stay. -/
theorem Hub.bit_setExc (i : Nat) (lt : i < 7) : (h.setExc n x).bit (Addr.EXC_STATUS n) i =
    if i = 0 then drives x else if i = 2 then decide (x = .limit) else h.bit (Addr.EXC_STATUS n) i := by
  have high : i ≠ 7 := by omega
  have small : i < 32 := by omega
  refine (Hub.bit_setBit _ _ _ _ _ _ small).trans ?_
  rw [if_neg fun q => high q.2, Hub.bit_setBit _ _ _ _ _ _ small]
  by_cases two : i = 2
  · simp [two]
  · rw [if_neg fun q => two q.2, if_neg two, Hub.bit_setBit _ _ _ _ _ _ small]
    simp only [true_and]
    rfl

theorem Hub.excOut_setExc (d : Bool) : SMap.get d (h.setExc n x).pins.excOut n = drives x := SMap.get_put_same ..

end

/-! ### The waiting enables -/

/-- The first spire that waits for a slot: the waiting bits below it are 0. -/
theorem pend_first {w : Word} {n : SpireIx} (lower : ∀ k, k < n.val → w.getLsbD k = false) : bitsOf w 0 16 % 2 ^ n.val = 0 := by
  refine Nat.eq_of_testBit_eq fun k => ?_
  rw [Nat.testBit_mod_two_pow, Nat.zero_testBit]
  by_cases lt : k < n.val
  · have bit : (bitsOf w 0 16).testBit k = w.getLsbD k := by
      rw [bitsOf, Nat.testBit_mod_two_pow, decide_eq_true (by omega : k < 16), Bool.true_and, Nat.pow_zero, Nat.div_one]
      rfl
    rw [bit, lower k lt, Bool.and_false]
  · rw [decide_eq_false lt, Bool.false_and]

theorem pend_testBit (w : Word) (n : SpireIx) : (bitsOf w 0 16).testBit n = w.getLsbD n := by
  rw [bitsOf, Nat.testBit_mod_two_pow, decide_eq_true n.isLt, Bool.true_and, Nat.pow_zero, Nat.div_one]
  rfl

/-! ### The driver's rows -/

section
variable {s : State} {n : SpireIx} (p : s.hub.sys.powered = true)
include p

theorem execExcLimitEnter_spec {uA : Nat} (on : (s.hub.spire n).exc = .on) (above : 120000 ≤ uA) :
    ∃ t, exec (.excLimitEnter n uA) s = .next t ∧ (t.hub.spire n).exc = .limit ∧
      t.hub.bit (Addr.EXC_STATUS n) 2 = true ∧ t.hub.bit (Addr.EXC_STATUS n) 0 = true ∧
      t.hub.fld (Addr.EXC_LIMIT_CNT n) 0 16 = min (s.hub.fld (Addr.EXC_LIMIT_CNT n) 0 16 + 1) 65535 ∧
      regsKept (fun a => a == Addr.EXC_STATUS n || a == Addr.EXC_CURRENT n || a == Addr.EXC_LIMIT_CNT n) s t := by
  obtain ⟨-, -, cnt, cur, -, -, -⟩ := exc_apart n
  generalize made : (s.hub.wr (Addr.EXC_CURRENT n) (wd (uA % 2 ^ 18))).setExc n .limit = g
  have row : excLimitEnter s.raw.toNat n uA s.hub =
      (g.incSat (Addr.EXC_LIMIT_CNT n) 0 16 1).noteSpire s.hub n (s.hub.timeAt s.raw.toNat) := by
    rw [← made]
    simp [excLimitEnter, on, above]
  have status : ∀ i, (g.incSat (Addr.EXC_LIMIT_CNT n) 0 16 1).bit (Addr.EXC_STATUS n) i = g.bit (Addr.EXC_STATUS n) i :=
    fun i => by rw [Hub.bit, Hub.rd_incSat_other _ _ _ _ _ _ cnt, Hub.bit]
  have others : ∀ a, a ≠ Addr.EXC_STATUS n → a ≠ Addr.EXC_CURRENT n → g.rd a = s.hub.rd a := fun a ne ne' => by
    rw [← made, Hub.rd_setExc_other _ _ _ _ ne, Hub.rd_wr_other _ _ _ _ ne']
  refine ⟨_, s.onHub_eq (fun r h => excLimitEnter r n uA h) p row, ?_, ?_, ?_, ?_, fun a ha => ?_⟩
  · rw [Hub.spire_noteSpire_same, Hub.incSat, Hub.spire_setFld, ← made, Hub.spire_setExc]
  · rw [Hub.bit, Hub.rd_noteSpire]
    exact (status 2).trans (by rw [← made, Hub.bit_setExc _ _ _ _ (by decide)]; rfl)
  · rw [Hub.bit, Hub.rd_noteSpire]
    exact (status 0).trans (by rw [← made, Hub.bit_setExc _ _ _ _ (by decide)]; rfl)
  · rw [Hub.fld, Hub.rd_noteSpire, Hub.incSat, Hub.setFld, Hub.rd_wr_same, bitsOf_putBits_same _ _ _ _ (by decide), Hub.fld,
      others _ cnt.symm cur.symm, Hub.fld]
    omega
  · obtain ⟨⟨ne, ne'⟩, ne''⟩ : (a ≠ Addr.EXC_STATUS n ∧ a ≠ Addr.EXC_CURRENT n) ∧ a ≠ Addr.EXC_LIMIT_CNT n := by
      simpa using ha
    rw [Hub.rd_noteSpire, Hub.rd_incSat_other _ _ _ _ _ _ ne'']
    exact others a ne ne'

theorem execExcLimitExit_spec {uA : Nat} (limit : (s.hub.spire n).exc = .limit) (below : uA < 135000) :
    ∃ t, exec (.excLimitExit n uA) s = .next t ∧ (t.hub.spire n).exc = .on ∧ t.hub.bit (Addr.EXC_STATUS n) 2 = false ∧
      t.hub.bit (Addr.EXC_STATUS n) 0 = true ∧ (t.hub.rd (Addr.EXC_CURRENT n)).toNat = uA ∧
      regsKept (fun a => a == Addr.EXC_STATUS n || a == Addr.EXC_CURRENT n) s t := by
  obtain ⟨-, cur, -, -, -, -, -⟩ := exc_apart n
  generalize made : (s.hub.wr (Addr.EXC_CURRENT n) (wd uA)).setExc n .on = g
  have row : excLimitExit s.raw.toNat n uA s.hub = g.noteSpire s.hub n (s.hub.timeAt s.raw.toNat) := by
    simp [excLimitExit, limit, below, made]
  refine ⟨_, s.onHub_eq (fun r h => excLimitExit r n uA h) p row, ?_, ?_, ?_, ?_, fun a ha => ?_⟩
  · rw [Hub.spire_noteSpire_same, ← made, Hub.spire_setExc]
  · rw [Hub.bit, Hub.rd_noteSpire]
    exact (show g.bit _ 2 = false by rw [← made, Hub.bit_setExc _ _ _ _ (by decide)]; rfl)
  · rw [Hub.bit, Hub.rd_noteSpire]
    exact (show g.bit _ 0 = true by rw [← made, Hub.bit_setExc _ _ _ _ (by decide)]; rfl)
  · rw [Hub.rd_noteSpire, ← made, Hub.rd_setExc_other _ _ _ _ cur.symm, Hub.rd_wr_same, wd, BitVec.toNat_ofNat]
    omega
  · obtain ⟨ne, ne'⟩ : a ≠ Addr.EXC_STATUS n ∧ a ≠ Addr.EXC_CURRENT n := by simpa using ha
    rw [Hub.rd_noteSpire, ← made, Hub.rd_setExc_other _ _ _ _ ne, Hub.rd_wr_other _ _ _ _ ne']

theorem execExcTrip_spec (limit : (s.hub.spire n).exc = .limit) :
    ∃ t, exec (.excTrip n) s = .next t ∧ (t.hub.spire n).exc = .tripped ∧ t.hub.bit (Addr.EXC_STATUS n) 3 = true ∧
      t.hub.bit (Addr.EXC_STATUS n) 0 = false ∧ SMap.get true t.hub.pins.excOut n = false ∧ logged 13 s t ∧
      regsKept (fun a => a == Addr.EXC_STATUS n || inLog a) s t := by
  obtain ⟨-, -, -, -, -, -, outside⟩ := exc_apart n
  generalize made : ((s.hub.setExc n .tripped).setBit (Addr.EXC_STATUS n) 3 true).noteSpire s.hub n (s.hub.timeAt s.raw.toNat) = g
  have row : excTrip s.raw.toNat n s.hub = g.report s.raw.toNat 13 0 15 (wd n) := by simp [excTrip, limit, made]
  have others : ∀ a, a ≠ Addr.EXC_STATUS n → g.rd a = s.hub.rd a := fun a ne => by
    rw [← made, Hub.rd_noteSpire, Hub.rd_setBit_other _ _ _ _ _ ne, Hub.rd_setExc_other _ _ _ _ ne]
  have bits : ∀ i, i < 7 → g.bit (Addr.EXC_STATUS n) i =
      if i = 3 then true else (s.hub.setExc n .tripped).bit (Addr.EXC_STATUS n) i := by
    intro i lt
    rw [← made, Hub.bit, Hub.rd_noteSpire]
    refine (Hub.bit_setBit _ _ _ _ _ _ (by omega)).trans ?_
    simp only [true_and]
  obtain ⟨outsideSame, form⟩ := g.report_same s.raw.toNat 13 0 15 (wd n) (by decide)
  have status : ∀ i, (g.report s.raw.toNat 13 0 15 (wd n)).bit (Addr.EXC_STATUS n) i = g.bit (Addr.EXC_STATUS n) i :=
    fun i => by rw [Hub.bit, outsideSame _ outside, Hub.bit]
  have count : Addr.ELOG_CLASS_CNT 13 ≠ Addr.EXC_STATUS n := by simp only [Addr.ELOG_CLASS_CNT, Addr.EXC_STATUS]; omega
  have spire : (g.report s.raw.toNat 13 0 15 (wd n)).spire n = g.spire n := by rw [form]; rfl
  have pins : (g.report s.raw.toNat 13 0 15 (wd n)).pins = g.pins := by rw [form]
  refine ⟨_, s.onHub_eq (fun r h => excTrip r n h) p row, ?_, ?_, ?_, ?_, ?_, fun a ha => ?_⟩
  · rw [spire, ← made, Hub.spire_noteSpire_same, Hub.spire_setBit, Hub.spire_setExc]
  · rw [status, bits 3 (by decide)]
    rfl
  · rw [status, bits 0 (by decide), Hub.bit_setExc _ _ _ _ (by decide)]
    rfl
  · rw [pins, ← made, Hub.noteSpire_pins]
    exact Hub.excOut_setExc ..
  · refine (g.report_class s.raw.toNat 13 0 15 (wd n) (by decide)).trans ?_
    rw [others _ count]
  · obtain ⟨ne, out⟩ : a ≠ Addr.EXC_STATUS n ∧ inLog a = false := by simpa using ha
    exact (outsideSame a out).trans (others a ne)

/-- A waiting enable reaches its driver in a free slot, the lowest spire first. -/
theorem execInrushExcEnable_spec (waits : s.hub.bit Addr.INRUSH_PEND n = true)
    (lower : ∀ k, k < n.val → s.hub.bit Addr.INRUSH_PEND k = false) (enabled : s.hub.bit (Addr.EXC_CFG n) 2 = true)
    (off : (s.hub.spire n).exc = .off ∨ (s.hub.spire n).exc = .tripped) (free : s.hub.inrushFree s.raw.toNat = true) :
    ∃ t, exec (.inrushExcEnable n) s = .next t ∧ (t.hub.spire n).exc = .on ∧ t.hub.bit (Addr.EXC_STATUS n) 0 = true ∧
      t.hub.bit (Addr.EXC_STATUS n) 2 = false ∧ t.hub.bit Addr.INRUSH_PEND n = false ∧
      SMap.get false t.hub.pins.excOut n = true ∧ t.hub.sys.inrushAt = some s.raw.toNat ∧
      regsKept (fun a => a == Addr.EXC_STATUS n || a == Addr.INRUSH_PEND) s t := by
  obtain ⟨-, -, -, -, pend, -, -⟩ := exc_apart n
  have small : n.val < 32 := Nat.lt_trans n.isLt (by decide)
  generalize ready : (({ s.hub.setBit Addr.INRUSH_PEND n false with sys.inrushAt := some s.raw.toNat } : Hub).setBit
    (Addr.EXC_STATUS n) 6 false) = g
  generalize made : ((g.setExc n .on).modSpire n fun x => { x with
    quietEnd := max x.quietEnd (s.hub.timeAt s.raw.toNat + 8 * frameU) }).noteSpire s.hub n (s.hub.timeAt s.raw.toNat) = h'
  have slot : ((s.hub.fld Addr.INRUSH_PEND 0 16).testBit n && decide (s.hub.fld Addr.INRUSH_PEND 0 16 % 2 ^ n.val = 0) &&
      s.hub.bit (Addr.EXC_CFG n) 2 && ((s.hub.spire n).exc = .off || (s.hub.spire n).exc = .tripped) &&
      s.hub.inrushFree s.raw.toNat) = true := by
    rw [Hub.fld, pend_first lower, pend_testBit, enabled, free]
    rcases off with e | e <;> simp only [e] <;> simpa [Hub.bit] using waits
  have row : inrushExcEnable s.raw.toNat n (s.hub.timeAt s.raw.toNat) s.hub = h' := by
    rw [← made, ← ready]
    exact if_pos slot
  have others : ∀ a, a ≠ Addr.EXC_STATUS n → h'.rd a = (s.hub.setBit Addr.INRUSH_PEND n false).rd a := fun a ne => by
    rw [← made, Hub.rd_noteSpire, Hub.rd_modSpire, Hub.rd_setExc_other _ _ _ _ ne, ← ready, Hub.rd_setBit_other _ _ _ _ _ ne]
    rfl
  have status : ∀ i, h'.bit (Addr.EXC_STATUS n) i = (g.setExc n .on).bit (Addr.EXC_STATUS n) i :=
    fun i => by rw [← made, Hub.bit, Hub.rd_noteSpire, Hub.rd_modSpire, Hub.bit]
  refine ⟨_, s.onHub_eq (fun r h => inrushExcEnable r n (h.timeAt r) h) p row, ?_, ?_, ?_, ?_, ?_, ?_, fun a ha => ?_⟩
  · rw [← made, Hub.spire_noteSpire_same, Hub.spire_modSpire_same, Hub.spire_setExc]
  · rw [status, Hub.bit_setExc _ _ _ _ (by decide)]
    rfl
  · rw [status, Hub.bit_setExc _ _ _ _ (by decide)]
    rfl
  · rw [Hub.bit, others _ pend.symm]
    exact Hub.bit_setBit_same _ _ _ _ small
  · rw [← made, Hub.noteSpire_pins]
    exact Hub.excOut_setExc ..
  · rw [← made, Hub.noteSpire_sys, ← ready]
    rfl
  · obtain ⟨ne, ne'⟩ : a ≠ Addr.EXC_STATUS n ∧ a ≠ Addr.INRUSH_PEND := by
      simpa using ha
    rw [others a ne, Hub.rd_setBit_other _ _ _ _ _ ne']

omit p in
/-- Before the gap has passed a waiting enable waits on. -/
theorem inrushExcEnable_waits (held : s.hub.inrushFree s.raw.toNat = false) : exec (.inrushExcEnable n) s = .next s :=
  s.onHub_same (f := fun r h => inrushExcEnable r n (h.timeAt r) h) (by simp [inrushExcEnable, held])

end

/-! ### Writes of EXC_CFG, EXC_STATUS and EXC_CTRL -/

/-- A value of EXC_CFG written, a change of LEVEL noted: the first thing that a write does. -/
def excCfgWritten (n : Nat) (v : Word) (h : Hub) : Hub :=
  if bitsOf (h.rd (Addr.EXC_CFG n)) 0 2 ≠ bitsOf v 0 2 then (h.wr (Addr.EXC_CFG n) (v &&& 0x3F#32)).excChange n
  else h.wr (Addr.EXC_CFG n) (v &&& 0x3F#32)

section
variable (n : Nat) (v : Word) (h : Hub)

theorem excCfgWritten_regs : (excCfgWritten n v h).regs = (h.wr (Addr.EXC_CFG n) (v &&& 0x3F#32)).regs := by
  unfold excCfgWritten
  split <;> rfl

theorem exc_excChange : ((h.excChange n).spire n).exc = (h.spire n).exc := by
  rw [Hub.excChange, Hub.spire_modSpire_same]

theorem exc_excCfgWritten : ((excCfgWritten n v h).spire n).exc = (h.spire n).exc := by
  unfold excCfgWritten
  split
  · exact exc_excChange ..
  · rfl

variable {n v h}

theorem rd_excCfgWritten_same : (excCfgWritten n v h).rd (Addr.EXC_CFG n) = v &&& 0x3F#32 := by
  rw [Hub.rd, excCfgWritten_regs]
  exact Hub.rd_wr_same ..

theorem rd_excCfgWritten_other {a : Nat} (ne : a ≠ Addr.EXC_CFG n) : (excCfgWritten n v h).rd a = h.rd a := by
  rw [Hub.rd, excCfgWritten_regs]
  exact Hub.rd_wr_other _ _ _ _ ne

/-- EN from 0 to 1: the spire waits for its slot. -/
theorem excCfgStore_enable {r m : Nat} (level : bitsOf v 0 2 ≠ 3) (was : h.bit (Addr.EXC_CFG n) 2 = false)
    (en : v.getLsbD 2 = true) (hiz : (h.spire n).exc ≠ .hiz) :
    excCfgStore r m n v h =
      (((excCfgWritten n v h).excChange n).setBit Addr.INRUSH_PEND n true).noteSpire h n (h.timeAt r) := by
  have was' : (h.rd (Addr.EXC_CFG n)).getLsbD 2 = false := was
  have awake : ((excCfgWritten n v h).spire n).exc ≠ .hiz := exc_excCfgWritten n v h ▸ hiz
  rw [← if_neg (c := ((excCfgWritten n v h).spire n).exc = .hiz) (t := (excCfgWritten n v h).excChange n)
    (e := ((excCfgWritten n v h).excChange n).setBit Addr.INRUSH_PEND n true) awake]
  simp only [excCfgStore, level, was', en, if_false, Bool.not_false, Bool.and_self, if_true]
  rfl

/-- EN from 1 to 0: a waiting enable is withdrawn, and a driver that is on, in its limit or tripped goes off. -/
theorem excCfgStore_disable {r m : Nat} (level : bitsOf v 0 2 ≠ 3) (was : h.bit (Addr.EXC_CFG n) 2 = true)
    (en : v.getLsbD 2 = false) :
    excCfgStore r m n v h =
      (let g := (excCfgWritten n v h).setBit Addr.INRUSH_PEND n false
       let st := ((excCfgWritten n v h).spire n).exc
       if st = .on || st = .limit || st = .tripped then g.setExc n .off else g.excChange n).noteSpire h n (h.timeAt r) := by
  have was' : (h.rd (Addr.EXC_CFG n)).getLsbD 2 = true := was
  simp only [excCfgStore, level, was', en, if_false, Bool.not_true, Bool.false_eq_true, Bool.not_false, Bool.and_self,
    if_true]
  rfl

end

/-- A driver that EN = 0 turns off: off it was, or off it goes. -/
theorem disabled_spec (h : Hub) (n : SpireIx) (hiz : (h.spire n).exc ≠ .hiz) :
    ∃ g, (if (h.spire n).exc = .on || (h.spire n).exc = .limit || (h.spire n).exc = .tripped then h.setExc n .off
        else h.excChange n) = g ∧ (g.spire n).exc = .off ∧ (∀ a, a ≠ Addr.EXC_STATUS n → g.rd a = h.rd a) ∧
      ((h.spire n).exc ≠ .off → g.bit (Addr.EXC_STATUS n) 0 = false ∧ SMap.get true g.pins.excOut n = false) := by
  by_cases off : (h.spire n).exc = .off
  · refine ⟨h.excChange n, by simp [off], (exc_excChange ..).trans off, fun _ _ => rfl, fun ne => absurd off ne⟩
  · refine ⟨h.setExc n .off, ?_, by rw [Hub.spire_setExc], fun a ne => Hub.rd_setExc_other _ _ _ _ ne, fun _ => ⟨?_, ?_⟩⟩
    · revert off hiz
      cases (h.spire n).exc <;> simp
    · rw [Hub.bit_setExc _ _ _ _ (by decide)]
      rfl
    · exact Hub.excOut_setExc ..

section
variable {s : State} {m : MasterIx} {n : SpireIx} {v : Word} (p : s.hub.sys.powered = true)
include p

theorem execExcEnable_spec (ok : s.hub.accessOk m true (Addr.EXC_CFG n) 4 = true) (plan : planOpen s)
    (level : bitsOf v 0 2 ≠ 3) (was : s.hub.bit (Addr.EXC_CFG n) 2 = false) (hiz : (s.hub.spire n).exc ≠ .hiz) :
    ∃ t, exec (.excEnable m n v) s = .next t ∧ t.hub.bit (Addr.EXC_CFG n) 2 = true ∧
      t.hub.fld (Addr.EXC_CFG n) 0 2 = bitsOf v 0 2 ∧ t.hub.bit Addr.INRUSH_PEND n = true ∧
      (t.hub.spire n).exc = (s.hub.spire n).exc ∧
      regsKept (fun a => a == Addr.EXC_CFG n || a == Addr.INRUSH_PEND) s t ∧ t.hub.dome = s.hub.dome := by
  obtain ⟨-, -, -, -, -, pend, -⟩ := exc_apart n
  generalize word : putBit v 2 true = w
  have en : w.getLsbD 2 = true := by rw [← word, getLsbD_putBit_same _ _ _ (by decide)]
  have lev : bitsOf w 0 2 = bitsOf v 0 2 := by rw [← word, bitsOf_putBit_apart _ _ _ _ _ (by decide) (by decide)]
  have run := write_of_planOpen (v := w) p ok (by simp only [Addr.EXC_CFG]; omega) plan
  generalize made : (excCfgWritten n w s.hub).excChange n = g
  have form : exec (.excEnable m n v) s = s.onHub (fun r h => h.write r m (Addr.EXC_CFG n) w) := by
    rw [← word]
    rfl
  rw [Hub.regStore_excCfg, excCfgStore_enable (lev ▸ level) was en hiz, made, ← form] at run
  have cfg : g.rd (Addr.EXC_CFG n) = w &&& 0x3F#32 := by
    rw [← made]
    exact rd_excCfgWritten_same
  have exc : (g.spire n).exc = (s.hub.spire n).exc := by rw [← made, exc_excChange, exc_excCfgWritten]
  have others : ∀ a, a ≠ Addr.EXC_CFG n → g.rd a = s.hub.rd a := fun a ne => by
    rw [← made]
    exact rd_excCfgWritten_other ne
  have written : ((g.setBit Addr.INRUSH_PEND n true).noteSpire s.hub n (s.hub.timeAt s.raw.toNat)).rd (Addr.EXC_CFG n) =
      w &&& 0x3F#32 := by rw [Hub.rd_noteSpire, Hub.rd_setBit_other _ _ _ _ _ pend, cfg]
  refine ⟨_, run, ?_, ?_, ?_, ?_, fun a ha => ?_, ?_⟩
  · rw [Hub.bit, Hub.rd_setOk, written, getLsbD_mask _ _ (by decide), en]
  · rw [Hub.fld, Hub.rd_setOk, written, bitsOf_mask, lev]
  · rw [Hub.bit, Hub.rd_setOk, Hub.rd_noteSpire]
    exact Hub.bit_setBit_same _ _ _ _ (Nat.lt_trans n.isLt (by decide))
  · exact (congrArg Spire.exc (Hub.spire_noteSpire_same ..)).trans exc
  · obtain ⟨ne, ne'⟩ : a ≠ Addr.EXC_CFG n ∧ a ≠ Addr.INRUSH_PEND := by
      simpa using ha
    rw [Hub.rd_setOk, Hub.rd_noteSpire, Hub.rd_setBit_other _ _ _ _ _ ne', others a ne]
  · rw [Hub.setOk_dome, Hub.noteSpire_frame, ← made]
    unfold excCfgWritten
    split <;> rfl

theorem execExcDisable_spec (ok : s.hub.accessOk m true (Addr.EXC_CFG n) 4 = true) (plan : planOpen s)
    (level : bitsOf v 0 2 ≠ 3) (was : s.hub.bit (Addr.EXC_CFG n) 2 = true) (hiz : (s.hub.spire n).exc ≠ .hiz) :
    ∃ t, exec (.excDisable m n v) s = .next t ∧ t.hub.bit (Addr.EXC_CFG n) 2 = false ∧ (t.hub.spire n).exc = .off ∧
      t.hub.bit Addr.INRUSH_PEND n = false ∧
      ((s.hub.spire n).exc ≠ .off → t.hub.bit (Addr.EXC_STATUS n) 0 = false ∧ SMap.get true t.hub.pins.excOut n = false) ∧
      regsKept (fun a => a == Addr.EXC_CFG n || a == Addr.EXC_STATUS n || a == Addr.INRUSH_PEND) s t := by
  obtain ⟨cfg, -, -, -, pend, pend', -⟩ := exc_apart n
  generalize word : putBit v 2 false = w
  have en : w.getLsbD 2 = false := by rw [← word, getLsbD_putBit_same _ _ _ (by decide)]
  have lev : bitsOf w 0 2 = bitsOf v 0 2 := by rw [← word, bitsOf_putBit_apart _ _ _ _ _ (by decide) (by decide)]
  have run := write_of_planOpen (v := w) p ok (by simp only [Addr.EXC_CFG]; omega) plan
  have exc : (((excCfgWritten n w s.hub).setBit Addr.INRUSH_PEND n false).spire n).exc = (s.hub.spire n).exc :=
    exc_excCfgWritten ..
  obtain ⟨g, off, state, others, low⟩ := disabled_spec ((excCfgWritten n w s.hub).setBit Addr.INRUSH_PEND n false) n
    (exc ▸ hiz)
  have store : excCfgStore s.raw.toNat m n w s.hub = g.noteSpire s.hub n (s.hub.timeAt s.raw.toNat) := by
    rw [excCfgStore_disable (lev ▸ level) was en, ← off]
    rfl
  have form : exec (.excDisable m n v) s = s.onHub (fun r h => h.write r m (Addr.EXC_CFG n) w) := by
    rw [← word]
    rfl
  rw [Hub.regStore_excCfg, store, ← form] at run
  refine ⟨_, run, ?_, ?_, ?_, fun ne => ?_, fun a ha => ?_⟩
  · rw [Hub.bit, Hub.rd_setOk, Hub.rd_noteSpire, others _ cfg.symm, Hub.rd_setBit_other _ _ _ _ _ pend', rd_excCfgWritten_same,
      getLsbD_mask _ _ (by decide), en]
  · exact (congrArg Spire.exc (Hub.spire_noteSpire_same ..)).trans state
  · rw [Hub.bit, Hub.rd_setOk, Hub.rd_noteSpire, others _ pend.symm]
    exact Hub.bit_setBit_same _ _ _ _ (Nat.lt_trans n.isLt (by decide))
  · obtain ⟨bit, pin⟩ := low (exc ▸ ne)
    refine ⟨?_, ?_⟩
    · rw [Hub.bit, Hub.rd_setOk, Hub.rd_noteSpire]
      exact bit
    · exact (congrArg (fun x : Pins => SMap.get true x.excOut n) (Hub.noteSpire_pins ..)).trans pin
  · obtain ⟨⟨ne, ne'⟩, ne''⟩ : (a ≠ Addr.EXC_CFG n ∧ a ≠ Addr.EXC_STATUS n) ∧ a ≠ Addr.INRUSH_PEND := by
      simpa using ha
    rw [Hub.rd_setOk, Hub.rd_noteSpire, others a ne', Hub.rd_setBit_other _ _ _ _ _ ne'', rd_excCfgWritten_other ne]

theorem execExcTripRestart_spec (ok : s.hub.accessOk m true (Addr.EXC_STATUS n) 4 = true)
    (tripped : (s.hub.spire n).exc = .tripped) (enabled : s.hub.bit (Addr.EXC_CFG n) 2 = true) :
    ∃ t, exec (.excTripRestart m n v) s = .next t ∧ t.hub.bit (Addr.EXC_STATUS n) 3 = false ∧
      t.hub.bit Addr.INRUSH_PEND n = true ∧ (t.hub.spire n).exc = .tripped ∧
      onlyStore m (fun a => a == Addr.EXC_STATUS n || a == Addr.INRUSH_PEND) s t := by
  obtain ⟨cfg, -, -, -, pend, -, -⟩ := exc_apart n
  generalize word : putBit v 3 true = w
  have ask : w.getLsbD 3 = true := by rw [← word, getLsbD_putBit_same _ _ _ (by decide)]
  generalize kept : ((s.hub.rd (Addr.EXC_STATUS n) &&& ~~~(w &&& 0x38#32)) ||| (0#32 &&& 0x38#32)) = u
  have cleared : u.getLsbD 3 = false := by rw [← kept]; simp [ask]
  have still : (s.hub.wr (Addr.EXC_STATUS n) u).bit (Addr.EXC_CFG n) 2 = true := by
    rw [Hub.bit, Hub.rd_wr_other _ _ _ _ cfg.symm]
    exact enabled
  have store : excStatusStore n w 0#32 s.hub = (s.hub.wr (Addr.EXC_STATUS n) u).setBit Addr.INRUSH_PEND n true := by
    have restarts : (w.getLsbD 3 && ((s.hub.wr (Addr.EXC_STATUS n) u).spire n).exc = .tripped &&
        (s.hub.wr (Addr.EXC_STATUS n) u).bit (Addr.EXC_CFG n) 2) = true := by
      have state : ((s.hub.wr (Addr.EXC_STATUS n) u).spire n).exc = .tripped := tripped
      rw [ask, still, state]
      rfl
    simp only [excStatusStore, kept]
    exact if_pos restarts
  have run := write_of_unrestricted (v := w) p ok (by simp only [Addr.EXC_STATUS]; omega) (planRestricted_excStatus n)
  have form : exec (.excTripRestart m n v) s = s.onHub (fun r h => h.write r m (Addr.EXC_STATUS n) w) := by
    rw [← word]
    rfl
  rw [Hub.regStore_excStatus, store, ← form] at run
  refine ⟨_, run, ?_, ?_, tripped, rfl, fun a ha => ?_⟩
  · rw [Hub.bit, Hub.rd_setOk, Hub.rd_setBit_other _ _ _ _ _ pend, Hub.rd_wr_same, cleared]
  · exact Hub.bit_setBit_same _ _ _ _ (Nat.lt_trans n.isLt (by decide))
  · obtain ⟨ne, ne'⟩ : a ≠ Addr.EXC_STATUS n ∧ a ≠ Addr.INRUSH_PEND := by
      simpa using ha
    rw [Hub.rd_setOk, Hub.rd_setBit_other _ _ _ _ _ ne', Hub.rd_wr_other _ _ _ _ ne]

theorem execReverseNow_spec (ok : s.hub.accessOk m true (Addr.EXC_CTRL n) 4 = true) :
    ∃ t, exec (.reverseNow m n v) s = .next t ∧
      (s.hub.bit (Addr.EXC_CFG n) 5 = true → refusedStore m s t) ∧
      (s.hub.bit (Addr.EXC_CFG n) 5 = false →
        t.hub.bit (Addr.EXC_STATUS n) 1 = !s.hub.bit (Addr.EXC_STATUS n) 1 ∧
        regsKept (fun a => a == Addr.EXC_STATUS n) s t) := by
  have ask : (putBit v 0 true).getLsbD 0 = true := getLsbD_putBit_same _ _ _ (by decide)
  have run := write_of_unrestricted (v := putBit v 0 true) p ok (by simp only [Addr.EXC_CTRL]; omega) (planRestricted_excCtrl n)
  rw [Hub.regStore_excCtrl, excCtrlStore, ask] at run
  cases scheduled : s.hub.bit (Addr.EXC_CFG n) 5 with
  | true =>
    rw [scheduled] at run
    exact ⟨_, run, fun _ => refusedStore_refuse .., nofun⟩
  | false =>
    rw [scheduled] at run
    refine ⟨_, run, nofun, fun _ => ⟨?_, fun a ha => ?_⟩⟩
    · simp only [Bool.not_true, Bool.false_eq_true, if_false, Hub.bit, Hub.rd_setOk, Hub.rd_noteSpire]
      exact Hub.bit_setBit_same _ _ _ _ (by decide)
    · simp only [Bool.not_true, Bool.false_eq_true, if_false, Hub.rd_setOk, Hub.rd_noteSpire]
      exact Hub.rd_setBit_other _ _ _ _ _ (by simpa using ha)

end

/-! ### Scheduled reversals -/

/-- The instant of a period in the frame that lies less than a period after the frame's. -/
theorem dueAt_eq {e per f y : Nat} {j : Int} (instant : (y : Int) = (e : Int) + j * (per : Int)) (lo : f * frameU ≤ y)
    (hi : y < f * frameU + per) : dueAt e per f = y := by
  have shift : (e : Int) - ((f * frameU : Nat) : Int) = ((y : Int) - ((f * frameU : Nat) : Int)) + (-j) * (per : Int) := by
    rw [instant]
    ring
  have rem : ((e : Int) - ((f * frameU : Nat) : Int)) % (per : Int) = (y : Int) - ((f * frameU : Nat) : Int) := by
    rw [shift, Int.add_mul_emod_self_right]
    exact Int.emod_eq_of_lt (by omega) (by omega)
  rw [dueAt, rem]
  omega

/-- The instant that EXC_REVERSAL takes: the first in the frame, or the one after it where that was taken. -/
def reversalAt (n f per : Nat) (h : Hub) : Nat :=
  if (h.spire n).blankFrom = dueAt (h.epoch n) per f && (h.spire n).blankEnd ≠ 0 then dueAt (h.epoch n) per f + per
  else dueAt (h.epoch n) per f

theorem reversalAt_eq {n f per y : Nat} {h : Hub} {j : Int}
    (instant : (y : Int) = (h.epoch n : Int) + j * (per : Int)) (lo : f * frameU ≤ y)
    (which : (y < f * frameU + per ∧ ((h.spire n).blankFrom ≠ y ∨ (h.spire n).blankEnd = 0)) ∨
      ((h.spire n).blankEnd ≠ 0 ∧ (h.spire n).blankFrom + per = y ∧ f * frameU ≤ (h.spire n).blankFrom ∧
        (h.spire n).blankFrom < f * frameU + per)) :
    reversalAt n f per h = y ∧ dueAt (h.epoch n) per f ≤ y := by
  rcases which with ⟨hi, fresh⟩ | ⟨taken, after, first, hi⟩
  · have due := dueAt_eq instant lo hi
    refine ⟨?_, Nat.le_of_eq due⟩
    rw [reversalAt, due, if_neg]
    rcases fresh with ne | none
    · simp [ne]
    · simp [none]
  · have instant : ((h.spire n).blankFrom : Int) = (h.epoch n : Int) + (j - 1) * (per : Int) := by
      have : (y : Int) = ((h.spire n).blankFrom : Int) + (per : Int) := by omega
      linarith
    have due := dueAt_eq instant first hi
    refine ⟨?_, by omega⟩
    rw [reversalAt, due, if_pos (by simpa using taken), after]

/-- The hub that a reversal at instant `y` notes. -/
def reversedHub (n y : Nat) (h : Hub) : Hub :=
  ((h.setBit (Addr.EXC_STATUS n) 1 (!h.bit (Addr.EXC_STATUS n) 1)).modSpire n fun s =>
    { s with blankFrom := y, blankEnd := y + h.fld (Addr.EXC_REV n) 21 11 * frameU }).quietReversal n y

theorem excReversal_eq (n f per : Nat) (h : Hub) : excReversal n f per h =
    if h.bit (Addr.EXC_CFG n) 5 && dueInFrame (h.epoch n) per f && decide (reversalAt n f per h < (f + 1) * frameU) then
      (reversedHub n (reversalAt n f per h) h).noteSpire h n (reversalAt n f per h)
    else h := rfl

section
variable {s : State} {n : SpireIx} (p : s.hub.sys.powered = true)
include p

theorem execExcReversal_spec {f per y : Nat} (frame : frameOf (s.hub.timeAt s.raw.toNat) = f)
    (period : (s.hub.revPeriod n fun c => (s.hub.filtCfg n c).ratio * (s.hub.filtCfg n c).period) = per)
    (scheduled : s.hub.bit (Addr.EXC_CFG n) 5 = true) (due : dueInFrame (s.hub.epoch n) per f = true)
    (inFrame : y < (f + 1) * frameU) (taken : reversalAt n f per s.hub = y) :
    ∃ t, exec (.excReversal n) s = .next t ∧ t.hub.bit (Addr.EXC_STATUS n) 1 = !s.hub.bit (Addr.EXC_STATUS n) 1 ∧
      (t.hub.spire n).blankFrom = y ∧ (t.hub.spire n).blankEnd = y + s.hub.fld (Addr.EXC_REV n) 21 11 * frameU ∧
      (∀ x, y ≤ x → t.hub.polarity n x = (if s.hub.bit (Addr.EXC_STATUS n) 1 then 1 else -1)) ∧
      onlyRegsSpire (fun a => a == Addr.EXC_STATUS n) n s t := by
  have row : excReversal n (frameOf (s.hub.timeAt s.raw.toNat))
      (s.hub.revPeriod n fun c => (s.hub.filtCfg n c).ratio * (s.hub.filtCfg n c).period) s.hub =
      (reversedHub n y s.hub).noteSpire s.hub n y := by
    rw [frame, period, excReversal_eq, taken, scheduled, due, decide_eq_true inFrame]
    rfl
  have bit : (reversedHub n y s.hub).bit (Addr.EXC_STATUS n) 1 = !s.hub.bit (Addr.EXC_STATUS n) 1 :=
    Hub.bit_setBit_same _ _ _ _ (by decide)
  have spire : (reversedHub n y s.hub).spire n = { s.hub.spire n with
      blankFrom := y, blankEnd := y + s.hub.fld (Addr.EXC_REV n) 21 11 * frameU
      quietEnd := max (s.hub.spire n).quietEnd (y + s.hub.fld (Addr.EXC_REV n) 21 11 * frameU) } := by
    have apart : Addr.EXC_REV n ≠ Addr.EXC_STATUS n := by simp only [Addr.EXC_REV, Addr.EXC_STATUS]; omega
    have rev : ∀ f b, ((s.hub.setBit (Addr.EXC_STATUS n) 1 b).modSpire n f).fld (Addr.EXC_REV n) 21 11 =
        s.hub.fld (Addr.EXC_REV n) 21 11 := fun f b => by
      rw [Hub.fld, Hub.rd_modSpire, Hub.rd_setBit_other _ _ _ _ _ apart, Hub.fld]
    rw [reversedHub, Hub.quietReversal, rev, Hub.spire_modSpire_same, Hub.spire_modSpire_same]
    rfl
  have only : sameButSpire (fun a => a == Addr.EXC_STATUS n) n s.hub ((reversedHub n y s.hub).noteSpire s.hub n y) :=
    (((sameButSpire.setBit _ _ _ _ _ (by simp)).trans (.modSpire _ _ _)).trans (.modSpire _ _ _)).trans (.noteSpire _ _ _ _)
  refine ⟨_, s.onHub_eq (fun r h => excReversal n (frameOf (h.timeAt r))
    (h.revPeriod n fun c => (h.filtCfg n c).ratio * (h.filtCfg n c).period) h) p row, ?_, ?_, ?_, fun x le => ?_,
    only.onlyRegsSpire⟩
  · rw [Hub.bit, Hub.rd_noteSpire]
    exact bit
  · rw [Hub.spire_noteSpire_same, spire]
  · rw [Hub.spire_noteSpire_same, spire]
  · have moved : (s.hub.spireMarks n).reversed ≠ ((reversedHub n y s.hub).spireMarks n).reversed := by
      simp only [Hub.spireMarks, bit]
      cases s.hub.bit (Addr.EXC_STATUS n) 1 <;> decide
    have now : ((reversedHub n y s.hub).spireMarks n).reversed = !s.hub.bit (Addr.EXC_STATUS n) 1 := bit
    rw [Hub.polarity, reversed_spireAt moved le, now]
    cases s.hub.bit (Addr.EXC_STATUS n) 1 <;> rfl

omit p in
theorem excReversal_idle {f per : Nat} (frame : frameOf (s.hub.timeAt s.raw.toNat) = f)
    (period : (s.hub.revPeriod n fun c => (s.hub.filtCfg n c).ratio * (s.hub.filtCfg n c).period) = per)
    (none : dueInFrame (s.hub.epoch n) per f = false) : exec (.excReversal n) s = .next s := by
  refine s.onHub_same (f := fun r h => excReversal n (frameOf (h.timeAt r))
    (h.revPeriod n fun c => (h.filtCfg n c).ratio * (h.filtCfg n c).period) h) ?_
  simp only [frame, period, excReversal_eq, none, Bool.and_false, Bool.false_and, Bool.false_eq_true, if_false]

end

/-- Settles O21: each row of the driver is a change of its state with what shows it, and a reversal takes one instant
of its period. -/
theorem excitationDriver : Obligations.ExcitationDriver := by
  unfold Obligations.ExcitationDriver
  refine ⟨fun _ _ _ _ p ok plan level was hiz => execExcEnable_spec p ok plan level was hiz,
    fun s n p waits lower enabled off => ⟨fun free => ?_, fun x last early => inrushExcEnable_waits ?_⟩,
    fun _ _ _ p on above => execExcLimitEnter_spec p on above,
    fun _ _ _ p limit below => execExcLimitExit_spec p limit below,
    fun _ _ p limit => execExcTrip_spec p limit,
    fun _ _ _ _ p ok tripped enabled => execExcTripRestart_spec p ok tripped enabled,
    fun _ _ _ _ p ok plan level was hiz => execExcDisable_spec p ok plan level was hiz,
    fun _ _ _ _ p ok => execReverseNow_spec p ok,
    fun s n p scheduled => ⟨fun j y pos instant lo hi begun which => ?_, fun none => ?_⟩⟩
  · refine execInrushExcEnable_spec p waits lower enabled off ?_
    simpa [Hub.inrushFree, Option.all_eq_true] using free
  · simpa [Hub.inrushFree, last] using early
  · obtain ⟨taken, le⟩ := reversalAt_eq instant lo which
    refine execExcReversal_spec p rfl rfl scheduled ?_ hi taken
    simp only [dueInFrame, Bool.and_eq_true, decide_eq_true_eq]
    exact ⟨⟨begun, pos⟩, Nat.lt_of_le_of_lt le hi⟩
  · refine excReversal_idle rfl rfl (Bool.eq_false_iff.mpr fun due => ?_)
    obtain ⟨-, j, lo, hi⟩ := (dueInFrame_iff ..).mp due
    rcases none j with early | late
    · exact absurd lo (Nat.not_le.mpr early)
    · exact absurd hi (Nat.not_lt.mpr late)

end Sys2Proof.Machine

/-!
SUPPORT. Commits of the filter islands and words of user curves (R91, R93, R131, R132): what a commit checks, keeps and puts in
force, and which word of a curve an address is.
-/

namespace Sys2Proof.Machine

open Sys2Proof.Safety

/-! ### The check of a commit -/

section
variable {h : Hub} {n : Nat}

/-- A commit with one waiting reports EBUSY and changes nothing else. -/
theorem filterCommit_busy (waits : h.bit (Addr.FI_STATUS n) 0 = true) :
    filterCommit n h = h.setFld (Addr.FI_COMMIT_STATUS n) 0 8 EBUSY := by simp [filterCommit, waits]

/-- The written registers of the island that a commit keeps. -/
def filtSnapshot (h : Hub) (n : Nat) : List (Nat × Word) :=
  (List.range 32).flatMap fun c => (filtRegs n c).map fun a => (a, h.rd a)

theorem mem_filtSnapshot {c a : Nat} (lt : c < 32) (mem : a ∈ filtRegs n c) : (a, h.rd a) ∈ filtSnapshot h n :=
  List.mem_flatMap.mpr ⟨c, List.mem_range.mpr lt, List.mem_map.mpr ⟨a, mem, rfl⟩⟩

/-- The first channel that fails, with its status and reason. -/
theorem filtFault_first {c : Nat} {st why : Nat} (lt : c < 32) (lower : ∀ d, d < c → filtFault h n d = none)
    (fault : filtFault h n c = some (st, why)) :
    ((List.range 32).findSome? fun c => (filtFault h n c).map fun q => (c, q)) = some (c, st, why) := by
  have split : List.range 32 = List.range c ++ c :: List.range' (c + 1) (31 - c) := by
    have len : 32 = c + (31 - c + 1) := by omega
    rw [List.range_eq_range', List.range_eq_range', len, ← List.range'_append_1, List.range'_succ, Nat.zero_add]
  have none : (List.range c).findSome? (fun c => (filtFault h n c).map fun q => (c, q)) = none := by
    rw [List.findSome?_eq_none_iff]
    intro d hd
    rw [lower d (List.mem_range.mp hd)]
    rfl
  rw [split, List.findSome?_append, none, List.findSome?_cons, fault]
  rfl

theorem filterCommit_fault {c : Nat} {st why : Nat} (idle : h.bit (Addr.FI_STATUS n) 0 = false) (lt : c < 32)
    (lower : ∀ d, d < c → filtFault h n d = none) (fault : filtFault h n c = some (st, why)) :
    filterCommit n h = h.wr (Addr.FI_COMMIT_STATUS n) (wd (st + 256 * c + 65536 * why)) := by
  simp only [filterCommit, idle, filtFault_first lt lower fault, Bool.false_eq_true, if_false]

theorem filterCommit_ok (idle : h.bit (Addr.FI_STATUS n) 0 = false) (none : ∀ c, c < 32 → filtFault h n c = none) :
    filterCommit n h = ((h.wr (Addr.FI_COMMIT_STATUS n) 0#32).setBit (Addr.FI_STATUS n) 0 true).setFilt n
      { h.filt n with staged := some (filtSnapshot h n) } := by
  have sound : ((List.range 32).findSome? fun c => (filtFault h n c).map fun q => (c, q)) = Option.none := by
    rw [List.findSome?_eq_none_iff]
    intro d hd
    rw [none d (List.mem_range.mp hd)]
    rfl
  simp only [filterCommit, idle, sound, Bool.false_eq_true, if_false]
  rfl

theorem Hub.filt_setFilt_same (h : Hub) (n : Nat) (x : Filt) : (h.setFilt n x).filt n = x := SMap.get_put_same ..

/-- Whatever it reports, a commit leaves the active registers, and of the others it touches its status alone. -/
theorem filterCommit_keeps (n : Nat) (h : Hub) : (filterCommit n h).act = h.act ∧
    ∀ a, a ≠ Addr.FI_COMMIT_STATUS n → a ≠ Addr.FI_STATUS n → (filterCommit n h).rd a = h.rd a := by
  unfold filterCommit
  split
  · exact ⟨rfl, fun a ne _ => by rw [Hub.rd_setFld, if_neg ne]⟩
  split
  · exact ⟨rfl, fun a ne _ => Hub.rd_wr_other _ _ _ _ ne⟩
  · exact ⟨rfl, fun a ne ne' => by
      rw [Hub.rd_setFilt, Hub.rd_setBit_other _ _ _ _ _ ne', Hub.rd_wr_other _ _ _ _ ne]⟩

end

theorem execFilterCommit_spec {s : State} {m : MasterIx} {n : SpireIx} {v : Word} (p : s.hub.sys.powered = true)
    (ok : s.hub.accessOk m true (Addr.FI_CTRL n) 4 = true) (plan : planOpen s) :
    ∃ t, exec (.filterCommit m n v) s = .next t ∧ t.hub.act = s.hub.act ∧ t.hub.dome = s.hub.dome ∧
      regsKept (fun a => a == Addr.FI_COMMIT_STATUS n || a == Addr.FI_STATUS n) s t ∧
      (s.hub.bit (Addr.FI_STATUS n) 0 = true → t.hub.fld (Addr.FI_COMMIT_STATUS n) 0 8 = EBUSY ∧
        t.hub.filt n = s.hub.filt n) ∧
      (s.hub.bit (Addr.FI_STATUS n) 0 = false → (∀ c, c < 32 → filtFault s.hub n c = none) →
        t.hub.rd (Addr.FI_COMMIT_STATUS n) = 0#32 ∧ t.hub.bit (Addr.FI_STATUS n) 0 = true ∧
        ∃ l, (t.hub.filt n).staged = some l ∧ ∀ c a, c < 32 → a ∈ filtRegs n c → (a, s.hub.rd a) ∈ l) ∧
      (∀ c st why, c < 32 → s.hub.bit (Addr.FI_STATUS n) 0 = false → (∀ d, d < c → filtFault s.hub n d = none) →
        filtFault s.hub n c = some (st, why) →
        t.hub.rd (Addr.FI_COMMIT_STATUS n) = BitVec.ofNat 32 (st + 256 * c + 65536 * why) ∧
        t.hub.filt n = s.hub.filt n) := by
  have apart : Addr.FI_COMMIT_STATUS n ≠ Addr.FI_STATUS n := by simp only [Addr.FI_COMMIT_STATUS, Addr.FI_STATUS]; omega
  have ask : (putBit v 0 true).getLsbD 0 = true := getLsbD_putBit_same _ _ _ (by decide)
  have run := write_of_planOpen (v := putBit v 0 true) p ok (by simp only [Addr.FI_CTRL]; omega) plan
  rw [Hub.regStore_fiCtrl, if_pos ask] at run
  obtain ⟨act, regs⟩ := filterCommit_keeps n s.hub
  refine ⟨_, run, act, ?_, fun a ha => ?_, fun waits => ?_, fun idle none => ?_, fun c st why lt idle lower fault => ?_⟩
  · rw [Hub.setOk_dome, filterCommit_dome]
  · obtain ⟨ne, ne'⟩ : a ≠ Addr.FI_COMMIT_STATUS n ∧ a ≠ Addr.FI_STATUS n := by simpa using ha
    exact regs a ne ne'
  · rw [filterCommit_busy waits]
    exact ⟨by rw [Hub.fld, Hub.rd_setOk, Hub.setFld, Hub.rd_wr_same, bitsOf_putBits_same _ _ _ _ (by decide)]; rfl, rfl⟩
  · rw [filterCommit_ok idle none]
    refine ⟨?_, Hub.bit_setBit_same _ _ _ _ (by decide), _, congrArg Filt.staged (Hub.filt_setFilt_same ..), fun c a lt mem =>
      mem_filtSnapshot lt mem⟩
    rw [Hub.rd_setOk, Hub.rd_setFilt, Hub.rd_setBit_other _ _ _ _ _ apart, Hub.rd_wr_same]
  · rw [filterCommit_fault idle lt lower fault]
    exact ⟨Hub.rd_wr_same .., rfl⟩

/-! ### A commit that takes effect -/

/-- Values put in force one after the other, no register twice: each holds its own, and the others stay. -/
theorem active_forIn'_setActive : ∀ (l : List (Nat × Word)) (h : Hub), (l.map Prod.fst).Nodup →
    (∀ p ∈ l, (forIn' l (fun p h => h.setActive p.1 p.2) h).active p.1 = p.2) ∧
    ∀ a, a ∉ l.map Prod.fst → (forIn' l (fun p h => h.setActive p.1 p.2) h).active a = h.active a
  | [], _, _ => ⟨nofun, fun _ _ => rfl⟩
  | p :: l, h, once => by
    obtain ⟨fresh, rest⟩ := List.nodup_cons.mp once
    obtain ⟨own, others⟩ := active_forIn'_setActive l (h.setActive p.1 p.2) rest
    refine ⟨fun q hq => ?_, fun a ha => ?_⟩
    · rcases List.mem_cons.mp hq with rfl | hq
      · exact (others q.1 fresh).trans (by rw [Hub.active_setActive, if_pos rfl])
      · exact own q hq
    · obtain ⟨ne, out⟩ : a ≠ p.1 ∧ a ∉ l.map Prod.fst := by simpa using ha
      exact (others a out).trans (by rw [Hub.active_setActive, if_neg ne])

/-- `h'` keeps the active registers, the islands' staged copies, and the registers of island `n` below its detectors'. -/
structure FiltKept (n : SpireIx) (h h' : Hub) : Prop where
  act : h'.act = h.act
  filts : h'.filts = h.filts
  regs : ∀ a, 0x42000000 ≤ a → a < 0x42002000 + 0x10000 * n.val → h'.rd a = h.rd a

section
variable {n : SpireIx} {h h' h'' : Hub}

theorem FiltKept.refl (h : Hub) : FiltKept n h h := ⟨rfl, rfl, fun _ _ _ => rfl⟩

theorem FiltKept.trans (q : FiltKept n h h') (q' : FiltKept n h' h'') : FiltKept n h h'' :=
  ⟨q'.act.trans q.act, q'.filts.trans q.filts, fun a lo hi => (q'.regs a lo hi).trans (q.regs a lo hi)⟩

theorem sameButLedger.filtKept (q : sameButLedger h h') : FiltKept n h h' := by
  obtain ⟨regs, form⟩ := q
  refine ⟨by rw [form], by rw [form], fun a lo hi => regs a ?_⟩
  have below : ¬ 0x45000000 ≤ a := by omega
  rw [inLedger, decide_eq_false below, Bool.false_and]

variable (h)

theorem filtKept_clearPaths (c f : Nat) : FiltKept n h (h.clearPaths n c f) := ⟨rfl, rfl, fun _ _ _ => rfl⟩

theorem filtKept_senQuiet (c : Nat) : FiltKept n h (h.senQuiet n c) := by
  refine ⟨rfl, rfl, fun a _ hi => ?_⟩
  have ne : a ≠ Addr.SEN_NOISE n c := by simp only [Addr.SEN_NOISE]; omega
  exact (Hub.rd_setFld ..).trans (if_neg ne)

/-- A stream that goes on with its index: the channel's shift, and the end of the packet that is open. -/
theorem filtKept_streamGoesOn (c t : Nat) (x : Chan) :
    FiltKept n h (if (h.setChan (chNo n c) x).streamOn (chNo n c) then
      ((h.setChan (chNo n c) x).seal t (chNo n c)).modStream (chNo n c) fun s => { s with descDue := true }
    else h.setChan (chNo n c) x) := by
  have shifted : FiltKept n h (h.setChan (chNo n c) x) := ⟨rfl, rfl, fun _ _ _ => rfl⟩
  split
  · exact (shifted.trans (Hub.seal_same ..).1.filtKept).trans (sameButLedger.modStream ..).filtKept
  · exact shifted

theorem filtKept_rateChange (c f : Nat) (old : FiltCfg) : FiltKept n h (h.rateChange n c f old) := by
  unfold Hub.rateChange
  dsimp only
  split
  · exact .refl h
  · exact filtKept_streamGoesOn h c (f * frameU) _

theorem filtKept_describePlain (c : Nat) : FiltKept n h (h.describePlain n c) := by
  unfold Hub.describePlain
  dsimp only
  split
  · exact (sameButLedger.modStream ..).filtKept
  · exact .refl h

theorem filtKept_filtChanged (c f : Nat) (old : FiltCfg) : FiltKept n h (h.filtChanged n c f old) := by
  have changed : FiltKept n h (((h.clearPaths n c f).senQuiet n c).rateChange n c f old) :=
    ((filtKept_clearPaths h c f).trans (filtKept_senQuiet _ c)).trans (filtKept_rateChange _ c f old)
  unfold Hub.filtChanged
  dsimp only
  split
  · exact .refl h
  split
  · exact changed.trans (filtKept_describePlain _ c)
  · exact changed

end

/-- What a commit that takes effect puts in force, and what it leaves. -/
theorem filterCommitApply_spec {n : SpireIx} {f : Nat} {h : Hub} {l : List (Nat × Word)} (staged : (h.filt n).staged = some l)
    (once : (l.map Prod.fst).Nodup) :
    ((filterCommitApply n f h).filt n).staged = none ∧ (filterCommitApply n f h).bit (Addr.FI_STATUS n) 0 = false ∧
    (∀ p ∈ l, (filterCommitApply n f h).active p.1 = p.2) ∧
    (∀ a, a ∉ l.map Prod.fst → (filterCommitApply n f h).active a = h.active a) ∧
    ∀ a, Addr.FI_STATUS n < a → a < 0x42002000 + 0x10000 * n.val → (filterCommitApply n f h).rd a = h.rd a := by
  generalize forced : forIn' l (fun p h => h.setActive p.1 p.2) h = g
  generalize cleared : (g.setFilt n { g.filt n with staged := none }).setBit (Addr.FI_STATUS n) 0 false = g'
  generalize ran : forIn' ((List.range 32).map fun c => (c, h.filtCfg n c)) (fun p h => h.filtChanged n p.1 f p.2) g' = t
  have row : filterCommitApply n f h = t := by
    rw [← ran, ← cleared, ← forced]
    simp only [filterCommitApply, staged]
  have kept : FiltKept n g' t := by
    rw [← ran]
    exact forIn'_keeps (FiltKept n g') _ (fun p a q => q.trans (filtKept_filtChanged a p.1 f p.2)) _ g' (.refl g')
  obtain ⟨own, others⟩ := active_forIn'_setActive l h once
  have regs : g.regs = h.regs := by
    rw [← forced]
    exact forIn'_same Hub.regs (fun (p : Nat × Word) h => h.setActive p.1 p.2) (fun _ _ => rfl) l h
  have active : ∀ a, t.active a = g.active a := fun a => by
    rw [Hub.active, Hub.active, kept.act, ← cleared]
    rfl
  have status : Addr.FI_STATUS n < 0x42002000 + 0x10000 * n.val := by simp only [Addr.FI_STATUS]; omega
  have above : 0x42000000 ≤ Addr.FI_STATUS n := Nat.le_add_right ..
  rw [row]
  refine ⟨?_, ?_, fun p hp => ?_, fun a ha => ?_, fun a lo hi => ?_⟩
  · rw [Hub.filt, kept.filts, ← cleared]
    exact congrArg Filt.staged (Hub.filt_setFilt_same ..)
  · rw [Hub.bit, kept.regs _ above status, ← cleared]
    exact Hub.bit_setBit_same _ _ _ _ (by decide)
  · rw [active, ← forced]
    exact own p hp
  · rw [active, ← forced]
    exact others a ha
  · rw [kept.regs a (by omega) hi, ← cleared, Hub.rd_setBit_other _ _ _ _ _ (by omega), Hub.rd_setFilt, Hub.rd, regs, Hub.rd]

theorem execFilterCommitApply_spec {s : State} {n : SpireIx} {l : List (Nat × Word)} (p : s.hub.sys.powered = true)
    (staged : (s.hub.filt n).staged = some l) (once : (l.map Prod.fst).Nodup) :
    ∃ t, exec (.filterCommitApply n) s = .next t ∧ (t.hub.filt n).staged = none ∧
      t.hub.bit (Addr.FI_STATUS n) 0 = false ∧ (∀ p ∈ l, t.hub.active p.1 = p.2) ∧
      (∀ a, a ∉ l.map Prod.fst → t.hub.active a = s.hub.active a) ∧
      (∀ c a, c < 32 → a ∈ filtRegs n c → t.hub.rd a = s.hub.rd a) := by
  obtain ⟨gone, idle, own, others, regs⟩ := filterCommitApply_spec (f := frameOf (s.hub.timeAt s.raw.toNat)) staged once
  refine ⟨_, s.onHub_eq (fun r h => filterCommitApply n (frameOf (h.timeAt r)) h) p rfl, gone, idle, own, others,
    fun c a lt mem => ?_⟩
  have block : Addr.FI_STATUS n < a ∧ a < 0x42002000 + 0x10000 * n.val := by
    simp only [filtRegs, Addr.FCH_CFG, Addr.FCH_LEN1, Addr.FCH_LEN2, Addr.FCH_LEN3, Addr.FCH_DECIM, Addr.FCH_DELAY, Addr.USER_OFS,
      Addr.USER_GAIN, List.mem_cons, List.not_mem_nil, or_false] at mem
    simp only [Addr.FI_STATUS]
    omega
  exact regs a block.1 block.2

/-! ### Words of user curves -/

/-- The address of word `w` of user curve `k` of island `n`. -/
def curveWordAt (n : SpireIx) (k : CurveIx) (w : CurveWordIx) : Nat := userCurveBase n (32 + k.val) + 4 * w.val

section
variable {n : SpireIx} {k : CurveIx} {w : CurveWordIx}

theorem isCurveWord_curveWordAt : isCurveWord (curveWordAt n k w) = true := by
  obtain ⟨lo, hi, area, aligned⟩ : 0x42000000 ≤ curveWordAt n k w ∧ curveWordAt n k w < 0x42100000 ∧
      0x8000 ≤ curveWordAt n k w % 0x10000 ∧ curveWordAt n k w % 4 = 0 := by
    simp only [curveWordAt, userCurveBase]
    omega
  simp only [isCurveWord, Bool.and_eq_true, decide_eq_true_eq]
  exact ⟨⟨⟨lo, hi⟩, area⟩, aligned⟩

/-- The three bits of ATTR. -/
theorem bitsOf_and_seven (v : Word) : bitsOf (v &&& 7#32) 1 2 = bitsOf v 1 2 := by
  have low : (v &&& 7#32).toNat = v.toNat % 8 := (BitVec.toNat_and ..).trans (Nat.and_two_pow_sub_one_eq_mod v.toNat 3)
  rw [bitsOf, bitsOf, low]
  omega

/-- A write of a curve's word finds its island, its curve and its offset in the address. -/
theorem userCurveStore_word (r m : Nat) (v : Word) (h : Hub) :
    userCurveStore r m (curveWordAt n k w) v h =
      (let base := userCurveBase n (32 + k.val)
       let a := curveWordAt n k w
       let u := if w.val = 2 then v &&& 7#32 else v
       if w.val = 3 ∨ 260 ≤ w.val then h
       else if w.val = 2 ∧ 2 ≤ bitsOf v 1 2 then h.refuse r m a ERANGE
       else if (h.wr a u).bit (base + 8) 0 && !userCurveOk (h.wr a u).rd base then h.refuse r m a ERANGE
       else h.wr a u) := by
  have island : (curveWordAt n k w - 0x42000000) / 0x10000 = n.val := by
    simp only [curveWordAt, userCurveBase]
    omega
  have curve : 32 + (curveWordAt n k w % 0x10000 - 0x8000) / 0x800 = 32 + k.val := by
    simp only [curveWordAt, userCurveBase]
    omega
  have offset : curveWordAt n k w - userCurveBase n (32 + k.val) = 4 * w.val := Nat.add_sub_cancel_left ..
  have attr : (4 * w.val = 8) = (w.val = 2) := by
    rw [eq_iff_iff]
    omega
  have reserved : (4 * w.val = 0xC ∨ 0x410 ≤ 4 * w.val) = (w.val = 3 ∨ 260 ≤ w.val) := by
    rw [eq_iff_iff]
    omega
  have unit : ∀ u : Word, u = (if w.val = 2 then v &&& 7#32 else v) →
      (w.val = 2 ∧ bitsOf u 1 2 ≥ 2) = (w.val = 2 ∧ 2 ≤ bitsOf v 1 2) := by
    rintro u rfl
    rw [eq_iff_iff]
    refine and_congr_right fun two => ?_
    rw [if_pos two, bitsOf_and_seven]
  simp only [userCurveStore, island, curve, offset, attr, reserved, unit _ rfl]

end

/-- What a write of a curve's word stores and refuses. -/
theorem execUserCurveWrite_spec {s : State} {m : MasterIx} {n : SpireIx} {k : CurveIx} {w : CurveWordIx} {v : Word}
    (p : s.hub.sys.powered = true) :
    (let base := userCurveBase n (32 + k.val)
     let a := base + 4 * w.val
     let u := if w.val = 2 then v &&& 7#32 else v
     let h := s.hub.wr a u
     let broken := (w.val = 2 ∧ 2 ≤ bitsOf v 1 2) ∨ (h.bit (base + 8) 0 = true ∧ userCurveOk h.rd base = false)
     s.hub.accessOk m true a 4 = true → ∃ t, exec (.userCurveWrite m n k w v) s = .next t ∧
       (planOpen s → w.val = 3 ∨ 260 ≤ w.val → onlyStore m (fun _ => false) s t) ∧
       (planOpen s → w.val ≠ 3 → w.val < 260 → ¬broken → t.hub.rd a = u ∧ onlyStore m (fun x => x == a) s t) ∧
       (planOpen s → w.val ≠ 3 → w.val < 260 → broken → refusedStore m s t) ∧
       ((s.hub.mode = .armed ∨ s.hub.mode = .run ∨ s.hub.mode = .shadow) → refusedStore m s t)) := by
  intro base a u h broken ok
  have above : 0x41000000 ≤ a := by
    simp only [a, base, userCurveBase]
    omega
  have word : isCurveWord a = true := isCurveWord_curveWordAt
  have held : planRestricted a = true := by rw [planRestricted, word, Bool.true_or]
  have stored : planOpen s → s.hub.restrictedStore s.raw.toNat m a v = userCurveStore s.raw.toNat m a v s.hub := by
    intro plan
    rw [Hub.restrictedStore_open plan.1 plan.2, Hub.regStore, if_pos word]
  have split : userCurveStore s.raw.toNat m a v s.hub =
      if w.val = 3 ∨ 260 ≤ w.val then s.hub
      else if w.val = 2 ∧ 2 ≤ bitsOf v 1 2 then s.hub.refuse s.raw.toNat m a ERANGE
      else if h.bit (base + 8) 0 && !userCurveOk h.rd base then s.hub.refuse s.raw.toNat m a ERANGE
      else h := userCurveStore_word ..
  refine ⟨_, write_of_restricted (v := v) p ok above held, fun plan reserved => ?_, fun plan ne lt fine => ?_,
    fun plan ne lt bad => ?_, fun mode => ?_⟩
  · rw [stored plan, split, if_pos reserved]
    exact ⟨rfl, fun _ _ => rfl⟩
  · obtain ⟨unit, valid⟩ := not_or.mp fine
    have sound : ¬ ((h.bit (base + 8) 0 && !userCurveOk h.rd base) = true) := by simpa using valid
    rw [stored plan, split, if_neg (by omega), if_neg unit, if_neg sound]
    exact ⟨Hub.rd_wr_same .., onlyStore_wr ..⟩
  · rw [stored plan, split, if_neg (by omega)]
    by_cases unit : w.val = 2 ∧ 2 ≤ bitsOf v 1 2
    · rw [if_pos unit]
      exact refusedStore_refuse ..
    · obtain ⟨valid, fails⟩ := bad.resolve_left unit
      rw [if_neg unit, if_pos (by rw [valid, fails]; rfl)]
      exact refusedStore_refuse ..
  · have closed : s.hub.mode ≠ .service ∧ s.hub.mode ≠ .boot ∧ s.hub.mode ≠ .idle := by
      rcases mode with e | e | e <;> simp [e]
    rw [Hub.restrictedStore_refused _ _ _ _ _ closed.1 (.inr closed.2)]
    exact refusedStore_refuse ..

/-- Settles O27: a commit is checked when it is written and put in force at its boundary; a curve's word is stored unless the curve
would be VALID against its conditions. -/
theorem filterCommits : Obligations.FilterCommit := by
  unfold Obligations.FilterCommit
  exact ⟨fun _ _ _ _ p ok plan => execFilterCommit_spec p ok plan,
    fun _ _ _ p staged once => execFilterCommitApply_spec p staged once,
    fun _ _ _ _ _ _ p => execUserCurveWrite_spec p⟩

end Sys2Proof.Machine

/-!
SUPPORT. Wire breaks (R76 to R85): what declaring and clearing a break show, the probe's and the charge test's readings on their
way off the injection queue, and the sense readings of the excitation.
-/

namespace Sys2Proof.Machine

open Sys2Proof.Safety

/-! ### Event records and declared breaks -/

/-- An event record changes the Ledger, and of the registers the count of dropped records. -/
theorem Hub.eventRecord_frame (h : Hub) (ty time : Nat) (body : List Word) :
    h.eventRecord ty time body = { h with regs := (h.eventRecord ty time body).regs, led := (h.eventRecord ty time body).led } := by
  rcases h.eventRecord_cases ty time body with e | ⟨x, -, -, e⟩ <;> rw [e]
  rfl

theorem Hub.chan_eventRecord (h : Hub) (ty time : Nat) (body : List Word) (g : Nat) :
    (h.eventRecord ty time body).chan g = h.chan g := by
  rw [Hub.eventRecord_frame]
  rfl

/-- `h'` keeps the settings in force, the spires, and every register but those that show breaks and the count of dropped records. -/
structure BreakFrame (n : Nat) (h h' : Hub) : Prop where
  act : h'.act = h.act
  spires : h'.spires = h.spires
  regs : ∀ a, a ≠ Addr.FE_BREAK n → a ≠ Addr.FE_BREAK_NOW n → a ≠ Addr.LED_EVT_DROP_CNT → h'.rd a = h.rd a

section
variable {n : Nat} {h h' h'' : Hub}

theorem BreakFrame.refl (h : Hub) : BreakFrame n h h := ⟨rfl, rfl, fun _ _ _ _ => rfl⟩

theorem BreakFrame.trans (q : BreakFrame n h h') (q' : BreakFrame n h' h'') : BreakFrame n h h'' :=
  ⟨q'.act.trans q.act, q'.spires.trans q.spires, fun a brk now cnt => (q'.regs a brk now cnt).trans (q.regs a brk now cnt)⟩

theorem BreakFrame.feMode (q : BreakFrame n h h') (c : Nat) : h'.feMode n c = h.feMode n c := by
  rw [Hub.feMode, Hub.feMode, Hub.afld, Hub.afld, Hub.active, Hub.active, q.act]

theorem BreakFrame.setChan (h : Hub) (g : Nat) (x : Chan) : BreakFrame n h (h.setChan g x) := ⟨rfl, rfl, fun _ _ _ _ => rfl⟩

theorem BreakFrame.modChan (h : Hub) (g : Nat) (f : Chan → Chan) : BreakFrame n h (h.modChan g f) :=
  ⟨rfl, rfl, fun _ _ _ _ => rfl⟩

end

/-- The hub with a break of method `m` on a channel, its event record apart. -/
def brokenHub (n c t w : Nat) (m : BreakMethod) (h : Hub) : Hub :=
  (((h.modChan (chNo n c) fun x => { x with brks := x.brks ++ [(m, w)] }).setBit (Addr.FE_BREAK_NOW n) c true).setBit
    (Addr.FE_BREAK n) c true).noteChan h n c (frameOf t * frameU)

section
variable (r n c : Nat) (m : BreakMethod) (bound : Nat) (h : Hub)

/-- A method that has declared a break on the channel declares no other; one that has not declares it, with some bound. -/
theorem declareBreak_cases :
    (((h.chan (chNo n c)).brks.any fun b => b.1 = m) = true ∧ declareBreak r n c m bound h = h) ∨
    (((h.chan (chNo n c)).brks.any fun b => b.1 = m) = false ∧ ∃ w body,
      declareBreak r n c m bound h = (brokenHub n c (h.timeAt r) w m h).eventRecord 1 (h.timeAt r) body) := by
  cases declared : ((h.chan (chNo n c)).brks.any fun b => b.1 = m) with
  | true => exact .inl ⟨rfl, by simp only [declareBreak, declared, if_true]⟩
  | false =>
    refine .inr ⟨rfl, ?_⟩
    simp only [declareBreak, declared, Bool.false_eq_true, if_false]
    exact ⟨_, _, rfl⟩

theorem breakFrame_brokenHub (t w : Nat) : BreakFrame n h (brokenHub n c t w m h) := by
  refine ⟨?_, ?_, fun a brk now _ => ?_⟩
  · rw [brokenHub, Hub.noteChan_act]
    rfl
  · rw [brokenHub, Hub.noteChan_spires]
    rfl
  · rw [brokenHub, Hub.rd_noteChan, Hub.rd_setBit_other _ _ _ _ _ brk, Hub.rd_setBit_other _ _ _ _ _ now, Hub.rd_modChan]

theorem breakFrame_eventRecord (ty time : Nat) (body : List Word) : BreakFrame n h (h.eventRecord ty time body) := by
  refine ⟨?_, ?_, fun a _ _ cnt => (h.eventRecord_same ty time body).1 a cnt⟩ <;> rw [Hub.eventRecord_frame]

/-- What declaring a break leaves alone: other channels, and their bits. -/
theorem declareBreak_frame : BreakFrame n h (declareBreak r n c m bound h) ∧
    (∀ g, g ≠ chNo n c → (declareBreak r n c m bound h).chan g = h.chan g) ∧
    ∀ d, d < 32 → d ≠ c → (declareBreak r n c m bound h).bit (Addr.FE_BREAK n) d = h.bit (Addr.FE_BREAK n) d := by
  have far : Addr.FE_BREAK n ≠ Addr.FE_BREAK_NOW n := by simp only [Addr.FE_BREAK, Addr.FE_BREAK_NOW]; omega
  rcases declareBreak_cases r n c m bound h with ⟨-, e⟩ | ⟨-, w, body, e⟩ <;> rw [e]
  · exact ⟨.refl h, fun _ _ => rfl, fun _ _ _ => rfl⟩
  · refine ⟨(breakFrame_brokenHub n c m h _ w).trans (breakFrame_eventRecord n _ _ _ _), fun g ne => ?_, fun d lt ne => ?_⟩
    · rw [Hub.chan_eventRecord, brokenHub, Hub.chan_noteChan_other _ _ _ _ _ _ ne, Hub.chan_setBit, Hub.chan_setBit,
        Hub.chan_modChan, if_neg ne]
    · have cnt : Addr.FE_BREAK n ≠ Addr.LED_EVT_DROP_CNT := by simp only [Addr.FE_BREAK, Addr.LED_EVT_DROP_CNT]; omega
      rw [Hub.bit, (Hub.eventRecord_same ..).1 _ cnt, brokenHub, Hub.rd_noteChan]
      refine (Hub.bit_setBit _ _ _ _ _ _ lt).trans ?_
      rw [if_neg fun q => ne q.2, Hub.bit, Hub.rd_setBit_other _ _ _ _ _ far, Hub.rd_modChan, Hub.bit]

variable {r n c m bound h}

/-- A method that has no break on the channel declares one, and both bits show it. -/
theorem declareBreak_new (lt : c < 32) (fresh : ∀ b ∈ (h.chan (chNo n c)).brks, b.1 ≠ m) :
    (∃ w, ((declareBreak r n c m bound h).chan (chNo n c)).brks = (h.chan (chNo n c)).brks ++ [(m, w)]) ∧
    (declareBreak r n c m bound h).bit (Addr.FE_BREAK n) c = true ∧
    (declareBreak r n c m bound h).bit (Addr.FE_BREAK_NOW n) c = true := by
  have far : Addr.FE_BREAK_NOW n ≠ Addr.FE_BREAK n := by simp only [Addr.FE_BREAK, Addr.FE_BREAK_NOW]; omega
  have cnt : Addr.FE_BREAK n ≠ Addr.LED_EVT_DROP_CNT := by simp only [Addr.FE_BREAK, Addr.LED_EVT_DROP_CNT]; omega
  have cnt' : Addr.FE_BREAK_NOW n ≠ Addr.LED_EVT_DROP_CNT := by simp only [Addr.FE_BREAK_NOW, Addr.LED_EVT_DROP_CNT]; omega
  rcases declareBreak_cases r n c m bound h with ⟨some, -⟩ | ⟨-, w, body, e⟩
  · obtain ⟨b, mem, is⟩ := List.any_eq_true.mp some
    exact absurd (of_decide_eq_true is) (fresh b mem)
  · rw [e]
    refine ⟨⟨w, ?_⟩, ?_, ?_⟩
    · rw [Hub.chan_eventRecord, brokenHub, Hub.chan_noteChan_same, Hub.chan_setBit, Hub.chan_setBit, Hub.chan_modChan_same]
    · rw [Hub.bit, (Hub.eventRecord_same ..).1 _ cnt, brokenHub, Hub.rd_noteChan]
      exact Hub.bit_setBit_same _ _ _ _ lt
    · rw [Hub.bit, (Hub.eventRecord_same ..).1 _ cnt', brokenHub, Hub.rd_noteChan, Hub.rd_setBit_other _ _ _ _ _ far]
      exact Hub.bit_setBit_same _ _ _ _ lt

end

/-! ### Leaving the injection queue -/

/-- The oldest entry that a test picks, its conversions done, leaves the others as they stand. -/
theorem injDone_append {q : InjEntry → Bool} {pre post : List InjEntry} {e : InjEntry} (picks : q e = true)
    (done : e.needs ≤ e.codes.length) (older : ∀ x ∈ pre, q x = true → ¬ x.needs ≤ x.codes.length) :
    injDone q (pre ++ e :: post) = some (e, pre ++ post) := by
  induction pre with
  | nil => simp [injDone, picks, done]
  | cons x pre ih =>
    have kept : (q x && decide (x.needs ≤ x.codes.length)) = false := by
      cases hq : q x with
      | false => rfl
      | true => simpa using older x List.mem_cons_self hq
    rw [List.cons_append, injDone, kept, ih fun y hy => older y (List.mem_cons_of_mem x hy)]
    rfl

/-- Entries that leave change the state of the spire and INJ_QUEUE; those that stay keep their places. -/
theorem injLeave_spec (h : Hub) (t n : Nat) (q : List InjEntry) :
    sameButSpire (fun a => a == Addr.INJ_QUEUE n) n h (h.injLeave t n q) ∧ q <+: ((h.injLeave t n q).spire n).injQ := by
  generalize leave : (h.modSpire n fun s => { s with injQ := q }).syncInj n = g
  have frame : sameButSpire (fun a => a == Addr.INJ_QUEUE n) n h g := by
    rw [← leave]
    exact sameButSpire_syncInj h n fun s => { s with injQ := q }
  have queue : (g.spire n).injQ = q := by rw [← leave, Hub.spire_syncInj, Hub.spire_modSpire_same]
  rw [Hub.injLeave, leave, Hub.injAdmit]
  dsimp only
  split
  · exact ⟨frame, queue ▸ List.prefix_rfl⟩
  · refine ⟨frame.trans (sameButSpire_syncInj g n fun s => { s with
      injQ := s.injQ ++ (s.injWait.take (4 - s.injQ.length)).map (InjEntry.queuedAt t),
      injWait := s.injWait.drop (4 - s.injQ.length) }), ?_⟩
    refine ⟨((g.spire n).injWait.take (4 - (g.spire n).injQ.length)).map (InjEntry.queuedAt t), ?_⟩
    rw [Hub.spire_syncInj, Hub.spire_setSpire, if_pos rfl, queue]

/-- What an entry's leaving keeps: the settings in force, the channels, and every register but INJ_QUEUE. -/
theorem injLeave_keeps (h : Hub) (t : Nat) (n : SpireIx) (q : List InjEntry) :
    (h.injLeave t n q).act = h.act ∧ (h.injLeave t n q).chans = h.chans ∧
    (∀ a, a ≠ Addr.INJ_QUEUE n → (h.injLeave t n q).rd a = h.rd a) ∧ (h.injLeave t n q).standby = h.standby := by
  obtain ⟨form, regs, -⟩ := (injLeave_spec h t n q).1
  have others : ∀ a, a ≠ Addr.INJ_QUEUE n → (h.injLeave t n q).rd a = h.rd a := fun a ne => regs a (by simpa using ne)
  refine ⟨by rw [form], by rw [form], others, Hub.standby_of_regs fun a lo => others a ?_⟩
  simp only [Addr.INJ_QUEUE]
  omega

/-- A quotient that the model draws keeps all but the counter of free values. -/
theorem drawQuotient_keeps (n : Nat) (h : Hub) (num : Int) (den : Nat) :
    BreakFrame n h (h.drawQuotient num den).2 ∧ (h.drawQuotient num den).2.chans = h.chans := by
  rcases h.drawQuotient_snd num den with e | e <;> rw [e] <;> exact ⟨⟨rfl, rfl, fun _ _ _ _ => rfl⟩, rfl⟩

/-! ### The probe -/

section
variable (r n c t : Nat) (pBall : Bool) (code : Int) (h : Hub)

/-- The readings of a ball that its mean over the last 100 ms is taken of. -/
def ballReadings : List (Nat × Bool × Int) :=
  (h.chan (chNo n c)).probe.filter fun p => decide (t ≤ p.1 + 100 * msU) && p.2.1 == pBall

variable {r n c t pBall code h}

/-- A ball that has moved by 1.0 V or more from its mean has the probe declare a break, on the hub as the reading left it. -/
theorem probeRead_moved (some : ballReadings n c t pBall h ≠ [])
    (moved : 32768 * ((ballReadings n c t pBall h).length : Int) ≤
      5 * (code * ((ballReadings n c t pBall h).length : Int) - ((ballReadings n c t pBall h).map fun p => p.2.2).sum)) :
    ∃ b g, probeRead r n c t pBall code h = declareBreak r n c .probe b g ∧ BreakFrame n h g ∧
      (g.chan (chNo n c)).brks = (h.chan (chNo n c)).brks := by
  have same : ((h.chan (chNo n c)).probe.filter fun p => decide (t ≤ p.1 + 100 * msU)).filter (fun p => decide (p.2.1 = pBall)) =
      ballReadings n c t pBall h := by
    rw [List.filter_filter, ballReadings]
    refine List.filter_congr fun p _ => ?_
    rw [Bool.and_comm]
    rfl
  have sum : (ballReadings n c t pBall h).foldl (fun (a : Int) p => a + p.2.2) 0 =
      ((ballReadings n c t pBall h).map fun p => p.2.2).sum := by
    rw [List.sum_eq_foldl, List.foldl_map]
  have pos : 0 < ((ballReadings n c t pBall h).length : Int) := by
    have := List.length_pos_iff.mpr some
    omega
  have reaches : (decide (0 < ((ballReadings n c t pBall h).length : Int)) &&
      decide (32768 * ((ballReadings n c t pBall h).length : Int) ≤
      (code * ((ballReadings n c t pBall h).length : Int) - ((ballReadings n c t pBall h).map fun p => p.2.2).sum) * 5)) = true := by
    rw [decide_eq_true pos, Bool.true_and]
    exact decide_eq_true (by omega)
  simp only [probeRead, same, sum, reaches, if_true]
  refine ⟨_, _, rfl, ?_, ?_⟩
  · exact (BreakFrame.setChan h (chNo n c) _).trans (drawQuotient_keeps n _ _ _).1
  · rw [Hub.chan, (drawQuotient_keeps n _ _ _).2]
    exact (congrArg Chan.brks (SMap.get_put_same ..)).trans rfl

end

section
variable {s : State} {n : SpireIx} {c : ChanIx} (p : s.hub.sys.powered = true)
include p

theorem execProbeBallRead_spec {pBall : Bool} {e : InjEntry} {pre post : List InjEntry} {f : Nat} {code : Int}
    (enabled : (s.hub.active (Addr.FE_CFG n c)).getLsbD 17 = true) (active : s.hub.standby = false)
    (mode : s.hub.feMode n c = mVDIFF ∨ s.hub.feMode n c = mBRIDGE ∨ s.hub.feMode n c = mTC)
    (queue : (s.hub.spire n).injQ = pre ++ e :: post) (who : e.who = .probe c) (node : e.node = ballNode c pBall)
    (codes : e.codes = [(f, code)]) (older : ∀ x ∈ pre, x.who = .probe c → x.node = ballNode c pBall → x.codes = [])
    (fresh : ∀ b ∈ (s.hub.chan (chNo n c)).brks, b.1 ≠ .probe) (some : ballReadings n c e.heldAt pBall s.hub ≠ [])
    (moved : 32768 * ((ballReadings n c e.heldAt pBall s.hub).length : Int) ≤
      5 * (code * ((ballReadings n c e.heldAt pBall s.hub).length : Int) -
        ((ballReadings n c e.heldAt pBall s.hub).map fun p => p.2.2).sum)) :
    ∃ t, exec (.probeBallRead n c pBall) s = .next t ∧
      (∃ w, (t.hub.chan (chNo n c)).brks = (s.hub.chan (chNo n c)).brks ++ [(.probe, w)]) ∧
      (pre ++ post).isPrefixOf (t.hub.spire n).injQ = true ∧
      t.hub.bit (Addr.FE_BREAK n) c = true ∧ t.hub.bit (Addr.FE_BREAK_NOW n) c = true ∧ t.hub.dome = s.hub.dome ∧
      regsKept (fun a => a == Addr.FE_BREAK n || a == Addr.FE_BREAK_NOW n || a == Addr.LED_EVT_DROP_CNT ||
        a == Addr.INJ_QUEUE n) s t := by
  have taken : injDone (fun e => e.who = .probe c && e.node = ballNode c pBall) (s.hub.spire n).injQ = .some (e, pre ++ post) := by
    rw [queue]
    refine injDone_append (by simp [who, node]) (by simp [InjEntry.needs, who, codes]) fun x mem picks => ?_
    obtain ⟨who', node'⟩ : x.who = .probe c ∧ x.node = ballNode c pBall := by simpa using picks
    simp [InjEntry.needs, who', older x mem who' node']
  obtain ⟨-, stays⟩ := injLeave_spec s.hub (s.hub.timeAt s.raw.toNat) n (pre ++ post)
  obtain ⟨act, chans, regs, standby⟩ := injLeave_keeps s.hub (s.hub.timeAt s.raw.toNat) n (pre ++ post)
  generalize leave : s.hub.injLeave (s.hub.timeAt s.raw.toNat) n (pre ++ post) = h at stays act chans regs standby
  have chan : h.chan (chNo n c) = s.hub.chan (chNo n c) := by rw [Hub.chan, Hub.chan, chans]
  have readings : ballReadings n c e.heldAt pBall h = ballReadings n c e.heldAt pBall s.hub := by
    rw [ballReadings, ballReadings, chan]
  obtain ⟨b, g, declares, before, brks⟩ := probeRead_moved (r := s.raw.toNat) (readings ▸ some) (readings ▸ moved)
  have probed : (!(h.active (Addr.FE_CFG n c)).getLsbD 17 || h.standby ||
      !(s.hub.feMode n c = mVDIFF || s.hub.feMode n c = mBRIDGE ||
      s.hub.feMode n c = mTC)) = false := by
    rw [Hub.active, act, standby, active]
    have en : (s.hub.active (Addr.FE_CFG n c)).getLsbD 17 = true := enabled
    have kind : (s.hub.feMode n c = mVDIFF || s.hub.feMode n c = mBRIDGE || s.hub.feMode n c = mTC) = true := by
      simpa [or_assoc] using mode
    rw [Hub.active] at en
    rw [en, kind]
    rfl
  have row : probeBallRead s.raw.toNat n c pBall s.hub = declareBreak s.raw.toNat n c .probe b g := by
    simp only [probeBallRead, taken, leave, probed, Bool.false_eq_true, if_false, codes]
    exact declares
  obtain ⟨after, -, -⟩ := declareBreak_frame s.raw.toNat n c .probe b g
  obtain ⟨⟨w, more⟩, brk, now⟩ :=
    declareBreak_new (r := s.raw.toNat) (bound := b) (h := g) c.isLt (by rw [brks, chan]; exact fresh)
  refine ⟨_, s.onHub_eq (fun r h => probeBallRead r n c pBall h) p row, ⟨w, more.trans (by rw [brks, chan])⟩, ?_, brk, now, ?_,
    fun a ha => ?_⟩
  · rw [List.isPrefixOf_iff_prefix, Hub.spire, after.spires, before.spires]
    exact stays
  · rw [← row, probeBallRead_dome]
  · obtain ⟨⟨⟨ne, ne'⟩, cnt⟩, inj⟩ :
        ((a ≠ Addr.FE_BREAK n ∧ a ≠ Addr.FE_BREAK_NOW n) ∧ a ≠ Addr.LED_EVT_DROP_CNT) ∧
      a ≠ Addr.INJ_QUEUE n := by simpa using ha
    exact ((after.regs a ne ne' cnt).trans (before.regs a ne ne' cnt)).trans (regs a inj)

end

/-! ### The charge test -/

section
variable {r n c : Nat} {code0 code1 cs : Int} {h : Hub}

/-- The hub with the capacitance shown and the count of low tests set. -/
def testedHub (n c : Nat) (cs : Int) (k : Nat) (h : Hub) : Hub :=
  (h.wr (Addr.FE_CHG_CS n c) (BitVec.ofInt 32 cs)).modChan (chNo n c) fun x => { x with lowTests := k }

/-- A capacitance of a whole number of pF is shown exactly; below the threshold it counts, and the second in a row declares. -/
theorem chargeTestResult_eq
    (divides : ((cfPf (h.afld (Addr.FE_CFG n c) 6 3) : Nat) : Int) * (500 * (code1 - code0) - 32768) = 32768 * cs)
    (nonneg : 0 ≤ cs) (small : cs < 65535) :
    chargeTestResult r n c code0 code1 h =
      if cs < 10 * (h.afld (Addr.FE_AUX n c) 22 10 : Nat) then
        (if 2 ≤ (h.chan (chNo n c)).lowTests + 1 then
          declareBreak r n c .charge 2000000 (testedHub n c cs ((h.chan (chNo n c)).lowTests + 1) h)
        else testedHub n c cs ((h.chan (chNo n c)).lowTests + 1) h)
      else testedHub n c cs 0 h := by
  have quotient : h.drawQuotient (32768 * cs) 32768 = (cs, h) := by
    have whole : (32768 * cs) % ((32768 : Nat) : Int) = 0 := Int.mul_emod_right ..
    rw [Hub.drawQuotient, if_pos whole]
    exact congrArg (·, h) (Int.mul_ediv_cancel_left cs (by decide))
  have shown : (0 ≤ cs ∧ cs ≤ 0xFFFE) := ⟨nonneg, by omega⟩
  have word : wd (unsigned 16 cs) = BitVec.ofInt 32 cs := by
    obtain ⟨k, rfl⟩ := Int.eq_ofNat_of_zero_le nonneg
    have lt : k < 65535 := by omega
    have small : unsigned 16 (k : Int) = k := by
      simp only [unsigned]
      omega
    rw [small, wd]
    exact (BitVec.ofInt_natCast ..).symm
  have low : (32768 * cs < ((h.afld (Addr.FE_AUX n c) 22 10 * 10 * 32768 : Nat) : Int)) =
      (cs < 10 * (h.afld (Addr.FE_AUX n c) 22 10 : Nat)) := by
    rw [eq_iff_iff]
    push_cast
    omega
  simp only [chargeTestResult, divides, quotient, shown, and_self, if_true, word]
  exact ite_congr low (fun _ => rfl) fun _ => rfl

/-- Whatever the capacitance, the test ends on the hub that shows it, a break declared or not. -/
theorem chargeTestResult_frame
    (divides : ((cfPf (h.afld (Addr.FE_CFG n c) 6 3) : Nat) : Int) * (500 * (code1 - code0) - 32768) = 32768 * cs)
    (nonneg : 0 ≤ cs) (small : cs < 65535) :
    ∃ k, BreakFrame n (testedHub n c cs k h) (chargeTestResult r n c code0 code1 h) := by
  rw [chargeTestResult_eq divides nonneg small]
  split
  · split
    · exact ⟨_, (declareBreak_frame ..).1⟩
    · exact ⟨_, .refl _⟩
  · exact ⟨_, .refl _⟩

end

theorem execChargeTestComplete_spec {s : State} {n : SpireIx} {c : ChanIx} {e : InjEntry} {pre post : List InjEntry} {f0 f1 : Nat}
    {code0 code1 cs : Int} (p : s.hub.sys.powered = true) (active : s.hub.standby = false)
    (queue : (s.hub.spire n).injQ = pre ++ e :: post) (who : e.who = .ctest c) (codes : e.codes = [(f0, code0), (f1, code1)])
    (older : ∀ x ∈ pre, x.who = .ctest c → x.codes.length < 2)
    (divides : ((cfPf (s.hub.afld (Addr.FE_CFG n c) 6 3) : Nat) : Int) * (500 * (code1 - code0) - 32768) = 32768 * cs)
    (nonneg : 0 ≤ cs) (small : cs < 65535) :
    ∃ t, exec (.chargeTestComplete n c) s = .next t ∧
      t.hub.rd (Addr.FE_CHG_CS n c) = BitVec.ofInt 32 cs ∧ (pre ++ post).isPrefixOf (t.hub.spire n).injQ = true ∧
      (cs < 10 * (s.hub.afld (Addr.FE_AUX n c) 22 10 : Nat) → (s.hub.chan (chNo n c)).lowTests = 1 →
        (∀ b ∈ (s.hub.chan (chNo n c)).brks, b.1 ≠ .charge) →
        (∃ w, (t.hub.chan (chNo n c)).brks = (s.hub.chan (chNo n c)).brks ++ [(.charge, w)]) ∧
        t.hub.bit (Addr.FE_BREAK n) c = true ∧ t.hub.bit (Addr.FE_BREAK_NOW n) c = true) ∧
      (10 * (s.hub.afld (Addr.FE_AUX n c) 22 10 : Nat) ≤ cs → (t.hub.chan (chNo n c)).lowTests = 0) ∧
      t.hub.dome = s.hub.dome ∧
      regsKept (fun a => a == Addr.FE_BREAK n || a == Addr.FE_BREAK_NOW n || a == Addr.LED_EVT_DROP_CNT ||
        a == Addr.FE_CHG_CS n c || a == Addr.INJ_QUEUE n) s t := by
  have taken : injDone (fun e => e.who = .ctest c) (s.hub.spire n).injQ = some (e, pre ++ post) := by
    rw [queue]
    refine injDone_append (by simp [who]) (by simp [InjEntry.needs, who, codes]) fun x mem picks => ?_
    have who' : x.who = .ctest c := by simpa using picks
    simpa [InjEntry.needs, who'] using older x mem who'
  obtain ⟨-, stays⟩ := injLeave_spec s.hub (s.hub.timeAt s.raw.toNat) n (pre ++ post)
  obtain ⟨act, chans, regs, standby⟩ := injLeave_keeps s.hub (s.hub.timeAt s.raw.toNat) n (pre ++ post)
  generalize leave : s.hub.injLeave (s.hub.timeAt s.raw.toNat) n (pre ++ post) = h at stays act chans regs standby
  have chan : h.chan (chNo n c) = s.hub.chan (chNo n c) := by rw [Hub.chan, Hub.chan, chans]
  have field : ∀ a lo k, h.afld a lo k = s.hub.afld a lo k := fun a lo k => by
    rw [Hub.afld, Hub.afld, Hub.active, Hub.active, act]
  have row : chargeTestComplete s.raw.toNat n c s.hub = chargeTestResult s.raw.toNat n c code0 code1 h := by
    simp only [chargeTestComplete, taken, leave, codes, standby, active, Bool.false_eq_true, if_false]
  rw [← field] at divides
  have result := chargeTestResult_eq (r := s.raw.toNat) divides nonneg small
  obtain ⟨k, frame⟩ := chargeTestResult_frame (r := s.raw.toNat) divides nonneg small
  have brk : Addr.FE_CHG_CS n c ≠ Addr.FE_BREAK n := by simp only [Addr.FE_CHG_CS, Addr.FE_BREAK]; omega
  have now : Addr.FE_CHG_CS n c ≠ Addr.FE_BREAK_NOW n := by simp only [Addr.FE_CHG_CS, Addr.FE_BREAK_NOW]; omega
  have cnt : Addr.FE_CHG_CS n c ≠ Addr.LED_EVT_DROP_CNT := by simp only [Addr.FE_CHG_CS, Addr.LED_EVT_DROP_CNT]; omega
  refine ⟨_, s.onHub_eq (fun r h => chargeTestComplete r n c h) p row, ?_, ?_, fun low one fresh => ?_, fun high => ?_, ?_,
    fun a ha => ?_⟩
  · rw [frame.regs _ brk now cnt, testedHub, Hub.rd_modChan, Hub.rd_wr_same]
  · rw [List.isPrefixOf_iff_prefix, Hub.spire, frame.spires]
    exact stays
  · have tested : ∀ j, ((testedHub n c cs j h).chan (chNo n c)).brks = (s.hub.chan (chNo n c)).brks := fun j => by
      rw [testedHub, Hub.chan_modChan_same, ← chan]
      rfl
    rw [if_pos (by rw [field]; exact low), chan, one, if_pos (Nat.le_refl 2)] at result
    simp only [result]
    obtain ⟨⟨w, more⟩, shown⟩ := declareBreak_new (r := s.raw.toNat) (m := .charge) (bound := 2000000)
      (h := testedHub n c cs 2 h) c.isLt (by rw [tested]; exact fresh)
    exact ⟨⟨w, more.trans (by rw [tested])⟩, shown⟩
  · rw [if_neg (by rw [field]; omega)] at result
    simp only [result, testedHub, Hub.chan_modChan_same]
  · rw [← row, chargeTestComplete_dome]
  · obtain ⟨⟨⟨⟨ne, ne'⟩, cnt⟩, own⟩, inj⟩ :
        (((a ≠ Addr.FE_BREAK n ∧ a ≠ Addr.FE_BREAK_NOW n) ∧ a ≠ Addr.LED_EVT_DROP_CNT) ∧
      a ≠ Addr.FE_CHG_CS n c) ∧ a ≠ Addr.INJ_QUEUE n := by simpa using ha
    refine (frame.regs a ne ne' cnt).trans (.trans ?_ (regs a inj))
    rw [testedHub, Hub.rd_modChan, Hub.rd_wr_other _ _ _ _ own]

/-! ### The sense readings -/

/-- What R79 sees in a frame with both readings that is neither blanked nor quiet. -/
theorem senseCheck_eq {h : Hub} {n g : Nat} {x y : Int} (blank : (h.spireAt n (g * frameU)).blankEnd ≤ g * frameU)
    (quiet : (h.spireAt n (g * frameU)).quietEnd ≤ g * frameU) (on : (h.spireAt n (g * frameU)).exc = .on)
    (sense : readingOf (h.spire n).senseRd g = some x) (force : readingOf (h.spire n).forceRd g = some y) :
    h.senseCheck n g = some (senseLow (h.spireAt n (g * frameU)).level2 (h.polarity n (g * frameU) * x),
      forceHigh (h.polarity n (g * frameU) * x) (h.polarity n (g * frameU) * y)) := by
  have seen : (decide (g * frameU < (h.spireAt n (g * frameU)).blankEnd) ||
      decide (g * frameU < (h.spireAt n (g * frameU)).quietEnd)) =
      false := by
    rw [decide_eq_false (Nat.not_lt.mpr blank), decide_eq_false (Nat.not_lt.mpr quiet)]
    rfl
  simp only [Hub.senseCheck, seen, Bool.false_eq_true, if_false, sense, force, on]
  rfl

/-- The status that a break shows, and the fallback of the sense where it is enabled and not there yet. -/
def senseShown (r n : Nat) (force : Bool) (h : Hub) : Hub :=
  if !force && h.bit (Addr.EXC_CFG n) 3 && !h.bit (Addr.EXC_STATUS n) 6 then
    (((h.setBit (Addr.EXC_STATUS n) (if force then 5 else 4) true).setBit (Addr.EXC_STATUS n) 6 true).excChange n).noteSpire h n
      (h.timeAt r)
  else h.setBit (Addr.EXC_STATUS n) (if force then 5 else 4) true

/-- Three frames that all show a break of the force side, or all of the sense side. -/
theorem excSenseBreak_eq {r n f : Nat} {v : Int} {rest : List (Nat × Int)} {h : Hub} {force : Bool}
    (readings : (h.spire n).senseRd = (f, v) :: rest) (two : 2 ≤ f)
    (shows : ∀ g ∈ [f, f - 1, f - 2], ∃ z, h.senseCheck n g = some z ∧ if force then z = (true, false) else z.2 = true) :
    excSenseBreak r n h = forN 32 (fun c h => if h.feMode n c = mBRIDGE then declareBreak r n c .excitation 320 h else h)
      (senseShown r n force h) := by
  obtain ⟨a, ha, isA⟩ := shows f (by simp)
  obtain ⟨b, hb, isB⟩ := shows (f - 1) (by simp)
  obtain ⟨c, hc, isC⟩ := shows (f - 2) (by simp)
  have late : ¬ f < 2 := by omega
  -- names for the loop and the check keep the kernel from evaluating them
  obtain ⟨loop, named⟩ : ∃ loop,
      forN 32 (fun c h => if h.feMode n c = mBRIDGE then declareBreak r n c .excitation 320 h else h) =
    loop := ⟨_, rfl⟩
  obtain ⟨check, named'⟩ : ∃ check, h.senseCheck n = check := ⟨_, rfl⟩
  rw [named'] at ha hb hc
  rw [excSenseBreak, named, named']
  cases force with
  | true =>
    simp only [if_true] at isA isB isC
    simp [readings, ha, hb, hc, isA, isB, isC, late, senseShown]
  | false =>
    simp only [Bool.false_eq_true, if_false] at isA isB isC
    simp [readings, ha, hb, hc, isA, isB, isC, late, senseShown]

section
variable {r : Nat} {n : SpireIx} {force : Bool} {h : Hub}

theorem senseShown_frame : (senseShown r n force h).act = h.act ∧ (senseShown r n force h).chans = h.chans ∧
    ∀ a, a ≠ Addr.EXC_STATUS n → (senseShown r n force h).rd a = h.rd a := by
  unfold senseShown
  split
  · refine ⟨(Hub.noteSpire_act ..).trans rfl, (Hub.noteSpire_chans ..).trans rfl, fun a ne => ?_⟩
    rw [Hub.rd_noteSpire, Hub.excChange, Hub.rd_modSpire, Hub.rd_setBit_other _ _ _ _ _ ne, Hub.rd_setBit_other _ _ _ _ _ ne]
  · exact ⟨rfl, rfl, fun a ne => Hub.rd_setBit_other _ _ _ _ _ ne⟩

/-- The kind of break shown, and whether the fallback stands after it. -/
theorem senseShown_status : (senseShown r n force h).bit (Addr.EXC_STATUS n) (if force then 5 else 4) = true ∧
    (senseShown r n force h).bit (Addr.EXC_STATUS n) 6 =
      (h.bit (Addr.EXC_STATUS n) 6 || (!force && h.bit (Addr.EXC_CFG n) 3)) := by
  have low : (if force = true then 5 else 4) < 32 := by split <;> decide
  have ne : (if force = true then 5 else 4) ≠ 6 := by split <;> decide
  unfold senseShown
  split
  · next falls =>
    obtain ⟨⟨f, cfg⟩, was⟩ :
        (force = false ∧ h.bit (Addr.EXC_CFG n) 3 = true) ∧ h.bit (Addr.EXC_STATUS n) 6 = false := by
      simpa using falls
    simp only [Hub.bit, Hub.rd_noteSpire, Hub.excChange, Hub.rd_modSpire]
    refine ⟨(Hub.bit_setBit _ _ _ _ _ _ low).trans ?_, (Hub.bit_setBit_same _ _ _ _ (by decide)).trans ?_⟩
    · rw [if_neg fun q => ne q.2]
      exact Hub.bit_setBit_same _ _ _ _ low
    · have cfg' : (h.rd (Addr.EXC_CFG n)).getLsbD 3 = true := cfg
      rw [f, cfg', Bool.not_false, Bool.and_self, Bool.or_true]
  · next stays =>
    refine ⟨Hub.bit_setBit_same _ _ _ _ low, (Hub.bit_setBit _ _ _ _ _ _ (by decide)).trans ?_⟩
    rw [if_neg fun q => ne q.2.symm]
    by_cases was : h.bit (Addr.EXC_STATUS n) 6 = true
    · rw [was, Bool.true_or]
    · have noFall : (!force && h.bit (Addr.EXC_CFG n) 3) = false := by simpa [was] using stays
      rw [noFall, Bool.or_false]

end

/-- `g` is `h` after the breaks by excitation of the BRIDGE channels below `k`. -/
structure BridgesBroken (n : Nat) (h : Hub) (k : Nat) (g : Hub) : Prop where
  frame : BreakFrame n h g
  broken : ∀ c, c < k → h.feMode n c = mBRIDGE → (∀ b ∈ (h.chan (chNo n c)).brks, b.1 ≠ .excitation) →
    (∃ w, (g.chan (chNo n c)).brks = (h.chan (chNo n c)).brks ++ [(.excitation, w)]) ∧ g.bit (Addr.FE_BREAK n) c = true
  ahead : ∀ c, k ≤ c → g.chan (chNo n c) = h.chan (chNo n c)

theorem BridgesBroken.next {r n k bound : Nat} {h g : Hub} (q : BridgesBroken n h k g) (lt : k < 32) :
    BridgesBroken n h (k + 1) (if g.feMode n k = mBRIDGE then declareBreak r n k .excitation bound g else g) := by
  have apart : ∀ c, c ≠ k → chNo n c ≠ chNo n k := fun c ne e => ne (chNo_inj e)
  split
  · next bridge =>
    obtain ⟨frame, others, bits⟩ := declareBreak_frame r n k .excitation bound g
    refine ⟨q.frame.trans frame, fun c le mode fresh => ?_, fun c le => ?_⟩
    · by_cases e : c = k
      · subst e
        have same := q.ahead c (Nat.le_refl c)
        obtain ⟨⟨w, more⟩, brk, -⟩ := declareBreak_new (r := r) (bound := bound) lt (same ▸ fresh)
        exact ⟨⟨w, more.trans (by rw [same])⟩, brk⟩
      · rw [others _ (apart c e), bits c (by omega) e]
        exact q.broken c (by omega) mode fresh
    · rw [others _ (apart c (by omega))]
      exact q.ahead c (by omega)
  · next other =>
    refine ⟨q.frame, fun c le mode fresh => ?_, fun c le => q.ahead c (by omega)⟩
    refine q.broken c (Nat.lt_of_le_of_ne (by omega) fun e => other ?_) mode fresh
    rw [q.frame.feMode, ← e, mode]

theorem bridgesBroken_all (r n bound : Nat) (h : Hub) : BridgesBroken n h 32
    (forN 32 (fun c h => if h.feMode n c = mBRIDGE then declareBreak r n c .excitation bound h else h) h) := by
  have upTo : ∀ k, k ≤ 32 → BridgesBroken n h k
      (forN k (fun c h => if h.feMode n c = mBRIDGE then declareBreak r n c .excitation bound h else h) h) := by
    intro k
    induction k with
    | zero => exact fun _ => ⟨.refl h, fun c lt => absurd lt (Nat.not_lt_zero c), fun _ _ => rfl⟩
    | succ k ih =>
      intro le
      rw [forN_succ]
      exact (ih (by omega)).next (by omega)
  exact upTo 32 (Nat.le_refl 32)

theorem execExcSenseBreak_spec {s : State} {n : SpireIx} {force : Bool} {f : Nat} {v : Int} {rest : List (Nat × Int)}
    (p : s.hub.sys.powered = true) (readings : (s.hub.spire n).senseRd = (f, v) :: rest) (two : 2 ≤ f)
    (shows : ∀ g ∈ [f, f - 1, f - 2], ∃ z, s.hub.senseCheck n g = some z ∧
      if force then z = (true, false) else z.2 = true) :
    ∃ t, exec (.excSenseBreak n) s = .next t ∧ t.hub.bit (Addr.EXC_STATUS n) (if force then 5 else 4) = true ∧
      (force = false → s.hub.bit (Addr.EXC_CFG n) 3 = true → t.hub.bit (Addr.EXC_STATUS n) 6 = true) ∧
      ((force = true ∨ s.hub.bit (Addr.EXC_CFG n) 3 = false) →
        t.hub.bit (Addr.EXC_STATUS n) 6 = s.hub.bit (Addr.EXC_STATUS n) 6) ∧
      (∀ c : ChanIx, s.hub.feMode n c = mBRIDGE → (∀ b ∈ (s.hub.chan (chNo n c)).brks, b.1 ≠ .excitation) →
        (∃ w, (t.hub.chan (chNo n c)).brks = (s.hub.chan (chNo n c)).brks ++ [(.excitation, w)]) ∧
        t.hub.bit (Addr.FE_BREAK n) c = true) ∧
      t.hub.dome = s.hub.dome ∧
      regsKept (fun a => a == Addr.EXC_STATUS n || a == Addr.FE_BREAK n || a == Addr.FE_BREAK_NOW n ||
        a == Addr.LED_EVT_DROP_CNT) s t := by
  have row := excSenseBreak_eq (r := s.raw.toNat) readings two shows
  obtain ⟨act, chans, regs⟩ := senseShown_frame (r := s.raw.toNat) (n := n) (force := force) (h := s.hub)
  obtain ⟨kind, fallback⟩ := senseShown_status (r := s.raw.toNat) (n := n) (force := force) (h := s.hub)
  obtain ⟨frame, broken, -⟩ := bridgesBroken_all s.raw.toNat n 320 (senseShown s.raw.toNat n force s.hub)
  have chan : ∀ g, (senseShown s.raw.toNat n force s.hub).chan g = s.hub.chan g := fun g => by rw [Hub.chan, Hub.chan, chans]
  have mode : ∀ c, (senseShown s.raw.toNat n force s.hub).feMode n c = s.hub.feMode n c := fun c => by
    rw [Hub.feMode, Hub.feMode, Hub.afld, Hub.afld, Hub.active, Hub.active, act]
  have dome : (excSenseBreak s.raw.toNat n s.hub).dome = s.hub.dome := excSenseBreak_dome ..
  rw [row] at dome
  generalize forN 32 (fun c h => if h.feMode n c = mBRIDGE then declareBreak s.raw.toNat n c .excitation 320 h else h)
    (senseShown s.raw.toNat n force s.hub) = t at row frame broken dome
  have brk : Addr.EXC_STATUS n ≠ Addr.FE_BREAK n := by simp only [Addr.EXC_STATUS, Addr.FE_BREAK]; omega
  have now : Addr.EXC_STATUS n ≠ Addr.FE_BREAK_NOW n := by simp only [Addr.EXC_STATUS, Addr.FE_BREAK_NOW]; omega
  have cnt : Addr.EXC_STATUS n ≠ Addr.LED_EVT_DROP_CNT := by simp only [Addr.EXC_STATUS, Addr.LED_EVT_DROP_CNT]; omega
  have status : ∀ i, t.bit (Addr.EXC_STATUS n) i = (senseShown s.raw.toNat n force s.hub).bit (Addr.EXC_STATUS n) i := fun i => by
    rw [Hub.bit, frame.regs _ brk now cnt, Hub.bit]
  refine ⟨_, s.onHub_eq (fun r h => excSenseBreak r n h) p row, (status _).trans kind, fun sense cfg => ?_, fun none => ?_,
    fun c bridge fresh => ?_, dome, fun a ha => ?_⟩
  · rw [status, fallback, sense, cfg]
    exact Bool.or_true _
  · rw [status, fallback]
    rcases none with e | e <;> simp [e]
  · obtain ⟨⟨w, more⟩, shown⟩ := broken c c.isLt ((mode c).trans bridge) (by rw [chan]; exact fresh)
    exact ⟨⟨w, more.trans (by rw [chan])⟩, shown⟩
  · obtain ⟨⟨⟨st, ne⟩, ne'⟩, ne''⟩ :
        ((a ≠ Addr.EXC_STATUS n ∧ a ≠ Addr.FE_BREAK n) ∧ a ≠ Addr.FE_BREAK_NOW n) ∧
      a ≠ Addr.LED_EVT_DROP_CNT := by simpa using ha
    exact (frame.regs a ne ne' ne'').trans (regs a st)

/-! ### Clearing a break -/

/-- The hub with the break of method `m` on a channel cleared at instant `t`, its event record apart. -/
def clearedHub (n c t : Nat) (m : BreakMethod) (h : Hub) : Hub :=
  (h.modChan (chNo n c) fun x => { x with
    brks := x.brks.filter fun b => decide (b.1 ≠ m), repairs := x.repairs ++ [(h.idxAfter n c t, h.stages n c)] }).setBit
    (Addr.FE_BREAK_NOW n) c (!((h.chan (chNo n c)).brks.filter fun b => decide (b.1 ≠ m)).isEmpty)

theorem breakClear_eq {r n c w : Nat} {m : BreakMethod} {h : Hub} (mem : (m, w) ∈ (h.chan (chNo n c)).brks) :
    ∃ body, breakClear r n c m h =
      ((clearedHub n c (h.timeAt r) m h).noteChan h n c (h.timeAt r + 1)).eventRecord 2 (h.timeAt r) body := by
  obtain ⟨b, found⟩ : ∃ b, (h.chan (chNo n c)).brks.find? (fun b => b.1 = m) = some b :=
    Option.isSome_iff_exists.mp (List.find?_isSome.mpr ⟨(m, w), mem, by simp⟩)
  refine ⟨[wd (chNo n c + 1024 * m.code), wd b.2], ?_⟩
  simp only [breakClear, found]
  rfl

theorem execBreakClear_spec {s : State} {n : SpireIx} {c : ChanIx} {m : BreakMethod} {w : Nat} (p : s.hub.sys.powered = true)
    (mem : (m, w) ∈ (s.hub.chan (chNo n c)).brks) :
    ∃ t, exec (.breakClear n c m) s = .next t ∧
      (let rest := (s.hub.chan (chNo n c)).brks.filter fun b => decide (b.1 ≠ m)
       (t.hub.chan (chNo n c)).brks = rest ∧ t.hub.bit (Addr.FE_BREAK_NOW n) c = !rest.isEmpty ∧
       ∀ x, chanSettled n c (s.hub.timeAt s.raw.toNat + 1) x s → (t.hub.chanAt n c x).brk = !rest.isEmpty) ∧
      (t.hub.chan (chNo n c)).repairs = (s.hub.chan (chNo n c)).repairs ++
        [(s.hub.idxAfter n c (s.hub.timeAt s.raw.toNat), s.hub.stages n c)] ∧
      t.hub.dome = s.hub.dome ∧ (∀ g, g ≠ chNo n c → t.hub.chan g = s.hub.chan g) ∧
      regsKept (fun a => a == Addr.FE_BREAK_NOW n || a == Addr.LED_EVT_DROP_CNT) s t := by
  obtain ⟨body, row⟩ := breakClear_eq (r := s.raw.toNat) mem
  have dome : (breakClear s.raw.toNat n c m s.hub).dome = s.hub.dome := breakClear_dome ..
  rw [row] at dome
  generalize s.hub.timeAt s.raw.toNat = t at row dome ⊢
  have chan : (clearedHub n c t m s.hub).chan (chNo n c) = { s.hub.chan (chNo n c) with
      brks := (s.hub.chan (chNo n c)).brks.filter fun b => decide (b.1 ≠ m)
      repairs := (s.hub.chan (chNo n c)).repairs ++ [(s.hub.idxAfter n c t, s.hub.stages n c)] } := by
    rw [clearedHub, Hub.chan_setBit, Hub.chan_modChan_same]
  have cnt : Addr.FE_BREAK_NOW n ≠ Addr.LED_EVT_DROP_CNT := by simp only [Addr.FE_BREAK_NOW, Addr.LED_EVT_DROP_CNT]; omega
  have settings : SameSettings ((clearedHub n c t m s.hub).noteChan s.hub n c (t + 1))
      (((clearedHub n c t m s.hub).noteChan s.hub n c (t + 1)).eventRecord 2 t body) := by
    refine ⟨by rw [Hub.eventRecord_frame], fun a _ hi => (Hub.eventRecord_same ..).1 a ?_⟩
    simp only [Addr.LED_EVT_DROP_CNT]
    omega
  refine ⟨_, s.onHub_eq (fun r h => breakClear r n c m h) p row, ⟨?_, ?_, fun x settled => ?_⟩, ?_, dome, fun g ne => ?_,
    fun a ha => ?_⟩
  · rw [Hub.chan_eventRecord, Hub.chan_noteChan_same, chan]
  · rw [Hub.bit, (Hub.eventRecord_same ..).1 _ cnt, Hub.rd_noteChan]
    exact Hub.bit_setBit_same _ _ _ _ c.isLt
  · rw [settings.chanAt n c (Hub.chan_eventRecord ..), chanSettled.chanAt settled (by rw [chan]), Hub.chanMarks, chan]
  · rw [Hub.chan_eventRecord, Hub.chan_noteChan_same, chan]
  · rw [Hub.chan_eventRecord, Hub.chan_noteChan_other _ _ _ _ _ _ ne, clearedHub, Hub.chan_setBit, Hub.chan_modChan, if_neg ne]
  · obtain ⟨now, drop⟩ : a ≠ Addr.FE_BREAK_NOW n ∧ a ≠ Addr.LED_EVT_DROP_CNT := by simpa using ha
    rw [(Hub.eventRecord_same ..).1 a drop, Hub.rd_noteChan, clearedHub, Hub.rd_setBit_other _ _ _ _ _ now, Hub.rd_modChan]

/-- Settles O20: each method's reading ends in one declaration of a break, which the channel and both bits show, and clearing it
takes that method's break off the channel. -/
theorem wireBreaks : Obligations.WireBreaks := by
  unfold Obligations.WireBreaks
  refine ⟨fun _ _ _ _ _ _ _ _ _ p enabled active mode queue who node codes older fresh moved =>
      execProbeBallRead_spec p enabled active mode queue who node codes older fresh moved.1 moved.2,
    fun _ _ _ _ _ _ _ _ _ _ _ p active queue who codes older divides nonneg small =>
      execChargeTestComplete_spec p active queue who codes older divides nonneg small,
    fun s n force f v rest p readings two frames => execExcSenseBreak_spec p readings two fun g mem => ?_,
    fun _ _ _ _ _ p mem => execBreakClear_spec p mem⟩
  obtain ⟨blank, quiet, on, x, y, sense, opposite, seen⟩ := frames g mem
  refine ⟨_, senseCheck_eq blank quiet on sense opposite, ?_⟩
  cases force with
  | true => exact Prod.ext seen.1 seen.2
  | false => exact seen

end Sys2Proof.Machine

/-!
SUPPORT. Fields and bits of registers: what a field reads after a write of a field, of a bit or of a counter, of the same register
or of another one, and hubs that differ in registers only.
-/

namespace Sys2Proof.Machine

open Sys2Proof.Safety

/-! ### Fields and bits -/

section
variable (h : Hub) (a lo w v k : Nat)

theorem Hub.fld_setFld_same (fits : lo + w ≤ 32) : (h.setFld a lo w v).fld a lo w = v % 2 ^ w := by
  rw [Hub.fld, Hub.rd_setFld, if_pos rfl]
  exact bitsOf_putBits_same _ _ _ _ fits

theorem Hub.fld_incSat_same (fits : lo + w ≤ 32) :
    (h.incSat a lo w k).fld a lo w = min (h.fld a lo w + k) (2 ^ w - 1) := by
  rw [Hub.incSat, Hub.fld_setFld_same _ _ _ _ _ fits]
  have := Nat.two_pow_pos w
  exact Nat.mod_eq_of_lt (by omega)

variable (b lo' w' i : Nat)

/-- A field of another register, or apart from the field written, reads as before. -/
theorem Hub.fld_setFld_apart (apart : b ≠ a ∨ lo' + w' ≤ lo ∨ lo + w ≤ lo') (fits : lo' + w' ≤ 32) :
    (h.setFld a lo w v).fld b lo' w' = h.fld b lo' w' := by
  rw [Hub.fld, Hub.rd_setFld, Hub.fld]
  by_cases e : b = a
  · rw [if_pos e, e, bitsOf_putBits_apart _ _ _ _ _ _ (apart.resolve_left (not_not.mpr e)) fits]
  · rw [if_neg e]

theorem Hub.fld_setBit_apart (x : Bool) (apart : b ≠ a ∨ lo' + w' ≤ i ∨ i < lo') (fits : lo' + w' ≤ 32) :
    (h.setBit a i x).fld b lo' w' = h.fld b lo' w' := by
  rw [Hub.fld, Hub.rd_setBit, Hub.fld]
  by_cases e : b = a
  · rw [if_pos e, e, bitsOf_putBit_apart _ _ _ _ _ (apart.resolve_left (not_not.mpr e)) fits]
  · rw [if_neg e]

theorem Hub.bit_setFld_apart (apart : b ≠ a ∨ i < lo ∨ lo + w ≤ i) (fits : i < 32) :
    (h.setFld a lo w v).bit b i = h.bit b i := by
  rw [Hub.bit, Hub.rd_setFld, Hub.bit]
  by_cases e : b = a
  · rw [if_pos e, e, getLsbD_putBits_apart _ _ _ _ _ (apart.resolve_left (not_not.mpr e)) fits]
  · rw [if_neg e]

end

/-- What two hubs read of one register, they read of its fields and bits. -/
theorem Hub.fld_congr {h h' : Hub} {a : Nat} (e : h'.rd a = h.rd a) (lo w : Nat) : h'.fld a lo w = h.fld a lo w := by
  rw [Hub.fld, e, Hub.fld]

theorem Hub.bit_congr {h h' : Hub} {a : Nat} (e : h'.rd a = h.rd a) (i : Nat) : h'.bit a i = h.bit a i := by
  rw [Hub.bit, e, Hub.bit]

/-- Corrected time is made of registers of the Lantern. -/
theorem Hub.timeAt_congr {h h' : Hub} (regs : ∀ a, 0x46000000 ≤ a → a < 0x46000100 → h'.rd a = h.rd a) (r : Nat) :
    h'.timeAt r = h.timeAt r := by
  simp only [Hub.timeAt, Hub.clock, Hub.instAt, Hub.anchor, Hub.rate, Hub.fld]
  rw [regs Addr.OFFSET0 (by decide) (by decide), regs (Addr.OFFSET0 + 4) (by decide) (by decide),
    regs (Addr.OFFSET0 + 8) (by decide) (by decide), regs Addr.ANCHOR0 (by decide) (by decide),
    regs Addr.ANCHOR1 (by decide) (by decide), regs Addr.ANCHOR2 (by decide) (by decide),
    regs Addr.RATE_LO (by decide) (by decide), regs Addr.RATE_HI (by decide) (by decide)]

/-! ### Hubs that differ in registers -/

/-- Two hubs that differ at most in registers that `p` accepts. -/
def sameButRegs (p : Nat → Bool) (h h' : Hub) : Prop :=
  h' = { h with regs := h'.regs } ∧ ∀ a, p a = false → h'.rd a = h.rd a

section
variable {p : Nat → Bool} {h h' h'' : Hub}

theorem sameButRegs.refl (h : Hub) : sameButRegs p h h := ⟨rfl, fun _ _ => rfl⟩

theorem sameButRegs.trans (q : sameButRegs p h h') (q' : sameButRegs p h' h'') : sameButRegs p h h'' := by
  obtain ⟨form, regs⟩ := q
  obtain ⟨form', regs'⟩ := q'
  refine ⟨?_, fun a ha => (regs' a ha).trans (regs a ha)⟩
  rw [form', form]

section
variable (h : Hub) (a lo w k i : Nat) (pa : p a = true)
include pa

theorem sameButRegs.wr (v : Word) : sameButRegs p h (h.wr a v) :=
  ⟨rfl, fun x hx => Hub.rd_wr_other _ _ _ _ fun e => by simp [e, pa] at hx⟩

theorem sameButRegs.setFld : sameButRegs p h (h.setFld a lo w k) := .wr h a pa _

theorem sameButRegs.setBit (b : Bool) : sameButRegs p h (h.setBit a i b) := .wr h a pa _

theorem sameButRegs.incSat : sameButRegs p h (h.incSat a lo w k) := .setFld h a lo w _ pa

end

theorem sameButRegs.spire (q : sameButRegs p h h') (k : Nat) : h'.spire k = h.spire k := by rw [q.1]; rfl

theorem sameButRegs.dome (q : sameButRegs p h h') : h'.dome = h.dome := by rw [q.1]

theorem sameButRegs.onlyRegs {s : State} (q : sameButRegs p s.hub h') : onlyRegs p s { s with hub := h' } :=
  ⟨congrArg (fun h => { s with hub := h }) q.1, q.2⟩

/-- A performed write of master `m` that touches registers only. -/
theorem sameButRegs.onlyStore {s : State} (q : sameButRegs p s.hub h') (m : Nat) :
    onlyStore m p s { s with hub := h'.setOk m true } := by
  refine ⟨?_, q.2⟩
  rw [q.1]
  rfl

theorem sameButSpire.of_regs (q : sameButRegs p h h') (n : Nat) : sameButSpire p n h h' := by
  obtain ⟨form, regs⟩ := q
  have spires : h'.spires = h.spires := by rw [form]
  refine ⟨?_, regs, fun k _ => by rw [Hub.spire, Hub.spire, spires]⟩
  rw [spires]
  exact form

end

section
variable (h : Hub) (m : Nat) (b : Bool)

@[simp] theorem Hub.fld_setOk (a lo w : Nat) : (h.setOk m b).fld a lo w = h.fld a lo w := rfl
@[simp] theorem Hub.bit_setOk (a i : Nat) : (h.setOk m b).bit a i = h.bit a i := rfl
@[simp] theorem Hub.fld_modSpire (n a lo w : Nat) (f : Spire → Spire) : (h.modSpire n f).fld a lo w = h.fld a lo w := rfl

end

end Sys2Proof.Machine

/-!
SUPPORT. Writes of the registers of the spires' sampling (R94, R105, R120): which function of the model a write of SCHED_CTRL, of
ROT_CFG and of INJ_REQ ends in.
-/

namespace Sys2Proof.Machine

open Sys2Proof.Safety

section
variable (n : SpireIx)

theorem refAt_schedCtrl : refAt (Addr.SCHED_CTRL n) (Addr.SCHED_CTRL 0) n := by
  unfold refAt
  revert n
  decide +kernel

theorem refAt_rotCfg : refAt (Addr.ROT_CFG n) (Addr.ROT_CFG 0) n := by
  unfold refAt
  revert n
  decide +kernel

theorem refAt_injReq : refAt (Addr.INJ_REQ n) (Addr.INJ_REQ 0) n := by
  unfold refAt
  revert n
  decide +kernel

theorem planRestricted_schedCtrl : planRestricted (Addr.SCHED_CTRL n) = false := by
  revert n
  decide +kernel

theorem planRestricted_injReq : planRestricted (Addr.INJ_REQ n) = false := by
  revert n
  decide +kernel

end

section
variable (h : Hub) (r m : Nat) (n : SpireIx) (v : Word)

theorem Hub.regStore_schedCtrl :
    h.regStore r m (Addr.SCHED_CTRL n) v = if v.getLsbD 0 then schedCommit n h else h := by
  obtain ⟨x, base, ix, e⟩ := Hub.regStore_spire (h := h) (r := r) (m := m) (v := v) (refAt_schedCtrl n)
    (by simp only [Addr.SCHED_CTRL]; omega) rfl
  rw [e, show reservedValue (Addr.SCHED_CTRL 0) n v = false from rfl]
  simp only [Hub.spireStore, base, ix]
  rfl

theorem Hub.regStore_injReq : h.regStore r m (Addr.INJ_REQ n) v = injReq (h.timeAt r) n m v h := by
  obtain ⟨x, base, ix, e⟩ := Hub.regStore_spire (h := h) (r := r) (m := m) (v := v) (refAt_injReq n)
    (by simp only [Addr.INJ_REQ]; omega) rfl
  rw [e, show reservedValue (Addr.INJ_REQ 0) n v = false from rfl]
  simp only [Hub.spireStore, base, ix]
  rfl

theorem Hub.regStore_rotCfg : h.regStore r m (Addr.ROT_CFG n) v = rotCfgStore r m n v h := by
  obtain ⟨x, base, ix, e⟩ := Hub.regStore_spire (h := h) (r := r) (m := m) (v := v) (refAt_rotCfg n)
    (by simp only [Addr.ROT_CFG]; omega) rfl
  have own : h.spireStore r m (Addr.ROT_CFG n) x v = rotCfgStore r m n v h := by
    simp only [Hub.spireStore, base, ix]
    rfl
  rw [e, own, show reservedValue (Addr.ROT_CFG 0) n v = (decide (bitsOf v 8 4 = 0) || decide (bitsOf v 16 8 = 0)) from rfl]
  by_cases bad : bitsOf v 8 4 = 0 ∨ bitsOf v 16 8 = 0 <;> simp [rotCfgStore, bad]

end

end Sys2Proof.Machine

/-!
SUPPORT. Commits of the slot table (R102, R103, R132): what a commit checks and keeps, and what the frame boundary puts in force.
-/

namespace Sys2Proof.Machine

open Sys2Proof.Safety

@[simp] theorem Hub.spire_setOk (h : Hub) (m : Nat) (b : Bool) (k : Nat) : (h.setOk m b).spire k = h.spire k := rfl

/-! ### The check of a slot table -/

section
variable {h : Hub} {n : Nat}

theorem schedCommit_busy (waits : h.bit (Addr.SPIRE_STATUS n) 1 = true) :
    schedCommit n h = h.setFld (Addr.SCHED_STATUS n) 0 8 EBUSY := by simp [schedCommit, waits]

theorem schedCommit_fault {e c why : Nat} (idle : h.bit (Addr.SPIRE_STATUS n) 1 = false)
    (fault : h.schedFault n = some (e, c, why)) :
    schedCommit n h = h.wr (Addr.SCHED_STATUS n) (wd (ESIZE + 256 * e + 65536 * c + 2 ^ 24 * why)) := by
  simp only [schedCommit, idle, fault, Bool.false_eq_true, if_false]

/-- The written slot table and delays that a commit keeps. -/
def schedSnapshot (h : Hub) (n : Nat) : SchedStaged :=
  { slots := (List.range 32).map fun i => h.rd (Addr.SLOT_TBL n i)
    apts := (List.range 32).map fun c => h.rd (Addr.APT_CFG n c) }

theorem schedCommit_ok (idle : h.bit (Addr.SPIRE_STATUS n) 1 = false) (sound : h.schedFault n = none) :
    schedCommit n h = ((h.wr (Addr.SCHED_STATUS n) 0x3F00#32).setBit (Addr.SPIRE_STATUS n) 1 true).modSpire n fun s =>
      { s with staged := some (schedSnapshot h n) } := by
  simp only [schedCommit, idle, sound, Bool.false_eq_true, if_false]
  rfl

end

section
variable {s : State} {m : MasterIx} {n : SpireIx} {v : Word} (p : s.hub.sys.powered = true)
  (ok : s.hub.accessOk m true (Addr.SCHED_CTRL n) 4 = true)
include p ok

theorem execSchedCommit_eq :
    exec (.schedCommit m n v) s = .next { s with hub := (schedCommit n s.hub).setOk m true } := by
  have ask : (putBit v 0 true).getLsbD 0 = true := getLsbD_putBit_same _ _ _ (by decide)
  have run := write_of_unrestricted (v := putBit v 0 true) p ok (by simp only [Addr.SCHED_CTRL]; omega)
    (planRestricted_schedCtrl n)
  rw [Hub.regStore_schedCtrl, if_pos ask] at run
  exact run

theorem execSchedCommit_sound (idle : s.hub.bit (Addr.SPIRE_STATUS n) 1 = false) (sound : s.hub.schedFault n = none) :
    ∃ t, exec (.schedCommit m n v) s = .next t ∧ t.hub.rd (Addr.SCHED_STATUS n) = 0x3F00#32 ∧
      t.hub.bit (Addr.SPIRE_STATUS n) 1 = true ∧ (t.hub.spire n).staged = some (schedSnapshot s.hub n) ∧
      t.hub.act = s.hub.act ∧ t.hub.dome = s.hub.dome ∧
      regsKept (fun a => a == Addr.SCHED_STATUS n || a == Addr.SPIRE_STATUS n) s t := by
  have apart : Addr.SCHED_STATUS n ≠ Addr.SPIRE_STATUS n := by simp only [Addr.SCHED_STATUS, Addr.SPIRE_STATUS]; omega
  refine ⟨_, execSchedCommit_eq p ok, ?_⟩
  rw [schedCommit_ok idle sound]
  refine ⟨?_, Hub.bit_setBit_same _ _ _ _ (by decide), by rw [Hub.spire_setOk, Hub.spire_modSpire_same], rfl, rfl, fun a ha => ?_⟩
  · rw [Hub.rd_setOk, Hub.rd_modSpire, Hub.rd_setBit_other _ _ _ _ _ apart, Hub.rd_wr_same]
  · obtain ⟨status, state⟩ : a ≠ Addr.SCHED_STATUS n ∧ a ≠ Addr.SPIRE_STATUS n := by simpa using ha
    rw [Hub.rd_setOk, Hub.rd_modSpire, Hub.rd_setBit_other _ _ _ _ _ state, Hub.rd_wr_other _ _ _ _ status]

theorem execSchedCommit_fault {e c why : Nat} (idle : s.hub.bit (Addr.SPIRE_STATUS n) 1 = false)
    (fault : s.hub.schedFault n = some (e, c, why)) :
    ∃ t, exec (.schedCommit m n v) s = .next t ∧
      t.hub.rd (Addr.SCHED_STATUS n) = BitVec.ofNat 32 (ESIZE + 256 * e + 65536 * c + 2 ^ 24 * why) ∧
      onlyStore m (fun a => a == Addr.SCHED_STATUS n) s t := by
  refine ⟨_, execSchedCommit_eq p ok, ?_⟩
  rw [schedCommit_fault idle fault]
  exact ⟨Hub.rd_wr_same .., onlyStore_wr ..⟩

theorem execSchedCommit_busy (waits : s.hub.bit (Addr.SPIRE_STATUS n) 1 = true) :
    ∃ t, exec (.schedCommit m n v) s = .next t ∧ t.hub.fld (Addr.SCHED_STATUS n) 0 8 = EBUSY ∧
      onlyStore m (fun a => a == Addr.SCHED_STATUS n) s t := by
  refine ⟨_, execSchedCommit_eq p ok, ?_⟩
  rw [schedCommit_busy waits]
  refine ⟨?_, onlyStore_wr ..⟩
  rw [Hub.fld, Hub.rd_setOk, Hub.setFld, Hub.rd_wr_same]
  exact bitsOf_putBits_same _ _ _ _ (by decide)

end

/-! ### A slot table that takes effect -/

/-- `h'` keeps what the spires hold: their registers, every active copy, and their state. -/
structure SpiresKept (h h' : Hub) : Prop extends SameSettings h h' where
  spires : h'.spires = h.spires

section
variable {h h' h'' : Hub}

theorem SpiresKept.refl (h : Hub) : SpiresKept h h := ⟨.refl h, rfl⟩

theorem SpiresKept.trans (q : SpiresKept h h') (q' : SpiresKept h' h'') : SpiresKept h h'' :=
  ⟨⟨q'.act.trans q.act, fun a lo hi => (q'.regs a lo hi).trans (q.regs a lo hi)⟩, q'.spires.trans q.spires⟩

theorem sameButLedger.spiresKept (q : sameButLedger h h') : SpiresKept h h' := by
  obtain ⟨regs, form⟩ := q
  refine ⟨⟨by rw [form], fun a lo hi => regs a ?_⟩, by rw [form]⟩
  have below : ¬ 0x45000000 ≤ a := by omega
  rw [inLedger, decide_eq_false below, Bool.false_and]

variable (h) (n c f : Nat) (old : FiltCfg)

/-- A stream that goes on with its index at the changed rate (R468) is a matter of its channel and of the Ledger. -/
theorem spiresKept_rateChange : SpiresKept h (h.rateChange n c f old) := by
  have goesOn : ∀ x : Chan, SpiresKept h (if (h.setChan (chNo n c) x).streamOn (chNo n c) then
      ((h.setChan (chNo n c) x).seal (f * frameU) (chNo n c)).modStream (chNo n c) fun s => { s with descDue := true }
      else h.setChan (chNo n c) x) := by
    intro x
    have shifted : SpiresKept h (h.setChan (chNo n c) x) := ⟨⟨rfl, fun _ _ _ => rfl⟩, rfl⟩
    split
    · exact shifted.trans ((Hub.seal_same ..).1.trans (.modStream ..)).spiresKept
    · exact shifted
  unfold Hub.rateChange
  dsimp only
  split
  · exact .refl h
  · exact goesOn _

/-- Whatever a change of a channel's filter brings about, the spires keep. -/
theorem spiresKept_filtChanged : SpiresKept h (h.filtChanged n c f old) := by
  have quiet : SpiresKept h ((h.clearPaths n c f).senQuiet n c) := by
    refine ⟨⟨rfl, fun a _ hi => ?_⟩, rfl⟩
    have ne : a ≠ Addr.SEN_NOISE n c := by simp only [Addr.SEN_NOISE]; omega
    exact (Hub.rd_setFld ..).trans (if_neg ne)
  have changed := quiet.trans (spiresKept_rateChange _ n c f old)
  unfold Hub.filtChanged Hub.describePlain
  dsimp only
  split
  · exact .refl h
  split
  · split
    · exact changed.trans (sameButLedger.modStream ..).spiresKept
    · exact changed
  · exact changed

end

/-- The kept entries and delays of the first `k` places put in force, the first thing that SCHED_COMMIT_APPLY does. -/
def tableInForce (n k : Nat) (st : SchedStaged) (h : Hub) : Hub :=
  forN k (fun i h => (h.setActive (Addr.SLOT_TBL n i) (st.slots.getD i 0#32)).setActive (Addr.APT_CFG n i)
    (st.apts.getD i 0#32)) h

section
variable (n : Nat) (st : SchedStaged) (h : Hub)

theorem active_tableInForce : ∀ k, k ≤ 32 →
    (∀ i, i < k → (tableInForce n k st h).active (Addr.SLOT_TBL n i) = st.slots.getD i 0#32 ∧
      (tableInForce n k st h).active (Addr.APT_CFG n i) = st.apts.getD i 0#32) ∧
    ∀ a, (∀ i, i < k → a ≠ Addr.SLOT_TBL n i ∧ a ≠ Addr.APT_CFG n i) → (tableInForce n k st h).active a = h.active a
  | 0, _ => ⟨nofun, fun _ _ => rfl⟩
  | k + 1, le => by
    obtain ⟨own, others⟩ := active_tableInForce k (by omega)
    have step : tableInForce n (k + 1) st h =
        ((tableInForce n k st h).setActive (Addr.SLOT_TBL n k) (st.slots.getD k 0#32)).setActive (Addr.APT_CFG n k)
          (st.apts.getD k 0#32) := forN_succ ..
    have read : ∀ a, (tableInForce n (k + 1) st h).active a = if a = Addr.APT_CFG n k then st.apts.getD k 0#32
        else if a = Addr.SLOT_TBL n k then st.slots.getD k 0#32 else (tableInForce n k st h).active a := fun a => by
      rw [step, Hub.active_setActive, Hub.active_setActive]
    have far : ∀ i j, i < 32 → j < 32 → Addr.SLOT_TBL n i ≠ Addr.APT_CFG n j := fun i j hi hj => by
      simp only [Addr.SLOT_TBL, Addr.APT_CFG]
      omega
    refine ⟨fun i hi => ?_, fun a ha => ?_⟩
    · rw [read, read, if_neg (far i k (by omega) (by omega)), if_neg (far k i (by omega) (by omega)).symm]
      by_cases e : i = k
      · rw [e, if_pos rfl, if_pos rfl]
        exact ⟨rfl, rfl⟩
      · have slot : Addr.SLOT_TBL n i ≠ Addr.SLOT_TBL n k := by simp only [Addr.SLOT_TBL]; omega
        have apt : Addr.APT_CFG n i ≠ Addr.APT_CFG n k := by simp only [Addr.APT_CFG]; omega
        rw [if_neg slot, if_neg apt]
        exact own i (by omega)
    · obtain ⟨slot, apt⟩ := ha k (Nat.lt_succ_self k)
      rw [read, if_neg apt, if_neg slot]
      exact others a fun i hi => ha i (by omega)

theorem regs_tableInForce (k : Nat) : (tableInForce n k st h).regs = h.regs :=
  forN_same Hub.regs k (fun i h => (h.setActive (Addr.SLOT_TBL n i) (st.slots.getD i 0#32)).setActive (Addr.APT_CFG n i)
    (st.apts.getD i 0#32)) (fun _ _ => rfl) h

end

/-- What SCHED_COMMIT_APPLY puts in force, and what it leaves. -/
theorem schedCommitApply_spec {n : SpireIx} {f : Nat} {h : Hub} {st : SchedStaged} (staged : (h.spire n).staged = some st) :
    ((schedCommitApply n f h).spire n).staged = none ∧
    (schedCommitApply n f h).act = (tableInForce n 32 st h).act ∧
    (schedCommitApply n f h).bit (Addr.SPIRE_STATUS n) 0 = true ∧
    (schedCommitApply n f h).bit (Addr.SPIRE_STATUS n) 1 = false ∧
    ∀ a, 0x41000000 ≤ a → a < 0x42000000 → a ≠ Addr.SPIRE_STATUS n → (schedCommitApply n f h).rd a = h.rd a := by
  have inForce := regs_tableInForce n st h 32
  generalize forced : tableInForce n 32 st h = g at inForce ⊢
  generalize shown : ((g.modSpire n fun s => { s with staged := none }).setBit (Addr.SPIRE_STATUS n) 1 false).setBit
    (Addr.SPIRE_STATUS n) 0 true = g'
  generalize ran : forIn' ((List.range 32).map fun c => (c, h.filtCfg n c)) (fun p h => h.filtChanged n p.1 f p.2) g' = t
  have row : schedCommitApply n f h = t := by
    rw [← ran, ← shown, ← forced]
    simp only [schedCommitApply, staged]
    rfl
  have kept : SpiresKept g' t := by
    rw [← ran]
    exact forIn'_keeps (SpiresKept g') _ (fun p a q => q.trans (spiresKept_filtChanged a n p.1 f p.2)) _ g' (.refl g')
  have above : 0x41000000 ≤ Addr.SPIRE_STATUS n := Nat.le_add_right ..
  have below : Addr.SPIRE_STATUS n < 0x42000000 := by simp only [Addr.SPIRE_STATUS]; omega
  have status : ∀ i, i < 32 → t.bit (Addr.SPIRE_STATUS n) i =
      if i = 0 then true else if i = 1 then false else
      (g.modSpire n fun s => { s with staged := none }).bit (Addr.SPIRE_STATUS n) i := fun i lt => by
    rw [Hub.bit, kept.regs _ above below, ← shown]
    refine (Hub.bit_setBit _ _ _ _ _ _ lt).trans ?_
    rw [Hub.bit_setBit _ _ _ _ _ _ lt]
    simp only [true_and]
  rw [row]
  refine ⟨?_, ?_, status 0 (by decide), status 1 (by decide), fun a lo hi ne => ?_⟩
  · rw [Hub.spire, kept.spires, ← shown]
    change (((g.modSpire n fun s => { s with staged := none }).spire n)).staged = none
    rw [Hub.spire_modSpire_same]
  · rw [kept.act, ← shown]
    rfl
  · rw [kept.regs a lo hi, ← shown, Hub.rd_setBit_other _ _ _ _ _ ne, Hub.rd_setBit_other _ _ _ _ _ ne, Hub.rd_modSpire, Hub.rd,
      inForce, Hub.rd]

theorem execSchedCommitApply_spec {s : State} {n : SpireIx} {st : SchedStaged} (p : s.hub.sys.powered = true)
    (staged : (s.hub.spire n).staged = some st) :
    ∃ t, exec (.schedCommitApply n) s = .next t ∧ (t.hub.spire n).staged = none ∧
      (∀ i, i < 32 → t.hub.active (Addr.SLOT_TBL n i) = st.slots.getD i 0#32 ∧
        t.hub.active (Addr.APT_CFG n i) = st.apts.getD i 0#32 ∧
        t.hub.rd (Addr.SLOT_TBL n i) = s.hub.rd (Addr.SLOT_TBL n i) ∧
        t.hub.rd (Addr.APT_CFG n i) = s.hub.rd (Addr.APT_CFG n i)) ∧
      t.hub.bit (Addr.SPIRE_STATUS n) 0 = true ∧ t.hub.bit (Addr.SPIRE_STATUS n) 1 = false ∧
      (∀ k i, k ≠ n.val → i < 32 → t.hub.active (Addr.SLOT_TBL k i) = s.hub.active (Addr.SLOT_TBL k i)) := by
  obtain ⟨gone, act, valid, idle, regs⟩ := schedCommitApply_spec (f := frameOf (s.hub.timeAt s.raw.toNat)) staged
  obtain ⟨own, others⟩ := active_tableInForce n st s.hub 32 (Nat.le_refl 32)
  have active : ∀ a, (schedCommitApply n (frameOf (s.hub.timeAt s.raw.toNat)) s.hub).active a =
      (tableInForce n 32 st s.hub).active a := fun a => by rw [Hub.active, act, Hub.active]
  refine ⟨_, s.onHub_eq (fun r h => schedCommitApply n (frameOf (h.timeAt r)) h) p rfl, gone, fun i hi => ?_, valid, idle,
    fun k i ne hi => ?_⟩
  · obtain ⟨slot, apt⟩ := own i hi
    refine ⟨(active _).trans slot, (active _).trans apt, regs _ ?_ ?_ ?_, regs _ ?_ ?_ ?_⟩
    all_goals
      simp only [Addr.SLOT_TBL, Addr.APT_CFG, Addr.SPIRE_STATUS]
      omega
  · refine (active _).trans (others _ fun j hj => ?_)
    simp only [Addr.SLOT_TBL, Addr.APT_CFG]
    omega

/-- Settles O23: a commit is checked when it is written and keeps a copy of the table, and the frame boundary puts
the copy in force. -/
theorem slotTableCommit : Obligations.SlotTableCommit := by
  unfold Obligations.SlotTableCommit
  exact ⟨fun _ _ _ _ p ok idle sound => execSchedCommit_sound p ok idle sound,
    fun _ _ _ _ _ _ _ p ok idle fault => execSchedCommit_fault p ok idle fault,
    fun _ _ _ _ p ok waits => execSchedCommit_busy p ok waits,
    fun _ _ _ p staged => execSchedCommitApply_spec p staged⟩

end Sys2Proof.Machine

/-!
SUPPORT. Injected conversions (R108 to R113): what a master's request of a spot conversion ends in, the hub's own requests, and
the completion that posts a result.
-/

namespace Sys2Proof.Machine

open Sys2Proof.Safety

/-! ### The registers of the injection queue -/

/-- The registers that a spot conversion is shown in lie apart. -/
theorem inj_apart (n : SpireIx) (m : MasterIx) : Addr.INJ_RES n m ≠ Addr.INJ_QUEUE n ∧ Addr.INJ_RES n m ≠ Addr.INJ_BUSY_CNT n ∧
    Addr.INJ_TIME n m ≠ Addr.INJ_QUEUE n ∧ Addr.INJ_RES n m ≠ Addr.INJ_TIME n m := by
  simp only [Addr.INJ_RES, Addr.INJ_QUEUE, Addr.INJ_BUSY_CNT, Addr.INJ_TIME]
  omega

/-- INJ_QUEUE shows how many entries the queue holds. -/
theorem Hub.fld_syncInj_count (h : Hub) (n : Nat) : (h.syncInj n).fld (Addr.INJ_QUEUE n) 0 3 = (h.spire n).injQ.length % 8 := by
  rw [Hub.syncInj, Hub.fld_setFld_apart _ _ _ _ _ _ _ _ (.inr (.inl (by decide))) (by decide)]
  exact Hub.fld_setFld_same _ _ _ _ _ (by decide)

/-! ### A master's request -/

section
variable {h : Hub} {t n m : Nat} {v : Word}

theorem injReq_reserved (bad : 0x4A ≤ bitsOf v 0 7) :
    injReq t n m v h = (h.setFld (Addr.INJ_RES n m) 16 8 ERANGE).setBit (Addr.INJ_RES n m) 24 true := by
  simp only [injReq, bad, if_true]

theorem injReq_pending (good : bitsOf v 0 7 < 0x4A) (pends : h.bit (Addr.INJ_RES n m) 25 = true) :
    injReq t n m v h = h.incSat (Addr.INJ_BUSY_CNT n) 0 16 1 := by
  simp only [injReq, Nat.not_le.mpr good, if_false, pends, if_true]

theorem injReq_busy (good : bitsOf v 0 7 < 0x4A) (done : h.bit (Addr.INJ_RES n m) 25 = false)
    (full : h.bit (Addr.INJ_QUEUE n) 5 = true ∨ 4 ≤ (h.spire n).injQ.length ∨ 2 ≤ h.injExt n) :
    injReq t n m v h = ((h.setFld (Addr.INJ_RES n m) 16 8 EBUSY).setBit (Addr.INJ_RES n m) 24 true).incSat
      (Addr.INJ_BUSY_CNT n) 0 16 1 := by
  have closed : (h.bit (Addr.INJ_QUEUE n) 5 || decide (4 ≤ (h.spire n).injQ.length) || decide (2 ≤ h.injExt n)) = true := by
    simpa [or_assoc] using full
  simp only [injReq, Nat.not_le.mpr good, if_false, done, Bool.false_eq_true, closed, if_true]

theorem injReq_entered (good : bitsOf v 0 7 < 0x4A) (done : h.bit (Addr.INJ_RES n m) 25 = false)
    (isOpen : h.bit (Addr.INJ_QUEUE n) 5 = false) (room : (h.spire n).injQ.length < 4)
    (few : h.injExt n < 2) :
    injReq t n m v h =
      (((h.setBit (Addr.INJ_RES n m) 25 true).setBit (Addr.INJ_RES n m) 24 false).modSpire n fun s =>
        { s with injQ := s.injQ ++ [{ who := .ext m, node := bitsOf v 0 7, hold := frameAfter t }] }).syncInj n := by
  have takes : (h.bit (Addr.INJ_QUEUE n) 5 || decide (4 ≤ (h.spire n).injQ.length) || decide (2 ≤ h.injExt n)) = false := by
    simp [isOpen, room, few]
  simp only [injReq, Nat.not_le.mpr good, if_false, done, Bool.false_eq_true, takes]
  rfl

end

section
variable (h : Hub) (n : SpireIx) (m : MasterIx)

/-- A request that ends at once shows its status and DONE. -/
def injEnded (st : Nat) : Hub := (h.setFld (Addr.INJ_RES n m) 16 8 st).setBit (Addr.INJ_RES n m) 24 true

theorem injEnded_shows (st : Nat) (small : st < 256) :
    (injEnded h n m st).fld (Addr.INJ_RES n m) 16 8 = st ∧ (injEnded h n m st).bit (Addr.INJ_RES n m) 24 = true := by
  refine ⟨?_, Hub.bit_setBit_same _ _ _ _ (by decide)⟩
  rw [injEnded, Hub.fld_setBit_apart _ _ _ _ _ _ _ (.inr (.inl (by decide))) (by decide),
    Hub.fld_setFld_same _ _ _ _ _ (by decide)]
  exact Nat.mod_eq_of_lt small

theorem sameButRegs_injEnded (st : Nat) {p : Nat → Bool} (pa : p (Addr.INJ_RES n m) = true) :
    sameButRegs p h (injEnded h n m st) := (sameButRegs.setFld _ _ _ _ _ pa).trans (.setBit _ _ _ pa _)

end

section
variable {s : State} {m : MasterIx} {n : SpireIx} {v : Word} (p : s.hub.sys.powered = true)
  (ok : s.hub.accessOk m true (Addr.INJ_REQ n) 4 = true)
include p ok

theorem execInjReq_spec :
    ∃ t, exec (.injReq m n v) s = .next t ∧ t.hub.dome = s.hub.dome ∧
      (0x4A ≤ bitsOf v 0 7 → t.hub.fld (Addr.INJ_RES n m) 16 8 = ERANGE ∧ t.hub.bit (Addr.INJ_RES n m) 24 = true ∧
        onlyStore m (fun a => a == Addr.INJ_RES n m) s t) ∧
      (bitsOf v 0 7 < 0x4A → s.hub.bit (Addr.INJ_RES n m) 25 = true →
        t.hub.fld (Addr.INJ_BUSY_CNT n) 0 16 = min (s.hub.fld (Addr.INJ_BUSY_CNT n) 0 16 + 1) 65535 ∧
        onlyStore m (fun a => a == Addr.INJ_BUSY_CNT n) s t) ∧
      (bitsOf v 0 7 < 0x4A → s.hub.bit (Addr.INJ_RES n m) 25 = false →
        (s.hub.bit (Addr.INJ_QUEUE n) 5 = true ∨ 4 ≤ (s.hub.spire n).injQ.length ∨ 2 ≤ s.hub.fld (Addr.INJ_QUEUE n) 3 2) →
        t.hub.fld (Addr.INJ_RES n m) 16 8 = EBUSY ∧ t.hub.bit (Addr.INJ_RES n m) 24 = true ∧
        t.hub.fld (Addr.INJ_BUSY_CNT n) 0 16 = min (s.hub.fld (Addr.INJ_BUSY_CNT n) 0 16 + 1) 65535 ∧
        onlyStore m (fun a => a == Addr.INJ_RES n m || a == Addr.INJ_BUSY_CNT n) s t) ∧
      (bitsOf v 0 7 < 0x4A → s.hub.bit (Addr.INJ_RES n m) 25 = false → s.hub.bit (Addr.INJ_QUEUE n) 5 = false →
        (s.hub.spire n).injQ.length < 4 → s.hub.fld (Addr.INJ_QUEUE n) 3 2 < 2 →
        t.hub.bit (Addr.INJ_RES n m) 25 = true ∧ t.hub.bit (Addr.INJ_RES n m) 24 = false ∧
        (t.hub.spire n).injQ = (s.hub.spire n).injQ ++
          [{ who := .ext m, node := bitsOf v 0 7, hold := frameAfter (s.hub.timeAt s.raw.toNat) }] ∧
        regsKept (fun a => a == Addr.INJ_RES n m || a == Addr.INJ_QUEUE n) s t) := by
  obtain ⟨queue, busy, -, -⟩ := inj_apart n m
  have run := write_of_unrestricted (v := v) p ok (by simp only [Addr.INJ_REQ]; omega) (planRestricted_injReq n)
  rw [Hub.regStore_injReq] at run
  refine ⟨_, run, ?dome, fun bad => ?reserved, fun good pends => ?pending, fun good done full => ?full,
    fun good done isOpen room few => ?entered⟩
  case dome => rw [Hub.setOk_dome, injReq_dome]
  case reserved =>
    rw [injReq_reserved bad]
    obtain ⟨status, done⟩ := injEnded_shows s.hub n m ERANGE (by decide)
    exact ⟨status, done, (sameButRegs_injEnded s.hub n m ERANGE (by simp)).onlyStore m⟩
  case pending =>
    rw [injReq_pending good pends]
    exact ⟨Hub.fld_incSat_same _ _ _ _ _ (by decide), (sameButRegs.incSat _ _ _ _ _ (by simp)).onlyStore m⟩
  case full =>
    rw [injReq_busy good done full]
    obtain ⟨status, ended⟩ := injEnded_shows s.hub n m EBUSY (by decide)
    have kept : ∀ k, ((injEnded s.hub n m EBUSY).incSat (Addr.INJ_BUSY_CNT n) 0 16 k).rd (Addr.INJ_RES n m) =
        (injEnded s.hub n m EBUSY).rd (Addr.INJ_RES n m) := fun k => Hub.rd_incSat_other _ _ _ _ _ _ busy
    refine ⟨(Hub.fld_congr (kept 1) 16 8).trans status, (Hub.bit_congr (kept 1) 24).trans ended, ?_,
      ((sameButRegs_injEnded s.hub n m EBUSY (by simp)).trans (.incSat _ _ _ _ _ (by simp))).onlyStore m⟩
    refine (Hub.fld_incSat_same (injEnded s.hub n m EBUSY) _ _ _ _ (by decide)).trans ?_
    rw [Hub.fld_congr ((sameButRegs_injEnded (p := fun a => a == Addr.INJ_RES n m) s.hub n m EBUSY (by simp)).2 _
      (by simpa using busy.symm))]
    rfl
  case entered =>
    rw [injReq_entered good done isOpen room few]
    have res : ∀ g : Hub, ((g.setBit (Addr.INJ_RES n m) 25 true).setBit (Addr.INJ_RES n m) 24 false).bit
        (Addr.INJ_RES n m) 25 = true := fun g => by
      rw [Hub.bit_setBit _ _ _ _ _ _ (by decide), if_neg (by simp)]
      exact Hub.bit_setBit_same _ _ _ _ (by decide)
    refine ⟨?_, ?_, ?_, fun a ha => ?_⟩
    · rw [Hub.bit_setOk, Hub.bit_congr (Hub.rd_syncInj_other _ _ _ queue), Hub.bit_modSpire]
      exact res _
    · rw [Hub.bit_setOk, Hub.bit_congr (Hub.rd_syncInj_other _ _ _ queue), Hub.bit_modSpire]
      exact Hub.bit_setBit_same _ _ _ _ (by decide)
    · rw [Hub.spire_setOk, Hub.spire_syncInj, Hub.spire_modSpire_same]
      rfl
    · obtain ⟨own, shown⟩ : a ≠ Addr.INJ_RES n m ∧ a ≠ Addr.INJ_QUEUE n := by simpa using ha
      rw [Hub.rd_setOk, Hub.rd_syncInj_other _ _ _ shown, Hub.rd_modSpire, Hub.rd_setBit_other _ _ _ _ _ own,
        Hub.rd_setBit_other _ _ _ _ _ own]

end

/-! ### The hub's own requests -/

/-- A request that finds the queue closed for a trim, or full, waits. -/
theorem internalInj_waits {h : Hub} {t n node : Nat} {who : InjWho} (active : h.standby = false)
    (closed : h.fld (Addr.INJ_QUEUE n) 6 2 = 2 ∨ 4 ≤ (h.spire n).injQ.length) :
    internalInj t n who node h = h.modSpire n fun x => { x with injWait := x.injWait ++ [{ who := who, node := node }] } := by
  have idle : h.injIdle who = false := by simp [Hub.injIdle, active]
  have full : (decide (h.fld (Addr.INJ_QUEUE n) 6 2 = 2) || decide (4 ≤ (h.spire n).injQ.length)) = true := by
    simpa using closed
  simp only [internalInj, idle, full, Bool.false_eq_true, if_false, if_true]
  rfl

theorem execInternalInjRequest_spec {s : State} {n : SpireIx} {who : InjWho} {node : Nat} (p : s.hub.sys.powered = true)
    (active : s.hub.standby = false) :
    ∃ t, exec (.internalInjRequest n who node) s = .next t ∧ onlyRegsSpire (fun a => a == Addr.INJ_QUEUE n) n s t ∧
      (if s.hub.fld (Addr.INJ_QUEUE n) 6 2 = 2 ∨ 4 ≤ (s.hub.spire n).injQ.length then
        t.hub.spire n = { s.hub.spire n with injWait := (s.hub.spire n).injWait ++ [{ who := who, node := node }] }
      else t.hub.spire n = { s.hub.spire n with injQ := (s.hub.spire n).injQ ++
          [{ who := who, node := node, hold := frameAfter (s.hub.timeAt s.raw.toNat) }] } ∧
        t.hub.fld (Addr.INJ_QUEUE n) 0 3 = (s.hub.spire n).injQ.length + 1) := by
  refine ⟨_, s.onHub_eq (fun r h => internalInj (h.timeAt r) n who node h) p rfl,
    (internalInj_frame s.hub (s.hub.timeAt s.raw.toNat) n who node).onlyRegsSpire, ?_⟩
  split
  next closed =>
    rw [internalInj_waits active closed]
    exact Hub.spire_modSpire_same ..
  next room =>
    obtain ⟨isOpen, few⟩ := not_or.mp room
    have few' : (s.hub.spire n).injQ.length < 4 := Nat.lt_of_not_le few
    rw [internalInj_room _ _ _ active isOpen few']
    refine ⟨(Hub.spire_syncInj ..).trans (Hub.spire_modSpire_same ..), ?_⟩
    rw [Hub.fld_syncInj_count, Hub.spire_modSpire_same, List.length_append, List.length_singleton]
    omega

/-- A hub that stands by makes no requests of its own. -/
theorem execInternalInjRequest_standby {s : State} {n : SpireIx} {who : InjWho} {node : Nat} (standby : s.hub.standby = true)
    (own : ∀ m, who ≠ .ext m) : exec (.internalInjRequest n who node) s = .next s := by
  have idle : s.hub.injIdle who = true := by
    cases who with
    | ext m => exact absurd rfl (own m)
    | probe | ctest => simp [Hub.injIdle, standby]
  refine State.onHub_same s (f := fun r h => internalInj (h.timeAt r) n who node h) ?_
  simp only [internalInj, idle, if_true]

/-! ### The completion -/

/-- An entry that leaves lets waiting requests move up; where none waits the queue is what is left of it. -/
theorem injQ_injLeave_none {h : Hub} {t n : Nat} {q : List InjEntry} (none : (h.spire n).injWait = []) :
    ((h.injLeave t n q).spire n).injQ = q := by
  have left : (((h.modSpire n fun s => { s with injQ := q }).syncInj n).spire n) = { h.spire n with injQ := q } :=
    (Hub.spire_syncInj ..).trans (Hub.spire_modSpire_same ..)
  rw [Hub.injLeave, Hub.injAdmit]
  dsimp only
  split
  · rw [left]
  · rw [Hub.spire_syncInj, Hub.spire_setSpire, if_pos rfl, left]
    simp [none]

/-- An entry that a master requested. -/
def InjEntry.external (e : InjEntry) : Bool := match e.who with | .ext _ => true | _ => false

theorem InjEntry.external_eq_true {e : InjEntry} : e.external = true ↔ ∃ m, e.who = .ext m := by
  unfold InjEntry.external
  cases e.who with
  | ext m => simp
  | probe | ctest => simp

/-- The word of a posted result: code, DONE, and OVR where the code is saturated. -/
def injResult (code : Int) : Word :=
  wd (unsigned 16 code + 2 ^ 24 + (if code = 32767 ∨ code = -32768 then 2 ^ 26 else 0))

theorem injResult_fields {code : Int} (lo : -32768 ≤ code) (hi : code ≤ 32767) :
    signed 16 (bitsOf (injResult code) 0 16) = code ∧ bitsOf (injResult code) 16 8 = OK ∧
    (injResult code).getLsbD 24 = true ∧ (injResult code).getLsbD 25 = false ∧
    ((injResult code).getLsbD 26 = true ↔ code = 32767 ∨ code = -32768) := by
  obtain ⟨u, hu⟩ : ∃ u, u = unsigned 16 code := ⟨_, rfl⟩
  have value : u = (code % 65536).toNat := hu
  have small : u < 65536 := by omega
  have word : (injResult code).toNat = u + 2 ^ 24 + (if code = 32767 ∨ code = -32768 then 2 ^ 26 else 0) := by
    rw [injResult, ← hu]
    refine toNat_wd_of_lt ?_
    split <;> omega
  have bit : ∀ i, (injResult code).getLsbD i = (injResult code).toNat.testBit i := fun i => rfl
  have signedBack : signed 16 u = code := by
    simp only [signed]
    split <;> omega
  simp only [bit, Nat.testBit_eq_decide_div_mod_eq, bitsOf, decide_eq_true_eq, decide_eq_false_iff_not, OK]
  generalize (injResult code).toNat = w at word
  have low : w / 2 ^ 0 % 2 ^ 16 = u := by
    split at word <;> omega
  refine ⟨by rw [low, signedBack], ?_, ?_, ?_, ?_⟩
  all_goals
    split at word <;> omega

/-- The oldest external entry that has converted is posted, and leaves. -/
theorem injComplete_eq {h : Hub} {t n m f : Nat} {e : InjEntry} {q : List InjEntry} {code : Int}
    (taken : injDone InjEntry.external (h.spire n).injQ = some (e, q)) (who : e.who = .ext m) (codes : e.codes = [(f, code)]) :
    injComplete t n h = ((h.wr (Addr.INJ_RES n m) (injResult code)).wr (Addr.INJ_TIME n m)
      (wd (e.heldAt / nsU % 1000000000))).injLeave t n q := by
  unfold injComplete
  generalize done : injDone _ (h.spire n).injQ = x
  obtain rfl : x = some (e, q) := done.symm.trans taken
  simp only [who, codes]
  rfl

theorem execInjComplete_spec {s : State} {n : SpireIx} {m : MasterIx} {e : InjEntry} {pre post : List InjEntry} {f : Nat}
    {code : Int} (p : s.hub.sys.powered = true) (queue : (s.hub.spire n).injQ = pre ++ e :: post) (who : e.who = .ext m)
    (codes : e.codes = [(f, code)]) (older : ∀ x ∈ pre, ∀ k, x.who = .ext k → x.codes = [])
    (none : (s.hub.spire n).injWait = []) (lo : -32768 ≤ code) (hi : code ≤ 32767) :
    ∃ t, exec (.injComplete n) s = .next t ∧ (t.hub.spire n).injQ = pre ++ post ∧
      signed 16 (t.hub.fld (Addr.INJ_RES n m) 0 16) = code ∧ t.hub.fld (Addr.INJ_RES n m) 16 8 = OK ∧
      t.hub.bit (Addr.INJ_RES n m) 24 = true ∧ t.hub.bit (Addr.INJ_RES n m) 25 = false ∧
      (t.hub.bit (Addr.INJ_RES n m) 26 = true ↔ code = 32767 ∨ code = -32768) ∧
      (t.hub.rd (Addr.INJ_TIME n m)).toNat = 80 * e.hold % 1000000000 ∧
      regsKept (fun a => a == Addr.INJ_RES n m || a == Addr.INJ_TIME n m || a == Addr.INJ_QUEUE n) s t := by
  have taken : injDone InjEntry.external (s.hub.spire n).injQ = some (e, pre ++ post) := by
    rw [queue]
    refine injDone_append (InjEntry.external_eq_true.mpr ⟨m, who⟩) (by simp [InjEntry.needs, who, codes]) fun x mem picks => ?_
    obtain ⟨k, external⟩ := InjEntry.external_eq_true.mp picks
    simp [InjEntry.needs, external, older x mem k external]
  generalize posted : (s.hub.wr (Addr.INJ_RES n m) (injResult code)).wr (Addr.INJ_TIME n m)
    (wd (e.heldAt / nsU % 1000000000)) = g
  have row : injComplete (s.hub.timeAt s.raw.toNat) n s.hub = g.injLeave (s.hub.timeAt s.raw.toNat) n (pre ++ post) :=
    (injComplete_eq taken who codes).trans (by rw [posted])
  obtain ⟨apartRes, -, apartTime, apart⟩ := inj_apart n m
  obtain ⟨-, -, others, -⟩ := injLeave_keeps g (s.hub.timeAt s.raw.toNat) n (pre ++ post)
  have res : (g.injLeave (s.hub.timeAt s.raw.toNat) n (pre ++ post)).rd (Addr.INJ_RES n m) = injResult code := by
    rw [others _ apartRes, ← posted, Hub.rd_wr_other _ _ _ _ apart, Hub.rd_wr_same]
  obtain ⟨value, status, done, pending, ovr⟩ := injResult_fields lo hi
  refine ⟨_, s.onHub_eq (fun r h => injComplete (h.timeAt r) n h) p row, injQ_injLeave_none ?_, ?_, ?_, ?_, ?_, ?_, ?_,
    fun a ha => ?_⟩
  · rw [← posted]
    exact none
  · rw [Hub.fld, res]
    exact value
  · rw [Hub.fld, res]
    exact status
  · rw [Hub.bit, res]
    exact done
  · rw [Hub.bit, res]
    exact pending
  · rw [Hub.bit, res]
    exact ovr
  · rw [others _ apartTime, ← posted, Hub.rd_wr_same, toNat_wd_of_lt (by omega), InjEntry.heldAt]
    simp only [frameU, nsU]
    omega
  · obtain ⟨⟨own, time⟩, shown⟩ : (a ≠ Addr.INJ_RES n m ∧ a ≠ Addr.INJ_TIME n m) ∧ a ≠ Addr.INJ_QUEUE n := by simpa using ha
    rw [others a shown, ← posted, Hub.rd_wr_other _ _ _ _ time, Hub.rd_wr_other _ _ _ _ own]

/-- Settles O25: a master's request is refused, counted or entered, the hub's own enter or wait, and a completion
posts its result. -/
theorem injectedConversions : Obligations.InjectedConversions := by
  unfold Obligations.InjectedConversions
  exact ⟨fun _ _ _ _ p ok => execInjReq_spec p ok, fun _ _ _ _ p active => execInternalInjRequest_spec p active,
    fun _ _ _ _ standby own => execInternalInjRequest_standby standby own,
    fun _ _ _ _ _ _ _ _ p queue who codes older none lo hi =>
      execInjComplete_spec p queue who codes older none lo hi⟩

end Sys2Proof.Machine

/-!
SUPPORT. The rotation of the spare slice (R114 to R118, R151 to R153): the fields of ROT_STATUS and SLICE_MAP, and what each step
of the rotation writes and leaves.
-/

namespace Sys2Proof.Machine

open Sys2Proof.Safety

/-! ### The state of the rotation -/

section
variable (h : Hub) (n : Nat)

theorem Hub.rotState_setRot (x : Nat) (small : x < 8) : (h.setRot n x).rotState n = x :=
  (Hub.fld_setFld_same _ _ _ _ _ (by decide)).trans (Nat.mod_eq_of_lt small)

/-- A field of another register, or apart from STATE, is kept by a change of state. -/
theorem Hub.fld_setRot_apart (x b lo w : Nat) (apart : b ≠ Addr.ROT_STATUS n ∨ lo + w ≤ 6 ∨ 9 ≤ lo) (fits : lo + w ≤ 32) :
    (h.setRot n x).fld b lo w = h.fld b lo w := Hub.fld_setFld_apart _ _ _ _ _ _ _ _ apart fits

theorem Hub.bit_setRot_apart (x b i : Nat) (apart : b ≠ Addr.ROT_STATUS n ∨ i < 6 ∨ 9 ≤ i) (fits : i < 32) :
    (h.setRot n x).bit b i = h.bit b i := Hub.bit_setFld_apart _ _ _ _ _ _ _ apart fits

theorem Hub.rd_setRot_other (x a : Nat) (ne : a ≠ Addr.ROT_STATUS n) : (h.setRot n x).rd a = h.rd a :=
  Hub.rd_wr_other _ _ _ _ ne

@[simp] theorem Hub.spire_setRot (x k : Nat) : (h.setRot n x).spire k = h.spire k := rfl

theorem Hub.rotState_congr {h h' : Hub} {n : Nat} (e : h'.rd (Addr.ROT_STATUS n) = h.rd (Addr.ROT_STATUS n)) :
    h'.rotState n = h.rotState n := Hub.fld_congr e 6 3

/-- A comparison window opens: SHADOW, and the window begins at the next frame with no pair in it. -/
theorem Hub.startCompare_spec (t : Nat) : (h.startCompare t n).rotState n = rotSHADOW ∧
    (h.startCompare t n).spire n =
      { h.spire n with cmpFrom := frameAfter t, cmpPairs := 0, cmpSum := 0, cmpPeak := 0 } ∧
    sameButSpire (fun a => a == Addr.ROT_STATUS n) n h (h.startCompare t n) :=
  ⟨h.rotState_setRot n rotSHADOW (by decide), Hub.spire_modSpire_same ..,
    (sameButSpire.of_regs (.setFld h (Addr.ROT_STATUS n) 6 3 rotSHADOW (by simp)) n).trans (.modSpire _ _ _)⟩

theorem Hub.fld_lt (a lo w : Nat) : h.fld a lo w < 2 ^ w := Nat.mod_lt _ (Nat.two_pow_pos w)

end

/-- The registers of a spire's rotation lie apart from each other and from the error log. -/
theorem rot_apart (n : SpireIx) : Addr.ROT_STATUS n ≠ Addr.ROT_CFG n ∧ Addr.ROT_STATUS n ≠ Addr.SLICE_MAP n ∧
    Addr.ROT_STATUS n ≠ Addr.SWAP_RESULT n ∧ Addr.ROT_STATUS n ≠ Addr.SWAP_ABORT_CNT n ∧ Addr.ROT_STATUS n ≠ Addr.SWAP_CNT n ∧
    Addr.ROT_STATUS n ≠ Addr.INJ_QUEUE n ∧ Addr.ROT_STATUS n ≠ Addr.SPIRE_STATUS n ∧ Addr.SPIRE_STATUS n ≠ Addr.INJ_QUEUE n ∧
    Addr.SLICE_MAP n ≠ Addr.SWAP_CNT n := by
  simp only [Addr.ROT_STATUS, Addr.ROT_CFG, Addr.SLICE_MAP, Addr.SWAP_RESULT, Addr.SWAP_ABORT_CNT, Addr.SWAP_CNT, Addr.INJ_QUEUE,
    Addr.SPIRE_STATUS]
  omega

/-- A register of a spire's block is none of the error log's. -/
theorem inLog_above {a : Nat} (lo : 0x41000000 ≤ a) : inLog a = false := by
  have above : ¬ a < 0x40003000 := by omega
  rw [inLog, decide_eq_false above, Bool.and_false]

theorem execSpareCalStart_spec {s : State} {n : SpireIx} (p : s.hub.sys.powered = true)
    (calibrated : s.hub.bit Addr.CALC_STATUS 0 = true) (cal : s.hub.rotState n = rotCAL)
    (usable : s.hub.bit (Addr.ROT_STATUS n) (9 + s.hub.spare n) = false) :
    ∃ t, exec (.spareCalStart n) s = .next t ∧ (t.hub.spire n).calRunning = true ∧ onlyRegsSpire (fun _ => false) n s t := by
  have row : spareCalStart n s.hub = s.hub.modSpire n fun s => { s with calRunning := true } := by
    simp [spareCalStart, calibrated, cal, usable]
  refine ⟨_, s.onHub_eq (fun _ h => spareCalStart n h) p row, ?_, (sameButSpire.modSpire ..).onlyRegsSpire⟩
  rw [Hub.spire_modSpire_same]

/-! ### The end of a calibration -/

/-- The first `k` coefficients of slice `sl` written, the first thing that a calibration that succeeds does. -/
def coefWritten (n sl k : Nat) (coef : List Word) (h : Hub) : Hub :=
  forN k (fun k h => h.wr (Addr.SLICE_COEF n sl k) (coef.getD k 0#32)) h

section
variable (n sl : Nat) (coef : List Word) (h : Hub)

theorem rd_coefWritten : ∀ k,
    (∀ i, i < k → (coefWritten n sl k coef h).rd (Addr.SLICE_COEF n sl i) = coef.getD i 0#32) ∧
    ∀ a, (∀ i, i < k → a ≠ Addr.SLICE_COEF n sl i) → (coefWritten n sl k coef h).rd a = h.rd a
  | 0 => ⟨nofun, fun _ _ => rfl⟩
  | k + 1 => by
    obtain ⟨own, others⟩ := rd_coefWritten k
    have step : coefWritten n sl (k + 1) coef h =
        (coefWritten n sl k coef h).wr (Addr.SLICE_COEF n sl k) (coef.getD k 0#32) := forN_succ ..
    refine ⟨fun i hi => ?_, fun a ha => ?_⟩
    · rw [step]
      by_cases e : i = k
      · rw [e, Hub.rd_wr_same]
      · have ne : Addr.SLICE_COEF n sl i ≠ Addr.SLICE_COEF n sl k := by simp only [Addr.SLICE_COEF]; omega
        rw [Hub.rd_wr_other _ _ _ _ ne, own i (by omega)]
    · rw [step, Hub.rd_wr_other _ _ _ _ (ha k (Nat.lt_succ_self k)), others a fun i hi => ha i (by omega)]

theorem spire_coefWritten (k j : Nat) : (coefWritten n sl k coef h).spire j = h.spire j :=
  forN_same (fun h : Hub => h.spire j) k (fun k h => h.wr (Addr.SLICE_COEF n sl k) (coef.getD k 0#32)) (fun _ _ => rfl) h

end

/-- The coefficients of all slices lie above the rotation's registers in a spire's block. -/
theorem sliceCoef_block {n sl k : Nat} (slice : sl < 8) (lt : k < 32) :
    0x41003400 + 0x10000 * n ≤ Addr.SLICE_COEF n sl k ∧ Addr.SLICE_COEF n sl k < 0x41003800 + 0x10000 * n := by
  simp only [Addr.SLICE_COEF]
  omega

section
variable {s : State} {n : SpireIx} (p : s.hub.sys.powered = true)
include p

theorem execSliceCalComplete_spec {ofs gain inl : Int} {coef : List Word} (cal : s.hub.rotState n = rotCAL)
    (runs : (s.hub.spire n).calRunning = true) (noTrim : s.hub.bit (Addr.SPIRE_STATUS n) 2 = false)
    (solved : solveOk ofs gain inl = true) :
    ∃ t, exec (.sliceCalComplete n ofs gain inl coef) s = .next t ∧
      (∀ k, k < 32 → t.hub.rd (Addr.SLICE_COEF n (s.hub.spare n) k) = coef.getD k 0#32) ∧
      t.hub.rotState n = (if s.hub.bit (Addr.ROT_CFG n) 0 then rotSHADOW else rotPARKED) ∧
      (t.hub.spire n).calRunning = false ∧
      (s.hub.bit (Addr.ROT_CFG n) 0 = true → (t.hub.spire n).cmpFrom = frameAfter (s.hub.timeAt s.raw.toNat) ∧
        (t.hub.spire n).cmpPairs = 0) ∧
      (∀ sl k, sl < 6 → sl ≠ s.hub.spare n → k < 32 →
        t.hub.rd (Addr.SLICE_COEF n sl k) = s.hub.rd (Addr.SLICE_COEF n sl k)) := by
  have slice : s.hub.spare n < 8 := Hub.fld_lt ..
  obtain ⟨own, others⟩ := rd_coefWritten n (s.hub.spare n) coef (s.hub.modSpire n fun s => { s with calRunning := false }) 32
  have spire := spire_coefWritten n (s.hub.spare n) coef (s.hub.modSpire n fun s => { s with calRunning := false }) 32 n
  rw [Hub.spire_modSpire_same] at spire
  generalize written : coefWritten n (s.hub.spare n) 32 coef (s.hub.modSpire n fun s => { s with calRunning := false }) = g
    at own others spire
  have outside : ∀ a, (a < 0x41003400 + 0x10000 * n.val ∨ 0x41003800 + 0x10000 * n.val ≤ a) → g.rd a = s.hub.rd a :=
    fun a far => others a fun i hi e => by
      obtain ⟨lo, hi⟩ := sliceCoef_block (n := n) slice hi
      omega
  have cfg : g.bit (Addr.ROT_CFG n) 0 = s.hub.bit (Addr.ROT_CFG n) 0 :=
    Hub.bit_congr (outside _ (.inl (by simp only [Addr.ROT_CFG]; omega))) 0
  have time : g.timeAt s.raw.toNat = s.hub.timeAt s.raw.toNat :=
    Hub.timeAt_congr (fun a lo _ => outside a (.inr (by omega))) _
  have row : sliceCalComplete s.raw.toNat n ofs gain inl coef s.hub =
      if s.hub.bit (Addr.ROT_CFG n) 0 then g.startCompare (s.hub.timeAt s.raw.toNat) n else g.setRot n rotPARKED := by
    have enters : (decide (s.hub.rotState n = rotCAL) && (s.hub.spire n).calRunning &&
        !s.hub.bit (Addr.SPIRE_STATUS n) 2) = true := by simp [cal, runs, noTrim]
    rw [← cfg, ← time, ← written]
    simp only [sliceCalComplete, enters, solved, if_true]
    rfl
  have coefKept : ∀ g' : Hub, (∀ a, a ≠ Addr.ROT_STATUS n → g'.rd a = g.rd a) →
      (∀ k, k < 32 → g'.rd (Addr.SLICE_COEF n (s.hub.spare n) k) = coef.getD k 0#32) ∧
      ∀ sl k, sl < 6 → sl ≠ s.hub.spare n → k < 32 →
        g'.rd (Addr.SLICE_COEF n sl k) = s.hub.rd (Addr.SLICE_COEF n sl k) := by
    have status : ∀ sl k, Addr.SLICE_COEF n sl k ≠ Addr.ROT_STATUS n := fun sl k => by
      simp only [Addr.SLICE_COEF, Addr.ROT_STATUS]
      omega
    refine fun g' same => ⟨fun k hk => (same _ (status _ k)).trans (own k hk), fun sl k six ne hk =>
      (same _ (status sl k)).trans (others _ fun i hi => ?_)⟩
    simp only [Addr.SLICE_COEF]
    omega
  refine ⟨_, s.onHub_eq (fun r h => sliceCalComplete r n ofs gain inl coef h) p row, ?_⟩
  cases enabled : s.hub.bit (Addr.ROT_CFG n) 0 with
  | true =>
    obtain ⟨shadow, window, -, regs, -⟩ := g.startCompare_spec n (s.hub.timeAt s.raw.toNat)
    obtain ⟨coefs, kept⟩ := coefKept (g.startCompare (s.hub.timeAt s.raw.toNat) n) fun a ne => regs a (by simpa using ne)
    simp only [if_true]
    refine ⟨coefs, shadow, ?_, fun _ => ?_, kept⟩ <;> rw [window, spire]
    exact ⟨rfl, rfl⟩
  | false =>
    obtain ⟨coefs, kept⟩ := coefKept (g.setRot n rotPARKED) fun a ne => Hub.rd_setRot_other _ _ _ _ ne
    simp only [Bool.false_eq_true, if_false]
    exact ⟨coefs, Hub.rotState_setRot _ _ _ (by decide), by rw [Hub.spire_setRot, spire], nofun, kept⟩

end

/-! ### ROT_CFG -/

/-- A field that a mask lets through. -/
theorem bitsOf_and_mask {v mask : Word} {lo w : Nat} (through : ∀ i, i < w → mask.getLsbD (lo + i) = true) :
    bitsOf (v &&& mask) lo w = bitsOf v lo w := by
  refine Nat.eq_of_testBit_eq fun i => ?_
  rw [testBit_bitsOf, testBit_bitsOf, BitVec.getLsbD_and]
  by_cases lt : i < w
  · rw [through i lt, Bool.and_true]
  · rw [decide_eq_false lt, Bool.false_and, Bool.false_and]

/-- What ROT_ENABLE stores: the word with ROT_EN, its reserved bits left out. -/
def rotStored (v : Word) : Word := putBit v 0 true &&& 0x00FF0F01#32

theorem rotStored_fields (v : Word) : (rotStored v).getLsbD 0 = true ∧ bitsOf (rotStored v) 8 4 = bitsOf v 8 4 ∧
    bitsOf (rotStored v) 16 8 = bitsOf v 16 8 := by
  refine ⟨?_, ?_, ?_⟩
  · rw [rotStored, BitVec.getLsbD_and, getLsbD_putBit_same _ _ _ (by decide)]
    rfl
  · rw [rotStored, bitsOf_and_mask (by decide), bitsOf_putBit_apart _ _ _ _ _ (.inr (by decide)) (by decide)]
  · rw [rotStored, bitsOf_and_mask (by decide), bitsOf_putBit_apart _ _ _ _ _ (.inr (by decide)) (by decide)]

/-- The word stored, and a window opened where the rotation is PARKED. -/
def rotEnabled (t n : Nat) (v : Word) (h : Hub) : Hub :=
  if h.rotState n = rotPARKED then (h.wr (Addr.ROT_CFG n) (rotStored v)).startCompare t n else h.wr (Addr.ROT_CFG n) (rotStored v)

section
variable {s : State} {m : MasterIx} {n : SpireIx} {v : Word} (p : s.hub.sys.powered = true)
  (ok : s.hub.accessOk m true (Addr.ROT_CFG n) 4 = true) (plan : planOpen s) (limit : bitsOf v 8 4 ≠ 0) (defer : bitsOf v 16 8 ≠ 0)
include p ok plan limit defer

theorem execRotEnable_eq : exec (.rotEnable m n v) s =
    .next { s with hub := (rotEnabled (s.hub.timeAt s.raw.toNat) n v s.hub).setOk m true } := by
  have above : 0x41000000 ≤ Addr.ROT_CFG n := by simp only [Addr.ROT_CFG]; omega
  have below : Addr.ROT_CFG n < 0x42000000 := by simp only [Addr.ROT_CFG]; omega
  have run := write_of_planOpen (v := putBit v 0 true) p ok above plan
  have sound : ¬ (bitsOf (putBit v 0 true) 8 4 = 0 ∨ bitsOf (putBit v 0 true) 16 8 = 0) := by
    rw [bitsOf_putBit_apart _ _ _ _ _ (.inr (by decide)) (by decide), bitsOf_putBit_apart _ _ _ _ _ (.inr (by decide)) (by decide)]
    exact not_or.mpr ⟨limit, defer⟩
  have state : (s.hub.wr (Addr.ROT_CFG n) (rotStored v)).rotState n = s.hub.rotState n :=
    Hub.rotState_congr (Hub.rd_wr_other _ _ _ _ (rot_apart n).1)
  have time : (s.hub.wr (Addr.ROT_CFG n) (rotStored v)).timeAt s.raw.toNat = s.hub.timeAt s.raw.toNat :=
    Hub.timeAt_congr (fun a lo _ => Hub.rd_wr_other _ _ _ _ (by omega)) _
  have enables : (putBit v 0 true).getLsbD 0 = true := getLsbD_putBit_same _ _ _ (by decide)
  have stored : rotCfgStore s.raw.toNat m n (putBit v 0 true) s.hub = rotEnabled (s.hub.timeAt s.raw.toNat) n v s.hub := by
    rw [rotEnabled, ← state, ← time]
    simp only [rotCfgStore, if_neg sound, enables, Bool.true_and, decide_eq_true_eq]
    rfl
  rw [Hub.regStore_rotCfg, stored] at run
  exact run

theorem execRotEnable_spec :
    ∃ t, exec (.rotEnable m n v) s = .next t ∧ t.hub.bit (Addr.ROT_CFG n) 0 = true ∧
      t.hub.fld (Addr.ROT_CFG n) 8 4 = bitsOf v 8 4 ∧ t.hub.fld (Addr.ROT_CFG n) 16 8 = bitsOf v 16 8 ∧
      t.hub.rotState n = (if s.hub.rotState n = rotPARKED then rotSHADOW else s.hub.rotState n) ∧
      (s.hub.rotState n = rotPARKED → (t.hub.spire n).cmpFrom = frameAfter (s.hub.timeAt s.raw.toNat) ∧
        (t.hub.spire n).cmpPairs = 0) ∧
      (s.hub.rotState n ≠ rotPARKED → onlyStore m (fun a => a == Addr.ROT_CFG n) s t) ∧
      (∀ k, k ≠ n.val → t.hub.spire k = s.hub.spire k) ∧ t.hub.dome = s.hub.dome ∧
      regsKept (fun a => a == Addr.ROT_CFG n || a == Addr.ROT_STATUS n) s t := by
  obtain ⟨bit, four, eight⟩ := rotStored_fields v
  obtain ⟨apart, -⟩ := rot_apart n
  have shown : ∀ g : Hub, g.rd (Addr.ROT_CFG n) = rotStored v → g.bit (Addr.ROT_CFG n) 0 = true ∧
      g.fld (Addr.ROT_CFG n) 8 4 = bitsOf v 8 4 ∧ g.fld (Addr.ROT_CFG n) 16 8 = bitsOf v 16 8 := by
    intro g e
    rw [Hub.bit, Hub.fld, Hub.fld, e]
    exact ⟨bit, four, eight⟩
  refine ⟨_, execRotEnable_eq p ok plan limit defer, ?_⟩
  by_cases parked : s.hub.rotState n = rotPARKED
  · simp only [rotEnabled, if_pos parked]
    obtain ⟨shadow, window, form, regs, spires⟩ :=
      (s.hub.wr (Addr.ROT_CFG n) (rotStored v)).startCompare_spec n (s.hub.timeAt s.raw.toNat)
    obtain ⟨en, lim, tol⟩ := shown _ ((regs _ (by simpa using apart.symm)).trans (Hub.rd_wr_same ..))
    refine ⟨en, lim, tol, shadow, fun _ => ?_, fun other => absurd parked other, spires, ?_, fun a ha => ?_⟩
    · rw [Hub.spire_setOk, window]
      exact ⟨rfl, rfl⟩
    · rw [Hub.setOk_dome, Hub.startCompare_dome]
      rfl
    · obtain ⟨own, state⟩ : a ≠ Addr.ROT_CFG n ∧ a ≠ Addr.ROT_STATUS n := by simpa using ha
      exact (regs a (by simpa using state)).trans (Hub.rd_wr_other _ _ _ _ own)
  · simp only [rotEnabled, if_neg parked]
    obtain ⟨en, lim, tol⟩ := shown (s.hub.wr (Addr.ROT_CFG n) (rotStored v)) (Hub.rd_wr_same ..)
    refine ⟨en, lim, tol, Hub.rotState_congr (Hub.rd_wr_other _ _ _ _ apart), fun e => absurd e parked,
      fun _ => onlyStore_wr s m (Addr.ROT_CFG n) (rotStored v), fun _ _ => rfl, rfl, fun a ha => ?_⟩
    obtain ⟨own, -⟩ : a ≠ Addr.ROT_CFG n ∧ a ≠ Addr.ROT_STATUS n := by simpa using ha
    exact Hub.rd_wr_other _ _ _ _ own

end

end Sys2Proof.Machine

/-! SUPPORT. The rotation of the spare slice from the comparison to the swap (R114 to R120), which settles O26. -/

namespace Sys2Proof.Machine

open Sys2Proof.Safety

/-! ### The comparison -/

/-- A quotient draws at most one free value, and is exact where it divides. -/
theorem Hub.drawQuotient_eq (h : Hub) (num : Int) (den : Nat) :
    ∃ q k, h.drawQuotient num den = (q, { h with free := k }) ∧ (num % (den : Int) = 0 → q = num / (den : Int)) := by
  unfold Hub.drawQuotient
  split
  next => exact ⟨_, h.free, rfl, fun _ => rfl⟩
  next uneven => exact ⟨_, h.free + 1, rfl, fun even => absurd even uneven⟩

/-- The verdict of a comparison: 3 NODATA, 1 MEAN, 2 PEAK, 0 PASS (R114). -/
def compareVerdict (x : Spire) (mean peak : Nat) : Nat :=
  if x.cmpPairs < 1024 then 3 else if mean * x.cmpPairs < x.cmpSum.natAbs then 1 else if peak * 16 < x.cmpPeak then 2 else 0

theorem compareVerdict_le (x : Spire) (mean peak : Nat) : compareVerdict x mean peak ≤ 3 := by
  unfold compareVerdict
  repeat' split
  all_goals decide

section
variable {h : Hub} {r n : Nat}

theorem swapCompareDone_early (early : frameOf (h.timeAt r) < (h.spire n).cmpFrom + 256) : swapCompareDone r n h = h := by
  simp only [swapCompareDone, Nat.not_le.mpr early, decide_false, Bool.and_false, Bool.false_eq_true, if_false]

/-- Once the window is over the result is written: some mean, the exact one where it divides, a peak, the verdict and the target. -/
theorem swapCompareDone_eq (shadow : h.rotState n = rotSHADOW) (noTrim : h.bit (Addr.SPIRE_STATUS n) 2 = false)
    (ended : (h.spire n).cmpFrom + 256 ≤ frameOf (h.timeAt r)) :
    ∃ mean peak k, swapCompareDone r n h = (({ h with free := k } : Hub).wr (Addr.SWAP_RESULT n)
        (wd (unsigned 16 mean + 65536 * min peak 255 +
          2 ^ 24 * compareVerdict (h.spire n) (h.fld (Addr.SWAP_TOL n) 0 8) (h.fld (Addr.SWAP_TOL n) 16 8) +
          2 ^ 28 * h.target n))).setRot n rotVERDICT ∧
      (0 < (h.spire n).cmpPairs → (h.spire n).cmpSum % ((h.spire n).cmpPairs : Int) = 0 →
        mean = (h.spire n).cmpSum / ((h.spire n).cmpPairs : Int)) := by
  have enters : (decide (h.rotState n = rotSHADOW) && !h.bit (Addr.SPIRE_STATUS n) 2 &&
      decide ((h.spire n).cmpFrom + 256 ≤ frameOf (h.timeAt r))) = true := by simp [shadow, noTrim, ended]
  obtain ⟨mean, k, drawn, exact⟩ : ∃ mean k,
      (if (h.spire n).cmpPairs = 0 then h.drawInt (-32768) 32767 else h.drawQuotient (h.spire n).cmpSum (h.spire n).cmpPairs) =
        (mean, { h with free := k }) ∧
      (0 < (h.spire n).cmpPairs → (h.spire n).cmpSum % ((h.spire n).cmpPairs : Int) = 0 →
        mean = (h.spire n).cmpSum / ((h.spire n).cmpPairs : Int)) := by
    split
    next none => exact ⟨_, _, rfl, fun pos => absurd none (by omega)⟩
    next some =>
      obtain ⟨q, k, drawn, exact⟩ := h.drawQuotient_eq (h.spire n).cmpSum (h.spire n).cmpPairs
      exact ⟨q, k, drawn, fun _ => exact⟩
  obtain ⟨peak, k', drawn', -⟩ := ({ h with free := k } : Hub).drawQuotient_eq ((h.spire n).cmpPeak : Nat) 16
  refine ⟨mean, peak.toNat, k', ?_, exact⟩
  simp only [swapCompareDone, enters, if_true, drawn, drawn']
  rfl

end

/-- The fields of a result word, each within its width. -/
theorem compareResult_fields {mean peak v target : Nat} (m : mean < 65536) (pk : peak ≤ 255) (verdict : v ≤ 3) (tgt : target < 8) :
    bitsOf (wd (mean + 65536 * peak + 2 ^ 24 * v + 2 ^ 28 * target)) 24 3 = v ∧
    bitsOf (wd (mean + 65536 * peak + 2 ^ 24 * v + 2 ^ 28 * target)) 0 16 = mean := by
  rw [bitsOf, bitsOf, toNat_wd_of_lt (by omega)]
  omega

theorem execSwapCompareDone_spec {s : State} {n : SpireIx} (p : s.hub.sys.powered = true) (shadow : s.hub.rotState n = rotSHADOW)
    (noTrim : s.hub.bit (Addr.SPIRE_STATUS n) 2 = false)
    (ended : (s.hub.spire n).cmpFrom + 256 ≤ frameOf (s.hub.timeAt s.raw.toNat)) :
    ∃ t, exec (.swapCompareDone n) s = .next t ∧ t.hub.rotState n = rotVERDICT ∧
      (let x := s.hub.spire n
       t.hub.fld (Addr.SWAP_RESULT n) 24 3 =
         compareVerdict x (s.hub.fld (Addr.SWAP_TOL n) 0 8) (s.hub.fld (Addr.SWAP_TOL n) 16 8) ∧
       (0 < x.cmpPairs → x.cmpSum % (x.cmpPairs : Int) = 0 →
         t.hub.fld (Addr.SWAP_RESULT n) 0 16 = unsigned 16 (x.cmpSum / (x.cmpPairs : Int)))) ∧
      regsKept (fun a => a == Addr.SWAP_RESULT n || a == Addr.ROT_STATUS n) s t ∧ t.hub.dome = s.hub.dome := by
  obtain ⟨mean, peak, k, row, exact⟩ := swapCompareDone_eq shadow noTrim ended
  obtain ⟨-, -, apart, -⟩ := rot_apart n
  have mod : unsigned 16 mean < 65536 := by
    simp only [unsigned]
    omega
  have target : s.hub.target n < 8 := Hub.fld_lt ..
  obtain ⟨verdict, shown⟩ := compareResult_fields mod (Nat.min_le_right peak 255)
    (compareVerdict_le (s.hub.spire n) (s.hub.fld (Addr.SWAP_TOL n) 0 8) (s.hub.fld (Addr.SWAP_TOL n) 16 8)) target
  have result : ∀ (g : Hub) w, ((g.wr (Addr.SWAP_RESULT n) w).setRot n rotVERDICT).rd (Addr.SWAP_RESULT n) = w := fun g w => by
    rw [Hub.rd_setRot_other _ _ _ _ apart.symm, Hub.rd_wr_same]
  refine ⟨_, s.onHub_eq (fun r h => swapCompareDone r n h) p row, Hub.rotState_setRot _ _ _ (by decide), ⟨?_, fun pos even => ?_⟩,
    fun a ha => ?_, rfl⟩
  · rw [Hub.fld, result]
    exact verdict
  · rw [Hub.fld, result, ← exact pos even]
    exact shown
  · obtain ⟨own, state⟩ : a ≠ Addr.SWAP_RESULT n ∧ a ≠ Addr.ROT_STATUS n := by simpa using ha
    rw [Hub.rd_setRot_other _ _ _ _ state, Hub.rd_wr_other _ _ _ _ own]
    rfl

/-! ### The verdict -/

section
variable {h : Hub} {r n : Nat}

/-- An abort below the limit calibrates the spare again and counts. -/
theorem swapAbort_again {cls : Nat} (below : h.fld (Addr.ROT_STATUS n) 15 4 + 1 < h.fld (Addr.ROT_CFG n) 8 4) :
    h.swapAbort r n cls = ((((h.setFld (Addr.ROT_STATUS n) 15 4 (h.fld (Addr.ROT_STATUS n) 15 4 + 1)).setRot n rotCAL).incSat
      (Addr.SWAP_ABORT_CNT n) 0 16 1).modSpire n fun s => { s with calRunning := true }).report r cls 0
      (if cls = 9 then belfry else 15) (wd (n + 256 * h.spare n)) := by
  simp only [Hub.swapAbort, if_pos below]

/-- An abort at the limit stalls the rotation. -/
theorem swapAbort_stalled {cls : Nat} (reached : h.fld (Addr.ROT_CFG n) 8 4 ≤ h.fld (Addr.ROT_STATUS n) 15 4 + 1) :
    h.swapAbort r n cls = (((h.setBit (Addr.ROT_STATUS n) (9 + h.spare n) true).setRot n rotSTALLED).setBit
      (Addr.SPIRE_STATUS n) 5 true).report r cls 0 (if cls = 9 then belfry else 15) (wd (n + 256 * h.spare n)) := by
  simp only [Hub.swapAbort, if_neg (Nat.not_lt.mpr reached)]

theorem sameButLog.spire {h h' : Hub} (q : sameButLog h h') (k : Nat) : h'.spire k = h.spire k := by
  rw [q.2]
  rfl

/-- With no verdict forced, SWAP_VERDICT goes by the verdict shown. -/
theorem swapVerdict_eq (state : h.rotState n = rotVERDICT) (noTrim : h.bit (Addr.SPIRE_STATUS n) 2 = false)
    (unforced : h.bit Addr.TP_SWAPFAIL 18 = false) :
    swapVerdict r n h =
      if h.fld (Addr.SWAP_RESULT n) 24 3 = 0 then
        (h.setFld (Addr.ROT_STATUS n) 15 4 0).setRot n (if h.target n = 4 then rotDRAIN else rotGAPWAIT)
      else if h.fld (Addr.SWAP_RESULT n) 24 3 = 3 then h.startCompare (h.timeAt r) n
      else h.swapAbort r n 10 := by
  have enters : (decide (h.rotState n = rotVERDICT) && !h.bit (Addr.SPIRE_STATUS n) 2) = true := by simp [state, noTrim]
  have forced : h.forcedVerdict n = (none, h) := by
    have off : (h.rd Addr.TP_SWAPFAIL).getLsbD 18 = false := unforced
    simp only [Hub.forcedVerdict, off, Bool.false_and, Bool.false_eq_true, if_false]
  simp only [swapVerdict, enters, if_true, forced]
  split
  next zero => rw [if_pos zero]
  next three => rw [if_neg (by omega), if_pos three]
  next notZero notThree => rw [if_neg notZero, if_neg notThree]

end

section
variable {s : State} {n : SpireIx}

/-- What an abort writes: the count or the stall, and one entry of its class. -/
theorem swapAbort_spec {cls : Nat} (small : cls < 32) :
    (s.hub.swapAbort s.raw.toNat n cls).rd (Addr.ELOG_CLASS_CNT cls) = s.hub.rd (Addr.ELOG_CLASS_CNT cls) + 1#32 ∧
    (s.hub.fld (Addr.ROT_STATUS n) 15 4 + 1 < s.hub.fld (Addr.ROT_CFG n) 8 4 →
      (s.hub.swapAbort s.raw.toNat n cls).rotState n = rotCAL ∧
      (s.hub.swapAbort s.raw.toNat n cls).fld (Addr.ROT_STATUS n) 15 4 = s.hub.fld (Addr.ROT_STATUS n) 15 4 + 1 ∧
      ((s.hub.swapAbort s.raw.toNat n cls).spire n).calRunning = true) ∧
    (s.hub.fld (Addr.ROT_CFG n) 8 4 ≤ s.hub.fld (Addr.ROT_STATUS n) 15 4 + 1 →
      (s.hub.swapAbort s.raw.toNat n cls).rotState n = rotSTALLED ∧
      (s.hub.swapAbort s.raw.toNat n cls).bit (Addr.SPIRE_STATUS n) 5 = true) ∧
    ∀ a, a ≠ Addr.ROT_STATUS n → a ≠ Addr.SWAP_ABORT_CNT n → a ≠ Addr.SPIRE_STATUS n → inLog a = false →
      (s.hub.swapAbort s.raw.toNat n cls).rd a = s.hub.rd a := by
  obtain ⟨-, -, -, apartCnt, -, -, apartStatus, -⟩ := rot_apart n
  have above : 0x41000000 ≤ Addr.ROT_STATUS n ∧ 0x41000000 ≤ Addr.SPIRE_STATUS n ∧ 0x41000000 ≤ Addr.SWAP_ABORT_CNT n := by
    simp only [Addr.ROT_STATUS, Addr.SPIRE_STATUS, Addr.SWAP_ABORT_CNT]
    omega
  have class_below : Addr.ELOG_CLASS_CNT cls < 0x41000000 := by simp only [Addr.ELOG_CLASS_CNT]; omega
  have limit : s.hub.fld (Addr.ROT_CFG n) 8 4 < 16 := Hub.fld_lt ..
  rcases Nat.lt_or_ge (s.hub.fld (Addr.ROT_STATUS n) 15 4 + 1) (s.hub.fld (Addr.ROT_CFG n) 8 4) with below | reached
  · rw [swapAbort_again below]
    generalize made : ((((s.hub.setFld (Addr.ROT_STATUS n) 15 4 (s.hub.fld (Addr.ROT_STATUS n) 15 4 + 1)).setRot n rotCAL).incSat
      (Addr.SWAP_ABORT_CNT n) 0 16 1).modSpire n fun s => { s with calRunning := true }) = g
    have regs : ∀ a, a ≠ Addr.ROT_STATUS n → a ≠ Addr.SWAP_ABORT_CNT n → g.rd a = s.hub.rd a := fun a state cnt => by
      rw [← made, Hub.rd_modSpire, Hub.rd_incSat_other _ _ _ _ _ _ cnt, Hub.rd_setRot_other _ _ _ _ state, Hub.rd_setFld,
        if_neg state]
    have status : g.rd (Addr.ROT_STATUS n) = ((s.hub.setFld (Addr.ROT_STATUS n) 15 4
        (s.hub.fld (Addr.ROT_STATUS n) 15 4 + 1)).setRot n rotCAL).rd (Addr.ROT_STATUS n) := by
      rw [← made, Hub.rd_modSpire, Hub.rd_incSat_other _ _ _ _ _ _ apartCnt]
    have logged := fun who detail => (g.report_same s.raw.toNat cls 0 who detail small)
    have read := fun who detail => (logged who detail).1 (Addr.ROT_STATUS n) (inLog_above above.1)
    refine ⟨?_, fun _ => ⟨?_, ?_, ?_⟩, fun reached => absurd below (Nat.not_lt.mpr reached), fun a state cnt _ log => ?_⟩
    · rw [Hub.report_class _ _ _ _ _ _ small, regs _ (by omega) (by omega)]
    · rw [Hub.rotState_congr ((read _ _).trans status)]
      exact Hub.rotState_setRot _ _ _ (by decide)
    · rw [Hub.fld_congr ((read _ _).trans status), Hub.fld_setRot_apart _ _ _ _ _ _ (.inr (.inr (by decide))) (by decide),
        Hub.fld_setFld_same _ _ _ _ _ (by decide)]
      exact Nat.mod_eq_of_lt (by omega)
    · rw [(logged _ _).spire, ← made, Hub.spire_modSpire_same]
    · rw [(logged _ _).1 a log, regs a state cnt]
  · rw [swapAbort_stalled reached]
    generalize made : ((s.hub.setBit (Addr.ROT_STATUS n) (9 + s.hub.spare n) true).setRot n rotSTALLED).setBit
      (Addr.SPIRE_STATUS n) 5 true = g
    have regs : ∀ a, a ≠ Addr.ROT_STATUS n → a ≠ Addr.SPIRE_STATUS n → g.rd a = s.hub.rd a := fun a state status => by
      rw [← made, Hub.rd_setBit_other _ _ _ _ _ status, Hub.rd_setRot_other _ _ _ _ state, Hub.rd_setBit_other _ _ _ _ _ state]
    have logged := fun who detail => (g.report_same s.raw.toNat cls 0 who detail small)
    refine ⟨?_, fun below => absurd reached (Nat.not_le.mpr below), fun _ => ⟨?_, ?_⟩, fun a state _ status log => ?_⟩
    · rw [Hub.report_class _ _ _ _ _ _ small, regs _ (by omega) (by omega)]
    · rw [Hub.rotState_congr ((logged _ _).1 _ (inLog_above above.1)), ← made,
        Hub.rotState_congr (Hub.rd_setBit_other _ _ _ _ _ apartStatus)]
      exact Hub.rotState_setRot _ _ _ (by decide)
    · rw [Hub.bit_congr ((logged _ _).1 _ (inLog_above above.2.1)), ← made]
      exact Hub.bit_setBit_same _ _ _ _ (by decide)
    · rw [(logged _ _).1 a log, regs a state status]

variable (p : s.hub.sys.powered = true)
include p

theorem execSwapVerdict_spec (state : s.hub.rotState n = rotVERDICT) (noTrim : s.hub.bit (Addr.SPIRE_STATUS n) 2 = false)
    (unforced : s.hub.bit Addr.TP_SWAPFAIL 18 = false) :
    ∃ t, exec (.swapVerdict n) s = .next t ∧
      (s.hub.fld (Addr.SWAP_RESULT n) 24 3 = 0 → t.hub.fld (Addr.ROT_STATUS n) 15 4 = 0 ∧
        t.hub.rotState n = (if s.hub.fld (Addr.ROT_STATUS n) 3 3 = 4 then rotDRAIN else rotGAPWAIT)) ∧
      (s.hub.fld (Addr.SWAP_RESULT n) 24 3 = 3 → t.hub.rotState n = rotSHADOW) ∧
      ((s.hub.fld (Addr.SWAP_RESULT n) 24 3 = 1 ∨ s.hub.fld (Addr.SWAP_RESULT n) 24 3 = 2) → logged 10 s t ∧
        (s.hub.fld (Addr.ROT_STATUS n) 15 4 + 1 < s.hub.fld (Addr.ROT_CFG n) 8 4 →
          t.hub.rotState n = rotCAL ∧ t.hub.fld (Addr.ROT_STATUS n) 15 4 = s.hub.fld (Addr.ROT_STATUS n) 15 4 + 1 ∧
          (t.hub.spire n).calRunning = true) ∧
        (s.hub.fld (Addr.ROT_CFG n) 8 4 ≤ s.hub.fld (Addr.ROT_STATUS n) 15 4 + 1 →
          t.hub.rotState n = rotSTALLED ∧ t.hub.bit (Addr.SPIRE_STATUS n) 5 = true)) ∧
      regsKept (fun a => a == Addr.ROT_STATUS n || a == Addr.SWAP_ABORT_CNT n || a == Addr.SPIRE_STATUS n || inLog a) s t := by
  refine ⟨_, s.onHub_eq (fun r h => swapVerdict r n h) p (swapVerdict_eq state noTrim unforced), fun pass => ?_, fun nodata => ?_,
    fun fails => ?_, fun a ha => ?_⟩
  · rw [if_pos pass]
    refine ⟨?_, Hub.rotState_setRot _ _ _ (by split <;> decide)⟩
    rw [Hub.fld_setRot_apart _ _ _ _ _ _ (.inr (.inr (by decide))) (by decide)]
    exact Hub.fld_setFld_same _ _ _ _ _ (by decide)
  · rw [if_neg (by omega), if_pos nodata]
    exact (Hub.startCompare_spec ..).1
  · rw [if_neg (by omega), if_neg (by omega)]
    obtain ⟨entry, again, stalled, -⟩ := swapAbort_spec (s := s) (n := n) (cls := 10) (by decide)
    exact ⟨entry, again, stalled⟩
  · obtain ⟨⟨⟨own, cnt⟩, status⟩, log⟩ :
        ((a ≠ Addr.ROT_STATUS n ∧ a ≠ Addr.SWAP_ABORT_CNT n) ∧ a ≠ Addr.SPIRE_STATUS n) ∧ inLog a = false := by simpa using ha
    split
    · rw [Hub.rd_setRot_other _ _ _ _ own, Hub.rd_setFld, if_neg own]
    split
    · obtain ⟨-, -, -, regs, -⟩ := s.hub.startCompare_spec n (s.hub.timeAt s.raw.toNat)
      exact regs a (by simpa using own)
    · obtain ⟨-, -, -, regs⟩ := swapAbort_spec (s := s) (n := n) (cls := 10) (by decide)
      exact regs a own cnt status log

/-! ### The drain -/

omit p in
/-- Closing the queue for a swap shows it closed, unless a trim has closed it; it touches INJ_QUEUE and SPIRE_STATUS. -/
theorem closeForSwap_spec {p : Nat → Bool} (queue : p (Addr.INJ_QUEUE n) = true) (status : p (Addr.SPIRE_STATUS n) = true)
    (h : Hub) : sameButRegs p h (h.closeForSwap n) ∧
    (h.fld (Addr.INJ_QUEUE n) 6 2 ≠ 2 → (h.closeForSwap n).bit (Addr.INJ_QUEUE n) 5 = true ∧
      (h.closeForSwap n).fld (Addr.INJ_QUEUE n) 6 2 = 1) := by
  obtain ⟨-, -, -, -, -, -, -, apart, -⟩ := rot_apart n
  unfold Hub.closeForSwap
  split
  next trim => exact ⟨.refl h, fun other => absurd trim other⟩
  next =>
    refine ⟨((sameButRegs.setBit _ _ _ queue _).trans (.setFld _ _ _ _ _ queue)).trans (.setBit _ _ _ status _), fun _ => ⟨?_, ?_⟩⟩
    · rw [Hub.injClose, Hub.bit_congr (Hub.rd_setBit_other _ _ _ _ _ apart.symm),
        Hub.bit_setFld_apart _ _ _ _ _ _ _ (.inr (.inl (by decide))) (by decide)]
      exact Hub.bit_setBit_same _ _ _ _ (by decide)
    · rw [Hub.injClose, Hub.fld_congr (Hub.rd_setBit_other _ _ _ _ _ apart.symm)]
      exact Hub.fld_setFld_same _ _ _ _ _ (by decide)

theorem execDrainQueueClose_spec (drain : s.hub.rotState n = rotDRAIN) (drained : s.hub.fld (Addr.INJ_QUEUE n) 3 2 = 0) :
    ∃ t, exec (.drainQueueClose n) s = .next t ∧ t.hub.rotState n = rotGAPWAIT ∧
      (s.hub.fld (Addr.INJ_QUEUE n) 6 2 ≠ 2 → t.hub.bit (Addr.INJ_QUEUE n) 5 = true ∧ t.hub.fld (Addr.INJ_QUEUE n) 6 2 = 1) ∧
      onlyRegs (fun a => a == Addr.ROT_STATUS n || a == Addr.INJ_QUEUE n || a == Addr.SPIRE_STATUS n) s t := by
  obtain ⟨-, -, -, -, -, apart, -⟩ := rot_apart n
  have none : s.hub.injExt n = 0 := drained
  have row : drainQueueClose n s.hub = (s.hub.closeForSwap n).setRot n rotGAPWAIT := by simp [drainQueueClose, drain, none]
  obtain ⟨closes, shows⟩ := closeForSwap_spec (n := n)
    (p := fun a => a == Addr.ROT_STATUS n || a == Addr.INJ_QUEUE n || a == Addr.SPIRE_STATUS n) (by simp) (by simp) s.hub
  have queue := Hub.rd_setRot_other (s.hub.closeForSwap n) n rotGAPWAIT (Addr.INJ_QUEUE n) apart.symm
  refine ⟨_, s.onHub_eq (fun _ h => drainQueueClose n h) p row, Hub.rotState_setRot _ _ _ (by decide), fun noTrim => ?_,
    (closes.trans (.setFld _ _ _ _ _ (by simp))).onlyRegs⟩
  exact ⟨(Hub.bit_congr queue 5).trans (shows noTrim).1, (Hub.fld_congr queue 6 2).trans (shows noTrim).2⟩

theorem execDrainForced_spec (drain : s.hub.rotState n = rotDRAIN) :
    ∃ t, exec (.drainForced n) s = .next t ∧ t.hub.rotState n = rotDRAIN ∧ t.hub.bit (Addr.ROT_STATUS n) 19 = true ∧
      (s.hub.fld (Addr.INJ_QUEUE n) 6 2 ≠ 2 → t.hub.bit (Addr.INJ_QUEUE n) 5 = true) ∧
      onlyRegs (fun a => a == Addr.ROT_STATUS n || a == Addr.INJ_QUEUE n || a == Addr.SPIRE_STATUS n) s t := by
  obtain ⟨-, -, -, -, -, apart, apartStatus, -⟩ := rot_apart n
  have row : drainForced n s.hub = (s.hub.closeForSwap n).setBit (Addr.ROT_STATUS n) 19 true := by simp [drainForced, drain]
  obtain ⟨closes, shows⟩ := closeForSwap_spec (n := n)
    (p := fun a => a == Addr.ROT_STATUS n || a == Addr.INJ_QUEUE n || a == Addr.SPIRE_STATUS n) (by simp) (by simp) s.hub
  obtain ⟨⟨-, others⟩, -⟩ := closeForSwap_spec (n := n)
    (p := fun a => a == Addr.INJ_QUEUE n || a == Addr.SPIRE_STATUS n) (by simp) (by simp) s.hub
  refine ⟨_, s.onHub_eq (fun _ h => drainForced n h) p row, ?_, Hub.bit_setBit_same _ _ _ _ (by decide), fun noTrim => ?_,
    (closes.trans (.setBit _ _ _ (by simp) _)).onlyRegs⟩
  · refine (Hub.fld_setBit_apart _ _ _ _ _ _ _ (.inr (.inl (by decide))) (by decide)).trans ?_
    exact (Hub.rotState_congr (others _ (by simpa using ⟨apart, apartStatus⟩))).trans drain
  · exact (Hub.bit_congr (Hub.rd_setBit_other _ _ _ _ _ apart.symm) 5).trans (shows noTrim).1

/-! ### The swap -/

omit p in
/-- Reopening the queue keeps the calibration's state, and every register but INJ_QUEUE and SPIRE_STATUS. -/
theorem injOpen_keeps (h : Hub) (t n : Nat) : ((h.injOpen t n).spire n).calRunning = (h.spire n).calRunning ∧
    ∀ a, a ≠ Addr.INJ_QUEUE n → a ≠ Addr.SPIRE_STATUS n → (h.injOpen t n).rd a = h.rd a := by
  rw [Hub.injOpen]
  generalize reopened :
    ((h.setBit (Addr.INJ_QUEUE n) 5 false).setFld (Addr.INJ_QUEUE n) 6 2 0).setBit (Addr.SPIRE_STATUS n) 3 false = g
  have regs : ∀ a, a ≠ Addr.INJ_QUEUE n → a ≠ Addr.SPIRE_STATUS n → g.rd a = h.rd a := fun a queue status => by
    rw [← reopened, Hub.rd_setBit_other _ _ _ _ _ status, Hub.rd_setFld, if_neg queue, Hub.rd_setBit_other _ _ _ _ _ queue]
  have spire : g.spire n = h.spire n := by rw [← reopened]; rfl
  unfold Hub.injAdmit
  dsimp only
  split
  · exact ⟨by rw [spire], regs⟩
  · refine ⟨?_, fun a queue status => ?_⟩
    · rw [Hub.spire_syncInj, Hub.spire_setSpire, if_pos rfl, spire]
    · rw [Hub.rd_syncInj_other _ _ _ queue, Hub.rd_setSpire, regs a queue status]

/-- The registers after the spare and the slice of column `col` changed places: the map, the status, the count. -/
def swapCounted (n col : Nat) (h : Hub) : Hub :=
  let out := h.sliceOf n col
  let h := (h.setFld (Addr.SLICE_MAP n) (4 * col) 3 (h.spare n)).setFld (Addr.SLICE_MAP n) 20 3 out
  let h := ((h.setFld (Addr.ROT_STATUS n) 0 3 out).setFld (Addr.ROT_STATUS n) 3 3 ((col + 1) % 5)).setRot n rotCAL
  (h.setBit (Addr.ROT_STATUS n) 19 false).incWrap (Addr.SWAP_CNT n) 0 32 1

/-- The swap's remaining marks: the new spare's calibration runs, and a swap happened in frame `f`. -/
def swapMarked (n f : Nat) (h : Hub) : Hub :=
  { h.modSpire n fun s => { s with calRunning := true } with sys.swapAt := some (n, f) }

omit p in
theorem swapMarked_keeps (n f : Nat) (h : Hub) :
    (∀ a, (swapMarked n f h).rd a = h.rd a) ∧ ((swapMarked n f h).spire n).calRunning = true := by
  refine ⟨fun _ => rfl, ?_⟩
  change ((h.modSpire n fun s => { s with calRunning := true }).spire n).calRunning = true
  rw [Hub.spire_modSpire_same]

omit p in
theorem sliceSwap_eq {h : Hub} {r n col : Nat} (never : h.sys.swapAt = none) (due : h.swapDue n = true)
    (lower : ∀ k, k < n → h.swapDue k = false) (target : h.target n = col) :
    ∃ t, sliceSwap r n h = swapMarked n (frameOf (h.timeAt r)) (swapCounted n col h) ∨
      sliceSwap r n h = (swapMarked n (frameOf (h.timeAt r)) (swapCounted n col h)).injOpen t n := by
  have first : (List.range n).all (fun k => !h.swapDue k) = true := by
    rw [List.all_eq_true]
    intro k mem
    rw [lower k (List.mem_range.mp mem)]
    rfl
  refine ⟨(swapMarked n (frameOf (h.timeAt r)) (swapCounted n col h)).timeAt r, ?_⟩
  simp only [sliceSwap, never, due, first, target, Bool.not_false, Bool.and_self, if_true]
  split
  · exact .inr rfl
  · exact .inl rfl

end

section
variable (n : SpireIx) (col : Nat) (h : Hub)

/-- ROT_STATUS after the swap: the new spare, the next target, CAL, and FORCED clear. -/
def swapStatus (h : Hub) : Hub :=
  (((h.setFld (Addr.ROT_STATUS n) 0 3 (h.sliceOf n col)).setFld (Addr.ROT_STATUS n) 3 3 ((col + 1) % 5)).setRot n rotCAL).setBit
    (Addr.ROT_STATUS n) 19 false

theorem swapStatus_shows : (swapStatus n col h).target n = (col + 1) % 5 ∧ (swapStatus n col h).rotState n = rotCAL ∧
    (swapStatus n col h).bit (Addr.ROT_STATUS n) 19 = false := by
  refine ⟨?_, ?_, Hub.bit_setBit_same _ _ _ _ (by decide)⟩
  · refine (Hub.fld_setBit_apart _ _ _ _ _ _ _ (.inr (.inl (by decide))) (by decide)).trans ?_
    rw [Hub.fld_setRot_apart _ _ _ _ _ _ (.inr (.inl (by decide))) (by decide), Hub.fld_setFld_same _ _ _ _ _ (by decide)]
    omega
  · refine (Hub.fld_setBit_apart _ _ _ _ _ _ _ (.inr (.inl (by decide))) (by decide)).trans ?_
    exact Hub.rotState_setRot _ _ _ (by decide)

/-- SLICE_MAP after the swap. -/
def swapMap (h : Hub) : Hub :=
  (h.setFld (Addr.SLICE_MAP n) (4 * col) 3 (h.spare n)).setFld (Addr.SLICE_MAP n) 20 3 (h.sliceOf n col)

variable {col} in
theorem swapMap_shows (lt : col < 5) : (swapMap n col h).sliceOf n col = h.spare n ∧
    (swapMap n col h).spare n = h.sliceOf n col ∧
    ∀ c, c < 5 → c ≠ col → (swapMap n col h).sliceOf n c = h.sliceOf n c := by
  have spare : h.spare n < 8 := Hub.fld_lt ..
  have slice : h.sliceOf n col < 8 := Hub.fld_lt ..
  refine ⟨?_, ?_, fun c hc ne => ?_⟩
  · refine (Hub.fld_setFld_apart _ _ _ _ _ _ _ _ (.inr (.inl (by omega))) (by omega)).trans ?_
    rw [Hub.fld_setFld_same _ _ _ _ _ (by omega)]
    exact Nat.mod_eq_of_lt spare
  · exact (Hub.fld_setFld_same _ _ _ _ _ (by decide)).trans (Nat.mod_eq_of_lt slice)
  · refine (Hub.fld_setFld_apart _ _ _ _ _ _ _ _ (.inr (.inl (by omega))) (by omega)).trans ?_
    exact Hub.fld_setFld_apart _ _ _ _ _ _ _ _ (.inr (by omega)) (by omega)

theorem rd_swapCounted :
    (swapCounted n col h).rd (Addr.SLICE_MAP n) = (swapMap n col h).rd (Addr.SLICE_MAP n) ∧
    (swapCounted n col h).rd (Addr.ROT_STATUS n) = (swapStatus n col h).rd (Addr.ROT_STATUS n) ∧
    (swapCounted n col h).rd (Addr.SWAP_CNT n) = h.rd (Addr.SWAP_CNT n) + 1#32 := by
  obtain ⟨-, mapStatus, -, -, cntStatus, -, -, -, apart⟩ := rot_apart n
  generalize slice : h.sliceOf n col = out
  generalize state : ((((swapMap n col h).setFld (Addr.ROT_STATUS n) 0 3 out).setFld (Addr.ROT_STATUS n) 3 3
    ((col + 1) % 5)).setRot n rotCAL).setBit (Addr.ROT_STATUS n) 19 false = g
  have counted : swapCounted n col h = g.incWrap (Addr.SWAP_CNT n) 0 32 1 := by
    rw [← state, ← slice]
    rfl
  have others : ∀ a, a ≠ Addr.ROT_STATUS n → g.rd a = (swapMap n col h).rd a := fun a ne => by
    rw [← state, Hub.rd_setBit_other _ _ _ _ _ ne, Hub.rd_setRot_other _ _ _ _ ne, Hub.rd_setFld, if_neg ne, Hub.rd_setFld,
      if_neg ne]
  have outside : ∀ a, a ≠ Addr.SLICE_MAP n → (swapMap n col h).rd a = h.rd a := fun a ne => by
    rw [swapMap, Hub.rd_setFld, if_neg ne, Hub.rd_setFld, if_neg ne]
  refine ⟨?_, ?_, ?_⟩
  · rw [counted, Hub.rd_incWrap_other _ _ _ _ _ _ apart, others _ mapStatus.symm]
  · rw [counted, Hub.rd_incWrap_other _ _ _ _ _ _ cntStatus, ← state]
    simp only [swapStatus, Hub.setRot, Hub.rd_setBit, Hub.rd_setFld, if_true, outside _ mapStatus, slice]
  · rw [counted, Hub.rd_incWrap_word, others _ cntStatus.symm, outside _ apart.symm]

end

theorem execSliceSwap_spec {s : State} {n : SpireIx} {col : Nat} (p : s.hub.sys.powered = true)
    (never : s.hub.sys.swapAt = none) (due : s.hub.swapDue n = true) (lower : ∀ k, k < n.val → s.hub.swapDue k = false)
    (target : s.hub.target n = col) (lt : col < 5) :
    ∃ t, exec (.sliceSwap n) s = .next t ∧ t.hub.sliceOf n col = s.hub.spare n ∧ t.hub.spare n = s.hub.sliceOf n col ∧
      (∀ c, c < 5 → c ≠ col → t.hub.sliceOf n c = s.hub.sliceOf n c) ∧ t.hub.target n = (col + 1) % 5 ∧
      t.hub.rotState n = rotCAL ∧ t.hub.bit (Addr.ROT_STATUS n) 19 = false ∧
      t.hub.rd (Addr.SWAP_CNT n) = s.hub.rd (Addr.SWAP_CNT n) + 1#32 ∧
      (t.hub.spire n).calRunning = true ∧ t.hub.dome = s.hub.dome := by
  obtain ⟨taken, spare, columns⟩ := swapMap_shows n s.hub lt
  obtain ⟨next, cal, forced⟩ := swapStatus_shows n col s.hub
  obtain ⟨map, status, count⟩ := rd_swapCounted n col s.hub
  have ends : ∃ g, sliceSwap s.raw.toNat n s.hub = g ∧ g.rd (Addr.SLICE_MAP n) = (swapMap n col s.hub).rd (Addr.SLICE_MAP n) ∧
      g.rd (Addr.ROT_STATUS n) = (swapStatus n col s.hub).rd (Addr.ROT_STATUS n) ∧
      g.rd (Addr.SWAP_CNT n) = s.hub.rd (Addr.SWAP_CNT n) + 1#32 ∧ (g.spire n).calRunning = true := by
    obtain ⟨t, e⟩ := sliceSwap_eq (r := s.raw.toNat) never due lower target
    obtain ⟨regs, runs⟩ := swapMarked_keeps n (frameOf (s.hub.timeAt s.raw.toNat)) (swapCounted n col s.hub)
    generalize swapMarked n (frameOf (s.hub.timeAt s.raw.toNat)) (swapCounted n col s.hub) = swapped at regs runs e
    rcases e with e | e
    · exact ⟨_, e, (regs _).trans map, (regs _).trans status, (regs _).trans count, runs⟩
    · obtain ⟨kept, others⟩ := injOpen_keeps swapped t n
      have read : ∀ a, a ≠ Addr.INJ_QUEUE n → a ≠ Addr.SPIRE_STATUS n →
          (swapped.injOpen t n).rd a = (swapCounted n col s.hub).rd a := fun a queue status => (others a queue status).trans (regs a)
      refine ⟨_, e, (read _ ?_ ?_).trans map, (read _ ?_ ?_).trans status, (read _ ?_ ?_).trans count, kept.trans runs⟩
      all_goals
        simp only [Addr.SLICE_MAP, Addr.ROT_STATUS, Addr.SWAP_CNT, Addr.INJ_QUEUE, Addr.SPIRE_STATUS]
        omega
  clear map status count
  obtain ⟨g, row, map, status, count, runs⟩ := ends
  refine ⟨_, s.onHub_eq (fun r h => sliceSwap r n h) p row, (Hub.fld_congr map ..).trans taken, (Hub.fld_congr map ..).trans spare,
    fun c hc ne => (Hub.fld_congr map ..).trans (columns c hc ne), (Hub.fld_congr status ..).trans next,
    (Hub.rotState_congr status).trans cal, (Hub.bit_congr status 19).trans forced, count, runs, ?_⟩
  rw [← row, sliceSwap_dome]

/-- Settles O26: the rotation goes round by its rows, each with the registers it writes. -/
theorem sliceRotation : Obligations.SliceRotation := by
  unfold Obligations.SliceRotation
  exact ⟨fun _ _ p calibrated cal usable => execSpareCalStart_spec p calibrated cal usable,
    fun _ _ _ _ _ _ p cal runs noTrim solved => execSliceCalComplete_spec p cal runs noTrim solved,
    fun _ _ _ _ p ok plan limit defer => execRotEnable_spec p ok plan limit defer,
    fun s n early => s.onHub_same (f := fun r h => swapCompareDone r n h) (swapCompareDone_early early),
    fun _ _ p shadow noTrim ended => execSwapCompareDone_spec p shadow noTrim ended,
    fun _ _ p state noTrim unforced => execSwapVerdict_spec p state noTrim unforced,
    fun _ _ p drain drained => execDrainQueueClose_spec p drain drained,
    fun _ _ p drain => execDrainForced_spec p drain,
    fun _ _ _ p never due lower target lt => execSliceSwap_spec p never due lower target lt⟩

end Sys2Proof.Machine

/-!
SUPPORT. The hit detector (R280 to R283) beside the samples it takes: whatever it does with a fast tap, the raw samples of the
channels and the spires stay.
-/

namespace Sys2Proof.Machine

open Sys2Proof.Safety

/-- `h'` keeps the spires of `h` and the raw samples of its channels. -/
structure RawKept (h h' : Hub) : Prop where
  spires : h'.spires = h.spires
  raw : ∀ g, (h'.chan g).raw = (h.chan g).raw

section
variable {h h' h'' : Hub}

theorem RawKept.refl (h : Hub) : RawKept h h := ⟨rfl, fun _ => rfl⟩

theorem RawKept.trans (q : RawKept h h') (q' : RawKept h' h'') : RawKept h h'' :=
  ⟨q'.spires.trans q.spires, fun g => (q'.raw g).trans (q.raw g)⟩

theorem RawKept.of_chans (spires : h'.spires = h.spires) (chans : h'.chans = h.chans) : RawKept h h' :=
  ⟨spires, fun g => by rw [Hub.chan, Hub.chan, chans]⟩

theorem RawKept.setChan (g : Nat) (x : Chan) (raw : x.raw = (h.chan g).raw) : RawKept h (h.setChan g x) := by
  refine ⟨rfl, fun k => ?_⟩
  rw [Hub.chan_setChan]
  split
  next e => rw [raw, e]
  next => rfl

theorem RawKept.spire (q : RawKept h h') (k : Nat) : h'.spire k = h.spire k := by rw [Hub.spire, Hub.spire, q.spires]

end

section
variable (h : Hub) (n c : Nat)

theorem RawKept.modSen (g : Nat) (f : Sentry → Sentry) : RawKept h (h.modSen g f) := .setChan g _ rfl

theorem RawKept.drawQuotient (num : Int) (den : Nat) : RawKept h (h.drawQuotient num den).2 := by
  obtain ⟨q, k, drawn, -⟩ := h.drawQuotient_eq num den
  rw [drawn]
  exact .of_chans rfl rfl

theorem RawKept.eventRecord (ty time : Nat) (body : List Word) : RawKept h (h.eventRecord ty time body) := by
  rw [Hub.eventRecord_frame]
  exact .of_chans rfl rfl

theorem senStart_rawKept : RawKept h (h.senStart n c) := by
  unfold Hub.senStart
  dsimp only
  split
  · generalize started : h.modSen (chNo n c) _ = g
    have kept : RawKept h g := started ▸ .modSen ..
    split
    · exact kept.trans (.of_chans rfl rfl)
    · exact kept.trans (.of_chans rfl rfl)
  · exact .refl h

theorem senEnd_rawKept (long : Bool) : RawKept h (h.senEnd n c long) := by
  unfold Hub.senEnd
  dsimp only
  have locked := RawKept.modSen h (chNo n c) fun s => { s with st := .lockout }
  split
  · exact (locked.trans (.drawQuotient ..)).trans (.eventRecord ..)
  · exact locked

theorem senFinish_rawKept : RawKept h (h.senFinish n c) := by
  unfold Hub.senFinish
  dsimp only
  split
  · exact senEnd_rawKept ..
  · exact .refl h

theorem senUnlock_rawKept : RawKept h (h.senUnlock n c) := by
  unfold Hub.senUnlock
  dsimp only
  split
  · exact .modSen ..
  · exact .refl h

theorem senTurn_rawKept : RawKept h (h.senTurn n c) :=
  ((senStart_rawKept h n c).trans (senFinish_rawKept _ n c)).trans (senUnlock_rawKept _ n c)

/-- A sample's update of the detector writes the noise register and the detector's state last. -/
theorem RawKept.senWrite {g : Hub} (q : RawKept h g) (k a v : Nat) (s : Sentry) :
    RawKept h ((g.setFld a 0 24 v).setChan k { (g.setFld a 0 24 v).chan k with sen := s }) :=
  (q.trans (.of_chans rfl rfl : RawKept g (g.setFld a 0 24 v))).trans (.setChan k _ rfl)

/-- The updates of QUIET draw two quotients, unless a hit starts. -/
theorem RawKept.quietUpdate {g : Hub} (q : RawKept h g) (starts : Bool) (s s' : Sentry) (num num' : Int) (den den' : Nat) :
    RawKept h (if starts then (s, g) else (s', ((g.drawQuotient num den).2.drawQuotient num' den').2)).2 := by
  split
  · exact q
  · exact (q.trans (.drawQuotient ..)).trans (.drawQuotient ..)

theorem senSample_rawKept (i : Int) : RawKept h (h.senSample n c i) := by
  have turn := senTurn_rawKept h n c
  obtain ⟨g, hg⟩ : ∃ g, h.senTurn n c = g := ⟨_, rfl⟩
  obtain ⟨x, fl, tap⟩ : ∃ x fl, g.fastTap n c i = (x, fl) := ⟨_, _, rfl⟩
  rw [hg] at turn
  simp only [Hub.senSample, hg, tap]
  split
  · exact turn.trans (.modSen ..)
  · refine RawKept.senWrite h ?_ ..
    generalize loaded : g.setChan (chNo n c) _ = l
    have read : RawKept h l := by
      rw [← loaded]
      exact turn.trans (.setChan _ _ rfl)
    split
    · exact read.quietUpdate ..
    · exact read
    · exact read

theorem senMissing_rawKept (i : Int) : RawKept h (h.senMissing n c i) := by
  unfold Hub.senMissing
  split
  next => exact .refl h
  next k _ =>
    have looped := forN_keeps (RawKept h) (min (i - 1 - k).toNat ((h.filtCfg n c).len1 + 1))
      (fun j h => h.senSample n c (k + 1 + (j : Int))) (fun j g q => q.trans (senSample_rawKept g n c _)) h (.refl h)
    dsimp only
    split
    · exact looped.trans (senSample_rawKept ..)
    · exact looped

/-- A raw sample's arrival at the detector leaves the raw samples. -/
theorem senArrive_rawKept (i : Int) : RawKept h (h.senArrive n c i) := by
  unfold Hub.senArrive
  split
  · exact (senMissing_rawKept ..).trans (senSample_rawKept ..)
  · exact .refl h

theorem Hub.senArrive_untapped (i : Int) (untapped : (h.filtCfg n c).tap = false) : h.senArrive n c i = h := by
  rw [Hub.senArrive, untapped]
  rfl

end

end Sys2Proof.Machine

/-!
SUPPORT. Conversions (R97 to R107, R109): when a slice's code goes anywhere, and where the codes of the house column go.
-/

namespace Sys2Proof.Machine

open Sys2Proof.Safety

/-! ### The row -/

section
variable {h : Hub} {r n k f : Nat} {code : Int}

/-- A code's way after the skew: the house column's, or its channel's. -/
def convertCode (r n k f : Nat) (code : Int) (h : Hub) : Hub :=
  if 32 ≤ k then h.houseCode r n k f code
  else match h.slotEntry n k with
    | none => h
    | some (c, b) =>
      if !h.acquires f || h.missingAt n c (h.heldAt n c f b) then h
      else h.pushCode r n { slot := k, frame := f, code := code, entry := some (c, b) }

theorem rawCodeConvert_idle {pair : Option (Int × Int)}
    (idle : h.mode = .boot ∨ (h.spireAt n (f * frameU)).off = true ∨ frameOf (h.timeAt r) < f) :
    rawCodeConvert r n k f code pair h = h := by
  have stays : (decide (h.mode = .boot) || (h.spireAt n (f * frameU)).off || decide (frameOf (h.timeAt r) < f)) = true := by
    rcases idle with e | e | e <;> simp [e]
  simp only [rawCodeConvert]
  rw [if_pos (by simpa using stays)]

theorem Hub.skewed_off (col : Nat) (off : h.bit Addr.TP_SKEW 7 = false) : h.skewed n col code = (code, h) := by
  have off' : (h.rd Addr.TP_SKEW).getLsbD 7 = false := off
  simp only [Hub.skewed, Hub.skew16, off', Bool.false_and, Bool.false_eq_true, if_false, if_true]

theorem Hub.rd_comparePair (h : Hub) (n k f : Nat) (p : Int × Int) (a : Nat) : (h.comparePair n k f p).rd a = h.rd a := by
  simp only [Hub.comparePair]
  split
  · split <;> rfl
  · rfl

variable (mode : h.mode ≠ .boot) (samples : (h.spireAt n (f * frameU)).off = false) (past : f ≤ frameOf (h.timeAt r))
  (off : h.bit Addr.TP_SKEW 7 = false)
include mode samples past off

theorem rawCodeConvert_single : rawCodeConvert r n k f code none h = convertCode r n k f code h := by
  simp only [rawCodeConvert, mode, samples, Nat.not_lt.mpr past, decide_false, Bool.or_self, Bool.false_eq_true, if_false,
    Hub.skewed_off _ off]
  rfl

theorem rawCodeConvert_pair (p : Int × Int) :
    rawCodeConvert r n k f code (some p) h = convertCode r n k f code (h.comparePair n k f p) := by
  have off' : (h.comparePair n k f p).bit Addr.TP_SKEW 7 = false := (Hub.bit_congr (h.rd_comparePair ..) 7).trans off
  simp only [rawCodeConvert, mode, samples, Nat.not_lt.mpr past, decide_false, Bool.or_self, Bool.false_eq_true, if_false,
    Hub.skewed_off _ off']
  rfl

end

/-! ### Codes of the house column -/

section
variable {h : Hub} {r n : Nat}

/-- A transfer that nothing holds back, and none before it, goes on at once. -/
theorem Hub.pushCode_free (e : FifoCode) (free : h.bit Addr.TP_XDELAY 16 = false) (empty : (h.spire n).fifo = []) :
    h.pushCode r n e = Hub.deliverCode n e h := by
  have held : h.spireHeld n = false := by rw [Hub.spireHeld, free, Bool.false_and]
  have drained : h.drainFifo r n = h := by
    rw [Hub.drainFifo, empty]
    rfl
  rw [Hub.pushCode, drained]
  simp only [held, Bool.false_eq_true, if_false]

/-- A sense reading's sample is made of the spire's marks and of the reading before a reversal. -/
theorem senseSample_congr {h' : Hub} (marks : ∀ t, h'.spireAt n t = h.spireAt n t) (sense : (h'.spire n).sense = (h.spire n).sense)
    (f : Nat) (code : Int) : h'.senseSample n f code = h.senseSample n f code := by
  simp only [Hub.senseSample, Hub.polarity, Hub.clampSuspect, marks, sense]

/-- Outside blank frames a sense reading is the code times the polarity. -/
theorem senseSample_code {f : Nat} (code : Int) (clear : (h.spireAt n (f * frameU)).blankEnd ≤ f * frameU) :
    (h.senseSample n f code).code = h.polarity n (f * frameU) * code := by
  simp only [Hub.senseSample, Nat.not_lt.mpr clear, if_false]

end

/-- The hub that shows a reading of the excitation's sense. -/
def senseTaken (n f : Nat) (code : Int) (h : Hub) : Hub :=
  (h.wr (Addr.EXC_SENSE n) (wd (unsigned 16 code))).modSpire n fun s => { s with senseRd := ((f, code) :: s.senseRd).take 8 }

section
variable (n : SpireIx) (f : Nat) (code : Int) (h : Hub)

theorem spire_senseTaken : (senseTaken n f code h).spire n =
    { h.spire n with senseRd := ((f, code) :: (h.spire n).senseRd).take 8 } := by
  rw [senseTaken, Hub.spire_modSpire_same]
  rfl

theorem rd_senseTaken_other (a : Nat) (ne : a ≠ Addr.EXC_SENSE n) : (senseTaken n f code h).rd a = h.rd a := by
  rw [senseTaken, Hub.rd_modSpire, Hub.rd_wr_other _ _ _ _ ne]

theorem spireAt_senseTaken (t : Nat) : (senseTaken n f code h).spireAt n t = h.spireAt n t := by
  have marks : (senseTaken n f code h).spireMarks n = h.spireMarks n := by
    simp only [Hub.spireMarks, Hub.bit, Hub.level2, Hub.fld, spire_senseTaken]
    rw [rd_senseTaken_other _ _ _ _ (Addr.EXC_STATUS n) (by simp only [Addr.EXC_STATUS, Addr.EXC_SENSE]; omega),
      rd_senseTaken_other _ _ _ _ (Addr.FE_CLAMP_NOW n) (by simp only [Addr.FE_CLAMP_NOW, Addr.EXC_SENSE]; omega),
      rd_senseTaken_other _ _ _ _ (Addr.SPIRE_STATUS n) (by simp only [Addr.SPIRE_STATUS, Addr.EXC_SENSE]; omega),
      rd_senseTaken_other _ _ _ _ (Addr.EXC_CFG n) (by simp only [Addr.EXC_CFG, Addr.EXC_SENSE]; omega),
      rd_senseTaken_other _ _ _ _ (Addr.SNS_TRIM_OFS n) (by simp only [Addr.SNS_TRIM_OFS, Addr.EXC_SENSE]; omega),
      rd_senseTaken_other _ _ _ _ (Addr.SNS_TRIM_GAIN n) (by simp only [Addr.SNS_TRIM_GAIN, Addr.EXC_SENSE]; omega)]
  rw [Hub.spireAt, marks, spire_senseTaken, Hub.spireAt]

variable {h}

/-- A sense code is shown and is the newest sense reading. -/
theorem houseCode_sense (r : Nat) (free : h.bit Addr.TP_XDELAY 16 = false) (empty : (h.spire n).fifo = []) :
    h.houseCode r n 32 f code =
      (senseTaken n f code h).modSpire n fun s => { s with sense := h.senseSample n f code :: s.sense } := by
  have apart : Addr.TP_XDELAY ≠ Addr.EXC_SENSE n := by simp only [Addr.TP_XDELAY, Addr.EXC_SENSE]; omega
  have pushed := Hub.pushCode_free (h := senseTaken n f code h) (r := r) (n := n) { slot := 32, frame := f, code := code }
    ((Hub.bit_congr (rd_senseTaken_other _ _ _ _ _ apart) 16).trans free) (by rw [spire_senseTaken]; exact empty)
  have sample := senseSample_congr (spireAt_senseTaken n f code h) (by rw [spire_senseTaken]) f code
  rw [← sample]
  exact pushed

end

/-! ### Injected conversions -/

theorem injTake_append {f : Nat} {code : Int} {e : InjEntry} {post : List InjEntry} (picks : e.converts f = true) :
    ∀ {pre : List InjEntry}, (∀ x ∈ pre, x.converts f = false) →
      injTake f code (pre ++ e :: post) = pre ++ { e with codes := e.codes ++ [(f, code)] } :: post
  | [], _ => by rw [List.nil_append, injTake, if_pos picks, List.nil_append]
  | x :: pre, older => by
    rw [List.cons_append, injTake, older x List.mem_cons_self, if_neg Bool.false_ne_true,
      injTake_append picks fun y mem => older y (List.mem_cons_of_mem x mem), List.cons_append]

/-- The entry that converts takes the code; a charge test's first conversion is noted with its channel. -/
theorem injConvert_spec {h : Hub} {n f : Nat} {code : Int} {e : InjEntry} {pre post : List InjEntry}
    (queue : (h.spire n).injQ = pre ++ e :: post) (older : ∀ x ∈ pre, x.converts f = false) (picks : e.converts f = true) :
    (injConvert n f code h).spires = (h.modSpire n fun s =>
      { s with injQ := pre ++ { e with codes := e.codes ++ [(f, code)] } :: post }).spires ∧
    (∀ c, e.who = .ctest c → e.codes = [] → ((injConvert n f code h).chan (chNo n c)).ctestAt = some f) ∧
    (injConvert n f code h).regs = h.regs := by
  have found : (h.spire n).injQ.find? (fun e => e.converts f) = some e := by
    rw [queue, List.find?_append, List.find?_eq_none.mpr fun x mem => by simp [older x mem], List.find?_cons, picks]
    rfl
  simp only [injConvert, found]
  rw [Hub.modSpire, queue, injTake_append picks older]
  split
  next c who codes =>
    refine ⟨rfl, fun d who' _ => ?_, rfl⟩
    obtain rfl : c = d := by simpa using who.symm.trans who'
    rw [Hub.chan_modChan_same]
  next other => exact ⟨rfl, fun c who codes => absurd codes (other c who), rfl⟩

end Sys2Proof.Machine

/-!
SUPPORT. Codes of the slot table on their way to their channels (R98, R100, R121), and the comparison of the incoming slice (R114):
the pairs it counts, and that a code's way leaves them.
-/

namespace Sys2Proof.Machine

open Sys2Proof.Safety

/-! ### Codes of the slot table -/

/-- The hub that has taken a channel's raw sample, its fast tap apart. -/
def rawTaken (n c f t : Nat) (i code : Int) (h : Hub) : Hub :=
  let s := h.rawSample n c f t i code
  let h := h.setChan (chNo n c) { h.chan (chNo n c) with raw := s :: (h.chan (chNo n c)).raw }
  if s.ovr then h.setBit (Addr.FE_OVR n) c true else h

section
variable (n c f t : Nat) (i code : Int) (h : Hub)

theorem rawTaken_same : sameButChan (fun a => a == Addr.FE_OVR n) (chNo n c) h (rawTaken n c f t i code h) ∧
    ((rawTaken n c f t i code h).chan (chNo n c)).raw = h.rawSample n c f t i code :: (h.chan (chNo n c)).raw := by
  unfold rawTaken
  dsimp only
  generalize h.rawSample n c f t i code = sample
  generalize made : h.setChan (chNo n c) { h.chan (chNo n c) with raw := sample :: (h.chan (chNo n c)).raw } = g
  have kept : sameButChan (fun a => a == Addr.FE_OVR n) (chNo n c) h g := by
    rw [← made]
    exact .modChan h (chNo n c) fun x => { x with raw := sample :: x.raw }
  have raw : (g.chan (chNo n c)).raw = sample :: (h.chan (chNo n c)).raw := by rw [← made, Hub.chan_setChan, if_pos rfl]
  split
  · exact ⟨kept.trans (.setBit _ _ _ _ _ (by simp)), raw⟩
  · exact ⟨kept, raw⟩

variable {n c f t i code h}

theorem sameButChan.filtCfg {p : Nat → Bool} {g : Nat} {h h' : Hub} (q : sameButChan p g h h') (n c : Nat) :
    h'.filtCfg n c = h.filtCfg n c := by
  rw [q.1]
  rfl

theorem deliverCode_table {e : FifoCode} {b : Bool} (entry : e.entry = some (c, b)) :
    Hub.deliverCode n e h =
      if (h.chan (chNo n c)).cIdx.isSome && decide (e.frame < (h.chan (chNo n c)).cFrame) then h
      else (rawTaken n c e.frame (h.heldAt n c e.frame b) (h.idxOf n c e.frame + (if h.wide n c && b then 1 else 0))
          e.code h).senArrive n c
        (h.rawSample n c e.frame (h.heldAt n c e.frame b) (h.idxOf n c e.frame + (if h.wide n c && b then 1 else 0))
          e.code).idx := by
  simp only [Hub.deliverCode, entry]
  rfl

section
variable {r k : Nat} {b : Bool} (table : k < 32) (entry : h.slotEntry n k = some (c, b))
include table entry

theorem convertCode_untaken (untaken : h.acquires f = false ∨ h.missingAt n c (h.heldAt n c f b) = true) :
    convertCode r n k f code h = h := by
  have stays : (!h.acquires f || h.missingAt n c (h.heldAt n c f b)) = true := by
    rcases untaken with e | e <;> simp [e]
  simp only [convertCode, Nat.not_le.mpr table, if_false, entry, stays, if_true]

theorem convertCode_taken (free : h.bit Addr.TP_XDELAY 16 = false) (empty : (h.spire n).fifo = []) (run : h.acquires f = true)
    (present : h.missingAt n c (h.heldAt n c f b) = false) (settled : (h.chan (chNo n c)).cIdx = none) :
    convertCode r n k f code h =
      (rawTaken n c f (h.heldAt n c f b) (h.idxOf n c f + (if h.wide n c && b then 1 else 0)) code h).senArrive n c
        (h.rawSample n c f (h.heldAt n c f b) (h.idxOf n c f + (if h.wide n c && b then 1 else 0)) code).idx := by
  have delivered := deliverCode_table (n := n) (h := h) (e := { slot := k, frame := f, code := code, entry := some (c, b) }) rfl
  rw [settled] at delivered
  simp only [convertCode, Nat.not_le.mpr table, if_false, entry, run, present, Bool.not_true, Bool.or_self, Bool.false_eq_true,
    Hub.pushCode_free _ free empty]
  exact delivered

end

end

/-! ### What a code leaves of a comparison -/

/-- The comparison so far: pairs, sum and peak. -/
def Spire.compared (x : Spire) : Nat × Int × Nat := (x.cmpPairs, x.cmpSum, x.cmpPeak)

/-- `h'` keeps the comparison of spire `n`, and the other spires. -/
structure PairsKept (n : Nat) (h h' : Hub) : Prop where
  others : ∀ j, j ≠ n → h'.spire j = h.spire j
  compared : (h'.spire n).compared = (h.spire n).compared

section
variable {n : Nat} {h h' h'' : Hub}

theorem PairsKept.of_spire (same : ∀ k, h'.spire k = h.spire k) : PairsKept n h h' := ⟨fun j _ => same j, by rw [same]⟩

theorem PairsKept.refl (h : Hub) : PairsKept n h h := .of_spire fun _ => rfl

theorem PairsKept.trans (q : PairsKept n h h') (q' : PairsKept n h' h'') : PairsKept n h h'' :=
  ⟨fun j ne => (q'.others j ne).trans (q.others j ne), q'.compared.trans q.compared⟩

/-- A change of the spire that leaves the comparison. -/
theorem PairsKept.modSpire (h : Hub) (g : Spire → Spire) (same : ∀ x, (g x).compared = x.compared) :
    PairsKept n h (h.modSpire n g) := by
  refine ⟨fun j ne => by rw [Hub.spire_modSpire, if_neg ne], ?_⟩
  rw [Hub.spire_modSpire_same, same]

variable (n)

theorem deliverCode_pairsKept (e : FifoCode) (h : Hub) : PairsKept n h (Hub.deliverCode n e h) := by
  cases entry : e.entry with
  | none =>
    simp only [Hub.deliverCode, entry]
    exact .modSpire _ _ fun _ => rfl
  | some p =>
    obtain ⟨c, b⟩ := p
    rw [deliverCode_table entry]
    split
    · exact .refl h
    · refine .of_spire fun k => ?_
      rw [(senArrive_rawKept ..).spire]
      obtain ⟨form, -⟩ := (rawTaken_same n c e.frame (h.heldAt n c e.frame b)
        (h.idxOf n c e.frame + (if h.wide n c && b then 1 else 0)) e.code h).1
      rw [form]
      rfl

theorem drainFifo_pairsKept (r : Nat) (h : Hub) : PairsKept n h (h.drainFifo r n) := by
  unfold Hub.drainFifo
  dsimp only
  split
  · exact .refl h
  · exact forIn'_keeps (PairsKept n h) (Hub.deliverCode n) (fun e g q => q.trans (deliverCode_pairsKept n e g)) _ _
      (.modSpire _ _ fun _ => rfl)

theorem pushCode_pairsKept (r : Nat) (e : FifoCode) (h : Hub) : PairsKept n h (h.pushCode r n e) := by
  have drained := drainFifo_pairsKept n r h
  unfold Hub.pushCode
  dsimp only
  generalize h.drainFifo r n = g at drained
  split
  · split
    · exact drained.trans (.of_spire fun k => (Hub.report_same _ _ _ _ _ _ (by decide)).spire k)
    · exact drained.trans (.modSpire _ _ fun _ => rfl)
  · exact drained.trans (deliverCode_pairsKept n e g)

theorem injConvert_pairsKept (f : Nat) (code : Int) (h : Hub) : PairsKept n h (injConvert n f code h) := by
  have taken : PairsKept n h (h.modSpire n fun s => { s with injQ := injTake f code s.injQ }) := .modSpire _ _ fun _ => rfl
  unfold injConvert
  dsimp only
  split
  · split
    · exact taken.trans (.of_spire fun _ => rfl)
    · exact taken
  · exact .refl h

theorem houseCode_pairsKept (r k f : Nat) (code : Int) (h : Hub) : PairsKept n h (h.houseCode r n k f code) := by
  have shown : ∀ a g, (∀ x, (g x).compared = x.compared) → PairsKept n h ((h.wr a (wd (unsigned 16 code))).modSpire n g) :=
    fun a g same => (.of_spire fun _ => rfl : PairsKept n h (h.wr a (wd (unsigned 16 code)))).trans (.modSpire _ g same)
  unfold Hub.houseCode
  split
  · refine PairsKept.trans ?_ (pushCode_pairsKept ..)
    exact shown _ _ fun _ => rfl
  · exact shown _ _ fun _ => rfl
  · exact .modSpire _ _ fun _ => rfl
  · split
    · exact .modSpire _ _ fun _ => rfl
    · exact .refl h
  · exact injConvert_pairsKept ..

/-- Wherever a code goes, it leaves the comparison. -/
theorem convertCode_pairsKept (r k f : Nat) (code : Int) (h : Hub) : PairsKept n h (convertCode r n k f code h) := by
  unfold convertCode
  split
  · exact houseCode_pairsKept ..
  · split
    · exact .refl h
    · split
      · exact .refl h
      · exact pushCode_pairsKept ..

end

/-! ### The pairs of a comparison -/

/-- The spire after a pair of results in 1/16 code, the outgoing slice's and the incoming one's. -/
def pairCounted (o i : Int) (x : Spire) : Spire :=
  { x with cmpPairs := x.cmpPairs + 1, cmpSum := x.cmpSum + (i - o), cmpPeak := max x.cmpPeak (i - o).natAbs }

/-- In the window a pair of the shadowed column is counted, unless one of the two is saturated. -/
theorem comparePair_shadowed {h : Hub} {n k f : Nat} {o i : Int} (off : h.bit Addr.TP_SKEW 7 = false)
    (shadow : h.rotState n = rotSHADOW) (column : h.target n = k / 8) (opened : (h.spire n).cmpFrom ≤ h.convFrame n k f)
    (still : h.convFrame n k f < (h.spire n).cmpFrom + 256) :
    h.comparePair n k f (o, i) = if saturated16 o || saturated16 i then h else h.modSpire n (pairCounted o i) := by
  have off' : (h.rd Addr.TP_SKEW).getLsbD 7 = false := off
  have shadow' : h.fld (Addr.ROT_STATUS n) 6 3 = 2 := shadow
  have column' : h.fld (Addr.ROT_STATUS n) 3 3 = k / 8 := column
  simp only [Hub.comparePair, shadow', column', opened, still, decide_true, Bool.and_self, if_true, Hub.skew16, off',
    Bool.false_and, Bool.false_eq_true, if_false]
  rfl

end Sys2Proof.Machine

/-!
SUPPORT. The reference check (R107) with the trim it requests (R155), and the rows of conversions put together, which settles O24.
-/

namespace Sys2Proof.Machine

open Sys2Proof.Safety

/-! ### The reference check -/

/-- The reference's average is more than 4 codes off its calibration value (R107). -/
def refFar (h : Hub) (n : Nat) : Prop :=
  64 * (h.spire n).refCount < (16 * (h.spire n).refSum -
    (vrefNominal + signed 16 (h.fld (Addr.VREF_CAL n) 0 16)) * ((h.spire n).refCount : Int)).natAbs

/-- The average starts anew. -/
def refRestarted (n : Nat) (h : Hub) : Hub := h.modSpire n fun s => { s with refSum := 0, refCount := 0 }

/-- The registers that show a reference off its calibration value, with the log's entry. -/
def refDrifted (r n : Nat) (h : Hub) : Hub :=
  ((refRestarted n h).setBit (Addr.SPIRE_STATUS n) 4 true).report r 11 0 15 (wd n)

section
variable {h : Hub} {r n : Nat}

theorem refCheckAverage_early (early : (h.spire n).refCount < 4096 ∨ h.sampling n = false) : refCheckAverage r n h = h := by
  have stays : (!h.sampling n || decide ((h.spire n).refCount < 4096)) = true := by
    rcases early with e | e <;> simp [e]
  simp only [refCheckAverage, stays, if_true]

variable (samples : h.sampling n = true) (full : 4096 ≤ (h.spire n).refCount)
include samples full

theorem refCheckAverage_near (near : ¬ refFar h n) : refCheckAverage r n h = refRestarted n h := by
  simp only [refCheckAverage, samples, Nat.not_lt.mpr full, Bool.not_true, decide_false, Bool.or_self, Bool.false_eq_true, if_false]
  exact if_neg near

theorem refCheckAverage_far (far : refFar h n) :
    refCheckAverage r n h =
      if h.bit (Addr.SPIRE_STATUS n) 4 then refDrifted r n h else trimRequest r n 2 (refDrifted r n h) := by
  simp only [refCheckAverage, samples, Nat.not_lt.mpr full, Bool.not_true, decide_false, Bool.or_self, Bool.false_eq_true, if_false]
  exact if_pos far

end

/-- A request for reason REF: with no request pending it is shown with the reason; it leaves the reference's average. -/
theorem trimRequest_ref (r : Nat) (n : SpireIx) (h : Hub) :
    (h.trimState n = trimNONE → (trimRequest r n 2 h).trimState n = trimPENDING ∧
      (trimRequest r n 2 h).fld (Addr.TRIM_STATUS n) 2 3 = 2 ∧ (trimRequest r n 2 h).bit Addr.CALC_TRIM_PEND n = true) ∧
    sameButSpire (fun a => a == Addr.TRIM_STATUS n || a == Addr.CALC_TRIM_PEND) n h (trimRequest r n 2 h) ∧
    ((trimRequest r n 2 h).spire n).refSum = (h.spire n).refSum ∧
    ((trimRequest r n 2 h).spire n).refCount = (h.spire n).refCount := by
  have apart : Addr.TRIM_STATUS n ≠ Addr.CALC_TRIM_PEND := by simp only [Addr.TRIM_STATUS, Addr.CALC_TRIM_PEND]; omega
  unfold trimRequest
  dsimp only
  split
  next =>
    generalize made : (h.wr (Addr.TRIM_STATUS n) (wd (trimPENDING + 4 * 2))).setBit Addr.CALC_TRIM_PEND n true = g
    have frame : sameButRegs (fun a => a == Addr.TRIM_STATUS n || a == Addr.CALC_TRIM_PEND) h g :=
      made ▸ (sameButRegs.wr h _ (by simp) _).trans (.setBit _ _ _ (by simp) _)
    have status : g.rd (Addr.TRIM_STATUS n) = 9#32 := by
      rw [← made, Hub.rd_setBit_other _ _ _ _ _ apart, Hub.rd_wr_same]
      rfl
    refine ⟨fun _ => ⟨?_, ?_, ?_⟩, (sameButSpire.of_regs frame n).trans (.modSpire g n _), ?_, ?_⟩
    · rw [Hub.trimState, Hub.fld_modSpire, Hub.fld, status]
      rfl
    · rw [Hub.fld_modSpire, Hub.fld, status]
      rfl
    · rw [Hub.bit, Hub.rd_modSpire, ← made]
      exact Hub.bit_setBit_same _ _ _ _ (by omega)
    · rw [Hub.spire_modSpire_same, frame.spire]
    · rw [Hub.spire_modSpire_same, frame.spire]
  next busy =>
    refine ⟨fun none => absurd none busy, ?_⟩
    rw [if_neg (by decide)]
    split
    · exact ⟨.modSpire h n _, by rw [Hub.spire_modSpire_same], by rw [Hub.spire_modSpire_same]⟩
    · exact ⟨⟨rfl, fun _ _ => rfl, fun _ _ => rfl⟩, rfl, rfl⟩

section
variable (r : Nat) (n : SpireIx) (h : Hub)

theorem refDrifted_spec :
    ((refDrifted r n h).spire n).refSum = 0 ∧ ((refDrifted r n h).spire n).refCount = 0 ∧
    (refDrifted r n h).bit (Addr.SPIRE_STATUS n) 4 = true ∧
    (refDrifted r n h).rd (Addr.ELOG_CLASS_CNT 11) = h.rd (Addr.ELOG_CLASS_CNT 11) + 1#32 ∧
    ∀ a, a ≠ Addr.SPIRE_STATUS n → inLog a = false → (refDrifted r n h).rd a = h.rd a := by
  have above : 0x41000000 ≤ Addr.SPIRE_STATUS n := by simp only [Addr.SPIRE_STATUS]; omega
  have logs := ((refRestarted n h).setBit (Addr.SPIRE_STATUS n) 4 true).report_same r 11 0 15 (wd n) (by decide)
  have spire : (refDrifted r n h).spire n = { h.spire n with refSum := 0, refCount := 0 } := by
    rw [refDrifted, logs.spire, Hub.spire_setBit, refRestarted, Hub.spire_modSpire_same]
  refine ⟨by rw [spire], by rw [spire], ?_, ?_, fun a ne log => ?_⟩
  · rw [refDrifted, Hub.bit_congr (logs.1 _ (inLog_above above))]
    exact Hub.bit_setBit_same _ _ _ _ (by decide)
  · rw [refDrifted, Hub.report_class _ _ _ _ _ _ (by decide), Hub.rd_setBit_other _ _ _ _ _ ?_, refRestarted, Hub.rd_modSpire]
    simp only [Addr.ELOG_CLASS_CNT]
    omega
  · rw [refDrifted, logs.1 a log, Hub.rd_setBit_other _ _ _ _ _ ne, refRestarted, Hub.rd_modSpire]

end

theorem execRefCheckAverage_spec {s : State} {n : SpireIx} (p : s.hub.sys.powered = true) (samples : s.hub.sampling n = true)
    (full : 4096 ≤ (s.hub.spire n).refCount) :
    ∃ t, exec (.refCheckAverage n) s = .next t ∧ (t.hub.spire n).refSum = 0 ∧ (t.hub.spire n).refCount = 0 ∧
      (refFar s.hub n → t.hub.bit (Addr.SPIRE_STATUS n) 4 = true ∧ logged 11 s t ∧
        (s.hub.bit (Addr.SPIRE_STATUS n) 4 = false → s.hub.trimState n = trimNONE →
          t.hub.trimState n = trimPENDING ∧ t.hub.fld (Addr.TRIM_STATUS n) 2 3 = 2 ∧ t.hub.bit Addr.CALC_TRIM_PEND n = true) ∧
        regsKept (fun a => a == Addr.SPIRE_STATUS n || a == Addr.TRIM_STATUS n || a == Addr.CALC_TRIM_PEND || inLog a) s t) ∧
      (¬ refFar s.hub n → onlyRegsSpire (fun _ => false) n s t) := by
  by_cases far : refFar s.hub n
  case neg =>
    refine ⟨_, s.onHub_eq (fun r h => refCheckAverage r n h) p (refCheckAverage_near samples full far), ?_, ?_,
      fun q => absurd q far, fun _ => (sameButSpire.modSpire s.hub n _).onlyRegsSpire⟩
    · rw [refRestarted, Hub.spire_modSpire_same]
    · rw [refRestarted, Hub.spire_modSpire_same]
  case pos =>
    have row := refCheckAverage_far (r := s.raw.toNat) samples full far
    obtain ⟨sum, count, drift, entry, others⟩ := refDrifted_spec s.raw.toNat n s.hub
    obtain ⟨requests, ⟨-, regs, -⟩, sumKept, countKept⟩ := trimRequest_ref s.raw.toNat n (refDrifted s.raw.toNat n s.hub)
    have ne : Addr.SPIRE_STATUS n ≠ Addr.TRIM_STATUS n ∧ Addr.SPIRE_STATUS n ≠ Addr.CALC_TRIM_PEND := by
      simp only [Addr.SPIRE_STATUS, Addr.TRIM_STATUS, Addr.CALC_TRIM_PEND]
      omega
    have above : 0x41000000 ≤ Addr.TRIM_STATUS n := by simp only [Addr.TRIM_STATUS]; omega
    have trim := Hub.fld_congr (others (Addr.TRIM_STATUS n) ne.1.symm (inLog_above above)) 0 2
    generalize refDrifted s.raw.toNat n s.hub = g at *
    cases was : s.hub.bit (Addr.SPIRE_STATUS n) 4 with
    | true =>
      rw [was, if_pos rfl] at row
      refine ⟨_, s.onHub_eq (fun r h => refCheckAverage r n h) p row, sum, count,
        fun _ => ⟨drift, entry, fun q => absurd q (by decide), fun a ha => ?_⟩, fun q => absurd far q⟩
      obtain ⟨⟨⟨own, -⟩, -⟩, log⟩ : ((a ≠ Addr.SPIRE_STATUS n ∧ a ≠ Addr.TRIM_STATUS n) ∧ a ≠ Addr.CALC_TRIM_PEND) ∧
        inLog a = false := by simpa using ha
      exact others a own log
    | false =>
      rw [was, if_neg Bool.false_ne_true] at row
      refine ⟨_, s.onHub_eq (fun r h => refCheckAverage r n h) p row, sumKept.trans sum, countKept.trans count,
        fun _ => ⟨?_, ?_, fun _ none => requests (trim.trans none), fun a ha => ?_⟩, fun q => absurd far q⟩
      · exact (Hub.bit_congr (regs _ (by simpa using ne)) 4).trans drift
      · refine (regs _ ?_).trans entry
        simp [Addr.ELOG_CLASS_CNT, Addr.TRIM_STATUS, Addr.CALC_TRIM_PEND]
        omega
      · obtain ⟨⟨⟨own, status⟩, pend⟩, log⟩ : ((a ≠ Addr.SPIRE_STATUS n ∧ a ≠ Addr.TRIM_STATUS n) ∧
          a ≠ Addr.CALC_TRIM_PEND) ∧ inLog a = false := by simpa using ha
        exact (regs a (by simpa using ⟨status, pend⟩)).trans (others a own log)

/-! ### The conversions -/

section
variable {s : State} {n : SpireIx} {k : SlotIx} {f : Nat} {code : Int}

/-- The row of a code answers what the code's way gives. -/
theorem execRawCodeConvert_eq {h : Hub} (p : s.hub.sys.powered = true) (mode : s.hub.mode ≠ .boot)
    (samples : (s.hub.spireAt n (f * frameU)).off = false) (past : f ≤ frameOf (s.hub.timeAt s.raw.toNat))
    (off : s.hub.bit Addr.TP_SKEW 7 = false) (way : convertCode s.raw.toNat n k f code s.hub = h) :
    exec (.rawCodeConvert n k f code none) s = .next { s with hub := h } :=
  s.onHub_eq (fun r h => rawCodeConvert r n k f code none h) p ((rawCodeConvert_single mode samples past off).trans way)

theorem convertCode_house {r : Nat} {h : Hub} (house : 32 ≤ k.val) : convertCode r n k f code h = h.houseCode r n k f code :=
  if_pos house

theorem convertCode_unlisted {r : Nat} {h : Hub} (unlisted : (k.val = 35 ∧ f % 2 = 1) ∨ (k.val < 32 ∧ h.slotEntry n k = none)) :
    convertCode r n k f code h = h := by
  rcases unlisted with ⟨temp, odd⟩ | ⟨table, entry⟩
  · rw [convertCode_house (by omega), temp]
    exact if_neg (by omega)
  · simp only [convertCode, Nat.not_le.mpr table, if_false, entry]

/-- What a sense code writes: EXC_SENSE, and the spire's readings. -/
theorem senseTaken_spec : ∃ h,
    ((senseTaken n f code s.hub).modSpire n fun x => { x with sense := s.hub.senseSample n f code :: x.sense }) = h ∧
    h.rd (Addr.EXC_SENSE n) = wd (unsigned 16 code) ∧
    h.spire n = { s.hub.spire n with senseRd := ((f, code) :: (s.hub.spire n).senseRd).take 8,
                                     sense := s.hub.senseSample n f code :: (s.hub.spire n).sense } ∧
    onlyRegsSpire (fun a => a == Addr.EXC_SENSE n) n s { s with hub := h } := by
  generalize s.hub.senseSample n f code = sample
  have taken : sameButSpire (fun a => a == Addr.EXC_SENSE n) n s.hub (senseTaken n f code s.hub) :=
    (sameButSpire.of_regs (.wr s.hub (Addr.EXC_SENSE n) (by simp) _) n).trans (.modSpire _ _ _)
  refine ⟨_, rfl, ?_, ?_, (taken.trans (.modSpire _ _ _)).onlyRegsSpire⟩
  · rw [Hub.rd_modSpire, senseTaken, Hub.rd_modSpire, Hub.rd_wr_same]
  · rw [Hub.spire_modSpire_same, spire_senseTaken]

/-- The injection slots are those from 36 on. -/
theorem houseCode_injection {r : Nat} {h : Hub} (slot : 36 ≤ k.val) : h.houseCode r n k f code = injConvert n f code h := by
  unfold Hub.houseCode
  split
  · omega
  · omega
  · omega
  · omega
  · rfl

variable (p : s.hub.sys.powered = true) (mode : s.hub.mode ≠ .boot) (samples : (s.hub.spireAt n (f * frameU)).off = false)
  (past : f ≤ frameOf (s.hub.timeAt s.raw.toNat)) (off : s.hub.bit Addr.TP_SKEW 7 = false)
include p mode samples past off

theorem execConvertSense_spec (slot : k.val = 32) (free : s.hub.bit Addr.TP_XDELAY 16 = false) (empty : (s.hub.spire n).fifo = []) :
    ∃ t, exec (.rawCodeConvert n k f code none) s = .next t ∧
      t.hub.rd (Addr.EXC_SENSE n) = BitVec.ofNat 32 (unsigned 16 code) ∧
      t.hub.spire n = { s.hub.spire n with senseRd := ((f, code) :: (s.hub.spire n).senseRd).take 8,
                                           sense := s.hub.senseSample n f code :: (s.hub.spire n).sense } ∧
      ((s.hub.spireAt n (f * frameU)).blankEnd ≤ f * frameU →
        (s.hub.senseSample n f code).code = s.hub.polarity n (f * frameU) * code) ∧
      onlyRegsSpire (fun a => a == Addr.EXC_SENSE n) n s t := by
  obtain ⟨h, taken, shown, newest, rest⟩ := senseTaken_spec (s := s) (n := n) (f := f) (code := code)
  have way : convertCode s.raw.toNat n k f code s.hub = h := by
    rw [convertCode_house (by omega), slot, houseCode_sense n f code s.raw.toNat free empty, taken]
  exact ⟨_, execRawCodeConvert_eq p mode samples past off way, shown, newest, fun clear => senseSample_code code clear, rest⟩

theorem execConvertForce_spec (slot : k.val = 33) :
    ∃ t, exec (.rawCodeConvert n k f code none) s = .next t ∧
      t.hub.rd (Addr.EXC_FORCE n) = BitVec.ofNat 32 (unsigned 16 code) ∧
      t.hub.spire n = { s.hub.spire n with forceRd := ((f, code) :: (s.hub.spire n).forceRd).take 8 } ∧
      onlyRegsSpire (fun a => a == Addr.EXC_FORCE n) n s t := by
  have way : convertCode s.raw.toNat n k f code s.hub =
      (s.hub.wr (Addr.EXC_FORCE n) (wd (unsigned 16 code))).modSpire n fun x =>
        { x with forceRd := ((f, code) :: x.forceRd).take 8 } := by
    rw [convertCode_house (by omega), slot]
    rfl
  refine ⟨_, execRawCodeConvert_eq p mode samples past off way, ?_, ?_,
    ((sameButSpire.of_regs (.wr s.hub (Addr.EXC_FORCE n) (by simp) _) n).trans (.modSpire _ _ _)).onlyRegsSpire⟩
  · rw [Hub.rd_modSpire, Hub.rd_wr_same]
    rfl
  · rw [Hub.spire_modSpire_same]
    rfl

/-- A code that only its spire's state takes up. -/
theorem execConvertSpire_spec {g : Spire → Spire} (way : convertCode s.raw.toNat n k f code s.hub = s.hub.modSpire n g) :
    ∃ t, exec (.rawCodeConvert n k f code none) s = .next t ∧ t.hub.spire n = g (s.hub.spire n) ∧
      onlyRegsSpire (fun _ => false) n s t :=
  ⟨_, execRawCodeConvert_eq p mode samples past off way, Hub.spire_modSpire_same .., (sameButSpire.modSpire _ _ _).onlyRegsSpire⟩

theorem execConvertInjected_spec (slot : 36 ≤ k.val) {pre post : List InjEntry} {e : InjEntry}
    (queue : (s.hub.spire n).injQ = pre ++ e :: post) (older : ∀ x ∈ pre, x.converts f = false) (held : e.hold ≤ f)
    (fresh : ∀ p ∈ e.codes, p.1 ≠ f) (wants : e.codes.length < e.needs) :
    ∃ t, exec (.rawCodeConvert n k f code none) s = .next t ∧
      t.hub.spire n = { s.hub.spire n with injQ := pre ++ { e with codes := e.codes ++ [(f, code)] } :: post } ∧
      (∀ c : ChanIx, e.who = .ctest c → e.codes = [] → (t.hub.chan (chNo n c)).ctestAt = some f) ∧
      (∀ j, j ≠ n.val → t.hub.spire j = s.hub.spire j) ∧ t.hub.regs = s.hub.regs ∧ t.hub.dome = s.hub.dome := by
  have picks : e.converts f = true := by
    rw [InjEntry.converts, decide_eq_true held, decide_eq_true wants, List.all_eq_true.mpr fun p mem => decide_eq_true (fresh p mem)]
    rfl
  obtain ⟨spires, tests, regs⟩ := injConvert_spec (code := code) queue older picks
  have spire : ∀ j, (injConvert n f code s.hub).spire j = (s.hub.modSpire n fun x =>
      { x with injQ := pre ++ { e with codes := e.codes ++ [(f, code)] } :: post }).spire j := fun j => by
    rw [Hub.spire, spires, Hub.spire]
  have way : convertCode s.raw.toNat n k f code s.hub = injConvert n f code s.hub := by
    rw [convertCode_house (by omega), houseCode_injection slot]
  refine ⟨_, execRawCodeConvert_eq p mode samples past off way, ?_, fun c who codes => tests c who codes, fun j ne => ?_, regs,
    injConvert_dome ..⟩
  · rw [spire, Hub.spire_modSpire_same]
  · rw [spire, Hub.spire_modSpire, if_neg ne]

section
variable {c : Nat} {b : Bool} (table : k.val < 32) (entry : s.hub.slotEntry n k = some (c, b))
include table entry

theorem execConvertTable_spec (free : s.hub.bit Addr.TP_XDELAY 16 = false) (empty : (s.hub.spire n).fifo = [])
    (run : s.hub.acquires f = true) (present : s.hub.missingAt n c (s.hub.heldAt n c f b) = false)
    (settled : (s.hub.chan (chNo n c)).cIdx = none) :
    ∃ t, exec (.rawCodeConvert n k f code none) s = .next t ∧
      (t.hub.chan (chNo n c)).raw =
        s.hub.rawSample n c f (s.hub.heldAt n c f b) (s.hub.idxOf n c f + (if s.hub.wide n c && b then 1 else 0)) code ::
          (s.hub.chan (chNo n c)).raw ∧
      (∀ g, g ≠ chNo n c → (t.hub.chan g).raw = (s.hub.chan g).raw) ∧
      ((s.hub.filtCfg n c).tap = false → onlyRegsChan (fun a => a == Addr.FE_OVR n) (chNo n c) s t) := by
  have way := convertCode_taken (r := s.raw.toNat) (code := code) table entry free empty run present settled
  obtain ⟨frame, newest⟩ := rawTaken_same n c f (s.hub.heldAt n c f b)
    (s.hub.idxOf n c f + (if s.hub.wide n c && b then 1 else 0)) code s.hub
  refine ⟨_, execRawCodeConvert_eq p mode samples past off way, ?_, fun g ne => ?_, fun untapped => ?_⟩
  · rw [(senArrive_rawKept ..).raw, newest]
  · rw [(senArrive_rawKept ..).raw, frame.2.2 g ne]
  · rw [Hub.senArrive_untapped _ _ _ _ ((congrArg FiltCfg.tap (frame.filtCfg n c)).trans untapped)]
    exact frame.onlyRegsChan

end

theorem execConvertPair_spec {o i : Int} (shadow : s.hub.rotState n = rotSHADOW) (column : s.hub.target n = k.val / 8)
    (opened : (s.hub.spire n).cmpFrom ≤ s.hub.convFrame n k f) (still : s.hub.convFrame n k f < (s.hub.spire n).cmpFrom + 256) :
    ∃ t, exec (.rawCodeConvert n k f code (some (o, i))) s = .next t ∧
      (if saturated16 o || saturated16 i then
        (t.hub.spire n).cmpPairs = (s.hub.spire n).cmpPairs ∧ (t.hub.spire n).cmpSum = (s.hub.spire n).cmpSum ∧
        (t.hub.spire n).cmpPeak = (s.hub.spire n).cmpPeak
      else
        (t.hub.spire n).cmpPairs = (s.hub.spire n).cmpPairs + 1 ∧ (t.hub.spire n).cmpSum = (s.hub.spire n).cmpSum + (i - o) ∧
        (t.hub.spire n).cmpPeak = max (s.hub.spire n).cmpPeak (i - o).natAbs) ∧
      (∀ j, j ≠ n.val → t.hub.spire j = s.hub.spire j) ∧ t.hub.dome = s.hub.dome := by
  have row := rawCodeConvert_pair (k := k) (code := code) mode samples past off (o, i)
  have counted := comparePair_shadowed (o := o) (i := i) off shadow column opened still
  obtain ⟨others, kept⟩ := convertCode_pairsKept n s.raw.toNat k f code (s.hub.comparePair n k f (o, i))
  have dome := rawCodeConvert_dome s.raw.toNat n k f code (some (o, i)) s.hub
  rw [row] at dome
  refine ⟨_, s.onHub_eq (fun r h => rawCodeConvert r n k f code (some (o, i)) h) p row, ?_, fun j ne => ?_, dome⟩
  all_goals generalize convertCode s.raw.toNat n k f code (s.hub.comparePair n k f (o, i)) = t at others kept
  all_goals rw [counted] at others kept
  · simp only [Spire.compared, Prod.mk.injEq] at kept
    split
    next sat =>
      rw [if_pos sat] at kept
      exact kept
    next unsat =>
      rw [if_neg unsat, Hub.spire_modSpire_same] at kept
      exact kept
  · rw [others j ne]
    split
    · rfl
    · rw [Hub.spire_modSpire, if_neg ne]

end

/-- Settles O24: a code goes to the house reading, to the injected conversion or to the channel that its slot names. -/
theorem conversionsReachTheirChannel : Obligations.ConversionsReachTheirChannel := by
  unfold Obligations.ConversionsReachTheirChannel
  refine ⟨fun s n k f code pair idle => s.onHub_same (f := fun r h => rawCodeConvert r n k f code pair h) (rawCodeConvert_idle idle),
    fun s n k f code p mode samples past off => ?_, fun s n p => ⟨fun early => ?_, fun samples full => ?_⟩⟩
  · refine ⟨fun slot free empty => execConvertSense_spec p mode samples past off slot free empty,
      fun slot => execConvertForce_spec p mode samples past off slot,
      fun slot => execConvertSpire_spec (g := fun x => { x with refSum := x.refSum + code, refCount := x.refCount + 1 })
        p mode samples past off ?_,
      fun slot even => execConvertSpire_spec (g := fun x => { x with tempSum := x.tempSum + code, tempCount := x.tempCount + 1 })
        p mode samples past off ?_,
      fun slot _ _ _ queue older held fresh wants =>
        execConvertInjected_spec p mode samples past off slot queue older held fresh wants,
      fun unlisted => execRawCodeConvert_eq p mode samples past off (convertCode_unlisted unlisted),
      fun _ _ table entry free empty run present settled =>
        execConvertTable_spec p mode samples past off table entry free empty run present settled,
      fun _ _ table entry untaken => execRawCodeConvert_eq p mode samples past off (convertCode_untaken table entry untaken),
      fun _ _ shadow column opened still => execConvertPair_spec p mode samples past off shadow column opened still⟩
    · rw [convertCode_house (by omega), slot]
      rfl
    · rw [convertCode_house (by omega), slot]
      exact if_pos even
  · exact s.onHub_same (f := fun r h => refCheckAverage r n h) (refCheckAverage_early early)
  · exact execRefCheckAverage_spec p samples full

end Sys2Proof.Machine

/-!
SUPPORT. Outputs of the filter islands (R121 to R144): the value and the flags that a window gives, the next output of a channel,
and the hub once it is made.
-/

namespace Sys2Proof.Machine

/-! ### Flags as bits -/

/-- The bits of the flag in position `k`, where condition `p` raises it. -/
theorem testBit_flag {v k : Nat} (e : v = 2 ^ k) (p : Prop) [Decidable p] (i : Nat) :
    (if p then v else 0).testBit i = (decide p && decide (k = i)) := by
  by_cases raised : p <;> simp [raised, e, Nat.testBit_two_pow]

/-- OVR, SUSPECT, UNSETTLED and HOLE added to the marks of raw samples (R142). -/
theorem testBit_addFlags (marks : Nat) (ovr susp uns : Bool) (hole : Prop) [Decidable hole] (i : Nat) :
    (marks ||| (if ovr then 1 else 0) ||| (if susp then 2 else 0) ||| (if uns then 4 else 0) |||
        (if hole then 8 else 0)).testBit i =
      (marks.testBit i || ovr && decide (0 = i) || susp && decide (1 = i) || uns && decide (2 = i) ||
        decide hole && decide (3 = i)) := by
  simp only [Nat.testBit_or, testBit_flag (show 1 = 2 ^ 0 from rfl), testBit_flag (show 2 = 2 ^ 1 from rfl),
    testBit_flag (show 4 = 2 ^ 2 from rfl), testBit_flag (show 8 = 2 ^ 3 from rfl), Bool.decide_eq_true]

/-- The marks of raw samples never give HOLE or ABSENT, and give BREAK where a sample carries it (R142). -/
theorem testBit_markFlags (w : List RawSample) :
    (markFlags w).testBit 3 = false ∧ (markFlags w).testBit 5 = w.any (·.brk) ∧ (markFlags w).testBit 7 = false := by
  unfold markFlags
  generalize w.any (·.ovr) = ovr
  generalize w.any (·.susp) = susp
  generalize w.any (·.rst) = rst
  generalize w.any (·.brk) = brk
  revert ovr susp rst brk
  decide

theorem markFlags_nil : markFlags [] = 0 := rfl

/-! ### Value and flags of a window -/

section
variable (h : Hub) (n c tb : Nat) (a : Int) (t : Nat) (w : List RawSample)

/-- The sense value of a window of a BRIDGE channel is below 10 % of the set level (R138). -/
def Hub.senseLow : Bool :=
  decide (h.modeAt n c tb = mBRIDGE) &&
    FP.lt ((h.spireAt n tb).senseVolts (h.filtCfg n c) a (h.senseWindow n c w)).abs (ofFrac b64 (h.spireAt n tb).level2 20)

theorem Hub.outputCore_hub :
    (h.outputCore n c tb a t w).2.2.2 = if h.senseLow n c tb a w then h.setBit (Addr.FI_STATUS n) 2 true else h := by
  by_cases bridge : bitsOf (h.chanAt n c tb).cfg 0 3 = mBRIDGE <;> simp [Hub.outputCore, Hub.senseLow, Hub.modeAt, bridge]

/-- Without a curve the value is the mean through TRIM and USER, of a BRIDGE divided by the sense value, or 0 (R135 to R138). -/
theorem Hub.outputCore_value (plain : h.afld (Addr.FCH_CFG n c) 10 6 = 0) :
    (h.outputCore n c tb a t w).1 =
      let x := h.chanAt n c tb
      let f := h.filtCfg n c
      let y := h.userStage n c (trimStage (ofFrac b64 (f.sums a w).1 (f.sums a w).2) x.ofs x.gain x.codeUnit)
      let s := (h.spireAt n tb).senseVolts f a (h.senseWindow n c w)
      if bitsOf x.cfg 0 3 ≠ mBRIDGE then y
      else if FP.lt s.abs (ofFrac b64 (h.spireAt n tb).level2 20) then .fin false 0 0 else FP.div b64 y s := by
  by_cases bridge : bitsOf (h.chanAt n c tb).cfg 0 3 = mBRIDGE <;> simp [Hub.outputCore, Hub.curveStage, plain, bridge]

/-- HOLE, BREAK, ABSENT and SUSPECT of a window (R129, R138, R142). -/
theorem Hub.outputCore_flags :
    (h.outputCore n c tb a t w).2.1.testBit 3 =
      decide (((h.filtCfg n c).sums a w).2 < (h.filtCfg n c).fullWeight) ∧
    (bitsOf (h.chanAt n c tb).cfg 0 3 ≠ mBRIDGE → (h.outputCore n c tb a t w).2.1.testBit 5 = w.any (·.brk)) ∧
    (h.outputCore n c tb a t w).2.1.testBit 7 = false ∧
    (h.senseLow n c tb a w = true → (h.outputCore n c tb a t w).2.1.testBit 1 = true) := by
  refine ⟨?_, fun other => ?_, ?_, fun low => ?_⟩
  all_goals rw [Hub.outputCore, testBit_addFlags, Nat.testBit_or]
  · simp [testBit_markFlags]
  · simp [testBit_markFlags, other, markFlags_nil]
  · simp [testBit_markFlags]
  · obtain ⟨bridge, below⟩ := Bool.and_eq_true_iff.mp low
    rw [decide_eq_true_eq, Hub.modeAt] at bridge
    simp [bridge, below]

end

/-! ### The next output of a channel -/

section
variable (h : Hub) (n c : Nat)

/-- The grid position of the next output (R468). -/
def Hub.nextPos : Int := ((h.chan (chNo n c)).nextK : Int) + (h.chan (chNo n c)).jShift

/-- First raw index of the next window (R123). -/
def Hub.nextFirst : Int := (h.filtCfg n c).winStart (h.nextPos n c)

/-- Last raw index of the next window (R123). -/
def Hub.nextLast : Int := h.nextFirst n c + ((h.filtCfg n c).span : Nat)

/-- The present samples of the next window. -/
def Hub.nextWindow : List RawSample := windowOf (h.chan (chNo n c)).raw (h.nextFirst n c) (h.nextLast n c)

/-- The instant of the next output (R144). -/
def Hub.nextInstant : Nat := (h.filtCfg n c).instant (h.epoch n) (h.nextPos n c)

/-- The instant at which the last raw index of the next window has come (R121, R123). -/
def Hub.nextDue : Nat := (h.filtCfg n c).rawInstant (h.epoch n) (h.nextLast n c + ((h.filtCfg n c).cdelay : Nat))

/-- What the next window gives before formatting. -/
def Hub.nextCore : FP × Nat × Bool × Hub :=
  h.outputCore n c (h.idxHeld n c (h.nextLast n c)) (h.nextFirst n c) (h.nextInstant n c) (h.nextWindow n c)

/-- The next output comes after a repair, or a clearing of the paths, that its window reaches back to (R142). -/
def Hub.nextUnsettled : Bool :=
  ((h.chan (chNo n c)).repairs.any fun p => decide (p.1 ≤ h.nextFirst n c)) ||
    ((h.chan (chNo n c)).cIdx.map fun i => decide (h.nextFirst n c < i)).getD false

/-- The next output's value in its format, and whether the format limits it (R140). -/
def Hub.nextWord : Word × Bool :=
  formatValue (h.afld (Addr.FCH_CFG n c) 8 2) (signed 8 (h.afld (Addr.FCH_DELAY n c) 16 8)) (h.nextCore n c).2.2.1
    (h.nextCore n c).1

/-- Word and flags of the next output, and the hub that has worked them out; HOLE and ABSENT without a present sample. -/
def Hub.nextResult : Word × Nat × Hub :=
  if (h.nextWindow n c).isEmpty then (0#32, 136, h)
  else ((h.nextWord n c).1,
    (h.nextCore n c).2.1 ||| (if (h.nextWord n c).2 then 1 else 0) ||| (if h.nextUnsettled n c then 4 else 0),
    (h.nextCore n c).2.2.2)

/-- The next output of a channel (R140 to R144). -/
def Hub.nextOutput : Output :=
  { k := (h.chan (chNo n c)).nextK
    value := packWord (h.afld (Addr.FCH_CFG n c) 8 2) (h.nextResult n c).1 (h.nextResult n c).2.1
    flags := (h.nextResult n c).2.1
    instant := h.nextInstant n c
    fmt := h.afld (Addr.FCH_CFG n c) 8 2
    lsb := signed 8 (h.afld (Addr.FCH_DELAY n c) 16 8) }

/-- The next output as an element of its channel's stream (R141 to R144). -/
def Hub.nextElem : LedElem :=
  let o := h.nextOutput n c
  let f := h.filtCfg n c
  { stream := chNo n c, kind := .plain, seq := some o.k, inst := o.instant, fmt := o.fmt, flags := o.flags, value := o.value,
    epochS := f.instant (h.epoch n) (h.chan (chNo n c)).jShift, period := f.ratio * f.period, lsb := unsigned 8 o.lsb,
    chan := chNo n c }

end

/-- A channel that has made output `o` of a window that starts at raw index `a`. -/
def Chan.withOutput (a : Int) (o : Output) (x : Chan) : Chan :=
  { x with
    nextK := x.nextK + 1, lastInstant := some o.instant, outs := { o with k := x.nextK } :: x.outs
    repairs := (x.repairs.map fun p => if p.1 ≤ a then (p.1, p.2 - 1) else p).filter fun p => p.2 ≠ 0 }

/-- A 32-bit counter that counts one more where `p` holds. -/
def Hub.countIf (h : Hub) (p : Bool) (a : Nat) : Hub := if p then h.incSat a 0 32 1 else h

/-- The counters of holes, absent and limited outputs count an output with the given flags (R142). -/
def Hub.countFlags (h : Hub) (n flags : Nat) : Hub :=
  ((h.countIf (flags.testBit 3) (Addr.FI_HOLE_CNT n)).countIf (flags.testBit 7) (Addr.FI_ABSENT_CNT n)).countIf
    (flags.testBit 0) (Addr.FI_OVR_CNT n)

/-- The hub with the next output of a channel made and counted, its ways to the Ledger and to STAGE apart. -/
def outputMade (n c : Nat) (h : Hub) : Hub :=
  ((h.nextResult n c).2.2.modChan (chNo n c) (Chan.withOutput (h.nextFirst n c) (h.nextOutput n c))).countFlags n
    (h.nextResult n c).2.1

/-- An output of channel `g` on its way to the Ledger, as element `e` where its stream is a plain one, and to STAGE. -/
def Hub.handOutput (h : Hub) (g : Nat) (e : LedElem) (o : Output) : Hub :=
  (if h.streamOn g && h.streamKind g = .plain then h.toLedger e else h).feedPorts 1 g
    { value := o.value, flags := o.flags, k := o.k }

theorem Hub.handOutput_frame (h : Hub) (g : Nat) (e : LedElem) (o : Output) :
    ∃ led stageIn, h.handOutput g e o = { h with led := led, stageIn := stageIn } := by
  rw [Hub.handOutput, Hub.feedPorts_same]
  split
  · exact ⟨_, _, rfl⟩
  · exact ⟨_, _, rfl⟩

section
variable {h : Hub} {now n c : Nat}

/-- Out of a run, and before the instant of the last index, no output is made. -/
theorem Hub.outputBy_wait (waits : h.running = false ∨ now < h.nextDue n c) : h.outputBy now n c = h := by
  refine if_pos (?_ : (!h.running || decide (now < h.nextDue n c) || h.codeWaits n c (h.nextLast n c)) = true)
  rcases waits with off | early
  · simp [off]
  · simp [early]

/-- An output that is due is made, and handed to the Ledger and to STAGE. -/
theorem Hub.outputBy_due (run : h.running = true) (due : h.nextDue n c ≤ now)
    (through : h.codeWaits n c (h.nextLast n c) = false) :
    ∃ led stageIn, h.outputBy now n c = { outputMade n c h with led := led, stageIn := stageIn } := by
  have go : ¬(!h.running || decide (now < h.nextDue n c) || h.codeWaits n c (h.nextLast n c)) = true := by
    simp [run, through, due]
  have made : h.outputBy now n c = (outputMade n c h).handOutput (chNo n c) (h.nextElem n c) (h.nextOutput n c) :=
    (if_neg go).trans rfl
  rw [made]
  exact Hub.handOutput_frame ..

end

/-! ### Counting an output -/

section
variable (h : Hub) (p : Bool) (a b : Nat)

/-- A counter of 32 bits saturates. -/
theorem Hub.rd_incSat_word (k : Nat) :
    (h.incSat a 0 32 k).rd a = BitVec.ofNat 32 (min ((h.rd a).toNat + k) (2 ^ 32 - 1)) := by
  rw [Hub.incSat, Hub.rd_setFld, if_pos rfl, putBits_zero_all, Hub.fld, bitsOf, pow_zero, Nat.div_one,
    Nat.mod_eq_of_lt (h.rd a).isLt]

theorem Hub.chan_countIf (g : Nat) : (h.countIf p a).chan g = h.chan g := by
  cases p <;> rfl

theorem Hub.rd_countIf_other (ne : b ≠ a) : (h.countIf p a).rd b = h.rd b := by
  cases p with
  | false => rfl
  | true => exact Hub.rd_incSat_other _ _ _ _ _ _ ne

end

section
variable (h : Hub) (n flags : Nat)

theorem Hub.chan_countFlags (g : Nat) : (h.countFlags n flags).chan g = h.chan g := by
  simp only [Hub.countFlags, Hub.chan_countIf]

theorem Hub.rd_countFlags_status : (h.countFlags n flags).rd (Addr.FI_STATUS n) = h.rd (Addr.FI_STATUS n) := by
  rw [Hub.countFlags, Hub.rd_countIf_other, Hub.rd_countIf_other, Hub.rd_countIf_other] <;>
    simp [Addr.FI_STATUS, Addr.FI_HOLE_CNT, Addr.FI_ABSENT_CNT, Addr.FI_OVR_CNT]

/-- An output without a present sample is counted as a hole and as absent. -/
theorem Hub.countFlags_absent :
    h.countFlags n 136 = (h.incSat (Addr.FI_HOLE_CNT n) 0 32 1).incSat (Addr.FI_ABSENT_CNT n) 0 32 1 := rfl

end

/-! ### The output made -/

section
variable (h : Hub) (n c : Nat)

theorem Hub.nextResult_absent (empty : h.nextWindow n c = []) : h.nextResult n c = (0#32, 136, h) := by
  rw [Hub.nextResult, empty]
  rfl

theorem Hub.nextResult_present (present : h.nextWindow n c ≠ []) : h.nextResult n c = ((h.nextWord n c).1,
    (h.nextCore n c).2.1 ||| (if (h.nextWord n c).2 then 1 else 0) ||| (if h.nextUnsettled n c then 4 else 0),
    (h.nextCore n c).2.2.2) :=
  if_neg (by simpa using present)

theorem Hub.chan_nextResult (g : Nat) : (h.nextResult n c).2.2.chan g = h.chan g := by
  by_cases empty : h.nextWindow n c = []
  · rw [h.nextResult_absent n c empty]
  · rw [h.nextResult_present n c empty, Hub.nextCore, Hub.outputCore_hub]
    split <;> rfl

theorem Hub.nextUnsettled_eq : h.nextUnsettled n c =
    (((h.chan (chNo n c)).repairs.any fun p => decide (p.1 ≤ h.nextFirst n c)) ||
      (h.chan (chNo n c)).cIdx.any fun i => decide (h.nextFirst n c < i)) := by
  rw [Hub.nextUnsettled]
  cases (h.chan (chNo n c)).cIdx <;> rfl

/-- A limit of the format and an UNSETTLED of the paths touch no other flag. -/
theorem testBit_formatFlags (flags i : Nat) (ovr uns : Bool) (apart : i ≠ 0 ∧ i ≠ 2) :
    (flags ||| (if ovr then 1 else 0) ||| (if uns then 4 else 0)).testBit i = flags.testBit i := by
  rw [Nat.testBit_or, Nat.testBit_or, testBit_flag (show 1 = 2 ^ 0 from rfl), testBit_flag (show 4 = 2 ^ 2 from rfl)]
  simp [apart.1.symm, apart.2.symm]

/-- An output of present samples holds its value and the flags worked out of them (R140, R142). -/
theorem Hub.nextOutput_present (present : h.nextWindow n c ≠ []) :
    (h.nextOutput n c).value = packWord (h.nextOutput n c).fmt (h.nextWord n c).1 (h.nextOutput n c).flags ∧
    (h.nextOutput n c).flags =
      (h.nextCore n c).2.1 ||| (if (h.nextWord n c).2 then 1 else 0) ||| (if h.nextUnsettled n c then 4 else 0) := by
  simp only [Hub.nextOutput, h.nextResult_present n c present, and_self]

theorem Hub.testBit_nextOutput (present : h.nextWindow n c ≠ []) (i : Nat) (apart : i ≠ 0 ∧ i ≠ 2) :
    (h.nextOutput n c).flags.testBit i = (h.nextCore n c).2.1.testBit i := by
  rw [(h.nextOutput_present n c present).2]
  exact testBit_formatFlags _ _ _ _ apart

theorem Hub.nextOutput_absent (empty : h.nextWindow n c = []) : (h.nextOutput n c).flags = 136 := by
  simp only [Hub.nextOutput, h.nextResult_absent n c empty]

theorem chan_outputMade (g : Nat) : (outputMade n c h).chan g =
    if g = chNo n c then (h.chan g).withOutput (h.nextFirst n c) (h.nextOutput n c) else h.chan g := by
  rw [outputMade, Hub.chan_countFlags, Hub.chan_modChan, Hub.chan_nextResult, Hub.chan_nextResult]
  split
  · next same => rw [same]
  · rfl

/-- A window without a present sample is counted as a hole and as absent (R129, R142). -/
theorem rd_outputMade_absent (empty : h.nextWindow n c = []) :
    (outputMade n c h).rd (Addr.FI_HOLE_CNT n) =
      BitVec.ofNat 32 (min ((h.rd (Addr.FI_HOLE_CNT n)).toNat + 1) (2 ^ 32 - 1)) ∧
    (outputMade n c h).rd (Addr.FI_ABSENT_CNT n) =
      BitVec.ofNat 32 (min ((h.rd (Addr.FI_ABSENT_CNT n)).toNat + 1) (2 ^ 32 - 1)) := by
  have apart : Addr.FI_HOLE_CNT n ≠ Addr.FI_ABSENT_CNT n := by simp only [Addr.FI_HOLE_CNT, Addr.FI_ABSENT_CNT]; omega
  rw [outputMade, h.nextResult_absent n c empty, Hub.countFlags_absent]
  constructor
  · rw [Hub.rd_incSat_other _ _ _ _ _ _ apart, Hub.rd_incSat_word, Hub.rd_modChan]
  · rw [Hub.rd_incSat_word, Hub.rd_incSat_other _ _ _ _ _ _ apart.symm, Hub.rd_modChan]

/-- A sense value below 10 % of the level sets SENSE_LOW (R138). -/
theorem bit_outputMade_senseLow (present : h.nextWindow n c ≠ [])
    (low : h.senseLow n c (h.idxHeld n c (h.nextLast n c)) (h.nextFirst n c) (h.nextWindow n c) = true) :
    (outputMade n c h).bit (Addr.FI_STATUS n) 2 = true := by
  rw [Hub.bit, outputMade, Hub.rd_countFlags_status, Hub.rd_modChan, h.nextResult_present n c present, Hub.nextCore,
    Hub.outputCore_hub, if_pos low]
  exact Hub.bit_setBit_same _ _ _ _ (by decide)

end

/-! ### The statement -/

/-- Hub `g` is `h` after the next output of the channel: it is the channel's newest, and what `outputMade` does to the registers and
to the channels is all that happened to them. -/
structure OutputDone (n c : Nat) (h g : Hub) : Prop where
  outs : (g.chan (chNo n c)).outs = h.nextOutput n c :: (h.chan (chNo n c)).outs
  next : (g.chan (chNo n c)).nextK = (h.chan (chNo n c)).nextK + 1
  others : ∀ k, k ≠ chNo n c → g.chan k = h.chan k
  regs : ∀ a, g.rd a = (outputMade n c h).rd a

/-- An output's ways to the Ledger and to STAGE touch no channel and no register. -/
theorem outputDone_handed (n c : Nat) (h : Hub) (led : Ledger) (stageIn : List (Nat × Nat × PortElem)) :
    OutputDone n c h { outputMade n c h with led := led, stageIn := stageIn } := by
  have chan := chan_outputMade h n c
  refine ⟨?_, ?_, fun k ne => (chan k).trans (if_neg ne), fun a => rfl⟩
  · exact congrArg Chan.outs ((chan _).trans (if_pos rfl))
  · exact congrArg Chan.nextK ((chan _).trans (if_pos rfl))

section
variable {h : Hub} {r n c : Nat} (idle : (h.spire n).fifo = [])
include idle

/-- With every code in the island FILTER_OUTPUT makes the next output only. -/
theorem filterOutput_idle : filterOutput r n c h = h.outputBy (h.timeAt r) n c := by
  rw [filterOutput, Hub.drainFifo, idle]
  rfl

theorem filterOutput_wait (waits : h.running = false ∨ h.timeAt r < h.nextDue n c) : filterOutput r n c h = h := by
  rw [filterOutput_idle idle, Hub.outputBy_wait waits]

theorem filterOutput_due (run : h.running = true) (due : h.nextDue n c ≤ h.timeAt r) :
    OutputDone n c h (filterOutput r n c h) := by
  have through : h.codeWaits n c (h.nextLast n c) = false := by
    rw [Hub.codeWaits, idle]
    rfl
  obtain ⟨led, stageIn, made⟩ := Hub.outputBy_due run due through
  rw [filterOutput_idle idle, made]
  exact outputDone_handed ..

end

/-- Settles O28: the next output is made exactly once its last raw index has come in a run, of the window's present samples. -/
theorem filterOutputs : Obligations.FilterOutputs := by
  unfold Obligations.FilterOutputs
  refine ⟨fun s n c p run idle => ?_, fun s n c p off idle => ?_⟩
  · refine ⟨_, s.onHub_powered (fun r h => filterOutput r n c h) p, ?_⟩
    by_cases due : s.hub.nextDue n c ≤ s.hub.timeAt s.raw.toNat
    · have made := filterOutput_due idle run due
      refine ⟨⟨fun _ => ⟨s.hub.nextOutput n c, made.outs, made.next, rfl, rfl, rfl, rfl, fun present => ?_, fun empty => ?_⟩,
        fun early => absurd due early⟩, fun g ne => congrArg Chan.outs (made.others g ne),
        filterOutput_dome ..⟩
      · obtain ⟨hole, brk, absent, suspect⟩ := Hub.outputCore_flags s.hub n c (s.hub.idxHeld n c (s.hub.nextLast n c))
          (s.hub.nextFirst n c) (s.hub.nextInstant n c) (s.hub.nextWindow n c)
        have flag := s.hub.testBit_nextOutput n c present
        obtain ⟨value, flags⟩ := s.hub.nextOutput_present n c present
        rw [Hub.nextUnsettled_eq] at flags
        refine ⟨(flag 7 (by decide)).trans absent, (flag 3 (by decide)).trans hole, flags, value,
          fun other => (flag 5 (by decide)).trans (brk other), fun plain => Hub.outputCore_value _ _ _ _ _ _ _ plain,
          fun bridge below => ?_⟩
        have low : s.hub.senseLow n c (s.hub.idxHeld n c (s.hub.nextLast n c)) (s.hub.nextFirst n c)
            (s.hub.nextWindow n c) = true := Bool.and_eq_true_iff.mpr ⟨decide_eq_true bridge, below⟩
        exact ⟨(flag 1 (by decide)).trans (suspect low),
          (Hub.bit_congr (made.regs _) 2).trans (bit_outputMade_senseLow _ _ _ present low)⟩
      · obtain ⟨holes, absents⟩ := rd_outputMade_absent s.hub n c empty
        exact ⟨s.hub.nextOutput_absent n c empty, (made.regs _).trans holes, (made.regs _).trans absents⟩
    · rw [filterOutput_wait idle (.inr (Nat.lt_of_not_le due))]
      exact ⟨⟨fun come => absurd come due, fun _ => ⟨rfl, rfl⟩⟩, fun _ _ => rfl, rfl⟩
  · refine ⟨_, s.onHub_powered (fun r h => filterOutput r n c h) p, ?_⟩
    rw [filterOutput_wait idle (.inl off)]
    exact ⟨rfl, rfl⟩

end Sys2Proof.Machine
